-- ==== Sys2Proof/Word.lean ====
section
/-! DEFINITION. The word types of the block (R14, R19): a register is 32 bits, a Tray word and a core register 64. -/
namespace Sys2Proof

/-- One byte of a buffer in DDR, staging, MRAM or flash. -/
abbrev Byte := BitVec 8
/-- One register or RAM word (R14, R19). -/
abbrev Word := BitVec 32
/-- One 64-bit word of a Tray (R526) or of a core register (R355). -/
abbrev Dword := BitVec 64

/-- The two cartridges of the module (R21). -/
inductive Half where
  | a
  | b
  deriving DecidableEq, Repr

/-- A return frame as received on a drive link (R195): its bytes between start and end of frame, whether a code error fell
within it (R193), and the arrival of its last character in ns after the tick. -/
structure RetFrame where
  bytes : List Byte
  codeErr : Bool
  time : Nat
  deriving DecidableEq, Repr

/-- A character of a drive link (R193): the special characters K28.5, K28.1, K27.7 and K29.7, or a data character. -/
inductive LinkChar where
  | k28_5
  | k28_1
  | k27_7
  | k29_7
  | data (b : Byte)
  deriving DecidableEq, Repr

/-- A channel's user calibration as a card's memory holds it (R260): the mode it belongs to, gain and offset (binary32). -/
structure CardCal where
  mode : Nat
  gain : Word
  off : Word
  deriving DecidableEq, Repr

/-- A trunk frame (R424): its CRC-32 as it arrived, its header fields and its payload words. -/
structure TrkFrame where
  crc : Word
  kind : Nat
  src : Nat
  dst : Nat
  flags : Nat
  seq : Nat
  tag : Nat
  hops : Nat
  nonce : Nat
  cycle : Nat
  payload : List Word
  deriving DecidableEq, Repr

/-- A CAN frame on the bus (R482, R491): extended, remote, identifier, FDF, BRS, ESI, DLC code and payload bytes. -/
structure CanFrame where
  ide : Bool
  rtr : Bool
  id : Nat
  fdf : Bool
  brs : Bool
  esi : Bool
  dlc : Nat
  payload : List Byte
  deriving DecidableEq, Repr

end Sys2Proof
end

