-- ==== Sys2Proof/Syntax.lean ====
section
/-! DEFINITION. The commands of the block: one constructor for each row of the opcode table, with what the command carries.
Indices are numbers; measured and received quantities (a reading, a received frame, an instant's judgement) are the command's operands. -/
namespace Sys2Proof

/-- What a dump instant of a half's Tally brings (R72, R73): whether the previous record is still being written. -/
structure DumpTick where
  half : Half
  busy : Bool
  deriving DecidableEq, Repr
/-- What a slab's monitors report at a clock step (R176): the voltage they call for in steps of 5 mV above 0.70 V,
the lowest slack in units of 4 ps, and the power in W. -/
structure SlabMeas where
  volt : Nat
  slack : Nat
  power : Nat
  deriving DecidableEq, Repr
/-- A link boundary with the code errors that the link's receiver met outside frames since the last one (R193, R197). -/
structure LinkSync where
  link : Nat
  errs : Nat
  deriving DecidableEq, Repr

/-- The commands (spec/opcode_table.json, row by row). -/
inductive Instr where
  /-- REGISTER_WRITE (R44). -/
  | registerWrite (h : Half) (master : Nat) (addr : Nat) (val : Word)
  /-- DECK_ITEM_ARRIVE (R28). -/
  | deckItemArrive (h : Half)
  /-- CROSS_HALF_READ (R43). -/
  | crossHalfRead (h : Half) (core : Nat) (addr : Nat)
  /-- LANE_TRAINING_FAIL (R26). -/
  | laneTrainingFail (h : Half) (deck : Bool) (from_deck : Bool) (lane : Nat)
  /-- ECC_DOUBLE_ERROR (R20). -/
  | eccDoubleError (h : Half) (e : Nat) (table : Bool) (clean : Nat)
  /-- SCRUBBER_PASS (R20). -/
  | scrubberPass (h : Half) (slab : Nat) (corrected : List (Nat × Nat))
  /-- CORE_PARITY (R20). -/
  | coreParity (h : Half) (core : Nat)
  /-- CMT_STROBE (R51). -/
  | cmtStrobe (h : Half) (groups : Word)
  /-- UNIT_COMMIT (R50). -/
  | unitCommit (h : Half) (g : Nat) (idx : Nat)
  /-- CMT_ABANDON (R54). -/
  | cmtAbandon (h : Half) (groups : Word)
  /-- CMT_LOCK (R57). -/
  | cmtLock (h : Half) (groups : Word)
  /-- CMT_FAULT_FLAG_CLEAR (R60). -/
  | cmtFaultFlagClear (h : Half) (reg : Nat) (val : Word)
  /-- EVC_PEND_CLEAR (R62). -/
  | evcPendClear (h : Half) (k : Nat) (val : Word) (again : Word)
  /-- SNAP_START (R64). -/
  | snapStart (h : Half) (cmd : Word)
  /-- SNAPSHOT_T (R65). -/
  | snapshotT (h : Half)
  /-- SNAPSHOT_DONE (R66). -/
  | snapshotDone (h : Half)
  /-- TALLY_CTR_LO_READ (R71). -/
  | tallyCtrLoRead (h : Half) (core : Nat) (n : Nat)
  /-- TALLY_CTR_LO_WRITE (R71). -/
  | tallyCtrLoWrite (h : Half) (n : Nat) (val : Word)
  /-- TALLY_WRAP (R70). -/
  | tallyWrap (h : Half) (n : Nat)
  /-- TALLY_DUMP (R72). -/
  | tallyDump (d : DumpTick)
  /-- TIME_NOW_LO_READ (R508). -/
  | timeNowLoRead (h : Half) (core : Nat)
  /-- IMAGE_CHECK (R83). -/
  | imageCheck (h : Half)
  /-- IMAGE_CHECK_DONE (R83). -/
  | imageCheckDone (h : Half)
  /-- IMAGE_STORE (R99). -/
  | imageStore (h : Half)
  /-- IMAGE_STORE_DONE (R99). -/
  | imageStoreDone (h : Half) (ok : Bool)
  /-- IMAGE_PARTNER_COPY (R100). -/
  | imagePartnerCopy (h : Half)
  /-- PARTNER_COPY_DONE (R100). -/
  | partnerCopyDone (h : Half)
  /-- MIRROR_LINK_UP (R100). -/
  | mirrorLinkUp
  /-- REGION_PAIR_MARK (R93). -/
  | regionPairMark (h : Half) (r : Nat)
  /-- PAIR_TIMEOUT (R93). -/
  | pairTimeout (h : Half) (r : Nat)
  /-- REGION_COMMIT (R94). -/
  | regionCommit (h : Half) (r : Nat)
  /-- START_IMAGE_LOADED (R98). -/
  | startImageLoaded (h : Half) (len : Nat)
  /-- SAMPLE_TICK (R115). -/
  | sampleTick (h : Half) (q : Nat)
  /-- OVERRUN_FAULT (R135). -/
  | overrunFault (h : Half) (q : Nat)
  /-- MEAS_WORD_ARRIVE (R120). -/
  | measWordArrive (h : Half)
  /-- IN_WAIT_EXPIRE (R120). -/
  | inWaitExpire (h : Half) (q : Nat)
  /-- PREPARE_PHASE_END (R133). -/
  | preparePhaseEnd (h : Half) (q : Nat)
  /-- CRITICAL_PHASE_END (R116). -/
  | criticalPhaseEnd (h : Half) (q : Nat) (lat : Nat) (queue : Nat)
  /-- FINISH_PHASE_END (R118). -/
  | finishPhaseEnd (h : Half) (q : Nat)
  /-- MISS_LIMIT_REACHED (R121). -/
  | missLimitReached (h : Half) (q : Nat)
  /-- SLOT_RESTART (R130). -/
  | slotRestart (h : Half) (q : Nat)
  /-- SLOT_CLEAR_COUNTS (R112). -/
  | slotClearCounts (h : Half) (q : Nat)
  /-- CLEAR_LAT (R137). -/
  | clearLat (h : Half) (q : Nat)
  /-- ENG_STOP (R137). -/
  | engStop (h : Half) (e : Nat) (stop : Bool)
  /-- LOSS_DECLARED (R153). -/
  | lossDeclared (h : Half) (q : Nat)
  /-- REACQUIRED (R157). -/
  | reacquired (h : Half) (q : Nat)
  /-- CATCH_EXPIRED (R157). -/
  | catchExpired (h : Half) (q : Nat)
  /-- FADE_COMPLETE (R149). -/
  | fadeComplete (h : Half) (q : Nat)
  /-- TRACE_PACKET_AGE (R165). -/
  | tracePacketAge (h : Half) (q : Nat)
  /-- TRACE_HALF_BUFFER_DRAINED (R164). -/
  | traceHalfBufferDrained (h : Half) (q : Nat)
  /-- BALANCER_RUN (R175). -/
  | balancerRun (h : Half)
  /-- PLC_MOVE (R179). -/
  | plcMove (h : Half) (loop : Nat) (e : Nat)
  /-- PLC_EVACUATE (R173). -/
  | plcEvacuate (h : Half) (e : Nat)
  /-- PLC_INCLUDE (R175). -/
  | plcInclude (h : Half) (e : Nat)
  /-- PRECOPY_DONE (R181). -/
  | precopyDone (h : Half) (loop : Nat)
  /-- MIGRATION_BOUNDARY (R181). -/
  | migrationBoundary (h : Half) (loop : Nat)
  /-- MIGRATION_ABANDONED (R181). -/
  | migrationAbandoned (h : Half) (loop : Nat)
  /-- SLAB_STEP (R176). -/
  | slabStep (h : Half) (slab : Nat) (up : Bool) (m : SlabMeas)
  /-- SLAB_LOW_SLACK (R178). -/
  | slabLowSlack (h : Half) (slab : Nat) (slack : Nat) (volt : Nat)
  /-- MONITOR_AT_FLOOR (R178). -/
  | monitorAtFloor (h : Half) (slab : Nat)
  /-- ENGINE_FAULT (R185). -/
  | engineFault (h : Half) (e : Nat) (cause : Nat) (clean : Nat)
  /-- CLUSTER_FAULT (R184). -/
  | clusterFault (h : Half) (cluster : Nat)
  /-- SLAB_FAULT (R184). -/
  | slabFault (h : Half) (slab : Nat) (cause : Nat)
  /-- COPY_RESUME (R187). -/
  | copyResume (h : Half) (loop : Nat)
  /-- DRIVE_LINK_SYNC (R197). -/
  | driveLinkSync (b : LinkSync)
  /-- DRIVE_CMD_WORD (R198). -/
  | driveCmdWord (h : Half)
  /-- CMD_DEADLINE (R199). -/
  | cmdDeadline (l : Nat)
  /-- RETURN_FRAME (R200). -/
  | returnFrame (l : Nat) (f : RetFrame)
  /-- LINK_UP (R201). -/
  | linkUp (l : Nat)
  /-- LINK_DOWN (R201). -/
  | linkDown (l : Nat) (cause : Nat)
  /-- GATE_OPEN (R205). -/
  | gateOpen (l : Nat) (on : Bool) (current : Nat)
  /-- GATE_FOREIGN (R205). -/
  | gateForeign (l : Nat) (on : Bool) (current : Nat)
  /-- LINK_CLEAR_COUNTS (R207). -/
  | linkClearCounts (h : Half) (l : Nat)
  /-- RETRAIN (R206). -/
  | retrain (h : Half) (l : Nat)
  /-- MOTION_TICK (R209). -/
  | motionTick (p : Nat) (isenA : Word) (isenB : Word)
  /-- MOTION_CMD_WORD (R213). -/
  | motionCmdWord (h : Half)
  /-- PORT_CMD_MISSING (R214). -/
  | portCmdMissing (p : Nat)
  /-- PORT_STANDSTILL (R216). -/
  | portStandstill (p : Nat)
  /-- PORT_STALLED (R218). -/
  | portStalled (p : Nat)
  /-- PORT_START (R210). -/
  | portStart (h : Half) (p : Nat)
  /-- PORT_ABORT (R219). -/
  | portAbort (h : Half) (p : Nat)
  /-- POS_SET (R221). -/
  | posSet (h : Half) (p : Nat)
  /-- PORT_CLEAR_COUNTS (R221). -/
  | portClearCounts (h : Half) (p : Nat)
  /-- PRECISION_CONVERSION (R230). -/
  | precisionConversion (c : Nat) (raw : Word) (isl : Word) (lead : Word) (cjc : Word) (ovr : Bool) (hold : Bool) (ok : Bool) (t : Nat)
  /-- FAST_CONVERSION (R231). -/
  | fastConversion (c : Nat) (raw : Word) (isl : Word) (ok : Bool) (t : Nat)
  /-- ANALOG_OUT_CMD (R242). -/
  | analogOutCmd (h : Half)
  /-- OUT_VALUE_WRITE (R242). -/
  | outValueWrite (h : Half) (c : Nat) (val : Word)
  /-- ANALOG_CMD_MISSING (R245). -/
  | analogCmdMissing (c : Nat)
  /-- OUTPUT_READBACK (R246). -/
  | outputReadback (c : Nat) (raw : Word) (isl : Word) (volt : Word) (ok : Bool) (t : Nat)
  /-- OPEN_LOOP (R246). -/
  | openLoop (c : Nat) (on : Bool)
  /-- COMPLIANCE (R246). -/
  | compliance (c : Nat) (on : Bool)
  /-- PASSIVE_ISLAND_UPDATE (R249). -/
  | passiveIslandUpdate (c : Nat)
  /-- ISLAND_FRAME_LOSS (R250). -/
  | islandFrameLoss (c : Nat)
  /-- LOOP_UNPOWERED (R250). -/
  | loopUnpowered (c : Nat)
  /-- OVERLOAD (R241). -/
  | overload (c : Nat) (kind : Nat) (on : Bool)
  /-- SHUNT_RETEST (R241). -/
  | shuntRetest (c : Nat) (current : Word)
  /-- TC_OPEN_WIRE_TEST (R240). -/
  | tcOpenWireTest (c : Nat) (ohm : Word)
  /-- SETTLING_END (R256). -/
  | settlingEnd (c : Nat)
  /-- CARD_REMOVED (R257). -/
  | cardRemoved (kind : Nat) (n : Nat)
  /-- CARD_INSERTED (R257). -/
  | cardInserted (kind : Nat) (n : Nat) (refused : Nat) (issue : Nat) (bad : Nat) (cal : List CardCal)
  /-- CARD_READY (R257). -/
  | cardReady (kind : Nat) (n : Nat)
  /-- CAL_OFFLINE (R259). -/
  | calOffline (h : Half) (c : Nat)
  /-- CAL_POINT_LO (R259). -/
  | calPointLo (h : Half) (c : Nat)
  /-- CAL_POINT_HI (R259). -/
  | calPointHi (h : Half) (c : Nat)
  /-- CAL_POINT_TAKEN (R259). -/
  | calPointTaken (c : Nat) (hi : Bool)
  /-- CAL_APPLY (R259). -/
  | calApply (h : Half) (c : Nat)
  /-- CAL_STORE_DONE (R259). -/
  | calStoreDone (c : Nat) (ok : Bool)
  /-- CAL_ONLINE (R259). -/
  | calOnline (h : Half) (c : Nat)
  /-- CAL_RESET_USER (R260). -/
  | calResetUser (h : Half) (c : Nat)
  /-- CAL_TIMEOUT (R261). -/
  | calTimeout (c : Nat)
  /-- DI_WINDOW (R271). -/
  | diWindow (n : Nat) (p0 : List Nat) (p1 : List Nat) (t : Nat)
  /-- DI_EDGE (R273). -/
  | diEdge (i : Nat) (level : Bool) (other : Bool) (t : Nat)
  /-- UNRESOLVED_LONG (R268). -/
  | unresolvedLong (i : Nat)
  /-- DI_COUNT_WRAP (R274). -/
  | diCountWrap (i : Nat)
  /-- FREQ_GATE_END (R276). -/
  | freqGateEnd (i : Nat)
  /-- DI_CLEAR_COUNT (R274). -/
  | diClearCount (h : Half) (i : Nat)
  /-- DI_CLEAR_COUNTS (R288). -/
  | diClearCounts (h : Half) (i : Nat)
  /-- TEST_PULSE_SLOT_START (R309). -/
  | testPulseSlotStart (g : Nat)
  /-- TEST_PULSE_HOLD_END (R277). -/
  | testPulseHoldEnd (g : Nat)
  /-- TP_SUPPLY_FAULT (R277). -/
  | tpSupplyFault (g : Nat) (on : Bool)
  /-- DO_OUT_WRITE (R281). -/
  | doOutWrite (h : Half) (n : Nat) (hi : Bool) (val : Word)
  /-- WD_KICK (R286). -/
  | wdKick (h : Half) (n : Nat)
  /-- WD_RESTART (R286). -/
  | wdRestart (h : Half) (n : Nat)
  /-- WD_EXPIRED (R287). -/
  | wdExpired (n : Nat)
  /-- THERMAL_OFF (R283). -/
  | thermalOff (o : Nat)
  /-- THERMAL_AUTO_RETRY (R283). -/
  | thermalAutoRetry (o : Nat)
  /-- DO_RETRY (R283). -/
  | doRetry (h : Half) (o : Nat) (cool : Bool)
  /-- DO_CLEAR_COUNTS (R288). -/
  | doClearCounts (h : Half) (o : Nat)
  /-- SUPPLY_LOW (R280). -/
  | supplyLow (n : Nat) (sec : Nat) (on : Bool) (volt : Nat)
  /-- OPEN_LOAD (R284). -/
  | openLoad (o : Nat) (on : Bool)
  /-- SHORT_TO_SUPPLY (R284). -/
  | shortToSupply (o phase : Nat) (volt : Nat)
  /-- LIMIT_LONG (R283). -/
  | limitLong (o phase : Nat)
  /-- LID_INPUT_CHANGE (R295). -/
  | lidInputChange (i : Nat)
  /-- TERM_DELAY_EXPIRE (R293). -/
  | termDelayExpire (t : Nat)
  /-- HALF_DEMAND_VECTOR (R292). -/
  | halfDemandVector (h : Half)
  /-- LID_DEMAND_WRITE (R292). -/
  | lidDemandWrite (h : Half) (w : Nat) (val : Word)
  /-- HALF_DEMAND_RELEASE (R292). -/
  | halfDemandRelease (h : Half)
  /-- TERM_RAIL_FAULT (R294). -/
  | termRailFault (t : Nat)
  /-- RAIL_FAULT_CLEAR (R294). -/
  | railFaultClear (t : Nat)
  /-- CONFIG_CRC_COMPARE (R294). -/
  | configCrcCompare (c0 : Word) (c1 : Word)
  /-- TARGET_FAULT (R297). -/
  | targetFault (k : Nat) (r0 : Bool) (r1 : Bool)
  /-- LID_RESET_ARM (R300). -/
  | lidResetArm (src : Nat) (h : Half) (groups : Nat)
  /-- LID_RESET_CONFIRM (R300). -/
  | lidResetConfirm (src : Nat) (h : Half) (groups : Nat)
  /-- ARM_WINDOW_EXPIRE (R299). -/
  | armWindowExpire (t : Nat)
  /-- PW_SET (R312). -/
  | pwSet (h : Half)
  /-- LID_CLEAR_COUNTS (R317). -/
  | lidClearCounts (h : Half)
  /-- LID_COMMIT (R313). -/
  | lidCommit
  /-- ABANDONED_TRIPPED (R313). -/
  | abandonedTripped
  /-- TOKEN_BLOCK_END (R311). -/
  | tokenBlockEnd
  /-- TASK_RELEASE (R325). -/
  | taskRelease (h : Half) (t : Nat)
  /-- INPUT_PHASE (R330). -/
  | inputPhase (h : Half) (t : Nat)
  /-- TASK_CYCLE_END (R331). -/
  | taskCycleEnd (h : Half) (t : Nat)
  /-- RETAINED_WRITEBACK_DONE (R343). -/
  | retainedWritebackDone (h : Half) (t : Nat)
  /-- TASK_HUNG (R338). -/
  | taskHung (h : Half) (t : Nat)
  /-- LOOP_QUEUE_WRITE (R333). -/
  | loopQueueWrite (h : Half) (g : Nat)
  /-- TIMER_IN_WRITE (R334). -/
  | timerInWrite (h : Half) (k : Nat) (val : Bool) (cyc : Bool)
  /-- ERROR_TASK_RELEASE (R341). -/
  | errorTaskRelease (h : Half)
  /-- RESTART_WARM (R345). -/
  | restartWarm (h : Half)
  /-- RESTART_COLD (R345). -/
  | restartCold (h : Half)
  /-- STOP_ALL (R352). -/
  | stopAll (h : Half)
  /-- TASK_STOP (R352). -/
  | taskStop (h : Half) (t : Nat)
  /-- START_WARM (R345). -/
  | startWarm (h : Half) (t : Nat)
  /-- START_COLD (R345). -/
  | startCold (h : Half) (t : Nat)
  /-- TASK_CLEAR_COUNTS (R352). -/
  | taskClearCounts (h : Half) (t : Nat)
  /-- RESTART_BUILD_DONE (R345). -/
  | restartBuildDone (h : Half) (t : Nat)
  /-- TASK_PREPARE_DONE (R348). -/
  | taskPrepareDone (h : Half) (t : Nat)
  /-- TASK_CARRY (R348). -/
  | taskCarry (h : Half) (t : Nat) (us : Nat)
  /-- BACKGROUND_RESTART (R370). -/
  | backgroundRestart (h : Half) (c : Nat)
  /-- ADD (R362). -/
  | add (h : Half) (core : Nat) (d : Nat) (s1 : Nat) (s2 : Nat)
  /-- SUB (R362). -/
  | sub (h : Half) (core : Nat) (d : Nat) (s1 : Nat) (s2 : Nat)
  /-- AND (R362). -/
  | and (h : Half) (core : Nat) (d : Nat) (s1 : Nat) (s2 : Nat)
  /-- OR (R362). -/
  | or (h : Half) (core : Nat) (d : Nat) (s1 : Nat) (s2 : Nat)
  /-- XOR (R362). -/
  | xor (h : Half) (core : Nat) (d : Nat) (s1 : Nat) (s2 : Nat)
  /-- ANDN (R362). -/
  | andn (h : Half) (core : Nat) (d : Nat) (s1 : Nat) (s2 : Nat)
  /-- SLL (R362). -/
  | sll (h : Half) (core : Nat) (d : Nat) (s1 : Nat) (s2 : Nat)
  /-- SRL (R362). -/
  | srl (h : Half) (core : Nat) (d : Nat) (s1 : Nat) (s2 : Nat)
  /-- SRA (R362). -/
  | sra (h : Half) (core : Nat) (d : Nat) (s1 : Nat) (s2 : Nat)
  /-- MUL (R362). -/
  | mul (h : Half) (core : Nat) (d : Nat) (s1 : Nat) (s2 : Nat)
  /-- MULHS (R362). -/
  | mulhs (h : Half) (core : Nat) (d : Nat) (s1 : Nat) (s2 : Nat)
  /-- MULHU (R362). -/
  | mulhu (h : Half) (core : Nat) (d : Nat) (s1 : Nat) (s2 : Nat)
  /-- DIV (R365). -/
  | div (h : Half) (core : Nat) (d : Nat) (s1 : Nat) (s2 : Nat)
  /-- DIVU (R365). -/
  | divu (h : Half) (core : Nat) (d : Nat) (s1 : Nat) (s2 : Nat)
  /-- REM (R365). -/
  | rem (h : Half) (core : Nat) (d : Nat) (s1 : Nat) (s2 : Nat)
  /-- REMU (R365). -/
  | remu (h : Half) (core : Nat) (d : Nat) (s1 : Nat) (s2 : Nat)
  /-- SLT (R362). -/
  | slt (h : Half) (core : Nat) (d : Nat) (s1 : Nat) (s2 : Nat)
  /-- SLTU (R362). -/
  | sltu (h : Half) (core : Nat) (d : Nat) (s1 : Nat) (s2 : Nat)
  /-- MIN (R362). -/
  | min (h : Half) (core : Nat) (d : Nat) (s1 : Nat) (s2 : Nat)
  /-- MAX (R362). -/
  | max (h : Half) (core : Nat) (d : Nat) (s1 : Nat) (s2 : Nat)
  /-- MINU (R362). -/
  | minu (h : Half) (core : Nat) (d : Nat) (s1 : Nat) (s2 : Nat)
  /-- MAXU (R362). -/
  | maxu (h : Half) (core : Nat) (d : Nat) (s1 : Nat) (s2 : Nat)
  /-- ADD32 (R362). -/
  | add32 (h : Half) (core : Nat) (d : Nat) (s1 : Nat) (s2 : Nat)
  /-- SUB32 (R362). -/
  | sub32 (h : Half) (core : Nat) (d : Nat) (s1 : Nat) (s2 : Nat)
  /-- SLL32 (R362). -/
  | sll32 (h : Half) (core : Nat) (d : Nat) (s1 : Nat) (s2 : Nat)
  /-- SRL32 (R362). -/
  | srl32 (h : Half) (core : Nat) (d : Nat) (s1 : Nat) (s2 : Nat)
  /-- SRA32 (R362). -/
  | sra32 (h : Half) (core : Nat) (d : Nat) (s1 : Nat) (s2 : Nat)
  /-- MUL32 (R362). -/
  | mul32 (h : Half) (core : Nat) (d : Nat) (s1 : Nat) (s2 : Nat)
  /-- DIV32 (R365). -/
  | div32 (h : Half) (core : Nat) (d : Nat) (s1 : Nat) (s2 : Nat)
  /-- REM32 (R365). -/
  | rem32 (h : Half) (core : Nat) (d : Nat) (s1 : Nat) (s2 : Nat)
  /-- ADDI (R361). -/
  | addi (h : Half) (core : Nat) (d : Nat) (s1 : Nat) (imm : Nat)
  /-- ANDI (R361). -/
  | andi (h : Half) (core : Nat) (d : Nat) (s1 : Nat) (imm : Nat)
  /-- ORI (R361). -/
  | ori (h : Half) (core : Nat) (d : Nat) (s1 : Nat) (imm : Nat)
  /-- XORI (R361). -/
  | xori (h : Half) (core : Nat) (d : Nat) (s1 : Nat) (imm : Nat)
  /-- SLTI (R361). -/
  | slti (h : Half) (core : Nat) (d : Nat) (s1 : Nat) (imm : Nat)
  /-- SLTIU (R361). -/
  | sltiu (h : Half) (core : Nat) (d : Nat) (s1 : Nat) (imm : Nat)
  /-- SHI (R361). -/
  | shi (h : Half) (core : Nat) (d : Nat) (s1 : Nat) (imm : Nat)
  /-- LCN (R361). -/
  | lcn (h : Half) (core : Nat) (d : Nat) (imm : Nat)
  /-- LCH (R361). -/
  | lch (h : Half) (core : Nat) (d : Nat) (s1 : Nat) (imm : Nat)
  /-- ADDI32 (R361). -/
  | addi32 (h : Half) (core : Nat) (d : Nat) (s1 : Nat) (imm : Nat)
  /-- LB (R366). -/
  | lb (h : Half) (core : Nat) (d : Nat) (s1 : Nat) (imm : Nat)
  /-- LBU (R366). -/
  | lbu (h : Half) (core : Nat) (d : Nat) (s1 : Nat) (imm : Nat)
  /-- LH (R366). -/
  | lh (h : Half) (core : Nat) (d : Nat) (s1 : Nat) (imm : Nat)
  /-- LHU (R366). -/
  | lhu (h : Half) (core : Nat) (d : Nat) (s1 : Nat) (imm : Nat)
  /-- LW (R366). -/
  | lw (h : Half) (core : Nat) (d : Nat) (s1 : Nat) (imm : Nat)
  /-- LWU (R366). -/
  | lwu (h : Half) (core : Nat) (d : Nat) (s1 : Nat) (imm : Nat)
  /-- LD (R366). -/
  | ld (h : Half) (core : Nat) (d : Nat) (s1 : Nat) (imm : Nat)
  /-- FLW (R366). -/
  | flw (h : Half) (core : Nat) (d : Nat) (s1 : Nat) (imm : Nat)
  /-- FLD (R366). -/
  | fld (h : Half) (core : Nat) (d : Nat) (s1 : Nat) (imm : Nat)
  /-- SB (R366). -/
  | sb (h : Half) (core : Nat) (d : Nat) (s1 : Nat) (imm : Nat)
  /-- SH (R366). -/
  | sh (h : Half) (core : Nat) (d : Nat) (s1 : Nat) (imm : Nat)
  /-- SW (R366). -/
  | sw (h : Half) (core : Nat) (d : Nat) (s1 : Nat) (imm : Nat)
  /-- SD (R366). -/
  | sd (h : Half) (core : Nat) (d : Nat) (s1 : Nat) (imm : Nat)
  /-- FSW (R366). -/
  | fsw (h : Half) (core : Nat) (d : Nat) (s1 : Nat) (imm : Nat)
  /-- FSD (R366). -/
  | fsd (h : Half) (core : Nat) (d : Nat) (s1 : Nat) (imm : Nat)
  /-- BEQ (R367). -/
  | beq (h : Half) (core : Nat) (s1 : Nat) (s2 : Nat) (off : Nat)
  /-- BNE (R367). -/
  | bne (h : Half) (core : Nat) (s1 : Nat) (s2 : Nat) (off : Nat)
  /-- BLT (R367). -/
  | blt (h : Half) (core : Nat) (s1 : Nat) (s2 : Nat) (off : Nat)
  /-- BGE (R367). -/
  | bge (h : Half) (core : Nat) (s1 : Nat) (s2 : Nat) (off : Nat)
  /-- BLTU (R367). -/
  | bltu (h : Half) (core : Nat) (s1 : Nat) (s2 : Nat) (off : Nat)
  /-- BGEU (R367). -/
  | bgeu (h : Half) (core : Nat) (s1 : Nat) (s2 : Nat) (off : Nat)
  /-- JMP (R367). -/
  | jmp (h : Half) (core : Nat) (off : Nat)
  /-- CALL (R367). -/
  | call (h : Half) (core : Nat) (off : Nat)
  /-- JRL (R361). -/
  | jrl (h : Half) (core : Nat) (d : Nat) (s1 : Nat) (s2 : Nat) (fn : Nat)
  /-- FADD (R368). -/
  | fadd (h : Half) (core : Nat) (dbl : Bool) (d : Nat) (s1 : Nat) (s2 : Nat) (s3 : Nat)
  /-- FSUB (R368). -/
  | fsub (h : Half) (core : Nat) (dbl : Bool) (d : Nat) (s1 : Nat) (s2 : Nat) (s3 : Nat)
  /-- FMUL (R368). -/
  | fmul (h : Half) (core : Nat) (dbl : Bool) (d : Nat) (s1 : Nat) (s2 : Nat) (s3 : Nat)
  /-- FDIV (R368). -/
  | fdiv (h : Half) (core : Nat) (dbl : Bool) (d : Nat) (s1 : Nat) (s2 : Nat) (s3 : Nat)
  /-- FSQRT (R368). -/
  | fsqrt (h : Half) (core : Nat) (dbl : Bool) (d : Nat) (s1 : Nat) (s2 : Nat) (s3 : Nat)
  /-- FMA (R368). -/
  | fma (h : Half) (core : Nat) (dbl : Bool) (d : Nat) (s1 : Nat) (s2 : Nat) (s3 : Nat)
  /-- FMIN (R368). -/
  | fmin (h : Half) (core : Nat) (dbl : Bool) (d : Nat) (s1 : Nat) (s2 : Nat) (s3 : Nat)
  /-- FMAX (R368). -/
  | fmax (h : Half) (core : Nat) (dbl : Bool) (d : Nat) (s1 : Nat) (s2 : Nat) (s3 : Nat)
  /-- FNEG (R363). -/
  | fneg (h : Half) (core : Nat) (dbl : Bool) (d : Nat) (s1 : Nat) (s2 : Nat) (s3 : Nat)
  /-- FABS (R363). -/
  | fabs (h : Half) (core : Nat) (dbl : Bool) (d : Nat) (s1 : Nat) (s2 : Nat) (s3 : Nat)
  /-- FMOV (R363). -/
  | fmov (h : Half) (core : Nat) (dbl : Bool) (d : Nat) (s1 : Nat) (s2 : Nat) (s3 : Nat)
  /-- FEQ (R368). -/
  | feq (h : Half) (core : Nat) (dbl : Bool) (d : Nat) (s1 : Nat) (s2 : Nat) (s3 : Nat)
  /-- FLT (R368). -/
  | flt (h : Half) (core : Nat) (dbl : Bool) (d : Nat) (s1 : Nat) (s2 : Nat) (s3 : Nat)
  /-- FLE (R368). -/
  | fle (h : Half) (core : Nat) (dbl : Bool) (d : Nat) (s1 : Nat) (s2 : Nat) (s3 : Nat)
  /-- FUN (R363). -/
  | funord (h : Half) (core : Nat) (dbl : Bool) (d : Nat) (s1 : Nat) (s2 : Nat) (s3 : Nat)
  /-- CVTSD (R363). -/
  | cvtsd (h : Half) (core : Nat) (d : Nat) (s1 : Nat) (s2 : Nat)
  /-- CVTDS (R363). -/
  | cvtds (h : Half) (core : Nat) (d : Nat) (s1 : Nat) (s2 : Nat)
  /-- CVTSG (R363). -/
  | cvtsg (h : Half) (core : Nat) (d : Nat) (s1 : Nat) (s2 : Nat)
  /-- CVTDG (R363). -/
  | cvtdg (h : Half) (core : Nat) (d : Nat) (s1 : Nat) (s2 : Nat)
  /-- CVTGS (R368). -/
  | cvtgs (h : Half) (core : Nat) (d : Nat) (s1 : Nat) (s2 : Nat)
  /-- CVTGD (R368). -/
  | cvtgd (h : Half) (core : Nat) (d : Nat) (s1 : Nat) (s2 : Nat)
  /-- TRNGS (R368). -/
  | trngs (h : Half) (core : Nat) (d : Nat) (s1 : Nat) (s2 : Nat)
  /-- TRNGD (R368). -/
  | trngd (h : Half) (core : Nat) (d : Nat) (s1 : Nat) (s2 : Nat)
  /-- MVFG (R363). -/
  | mvfg (h : Half) (core : Nat) (d : Nat) (s1 : Nat) (s2 : Nat)
  /-- MVGF (R363). -/
  | mvgf (h : Half) (core : Nat) (d : Nat) (s1 : Nat) (s2 : Nat)
  /-- RELT (R369). -/
  | relt (h : Half) (core : Nat) (d : Nat) (s1 : Nat) (s2 : Nat)
  /-- NOW (R369). -/
  | now (h : Half) (core : Nat) (d : Nat) (s1 : Nat) (s2 : Nat)
  /-- TINFO (R364). -/
  | tinfo (h : Half) (core : Nat) (d : Nat) (s1 : Nat) (s2 : Nat)
  /-- CYCN (R364). -/
  | cycn (h : Half) (core : Nat) (d : Nat) (s1 : Nat) (s2 : Nat)
  /-- TSET (R369). -/
  | tset (h : Half) (core : Nat) (d : Nat) (s1 : Nat) (s2 : Nat)
  /-- TGET (R369). -/
  | tget (h : Half) (core : Nat) (d : Nat) (s1 : Nat) (s2 : Nat)
  /-- TPRE (R369). -/
  | tpre (h : Half) (core : Nat) (d : Nat) (s1 : Nat) (s2 : Nat)
  /-- LRD (R369). -/
  | lrd (h : Half) (core : Nat) (d : Nat) (s1 : Nat) (s2 : Nat)
  /-- LQW (R369). -/
  | lqw (h : Half) (core : Nat) (d : Nat) (s1 : Nat) (s2 : Nat)
  /-- LMAP (R364). -/
  | lmap (h : Half) (core : Nat) (d : Nat) (s1 : Nat) (s2 : Nat)
  /-- LDS (R369). -/
  | lds (h : Half) (core : Nat) (d : Nat) (s1 : Nat) (s2 : Nat)
  /-- STS (R369). -/
  | sts (h : Half) (core : Nat) (d : Nat) (s1 : Nat) (s2 : Nat)
  /-- LDS64 (R369). -/
  | lds64 (h : Half) (core : Nat) (d : Nat) (s1 : Nat) (s2 : Nat)
  /-- STS64 (R369). -/
  | sts64 (h : Half) (core : Nat) (d : Nat) (s1 : Nat) (s2 : Nat)
  /-- LOGR (R369). -/
  | logr (h : Half) (core : Nat) (d : Nat) (s1 : Nat) (s2 : Nat)
  /-- FCTLR (R364). -/
  | fctlr (h : Half) (core : Nat) (d : Nat) (s1 : Nat) (s2 : Nat)
  /-- FCTLW (R364). -/
  | fctlw (h : Half) (core : Nat) (d : Nat) (s1 : Nat) (s2 : Nat)
  /-- CHK (R364). -/
  | chk (h : Half) (core : Nat) (d : Nat) (s1 : Nat) (s2 : Nat)
  /-- ABORT (R364). -/
  | abort (h : Half) (core : Nat) (d : Nat) (s1 : Nat) (s2 : Nat)
  /-- EXIT (R357). -/
  | exit (h : Half) (core : Nat) (d : Nat) (s1 : Nat) (s2 : Nat)
  /-- IC_NOP (R378). -/
  | icNop (h : Half) (core : Nat)
  /-- IC_PUSHB (R378). -/
  | icPushb (h : Half) (core : Nat) (v : Nat)
  /-- IC_PUSHW (R378). -/
  | icPushw (h : Half) (core : Nat) (v : Nat)
  /-- IC_PUSHL (R378). -/
  | icPushl (h : Half) (core : Nat) (v : Nat)
  /-- IC_DUP (R378). -/
  | icDup (h : Half) (core : Nat)
  /-- IC_DROP (R378). -/
  | icDrop (h : Half) (core : Nat)
  /-- IC_SWAP (R378). -/
  | icSwap (h : Half) (core : Nat)
  /-- IC_OVER (R378). -/
  | icOver (h : Half) (core : Nat)
  /-- IC_LDB (R378). -/
  | icLdb (h : Half) (core : Nat) (a : Nat)
  /-- IC_LDI (R378). -/
  | icLdi (h : Half) (core : Nat) (a : Nat)
  /-- IC_LDD (R378). -/
  | icLdd (h : Half) (core : Nat) (a : Nat)
  /-- IC_LDXD (R378). -/
  | icLdxd (h : Half) (core : Nat) (a : Nat)
  /-- IC_STB (R378). -/
  | icStb (h : Half) (core : Nat) (a : Nat)
  /-- IC_STI (R378). -/
  | icSti (h : Half) (core : Nat) (a : Nat)
  /-- IC_STD (R378). -/
  | icStd (h : Half) (core : Nat) (a : Nat)
  /-- IC_STXD (R378). -/
  | icStxd (h : Half) (core : Nat) (a : Nat)
  /-- IC_ADD (R379). -/
  | icAdd (h : Half) (core : Nat)
  /-- IC_SUB (R379). -/
  | icSub (h : Half) (core : Nat)
  /-- IC_MUL (R379). -/
  | icMul (h : Half) (core : Nat)
  /-- IC_DIV (R379). -/
  | icDiv (h : Half) (core : Nat)
  /-- IC_MOD (R379). -/
  | icMod (h : Half) (core : Nat)
  /-- IC_NEG (R379). -/
  | icNeg (h : Half) (core : Nat)
  /-- IC_ABS (R379). -/
  | icAbs (h : Half) (core : Nat)
  /-- IC_MIN (R379). -/
  | icMin (h : Half) (core : Nat)
  /-- IC_MAX (R379). -/
  | icMax (h : Half) (core : Nat)
  /-- IC_LIMIT (R378). -/
  | icLimit (h : Half) (core : Nat)
  /-- IC_RADD (R379). -/
  | icRadd (h : Half) (core : Nat)
  /-- IC_RSUB (R379). -/
  | icRsub (h : Half) (core : Nat)
  /-- IC_RMUL (R379). -/
  | icRmul (h : Half) (core : Nat)
  /-- IC_RDIV (R379). -/
  | icRdiv (h : Half) (core : Nat)
  /-- IC_RNEG (R379). -/
  | icRneg (h : Half) (core : Nat)
  /-- IC_RABS (R379). -/
  | icRabs (h : Half) (core : Nat)
  /-- IC_RSQRT (R379). -/
  | icRsqrt (h : Half) (core : Nat)
  /-- IC_RLIMIT (R378). -/
  | icRlimit (h : Half) (core : Nat)
  /-- IC_EQ (R378). -/
  | icEq (h : Half) (core : Nat)
  /-- IC_NE (R378). -/
  | icNe (h : Half) (core : Nat)
  /-- IC_LT (R378). -/
  | icLt (h : Half) (core : Nat)
  /-- IC_LE (R378). -/
  | icLe (h : Half) (core : Nat)
  /-- IC_GT (R378). -/
  | icGt (h : Half) (core : Nat)
  /-- IC_GE (R378). -/
  | icGe (h : Half) (core : Nat)
  /-- IC_REQ (R379). -/
  | icReq (h : Half) (core : Nat)
  /-- IC_RNE (R379). -/
  | icRne (h : Half) (core : Nat)
  /-- IC_RLT (R379). -/
  | icRlt (h : Half) (core : Nat)
  /-- IC_RLE (R379). -/
  | icRle (h : Half) (core : Nat)
  /-- IC_RGT (R379). -/
  | icRgt (h : Half) (core : Nat)
  /-- IC_RGE (R379). -/
  | icRge (h : Half) (core : Nat)
  /-- IC_AND (R378). -/
  | icAnd (h : Half) (core : Nat)
  /-- IC_OR (R378). -/
  | icOr (h : Half) (core : Nat)
  /-- IC_XOR (R378). -/
  | icXor (h : Half) (core : Nat)
  /-- IC_NOT (R378). -/
  | icNot (h : Half) (core : Nat)
  /-- IC_SHL (R378). -/
  | icShl (h : Half) (core : Nat) (n : Nat)
  /-- IC_SHR (R378). -/
  | icShr (h : Half) (core : Nat) (n : Nat)
  /-- IC_BNOT (R378). -/
  | icBnot (h : Half) (core : Nat)
  /-- IC_JMP (R378). -/
  | icJmp (h : Half) (core : Nat) (off : Nat)
  /-- IC_JZ (R378). -/
  | icJz (h : Half) (core : Nat) (off : Nat)
  /-- IC_JNZ (R378). -/
  | icJnz (h : Half) (core : Nat) (off : Nat)
  /-- IC_CALL (R378). -/
  | icCall (h : Half) (core : Nat) (a : Nat)
  /-- IC_RET (R378). -/
  | icRet (h : Half) (core : Nat)
  /-- IC_END (R378). -/
  | icEnd (h : Half) (core : Nat)
  /-- IC_ITOR (R378). -/
  | icItor (h : Half) (core : Nat)
  /-- IC_RTOI (R379). -/
  | icRtoi (h : Half) (core : Nat)
  /-- IC_RTOIT (R379). -/
  | icRtoit (h : Half) (core : Nat)
  /-- IC_IOIN (R378). -/
  | icIoin (h : Half) (core : Nat) (k : Nat)
  /-- IC_IOOUT (R378). -/
  | icIoout (h : Half) (core : Nat) (k : Nat)
  /-- IC_TMR (R379). -/
  | icTmr (h : Half) (core : Nat) (n : Nat)
  /-- IC_TMRE (R379). -/
  | icTmre (h : Half) (core : Nat) (n : Nat)
  /-- IC_LPSP (R379). -/
  | icLpsp (h : Half) (core : Nat) (n : Nat)
  /-- IC_LPMD (R379). -/
  | icLpmd (h : Half) (core : Nat) (n : Nat)
  /-- IC_LPOUT (R379). -/
  | icLpout (h : Half) (core : Nat) (n : Nat)
  /-- IC_TIME (R378). -/
  | icTime (h : Half) (core : Nat)
  /-- IC_CYCN (R378). -/
  | icCycn (h : Half) (core : Nat)
  /-- IC_UERR (R378). -/
  | icUerr (h : Half) (core : Nat)
  /-- IC_HALT (R378). -/
  | icHalt (h : Half) (core : Nat)
  /-- WHISTLE_SEND (R386). -/
  | whistleSend (h : Half) (time_ok : Bool) (router_ok : Bool) (reach : Bool)
  /-- WHISTLE_RECEIVE (R387). -/
  | whistleReceive (h : Half) (path : Nat) (frame : Word)
  /-- WHISTLE_PATH_SILENT (R387). -/
  | whistlePathSilent (h : Half) (path : Nat)
  /-- TRIVET_PATH_SILENT (R389). -/
  | trivetPathSilent (h : Half)
  /-- CLAIM_VECTOR (R390). -/
  | claimVector (h : Half) (differ : Option Nat)
  /-- CLAIM_STALE (R389). -/
  | claimStale (h : Half)
  /-- FROZEN_REDECIDE (R391). -/
  | frozenRedecide (g : Nat) (agree : Bool)
  /-- OWNER_REPORT (R394). -/
  | ownerReport (h : Half)
  /-- MIRROR_BLOCK_ARRIVE (R397). -/
  | mirrorBlockArrive (h : Half)
  /-- COMMIT_FORWARD_ARRIVE (R398). -/
  | commitForwardArrive (h : Half)
  /-- CYCLE_SET_ARRIVE (R400). -/
  | cycleSetArrive (h : Half)
  /-- SELF_FAULT (R403). -/
  | selfFault (h : Half) (cause : Nat) (on : Bool)
  /-- ROLE_SWITCH (R404). -/
  | roleSwitch (h : Half)
  /-- FAILOVER_CLAIM_TIMEOUT (R405). -/
  | failoverClaimTimeout (h : Half)
  /-- TAKEBACK_REQ (R409). -/
  | takebackReq (h : Half)
  /-- SWITCH_PLAN (R410). -/
  | switchPlan (h : Half)
  /-- SWITCH_CONFIRM (R410). -/
  | switchConfirm (h : Half)
  /-- SWITCH_CONFIRM_TIMEOUT (R410). -/
  | switchConfirmTimeout (h : Half)
  /-- SWITCH_ABANDON (R410). -/
  | switchAbandon (h : Half)
  /-- PLANNED_SWITCH_T (R410). -/
  | plannedSwitchT (h : Half)
  /-- PLANNED_SWITCH_CHECK (R410). -/
  | plannedSwitchCheck (h : Half)
  /-- HANDOVER (R411). -/
  | handover (h : Half)
  /-- CANCEL (R410). -/
  | cancel (h : Half)
  /-- HALF_CLEAR_COUNTS (R417). -/
  | halfClearCounts (h : Half)
  /-- REALIGN (R412). -/
  | realign (h : Half)
  /-- ALIGN_COPY_DONE (R412). -/
  | alignCopyDone (h : Half) (task : Bool) (n : Nat)
  /-- BAY_LATCH_OPEN (R413). -/
  | bayLatchOpen (h : Half)
  /-- BAY_LATCH_CLOSE (R459). -/
  | bayLatchClose (h : Half) (moved : Nat)
  /-- BAY_OFF (R459). -/
  | bayOff (h : Half)
  /-- BAY_ON (R459). -/
  | bayOn (h : Half)
  /-- PORT_DOWN (R430). -/
  | portDown (p : Nat) (cause : Nat) (lanes : Nat)
  /-- PORT_UP (R422). -/
  | portUp (p : Nat)
  /-- LANE_MARGIN (R421). -/
  | laneMargin (p : Nat) (l : Nat) (eq : Word)
  /-- TRUNK_FRAME_RECEIVE (R423). -/
  | trunkFrameReceive (p : Nat) (f : TrkFrame) (res : Nat)
  /-- CYCLE_START_RECEIVE (R513). -/
  | cycleStartReceive (p : Nat) (f : TrkFrame)
  /-- CYCLIC_RECEIVE (R436). -/
  | cyclicReceive (f : TrkFrame)
  /-- RING_RECEIVE (R433). -/
  | ringReceive (f : TrkFrame) (east : Nat) (west : Nat)
  /-- ACK_RECEIVE (R441). -/
  | ackReceive (f : TrkFrame)
  /-- RDATA_RECEIVE (R445). -/
  | rdataReceive (f : TrkFrame)
  /-- POST_RECEIVE (R442). -/
  | postReceive (f : TrkFrame)
  /-- TRUNK_CYCLE (R426). -/
  | trunkCycle (h : Half)
  /-- CYCLIC_SLOT (R426). -/
  | cyclicSlot (h : Half)
  /-- STATION_TIMEOUT (R436). -/
  | stationTimeout (h : Half) (st : Nat)
  /-- UNWRAP_READY (R433). -/
  | unwrapReady (p : Nat)
  /-- UNWRAP (R433). -/
  | unwrap (p : Nat)
  /-- MASTER_ELECTION (R434). -/
  | masterElection (h : Half)
  /-- PGO (R439). -/
  | pgo (h : Half) (c : Nat) (val : Word)
  /-- RGO (R445). -/
  | rgo (h : Half) (c : Nat) (val : Word)
  /-- POST_TIMEOUT (R441). -/
  | postTimeout (h : Half) (tag : Nat)
  /-- READ_TIMEOUT (R445). -/
  | readTimeout (h : Half) (tag : Nat)
  /-- FENCE_CLR (R443). -/
  | fenceClr (h : Half) (val : Word)
  /-- TRK_CLEAR_COUNTS (R451). -/
  | trkClearCounts (h : Half)
  /-- BASE_BYPASS_SENSE (R447). -/
  | baseBypassSense (p : Nat) (closed : Bool)
  /-- BYPASS_SWITCHED (R446). -/
  | bypassSwitched (p : Nat)
  /-- SPAN_PROBE (R513). -/
  | spanProbe (p : Nat) (ns : Nat)
  /-- FEED_OK (R454). -/
  | feedOk (f : Nat)
  /-- FEED_LOST (R454). -/
  | feedLost (f : Nat) (volts : Word) (store : Word)
  /-- RIDE_END (R462). -/
  | rideEnd
  /-- HALVES_OFF_END (R462). -/
  | halvesOffEnd (full : Bool)
  /-- POWER_UP (R577). -/
  | powerUp (uniform : Bool)
  /-- HALF_SUPPLY_RANGE (R458). -/
  | halfSupplyRange (h : Half) (ok : Bool)
  /-- HALF_SUPPLY_RESET (R458). -/
  | halfSupplyReset (h : Half)
  /-- BAY_FAULT (R458). -/
  | bayFault (h : Half)
  /-- GEN_RESET (R478). -/
  | genReset (h : Half) (g : Nat)
  /-- CARD_RETRY (R460). -/
  | cardRetry (h : Half) (card : Nat)
  /-- BAY_CYCLE (R459). -/
  | bayCycle (h : Half)
  /-- PWR_CLEAR_COUNTS (R478). -/
  | pwrClearCounts (h : Half)
  /-- CARD_SLOT_SWITCH_CLOSE (R460). -/
  | cardSlotSwitchClose (kind : Nat) (n : Nat)
  /-- CARD_PWR_FAULT (R460). -/
  | cardPwrFault (kind : Nat) (n : Nat) (draw : Word)
  /-- PWR_BOUNDARY (R465). -/
  | pwrBoundary (h : Half)
  /-- GEN_TIMEOUT (R470). -/
  | genTimeout (h : Half) (g : Nat)
  /-- ISLAND_HOLD_EXPIRE (R472). -/
  | islandHoldExpire (h : Half) (b : Nat)
  /-- BLACKOUT (R474). -/
  | blackout (h : Half) (b : Nat)
  /-- BUS_LIVE (R474). -/
  | busLive (h : Half) (b : Nat)
  /-- RESTART_ISSUED (R474). -/
  | restartIssued (h : Half) (r : Nat)
  /-- REQUEST_PULSE_END (R471). -/
  | requestPulseEnd (h : Half) (kind : Nat) (num : Nat)
  /-- REQUEST_REWRITE (R471). -/
  | requestRewrite (h : Half) (can : Bool)
  /-- SHED_BITS_CLEAR (R473). -/
  | shedBitsClear (h : Half)
  /-- PWR_FORWARD_ARRIVE (R477). -/
  | pwrForwardArrive (h : Half)
  /-- CAN_FRAME_RECEIVE (R491). -/
  | canFrameReceive (p : Nat) (f : CanFrame) (ago : Nat)
  /-- TX_REQ (R493). -/
  | txReq (h : Half) (p : Nat) (k : Nat)
  /-- CAN_OBJ_ABORT (R494). -/
  | canObjAbort (h : Half) (p : Nat) (k : Nat)
  /-- CAN_ARBITRATION (R494). -/
  | canArbitration (p : Nat)
  /-- CAN_TX_END (R494). -/
  | canTxEnd (h : Half) (p : Nat) (outcome : Nat) (tecKept : Bool) (delay : Option Nat) (ago : Nat)
  /-- CAN_PERIODIC (R495). -/
  | canPeriodic (h : Half) (p : Nat) (k : Nat)
  /-- RECOVER (R498). -/
  | recover (h : Half) (p : Nat)
  /-- CAN_CLEAR_COUNTS (R503). -/
  | canClearCounts (h : Half) (p : Nat)
  /-- CAN_AUTO_RECOVER (R498). -/
  | canAutoRecover (h : Half) (p : Nat)
  /-- CAN_RECOVERED (R498). -/
  | canRecovered (h : Half) (p : Nat)
  /-- CAN_INTEGRATED (R484). -/
  | canIntegrated (h : Half) (p : Nat)
  /-- CAN_TIMING_APPLY (R490). -/
  | canTimingApply (h : Half) (p : Nat)
  /-- TXD_TIMEOUT (R483). -/
  | txdTimeout (h : Half) (p : Nat)
  /-- CAN_STATE_FORWARD (R499). -/
  | canStateForward (p : Nat)
  /-- OBJ_CFG_WRITE (R489). -/
  | objCfgWrite (h : Half) (p : Nat) (k : Nat) (val : Word)
  /-- OFFSET_REPORT (R509). -/
  | offsetReport (h : Half) (ns : Int)
  /-- PTP_MESSAGE (R512). -/
  | ptpMessage (h : Half) (kind : Nat) (seq : Nat) (domain : Nat) (stamp : Nat) (value : Int) (port : Nat) (utc : Option Nat)
  /-- TIME_SOURCE_LOSS (R509). -/
  | timeSourceLoss (h : Half)
  /-- HOLDOVER_EXPIRE (R509). -/
  | holdoverExpire (h : Half)
  /-- PEER_TIME_MESSAGE (R510). -/
  | peerTimeMessage (h : Half) (offset : Int)
  /-- PEER_TIME_LOSS (R510). -/
  | peerTimeLoss (h : Half)
  /-- PEER_FAULT (R511). -/
  | peerFault (h : Half)
  /-- TIME_SET (R515). -/
  | timeSet (h : Half)
  /-- TIME_STEP (R515). -/
  | timeStep (h : Half)
  /-- TIME_CLEAR_COUNTS (R523). -/
  | timeClearCounts (h : Half)
  /-- STEP_CONFIRM (R515). -/
  | stepConfirm (h : Half)
  /-- TIME_STEPPED (R515). -/
  | timeStepped (h : Half)
  /-- CMP_ARM (R521). -/
  | cmpArm (h : Half) (k : Nat) (val : Word)
  /-- CMP_FIRE (R521). -/
  | cmpFire (h : Half) (k : Nat)
  /-- SAMPLE_TICK_LATE (R518). -/
  | sampleTickLate (h : Half)
  /-- DECK_TIME_SOURCE_CHANGED (R519). -/
  | deckTimeSourceChanged (jump : Int)
  /-- TRAY_RP_WRITE (R528). -/
  | trayRpWrite (h : Half) (t : Nat) (val : Word)
  /-- TRAY_PACKET_STALL (R530). -/
  | trayPacketStall (h : Half) (t : Nat) (slot : Nat)
  /-- ENGINE_BURST_GRANT (R535). -/
  | engineBurstGrant (h : Half)
  /-- LOG_REPORT (R538). -/
  | logReport (h : Half)
  /-- LOG_RECORD_CLOSE (R538). -/
  | logRecordClose (h : Half)
  /-- LOG_FLASH_WRITE (R538). -/
  | logFlashWrite (h : Half) (retired : Option Nat) (reserve : Nat)
  /-- TRIP_RECORD_WRITE (R540). -/
  | tripRecordWrite
  /-- PIN_COPY (R540). -/
  | pinCopy (h : Half)
  /-- LOG_FREEZE (R541). -/
  | logFreeze (h : Half)
  /-- LOG_UNFREEZE (R541). -/
  | logUnfreeze (h : Half)
  /-- FREEZE_EXPIRED (R541). -/
  | freezeExpired (h : Half)
  /-- LOG_READ (R542). -/
  | logRead (h : Half)
  /-- LOG_READ_DONE (R542). -/
  | logReadDone (h : Half)
  /-- LOG_CLEAR (R543). -/
  | logClear (h : Half) (pinned : Bool)
  /-- LOG_CLEAR_COUNTS (R554). -/
  | logClearCounts (h : Half)
  /-- MEMBER_INIT (R550). -/
  | memberInit (h : Half) (m : Nat)
  /-- MEMBER_OFF (R553). -/
  | memberOff (h : Half) (m : Nat)
  /-- PANTRY_READ (R551). -/
  | pantryRead (h : Half)
  /-- PANTRY_CMD_DONE (R551). -/
  | pantryCmdDone (h : Half) (link : Bool) (fmt : Bool) (cap : Bool) (width : Nat) (gen : Nat) (data : List Byte)
  /-- STREAM_START (R549). -/
  | streamStart (h : Half) (st : Nat)
  /-- STREAM_STOP (R549). -/
  | streamStop (h : Half) (st : Nat)
  /-- STREAM_TRIGGER (R549). -/
  | streamTrigger (h : Half) (st : Nat) (lid : Bool)
  /-- CHUNK_TIMEOUT (R548). -/
  | chunkTimeout (h : Half) (st : Nat)
  /-- NVME_WRITE_DONE (R550). -/
  | nvmeWriteDone (h : Half) (ok : Bool)
  /-- PANTRY_FLUSH (R548). -/
  | pantryFlush (h : Half)
  /-- MEMBER_LINK_LOSS (R550). -/
  | memberLinkLoss (h : Half) (m : Nat)
  /-- KEY_ACK_PRESS (R567). -/
  | keyAckPress (delta : Int)
  /-- KEY_ARM_RELEASE (R567). -/
  | keyArmRelease (delta : Int)
  /-- KEY_CONFIRM_PRESS (R567). -/
  | keyConfirmPress (delta : Int)
  /-- KEY_PAGE_PRESS (R567). -/
  | keyPagePress (delta : Int)
  /-- KEY_RELEASED (R566). -/
  | keyReleased (k : Nat) (delta : Int)
  /-- KEY_HELD_AT_START (R566). -/
  | keyHeldAtStart (k : Nat) (delta : Int)
  /-- KEY_STUCK (R566). -/
  | keyStuck (k : Nat) (delta : Int)
  /-- BASELINE_UPDATE (R565). -/
  | baselineUpdate (k : Nat) (delta : Int)
  /-- DISPLAY_UPDATE_END (R559). -/
  | displayUpdateEnd
  /-- FULL_UPDATE_DUE (R559). -/
  | fullUpdateDue
  /-- PAGE_HOLD_EXPIRE (R560). -/
  | pageHoldExpire
  /-- USER_SHOW (R569). -/
  | userShow (h : Half)
  /-- USER_HIDE (R569). -/
  | userHide (h : Half)
  /-- FULL_NOW (R569). -/
  | fullNow (h : Half)
  /-- FINAL_FRAME_RENEW (R563). -/
  | finalFrameRenew
  /-- FINAL_FRAME (R563). -/
  | finalFrame (left : Nat)
  /-- ABRUPT_RAIL_LOSS (R563). -/
  | abruptRailLoss (left : Nat)
  /-- PANEL_DISCHARGED (R563). -/
  | panelDischarged (cause : Nat)
  /-- HALF_WD_FEED (R575). -/
  | halfWdFeed (h : Half) (firmware : Bool)
  /-- HALF_WD_EXPIRE (R575). -/
  | halfWdExpire (h : Half)
  /-- HALF_RESET_CMD (R576). -/
  | halfResetCmd (h : Half) (val : Word)
  /-- HALF_RESET_END (R578). -/
  | halfResetEnd (h : Half) (debug : Bool)
  /-- SELFTEST_DONE (R579). -/
  | selftestDone (h : Half) (fails : List (Nat×Nat×Nat×Nat))
  /-- DECK_RAIL_FAULT (R574). -/
  | deckRailFault
  /-- FW_STORE (R583). -/
  | fwStore (h : Half)
  /-- FW_DECK_STORE (R583). -/
  | fwDeckStore (h : Half)
  /-- FW_ROLLBACK (R584). -/
  | fwRollback (h : Half)
  /-- FW_STORE_DONE (R583). -/
  | fwStoreDone (h : Half) (ok : Bool)
  /-- DECK_CTRL_RESTART (R581). -/
  | deckCtrlRestart (up : Bool)
  /-- TEMP_SAMPLE (R604). -/
  | tempSample (h : Half) (k : Nat) (t : Word)
  /-- TEMP_HIGH (R605). -/
  | tempHigh (h : Half)
  /-- TEMP_NORMAL (R605). -/
  | tempNormal (h : Half)
  /-- KEY_ARM_PRESS (R564). -/
  | keyArmPress (delta : Int)
  /-- CAN_RX_ERROR (R496). -/
  | canRxError (h : Half) (p : Nat) (eight : Bool)
  /-- PROTOCOL_EXCEPTION (R482). -/
  | protocolException (h : Half) (p : Nat)
  /-- ISLAND_LOOP_POWER_UP (R250). -/
  | islandLoopPowerUp (c : Nat)
  /-- START_CLAIM_DELAY_EXPIRE (R578). -/
  | startClaimDelayExpire (h : Half)
  /-- HANDOVER_RESET (R576). -/
  | handoverReset (h : Half)
  /-- BAY_CYCLE_ON (R459). -/
  | bayCycleOn (h : Half)
  /-- DECK_LINK_UP (R26). -/
  | deckLinkUp (h : Half)
  /-- STRAP_LEVEL_CHANGE (R572). -/
  | strapLevelChange (n : Nat) (tru : Bool) (comp : Bool)
  /-- DISPLAY_UPDATE_START (R559). -/
  | displayUpdateStart (cold : Bool)
  /-- OP_TIME_STORE (R536). -/
  | opTimeStore (deck : Bool) (h : Half)
  /-- MRAM_SCRUB (R544). -/
  | mramScrub (h : Half) (damagedPins : List Nat)
  /-- AER_ERROR (R546). -/
  | aerError (h : Half) (m : Nat) (fatal : Bool)
  deriving DecidableEq, Repr

end Sys2Proof
end

