-- ==== Sys2Proof/Decode.lean ====
section
/-! DEFINITION. The command that a word spells. spec/opcode_table.json gives no row any bits: a command is a written
register, an operation of a bus or an event, and no word spells one. -/
namespace Sys2Proof

/-- The command spelled by a word of the opcode table's bits: none of its rows has any. DESIGN CHOICE: note 140. -/
def decodeTableWord (_nbits _w : Nat) : Option Instr := none

end Sys2Proof
end

