-- ==== Sys2Proof/Machine/Map.lean ====
section
/-! DEFINITION. Sparse maps in one canonical form (keys strictly rising, no entry equal to what an unlisted key
reads as), and the bit-field helpers of the registers. -/
namespace Sys2Proof.Machine

/-- A sparse map from a number (an address, an index) to a value. -/
abbrev Map (α : Type) := List (Nat × α)

/-- What key `k` holds; an unlisted key reads as `d k`. -/
def Map.get {α : Type} (d : Nat → α) : Map α → Nat → α
  | [], k => d k
  | (i, v) :: m, k => if i = k then v else Map.get d m k

/-- The map without key `k`. -/
def Map.del {α : Type} : Map α → Nat → Map α
  | [], _ => []
  | (i, v) :: m, k => if i = k then Map.del m k else (i, v) :: Map.del m k

/-- The map with key `k` listed, kept in rising order. -/
def Map.ins {α : Type} : Map α → Nat → α → Map α
  | [], k, w => [(k, w)]
  | (i, v) :: m, k, w =>
    if k < i then (k, w) :: (i, v) :: m
    else if i = k then (k, w) :: m
    else (i, v) :: Map.ins m k w

/-- Write key `k`; writing what an unlisted key reads as removes the entry. DEDUCED: note 9. -/
def Map.set {α : Type} [DecidableEq α] (d : Nat → α) (m : Map α) (k : Nat) (w : α) : Map α :=
  if w = d k then Map.del m k else Map.ins m k w

/-- Keys strictly rising. -/
def Map.rising {α : Type} : Map α → Bool
  | [] => true
  | [_] => true
  | (i, _) :: (j, w) :: m => decide (i < j) && Map.rising ((j, w) :: m)

/-- No entry equals what an unlisted key reads as. -/
def Map.noDefault {α : Type} [DecidableEq α] (d : Nat → α) : Map α → Bool
  | [] => true
  | (i, v) :: m => decide (v ≠ d i) && Map.noDefault d m

/-- The canonical form. -/
def Map.wf {α : Type} [DecidableEq α] (d : Nat → α) (m : Map α) : Bool :=
  Map.rising m && Map.noDefault d m

/-- Every key that `p` names goes back to what an unlisted key reads as. -/
def Map.clearIf {α : Type} (p : Nat → Bool) (m : Map α) : Map α := m.filter (fun e => !p e.1)

/-- Bits [hi:lo] of a word, as a number. -/
def bits (w : Word) (hi lo : Nat) : Nat := (w.toNat >>> lo) % 2 ^ (hi + 1 - lo)

/-- Bit [n] of a word. -/
def bit (w : Word) (n : Nat) : Bool := w.getLsbD n

/-- A word with bits [hi:lo] replaced by the low bits of `v`. -/
def setBits (w : Word) (hi lo v : Nat) : Word :=
  let m := (2 ^ (hi + 1 - lo) - 1) <<< lo
  BitVec.ofNat 32 (w.toNat - (w.toNat &&& m) + (v % 2 ^ (hi + 1 - lo)) <<< lo)

/-- A word with bit [n] set to `b`. -/
def setBit (w : Word) (n : Nat) (b : Bool) : Word := setBits w n n b.toNat

/-- The number that a list of little-endian bytes spells. -/
def leNat : List Byte → Nat
  | [] => 0
  | b :: bs => b.toNat + 256 * leNat bs

/-- The low `n` bytes of a number, little-endian. -/
def leBytes : Nat → Nat → List Byte
  | 0, _ => []
  | n + 1, v => BitVec.ofNat 8 v :: leBytes n (v / 256)

/-- The two's-complement value of the low `w` bits of `v`. -/
def signedOf (w v : Nat) : Int :=
  let u := v % 2 ^ w
  if u < 2 ^ (w - 1) then (u : Int) else (u : Int) - (2 ^ w : Nat)

/-- The `w`-bit two's-complement pattern of an integer. -/
def patOf (w : Nat) (i : Int) : Nat := (i % ((2 ^ w : Nat) : Int)).toNat

/-- `i` held within [lo, hi]. -/
def clampInt (lo hi i : Int) : Int := if i < lo then lo else if hi < i then hi else i

/-- `n` held within [lo, hi]. -/
def clampNat (lo hi n : Nat) : Nat := if n < lo then lo else if hi < n then hi else n

/-- Add without passing `m`. -/
def satAdd (m n k : Nat) : Nat := if n + k ≤ m then n + k else m

/-- The lowest-numbered element of [0, n) that `p` names. -/
def findBelow (p : Nat → Bool) (n : Nat) : Option Nat := (List.range n).find? p

/-- A bit map of `n` bits from a predicate: bit [i] is `p i`. -/
def bitMap (n : Nat) (p : Nat → Bool) : Word :=
  BitVec.ofNat 32 ((List.range n).foldl (fun w i => if p i then w + 2 ^ i else w) 0)

/-- Put `a` into an ordered list before the first element that `le` does not place ahead of it. -/
def insertBy {α : Type} (le : α → α → Bool) (a : α) : List α → List α
  | [] => [a]
  | x :: l => if le a x then a :: x :: l else x :: insertBy le a l
/-- A list in the order `le`; elements that are equal in it keep their order. -/
def sortBy {α : Type} (le : α → α → Bool) : List α → List α
  | [] => []
  | x :: l => insertBy le x (sortBy le l)

end Sys2Proof.Machine
end

