-- ==== Sys2Proof/Machine/Hash.lean ====
section
/-! DEFINITION. CRC-32 of R77, CRC-16 of R196 and SHA-256 (FIPS 180-4, R311, R582). PRESUMED: note 27. -/
namespace Sys2Proof.Machine

/-- `n` shift steps of the reflected CRC-32 register (polynomial 0x04C1_1DB7 reflected). -/
def crc32Step : Nat → Word → Word
  | 0, c => c
  | n + 1, c => crc32Step n (if c.getLsbD 0 then (c >>> 1) ^^^ 0xEDB88320 else c >>> 1)
/-- The CRC-32 register after some bytes. -/
def crc32Run (c : Word) (bs : List Byte) : Word := bs.foldl (fun c b => crc32Step 8 (c ^^^ b.setWidth 32)) c
/-- CRC-32 with the parameters of R77. -/
def crc32 (bs : List Byte) : Word := crc32Run 0xFFFFFFFF bs ^^^ 0xFFFFFFFF

/-- `n` shift steps of the CRC-16 register (polynomial 0x1021, not reflected). -/
def crc16Step : Nat → BitVec 16 → BitVec 16
  | 0, c => c
  | n + 1, c => crc16Step n (if c.getLsbD 15 then (c <<< 1) ^^^ 0x1021 else c <<< 1)
/-- CRC-16 with the parameters of R196. -/
def crc16 (bs : List Byte) : BitVec 16 := bs.foldl (fun c b => crc16Step 8 (c ^^^ ((b.setWidth 16 : BitVec 16) <<< (8 : Nat)))) 0xFFFF

/-- The round constants of SHA-256. -/
def shaK : List Nat :=
  [0x428a2f98, 0x71374491, 0xb5c0fbcf, 0xe9b5dba5, 0x3956c25b, 0x59f111f1, 0x923f82a4, 0xab1c5ed5,
   0xd807aa98, 0x12835b01, 0x243185be, 0x550c7dc3, 0x72be5d74, 0x80deb1fe, 0x9bdc06a7, 0xc19bf174,
   0xe49b69c1, 0xefbe4786, 0x0fc19dc6, 0x240ca1cc, 0x2de92c6f, 0x4a7484aa, 0x5cb0a9dc, 0x76f988da,
   0x983e5152, 0xa831c66d, 0xb00327c8, 0xbf597fc7, 0xc6e00bf3, 0xd5a79147, 0x06ca6351, 0x14292967] ++
  [0x27b70a85, 0x2e1b2138, 0x4d2c6dfc, 0x53380d13, 0x650a7354, 0x766a0abb, 0x81c2c92e, 0x92722c85,
   0xa2bfe8a1, 0xa81a664b, 0xc24b8b70, 0xc76c51a3, 0xd192e819, 0xd6990624, 0xf40e3585, 0x106aa070,
   0x19a4c116, 0x1e376c08, 0x2748774c, 0x34b0bcb5, 0x391c0cb3, 0x4ed8aa4a, 0x5b9cca4f, 0x682e6ff3,
   0x748f82ee, 0x78a5636f, 0x84c87814, 0x8cc70208, 0x90befffa, 0xa4506ceb, 0xbef9a3f7, 0xc67178f2]
/-- The initial hash value of SHA-256. -/
def shaInit : List Word :=
  [0x6a09e667, 0xbb67ae85, 0x3c6ef372, 0xa54ff53a, 0x510e527f, 0x9b05688c, 0x1f83d9ab, 0x5be0cd19]

/-- A 32-bit big-endian number from four bytes. -/
def be32 (bs : List Byte) : Word := BitVec.ofNat 32 (bs.foldl (fun n b => n * 256 + b.toNat) 0)
/-- The `n` big-endian words of a byte list. -/
def beWords : Nat → List Byte → List Word
  | 0, _ => []
  | n + 1, bs => be32 (bs.take 4) :: beWords n (bs.drop 4)

/-- The message schedule, newest word first. -/
def shaSched : Nat → List Word → List Word
  | 0, w => w
  | n + 1, w =>
    let a := w.getD 14 0
    let b := w.getD 1 0
    let s0 := a.rotateRight 7 ^^^ a.rotateRight 18 ^^^ (a >>> 3)
    let s1 := b.rotateRight 17 ^^^ b.rotateRight 19 ^^^ (b >>> 10)
    shaSched n ((w.getD 15 0 + s0 + w.getD 6 0 + s1) :: w)

/-- The compression rounds over the schedule. -/
def shaRounds : List (Word × Nat) → List Word → List Word
  | [], v => v
  | (w, k) :: r, v =>
    let a := v.getD 0 0
    let e := v.getD 4 0
    let s1 := e.rotateRight 6 ^^^ e.rotateRight 11 ^^^ e.rotateRight 25
    let ch := (e &&& v.getD 5 0) ^^^ (~~~ e &&& v.getD 6 0)
    let t1 := v.getD 7 0 + s1 + ch + BitVec.ofNat 32 k + w
    let s0 := a.rotateRight 2 ^^^ a.rotateRight 13 ^^^ a.rotateRight 22
    let mj := (a &&& v.getD 1 0) ^^^ (a &&& v.getD 2 0) ^^^ (v.getD 1 0 &&& v.getD 2 0)
    shaRounds r [t1 + (s0 + mj), a, v.getD 1 0, v.getD 2 0, v.getD 3 0 + t1, e, v.getD 5 0, v.getD 6 0]

/-- One 64-byte block. -/
def shaBlock (h : List Word) (blk : List Byte) : List Word :=
  let w := (shaSched 48 (beWords 16 blk).reverse).reverse
  List.zipWith (· + ·) h (shaRounds (w.zip shaK) h)

/-- The blocks of a padded message. -/
def shaBlocks : Nat → List Byte → List Word → List Word
  | 0, _, h => h
  | n + 1, bs, h => shaBlocks n (bs.drop 64) (shaBlock h (bs.take 64))

/-- SHA-256 of a byte list, as 32 bytes. -/
def sha256 (bs : List Byte) : List Byte :=
  let l := bs.length
  let z := (119 - l % 64) % 64
  let m := bs ++ [0x80] ++ List.replicate z 0 ++ (leBytes 8 (8 * l)).reverse
  (shaBlocks (m.length / 64) m shaInit).flatMap (fun w => (leBytes 4 w.toNat).reverse)

end Sys2Proof.Machine
end

