-- ==== Sys2Proof/Config.lean ====
section
/-! DEFINITION. The values the spec leaves open, as constants without a body: nothing evaluates them or proves a value of
them. Each is applied to the model's counter of free values, or to the operands it depends on. -/
namespace Sys2Proof.Config

/-- The addend correction a follower makes, before the 100 ppm limit of R510 (the control law is not stated).
DESIGN CHOICE: note 14. -/
opaque slew : Nat → Int
/-- atan2 of R217, of which the spec states only the error bound: the binary32 pattern for the two operands.
DESIGN CHOICE: note 15. -/
opaque atan2 : Word → Word → Word
/-- The offset in the copy area at which the loader places a copy (R91: of its own choosing). DESIGN CHOICE: note 11. -/
opaque copyOffset : Nat → Nat
/-- The temperature that IEC 60751 or DIN 43760 gives for a resistance: sensor (R228), resistance and result as binary32
patterns. DESIGN CHOICE: note 16. -/
opaque rtdTemp : Nat → Word → Word
/-- The temperature that IEC 60584-1 gives for an EMF at a cold-junction temperature: type, EMF, cold junction.
DESIGN CHOICE: note 16. -/
opaque tcTemp : Nat → Word → Word → Word
/-- The ends of a thermocouple type's range in IEC 60584-1 and its span for the calibration limit, binary32 patterns.
DESIGN CHOICE: note 16. -/
opaque tcLo : Nat → Word
/-- DESIGN CHOICE: note 16. -/
opaque tcHi : Nat → Word
/-- An engine's scratch word that a sample leaves (no content stated). DESIGN CHOICE: note 13. -/
opaque scratch : Nat → Word

/-- The NONCE a node draws at a reset of its field deck (R424). DESIGN CHOICE: note 17. -/
opaque nonce : Nat → Nat
/-- This node's own status word in its CYCLIC frame, beside the FAULT bit (R425, R436: no content stated).
DESIGN CHOICE: note 18. -/
opaque nodeStatus : Nat → Word
/-- Where in 119-127 a receive error count above 127 falls at a good frame (ISO 11898-1 gives the range only, R496).
DESIGN CHOICE: note 19. -/
opaque recDrop : Nat → Nat
/-- Occurrences of 11 recessive bits a recovering CAN port has counted (R503): no command carries them; by ship time and port.
DESIGN CHOICE: note 19. -/
opaque recovCount : Nat → Nat → Nat

/-- A meter of the power entry (R454, R455): the voltages, currents and powers at PWR 0x1004-0x101C by word 0-6, SHARING (7),
STORE_READY (8) and the panel's STORE_OK (R563, 9); by ship time. DESIGN CHOICE: note 20. -/
opaque pwrMeter : Nat → Nat → Word
/-- The factory baseline of a touch key (R565: set per module). DESIGN CHOICE: note 21. -/
opaque keyFactory : Nat → Nat
/-- CORE_LOAD of a core (R352): execution times are not modelled; by ship time and core. DESIGN CHOICE: note 22. -/
opaque coreLoad : Nat → Nat → Nat
/-- Whether an output shut down by heat has cooled when a register write asks for its retry (R283); by the counter of free values.
DESIGN CHOICE: note 23. -/
opaque cooled : Nat → Bool
/-- Tally events CORE_FIRMWARE, ENG_BUSY, MIRROR_BUSY and DDR_BUSY (R68): how long cores, datapaths, the mirror transmitter
and the DDR controller are busy is not modelled; by event and tick. DESIGN CHOICE: note 24. -/
opaque levelOpen : Nat → Nat → Bool
/-- Choices that IEEE 754-2019 leaves open and R368 does not settle: whether tininess is detected before rounding, whether
FLT and FLE signal invalid on a quiet NaN, whether 0 times infinity plus a quiet NaN signals invalid, and whether a
conversion to integer signals inexact. DESIGN CHOICE: note 25. -/
opaque tinyBefore : Bool
/-- DESIGN CHOICE: note 25. -/
opaque cmpSignals : Bool
/-- DESIGN CHOICE: note 25. -/
opaque fmaNanInvalid : Bool
/-- DESIGN CHOICE: note 25. -/
opaque cvtInexact : Bool
/-- RLIMIT of intermediate code with a NaN operand or zeros of unlike sign (R378, R379 state no result): x, lo, hi.
DESIGN CHOICE: note 26. -/
opaque rlimitOpen : Word → Word → Word → Word
/-- Bytes of the copy area that hold no current copy (R91: no meaning); by station address. DESIGN CHOICE: note 12. -/
opaque copyFill : Nat → Word

end Sys2Proof.Config
end

