-- ==== Sys2Proof/Machine/RegMap.lean ====
section
/-! DEFINITION. The register map: where each register of the block summaries lies (R13, R40, R41 and each chapter's
register summary), its access code (R14), its commit group (R40, R44), its writable bits, its W1C bits and its reset
value (R15: bits no field map lists are reserved, read 0). Addresses are station addresses; a field-deck register is
held under its Half A address. -/
namespace Sys2Proof.Machine

/-- Access codes (R14). -/
inductive Acc where
  | ro | rw | rwm | wo | w1c | rl
  deriving DecidableEq, Repr

/-- One line of a register summary: offset in the block window, strides and counts of its indices, access code, commit
group (255: none; 18: 18 + slab), writable bits, W1C bits, reset value. -/
structure RegDesc where
  off : Nat
  idx : List (Nat × Nat)
  acc : Acc
  grp : Nat
  wmask : Nat
  cmask : Nat
  rst : Nat
  deriving DecidableEq, Repr

end Sys2Proof.Machine

namespace Sys2Proof

/-- Bit [35] of a station address names the half (R13). -/
def Half.base (h : Half) : Nat := match h with
  | .a => 0
  | .b => 0x800000000

/-- The other half. -/
def Half.other (h : Half) : Half := match h with
  | .a => .b
  | .b => .a

/-- 0 for Half A, 1 for Half B. -/
def Half.num (h : Half) : Nat := match h with
  | .a => 0
  | .b => 1

end Sys2Proof

namespace Sys2Proof.Machine

/-- The window of half-local engine `e` (R41). -/
def engBase (h : Half) (e : Nat) : Nat := h.base + 0x10000000 + 0x40000 * e
/-- The descriptor of half-local slot `q` (engine q / 8, slot q % 8; R41). -/
def slotBase (h : Half) (q : Nat) : Nat := engBase h (q / 8) + 0x1000 + 0x200 * (q % 8)
/-- The coefficient area of slot `q` in the shadow bank (R41, R108); the live bank lies 0x8000 above. -/
def coefBase (h : Half) (q : Nat) : Nat := engBase h (q / 8) + 0x10000 + 0x1000 * (q % 8)
/-- The state area of slot `q` (R41, R113). -/
def stateBase (h : Half) (q : Nat) : Nat := engBase h (q / 8) + 0x2000 + 0x400 * (q % 8)
/-- The table area of slot `q` in its cluster's table RAM (R40, R141). -/
def tableBase (h : Half) (q : Nat) : Nat := h.base + 0x20000000 + 0x200000 * (q / 128) + 0x4000 * (q % 128)
/-- The loop map entry of loop `n` (R38). -/
def loopMapAt (h : Half) (n : Nat) : Nat := h.base + 0x8000 + 4 * n

def Cmt.cmtStrobe (h : Half) : Nat := h.base + 0x10000 + 0x0
def Cmt.cmtPending (h : Half) : Nat := h.base + 0x10000 + 0x4
def Cmt.cmtDirty (h : Half) : Nat := h.base + 0x10000 + 0x8
def Cmt.cmtLateWrite (h : Half) : Nat := h.base + 0x10000 + 0xC
def Cmt.cmtStrobeRefused (h : Half) : Nat := h.base + 0x10000 + 0x10
def Cmt.cmtLock (h : Half) : Nat := h.base + 0x10000 + 0x14
def Cmt.cmtLockedWrite (h : Half) : Nat := h.base + 0x10000 + 0x18
def Cmt.cmtAbandon (h : Half) : Nat := h.base + 0x10000 + 0x1C
def Cmt.cmtHold (h : Half) (j : Nat) : Nat := h.base + 0x10000 + 0x20 + 0x4 * j
def Cmt.commitCnt (h : Half) (g : Nat) : Nat := h.base + 0x10000 + 0x80 + 0x4 * g
def Cmt.dirtyUnits (h : Half) (g : Nat) : Nat := h.base + 0x10000 + 0x100 + 0x4 * g
def Evc.srcCfg (h : Half) (s : Nat) : Nat := h.base + 0x1600000 + 0x0 + 0x4 * s
def Evc.pend (h : Half) (k : Nat) : Nat := h.base + 0x1600000 + 0x1000 + 0x4 * k
def Evc.raw (h : Half) (k : Nat) : Nat := h.base + 0x1600000 + 0x1100 + 0x4 * k
def Evc.srcCnt (h : Half) (s : Nat) : Nat := h.base + 0x1600000 + 0x2000 + 0x4 * s
def Evc.claim (h : Half) (c : Nat) : Nat := h.base + 0x1600000 + 0x3000 + 0x40 * c
def Evc.coreMask (h : Half) (c : Nat) : Nat := h.base + 0x1600000 + 0x3004 + 0x40 * c
def Evc.engWho (h : Half) (j : Nat) : Nat := h.base + 0x1600000 + 0x4000 + 0x4 * j
def Mod.snapBase (h : Half) : Nat := h.base + 0x0 + 0x200
def Mod.snapCmd (h : Half) : Nat := h.base + 0x0 + 0x204
def Mod.snapStatus (h : Half) : Nat := h.base + 0x0 + 0x208
def Mod.snapTLo (h : Half) : Nat := h.base + 0x0 + 0x20C
def Mod.snapTHi (h : Half) : Nat := h.base + 0x0 + 0x210
def Tally.ctrCfg (h : Half) (n : Nat) : Nat := h.base + 0x40000 + 0x0 + 0x4 * n
def Tally.ctrLo (h : Half) (n : Nat) : Nat := h.base + 0x40000 + 0x1000 + 0x8 * n
def Tally.ctrHi (h : Half) (n : Nat) : Nat := h.base + 0x40000 + 0x1004 + 0x8 * n
def Tally.ctrHiWr (h : Half) : Nat := h.base + 0x40000 + 0x1800
def Tally.dumpCtrl (h : Half) : Nat := h.base + 0x40000 + 0x2000
def Tally.dumpBase (h : Half) : Nat := h.base + 0x40000 + 0x2004
def Tally.dumpLen (h : Half) : Nat := h.base + 0x40000 + 0x2008
def Tally.dumpWp (h : Half) : Nat := h.base + 0x40000 + 0x200C
def Tally.dumpRp (h : Half) : Nat := h.base + 0x40000 + 0x2010
def Tally.dumpLost (h : Half) : Nat := h.base + 0x40000 + 0x2014
def Tally.dumpSeq (h : Half) : Nat := h.base + 0x40000 + 0x2018
def Mod.imgCmd (h : Half) : Nat := h.base + 0x0 + 0xC000
def Mod.imgLen (h : Half) : Nat := h.base + 0x0 + 0xC004
def Mod.imgStatus (h : Half) : Nat := h.base + 0x0 + 0xC008
def Mod.imgActiveIdLo (h : Half) : Nat := h.base + 0x0 + 0xC00C
def Mod.imgActiveIdHi (h : Half) : Nat := h.base + 0x0 + 0xC010
def Mod.imgStagedIdLo (h : Half) : Nat := h.base + 0x0 + 0xC014
def Mod.imgStagedIdHi (h : Half) : Nat := h.base + 0x0 + 0xC018
def Mod.imgClampCnt (h : Half) : Nat := h.base + 0x0 + 0xC01C
def Mod.imgReportDropped (h : Half) : Nat := h.base + 0x0 + 0xC020
def Mod.imgFailOffset (h : Half) : Nat := h.base + 0x0 + 0xC024
def Mod.imgPairTimeout (h : Half) : Nat := h.base + 0x0 + 0xC028
def Mod.imgSource (h : Half) : Nat := h.base + 0x0 + 0xC02C
def Slot.loopId (h : Half) (q : Nat) : Nat := slotBase h q + 0x0
def Slot.shape (h : Half) (q : Nat) : Nat := slotBase h q + 0x4
def Slot.timing (h : Half) (q : Nat) : Nat := slotBase h q + 0x8
def Slot.modeCtrl (h : Half) (q : Nat) : Nat := slotBase h q + 0xC
def Slot.intMask (h : Half) (q : Nat) : Nat := slotBase h q + 0x10
def Slot.measReq (h : Half) (q : Nat) : Nat := slotBase h q + 0x14
def Slot.missTrip (h : Half) (q : Nat) : Nat := slotBase h q + 0x18
def Slot.ref (h : Half) (q j : Nat) : Nat := slotBase h q + 0x20 + 0x4 * j
def Slot.uMan (h : Half) (q j : Nat) : Nat := slotBase h q + 0x30 + 0x4 * j
def Slot.ffExt (h : Half) (q j : Nat) : Nat := slotBase h q + 0x40 + 0x4 * j
def Slot.uSafe (h : Half) (q j : Nat) : Nat := slotBase h q + 0x50 + 0x4 * j
def Slot.lossCtrl (h : Half) (q j : Nat) : Nat := slotBase h q + 0x60 + 0x4 * j
def Slot.compCtrl (h : Half) (q j : Nat) : Nat := slotBase h q + 0x70 + 0x4 * j
def Slot.traceCtrl (h : Half) (q j : Nat) : Nat := slotBase h q + 0x80 + 0x4 * j
def Slot.status (h : Half) (q : Nat) : Nat := slotBase h q + 0xC0
def Slot.faultInfo (h : Half) (q : Nat) : Nat := slotBase h q + 0xC4
def Slot.sampleCnt (h : Half) (q : Nat) : Nat := slotBase h q + 0xC8
def Slot.eventCnt (h : Half) (q : Nat) : Nat := slotBase h q + 0xCC
def Slot.latency (h : Half) (q : Nat) : Nat := slotBase h q + 0xD0
def Slot.prepLateCnt (h : Half) (q : Nat) : Nat := slotBase h q + 0xD4
def Slot.satState (h : Half) (q : Nat) : Nat := slotBase h q + 0xD8
def Slot.uOut (h : Half) (q j : Nat) : Nat := slotBase h q + 0xE0 + 0x4 * j
def Eng.engCtrl (h : Half) (e : Nat) : Nat := h.base + 0x10000000 + 0x0 + 0x40000 * e
def Eng.slotCmd (h : Half) (e : Nat) : Nat := h.base + 0x10000000 + 0x4 + 0x40000 * e
def Eng.engStatus (h : Half) (e : Nat) : Nat := h.base + 0x10000000 + 0x8 + 0x40000 * e
def Eng.engCond (h : Half) (e : Nat) : Nat := h.base + 0x10000000 + 0xC + 0x40000 * e
def Eng.eccCorrCnt (h : Half) (e : Nat) : Nat := h.base + 0x10000000 + 0x10 + 0x40000 * e
def Eng.busy (h : Half) (e : Nat) : Nat := h.base + 0x10000000 + 0x14 + 0x40000 * e
def Eng.engLatMax (h : Half) (e : Nat) : Nat := h.base + 0x10000000 + 0x18 + 0x40000 * e
def Eng.engLatOverCnt (h : Half) (e : Nat) : Nat := h.base + 0x10000000 + 0x1C + 0x40000 * e
def Eng.queueMax (h : Half) (e : Nat) : Nat := h.base + 0x10000000 + 0x20 + 0x40000 * e
def Eng.slotCost (h : Half) (e s : Nat) : Nat := h.base + 0x10000000 + 0x40 + 0x40000 * e + 0x4 * s
def Mod.plcBalCfg (h : Half) : Nat := h.base + 0x0 + 0x2000
def Mod.plcBalLevels (h : Half) : Nat := h.base + 0x0 + 0x2004
def Mod.plcCmd (h : Half) : Nat := h.base + 0x0 + 0x2008
def Mod.plcCmdStatus (h : Half) : Nat := h.base + 0x0 + 0x200C
def Mod.plcStatus (h : Half) : Nat := h.base + 0x0 + 0x2010
def Mod.plcMoveCnt (h : Half) : Nat := h.base + 0x0 + 0x2014
def Mod.slabVfCfg (h : Half) (k : Nat) : Nat := h.base + 0x0 + 0x2020 + 0x4 * k
def Mod.slabVfStatus (h : Half) (k : Nat) : Nat := h.base + 0x0 + 0x2030 + 0x4 * k
def Mod.slabFault (h : Half) (k : Nat) : Nat := h.base + 0x0 + 0x2040 + 0x4 * k
def Mod.plcOos (h : Half) (w : Nat) : Nat := h.base + 0x0 + 0x2100 + 0x4 * w
def Mod.plcExcluded (h : Half) (w : Nat) : Nat := h.base + 0x0 + 0x2140 + 0x4 * w
def Mod.plcDisplaced (h : Half) (w : Nat) : Nat := h.base + 0x0 + 0x2180 + 0x4 * w
def Mod.plcPrepRisk (h : Half) (w : Nat) : Nat := h.base + 0x0 + 0x2380 + 0x4 * w
def Mod.plcEngLoad (h : Half) (e : Nat) : Nat := h.base + 0x0 + 0x2600 + 0x4 * e
def Drv.linkCfg (l : Nat) : Nat := 0x1300000 + 0x0 + 0x1000 * l
def Drv.linkTiming (l : Nat) : Nat := 0x1300000 + 0x4 + 0x1000 * l
def Drv.linkStatus (l : Nat) : Nat := 0x1300000 + 0x40 + 0x1000 * l
def Drv.retTime (l : Nat) : Nat := 0x1300000 + 0x44 + 0x1000 * l
def Drv.retTimeMax (l : Nat) : Nat := 0x1300000 + 0x48 + 0x1000 * l
def Drv.errCrcCnt (l : Nat) : Nat := 0x1300000 + 0x4C + 0x1000 * l
def Drv.errCodeCnt (l : Nat) : Nat := 0x1300000 + 0x50 + 0x1000 * l
def Drv.retMissCnt (l : Nat) : Nat := 0x1300000 + 0x54 + 0x1000 * l
def Drv.retStaleCnt (l : Nat) : Nat := 0x1300000 + 0x58 + 0x1000 * l
def Drv.echoMissCnt (l : Nat) : Nat := 0x1300000 + 0x5C + 0x1000 * l
def Drv.cmdMissCnt (l : Nat) : Nat := 0x1300000 + 0x60 + 0x1000 * l
def Drv.cmdLateCnt (l : Nat) : Nat := 0x1300000 + 0x64 + 0x1000 * l
def Drv.syncLossCnt (l : Nat) : Nat := 0x1300000 + 0x68 + 0x1000 * l
def Drv.lastCmd0 (l : Nat) : Nat := 0x1300000 + 0x80 + 0x1000 * l
def Drv.lastCmd1 (l : Nat) : Nat := 0x1300000 + 0x84 + 0x1000 * l
def Drv.lastRet0 (l : Nat) : Nat := 0x1300000 + 0x88 + 0x1000 * l
def Drv.lastRet1 (l : Nat) : Nat := 0x1300000 + 0x8C + 0x1000 * l
def Drv.lastRet2 (l : Nat) : Nat := 0x1300000 + 0x90 + 0x1000 * l
def Drv.lastRet3 (l : Nat) : Nat := 0x1300000 + 0x94 + 0x1000 * l
def Drv.linkCmd (l : Nat) : Nat := 0x1300000 + 0xF0 + 0x1000 * l
def Drv.faultMap (w : Nat) : Nat := 0x1300000 + 0x40000 + 0x4 * w
def Drv.errMap (w : Nat) : Nat := 0x1300000 + 0x40008 + 0x4 * w
def Mot.portCfg (p : Nat) : Nat := 0x1200000 + 0x0 + 0x4000 * p
def Mot.stepTiming (p : Nat) : Nat := 0x1200000 + 0x4 + 0x4000 * p
def Mot.microstep (p : Nat) : Nat := 0x1200000 + 0x8 + 0x4000 * p
def Mot.angleOfs (p : Nat) : Nat := 0x1200000 + 0xC + 0x4000 * p
def Mot.velMax (p : Nat) : Nat := 0x1200000 + 0x10 + 0x4000 * p
def Mot.accMax (p : Nat) : Nat := 0x1200000 + 0x14 + 0x4000 * p
def Mot.scaleSet (p : Nat) : Nat := 0x1200000 + 0x18 + 0x4000 * p
def Mot.scaleSlew (p : Nat) : Nat := 0x1200000 + 0x1C + 0x4000 * p
def Mot.iRun (p : Nat) : Nat := 0x1200000 + 0x20 + 0x4000 * p
def Mot.iHold (p : Nat) : Nat := 0x1200000 + 0x24 + 0x4000 * p
def Mot.iMax (p : Nat) : Nat := 0x1200000 + 0x28 + 0x4000 * p
def Mot.iRamp (p : Nat) : Nat := 0x1200000 + 0x2C + 0x4000 * p
def Mot.adaptGain (p : Nat) : Nat := 0x1200000 + 0x30 + 0x4000 * p
def Mot.angleStart (p : Nat) : Nat := 0x1200000 + 0x34 + 0x4000 * p
def Mot.stallAngle (p : Nat) : Nat := 0x1200000 + 0x38 + 0x4000 * p
def Mot.lagK (p : Nat) : Nat := 0x1200000 + 0x3C + 0x4000 * p
def Mot.adaptCfg (p : Nat) : Nat := 0x1200000 + 0x48 + 0x4000 * p
def Mot.segRange (p : Nat) : Nat := 0x1200000 + 0x4C + 0x4000 * p
def Mot.missHold (p : Nat) : Nat := 0x1200000 + 0x50 + 0x4000 * p
def Mot.portCmd (p : Nat) : Nat := 0x1200000 + 0x80 + 0x4000 * p
def Mot.posSetVal (p : Nat) : Nat := 0x1200000 + 0x84 + 0x4000 * p
def Mot.portStatus (p : Nat) : Nat := 0x1200000 + 0xC0 + 0x4000 * p
def Mot.stepPos (p : Nat) : Nat := 0x1200000 + 0xC4 + 0x4000 * p
def Mot.owed (p : Nat) : Nat := 0x1200000 + 0xC8 + 0x4000 * p
def Mot.cmdVel (p : Nat) : Nat := 0x1200000 + 0xCC + 0x4000 * p
def Mot.sigma (p : Nat) : Nat := 0x1200000 + 0xD0 + 0x4000 * p
def Mot.loadAngle (p : Nat) : Nat := 0x1200000 + 0xD4 + 0x4000 * p
def Mot.iRefOut (p : Nat) : Nat := 0x1200000 + 0xD8 + 0x4000 * p
def Mot.isenA (p : Nat) : Nat := 0x1200000 + 0xDC + 0x4000 * p
def Mot.isenB (p : Nat) : Nat := 0x1200000 + 0xE0 + 0x4000 * p
def Mot.motCounts (p : Nat) : Nat := 0x1200000 + 0xE4 + 0x4000 * p
def Mot.seg (p i w : Nat) : Nat := 0x1200000 + 0x1000 + 0x4000 * p + 0xC * i + 0x4 * w
def Anc.chCfg (c : Nat) : Nat := 0x1000000 + 0x0 + 0x400 * c
def Anc.chTiming (c : Nat) : Nat := 0x1000000 + 0x4 + 0x400 * c
def Anc.grid (c : Nat) : Nat := 0x1000000 + 0x8 + 0x400 * c
def Anc.cmpCfg (c : Nat) : Nat := 0x1000000 + 0xC + 0x400 * c
def Anc.cmpLo (c : Nat) : Nat := 0x1000000 + 0x10 + 0x400 * c
def Anc.cmpHi (c : Nat) : Nat := 0x1000000 + 0x14 + 0x400 * c
def Anc.cmpHyst (c : Nat) : Nat := 0x1000000 + 0x18 + 0x400 * c
def Anc.safeValue (c : Nat) : Nat := 0x1000000 + 0x1C + 0x400 * c
def Anc.outLo (c : Nat) : Nat := 0x1000000 + 0x20 + 0x400 * c
def Anc.outHi (c : Nat) : Nat := 0x1000000 + 0x24 + 0x400 * c
def Anc.leadOhm (c : Nat) : Nat := 0x1000000 + 0x28 + 0x400 * c
def Anc.cjcFixed (c : Nat) : Nat := 0x1000000 + 0x2C + 0x400 * c
def Anc.zcCfg (c : Nat) : Nat := 0x1000000 + 0x30 + 0x400 * c
def Anc.zcLevel (c : Nat) : Nat := 0x1000000 + 0x34 + 0x400 * c
def Anc.zcHyst (c : Nat) : Nat := 0x1000000 + 0x38 + 0x400 * c
def Anc.outValue (c : Nat) : Nat := 0x1000000 + 0x100 + 0x400 * c
def Anc.calCmd (c : Nat) : Nat := 0x1000000 + 0x104 + 0x400 * c
def Anc.calRef (c : Nat) : Nat := 0x1000000 + 0x108 + 0x400 * c
def Anc.calMeas (c : Nat) : Nat := 0x1000000 + 0x10C + 0x400 * c
def Anc.calStatus (c : Nat) : Nat := 0x1000000 + 0x110 + 0x400 * c
def Anc.userGain (c : Nat) : Nat := 0x1000000 + 0x114 + 0x400 * c
def Anc.userOffset (c : Nat) : Nat := 0x1000000 + 0x118 + 0x400 * c
def Anc.chStatus (c : Nat) : Nat := 0x1000000 + 0x140 + 0x400 * c
def Anc.value (c : Nat) : Nat := 0x1000000 + 0x144 + 0x400 * c
def Anc.valueT (c : Nat) : Nat := 0x1000000 + 0x148 + 0x400 * c
def Anc.readback (c : Nat) : Nat := 0x1000000 + 0x14C + 0x400 * c
def Anc.headroom (c : Nat) : Nat := 0x1000000 + 0x150 + 0x400 * c
def Anc.cjcTemp (c : Nat) : Nat := 0x1000000 + 0x154 + 0x400 * c
def Anc.zcTLo (c : Nat) : Nat := 0x1000000 + 0x158 + 0x400 * c
def Anc.zcTHi (c : Nat) : Nat := 0x1000000 + 0x15C + 0x400 * c
def Anc.zcPeriod (c : Nat) : Nat := 0x1000000 + 0x160 + 0x400 * c
def Anc.chCounts (c : Nat) : Nat := 0x1000000 + 0x164 + 0x400 * c
def Anc.cardStatus (n : Nat) : Nat := 0x1000000 + 0x40000 + 0x100 * n
def Anc.condMap (w : Nat) : Nat := 0x1000000 + 0x41000 + 0x4 * w
def Anc.cmpMap (w : Nat) : Nat := 0x1000000 + 0x41020 + 0x4 * w
def Din.diCfg (i : Nat) : Nat := 0x1100000 + 0x0 + 0x40 * i
def Din.diFreqCfg (i : Nat) : Nat := 0x1100000 + 0x4 + 0x40 * i
def Din.diStatus (i : Nat) : Nat := 0x1100000 + 0x20 + 0x40 * i
def Din.diCount (i : Nat) : Nat := 0x1100000 + 0x24 + 0x40 * i
def Din.diFreq (i : Nat) : Nat := 0x1100000 + 0x28 + 0x40 * i
def Din.diEdgeTLo (i : Nat) : Nat := 0x1100000 + 0x2C + 0x40 * i
def Din.diEdgeTHi (i : Nat) : Nat := 0x1100000 + 0x30 + 0x40 * i
def Din.diCounts (i : Nat) : Nat := 0x1100000 + 0x34 + 0x40 * i
def Din.diCmd (i : Nat) : Nat := 0x1100000 + 0x38 + 0x40 * i
def Din.diCardStatus (n : Nat) : Nat := 0x1100000 + 0x10000 + 0x100 * n
def Din.diStateMap (w : Nat) : Nat := 0x1100000 + 0x20000 + 0x4 * w
def Din.diValidMap (w : Nat) : Nat := 0x1100000 + 0x20040 + 0x4 * w
def Din.diEdgeMap (w : Nat) : Nat := 0x1100000 + 0x20080 + 0x4 * w
def Din.diCondMap (w : Nat) : Nat := 0x1100000 + 0x200C0 + 0x4 * w
def Din.diWrapMap (w : Nat) : Nat := 0x1100000 + 0x20100 + 0x4 * w
def Dout.doCfg (o : Nat) : Nat := 0x1180000 + 0x0 + 0x40 * o
def Dout.doStatus (o : Nat) : Nat := 0x1180000 + 0x20 + 0x40 * o
def Dout.doCounts (o : Nat) : Nat := 0x1180000 + 0x24 + 0x40 * o
def Dout.doCmd (o : Nat) : Nat := 0x1180000 + 0x28 + 0x40 * o
def Dout.grpCfg (n : Nat) : Nat := 0x1180000 + 0x10000 + 0x100 * n
def Dout.outLo (n : Nat) : Nat := 0x1180000 + 0x10010 + 0x100 * n
def Dout.outHi (n : Nat) : Nat := 0x1180000 + 0x10014 + 0x100 * n
def Dout.grpCmd (n : Nat) : Nat := 0x1180000 + 0x10018 + 0x100 * n
def Dout.grpStatus (n : Nat) : Nat := 0x1180000 + 0x10020 + 0x100 * n
def Dout.outApplied (n : Nat) : Nat := 0x1180000 + 0x10024 + 0x100 * n
def Dout.outReadback (n : Nat) : Nat := 0x1180000 + 0x10028 + 0x100 * n
def Dout.wdLeft (n : Nat) : Nat := 0x1180000 + 0x1002C + 0x100 * n
def Dout.doCondMap (w : Nat) : Nat := 0x1180000 + 0x20000 + 0x4 * w
def Mod.lidDemand (h : Half) (w : Nat) : Nat := h.base + 0x0 + 0xC100 + 0x4 * w
def Mod.lidDemandSent (h : Half) (w : Nat) : Nat := h.base + 0x0 + 0xC120 + 0x4 * w
def Lid.lidCfg : Nat := 0x400000 + 0x0
def Lid.resetGrp (g : Nat) : Nat := 0x400000 + 0x100 + 0x4 * g
def Lid.termCtrl (t : Nat) : Nat := 0x400000 + 0x10000 + 0x20 * t
def Lid.termRef (t k : Nat) : Nat := 0x400000 + 0x10004 + 0x20 * t + 0x4 * k
def Lid.actDo (a w : Nat) : Nat := 0x400000 + 0x20000 + 0x40 * a + 0x4 * w
def Lid.actDl (a w : Nat) : Nat := 0x400000 + 0x20020 + 0x40 * a + 0x4 * w
def Lid.actMo (a : Nat) : Nat := 0x400000 + 0x20028 + 0x40 * a
def Lid.tpCfg (g : Nat) : Nat := 0x400000 + 0x30000 + 0x4 * g
def Lid.lidStatus : Nat := 0x400000 + 0x80000
def Lid.lidCmd : Nat := 0x400000 + 0x80004
def Lid.configCrc : Nat := 0x400000 + 0x80008
def Lid.challengeLo : Nat := 0x400000 + 0x8000C
def Lid.challengeHi : Nat := 0x400000 + 0x80010
def Lid.tokenLo : Nat := 0x400000 + 0x80014
def Lid.tokenHi : Nat := 0x400000 + 0x80018
def Lid.panelGroup : Nat := 0x400000 + 0x80020
def Lid.pwNew (w : Nat) : Nat := 0x400000 + 0x80040 + 0x4 * w
def Lid.pwSalt (w : Nat) : Nat := 0x400000 + 0x80080 + 0x4 * w
def Lid.pwVerifier (w : Nat) : Nat := 0x400000 + 0x80090 + 0x4 * w
def Lid.lidReset : Nat := 0x400000 + 0x80100
def Lid.resetStatus : Nat := 0x400000 + 0x80104
def Lid.chgSeq : Nat := 0x400000 + 0x80200
def Lid.termStatus (t : Nat) : Nat := 0x400000 + 0x90000 + 0x4 * t
def Lid.termTripT (t w : Nat) : Nat := 0x400000 + 0x91000 + 0x8 * t + 0x4 * w
def Lid.inputMap (w : Nat) : Nat := 0x400000 + 0x92000 + 0x4 * w
def Lid.disabledMap (w : Nat) : Nat := 0x400000 + 0x92100 + 0x4 * w
def Lid.targetFaultMap (w : Nat) : Nat := 0x400000 + 0x92200 + 0x4 * w
def Lid.chgLog (n w : Nat) : Nat := 0x400000 + 0xA0000 + 0x20 * n + 0x4 * w
def Apc.apcCmd (h : Half) : Nat := h.base + 0x2000000 + 0x0
def Apc.apcStatus (h : Half) : Nat := h.base + 0x2000000 + 0x4
def Apc.errqWp (h : Half) : Nat := h.base + 0x2000000 + 0x8
def Apc.errqRp (h : Half) : Nat := h.base + 0x2000000 + 0xC
def Apc.errqLost (h : Half) : Nat := h.base + 0x2000000 + 0x10
def Apc.loopqStatus (h : Half) : Nat := h.base + 0x2000000 + 0x14
def Apc.coreLoad (h : Half) (c : Nat) : Nat := h.base + 0x2000000 + 0x20 + 0x4 * c
def Apc.taskCfg (h : Half) (t : Nat) : Nat := h.base + 0x2000000 + 0x1000 + 0x40 * t
def Apc.taskPeriod (h : Half) (t : Nat) : Nat := h.base + 0x2000000 + 0x1004 + 0x40 * t
def Apc.taskPhase (h : Half) (t : Nat) : Nat := h.base + 0x2000000 + 0x1008 + 0x40 * t
def Apc.taskLimit (h : Half) (t : Nat) : Nat := h.base + 0x2000000 + 0x100C + 0x40 * t
def Apc.codeLen (h : Half) (t : Nat) : Nat := h.base + 0x2000000 + 0x1010 + 0x40 * t
def Apc.dataLen (h : Half) (t : Nat) : Nat := h.base + 0x2000000 + 0x1014 + 0x40 * t
def Apc.retLen (h : Half) (t : Nat) : Nat := h.base + 0x2000000 + 0x1018 + 0x40 * t
def Apc.layoutId (h : Half) (t : Nat) : Nat := h.base + 0x2000000 + 0x101C + 0x40 * t
def Apc.taskStatus (h : Half) (t : Nat) : Nat := h.base + 0x2000000 + 0x2000 + 0x40 * t
def Apc.cycleCnt (h : Half) (t : Nat) : Nat := h.base + 0x2000000 + 0x2004 + 0x40 * t
def Apc.overrunCnt (h : Half) (t : Nat) : Nat := h.base + 0x2000000 + 0x2008 + 0x40 * t
def Apc.execLast (h : Half) (t : Nat) : Nat := h.base + 0x2000000 + 0x200C + 0x40 * t
def Apc.execMax (h : Half) (t : Nat) : Nat := h.base + 0x2000000 + 0x2010 + 0x40 * t
def Apc.startLate (h : Half) (t : Nat) : Nat := h.base + 0x2000000 + 0x2014 + 0x40 * t
def Apc.carryCnt (h : Half) (t : Nat) : Nat := h.base + 0x2000000 + 0x2018 + 0x40 * t
def Apc.releaseLo (h : Half) (t : Nat) : Nat := h.base + 0x2000000 + 0x201C + 0x40 * t
def Apc.releaseHi (h : Half) (t : Nat) : Nat := h.base + 0x2000000 + 0x2020 + 0x40 * t
def Apc.taskCmd (h : Half) (t : Nat) : Nat := h.base + 0x2000000 + 0x203C + 0x40 * t
def Apc.errq (h : Half) (n w : Nat) : Nat := h.base + 0x2000000 + 0x4000 + 0x10 * n + 0x4 * w
def Apc.timer (h : Half) (k w : Nat) : Nat := h.base + 0x2000000 + 0x20000 + 0x20 * k + 0x4 * w
def Apc.codeCfg (h : Half) (t : Nat) : Nat := h.base + 0x2000000 + 0x1020 + 0x40 * t
def Apc.codeFault (h : Half) (t : Nat) : Nat := h.base + 0x2000000 + 0x2024 + 0x40 * t
def Apc.faultPc (h : Half) (t : Nat) : Nat := h.base + 0x2000000 + 0x2028 + 0x40 * t
def Apc.faultAddrLo (h : Half) (t : Nat) : Nat := h.base + 0x2000000 + 0x202C + 0x40 * t
def Apc.faultAddrHi (h : Half) (t : Nat) : Nat := h.base + 0x2000000 + 0x2030 + 0x40 * t
def Apc.icStatus (h : Half) (t : Nat) : Nat := h.base + 0x2000000 + 0x2034 + 0x40 * t
def HalfR.halfCfg (h : Half) : Nat := h.base + 0x200000 + 0x0
def HalfR.halfCmd (h : Half) : Nat := h.base + 0x200000 + 0x4
def HalfR.halfStatus (h : Half) : Nat := h.base + 0x200000 + 0x40
def HalfR.selfFault (h : Half) : Nat := h.base + 0x200000 + 0x44
def HalfR.whistleStatus (h : Half) : Nat := h.base + 0x200000 + 0x48
def HalfR.switchTLo (h : Half) : Nat := h.base + 0x200000 + 0x4C
def HalfR.switchTHi (h : Half) : Nat := h.base + 0x200000 + 0x50
def HalfR.switchCnt (h : Half) : Nat := h.base + 0x200000 + 0x54
def HalfR.alignStatus (h : Half) : Nat := h.base + 0x200000 + 0x58
def HalfR.mirrorLateCnt (h : Half) : Nat := h.base + 0x200000 + 0x5C
def HalfR.mirrorMismatchCnt (h : Half) : Nat := h.base + 0x200000 + 0x60
def HalfR.pairLagCnt (h : Half) : Nat := h.base + 0x200000 + 0x64
def HalfR.stbyWriteCnt (h : Half) : Nat := h.base + 0x200000 + 0x68
def HalfR.ownA (h : Half) (w : Nat) : Nat := h.base + 0x200000 + 0x80 + 0x4 * w
def HalfR.ownB (h : Half) (w : Nat) : Nat := h.base + 0x200000 + 0x90 + 0x4 * w
def HalfR.claimSent (h : Half) (w : Nat) : Nat := h.base + 0x200000 + 0xA0 + 0x4 * w
def HalfR.frozen (h : Half) (w : Nat) : Nat := h.base + 0x200000 + 0xB0 + 0x4 * w
def HalfR.trivetStatus (h : Half) : Nat := h.base + 0x200000 + 0xC0
def HalfR.alignedMap (h : Half) (w : Nat) : Nat := h.base + 0x200000 + 0x1000 + 0x4 * w
def HalfR.mismatchMap (h : Half) (w : Nat) : Nat := h.base + 0x200000 + 0x1200 + 0x4 * w
def Trk.trkCfg (h : Half) : Nat := h.base + 0x800000 + 0x0
def Trk.slotCfg (h : Half) : Nat := h.base + 0x800000 + 0x4
def Trk.acycCfg (h : Half) : Nat := h.base + 0x800000 + 0x8
def Trk.pubCfg (h : Half) : Nat := h.base + 0x800000 + 0xC
def Trk.pubBase (h : Half) : Nat := h.base + 0x800000 + 0x10
def Trk.stnCfg (h : Half) (s : Nat) : Nat := h.base + 0x800000 + 0x100 + 0x4 * s
def Trk.trkStatus (h : Half) : Nat := h.base + 0x800000 + 0x1000
def Trk.cycleNum (h : Half) : Nat := h.base + 0x800000 + 0x1004
def Trk.portStatus (h : Half) (p : Nat) : Nat := h.base + 0x800000 + 0x1010 + 0x4 * p
def Trk.laneEq (h : Half) (p l : Nat) : Nat := h.base + 0x800000 + 0x1020 + 0x10 * p + 0x4 * l
def Trk.crcErrCnt (h : Half) : Nat := h.base + 0x800000 + 0x1080
def Trk.kindErrCnt (h : Half) : Nat := h.base + 0x800000 + 0x1084
def Trk.wrapCnt (h : Half) : Nat := h.base + 0x800000 + 0x1088
def Trk.postSentCnt (h : Half) : Nat := h.base + 0x800000 + 0x108C
def Trk.postFailCnt (h : Half) : Nat := h.base + 0x800000 + 0x1090
def Trk.lateAckCnt (h : Half) : Nat := h.base + 0x800000 + 0x1094
def Trk.postfailLost (h : Half) : Nat := h.base + 0x800000 + 0x1098
def Trk.tagsInUse (h : Half) : Nat := h.base + 0x800000 + 0x109C
def Trk.stnStatus (h : Half) (s : Nat) : Nat := h.base + 0x800000 + 0x1100 + 0x4 * s
def Trk.fenceMap (h : Half) (w : Nat) : Nat := h.base + 0x800000 + 0x1200 + 0x4 * w
def Trk.fenceClr (h : Half) : Nat := h.base + 0x800000 + 0x1240
def Trk.trkCmd (h : Half) : Nat := h.base + 0x800000 + 0x1244
def Trk.pdesc (h : Half) (c : Nat) : Nat := h.base + 0x800000 + 0x10000 + 0x1000 * c
def Trk.paddr (h : Half) (c : Nat) : Nat := h.base + 0x800000 + 0x10004 + 0x1000 * c
def Trk.pgo (h : Half) (c : Nat) : Nat := h.base + 0x800000 + 0x10008 + 0x1000 * c
def Trk.pstatus (h : Half) (c : Nat) : Nat := h.base + 0x800000 + 0x1000C + 0x1000 * c
def Trk.rdesc (h : Half) (c : Nat) : Nat := h.base + 0x800000 + 0x10010 + 0x1000 * c
def Trk.raddr (h : Half) (c : Nat) : Nat := h.base + 0x800000 + 0x10014 + 0x1000 * c
def Trk.rgo (h : Half) (c : Nat) : Nat := h.base + 0x800000 + 0x10018 + 0x1000 * c
def Trk.rstatus (h : Half) (c : Nat) : Nat := h.base + 0x800000 + 0x1001C + 0x1000 * c
def Trk.pdata (h : Half) (c k : Nat) : Nat := h.base + 0x800000 + 0x10400 + 0x1000 * c + 0x4 * k
def Pwr.pwrCfg (h : Half) : Nat := h.base + 0x1400000 + 0x0
def Pwr.genCtrl (h : Half) (g : Nat) : Nat := h.base + 0x1400000 + 0x100 + 0x40 * g
def Pwr.genRating (h : Half) (g : Nat) : Nat := h.base + 0x1400000 + 0x104 + 0x40 * g
def Pwr.genWeight (h : Half) (g : Nat) : Nat := h.base + 0x1400000 + 0x108 + 0x40 * g
def Pwr.genPSrc (h : Half) (g : Nat) : Nat := h.base + 0x1400000 + 0x10C + 0x40 * g
def Pwr.genPScale (h : Half) (g : Nat) : Nat := h.base + 0x1400000 + 0x110 + 0x40 * g
def Pwr.genPOffset (h : Half) (g : Nat) : Nat := h.base + 0x1400000 + 0x114 + 0x40 * g
def Pwr.genRunSrc (h : Half) (g : Nat) : Nat := h.base + 0x1400000 + 0x118 + 0x40 * g
def Pwr.genBrkSrc (h : Half) (g : Nat) : Nat := h.base + 0x1400000 + 0x11C + 0x40 * g
def Pwr.genAutoSrc (h : Half) (g : Nat) : Nat := h.base + 0x1400000 + 0x120 + 0x40 * g
def Pwr.genStartReq (h : Half) (g : Nat) : Nat := h.base + 0x1400000 + 0x124 + 0x40 * g
def Pwr.genCloseReq (h : Half) (g : Nat) : Nat := h.base + 0x1400000 + 0x128 + 0x40 * g
def Pwr.genStopReq (h : Half) (g : Nat) : Nat := h.base + 0x1400000 + 0x12C + 0x40 * g
def Pwr.busCtrl (h : Half) (b : Nat) : Nat := h.base + 0x1400000 + 0x400 + 0x40 * b
def Pwr.busFSrc (h : Half) (b : Nat) : Nat := h.base + 0x1400000 + 0x404 + 0x40 * b
def Pwr.busTieSrc (h : Half) (b : Nat) : Nat := h.base + 0x1400000 + 0x408 + 0x40 * b
def Pwr.busOrder (h : Half) (b : Nat) : Nat := h.base + 0x1400000 + 0x40C + 0x40 * b
def Pwr.startPct (h : Half) (b : Nat) : Nat := h.base + 0x1400000 + 0x410 + 0x40 * b
def Pwr.stopPct (h : Half) (b : Nat) : Nat := h.base + 0x1400000 + 0x414 + 0x40 * b
def Pwr.shedPct (h : Half) (b : Nat) : Nat := h.base + 0x1400000 + 0x418 + 0x40 * b
def Pwr.restorePct (h : Half) (b : Nat) : Nat := h.base + 0x1400000 + 0x41C + 0x40 * b
def Pwr.shedFHz (h : Half) (b : Nat) : Nat := h.base + 0x1400000 + 0x420 + 0x40 * b
def Pwr.busDelays (h : Half) (b : Nat) : Nat := h.base + 0x1400000 + 0x424 + 0x40 * b
def Pwr.shedStep (h : Half) (k : Nat) : Nat := h.base + 0x1400000 + 0x800 + 0x8 * k
def Pwr.shedKw (h : Half) (k : Nat) : Nat := h.base + 0x1400000 + 0x804 + 0x8 * k
def Pwr.restartReq (h : Half) (r : Nat) : Nat := h.base + 0x1400000 + 0xA00 + 0x8 * r
def Pwr.restartCtrl (h : Half) (r : Nat) : Nat := h.base + 0x1400000 + 0xA04 + 0x8 * r
def Pwr.pwrStatus (h : Half) : Nat := h.base + 0x1400000 + 0x1000
def Pwr.feedEV (h : Half) : Nat := h.base + 0x1400000 + 0x1004
def Pwr.feedWV (h : Half) : Nat := h.base + 0x1400000 + 0x1008
def Pwr.feedEI (h : Half) : Nat := h.base + 0x1400000 + 0x100C
def Pwr.feedWI (h : Half) : Nat := h.base + 0x1400000 + 0x1010
def Pwr.storeV (h : Half) : Nat := h.base + 0x1400000 + 0x1014
def Pwr.drawW (h : Half) : Nat := h.base + 0x1400000 + 0x1018
def Pwr.partW (h : Half) : Nat := h.base + 0x1400000 + 0x101C
def Pwr.cardPwrMap (h : Half) : Nat := h.base + 0x1400000 + 0x1020
def Pwr.cardPwrMapHi (h : Half) : Nat := h.base + 0x1400000 + 0x1024
def Pwr.pwrCmd (h : Half) : Nat := h.base + 0x1400000 + 0x1030
def Pwr.pwrCmdStatus (h : Half) : Nat := h.base + 0x1400000 + 0x1034
def Pwr.genStatus (h : Half) (g : Nat) : Nat := h.base + 0x1400000 + 0x1100 + 0x20 * g
def Pwr.genPKw (h : Half) (g : Nat) : Nat := h.base + 0x1400000 + 0x1104 + 0x20 * g
def Pwr.genShareKw (h : Half) (g : Nat) : Nat := h.base + 0x1400000 + 0x1108 + 0x20 * g
def Pwr.busStatus (h : Half) (b : Nat) : Nat := h.base + 0x1400000 + 0x1200 + 0x20 * b
def Pwr.busFHz (h : Half) (b : Nat) : Nat := h.base + 0x1400000 + 0x1204 + 0x20 * b
def Pwr.busPKw (h : Half) (b : Nat) : Nat := h.base + 0x1400000 + 0x1208 + 0x20 * b
def Pwr.busCKw (h : Half) (b : Nat) : Nat := h.base + 0x1400000 + 0x120C + 0x20 * b
def Can.objCfg (h : Half) (p k : Nat) : Nat := h.base + 0xC00000 + 0x100000 + 0x30000 * p + 0x60 * k
def Can.objId (h : Half) (p k : Nat) : Nat := h.base + 0xC00000 + 0x100004 + 0x30000 * p + 0x60 * k
def Can.objStatus (h : Half) (p k : Nat) : Nat := h.base + 0xC00000 + 0x100008 + 0x30000 * p + 0x60 * k
def Can.objCmd (h : Half) (p k : Nat) : Nat := h.base + 0xC00000 + 0x10000C + 0x30000 * p + 0x60 * k
def Can.objTimeLo (h : Half) (p k : Nat) : Nat := h.base + 0xC00000 + 0x100010 + 0x30000 * p + 0x60 * k
def Can.objTimeHi (h : Half) (p k : Nat) : Nat := h.base + 0xC00000 + 0x100014 + 0x30000 * p + 0x60 * k
def Can.objPeriod (h : Half) (p k : Nat) : Nat := h.base + 0xC00000 + 0x100018 + 0x30000 * p + 0x60 * k
def Can.data (h : Half) (p k w : Nat) : Nat := h.base + 0xC00000 + 0x100020 + 0x30000 * p + 0x60 * k + 0x4 * w
def Can.canCfg (h : Half) (p : Nat) : Nat := h.base + 0xC00000 + 0x0 + 0x1000 * p
def Can.nbt (h : Half) (p : Nat) : Nat := h.base + 0xC00000 + 0x4 + 0x1000 * p
def Can.dbt (h : Half) (p : Nat) : Nat := h.base + 0xC00000 + 0x8 + 0x1000 * p
def Can.tdcCfg (h : Half) (p : Nat) : Nat := h.base + 0xC00000 + 0xC + 0x1000 * p
def Can.recovCfg (h : Half) (p : Nat) : Nat := h.base + 0xC00000 + 0x10 + 0x1000 * p
def Can.canStatus (h : Half) (p : Nat) : Nat := h.base + 0xC00000 + 0x100 + 0x1000 * p
def Can.errCnt (h : Half) (p : Nat) : Nat := h.base + 0xC00000 + 0x104 + 0x1000 * p
def Can.canCmd (h : Half) (p : Nat) : Nat := h.base + 0xC00000 + 0x108 + 0x1000 * p
def Can.tdcStatus (h : Half) (p : Nat) : Nat := h.base + 0xC00000 + 0x10C + 0x1000 * p
def Can.rxCnt (h : Half) (p : Nat) : Nat := h.base + 0xC00000 + 0x110 + 0x1000 * p
def Can.txCnt (h : Half) (p : Nat) : Nat := h.base + 0xC00000 + 0x114 + 0x1000 * p
def Can.lostCnt (h : Half) (p : Nat) : Nat := h.base + 0xC00000 + 0x118 + 0x1000 * p
def Can.unmatchedCnt (h : Half) (p : Nat) : Nat := h.base + 0xC00000 + 0x11C + 0x1000 * p
def Can.errFrameCnt (h : Half) (p : Nat) : Nat := h.base + 0xC00000 + 0x120 + 0x1000 * p
def Can.busoffCnt (h : Half) (p : Nat) : Nat := h.base + 0xC00000 + 0x124 + 0x1000 * p
def Can.rtrCnt (h : Half) (p : Nat) : Nat := h.base + 0xC00000 + 0x128 + 0x1000 * p
def Can.protoExcCnt (h : Half) (p : Nat) : Nat := h.base + 0xC00000 + 0x12C + 0x1000 * p
def Can.monErrCnt (h : Half) (p : Nat) : Nat := h.base + 0xC00000 + 0x130 + 0x1000 * p
def Can.newMap (h : Half) (p w : Nat) : Nat := h.base + 0xC00000 + 0x200 + 0x1000 * p + 0x4 * w
def Can.txendMap (h : Half) (p w : Nat) : Nat := h.base + 0xC00000 + 0x300 + 0x1000 * p + 0x4 * w
def Can.lostMap (h : Half) (p w : Nat) : Nat := h.base + 0xC00000 + 0x400 + 0x1000 * p + 0x4 * w
def Time.timeCfg (h : Half) : Nat := h.base + 0x20000 + 0x0
def Time.addendLo (h : Half) : Nat := h.base + 0x20000 + 0x4
def Time.addendHi (h : Half) : Nat := h.base + 0x20000 + 0x8
def Time.ptpCfg (h : Half) : Nat := h.base + 0x20000 + 0xC
def Time.timeCmd (h : Half) : Nat := h.base + 0x20000 + 0x100
def Time.stepLo (h : Half) : Nat := h.base + 0x20000 + 0x104
def Time.stepHi (h : Half) : Nat := h.base + 0x20000 + 0x108
def Time.offsetReport (h : Half) : Nat := h.base + 0x20000 + 0x10C
def Time.nowLo (h : Half) : Nat := h.base + 0x20000 + 0x110
def Time.nowHi (h : Half) : Nat := h.base + 0x20000 + 0x114
def Time.timeStatus (h : Half) : Nat := h.base + 0x20000 + 0x118
def Time.offsetLast (h : Half) : Nat := h.base + 0x20000 + 0x11C
def Time.peerOffset (h : Half) : Nat := h.base + 0x20000 + 0x120
def Time.deckOffset (h : Half) : Nat := h.base + 0x20000 + 0x124
def Time.utcOffset (h : Half) : Nat := h.base + 0x20000 + 0x128
def Time.stepTLo (h : Half) : Nat := h.base + 0x20000 + 0x12C
def Time.stepTHi (h : Half) : Nat := h.base + 0x20000 + 0x130
def Time.stepCnt (h : Half) : Nat := h.base + 0x20000 + 0x134
def Time.addendEffLo (h : Half) : Nat := h.base + 0x20000 + 0x138
def Time.addendEffHi (h : Half) : Nat := h.base + 0x20000 + 0x13C
def Time.cmpTgtLo (h : Half) (k : Nat) : Nat := h.base + 0x20000 + 0x200 + 0x10 * k
def Time.cmpCtrl (h : Half) (k : Nat) : Nat := h.base + 0x20000 + 0x204 + 0x10 * k
def Time.cmpPeriod (h : Half) (k : Nat) : Nat := h.base + 0x20000 + 0x208 + 0x10 * k
def Time.cmpStatus (h : Half) (k : Nat) : Nat := h.base + 0x20000 + 0x20C + 0x10 * k
def Time.cmpMap (h : Half) (w : Nat) : Nat := h.base + 0x20000 + 0x600 + 0x4 * w
def Time.sclk (h : Half) (c w : Nat) : Nat := h.base + 0x20000 + 0x800 + 0x8 * c + 0x4 * w
def Tray.trayBase (h : Half) (t : Nat) : Nat := h.base + 0x100000 + 0x0 + 0x40 * t
def Tray.trayLen (h : Half) (t : Nat) : Nat := h.base + 0x100000 + 0x4 + 0x40 * t
def Tray.trayStall (h : Half) (t : Nat) : Nat := h.base + 0x100000 + 0x8 + 0x40 * t
def Tray.trayInfo (h : Half) (t : Nat) : Nat := h.base + 0x100000 + 0xC + 0x40 * t
def Tray.trayWp (h : Half) (t : Nat) : Nat := h.base + 0x100000 + 0x10 + 0x40 * t
def Tray.trayRes (h : Half) (t : Nat) : Nat := h.base + 0x100000 + 0x14 + 0x40 * t
def Tray.trayRp (h : Half) (t : Nat) : Nat := h.base + 0x100000 + 0x18 + 0x40 * t
def Tray.trayStatus (h : Half) (t : Nat) : Nat := h.base + 0x100000 + 0x1C + 0x40 * t
def Tray.headLo (h : Half) (t : Nat) : Nat := h.base + 0x100000 + 0x20 + 0x40 * t
def Tray.headHi (h : Half) (t : Nat) : Nat := h.base + 0x100000 + 0x24 + 0x40 * t
def Tray.trayCnt (h : Half) (t : Nat) : Nat := h.base + 0x100000 + 0x28 + 0x40 * t
def Tray.discardCnt (h : Half) (t : Nat) : Nat := h.base + 0x100000 + 0x2C + 0x40 * t
def Tray.fullCnt (h : Half) (t : Nat) : Nat := h.base + 0x100000 + 0x30 + 0x40 * t
def Tray.trayCmd (h : Half) : Nat := h.base + 0x100000 + 0x1000
def Tray.mbrCfg (h : Half) (m : Nat) : Nat := h.base + 0x100000 + 0x40000 + 0x20 * m
def Tray.mbrNsid (h : Half) (m : Nat) : Nat := h.base + 0x100000 + 0x40004 + 0x20 * m
def Tray.mbrLbaLo (h : Half) (m : Nat) : Nat := h.base + 0x100000 + 0x40008 + 0x20 * m
def Tray.mbrLbaHi (h : Half) (m : Nat) : Nat := h.base + 0x100000 + 0x4000C + 0x20 * m
def Tray.mbrStatus (h : Half) (m : Nat) : Nat := h.base + 0x100000 + 0x40010 + 0x20 * m
def Tray.pantryLayout (h : Half) : Nat := h.base + 0x100000 + 0x40400
def Tray.memberMib (h : Half) : Nat := h.base + 0x100000 + 0x40404
def Tray.pantryCmd (h : Half) : Nat := h.base + 0x100000 + 0x40410
def Tray.pantryStatus (h : Half) : Nat := h.base + 0x100000 + 0x40414
def Tray.rdBlkLo (h : Half) : Nat := h.base + 0x100000 + 0x40418
def Tray.rdBlkHi (h : Half) : Nat := h.base + 0x100000 + 0x4041C
def Tray.rdLen (h : Half) : Nat := h.base + 0x100000 + 0x40420
def Tray.rdDst (h : Half) : Nat := h.base + 0x100000 + 0x40424
def Tray.strCfg (h : Half) (s : Nat) : Nat := h.base + 0x100000 + 0x41000 + 0x40 * s
def Tray.strStart (h : Half) (s : Nat) : Nat := h.base + 0x100000 + 0x41004 + 0x40 * s
def Tray.strLen (h : Half) (s : Nat) : Nat := h.base + 0x100000 + 0x41008 + 0x40 * s
def Tray.strPost (h : Half) (s : Nat) : Nat := h.base + 0x100000 + 0x4100C + 0x40 * s
def Tray.strCmd (h : Half) (s : Nat) : Nat := h.base + 0x100000 + 0x41010 + 0x40 * s
def Tray.strStatus (h : Half) (s : Nat) : Nat := h.base + 0x100000 + 0x41014 + 0x40 * s
def Tray.strSeqLo (h : Half) (s : Nat) : Nat := h.base + 0x100000 + 0x41018 + 0x40 * s
def Tray.strSeqHi (h : Half) (s : Nat) : Nat := h.base + 0x100000 + 0x4101C + 0x40 * s
def Tray.strLost (h : Half) (s : Nat) : Nat := h.base + 0x100000 + 0x41020 + 0x40 * s
def Tray.trigSeq (h : Half) (s : Nat) : Nat := h.base + 0x100000 + 0x41024 + 0x40 * s
def Log.logCfg (h : Half) : Nat := h.base + 0x80000 + 0x0
def Log.logCmd (h : Half) : Nat := h.base + 0x80000 + 0x4
def Log.logStatus (h : Half) : Nat := h.base + 0x80000 + 0x8
def Log.firstSeq (h : Half) : Nat := h.base + 0x80000 + 0xC
def Log.nextSeq (h : Half) : Nat := h.base + 0x80000 + 0x10
def Log.logQueue (h : Half) : Nat := h.base + 0x80000 + 0x14
def Log.pinWp (h : Half) : Nat := h.base + 0x80000 + 0x18
def Log.pinCp (h : Half) : Nat := h.base + 0x80000 + 0x1C
def Log.pinOverrun (h : Half) : Nat := h.base + 0x80000 + 0x20
def Log.opTimeLo (h : Half) : Nat := h.base + 0x80000 + 0x24
def Log.opTimeHi (h : Half) : Nat := h.base + 0x80000 + 0x28
def Log.cycles (h : Half) : Nat := h.base + 0x80000 + 0x2C
def Log.rdSeq (h : Half) : Nat := h.base + 0x80000 + 0x30
def Log.rdCount (h : Half) : Nat := h.base + 0x80000 + 0x34
def Log.rdDst (h : Half) : Nat := h.base + 0x80000 + 0x38
def Log.clrTokenLo (h : Half) : Nat := h.base + 0x80000 + 0x3C
def Log.clrTokenHi (h : Half) : Nat := h.base + 0x80000 + 0x40
def Log.flashStatus (h : Half) : Nat := h.base + 0x80000 + 0x44
def Log.lostCnt (h : Half) (k : Nat) : Nat := h.base + 0x80000 + 0x100 + 0x4 * k
def Log.lostPend (h : Half) (k : Nat) : Nat := h.base + 0x80000 + 0x180 + 0x4 * k
def Pnl.pnlCfg : Nat := 0x1500000 + 0x0
def Pnl.keyCfg : Nat := 0x1500000 + 0x4
def Pnl.pnlStatus : Nat := 0x1500000 + 0x100
def Pnl.pnlCmd : Nat := 0x1500000 + 0x104
def Pnl.keyStatus (k : Nat) : Nat := 0x1500000 + 0x110 + 0x4 * k
def Pnl.keyBase (k : Nat) : Nat := 0x1500000 + 0x120 + 0x4 * k
def Pnl.userFrame (w : Nat) : Nat := 0x1500000 + 0x10000 + 0x4 * w
def Pnl.alarmText (n w : Nat) : Nat := 0x1500000 + 0x20000 + 0x40 * n + 0x4 * w
def Mod.idHw (h : Half) : Nat := h.base + 0x0 + 0x0
def Mod.idFw (h : Half) : Nat := h.base + 0x0 + 0x4
def Mod.straps (h : Half) : Nat := h.base + 0x0 + 0x8
def Mod.strapFaults (h : Half) : Nat := h.base + 0x0 + 0xC
def Mod.resetCause (h : Half) : Nat := h.base + 0x0 + 0x10
def Mod.resetCmd (h : Half) : Nat := h.base + 0x0 + 0x14
def Mod.deckRefusedCnt (h : Half) : Nat := h.base + 0x0 + 0x18
def Mod.halfWd (h : Half) : Nat := h.base + 0x0 + 0x1C
def Mod.selftest (h : Half) : Nat := h.base + 0x0 + 0x20
def Mod.resetStatus (h : Half) : Nat := h.base + 0x0 + 0x24
def Mod.fwCmd (h : Half) : Nat := h.base + 0x0 + 0x30
def Mod.fwSrc (h : Half) : Nat := h.base + 0x0 + 0x34
def Mod.fwLen (h : Half) : Nat := h.base + 0x0 + 0x38
def Mod.fwStatus (h : Half) : Nat := h.base + 0x0 + 0x3C
def Mod.temp (h : Half) (k : Nat) : Nat := h.base + 0x0 + 0x100 + 0x4 * k

/-- The register summary of block MOD. -/
def descMod : List RegDesc := [
  ⟨0x200, [], .rw, 255, 0xFFFFFF, 0x0, 0x0⟩, -- SNAP_BASE
  ⟨0x204, [], .wo, 255, 0x0, 0x0, 0x0⟩, -- SNAP_CMD
  ⟨0x208, [], .ro, 255, 0x0, 0x0, 0x0⟩, -- SNAP_STATUS
  ⟨0x20C, [], .ro, 255, 0x0, 0x0, 0x0⟩, -- SNAP_T_LO
  ⟨0x210, [], .ro, 255, 0x0, 0x0, 0x0⟩, -- SNAP_T_HI
  ⟨0xC000, [], .wo, 255, 0x0, 0x0, 0x0⟩, -- IMG_CMD
  ⟨0xC004, [], .rw, 255, 0x3FFFFFFF, 0x0, 0x0⟩, -- IMG_LEN
  ⟨0xC008, [], .ro, 255, 0x0, 0x0, 0x0⟩, -- IMG_STATUS
  ⟨0xC00C, [], .ro, 255, 0x0, 0x0, 0x0⟩, -- IMG_ACTIVE_ID_LO
  ⟨0xC010, [], .ro, 255, 0x0, 0x0, 0x0⟩, -- IMG_ACTIVE_ID_HI
  ⟨0xC014, [], .ro, 255, 0x0, 0x0, 0x0⟩, -- IMG_STAGED_ID_LO
  ⟨0xC018, [], .ro, 255, 0x0, 0x0, 0x0⟩, -- IMG_STAGED_ID_HI
  ⟨0xC01C, [], .ro, 255, 0x0, 0x0, 0x0⟩, -- IMG_CLAMP_CNT
  ⟨0xC020, [], .ro, 255, 0x0, 0x0, 0x0⟩, -- IMG_REPORT_DROPPED
  ⟨0xC024, [], .ro, 255, 0x0, 0x0, 0x0⟩, -- IMG_FAIL_OFFSET
  ⟨0xC028, [], .rw, 255, 0x3FFF, 0x0, 0x3E8⟩, -- IMG_PAIR_TIMEOUT
  ⟨0xC02C, [], .ro, 255, 0x0, 0x0, 0x0⟩, -- IMG_SOURCE
  ⟨0x2000, [], .rw, 0, 0xFFFFFF03, 0x0, 0x3E803⟩, -- PLC_BAL_CFG
  ⟨0x2004, [], .rw, 0, 0xFFFFFFFF, 0x0, 0xF00168⟩, -- PLC_BAL_LEVELS
  ⟨0x2008, [], .wo, 255, 0x0, 0x0, 0x0⟩, -- PLC_CMD
  ⟨0x200C, [], .ro, 255, 0x0, 0x0, 0x0⟩, -- PLC_CMD_STATUS
  ⟨0x2010, [], .ro, 255, 0x0, 0x0, 0x200⟩, -- PLC_STATUS
  ⟨0x2014, [], .ro, 255, 0x0, 0x0, 0x0⟩, -- PLC_MOVE_CNT
  ⟨0x2020, [(0x4, 4)], .rw, 0, 0xFF1F01, 0x0, 0x5A0000⟩, -- SLAB_VF_CFG
  ⟨0x2030, [(0x4, 4)], .ro, 255, 0x0, 0x0, 0x0⟩, -- SLAB_VF_STATUS
  ⟨0x2040, [(0x4, 4)], .ro, 255, 0x0, 0x0, 0x0⟩, -- SLAB_FAULT
  ⟨0x2100, [(0x4, 16)], .ro, 255, 0x0, 0x0, 0x0⟩, -- PLC_OOS
  ⟨0x2140, [(0x4, 16)], .ro, 255, 0x0, 0x0, 0x0⟩, -- PLC_EXCLUDED
  ⟨0x2180, [(0x4, 128)], .ro, 255, 0x0, 0x0, 0x0⟩, -- PLC_DISPLACED
  ⟨0x2380, [(0x4, 128)], .ro, 255, 0x0, 0x0, 0x0⟩, -- PLC_PREP_RISK
  ⟨0x2600, [(0x4, 512)], .ro, 255, 0x0, 0x0, 0x0⟩, -- PLC_ENG_LOAD
  ⟨0xC100, [(0x4, 8)], .rw, 255, 0xFFFFFFFF, 0x0, 0x0⟩, -- LID_DEMAND
  ⟨0xC120, [(0x4, 8)], .ro, 255, 0x0, 0x0, 0x0⟩, -- LID_DEMAND_SENT
  ⟨0x0, [], .ro, 255, 0x0, 0x0, 0x40960303⟩, -- ID_HW
  ⟨0x4, [], .ro, 255, 0x0, 0x0, 0x0⟩, -- ID_FW
  ⟨0x8, [], .ro, 255, 0x0, 0x0, 0x0⟩, -- STRAPS
  ⟨0xC, [], .ro, 255, 0x0, 0x0, 0x0⟩, -- STRAP_FAULTS
  ⟨0x10, [], .ro, 255, 0x0, 0x0, 0x0⟩, -- RESET_CAUSE
  ⟨0x14, [], .wo, 255, 0x0, 0x0, 0x0⟩, -- RESET_CMD
  ⟨0x18, [], .ro, 255, 0x0, 0x0, 0x0⟩, -- DECK_REFUSED_CNT
  ⟨0x1C, [], .wo, 255, 0x0, 0x0, 0x0⟩, -- HALF_WD
  ⟨0x20, [], .ro, 255, 0x0, 0x0, 0x0⟩, -- SELFTEST
  ⟨0x24, [], .ro, 255, 0x0, 0x0, 0x0⟩, -- RESET_STATUS
  ⟨0x30, [], .wo, 255, 0x0, 0x0, 0x0⟩, -- FW_CMD
  ⟨0x34, [], .rw, 255, 0x3FFFFFFF, 0x0, 0x0⟩, -- FW_SRC
  ⟨0x38, [], .rw, 255, 0xFFFFFFF, 0x0, 0x0⟩, -- FW_LEN
  ⟨0x3C, [], .ro, 255, 0x0, 0x0, 0x0⟩, -- FW_STATUS
  ⟨0x100, [(0x4, 9)], .ro, 255, 0x0, 0x0, 0x80008000⟩, -- TEMP
  ⟨0x8000, [(0x4, 4096)], .ro, 255, 0x0, 0x0, 0x0⟩] -- LOOP_MAP

/-- The register summary of block CMT. -/
def descCmt : List RegDesc := [
  ⟨0x0, [], .wo, 255, 0x0, 0x0, 0x0⟩, -- CMT_STROBE
  ⟨0x4, [], .ro, 255, 0x0, 0x0, 0x0⟩, -- CMT_PENDING
  ⟨0x8, [], .ro, 255, 0x0, 0x0, 0x0⟩, -- CMT_DIRTY
  ⟨0xC, [], .w1c, 255, 0x0, 0x3FFFFF, 0x0⟩, -- CMT_LATE_WRITE
  ⟨0x10, [], .w1c, 255, 0x0, 0x803FFFFF, 0x0⟩, -- CMT_STROBE_REFUSED
  ⟨0x14, [], .rw, 255, 0x3FFFFF, 0x0, 0x0⟩, -- CMT_LOCK
  ⟨0x18, [], .w1c, 255, 0x0, 0x3FFFFF, 0x0⟩, -- CMT_LOCKED_WRITE
  ⟨0x1C, [], .wo, 255, 0x0, 0x0, 0x0⟩, -- CMT_ABANDON
  ⟨0x20, [(0x4, 8)], .rw, 255, 0x80000FFF, 0x0, 0x0⟩, -- CMT_HOLD
  ⟨0x80, [(0x4, 22)], .ro, 255, 0x0, 0x0, 0x0⟩, -- COMMIT_CNT
  ⟨0x100, [(0x4, 22)], .ro, 255, 0x0, 0x0, 0x0⟩] -- DIRTY_UNITS

/-- The register summary of block TIME. -/
def descTime : List RegDesc := [
  ⟨0x0, [], .rw, 1, 0xFFFFFFF, 0x0, 0x3E80AA0⟩, -- TIME_CFG
  ⟨0x4, [], .rw, 1, 0xFFFFFFFF, 0x0, 0x0⟩, -- ADDEND_LO
  ⟨0x8, [], .rw, 1, 0xFFFFFFFF, 0x0, 0x4⟩, -- ADDEND_HI
  ⟨0xC, [], .rw, 1, 0x37F, 0x0, 0x0⟩, -- PTP_CFG
  ⟨0x100, [], .wo, 255, 0x0, 0x0, 0x0⟩, -- TIME_CMD
  ⟨0x104, [], .rw, 255, 0xFFFFFFFF, 0x0, 0x0⟩, -- STEP_LO
  ⟨0x108, [], .rw, 255, 0xFFFFFFFF, 0x0, 0x0⟩, -- STEP_HI
  ⟨0x10C, [], .wo, 255, 0x0, 0x0, 0x0⟩, -- OFFSET_REPORT
  ⟨0x110, [], .ro, 255, 0x0, 0x0, 0x0⟩, -- NOW_LO
  ⟨0x114, [], .ro, 255, 0x0, 0x0, 0x0⟩, -- NOW_HI
  ⟨0x118, [], .ro, 255, 0x0, 0x0, 0x0⟩, -- TIME_STATUS
  ⟨0x11C, [], .ro, 255, 0x0, 0x0, 0x0⟩, -- OFFSET_LAST
  ⟨0x120, [], .ro, 255, 0x0, 0x0, 0x0⟩, -- PEER_OFFSET
  ⟨0x124, [], .ro, 255, 0x0, 0x0, 0x0⟩, -- DECK_OFFSET
  ⟨0x128, [], .rw, 255, 0xFFFF, 0x0, 0x25⟩, -- UTC_OFFSET
  ⟨0x12C, [], .ro, 255, 0x0, 0x0, 0x0⟩, -- STEP_T_LO
  ⟨0x130, [], .ro, 255, 0x0, 0x0, 0x0⟩, -- STEP_T_HI
  ⟨0x134, [], .ro, 255, 0x0, 0x0, 0x0⟩, -- STEP_CNT
  ⟨0x138, [], .ro, 255, 0x0, 0x0, 0x0⟩, -- ADDEND_EFF_LO
  ⟨0x13C, [], .ro, 255, 0x0, 0x0, 0x0⟩, -- ADDEND_EFF_HI
  ⟨0x200, [(0x10, 64)], .rw, 255, 0xFFFFFFFF, 0x0, 0x0⟩, -- CMP_TGT_LO
  ⟨0x204, [(0x10, 64)], .rw, 255, 0x700FF, 0x0, 0x0⟩, -- CMP_CTRL
  ⟨0x208, [(0x10, 64)], .rw, 255, 0xFFFFFFFF, 0x0, 0xF4240⟩, -- CMP_PERIOD
  ⟨0x20C, [(0x10, 64)], .ro, 255, 0x0, 0x1, 0x0⟩, -- CMP_STATUS
  ⟨0x600, [(0x4, 2)], .w1c, 255, 0x0, 0xFFFFFFFF, 0x0⟩, -- CMP_MAP
  ⟨0x800, [(0x8, 512), (0x4, 2)], .ro, 255, 0x0, 0x0, 0x0⟩] -- SCLK

/-- The register summary of block TALLY. -/
def descTally : List RegDesc := [
  ⟨0x0, [(0x4, 256)], .rw, 2, 0x7FFFF, 0x1000000, 0x0⟩, -- CTR_CFG
  ⟨0x1000, [(0x8, 256)], .rw, 255, 0xFFFFFFFF, 0x0, 0x0⟩, -- CTR_LO
  ⟨0x1004, [(0x8, 256)], .ro, 255, 0x0, 0x0, 0x0⟩, -- CTR_HI
  ⟨0x1800, [], .rw, 255, 0xFFFF, 0x0, 0x0⟩, -- CTR_HI_WR
  ⟨0x2000, [], .rw, 2, 0xFFFFFF03, 0x0, 0x0⟩, -- DUMP_CTRL
  ⟨0x2004, [], .rw, 2, 0x3FFFFFFF, 0x0, 0x0⟩, -- DUMP_BASE
  ⟨0x2008, [], .rw, 2, 0xFFFFFF, 0x0, 0x0⟩, -- DUMP_LEN
  ⟨0x200C, [], .ro, 255, 0x0, 0x0, 0x0⟩, -- DUMP_WP
  ⟨0x2010, [], .rw, 255, 0xFFFFFFFF, 0x0, 0x0⟩, -- DUMP_RP
  ⟨0x2014, [], .w1c, 255, 0x0, 0x1, 0x0⟩, -- DUMP_LOST
  ⟨0x2018, [], .ro, 255, 0x0, 0x0, 0x0⟩] -- DUMP_SEQ

/-- The register summary of block LOG. -/
def descLog : List RegDesc := [
  ⟨0x0, [], .rw, 4, 0x3F, 0x0, 0xA⟩, -- LOG_CFG
  ⟨0x4, [], .wo, 255, 0x0, 0x0, 0x0⟩, -- LOG_CMD
  ⟨0x8, [], .ro, 255, 0x0, 0x0, 0x0⟩, -- LOG_STATUS
  ⟨0xC, [], .ro, 255, 0x0, 0x0, 0x0⟩, -- FIRST_SEQ
  ⟨0x10, [], .ro, 255, 0x0, 0x0, 0x0⟩, -- NEXT_SEQ
  ⟨0x14, [], .ro, 255, 0x0, 0x0, 0x0⟩, -- LOG_QUEUE
  ⟨0x18, [], .ro, 255, 0x0, 0x0, 0x0⟩, -- PIN_WP
  ⟨0x1C, [], .ro, 255, 0x0, 0x0, 0x0⟩, -- PIN_CP
  ⟨0x20, [], .ro, 255, 0x0, 0x0, 0x0⟩, -- PIN_OVERRUN
  ⟨0x24, [], .ro, 255, 0x0, 0x0, 0x0⟩, -- OP_TIME_LO
  ⟨0x28, [], .ro, 255, 0x0, 0x0, 0x0⟩, -- OP_TIME_HI
  ⟨0x2C, [], .ro, 255, 0x0, 0x0, 0x0⟩, -- CYCLES
  ⟨0x30, [], .rw, 255, 0xFFFFFFFF, 0x0, 0x0⟩, -- RD_SEQ
  ⟨0x34, [], .rw, 255, 0x8001FFFF, 0x0, 0x1⟩, -- RD_COUNT
  ⟨0x38, [], .rw, 255, 0x3FFFFFFF, 0x0, 0x0⟩, -- RD_DST
  ⟨0x3C, [], .rw, 255, 0xFFFFFFFF, 0x0, 0x0⟩, -- CLR_TOKEN_LO
  ⟨0x40, [], .rw, 255, 0xFFFFFFFF, 0x0, 0x0⟩, -- CLR_TOKEN_HI
  ⟨0x44, [], .ro, 255, 0x0, 0x0, 0x64⟩, -- FLASH_STATUS
  ⟨0x100, [(0x4, 32)], .ro, 255, 0x0, 0x0, 0x0⟩, -- LOST_CNT
  ⟨0x180, [(0x4, 32)], .ro, 255, 0x0, 0x0, 0x0⟩] -- LOST_PEND

/-- The register summary of block TRAY. -/
def descTray : List RegDesc := [
  ⟨0x0, [(0x40, 64)], .rw, 3, 0x3FFFFFFF, 0x0, 0x0⟩, -- TRAY_BASE
  ⟨0x4, [(0x40, 64)], .rw, 3, 0x1F, 0x0, 0x0⟩, -- TRAY_LEN
  ⟨0x8, [(0x40, 64)], .rw, 3, 0xFFFF, 0x0, 0x3E8⟩, -- TRAY_STALL
  ⟨0xC, [(0x40, 64)], .ro, 255, 0x0, 0x0, 0x0⟩, -- TRAY_INFO
  ⟨0x10, [(0x40, 64)], .ro, 255, 0x0, 0x0, 0x0⟩, -- TRAY_WP
  ⟨0x14, [(0x40, 64)], .ro, 255, 0x0, 0x0, 0x0⟩, -- TRAY_RES
  ⟨0x18, [(0x40, 64)], .rw, 255, 0xFFFFFFFF, 0x0, 0x0⟩, -- TRAY_RP
  ⟨0x1C, [(0x40, 64)], .ro, 255, 0x0, 0x0, 0x1⟩, -- TRAY_STATUS
  ⟨0x20, [(0x40, 64)], .ro, 255, 0x0, 0x0, 0x0⟩, -- HEAD_LO
  ⟨0x24, [(0x40, 64)], .ro, 255, 0x0, 0x0, 0x0⟩, -- HEAD_HI
  ⟨0x28, [(0x40, 64)], .ro, 255, 0x0, 0x0, 0x0⟩, -- TRAY_CNT
  ⟨0x2C, [(0x40, 64)], .ro, 255, 0x0, 0x0, 0x0⟩, -- DISCARD_CNT
  ⟨0x30, [(0x40, 64)], .ro, 255, 0x0, 0x0, 0x0⟩, -- FULL_CNT
  ⟨0x1000, [], .wo, 255, 0x0, 0x0, 0x0⟩, -- TRAY_CMD
  ⟨0x40000, [(0x20, 16)], .rw, 255, 0x3, 0x0, 0x0⟩, -- MBR_CFG
  ⟨0x40004, [(0x20, 16)], .rw, 255, 0xFFFFFFFF, 0x0, 0x0⟩, -- MBR_NSID
  ⟨0x40008, [(0x20, 16)], .rw, 255, 0xFFFFFFFF, 0x0, 0x0⟩, -- MBR_LBA_LO
  ⟨0x4000C, [(0x20, 16)], .rw, 255, 0xFFFFFFFF, 0x0, 0x0⟩, -- MBR_LBA_HI
  ⟨0x40010, [(0x20, 16)], .ro, 255, 0x0, 0x0, 0x0⟩, -- MBR_STATUS
  ⟨0x40400, [], .rw, 255, 0x1F, 0x0, 0x0⟩, -- PANTRY_LAYOUT
  ⟨0x40404, [], .rw, 255, 0xFFFFFFFF, 0x0, 0x0⟩, -- MEMBER_MIB
  ⟨0x40410, [], .wo, 255, 0x0, 0x0, 0x0⟩, -- PANTRY_CMD
  ⟨0x40414, [], .ro, 255, 0x0, 0x0, 0x0⟩, -- PANTRY_STATUS
  ⟨0x40418, [], .rw, 255, 0xFFFFFFFF, 0x0, 0x0⟩, -- RD_BLK_LO
  ⟨0x4041C, [], .rw, 255, 0xFF, 0x0, 0x0⟩, -- RD_BLK_HI
  ⟨0x40420, [], .rw, 255, 0x1FFF, 0x0, 0x1⟩, -- RD_LEN
  ⟨0x40424, [], .rw, 255, 0x3FFFFFFF, 0x0, 0x0⟩, -- RD_DST
  ⟨0x41000, [(0x40, 4)], .rw, 255, 0x1F, 0x0, 0x0⟩, -- STR_CFG
  ⟨0x41004, [(0x40, 4)], .rw, 255, 0xFFFFFFFF, 0x0, 0x0⟩, -- STR_START
  ⟨0x41008, [(0x40, 4)], .rw, 255, 0xFFFFFFFF, 0x0, 0x2⟩, -- STR_LEN
  ⟨0x4100C, [(0x40, 4)], .rw, 255, 0xFFFFFFFF, 0x0, 0x0⟩, -- STR_POST
  ⟨0x41010, [(0x40, 4)], .wo, 255, 0x0, 0x0, 0x0⟩, -- STR_CMD
  ⟨0x41014, [(0x40, 4)], .ro, 255, 0x0, 0x0, 0x0⟩, -- STR_STATUS
  ⟨0x41018, [(0x40, 4)], .ro, 255, 0x0, 0x0, 0x0⟩, -- STR_SEQ_LO
  ⟨0x4101C, [(0x40, 4)], .ro, 255, 0x0, 0x0, 0x0⟩, -- STR_SEQ_HI
  ⟨0x41020, [(0x40, 4)], .ro, 255, 0x0, 0x0, 0x0⟩, -- STR_LOST
  ⟨0x41024, [(0x40, 4)], .ro, 255, 0x0, 0x0, 0x0⟩] -- TRIG_SEQ

/-- The register summary of block HALF. -/
def descHalf : List RegDesc := [
  ⟨0x0, [], .rw, 6, 0xFF03, 0x0, 0x3C03⟩, -- HALF_CFG
  ⟨0x4, [], .wo, 255, 0x0, 0x0, 0x0⟩, -- HALF_CMD
  ⟨0x40, [], .ro, 255, 0x0, 0x0, 0xE0⟩, -- HALF_STATUS
  ⟨0x44, [], .ro, 255, 0x0, 0x0, 0x0⟩, -- SELF_FAULT
  ⟨0x48, [], .ro, 255, 0x0, 0x0, 0x0⟩, -- WHISTLE_STATUS
  ⟨0x4C, [], .ro, 255, 0x0, 0x0, 0x0⟩, -- SWITCH_T_LO
  ⟨0x50, [], .ro, 255, 0x0, 0x0, 0x0⟩, -- SWITCH_T_HI
  ⟨0x54, [], .ro, 255, 0x0, 0x0, 0x0⟩, -- SWITCH_CNT
  ⟨0x58, [], .ro, 255, 0x0, 0x0, 0x0⟩, -- ALIGN_STATUS
  ⟨0x5C, [], .ro, 255, 0x0, 0x0, 0x0⟩, -- MIRROR_LATE_CNT
  ⟨0x60, [], .ro, 255, 0x0, 0x0, 0x0⟩, -- MIRROR_MISMATCH_CNT
  ⟨0x64, [], .ro, 255, 0x0, 0x0, 0x0⟩, -- PAIR_LAG_CNT
  ⟨0x68, [], .ro, 255, 0x0, 0x0, 0x0⟩, -- STBY_WRITE_CNT
  ⟨0x80, [(0x4, 4)], .ro, 255, 0x0, 0x0, 0x0⟩, -- OWN_A
  ⟨0x90, [(0x4, 4)], .ro, 255, 0x0, 0x0, 0x0⟩, -- OWN_B
  ⟨0xA0, [(0x4, 4)], .ro, 255, 0x0, 0x0, 0x0⟩, -- CLAIM_SENT
  ⟨0xB0, [(0x4, 4)], .ro, 255, 0x0, 0x0, 0x0⟩, -- FROZEN
  ⟨0xC0, [], .ro, 255, 0x0, 0x0, 0x0⟩, -- TRIVET_STATUS
  ⟨0x1000, [(0x4, 128)], .ro, 255, 0x0, 0x0, 0x0⟩, -- ALIGNED_MAP
  ⟨0x1200, [(0x4, 128)], .w1c, 255, 0x0, 0xFFFFFFFF, 0x0⟩] -- MISMATCH_MAP

/-- The register summary of block LID. -/
def descLid : List RegDesc := [
  ⟨0x0, [], .rl, 5, 0x1, 0x0, 0x1⟩, -- LID_CFG
  ⟨0x100, [(0x4, 16)], .rl, 5, 0x1FF001F, 0x0, 0x19⟩, -- RESET_GRP
  ⟨0x10000, [(0x20, 512)], .rl, 5, 0xFFCF3FF3, 0x0, 0x10⟩, -- TERM_CTRL
  ⟨0x10004, [(0x20, 512), (0x4, 4)], .rl, 5, 0x7FF07FF, 0x0, 0x7FF07FF⟩, -- TERM_REF
  ⟨0x20000, [(0x40, 64), (0x4, 8)], .rl, 5, 0xFFFFFFFF, 0x0, 0x0⟩, -- ACT_DO
  ⟨0x20020, [(0x40, 64), (0x4, 2)], .rl, 5, 0xFFFFFFFF, 0x0, 0x0⟩, -- ACT_DL
  ⟨0x20028, [(0x40, 64)], .rl, 5, 0xFFFFFFFF, 0x0, 0x0⟩, -- ACT_MO
  ⟨0x30000, [(0x4, 128)], .rl, 5, 0x17F, 0x0, 0x0⟩, -- TP_CFG
  ⟨0x80000, [], .ro, 255, 0x0, 0x0, 0x0⟩, -- LID_STATUS
  ⟨0x80004, [], .wo, 255, 0x0, 0x0, 0x0⟩, -- LID_CMD
  ⟨0x80008, [], .ro, 255, 0x0, 0x0, 0x3982EAD0⟩, -- CONFIG_CRC
  ⟨0x8000C, [], .ro, 255, 0x0, 0x0, 0xAF48D401⟩, -- CHALLENGE_LO
  ⟨0x80010, [], .ro, 255, 0x0, 0x0, 0x540628D9⟩, -- CHALLENGE_HI
  ⟨0x80014, [], .rw, 255, 0xFFFFFFFF, 0x0, 0x0⟩, -- TOKEN_LO
  ⟨0x80018, [], .rw, 255, 0xFFFFFFFF, 0x0, 0x0⟩, -- TOKEN_HI
  ⟨0x80020, [], .rw, 255, 0xF, 0x0, 0x0⟩, -- PANEL_GROUP
  ⟨0x80040, [(0x4, 12)], .rw, 255, 0xFFFFFFFF, 0x0, 0x0⟩, -- PW_NEW
  ⟨0x80080, [(0x4, 4)], .ro, 255, 0x0, 0x0, 0x0⟩, -- PW_SALT
  ⟨0x80090, [(0x4, 8)], .ro, 255, 0x0, 0x0, 0x0⟩, -- PW_VERIFIER
  ⟨0x80100, [], .wo, 255, 0x0, 0x0, 0x0⟩, -- LID_RESET
  ⟨0x80104, [], .ro, 255, 0x0, 0x0, 0x0⟩, -- RESET_STATUS
  ⟨0x80200, [], .ro, 255, 0x0, 0x0, 0x0⟩, -- CHG_SEQ
  ⟨0x90000, [(0x4, 512)], .ro, 255, 0x0, 0x0, 0x0⟩, -- TERM_STATUS
  ⟨0x91000, [(0x8, 512), (0x4, 2)], .ro, 255, 0x0, 0x0, 0x0⟩, -- TERM_TRIP_T
  ⟨0x92000, [(0x4, 40)], .ro, 255, 0x0, 0x0, 0x0⟩, -- INPUT_MAP
  ⟨0x92100, [(0x4, 11)], .ro, 255, 0x0, 0x0, 0xFFFFFFFF⟩, -- DISABLED_MAP
  ⟨0x92200, [(0x4, 11)], .ro, 255, 0x0, 0x0, 0x0⟩, -- TARGET_FAULT_MAP
  ⟨0xA0000, [(0x20, 4096), (0x4, 8)], .ro, 255, 0x0, 0x0, 0x0⟩] -- CHG_LOG

/-- The register summary of block TRK. -/
def descTrk : List RegDesc := [
  ⟨0x0, [], .rw, 7, 0xFFF3, 0x0, 0x132⟩, -- TRK_CFG
  ⟨0x4, [], .rw, 7, 0x1FFF, 0x0, 0x0⟩, -- SLOT_CFG
  ⟨0x8, [], .rw, 7, 0x3FFFF, 0x0, 0x4000⟩, -- ACYC_CFG
  ⟨0xC, [], .rw, 7, 0x3FFF, 0x0, 0x0⟩, -- PUB_CFG
  ⟨0x10, [], .rw, 7, 0x3FFFFFFF, 0x0, 0x0⟩, -- PUB_BASE
  ⟨0x100, [(0x4, 64)], .rw, 7, 0x3, 0x0, 0x0⟩, -- STN_CFG
  ⟨0x1000, [], .ro, 255, 0x0, 0x0, 0x0⟩, -- TRK_STATUS
  ⟨0x1004, [], .ro, 255, 0x0, 0x0, 0x0⟩, -- CYCLE_NUM
  ⟨0x1010, [(0x4, 2)], .ro, 255, 0x0, 0x0, 0x40⟩, -- PORT_STATUS
  ⟨0x1020, [(0x10, 2), (0x4, 4)], .ro, 255, 0x0, 0x0, 0x0⟩, -- LANE_EQ
  ⟨0x1080, [], .ro, 255, 0x0, 0x0, 0x0⟩, -- CRC_ERR_CNT
  ⟨0x1084, [], .ro, 255, 0x0, 0x0, 0x0⟩, -- KIND_ERR_CNT
  ⟨0x1088, [], .ro, 255, 0x0, 0x0, 0x0⟩, -- WRAP_CNT
  ⟨0x108C, [], .ro, 255, 0x0, 0x0, 0x0⟩, -- POST_SENT_CNT
  ⟨0x1090, [], .ro, 255, 0x0, 0x0, 0x0⟩, -- POST_FAIL_CNT
  ⟨0x1094, [], .ro, 255, 0x0, 0x0, 0x0⟩, -- LATE_ACK_CNT
  ⟨0x1098, [], .ro, 255, 0x0, 0x0, 0x0⟩, -- POSTFAIL_LOST
  ⟨0x109C, [], .ro, 255, 0x0, 0x0, 0x0⟩, -- TAGS_IN_USE
  ⟨0x1100, [(0x4, 64)], .ro, 255, 0x0, 0x0, 0x0⟩, -- STN_STATUS
  ⟨0x1200, [(0x4, 16)], .ro, 255, 0x0, 0x0, 0x0⟩, -- FENCE_MAP
  ⟨0x1240, [], .wo, 255, 0x0, 0x0, 0x0⟩, -- FENCE_CLR
  ⟨0x1244, [], .wo, 255, 0x0, 0x0, 0x0⟩, -- TRK_CMD
  ⟨0x10000, [(0x1000, 8)], .rw, 255, 0xFF073F, 0x0, 0x0⟩, -- PDESC
  ⟨0x10004, [(0x1000, 8)], .rw, 255, 0xFFFFFFFF, 0x0, 0x0⟩, -- PADDR
  ⟨0x10008, [(0x1000, 8)], .wo, 255, 0x0, 0x0, 0x0⟩, -- PGO
  ⟨0x1000C, [(0x1000, 8)], .ro, 255, 0x0, 0x0, 0x0⟩, -- PSTATUS
  ⟨0x10010, [(0x1000, 8)], .rw, 255, 0xFF073F, 0x0, 0x0⟩, -- RDESC
  ⟨0x10014, [(0x1000, 8)], .rw, 255, 0xFFFFFFFF, 0x0, 0x0⟩, -- RADDR
  ⟨0x10018, [(0x1000, 8)], .wo, 255, 0x0, 0x0, 0x0⟩, -- RGO
  ⟨0x1001C, [(0x1000, 8)], .ro, 255, 0x0, 0x0, 0x0⟩, -- RSTATUS
  ⟨0x10400, [(0x1000, 8), (0x4, 256)], .rw, 255, 0xFFFFFFFF, 0x0, 0x0⟩] -- PDATA

/-- The register summary of block CAN. -/
def descCan : List RegDesc := [
  ⟨0x100000, [(0x30000, 16), (0x60, 2048)], .rw, 255, 0xF7F, 0x0, 0x0⟩, -- OBJ_CFG
  ⟨0x100004, [(0x30000, 16), (0x60, 2048)], .rw, 255, 0x1FFFFFFF, 0x0, 0x0⟩, -- OBJ_ID
  ⟨0x100008, [(0x30000, 16), (0x60, 2048)], .ro, 255, 0x0, 0x3, 0x0⟩, -- OBJ_STATUS
  ⟨0x10000C, [(0x30000, 16), (0x60, 2048)], .wo, 255, 0x0, 0x0, 0x0⟩, -- OBJ_CMD
  ⟨0x100010, [(0x30000, 16), (0x60, 2048)], .ro, 255, 0x0, 0x0, 0x0⟩, -- OBJ_TIME_LO
  ⟨0x100014, [(0x30000, 16), (0x60, 2048)], .ro, 255, 0x0, 0x0, 0x0⟩, -- OBJ_TIME_HI
  ⟨0x100018, [(0x30000, 16), (0x60, 2048)], .rw, 255, 0xFFFFFFFF, 0x0, 0x0⟩, -- OBJ_PERIOD
  ⟨0x100020, [(0x30000, 16), (0x60, 2048), (0x4, 16)], .rw, 255, 0xFFFFFFFF, 0x0, 0x0⟩, -- DATA
  ⟨0x0, [(0x1000, 16)], .rw, 8, 0x3F, 0x0, 0x0⟩, -- CAN_CFG
  ⟨0x4, [(0x1000, 16)], .rw, 8, 0x7FFFFFFF, 0x0, 0xF1E3E00⟩, -- NBT
  ⟨0x8, [(0x1000, 16)], .rw, 8, 0xF0F1F1F, 0x0, 0x9091C00⟩, -- DBT
  ⟨0xC, [(0x1000, 16)], .rw, 8, 0x7F01, 0x0, 0x1E00⟩, -- TDC_CFG
  ⟨0x10, [(0x1000, 16)], .rw, 8, 0x3FF, 0x0, 0x0⟩, -- RECOV_CFG
  ⟨0x100, [(0x1000, 16)], .ro, 255, 0x0, 0x0, 0x0⟩, -- CAN_STATUS
  ⟨0x104, [(0x1000, 16)], .ro, 255, 0x0, 0x0, 0x0⟩, -- ERR_CNT
  ⟨0x108, [(0x1000, 16)], .wo, 255, 0x0, 0x0, 0x0⟩, -- CAN_CMD
  ⟨0x10C, [(0x1000, 16)], .ro, 255, 0x0, 0x0, 0x0⟩, -- TDC_STATUS
  ⟨0x110, [(0x1000, 16)], .ro, 255, 0x0, 0x0, 0x0⟩, -- RX_CNT
  ⟨0x114, [(0x1000, 16)], .ro, 255, 0x0, 0x0, 0x0⟩, -- TX_CNT
  ⟨0x118, [(0x1000, 16)], .ro, 255, 0x0, 0x0, 0x0⟩, -- LOST_CNT
  ⟨0x11C, [(0x1000, 16)], .ro, 255, 0x0, 0x0, 0x0⟩, -- UNMATCHED_CNT
  ⟨0x120, [(0x1000, 16)], .ro, 255, 0x0, 0x0, 0x0⟩, -- ERR_FRAME_CNT
  ⟨0x124, [(0x1000, 16)], .ro, 255, 0x0, 0x0, 0x0⟩, -- BUSOFF_CNT
  ⟨0x128, [(0x1000, 16)], .ro, 255, 0x0, 0x0, 0x0⟩, -- RTR_CNT
  ⟨0x12C, [(0x1000, 16)], .ro, 255, 0x0, 0x0, 0x0⟩, -- PROTO_EXC_CNT
  ⟨0x130, [(0x1000, 16)], .ro, 255, 0x0, 0x0, 0x0⟩, -- MON_ERR_CNT
  ⟨0x200, [(0x1000, 16), (0x4, 64)], .ro, 255, 0x0, 0x0, 0x0⟩, -- NEW_MAP
  ⟨0x300, [(0x1000, 16), (0x4, 64)], .w1c, 255, 0x0, 0xFFFFFFFF, 0x0⟩, -- TXEND_MAP
  ⟨0x400, [(0x1000, 16), (0x4, 64)], .ro, 255, 0x0, 0x0, 0x0⟩] -- LOST_MAP

/-- The register summary of block ANC. -/
def descAnc : List RegDesc := [
  ⟨0x0, [(0x400, 256)], .rw, 9, 0x7FF37F, 0x0, 0x12200⟩, -- CH_CFG
  ⟨0x4, [(0x400, 256)], .rw, 9, 0xFFFFFF, 0x0, 0x186A0⟩, -- CH_TIMING
  ⟨0x8, [(0x400, 256)], .rw, 9, 0x7FF, 0x0, 0x0⟩, -- GRID
  ⟨0xC, [(0x400, 256)], .rl, 9, 0x7, 0x0, 0x0⟩, -- CMP_CFG
  ⟨0x10, [(0x400, 256)], .rl, 9, 0xFFFFFFFF, 0x0, 0xD368D4A5⟩, -- CMP_LO
  ⟨0x14, [(0x400, 256)], .rl, 9, 0xFFFFFFFF, 0x0, 0x5368D4A5⟩, -- CMP_HI
  ⟨0x18, [(0x400, 256)], .rl, 9, 0xFFFFFFFF, 0x0, 0x0⟩, -- CMP_HYST
  ⟨0x1C, [(0x400, 256)], .rw, 9, 0xFFFFFFFF, 0x0, 0x0⟩, -- SAFE_VALUE
  ⟨0x20, [(0x400, 256)], .rw, 9, 0xFFFFFFFF, 0x0, 0xC1C00000⟩, -- OUT_LO
  ⟨0x24, [(0x400, 256)], .rw, 9, 0xFFFFFFFF, 0x0, 0x41C00000⟩, -- OUT_HI
  ⟨0x28, [(0x400, 256)], .rw, 9, 0xFFFFFFFF, 0x0, 0x0⟩, -- LEAD_OHM
  ⟨0x2C, [(0x400, 256)], .rw, 9, 0xFFFFFFFF, 0x0, 0x41C80000⟩, -- CJC_FIXED
  ⟨0x30, [(0x400, 256)], .rw, 9, 0x3, 0x0, 0x0⟩, -- ZC_CFG
  ⟨0x34, [(0x400, 256)], .rw, 9, 0xFFFFFFFF, 0x0, 0x0⟩, -- ZC_LEVEL
  ⟨0x38, [(0x400, 256)], .rw, 9, 0xFFFFFFFF, 0x0, 0x3F000000⟩, -- ZC_HYST
  ⟨0x100, [(0x400, 256)], .rw, 255, 0xFFFFFFFF, 0x0, 0x0⟩, -- OUT_VALUE
  ⟨0x104, [(0x400, 256)], .wo, 255, 0x0, 0x0, 0x0⟩, -- CAL_CMD
  ⟨0x108, [(0x400, 256)], .rw, 255, 0xFFFFFFFF, 0x0, 0x0⟩, -- CAL_REF
  ⟨0x10C, [(0x400, 256)], .rw, 255, 0xFFFFFFFF, 0x0, 0x0⟩, -- CAL_MEAS
  ⟨0x110, [(0x400, 256)], .ro, 255, 0x0, 0x0, 0x0⟩, -- CAL_STATUS
  ⟨0x114, [(0x400, 256)], .ro, 255, 0x0, 0x0, 0x3F800000⟩, -- USER_GAIN
  ⟨0x118, [(0x400, 256)], .ro, 255, 0x0, 0x0, 0x0⟩, -- USER_OFFSET
  ⟨0x140, [(0x400, 256)], .ro, 255, 0x0, 0x0, 0x90⟩, -- CH_STATUS
  ⟨0x144, [(0x400, 256)], .ro, 255, 0x0, 0x0, 0x0⟩, -- VALUE
  ⟨0x148, [(0x400, 256)], .ro, 255, 0x0, 0x0, 0x0⟩, -- VALUE_T
  ⟨0x14C, [(0x400, 256)], .ro, 255, 0x0, 0x0, 0x0⟩, -- READBACK
  ⟨0x150, [(0x400, 256)], .ro, 255, 0x0, 0x0, 0x0⟩, -- HEADROOM
  ⟨0x154, [(0x400, 256)], .ro, 255, 0x0, 0x0, 0x0⟩, -- CJC_TEMP
  ⟨0x158, [(0x400, 256)], .ro, 255, 0x0, 0x0, 0x0⟩, -- ZC_T_LO
  ⟨0x15C, [(0x400, 256)], .ro, 255, 0x0, 0x0, 0x0⟩, -- ZC_T_HI
  ⟨0x160, [(0x400, 256)], .ro, 255, 0x0, 0x0, 0x0⟩, -- ZC_PERIOD
  ⟨0x164, [(0x400, 256)], .ro, 255, 0x0, 0x0, 0x0⟩, -- CH_COUNTS
  ⟨0x40000, [(0x100, 16)], .ro, 255, 0x0, 0x0, 0x0⟩, -- CARD_STATUS
  ⟨0x41000, [(0x4, 8)], .ro, 255, 0x0, 0x0, 0x0⟩, -- COND_MAP
  ⟨0x41020, [(0x4, 16)], .ro, 255, 0x0, 0x0, 0x0⟩] -- CMP_MAP

/-- The register summary of block DIN. -/
def descDin : List RegDesc := [
  ⟨0x0, [(0x40, 512)], .rw, 10, 0xFFF, 0x0, 0xF02⟩, -- DI_CFG
  ⟨0x4, [(0x40, 512)], .rw, 10, 0xFF00FF, 0x0, 0xA0000⟩, -- DI_FREQ_CFG
  ⟨0x20, [(0x40, 512)], .ro, 255, 0x0, 0x0, 0x8⟩, -- DI_STATUS
  ⟨0x24, [(0x40, 512)], .ro, 255, 0x0, 0x0, 0x0⟩, -- DI_COUNT
  ⟨0x28, [(0x40, 512)], .ro, 255, 0x0, 0x0, 0x0⟩, -- DI_FREQ
  ⟨0x2C, [(0x40, 512)], .ro, 255, 0x0, 0x0, 0x0⟩, -- DI_EDGE_T_LO
  ⟨0x30, [(0x40, 512)], .ro, 255, 0x0, 0x0, 0x0⟩, -- DI_EDGE_T_HI
  ⟨0x34, [(0x40, 512)], .ro, 255, 0x0, 0x0, 0x0⟩, -- DI_COUNTS
  ⟨0x38, [(0x40, 512)], .wo, 255, 0x0, 0x0, 0x0⟩, -- DI_CMD
  ⟨0x10000, [(0x100, 16)], .ro, 255, 0x0, 0x0, 0x0⟩, -- DI_CARD_STATUS
  ⟨0x20000, [(0x4, 16)], .ro, 255, 0x0, 0x0, 0x0⟩, -- DI_STATE_MAP
  ⟨0x20040, [(0x4, 16)], .ro, 255, 0x0, 0x0, 0x0⟩, -- DI_VALID_MAP
  ⟨0x20080, [(0x4, 16)], .w1c, 255, 0x0, 0xFFFFFFFF, 0x0⟩, -- DI_EDGE_MAP
  ⟨0x200C0, [(0x4, 16)], .ro, 255, 0x0, 0x0, 0x0⟩, -- DI_COND_MAP
  ⟨0x20100, [(0x4, 16)], .w1c, 255, 0x0, 0xFFFFFFFF, 0x0⟩] -- DI_WRAP_MAP

/-- The register summary of block DOUT. -/
def descDout : List RegDesc := [
  ⟨0x0, [(0x40, 256)], .rw, 11, 0xF, 0x0, 0x0⟩, -- DO_CFG
  ⟨0x20, [(0x40, 256)], .ro, 255, 0x0, 0x0, 0x0⟩, -- DO_STATUS
  ⟨0x24, [(0x40, 256)], .ro, 255, 0x0, 0x0, 0x0⟩, -- DO_COUNTS
  ⟨0x28, [(0x40, 256)], .wo, 255, 0x0, 0x0, 0x0⟩, -- DO_CMD
  ⟨0x10000, [(0x100, 8)], .rw, 11, 0x103FF, 0x0, 0x10032⟩, -- GRP_CFG
  ⟨0x10010, [(0x100, 8)], .rwm, 255, 0xFFFF, 0x0, 0x0⟩, -- OUT_LO
  ⟨0x10014, [(0x100, 8)], .rwm, 255, 0xFFFF, 0x0, 0x0⟩, -- OUT_HI
  ⟨0x10018, [(0x100, 8)], .wo, 255, 0x0, 0x0, 0x0⟩, -- GRP_CMD
  ⟨0x10020, [(0x100, 8)], .ro, 255, 0x0, 0x0, 0x0⟩, -- GRP_STATUS
  ⟨0x10024, [(0x100, 8)], .ro, 255, 0x0, 0x0, 0x0⟩, -- OUT_APPLIED
  ⟨0x10028, [(0x100, 8)], .ro, 255, 0x0, 0x0, 0x0⟩, -- OUT_READBACK
  ⟨0x1002C, [(0x100, 8)], .ro, 255, 0x0, 0x0, 0x0⟩, -- WD_LEFT
  ⟨0x20000, [(0x4, 8)], .ro, 255, 0x0, 0x0, 0x0⟩] -- DO_COND_MAP

/-- The register summary of block MOT. -/
def descMot : List RegDesc := [
  ⟨0x0, [(0x4000, 32)], .rw, 12, 0x7F, 0x0, 0x60⟩, -- PORT_CFG
  ⟨0x4, [(0x4000, 32)], .rw, 12, 0xFFFFFF, 0x0, 0x50519⟩, -- STEP_TIMING
  ⟨0x8, [(0x4000, 32)], .rw, 12, 0x7FF, 0x0, 0x40⟩, -- MICROSTEP
  ⟨0xC, [(0x4000, 32)], .rw, 12, 0xFFFFFFFF, 0x0, 0x0⟩, -- ANGLE_OFS
  ⟨0x10, [(0x4000, 32)], .rw, 12, 0xFFFFFFFF, 0x0, 0x47C35000⟩, -- VEL_MAX
  ⟨0x14, [(0x4000, 32)], .rw, 12, 0xFFFFFFFF, 0x0, 0x49742400⟩, -- ACC_MAX
  ⟨0x18, [(0x4000, 32)], .rw, 12, 0xFFFFFFFF, 0x0, 0x3F800000⟩, -- SCALE_SET
  ⟨0x1C, [(0x4000, 32)], .rw, 12, 0xFFFFFFFF, 0x0, 0x41200000⟩, -- SCALE_SLEW
  ⟨0x20, [(0x4000, 32)], .rw, 12, 0xFFFFFFFF, 0x0, 0x3F000000⟩, -- I_RUN
  ⟨0x24, [(0x4000, 32)], .rw, 12, 0xFFFFFFFF, 0x0, 0x3E800000⟩, -- I_HOLD
  ⟨0x28, [(0x4000, 32)], .rw, 12, 0xFFFFFFFF, 0x0, 0x3F4CCCCD⟩, -- I_MAX
  ⟨0x2C, [(0x4000, 32)], .rw, 12, 0xFFFFFFFF, 0x0, 0x3C23D70A⟩, -- I_RAMP
  ⟨0x30, [(0x4000, 32)], .rw, 12, 0xFFFFFFFF, 0x0, 0x3F000000⟩, -- ADAPT_GAIN
  ⟨0x34, [(0x4000, 32)], .rw, 12, 0xFFFFFFFF, 0x0, 0x3F060AA6⟩, -- ANGLE_START
  ⟨0x38, [(0x4000, 32)], .rw, 12, 0xFFFFFFFF, 0x0, 0x3FDF65FE⟩, -- STALL_ANGLE
  ⟨0x3C, [(0x4000, 32)], .rw, 12, 0xFFFFFFFF, 0x0, 0x0⟩, -- LAG_K
  ⟨0x48, [(0x4000, 32)], .rw, 12, 0xFF3FFF, 0x0, 0x3201F4⟩, -- ADAPT_CFG
  ⟨0x4C, [(0x4000, 32)], .rw, 12, 0x3FF03FF, 0x0, 0x0⟩, -- SEG_RANGE
  ⟨0x50, [(0x4000, 32)], .rw, 12, 0x3FFF, 0x0, 0x7D0⟩, -- MISS_HOLD
  ⟨0x80, [(0x4000, 32)], .wo, 255, 0x0, 0x0, 0x0⟩, -- PORT_CMD
  ⟨0x84, [(0x4000, 32)], .rw, 255, 0xFFFFFFFF, 0x0, 0x0⟩, -- POS_SET_VAL
  ⟨0xC0, [(0x4000, 32)], .ro, 255, 0x0, 0x0, 0x8⟩, -- PORT_STATUS
  ⟨0xC4, [(0x4000, 32)], .ro, 255, 0x0, 0x0, 0x0⟩, -- STEP_POS
  ⟨0xC8, [(0x4000, 32)], .ro, 255, 0x0, 0x0, 0x0⟩, -- OWED
  ⟨0xCC, [(0x4000, 32)], .ro, 255, 0x0, 0x0, 0x0⟩, -- CMD_VEL
  ⟨0xD0, [(0x4000, 32)], .ro, 255, 0x0, 0x0, 0x0⟩, -- SIGMA
  ⟨0xD4, [(0x4000, 32)], .ro, 255, 0x0, 0x0, 0x0⟩, -- LOAD_ANGLE
  ⟨0xD8, [(0x4000, 32)], .ro, 255, 0x0, 0x0, 0x0⟩, -- I_REF_OUT
  ⟨0xDC, [(0x4000, 32)], .ro, 255, 0x0, 0x0, 0x0⟩, -- ISEN_A
  ⟨0xE0, [(0x4000, 32)], .ro, 255, 0x0, 0x0, 0x0⟩, -- ISEN_B
  ⟨0xE4, [(0x4000, 32)], .ro, 255, 0x0, 0x0, 0x0⟩, -- MOT_COUNTS
  ⟨0x1000, [(0x4000, 32), (0xC, 1024), (0x4, 3)], .rw, 12, 0xFFFFFFFF, 0x0, 0x0⟩] -- SEG

/-- The register summary of block DRV. -/
def descDrv : List RegDesc := [
  ⟨0x0, [(0x1000, 64)], .rw, 13, 0xFFFFFFF, 0x0, 0x830⟩, -- LINK_CFG
  ⟨0x4, [(0x1000, 64)], .rw, 13, 0x3FFFFFF, 0x0, 0x6407D0⟩, -- LINK_TIMING
  ⟨0x40, [(0x1000, 64)], .ro, 255, 0x0, 0x0, 0x0⟩, -- LINK_STATUS
  ⟨0x44, [(0x1000, 64)], .ro, 255, 0x0, 0x0, 0xFFFF0000⟩, -- RET_TIME
  ⟨0x48, [(0x1000, 64)], .ro, 255, 0x0, 0x0, 0x0⟩, -- RET_TIME_MAX
  ⟨0x4C, [(0x1000, 64)], .ro, 255, 0x0, 0x0, 0x0⟩, -- ERR_CRC_CNT
  ⟨0x50, [(0x1000, 64)], .ro, 255, 0x0, 0x0, 0x0⟩, -- ERR_CODE_CNT
  ⟨0x54, [(0x1000, 64)], .ro, 255, 0x0, 0x0, 0x0⟩, -- RET_MISS_CNT
  ⟨0x58, [(0x1000, 64)], .ro, 255, 0x0, 0x0, 0x0⟩, -- RET_STALE_CNT
  ⟨0x5C, [(0x1000, 64)], .ro, 255, 0x0, 0x0, 0x0⟩, -- ECHO_MISS_CNT
  ⟨0x60, [(0x1000, 64)], .ro, 255, 0x0, 0x0, 0x0⟩, -- CMD_MISS_CNT
  ⟨0x64, [(0x1000, 64)], .ro, 255, 0x0, 0x0, 0x0⟩, -- CMD_LATE_CNT
  ⟨0x68, [(0x1000, 64)], .ro, 255, 0x0, 0x0, 0x0⟩, -- SYNC_LOSS_CNT
  ⟨0x80, [(0x1000, 64)], .ro, 255, 0x0, 0x0, 0x0⟩, -- LAST_CMD0
  ⟨0x84, [(0x1000, 64)], .ro, 255, 0x0, 0x0, 0x0⟩, -- LAST_CMD1
  ⟨0x88, [(0x1000, 64)], .ro, 255, 0x0, 0x0, 0x0⟩, -- LAST_RET0
  ⟨0x8C, [(0x1000, 64)], .ro, 255, 0x0, 0x0, 0x0⟩, -- LAST_RET1
  ⟨0x90, [(0x1000, 64)], .ro, 255, 0x0, 0x0, 0x0⟩, -- LAST_RET2
  ⟨0x94, [(0x1000, 64)], .ro, 255, 0x0, 0x0, 0x0⟩, -- LAST_RET3
  ⟨0xF0, [(0x1000, 64)], .wo, 255, 0x0, 0x0, 0x0⟩, -- LINK_CMD
  ⟨0x40000, [(0x4, 2)], .ro, 255, 0x0, 0x0, 0x0⟩, -- FAULT_MAP
  ⟨0x40008, [(0x4, 2)], .w1c, 255, 0x0, 0xFFFFFFFF, 0x0⟩] -- ERR_MAP

/-- The register summary of block PWR. -/
def descPwr : List RegDesc := [
  ⟨0x0, [], .rw, 14, 0xF3FF1, 0x0, 0xA3E80⟩, -- PWR_CFG
  ⟨0x100, [(0x40, 8)], .rw, 14, 0xFFFFFF0F, 0x0, 0x143C1E00⟩, -- GEN_CTRL
  ⟨0x104, [(0x40, 8)], .rw, 14, 0xFFFFFFFF, 0x0, 0x0⟩, -- GEN_RATING
  ⟨0x108, [(0x40, 8)], .rw, 14, 0xFFFFFFFF, 0x0, 0x3F800000⟩, -- GEN_WEIGHT
  ⟨0x10C, [(0x40, 8)], .rw, 14, 0x3FFFFFF, 0x0, 0x0⟩, -- GEN_P_SRC
  ⟨0x110, [(0x40, 8)], .rw, 14, 0xFFFFFFFF, 0x0, 0x3F800000⟩, -- GEN_P_SCALE
  ⟨0x114, [(0x40, 8)], .rw, 14, 0xFFFFFFFF, 0x0, 0x0⟩, -- GEN_P_OFFSET
  ⟨0x118, [(0x40, 8)], .rw, 14, 0x3FFFFFF, 0x0, 0x0⟩, -- GEN_RUN_SRC
  ⟨0x11C, [(0x40, 8)], .rw, 14, 0x3FFFFFF, 0x0, 0x0⟩, -- GEN_BRK_SRC
  ⟨0x120, [(0x40, 8)], .rw, 14, 0x3FFFFFF, 0x0, 0x0⟩, -- GEN_AUTO_SRC
  ⟨0x124, [(0x40, 8)], .rw, 14, 0xFF0FFFF3, 0x0, 0x0⟩, -- GEN_START_REQ
  ⟨0x128, [(0x40, 8)], .rw, 14, 0xFF0FFFF3, 0x0, 0x0⟩, -- GEN_CLOSE_REQ
  ⟨0x12C, [(0x40, 8)], .rw, 14, 0xFF0FFFF3, 0x0, 0x0⟩, -- GEN_STOP_REQ
  ⟨0x400, [(0x40, 4)], .rw, 14, 0xFFFFFFFF, 0x0, 0x780A1422⟩, -- BUS_CTRL
  ⟨0x404, [(0x40, 4)], .rw, 14, 0x3FFFFFF, 0x0, 0x0⟩, -- BUS_F_SRC
  ⟨0x408, [(0x40, 4)], .rw, 14, 0x3FFFFFF, 0x0, 0x0⟩, -- BUS_TIE_SRC
  ⟨0x40C, [(0x40, 4)], .rw, 14, 0xFFFFFFFF, 0x0, 0xFFFFFFFF⟩, -- BUS_ORDER
  ⟨0x410, [(0x40, 4)], .rw, 14, 0xFFFFFFFF, 0x0, 0x3F59999A⟩, -- START_PCT
  ⟨0x414, [(0x40, 4)], .rw, 14, 0xFFFFFFFF, 0x0, 0x3F19999A⟩, -- STOP_PCT
  ⟨0x418, [(0x40, 4)], .rw, 14, 0xFFFFFFFF, 0x0, 0x3F800000⟩, -- SHED_PCT
  ⟨0x41C, [(0x40, 4)], .rw, 14, 0xFFFFFFFF, 0x0, 0x3F4CCCCD⟩, -- RESTORE_PCT
  ⟨0x420, [(0x40, 4)], .rw, 14, 0xFFFFFFFF, 0x0, 0x42640000⟩, -- SHED_F_HZ
  ⟨0x424, [(0x40, 4)], .rw, 14, 0xFFFFFFFF, 0x0, 0xA143214⟩, -- BUS_DELAYS
  ⟨0x800, [(0x8, 32)], .rw, 14, 0x83FF, 0x0, 0x0⟩, -- SHED_STEP
  ⟨0x804, [(0x8, 32)], .rw, 14, 0xFFFFFFFF, 0x0, 0x0⟩, -- SHED_KW
  ⟨0xA00, [(0x8, 32)], .rw, 14, 0xFF0FFFF3, 0x0, 0x0⟩, -- RESTART_REQ
  ⟨0xA04, [(0x8, 32)], .rw, 14, 0x8003FFFF, 0x0, 0x0⟩, -- RESTART_CTRL
  ⟨0x1000, [], .ro, 255, 0x0, 0x0, 0x0⟩, -- PWR_STATUS
  ⟨0x1004, [], .ro, 255, 0x0, 0x0, 0x0⟩, -- FEED_E_V
  ⟨0x1008, [], .ro, 255, 0x0, 0x0, 0x0⟩, -- FEED_W_V
  ⟨0x100C, [], .ro, 255, 0x0, 0x0, 0x0⟩, -- FEED_E_I
  ⟨0x1010, [], .ro, 255, 0x0, 0x0, 0x0⟩, -- FEED_W_I
  ⟨0x1014, [], .ro, 255, 0x0, 0x0, 0x0⟩, -- STORE_V
  ⟨0x1018, [], .ro, 255, 0x0, 0x0, 0x0⟩, -- DRAW_W
  ⟨0x101C, [], .ro, 255, 0x0, 0x0, 0x0⟩, -- PART_W
  ⟨0x1020, [], .ro, 255, 0x0, 0x0, 0x0⟩, -- CARD_PWR_MAP
  ⟨0x1024, [], .ro, 255, 0x0, 0x0, 0x0⟩, -- CARD_PWR_MAP_HI
  ⟨0x1030, [], .wo, 255, 0x0, 0x0, 0x0⟩, -- PWR_CMD
  ⟨0x1034, [], .ro, 255, 0x0, 0x0, 0x0⟩, -- PWR_CMD_STATUS
  ⟨0x1100, [(0x20, 8)], .ro, 255, 0x0, 0x0, 0x0⟩, -- GEN_STATUS
  ⟨0x1104, [(0x20, 8)], .ro, 255, 0x0, 0x0, 0x0⟩, -- GEN_P_KW
  ⟨0x1108, [(0x20, 8)], .ro, 255, 0x0, 0x0, 0x0⟩, -- GEN_SHARE_KW
  ⟨0x1200, [(0x20, 4)], .ro, 255, 0x0, 0x0, 0x0⟩, -- BUS_STATUS
  ⟨0x1204, [(0x20, 4)], .ro, 255, 0x0, 0x0, 0x0⟩, -- BUS_F_HZ
  ⟨0x1208, [(0x20, 4)], .ro, 255, 0x0, 0x0, 0x0⟩, -- BUS_P_KW
  ⟨0x120C, [(0x20, 4)], .ro, 255, 0x0, 0x0, 0x0⟩] -- BUS_C_KW

/-- The register summary of block PNL. -/
def descPnl : List RegDesc := [
  ⟨0x0, [], .rw, 15, 0xFFFF07, 0x0, 0x147800⟩, -- PNL_CFG
  ⟨0x4, [], .rw, 15, 0xFFFFF, 0x0, 0xF0C8⟩, -- KEY_CFG
  ⟨0x100, [], .ro, 255, 0x0, 0x0, 0x0⟩, -- PNL_STATUS
  ⟨0x104, [], .wo, 255, 0x0, 0x0, 0x0⟩, -- PNL_CMD
  ⟨0x110, [(0x4, 4)], .ro, 255, 0x0, 0x0, 0x0⟩, -- KEY_STATUS
  ⟨0x120, [(0x4, 4)], .ro, 255, 0x0, 0x0, 0x0⟩, -- KEY_BASE
  ⟨0x10000, [(0x4, 7500)], .rw, 255, 0xFFFFFFFF, 0x0, 0x0⟩, -- USER_FRAME
  ⟨0x20000, [(0x40, 16), (0x4, 16)], .rw, 255, 0xFFFFFFFF, 0x0, 0x0⟩] -- ALARM_TEXT

/-- The register summary of block EVC. -/
def descEvc : List RegDesc := [
  ⟨0x0, [(0x4, 1024)], .rw, 255, 0x137, 0x0, 0x0⟩, -- SRC_CFG
  ⟨0x1000, [(0x4, 32)], .w1c, 255, 0x0, 0xFFFFFFFF, 0x0⟩, -- PEND
  ⟨0x1100, [(0x4, 32)], .ro, 255, 0x0, 0x0, 0x0⟩, -- RAW
  ⟨0x2000, [(0x4, 1024)], .ro, 255, 0x0, 0x0, 0x0⟩, -- SRC_CNT
  ⟨0x3000, [(0x40, 8)], .ro, 255, 0x0, 0x0, 0x0⟩, -- CLAIM
  ⟨0x3004, [(0x40, 8)], .rw, 255, 0x103, 0x0, 0x0⟩, -- CORE_MASK
  ⟨0x4000, [(0x4, 256)], .ro, 255, 0x0, 0x0, 0x0⟩] -- ENG_WHO

/-- The register summary of block APC. -/
def descApc : List RegDesc := [
  ⟨0x0, [], .wo, 255, 0x0, 0x0, 0x0⟩, -- APC_CMD
  ⟨0x4, [], .ro, 255, 0x0, 0x0, 0x0⟩, -- APC_STATUS
  ⟨0x8, [], .ro, 255, 0x0, 0x0, 0x0⟩, -- ERRQ_WP
  ⟨0xC, [], .rw, 255, 0xFF, 0x0, 0x0⟩, -- ERRQ_RP
  ⟨0x10, [], .w1c, 255, 0x0, 0x1, 0x0⟩, -- ERRQ_LOST
  ⟨0x14, [], .ro, 255, 0x0, 0x0, 0x0⟩, -- LOOPQ_STATUS
  ⟨0x20, [(0x4, 8)], .ro, 255, 0x0, 0x0, 0x0⟩, -- CORE_LOAD
  ⟨0x1000, [(0x40, 16)], .rw, 16, 0x1F73, 0x0, 0x801⟩, -- TASK_CFG
  ⟨0x1004, [(0x40, 16)], .rw, 16, 0xFFFFFF, 0x0, 0x0⟩, -- TASK_PERIOD
  ⟨0x1008, [(0x40, 16)], .rw, 16, 0xFFFFFF, 0x0, 0x0⟩, -- TASK_PHASE
  ⟨0x100C, [(0x40, 16)], .rw, 16, 0xFFFF00FF, 0x0, 0x3E8000A⟩, -- TASK_LIMIT
  ⟨0x1010, [(0x40, 16)], .ro, 16, 0x0, 0x0, 0x0⟩, -- CODE_LEN
  ⟨0x1014, [(0x40, 16)], .ro, 16, 0x0, 0x0, 0x0⟩, -- DATA_LEN
  ⟨0x1018, [(0x40, 16)], .ro, 16, 0x0, 0x0, 0x0⟩, -- RET_LEN
  ⟨0x101C, [(0x40, 16)], .ro, 16, 0x0, 0x0, 0x0⟩, -- LAYOUT_ID
  ⟨0x2000, [(0x40, 16)], .ro, 255, 0x0, 0x0, 0x0⟩, -- TASK_STATUS
  ⟨0x2004, [(0x40, 16)], .ro, 255, 0x0, 0x0, 0x0⟩, -- CYCLE_CNT
  ⟨0x2008, [(0x40, 16)], .ro, 255, 0x0, 0x0, 0x0⟩, -- OVERRUN_CNT
  ⟨0x200C, [(0x40, 16)], .ro, 255, 0x0, 0x0, 0x0⟩, -- EXEC_LAST
  ⟨0x2010, [(0x40, 16)], .ro, 255, 0x0, 0x0, 0x0⟩, -- EXEC_MAX
  ⟨0x2014, [(0x40, 16)], .ro, 255, 0x0, 0x0, 0x0⟩, -- START_LATE
  ⟨0x2018, [(0x40, 16)], .ro, 255, 0x0, 0x0, 0x0⟩, -- CARRY_CNT
  ⟨0x201C, [(0x40, 16)], .ro, 255, 0x0, 0x0, 0x0⟩, -- RELEASE_LO
  ⟨0x2020, [(0x40, 16)], .ro, 255, 0x0, 0x0, 0x0⟩, -- RELEASE_HI
  ⟨0x203C, [(0x40, 16)], .wo, 255, 0x0, 0x0, 0x0⟩, -- TASK_CMD
  ⟨0x4000, [(0x10, 256), (0x4, 4)], .ro, 255, 0x0, 0x0, 0x0⟩, -- ERRQ
  ⟨0x20000, [(0x20, 4096), (0x4, 8)], .rw, 255, 0xFFFFFFFF, 0x0, 0x0⟩, -- TIMER
  ⟨0x1020, [(0x40, 16)], .rw, 16, 0x1FFF01, 0x0, 0x300⟩, -- CODE_CFG
  ⟨0x2024, [(0x40, 16)], .ro, 255, 0x0, 0x0, 0x0⟩, -- CODE_FAULT
  ⟨0x2028, [(0x40, 16)], .ro, 255, 0x0, 0x0, 0x0⟩, -- FAULT_PC
  ⟨0x202C, [(0x40, 16)], .ro, 255, 0x0, 0x0, 0x0⟩, -- FAULT_ADDR_LO
  ⟨0x2030, [(0x40, 16)], .ro, 255, 0x0, 0x0, 0x0⟩, -- FAULT_ADDR_HI
  ⟨0x2034, [(0x40, 16)], .ro, 255, 0x0, 0x0, 0x0⟩] -- IC_STATUS

/-- The register summary of block ENG. -/
def descEng : List RegDesc := [
  ⟨0x1000, [(0x40000, 512), (0x200, 8)], .ro, 255, 0x0, 0x0, 0x0⟩, -- LOOP_ID
  ⟨0x1004, [(0x40000, 512), (0x200, 8)], .ro, 255, 0x0, 0x0, 0x101⟩, -- SHAPE
  ⟨0x1008, [(0x40000, 512), (0x200, 8)], .ro, 255, 0x0, 0x0, 0x3E8⟩, -- TIMING
  ⟨0x100C, [(0x40000, 512), (0x200, 8)], .rwm, 18, 0x7F, 0x0, 0x0⟩, -- MODE_CTRL
  ⟨0x1010, [(0x40000, 512), (0x200, 8)], .rw, 18, 0xFFFF, 0x0, 0x0⟩, -- INT_MASK
  ⟨0x1014, [(0x40000, 512), (0x200, 8)], .rw, 18, 0xFFFF00FF, 0x0, 0x1F40000⟩, -- MEAS_REQ
  ⟨0x1018, [(0x40000, 512), (0x200, 8)], .rw, 18, 0xFFFF, 0x0, 0x0⟩, -- MISS_TRIP
  ⟨0x1020, [(0x40000, 512), (0x200, 8), (0x4, 4)], .rw, 18, 0xFFFFFFFF, 0x0, 0x0⟩, -- REF
  ⟨0x1030, [(0x40000, 512), (0x200, 8), (0x4, 4)], .rw, 18, 0xFFFFFFFF, 0x0, 0x0⟩, -- U_MAN
  ⟨0x1040, [(0x40000, 512), (0x200, 8), (0x4, 4)], .rw, 18, 0xFFFFFFFF, 0x0, 0x0⟩, -- FF_EXT
  ⟨0x1050, [(0x40000, 512), (0x200, 8), (0x4, 4)], .rw, 18, 0xFFFFFFFF, 0x0, 0x0⟩, -- U_SAFE
  ⟨0x1060, [(0x40000, 512), (0x200, 8)], .rw, 18, 0x1FFF07, 0x0, 0x0⟩, -- LOSS_CTRL[0]
  ⟨0x1064, [(0x40000, 512), (0x200, 8)], .rw, 18, 0xFFFF, 0x0, 0x0⟩, -- LOSS_CTRL[1]
  ⟨0x1068, [(0x40000, 512), (0x200, 8), (0x4, 2)], .rw, 18, 0x0, 0x0, 0x0⟩, -- LOSS_CTRL[2], [3]
  ⟨0x1070, [(0x40000, 512), (0x200, 8), (0x4, 4)], .rw, 18, 0xFFFFFF, 0x0, 0x20⟩, -- COMP_CTRL
  ⟨0x1080, [(0x40000, 512), (0x200, 8)], .rw, 18, 0xFF03, 0x0, 0x0⟩, -- TRACE_CTRL[0]
  ⟨0x1084, [(0x40000, 512), (0x200, 8), (0x4, 2)], .rw, 18, 0xFFFFFFFF, 0x0, 0x0⟩, -- TRACE_CTRL[1], [2]
  ⟨0x108C, [(0x40000, 512), (0x200, 8)], .rw, 18, 0x7FFFF, 0x0, 0x0⟩, -- TRACE_CTRL[3]
  ⟨0x10C0, [(0x40000, 512), (0x200, 8)], .ro, 255, 0x0, 0x0, 0x400⟩, -- STATUS
  ⟨0x10C4, [(0x40000, 512), (0x200, 8)], .ro, 255, 0x0, 0x0, 0x0⟩, -- FAULT_INFO
  ⟨0x10C8, [(0x40000, 512), (0x200, 8)], .ro, 255, 0x0, 0x0, 0x0⟩, -- SAMPLE_CNT
  ⟨0x10CC, [(0x40000, 512), (0x200, 8)], .ro, 255, 0x0, 0x0, 0x0⟩, -- EVENT_CNT
  ⟨0x10D0, [(0x40000, 512), (0x200, 8)], .ro, 255, 0x0, 0x0, 0x0⟩, -- LATENCY
  ⟨0x10D4, [(0x40000, 512), (0x200, 8)], .ro, 255, 0x0, 0x0, 0x0⟩, -- PREP_LATE_CNT
  ⟨0x10D8, [(0x40000, 512), (0x200, 8)], .ro, 255, 0x0, 0x0, 0x0⟩, -- SAT_STATE
  ⟨0x10E0, [(0x40000, 512), (0x200, 8), (0x4, 4)], .ro, 255, 0x0, 0x0, 0x0⟩, -- U_OUT
  ⟨0x0, [(0x40000, 512)], .rw, 18, 0x1FFFF, 0x0, 0x4B0⟩, -- ENG_CTRL
  ⟨0x4, [(0x40000, 512)], .wo, 255, 0x0, 0x0, 0x0⟩, -- SLOT_CMD
  ⟨0x8, [(0x40000, 512)], .ro, 255, 0x0, 0x0, 0x0⟩, -- ENG_STATUS
  ⟨0xC, [(0x40000, 512)], .w1c, 255, 0x0, 0x60000, 0x0⟩, -- ENG_COND
  ⟨0x10, [(0x40000, 512)], .ro, 255, 0x0, 0x0, 0x0⟩, -- ECC_CORR_CNT
  ⟨0x14, [(0x40000, 512)], .ro, 255, 0x0, 0x0, 0x0⟩, -- BUSY
  ⟨0x18, [(0x40000, 512)], .ro, 255, 0x0, 0x0, 0x0⟩, -- ENG_LAT_MAX
  ⟨0x1C, [(0x40000, 512)], .ro, 255, 0x0, 0x0, 0x0⟩, -- ENG_LAT_OVER_CNT
  ⟨0x20, [(0x40000, 512)], .ro, 255, 0x0, 0x0, 0x0⟩, -- QUEUE_MAX
  ⟨0x40, [(0x40000, 512), (0x4, 8)], .ro, 255, 0x0, 0x0, 0x0⟩] -- SLOT_COST

end Sys2Proof.Machine
end

