-- ==== Sys2Proof/Machine/State.lean ====
section
/-! DEFINITION. The state of the block as plain data: every register and RAM word under its station address, and for
each unit the spec describes the state its registers do not show. -/
namespace Sys2Proof.Machine

/-- Why the block stops with a fault. No command of this spec stops the block: what the spec calls a fault (an instance
fault, a code fault, a bus error) is reported in registers and the block goes on. The one constructor is raised by
nothing; it is safe. -/
inductive Fault where
  | halted
  deriving DecidableEq, Repr

/-- Why a command has no meaning. `notModelled` is raised only by a dispatch arm that has no meaning yet, and is safe. -/
inductive Refusal where
  | notModelled (mnemonic : String)
  deriving DecidableEq, Repr

/-- A commit unit (R50): its group, the half it lies in (none: the field deck, R55) and its index in the group. -/
structure CUnit where
  grp : Nat
  half : Option Half
  idx : Nat
  deriving DecidableEq, Repr

/-- A write travelling on a half's field-deck link (R28): issuing master, address, written word. DEDUCED: note 30. -/
structure DeckItem where
  master : Nat
  addr : Nat
  val : Word
  deriving DecidableEq, Repr

/-- A block's report on its way to the logbook ingest (R538). -/
structure Report where
  code : Nat
  kind : Nat
  num : Nat
  time : Nat
  data : List Word
  deriving DecidableEq, Repr

/-- A logbook record (R536), field by field; an open record of the coalescer holds its first report's ship time. -/
structure LogRec where
  shipTime : Nat
  opTime : Nat
  cycles : Nat
  synced : Bool
  pinned : Bool
  deckTime : Bool
  half : Half
  saturated : Bool
  code : Nat
  kind : Nat
  num : Nat
  rep : Nat
  span : Nat
  seq : Nat
  t0 : Nat
  data : List Word
  deriving DecidableEq, Repr

/-- The logbook of one half beyond its registers (R538-R543): reports in flight, open records of the coalescer,
the MRAM write queue and the records that wait for room in it, the flash ring, the pinned area and the writer's own queue, a
read in progress, and the tick of the last FREEZE.
DESIGN CHOICE: note 2. -/
structure LogSt where
  inbox : List Report := []
  opened : List LogRec := []
  queue : List LogRec := []
  flash : List LogRec := []
  pinned : Map LogRec := []
  lostFirst : Map Nat := []
  lostLast : Map Nat := []
  lossOpen : Bool := false
  opTime : Nat := 0
  opMark : Nat := 0
  pinBad : List Nat := []
  readSeq : Nat := 0
  readCount : Nat := 0
  readDst : Nat := 0
  readPinned : Bool := false
  pinOverrun : Nat := 0
  waiting : List LogRec := []
  freezeT : Nat := 0
  cycles : Nat := 1
  firstSeq : Nat := 0
  nextSeq : Nat := 0
  pinWp : Nat := 0
  pinCp : Nat := 0
  deriving DecidableEq, Repr

/-- A deficit round-robin arbiter (R535): the child whose turn it is, whether the turn has begun, deficits in bytes. -/
structure ArbSt where
  turn : Nat := 0
  begun : Bool := false
  deficit : Map Nat := []
  deriving DecidableEq, Repr

/-- An open or closed-but-not-visible packet of a framed Tray (R529, R530). -/
structure Packet where
  tray : Nat
  slot : Nat
  len : Nat
  words : List Dword
  engine : Nat
  openedAt : Nat
  continued : Bool
  odd : Bool
  closed : Bool
  truncated : Bool
  deriving DecidableEq, Repr

/-- The Trays of one half beyond their registers: packets not yet visible, words of truncated packets still
outstanding by engine (R530), records held by a full Tray (R526), and the arbiters' deficits and turns (R535). -/
structure TraySt where
  packets : List Packet := []
  outstanding : Map Nat := []
  held : List (Nat × List Dword) := []
  arbs : Map ArbSt := []
  deriving DecidableEq, Repr

/-- One Pantry stream (R548, R549): the open chunk's bytes, its first word's ship time, its first packet offset, the
run's START, chunks still to write after a trigger, and whether STOP waits for the chunk's end. -/
structure StreamSt where
  chunk : List Byte := []
  chunkT : Nat := 0
  firstPkt : Nat := 4294967295
  pktLeft : Nat := 0
  padLeft : Nat := 0
  run : Nat := 0
  postLeft : Option Nat := none
  stopping : Bool := false
  deriving DecidableEq, Repr

/-- A chunk on its way to a member (R550): stream, CHUNK_SEQ, member, Pantry byte address, bytes, and whether it is
already the retry. -/
structure ChunkWrite where
  stream : Nat
  q : Nat
  member : Nat
  addr : Nat
  bytes : List Byte
  retry : Bool
  deriving DecidableEq, Repr

/-- The Pantry of one half beyond its registers (R546-R551): streams, write failures in a row by member, chunks being
written (stream, q, member), the command that runs, the Flushes issued by member and the tick of the last one. -/
structure PantrySt where
  streams : Map StreamSt := []
  failRun : Map Nat := []
  writing : List ChunkWrite := []
  cmdOp : Nat := 0
  cmdMember : Nat := 0
  flushes : Map Nat := []
  flushT : Nat := 0
  deriving DecidableEq, Repr

/-- The time base of one half (R506-R518): the 96-bit accumulator (ns and 32 fraction bits), the elapsed tick count,
the lock rule's runs, the tick of the last report (or SET) and of the entry into HOLDOVER, the committed addends of the last
16 s each with the tick of its commit, the planned step and the tick of its write, each sample clock's last tick in ship time
and in elapsed ticks with the clocks that have not ticked since a step, by clock PERIOD_US x 1024 + PHASE_US; and the ticks of
the partner's last message and from which |PEER_OFFSET| has been above 1 us.
DESIGN CHOICE: note 2. -/
structure TimeSt where
  acc : Nat := 0
  eff : Nat := 17179869184
  ticks : Nat := 0
  everSet : Bool := false
  goodRun : Nat := 0
  goodSince : Nat := 0
  badRun : Nat := 0
  lastRep : Nat := 0
  holdT : Nat := 0
  addends : List (Nat × Nat) := []
  stepDelta : Int := 0
  stepConfirmed : Bool := false
  stepMade : Nat := 0
  sclkLast : Map Nat := []
  sclkTick : Map Nat := []
  sclkStepped : List Nat := []
  partnerState : Nat := 0
  peerT : Nat := 0
  peerBad : Option Nat := none
  following : Bool := false
  cmpLate : List Nat := []
  latchTime : Map Word := []
  latchTally : Map Word := []
  deriving DecidableEq, Repr

/-- Snapshot (R64-R66): the instant T while one runs, whether T has come, and COMMIT_CNT[18-21] and the
out-of-service map taken at T. -/
structure SnapSt where
  t : Option Nat := none
  reached : Bool := false
  commitCnt : List Word := []
  oos : List Nat := []
  deriving DecidableEq, Repr

/-- Which planned switch is under way (R410): T, the kind (3 take-back, 4 hand-over), whether this half is the LEAD that
leaves, whether the partner has confirmed, whether the latch or a RESET_CMD began it, whether T has come, and
the leaver's tick at which it was made. DEDUCED: note 125. -/
structure SwitchPlan where
  t : Nat
  kind : Nat
  leaver : Bool
  confirmed : Bool
  byLatch : Bool
  byReset : Bool
  atT : Bool
  made : Nat
  deriving DecidableEq, Repr

/-- A mirrored carried block (R396): loop, sample number, 32 words. -/
structure MirrorBlock where
  loop : Nat
  sample : Word
  words : List Word
  deriving DecidableEq, Repr

/-- Words of one commit forwarded to the partner (R398): loop, whether the 2 us rule makes it lag, and the words
(offset from the descriptor or coefficient or table area of the loop: area 0, 1, 2). -/
structure FwdCommit where
  loop : Nat
  lag : Bool
  words : List (Nat × Nat × Word)
  deriving DecidableEq, Repr

/-- A task's cycle set (R400): task, cycle count, release instant, written lines of the data area, timer records, and the words its edges and HOLD substitutes go on from.
DEDUCED: note 128. -/
structure CycleSet where
  task : Nat
  cycle : Word
  release : Nat
  lines : List (Nat × List Byte)
  timers : List (Nat × List Word)
  last : Map (Option Word)
  deriving DecidableEq, Repr

/-- The HALF block of one half beyond its registers (R386-R413): Whistle sequence numbers, the partner's last Whistle,
the claim, the fail-over and the planned switch, what is in flight on the mirror link, the blocks held for the next
boundary, forwarded commits that wait for a boundary, tasks with a catch-up cycle due, the joining progress, the Whistle
paths recorded as lost, and the tick from which R409's conditions have held with the mismatch count at it.
DEDUCED: note 122. -/
structure HalfCtl where
  inReset : Bool := false
  resetCause : Nat := 0
  whSeq : Nat := 0
  whSent : Word := 0
  rxMirror : Option Nat := none
  rxTrivet : Option Nat := none
  whT : Option Nat := none
  mirT : Nat := 0
  trivT : Nat := 0
  partnerWh : Word := 0
  everHeard : Bool := false
  claims : Bool := false
  failover : Option Nat := none
  failCause : Nat := 0
  plan : Option SwitchPlan := none
  takebackReq : Bool := false
  takeFrom : Option Nat := none
  takeMis : Word := 0
  mirrorTx : List MirrorBlock := []
  fwdTx : List FwdCommit := []
  setTx : List CycleSet := []
  held : Map (List Word) := []
  fwdWait : List (Nat × Bool) := []
  catchUp : Map Nat := []
  joinT : Nat := 0
  copied : List Nat := []
  tasksCopied : List Nat := []
  startDelay : Bool := false
  resetAfterSwitch : Bool := false
  switchT : Nat := 0
  resetT : Nat := 0
  pathLost : List Nat := []
  deriving DecidableEq, Repr

/-- Working lanes (R26): of the mirror link from this half to the other, and of the field-deck link to and from the deck; and
whether the degraded-link alarm of each of the two links stands. DEDUCED: notes 130, 162. -/
structure LinkSt where
  mirror : Nat := 255
  deckTo : Nat := 15
  deckFrom : Nat := 15
  alarmDeck : Bool := false
  alarmMirror : Bool := false
  deriving DecidableEq, Repr

/-- Trivet (R389-R391): each rail's copy of every group's owner (0 none, 1 Half A, 2 Half B), the frozen groups, the
claim vectors as they last arrived, which of them are fresh, which Whistle paths Trivet hears, by half the deck ticks of the last
Whistle and of the last claim vector, its strap and its trip
record writer's queue and count. DEDUCED: note 123. -/
structure Trivet where
  rail0 : Map Nat := []
  rail1 : Map Nat := []
  frozen : List Nat := []
  vecA : Nat := 0
  vecB : Nat := 0
  freshA : Bool := false
  freshB : Bool := false
  heardA : Bool := false
  heardB : Bool := false
  hearT : Map Nat := []
  claimT : Map Nat := []
  railFault : Bool := false
  pref : Nat := 0
  tripQueue : List LogRec := []
  pinSeq : Nat := 0
  deriving DecidableEq, Repr

/-- A firmware slot (R582): the release of the package it holds and whether the package passes its check. -/
structure FwSlot where
  release : Nat
  good : Bool
  deriving DecidableEq, Repr

/-- Start-up and service of one half (R574-R585): firmware slots, boots of ACTIVE in a row that failed, the store in
progress (deck package or half package, its release), resets since manufacture, the ticks of the last watchdog feed and
of the end of reset, whether START_DONE and the end of the self-test
have come, whether ROLLBACK waits for its boot, whether TEMP_HIGH has been written without TEMP_NORMAL, and the ticks from
which the reference point has been above 55 and below 52 degrees C.
DESIGN CHOICE: note 2. -/
structure BootSt where
  active : Option FwSlot := some ⟨1282, true⟩
  previous : Option FwSlot := none
  failedBoots : Nat := 0
  storing : Option (Bool × Nat) := none
  resets : Nat := 0
  wdFed : Nat := 0
  started : Bool := false
  tested : Bool := false
  rolled : Bool := false
  hot : Bool := false
  hotFrom : Option Nat := none
  coolFrom : Option Nat := none
  deriving DecidableEq, Repr

/-- A held copy of a region (R91): whether it undefines the region, its words that differ from the region's reset values
by region-space offset, the IMAGE_ID and CRC of its section, which free value places it in the copy area, and its section's
offset in the raw image. -/
structure RegCopy where
  remove : Bool
  words : Map Word
  sid : Nat
  crc : Nat
  place : Nat
  pos : Nat
  deriving DecidableEq, Repr

/-- An image of the image store (R99): its ID and its regions. DEDUCED: note 63. -/
structure StoredImg where
  id : Nat
  regions : Map RegCopy
  deriving DecidableEq, Repr

/-- The loader of one half beyond its registers (R82-R100): active and ready copies by region number, regions refused at
the last check, the checked image (ID, MODULE region equal to the active one, whether a region of it was refused, whether it
pairs, whether it is full, its length), whether the half itself asked for the copy that is checked (R100), regions of the
start image that wait for the half's lead (R98), the
image under activation (ID, whether a region was refused or abandoned, whether one committed, whether it pairs), the
partner's marks (region, CRC), the image store, the store under way, and the start source under trial. -/
structure ImgSt where
  active : Map RegCopy := []
  ready : Map RegCopy := []
  refused : List Nat := []
  newId : Nat := 0
  newMod : Option Nat := none
  newBad : Bool := false
  newFree : Bool := false
  newFull : Bool := false
  chkLen : Nat := 0
  auto : Bool := false
  deckDue : List Nat := []
  actId : Nat := 0
  actBad : Bool := false
  actAny : Bool := false
  actFree : Bool := false
  partnerMark : Map Nat := []
  paired : List Nat := []
  slotA : Option StoredImg := none
  slotP : Option StoredImg := none
  storing : Option StoredImg := none
  copying : Option StoredImg := none
  trial : Nat := 0
  starting : Bool := false
  deriving DecidableEq, Repr


/-- A packet of a trace half-buffer (R164): which half-buffer, its header's fields, its node words per record W, the
words written so far (header included), the Tray words already moved out, and whether it has closed. DEDUCED: note 73. -/
structure TracePkt where
  buf : Nat
  loop : Nat
  standby : Bool
  w : Nat
  gapCnt : Nat
  decim : Nat
  first : Word
  mask : List Word
  time : Nat
  count : Nat
  moved : Nat
  closed : Option Nat
  deriving DecidableEq, Repr

/-- One instance slot beyond its registers and state area (R103, R105, R115-R121): the phase of the sample in progress
(0 none, 1 prepare, 2 waits for input-ready, 3 critical, 4 finish), the input port, what the phases hand to each other,
the command words last sent, pending SLOT_CMD bits, whether MISS_ACTION applies, the loop map still has to show FAULTED,
a fault asserts the demand, or a commit waits since a skipped tick (R121, R129, R135), the time at which the last finish phase
ended (R181), COMP_CTRL words written since the
last commit, and the trace. -/
structure SlotRun where
  phase : Nat := 0
  ready : Bool := false
  arrived : Nat := 0
  valid : Nat := 0
  raw : Map Word := []
  invalid : Nat := 0
  loss : Nat := 0
  tick : Nat := 0
  src : Nat := 0
  fade : Nat := 0
  tabBad : Nat := 0
  tabPt : List Nat := []
  rcBad : Nat := 0
  known : Bool := false
  pos : Word := 0
  xh : List Word := []
  mode : Nat := 0
  e : Word := 0
  comp : List Word := []
  catchU : List Word := []
  pre : List Word := []
  tab : List Word := []
  rc : List Word := []
  u : List Word := []
  out : List Word := []
  sent : List Word := []
  sentCoast : Bool := false
  restart : Bool := false
  clear : Bool := false
  missAct : Bool := false
  roleDue : Bool := false
  faultDem : Bool := false
  cmtWait : Bool := false
  endT : Option Nat := none
  compWr : Nat := 0
  gap : Nat := 0
  snapGap : Bool := false
  packets : List TracePkt := []
  deriving DecidableEq, Repr

/-- A measurement word on its way to an engine input port (R31): loop, measurement, valid bit, raw word. -/
structure MeasWord where
  loop : Nat
  k : Nat
  valid : Bool
  word : Word
  deriving DecidableEq, Repr

/-- A command word on its way to a destination (R31, R154): loop, command, the destination's index and field, the
converted word and the coast mark. -/
structure CmdWord where
  loop : Nat
  j : Nat
  idx : Nat
  sel : Nat
  word : Word
  coast : Bool
  deriving DecidableEq, Repr

/-- A migration under way (R179-R183): loop, source and target slot, cause of the record MOVED, whether the pre-copy has
ended, and the boundaries tried since. -/
structure Move where
  loop : Nat
  src : Nat
  dst : Nat
  cause : Nat
  copied : Bool
  tries : Nat
  deriving DecidableEq, Repr

/-- A copy without a running slot (R184-R188): loop, the slot it last had, its new slot if one is reserved, its role and
slot state when it stopped, whether an engine fault stopped it and its descriptor, coefficients and table, and its carried
block, read clean (R186), a target that a move had reserved (R183), whether it was evicted, the time
of detection and of its last tick (none: it never ran), whether its region has committed since, with another number of
states or inputs, and the half-demand that it asserted when it stopped (R185). -/
structure LostCopy where
  loop : Nat
  src : Nat
  dst : Option Nat
  active : Bool
  state : Nat
  engine : Bool
  clean : Bool
  block : Bool
  prefer : Option Nat
  evicted : Bool
  detect : Nat
  tick : Option Nat
  regionNew : Bool
  sizeNew : Bool
  demand : Option Nat
  deriving DecidableEq, Repr

/-- Placement of one half beyond its registers (R173-R188): migrations, copies without a running slot, active protected
copies reported as a self-fault and not yet running again, the time after each loop's last move, corrected ECC
errors of the last second (time, engine, count), the time after each slab's last clock step (R176), the engines that ECC evacuation empties, the slots set aside
for the loops of a full image (R173), the tick of the balancer's last run, and the PLC_CMD that runs (operation and engine or loop).
DEDUCED: note 144. -/
structure PlaceSt where
  moves : List Move := []
  lost : List LostCopy := []
  selfLost : List Nat := []
  lastMove : Map Nat := []
  vfT : Map Nat := []
  ecc : List (Nat × Nat × Nat) := []
  eccOut : List Nat := []
  plan : List (Nat × Nat) := []
  balT : Option Nat := none
  cmd : Option (Nat × Nat) := none
  deriving DecidableEq, Repr


/-- A drive link beyond its registers (R197-R206): routed words of the sample that have arrived (field mask, words, a
coast mark among them), whether its frame has started, the last duties and PWM_EN sent, consecutive missing samples and
samples without a return, the SEQ of the previous sample's command frame, whether this sample's return was accepted,
whether a SYNC has been sent with its ship time and boundary, whether the first frame after the pair was energised again is still due, and the characters
sent since the last SYNC, that SYNC first (R193). -/
structure LinkRun where
  got : Nat := 0
  words : Map Word := []
  coast : Bool := false
  started : Bool := false
  duty : List Nat := [0, 0, 0]
  pwm : Bool := false
  missRun : Nat := 0
  noRet : Nat := 0
  prevSeq : Option Nat := none
  curSeq : Option Nat := none
  accepted : Bool := false
  synced : Bool := false
  syncT : Nat := 0
  syncK : Nat := 0
  gated : Bool := true
  tx : List LinkChar := []
  deriving DecidableEq, Repr

/-- A segment of a running profile (R210): duration in ticks, end position in steps, end velocity (binary32). -/
structure Segm where
  dur : Nat
  pos : Int
  vel : Nat
  deriving DecidableEq, Repr

/-- A motion port beyond its registers (R209-R218), numbers of binary64 as their patterns: commanded position, velocity,
time in the segment, time scale, the running copy and the place in it, the engine's command word and one that waits for
the next tick, when a word last arrived, the ticks above STALL_ANGLE, the last step and wake_end in ns of ship time,
the instants of the steps of the last tick, whether that run of ticks has been declared a stall (R218), the PORT_CMDs that wait
for the next tick (R209), whether POS_SET acted in the last tick (R222), and that tick with the feedback words before it
(R220). -/
structure MotRun where
  p : Nat := 0
  v : Nat := 0
  tau : Nat := 0
  sigma : Nat := 0
  segs : List Segm := []
  idx : Nat := 0
  first : Nat := 0
  p0 : Nat := 0
  v0 : Nat := 0
  finished : Bool := false
  word : Nat := 0
  newWord : Option Nat := none
  wordT : Nat := 0
  ovr : Nat := 0
  lastStep : Nat := 0
  wakeEnd : Nat := 0
  steps : List Nat := []
  decl : Bool := false
  cmds : List Nat := []
  posSet : Bool := false
  tickT : Nat := 0
  prev : List Word := []
  deriving DecidableEq, Repr

/-- The two paths of one comparator (R252): the states of the island path and the card path, evaluations in a row on which
they differed, whether they count as in disagreement, and evaluations in a row in agreement since. -/
structure CmpRun where
  isl : Bool := false
  card : Bool := false
  diff : Nat := 0
  dis : Bool := false
  agree : Nat := 0
  deriving DecidableEq, Repr

/-- An analogue channel beyond its registers (R228-R261), binary32 patterns as numbers: the comparators; the latest
accepted command with its time; the value applied; the passive island's target, pending fall, lost frames, held ALARM_DIR
and whether the island is one; the latched faults; the calibration points, the one being averaged with its conversions so
far and their sum (binary64), the pair being stored, a waiting OFFLINE and the time of the last CAL_CMD; the crossing
detector's arming, previous conversion and last crossings; when the last window's value came; the deck ticks at which SETTLING
began, the shunt last opened or was tested, and the thermocouple was last tested. -/
structure ChanRun where
  lo : CmpRun := {}
  hi : CmpRun := {}
  cmd : Option Nat := none
  cmdT : Nat := 0
  applied : Nat := 0
  target : Nat := 0
  falling : Bool := false
  frameLost : Bool := false
  islDir : Bool := false
  passive : Bool := false
  islFault : Bool := false
  shunt : Bool := false
  exLimit : Bool := false
  clamp : Bool := false
  cjcBad : Bool := false
  openTc : Bool := false
  openWire : Bool := false
  calReq : Bool := false
  calRun : Nat := 0
  calN : Nat := 0
  calSum : Nat := 0
  calLo : Option (Nat × Nat) := none
  calHi : Option (Nat × Nat) := none
  calNew : Nat × Nat := (0, 0)
  calT : Nat := 0
  zcUp : Bool := false
  zcDown : Bool := false
  zcPrev : Option (Nat × Nat) := none
  zcLastUp : Option Nat := none
  zcLastDown : Option Nat := none
  convT : Option Nat := none
  setT : Nat := 0
  shuntT : Nat := 0
  tcT : Option Nat := none
  deriving DecidableEq, Repr

/-- A measurement that a FAST channel owes a loop since its last tick (R235): loop, measurement, channel, tick. -/
structure AncDue where
  loop : Nat
  k : Nat
  chan : Nat
  tick : Nat
  deriving DecidableEq, Repr


/-- One comparator path of a digital input (R267, R270): its state, the direction and length of its run. -/
structure DiPath where
  state : Bool := false
  up : Bool := false
  run : Nat := 0
  deriving DecidableEq, Repr

/-- A digital input beyond its registers (R267-R277, R310): its two paths; resolved, time of the first judgement;
judgements in a row on which the paths differed or agreed, DI_DISAGREE; the last sample over the limit; CROSS_SHORT and
frames in a row that clear it; the own-slot test of the frame (input high before the slot, no failing sample); the
last sample high; the foreign-slot test (frame and slot of the last window, GOOD and high before that slot, a low sample in
it, the frame that is spoiled) and the frame and slot that failed before; a waiting CLEAR_COUNT; the frequency gate's
reference, last edge and edges between; the gate that ended last; the supply that holds it with the frame and the start
tick of its slot, and the frame of the last clean test; the tick since which state and VALID stand, what stood before (state, VALID times 2) and for how long, and
whether a reset step has used the change (R301). -/
structure DinRun where
  p0 : DiPath := {}
  p1 : DiPath := {}
  resolved : Bool := false
  first : Option Nat := none
  diff : Nat := 0
  agree : Nat := 0
  ovr : Bool := false
  cross : Bool := false
  clean : Nat := 0
  preHigh : Bool := false
  slotOk : Bool := false
  lastHigh : Bool := false
  cur : Option (Nat × Nat) := none
  low : Bool := false
  lowPre : Bool := false
  badFrame : Option Nat := none
  failed : Option (Nat × Nat) := none
  clearReq : Bool := false
  tRef : Option Nat := none
  tLast : Nat := 0
  edges : Nat := 0
  gateK : Option Nat := none
  heldBy : Option Nat := none
  holdT : Nat := 0
  frame : Nat := 0
  cleanFrame : Nat := 0
  since : Nat := 0
  was : Nat := 0
  wasFor : Nat := 0
  stepDone : Bool := false
  deriving DecidableEq, Repr

/-- A digital output beyond its registers (R283, R284, R286): shut down and not yet restarted, the shutdowns of the last
60 s, in limit for 1 ms, the state that HOLD keeps, and a terminal held above half its supply from outside. -/
structure DoutRun where
  hot : Bool := false
  offs : List Nat := []
  limit : Bool := false
  hold : Bool := false
  term : Bool := false
  deriving DecidableEq, Repr

/-- One trip term beyond its registers (R293, R294, R300): on each rail the tick since which its condition has held and
whether it acts; the ticks of step 1 and at which the rails last differed for 1 us. DESIGN CHOICE: note 142. -/
structure TermRun where
  since0 : Option Nat := none
  since1 : Option Nat := none
  act0 : Bool := false
  act1 : Bool := false
  armT : Nat := 0
  railT : Nat := 0
  deriving DecidableEq, Repr

/-- Lid beyond its registers (R291-R317): entries written into the change log since manufacture, failed token checks in a
row, the two halves' demand vectors as bit maps, the terms, the tick at which a commit began to wait and its half,
and the tick at which TOKEN_BLOCKED was set.
DESIGN CHOICE: note 142. -/
structure LidSt where
  entries : Nat := 0
  failRun : Nat := 0
  demA : Nat := 0
  demB : Nat := 0
  terms : Map TermRun := []
  waitT : Nat := 0
  waitH : Half := .a
  blockT : Nat := 0
  deriving DecidableEq, Repr


/-- A run of station code (R355, R357, R375): entry kind, task, general and floating registers, PC, FCTL, the words LQW
holds (loop, descriptor offset in words, word), the release instant and CYCLE_CNT at the release; of intermediate code
the offset, the evaluation stack (top first), the return offsets, whether HALT ended the run and whether a division by
zero occurred. -/
structure Ctx where
  kind : Nat := 0
  task : Nat := 0
  g : Map Dword := []
  f : Map Dword := []
  pc : Nat := 0
  fctl : Word := 0
  lqw : List (Nat × Nat × Word) := []
  rel : Nat := 0
  cyc : Word := 0
  off : Nat := 0
  stk : List Word := []
  calls : List Nat := []
  halted : Bool := false
  div0 : Bool := false
  deriving DecidableEq, Repr

/-- A retained set in MRAM (R343): CYCLE_CNT, LAYOUT_ID, its bytes by offset, and whether its CRC is right. -/
structure RetSet where
  cycle : Word
  layout : Word
  bytes : Map Byte
  good : Bool
  deriving DecidableEq, Repr

/-- A task beyond its registers (R324-R350). Phases: 0 none, 1 released, 2 executes, 3 execution ended, 4 data being built,
5 start routine waits for its core, 6 start routine runs. Release instant of the cycle; the last instant used and the
first one allowed; the run; data area and stack by offset; the words of this cycle and of the last executed one by place
in the IN_LIST; loops and cards already reported in the cycle; kind of the start and whether a whole-half restart asked
for it; the start routine's begin; the state of an online change (0 none, 1 paired, 2 prepared, 3 carried) with the new
data area, the carry's length in us, when it ends, and whether a release waits for that; the two MRAM buffers, which is newest, and the set being written; data-area lines written in the cycle; when
the error task last ended; and a switch that takes the registers alone. -/
structure TaskRun where
  phase : Nat := 0
  release : Nat := 0
  lastInst : Option Nat := none
  notBefore : Nat := 0
  ctx : Ctx := {}
  data : Map Byte := []
  stack : Map Byte := []
  cur : Map (Option Word) := []
  last : Map (Option Word) := []
  absent : List Nat := []
  refused : List Nat := []
  start : Nat := 0
  whole : Bool := false
  startT : Nat := 0
  prep : Nat := 0
  newData : Map Byte := []
  carryT : Nat := 0
  carryEnd : Nat := 0
  held : Bool := false
  ret0 : Option RetSet := none
  ret1 : Option RetSet := none
  newest1 : Bool := false
  writing : Option RetSet := none
  lines : List Nat := []
  errEnd : Nat := 0
  waitSet : Option Nat := none
  deriving DecidableEq, Repr

/-- A word in the loop-write queue (R333): for a loop (or, when `mot`, for the MOT window), its word offset, and the
task that queued it (16: background code). -/
structure LoopWord where
  mot : Bool
  loop : Nat
  off : Nat
  word : Word
  task : Nat
  deriving DecidableEq, Repr

/-- An application core (R326, R370): the tasks that hold it, the running one first; the background run, its stack, when
its last run ended, and the task whose routine a fault has ended. -/
structure CoreRun where
  stack : List Nat := []
  bg : Option Ctx := none
  bgStack : Map Byte := []
  bgEnd : Option Nat := none
  bgOut : Option Nat := none
  deriving DecidableEq, Repr


/-- An open posted write or tagged read (R439-R445): tag, whether it is a read, station, ordering group within it, station
byte address, word count, first data word, sequence number, issuing core and the half's tick at the GO. -/
structure TrkOp where
  tag : Nat
  read : Bool
  station : Nat
  group : Nat
  addr : Nat
  count : Nat
  first : Word
  seq : Nat
  core : Nat
  made : Nat
  deriving DecidableEq, Repr

/-- The trunk endpoint of one half beyond its registers: next tag, open transactions, next sequence number of each ordering
group, the groups whose next frame needs no RESYNC, frames that wait for the port, bytes of acyclic frames inserted in
this cycle, the stations heard in this cycle, the cycle in which a station last went DOWN, whether this cycle's slot has
sent, and by lane one more than the tick from which its eye has been low (R421). -/
structure TrkSt where
  nextTag : Nat := 0
  ops : List TrkOp := []
  seqs : Map Nat := []
  known : List Nat := []
  queue : List TrkFrame := []
  spent : Nat := 0
  seen : List Nat := []
  downAt : Map Nat := []
  slotSent : Bool := false
  eyeLow : Map Nat := []
  deriving DecidableEq, Repr

/-- The trunk front-end and node state in the field deck (R423, R430-R435, R446): which free value is the NONCE; EN and
MASTER_EN and UNWRAP_HOLD as the owner last committed them; a duplicate address; by port: up, down, wrapped, ready to unwrap,
bypass open, upstream span delay in ns, the tick of the last down condition, the tick since which it is up, the last cycle
with a frame of bad CRC and how many cycles in a row had one; whether a port has been up since EN; WRAPPED frames in this cycle and the last; whether
this node is master, stops at the next cycle, the cycles without CYCLE_START and whether this cycle brought one; the
ready flags of every node's RING frame; the ports whose base bypass stood against the module's own at the last reading; the unwrap plan (node, partner, cycle); and the frames sent in this cycle by port. -/
structure TrkDeck where
  nonceIx : Nat := 0
  en : Bool := false
  masterEn : Bool := true
  hold : Nat := 1
  dup : Bool := false
  up : Map Bool := []
  down : Map Bool := []
  wrapped : Map Bool := []
  ready : Map Bool := []
  opened : Map Bool := []
  span : Map Nat := []
  downT : Map Nat := []
  upT : Map Nat := []
  crcCycle : Map Nat := []
  crcRun : Map Nat := []
  joined : Bool := false
  remote : Bool := false
  wrapSeen : Bool := false
  master : Bool := false
  masterNode : Nat := 0
  stop : Bool := false
  noCs : Nat := 0
  sawCs : Bool := false
  flags : Map Nat := []
  baseBad : Map Bool := []
  plan : Option (Nat × Nat × Nat) := none
  out : List (Nat × TrkFrame) := []
  deriving DecidableEq, Repr

/-- The power entry and slot supplies in the field deck (R454-R462): phase (0 NORMAL, 1 RIDE, 2 HALVES_OFF, 3 DECK_OFF); by
feed (0 E, 1 W) whether it is OK; by bay (0 A, 1 B) whether its converter is off, off by fault, off by BAY_CYCLE, and its
latch open; the deck ticks at the start of RIDE and of HALVES_OFF, by bay at the last change of its latch and at BAY_CYCLE, at
which a feed became OK while none was, and by bay at the last soft start;
whether HALVES_OFF ended with the deck up; the cards (R479)
in supply FAULT and those whose switch is closed. DEDUCED: notes 120, 136. -/
structure PwrDeck where
  phase : Nat := 0
  feed : Map Bool := []
  bayOff : Map Bool := []
  bayFault : Map Bool := []
  bayCycle : Map Bool := []
  latchOpen : Map Bool := []
  rideT : Nat := 0
  offT : Nat := 0
  latchT : Map Nat := []
  cycleT : Map Nat := []
  feedT : Nat := 0
  upT : Map Nat := []
  retained : Bool := false
  cardFault : List Nat := []
  slotOn : List Nat := []
  deriving DecidableEq, Repr

/-- A generator of a half's sequencer (R467-R470): ship time its STATE began, its last valid power (binary32), since when
its power is invalid, the weight at the start of unloading, and whether the close and the stop request were issued. -/
structure GenRun where
  since : Nat := 0
  pLast : Word := 0
  badSince : Option Nat := none
  w0 : Word := 0
  closed : Bool := false
  stopped : Bool := false
  deriving DecidableEq, Repr

/-- A bus section that names an island (R472, R474): phase (1 LIVE, 2 BLACKOUT, 3 RECOVERY); since when each condition holds
(overload, frequency, restore, start, stop, dead, frequency valid); the end of the step timer; load at the last
boundary; ship time of BLACKOUT and of becoming live; the generator whose close request went out while dead; restart
entries issued. -/
structure IslRun where
  phase : Nat := 1
  ovr : Option Nat := none
  freq : Option Nat := none
  rest : Option Nat := none
  start : Option Nat := none
  stop : Option Nat := none
  dead : Option Nat := none
  alive : Option Nat := none
  stepT : Nat := 0
  pLast : Word := 0
  blackT : Nat := 0
  liveT : Nat := 0
  closer : Option Nat := none
  issued : List Nat := []
  deriving DecidableEq, Repr

/-- A standing request (R471): kind (0 start, 1 close, 2 stop, 3 restart), generator or restart entry, its descriptor, and
the end of its pulse. DEDUCED: note 117. -/
structure PwrReq where
  kind : Nat
  num : Nat
  desc : Word
  ends : Option Nat
  deriving DecidableEq, Repr

/-- The power-management sequencer of one half (R464-R475): whether it has been initialised, the half state at the last
boundary, generators, islands, asserted steps (oldest first), standing requests, demands this half has set, commands for
the next boundary (0-7 GEN_RESET, 8 CLEAR_COUNTS), forwarded words of a commit for the next boundary, the instant of the last
boundary, the tick at which the half last left LEAD, and what is on its way to the partner. DEDUCED: note 119. -/
structure PwrSeq where
  inited : Bool := false
  hstate : Nat := 0
  gens : Map GenRun := []
  isls : Map IslRun := []
  steps : List Nat := []
  reqs : List PwrReq := []
  shedBits : List Nat := []
  cmds : List Nat := []
  next : List (Nat × Word) := []
  bound : Option Nat := none
  leftT : Nat := 0
  tx : List (Sum Nat (List (Nat × Word))) := []
  deriving DecidableEq, Repr

/-- A transmit buffer of a CAN object (R493): identifier, extended, one-shot, DLC, FDF, BRS and the DATA words. -/
structure CanBuf where
  id : Nat
  ide : Bool
  oneShot : Bool
  dlc : Nat
  fdf : Bool
  brs : Bool
  data : List Word
  deriving DecidableEq, Repr

/-- One CAN controller beyond its registers (R490-R501): the pending requests by object; the object whose frame is in flight
with its buffer, and whether the object still stands for it; a request held behind that frame; CAN_CFG, NBT and DBT as
applied; ship time of bus-off; the error state the owner last forwarded; whether a recovery runs and since when; by object
one more than the last periodic instant (R495); and whether the group is lost while a frame is in flight. -/
structure CanRun where
  pend : Map CanBuf := []
  sending : Option (Nat × CanBuf × Bool) := none
  held : Option CanBuf := none
  cfg : Word := 0
  nbt : Word := 0x0F1E3E00
  dbt : Word := 0x09091C00
  offSince : Nat := 0
  fwd : Nat := 3
  recovering : Bool := false
  recT : Nat := 0
  perT : Map Nat := []
  leaving : Bool := false
  deriving DecidableEq, Repr

/-- What the panel draws (R560-R563): final frame or page with its group, the node address, the two half states, ship time
to the minute, the language, the page's content as numbers in the page's order, the RESET_STATUS.RESULT shown, and the
warnings (bay of an open latch: 0 A, 1 B; 2 ON STORED POWER). -/
structure PnlImage where
  final : Bool
  page : Nat
  group : Nat
  node : Nat
  halves : List Nat
  minute : Option Nat
  lang : Nat
  body : List Nat
  step : Option Nat
  warn : List Nat
  deriving DecidableEq, Repr

/-- The panel and its keys beyond their registers (R558-R567): what the panel holds, whether that image is known; the page
asked for next; whether the next update must be full; partial updates since the last full one; ticks of the
last start, of the last full update and of the last press; the prepared final frame and whether it is being drawn; the
tick of a step whose result is shown; by key the baseline less its factory baseline and the tick its state began; and
what the update under way draws, and whether one runs; the ticks at which the final frame was last renewed and, by key, the
baseline last moved. DEDUCED: note 121. -/
structure PanelSt where
  shown : Option PnlImage := none
  known : Bool := true
  next : Option (Nat × Nat) := none
  full : Bool := true
  parts : Nat := 0
  startT : Nat := 0
  fullT : Nat := 0
  pressT : Nat := 0
  prepared : Option PnlImage := none
  finals : Bool := false
  stepT : Option Nat := none
  base : Map Int := []
  since : Map Nat := []
  drawing : Option PnlImage := none
  busy : Bool := false
  renewT : Nat := 0
  baseT : Map Nat := []
  deriving DecidableEq, Repr

/-- Everything of one half that its registers and RAM words do not show; `lostT` the deck tick at which the field deck last ceased
to hear it, `dumpK` the Tally dump period of the last dump. DESIGN CHOICE: note 1. -/
structure HalfSt where
  routeNew : Map Word := []
  routeDue : List Nat := []
  slots : Map SlotRun := []
  busyMs : Map Nat := []
  strobeT : Map Nat := []
  busyAcc : Map Nat := []
  route : Map Word := []
  measTx : List MeasWord := []
  ancTx : List CmdWord := []
  ancDue : List AncDue := []
  drvTx : List CmdWord := []
  motTx : List CmdWord := []
  fitted : Bool := true
  linkUp : Bool := true
  link : LinkSt := {}
  coreStopped : List Nat := []
  readData : Map Word := []
  snap : SnapSt := {}
  time : TimeSt := {}
  tray : TraySt := {}
  log : LogSt := {}
  pantry : PantrySt := {}
  ctl : HalfCtl := {}
  boot : BootSt := {}
  img : ImgSt := {}
  place : PlaceSt := {}
  lostT : Nat := 0
  ctr : Map Nat := []
  dumpK : Option Nat := none
  levOld : List (Nat × Bool) := []
  deckTx : List DeckItem := []
  busErrAddr : Nat := 0
  masterErr : List Nat := []
  dataAbort : List Nat := []
  refusedAddr : Option Nat := none
  tasks : Map TaskRun := []
  cores : Map CoreRun := []
  loopq : List LoopWord := []
  substOn : List Nat := []
  tmRan : List Nat := []
  trk : TrkSt := {}
  can : Map CanRun := []
  pwr : PwrSeq := {}
  deriving DecidableEq, Repr

/-- Everything of the field deck that its registers do not show. DESIGN CHOICE: notes 1, 2. -/
structure DeckSt where
  routeNew : Map Word := []
  routeDue : List (Nat × Nat) := []
  route : Map Word := []
  lid : LidSt := {}
  chans : Map ChanRun := []
  ancBad : Map Nat := []
  dins : Map DinRun := []
  douts : Map DoutRun := []
  wdFed : Map Nat := []
  doIssue : Map Nat := []
  links : Map LinkRun := []
  ports : Map MotRun := []
  trivet : Trivet := {}
  straps : Nat := 0
  strapFaults : Nat := 0
  strapTrue : Nat := 0
  strapComp : Nat := 131071
  timeState : Nat := 0
  timeSrc : Nat := 0
  timeCopy : Nat := 0
  timeFrac : Nat := 0
  timeRate : Nat := 17179869184
  opTime : Nat := 0
  opMark : Nat := 0
  ticks : Nat := 0
  cycles : Nat := 1
  fwActive : Option FwSlot := some ⟨1282, true⟩
  fwPrevious : Option FwSlot := none
  ctrlDown : Bool := false
  trunk : TrkDeck := {}
  pwr : PwrDeck := {}
  inReset : Bool := false
  panel : PanelSt := {}
  deriving DecidableEq, Repr

/-- The block (its command queue `pending` first in, first out): live values and shadows by station address, dirty
and marked commit units (R44-R55), bytes of DDR and staging by station address, the two halves, the field deck, and
the model's own counter of free values. -/
structure State where
  pending : List Instr := []
  live : Map Word := []
  shadow : Map Word := []
  dirty : List CUnit := []
  marked : List CUnit := []
  mem : Map Byte := []
  mirrorUp : Bool := true
  a : HalfSt := {}
  b : HalfSt := {}
  deck : DeckSt := {}
  free : Nat := 0
  deriving DecidableEq, Repr

/-- The block right after reset (R46, R571-R578): the field deck and both halves have just ended a power-up reset; every
register and RAM word at its reset value, no image, no owner of any group, no command waiting.
DESIGN CHOICE: notes 1, 2, 146. PRESUMED: note 3. -/
def State.reset : State := {}

end Sys2Proof.Machine
end

