-- ==== Sys2Proof/Machine/Ops.lean ====
section
/-! DEFINITION. The named operations over registers, shadows, commit groups, memory, the event controller, the Tally
counters, the logbook ingest and the Trays, which every meaning is written in. PRESUMED: note 3. -/
namespace Sys2Proof.Machine

/-! ### Address decode (R13, R40, R41, R45) -/

/-- The part of a station address below the half bit (R13). -/
def lowAddr (a : Nat) : Nat := a % 0x800000000
/-- The half that bit [35] names (R13). -/
def halfOf (a : Nat) : Half := if a / 0x800000000 % 2 = 0 then .a else .b

/-- The windows of R40, each a first offset, a size and a summary. -/
def windows : List (Nat × Nat × List RegDesc) :=
  [(0, 0x10000, descMod), (0x10000, 0x10000, descCmt), (0x20000, 0x20000, descTime), (0x40000, 0x40000, descTally),
   (0x80000, 0x80000, descLog), (0x100000, 0x100000, descTray), (0x200000, 0x200000, descHalf),
   (0x400000, 0x400000, descLid), (0x800000, 0x400000, descTrk), (0xC00000, 0x400000, descCan),
   (0x1000000, 0x100000, descAnc), (0x1100000, 0x80000, descDin), (0x1180000, 0x80000, descDout),
   (0x1200000, 0x100000, descMot), (0x1300000, 0x100000, descDrv), (0x1400000, 0x100000, descPwr),
   (0x1500000, 0x100000, descPnl), (0x1600000, 0xA00000, descEvc), (0x2000000, 0xE000000, descApc),
   (0x10000000, 0x8000000, descEng)]

/-- The window with registers that holds offset `o`. -/
def windowOf (o : Nat) : Option (Nat × Nat × List RegDesc) :=
  windows.find? (fun w => decide (w.1 ≤ o) && decide (o < w.1 + w.2.1))

/-- Cluster table RAM, image staging and the DDR window (R40). -/
def isTable (o : Nat) : Bool := decide (0x20000000 ≤ o) && decide (o < 0x24000000)
def isStaging (o : Nat) : Bool := decide (0x40000000 ≤ o) && decide (o < 0x80000000)
def isDdr (o : Nat) : Bool := decide (0x80000000 ≤ o) && decide (o < 0x800000000)
/-- Whether an offset lies in some window (R43). -/
def inWindow (o : Nat) : Bool := (windowOf o).isSome || isTable o || isStaging o || isDdr o
/-- The field-deck blocks ANC, DIN, DOUT, MOT, DRV, LID, PNL (R43). -/
def isDeckBlock (o : Nat) : Bool :=
  (decide (0x400000 ≤ o) && decide (o < 0x800000)) || (decide (0x1000000 ≤ o) && decide (o < 0x1400000))
    || (decide (0x1500000 ≤ o) && decide (o < 0x1600000))
/-- The field-deck commit groups (R55). -/
def isDeckGroup (g : Nat) : Bool := [5, 9, 10, 11, 12, 13, 15].contains g

/-- The base offset of which `o` is the live view o + LV, if it is one (R45). -/
def liveAlias (o : Nat) : Option Nat :=
  if o < 0x10000 then (if 0x4000 ≤ o ∧ o < 0x8000 then some (o - 0x4000) else none)
  else if 0xC00000 ≤ o ∧ o < 0x1000000 then
    (if o - 0xC00000 < 0x10000 ∧ 0x800 ≤ o % 0x1000 then some (o - 0x800) else none)
  else if 0x1000000 ≤ o ∧ o < 0x1100000 then
    (if o - 0x1000000 < 0x40000 ∧ 0x200 ≤ o % 0x400 then some (o - 0x200) else none)
  else if 0x10000000 ≤ o ∧ o < 0x18000000 then
    let r := o % 0x40000
    if r < 0x1000 then (if 0x800 ≤ r then some (o - 0x800) else none)
    else if r < 0x2000 then (if 0x100 ≤ r % 0x200 then some (o - 0x100) else none)
    else if 0x18000 ≤ r ∧ r < 0x20000 then some (o - 0x8000)
    else none
  else if (0x10000 ≤ o ∧ o < 0x20000) ∨ (0x1600000 ≤ o ∧ o < 0x2000000) then none
  else match windowOf o with
    | some (b, n, _) => if n / 2 ≤ o - b then some (o - n / 2) else none
    | none => none

/-- Whether an offset is one of the strided places of a summary line. -/
def idxMatch : List (Nat × Nat) → Nat → Bool
  | [], r => decide (r = 0)
  | (st, c) :: l, r => decide (r / st < c) && idxMatch l (r % st)

/-- Whether a Tray number exists (R526). DEDUCED: note 49. -/
def trayExists (t : Nat) : Bool := decide (t < 4) || decide (t = 8) || (decide (32 ≤ t) && decide (t < 64))

/-- Writable bits of a word of the coefficient area; `none` where it is reserved (R108, R139). -/
def coefMask (o : Nat) : Option Nat :=
  if (0xBD0 ≤ o ∧ o < 0xC00) ∨ (0xCA4 ≤ o ∧ o < 0xCC0) ∨ 0xDB0 ≤ o then none
  else if o = 0xDA4 then some 0x003FFF0F
  else if o = 0xDAC then some 0x1FFF1FFF
  else some 0xFFFFFFFF
/-- A word of a slot's coefficient area (R108): one unit with the slot; reserved words and bits take no write. -/
def coefDesc (o : Nat) : RegDesc := ⟨0, [], .rw, 18, (coefMask o).getD 0, 0, 0⟩
/-- A RAM word with no shadow that writes act on at once (table RAM, R142). -/
def ramDesc : RegDesc := ⟨0, [], .rw, 255, 0xFFFFFFFF, 0, 0⟩
/-- A RAM word that software only reads while the engine runs (R41). -/
def roDesc : RegDesc := ⟨0, [], .ro, 255, 0, 0, 0⟩

/-- The summary line of the register at base offset `o` (R43: none where the map lists nothing). DEDUCED: note 49. -/
def descOf (o : Nat) : Option RegDesc :=
  if isTable o then some ramDesc
  else if 0x10000000 ≤ o ∧ o < 0x18000000 ∧ 0x2000 ≤ o % 0x40000 then
    let r := o % 0x40000
    if r < 0x8000 then some roDesc
    else if 0x10000 ≤ r ∧ r < 0x18000 then some (coefDesc (r % 0x1000))
    else none
  else match windowOf o with
    | some (b, _, ds) =>
      if b = 0x100000 ∧ o - b < 0x1000 ∧ trayExists ((o - b) / 0x40) = false then none
      else ds.find? (fun d => decide (d.off ≤ o - b) && idxMatch d.idx (o - b - d.off))
    | none => none

/-- Reset values of a slot's coefficient area (R108, R139), as binary32 patterns. -/
def coefReset (o : Nat) : Nat :=
  if 0xB00 ≤ o ∧ o < 0xB40 then 0xD368D4A5
  else if 0xB40 ≤ o ∧ o < 0xB80 then 0x5368D4A5
  else if 0xB80 ≤ o ∧ o < 0xB90 then 0xD368D4A5
  else if 0xB90 ≤ o ∧ o < 0xBA0 then 0x5368D4A5
  else if 0xBB0 ≤ o ∧ o < 0xBC0 then 0x3F800000
  else if 0xC00 ≤ o ∧ o < 0xC20 then 0x3F800000
  else if 0xC40 ≤ o ∧ o < 0xC50 then 0x3F800000
  else if o = 0xC80 then 0x3F800000
  else if 0xD40 ≤ o ∧ o < 0xD60 then 0x3F800000
  else if o = 0xD94 then 0x5368D4A5
  else if o = 0xD98 then 0x3F800000
  else if o = 0xDA0 then 0x3F800000
  else if o = 0xDA4 then 0x00200000
  else if o = 0xDAC then 2
  else 0

/-- Reset values that depend on an index or a strap; `none` where the summary's own value holds. -/
def resetSpecial (straps : Nat) (a : Nat) : Option Nat :=
  let o := lowAddr a
  if 0x10000000 ≤ o ∧ o < 0x18000000 then
    let r := o % 0x40000
    if 0x10000 ≤ r ∧ r < 0x18000 then some (coefReset (r % 0x1000))
    else if 0x1000 ≤ r ∧ r < 0x2000 then
      (if r % 0x200 = 0x60 then some 0x0802 else if r % 0x200 = 0x64 then some 2000 else none)
    else none
  else if 0x1200000 ≤ o ∧ o < 0x1300000 then
    let r := o % 0x4000
    if 0x1000 ≤ r ∧ (r - 0x1000) % 12 = 0 then some 1 else none
  else if 0x430000 ≤ o ∧ o < 0x430200 then some ((o - 0x430000) / 4 % 100)
  else if 0x100000 ≤ o ∧ o < 0x101000 then
    let t := (o - 0x100000) / 0x40
    let r := o % 0x40
    if r = 0 then
      some (if t = 0 then 0x1FF00000 else if t = 1 then 0x1FF00400 else if t = 2 then 0x1FF00800
        else if t = 3 then 0x1FF01000 else if t = 8 then 0x1FF80000 else 0)
    else if r = 4 then
      some (if t = 0 then 12 else if t = 1 then 12 else if t = 2 then 14 else if t = 3 then 11
        else if t = 8 then 22 else 9)
    else if r = 0xC then some (if t = 8 then 6 else if 32 ≤ t then 5 else 0)
    else none
  else if 0x1000000 ≤ o ∧ o < 0x1040000 ∧ o % 0x400 = 0 then
    some (0x12200 + (straps / 2 ^ 8 % 2) * 2 ^ 17)
  else if 0x1180000 ≤ o ∧ o < 0x1184000 ∧ o % 0x40 = 0 then some (straps / 2 ^ 11 % 4)
  else if o = 0x1500000 then some (0x147800 + straps / 2 ^ 13 % 8)
  else if o = 0x200040 then some (0xE0 + (if straps / 2 ^ 6 % 2 = (halfOf a).num then 8 else 0))
  else if o = 0x48000C then some 0xAF48D401
  else if o = 0x480010 then some 0x540628D9
  else if o = 4 then some 0x05020502
  else if o = 0x801000 then some (straps % 64)
  else none

/-- What a register or RAM word holds at reset (R15, R46). DEDUCED: note 9. PRESUMED: note 3. -/
def resetWord (straps : Nat) (a : Nat) : Word :=
  match resetSpecial straps a with
  | some v => BitVec.ofNat 32 v
  | none => match descOf (lowAddr a) with
    | some d => BitVec.ofNat 32 d.rst
    | none => 0

/-! ### Access to the state -/

/-- The half `h`. -/
def State.half (s : State) (h : Half) : HalfSt := match h with
  | .a => s.a
  | .b => s.b
/-- Replace the half `h`. -/
def State.setHalf (s : State) (h : Half) (x : HalfSt) : State := match h with
  | .a => { s with a := x }
  | .b => { s with b := x }
/-- Change the half `h`. -/
def State.modHalf (s : State) (h : Half) (f : HalfSt → HalfSt) : State := s.setHalf h (f (s.half h))
/-- Change the field deck. -/
def State.modDeck (s : State) (f : DeckSt → DeckSt) : State := { s with deck := f s.deck }

/-- The live value of a register or RAM word. -/
def State.rg (s : State) (a : Nat) : Word := Map.get (resetWord s.deck.straps) s.live a
/-- The shadow of a register. -/
def State.sh (s : State) (a : Nat) : Word := Map.get (resetWord s.deck.straps) s.shadow a
/-- Set a live value. -/
def State.wr (s : State) (a : Nat) (w : Word) : State := { s with live := Map.set (resetWord s.deck.straps) s.live a w }
/-- Set a shadow. -/
def State.wrSh (s : State) (a : Nat) (w : Word) : State :=
  { s with shadow := Map.set (resetWord s.deck.straps) s.shadow a w }
/-- Field [hi:lo] of a live value. -/
def State.fd (s : State) (a hi lo : Nat) : Nat := bits (s.rg a) hi lo
/-- Bit [n] of a live value. -/
def State.bt (s : State) (a n : Nat) : Bool := bit (s.rg a) n
/-- Set field [hi:lo] of a live value. -/
def State.fw (s : State) (a hi lo v : Nat) : State := s.wr a (setBits (s.rg a) hi lo v)
/-- Set bit [n] of a live value. -/
def State.sb (s : State) (a n : Nat) (b : Bool) : State := s.wr a (setBit (s.rg a) n b)
/-- Set a live value to a number. -/
def State.wn (s : State) (a v : Nat) : State := s.wr a (BitVec.ofNat 32 v)
/-- The live value as a number. -/
def State.rn (s : State) (a : Nat) : Nat := (s.rg a).toNat
/-- Count up modulo 2^32. -/
def State.inc (s : State) (a : Nat) : State := s.wr a (s.rg a + 1)
/-- Add `k` to field [hi:lo], stopping at all ones. -/
def State.satF (s : State) (a hi lo k : Nat) : State :=
  s.fw a hi lo (satAdd (2 ^ (hi + 1 - lo) - 1) (s.fd a hi lo) k)
/-- Count up, stopping at 2^32 - 1. -/
def State.sat (s : State) (a : Nat) : State := s.satF a 31 0 1
/-- Bit `i` of a bit map that starts at address `a`. -/
def State.mapBit (s : State) (a i : Nat) : Bool := s.bt (a + 4 * (i / 32)) (i % 32)
/-- Set bit `i` of a bit map that starts at address `a`. -/
def State.setMapBit (s : State) (a i : Nat) (b : Bool) : State := s.sb (a + 4 * (i / 32)) (i % 32) b
/-- Two words as one 64-bit number, low word first. -/
def State.rd64 (s : State) (a : Nat) : Nat := s.rn a + 2 ^ 32 * s.rn (a + 4)
/-- Set two words from a 64-bit number, low word first. -/
def State.wr64 (s : State) (a v : Nat) : State := (s.wn a v).wn (a + 4) (v / 2 ^ 32)

/-- A free value's next number: the model's counter, and the state with it advanced. DESIGN CHOICE: notes 11, 146. -/
def State.fresh (s : State) : Nat × State := (s.free, { s with free := s.free + 1 })

/-! ### Bytes of DDR and staging (R42) -/

/-- One byte; a byte that nothing has written reads 0. DESIGN CHOICE: note 4. -/
def State.byte (s : State) (a : Nat) : Byte := Map.get (fun _ => 0) s.mem a
/-- Write one byte. -/
def State.setByte (s : State) (a : Nat) (b : Byte) : State := { s with mem := Map.set (fun _ => 0) s.mem a b }
/-- `n` bytes from `a` upward. -/
def State.bytes (s : State) (a n : Nat) : List Byte := (List.range n).map (fun i => s.byte (a + i))
/-- Write bytes from `a` upward. -/
def State.setBytes (s : State) : Nat → List Byte → State
  | _, [] => s
  | a, b :: bs => State.setBytes (s.setByte a b) (a + 1) bs
/-- The canonical form of the bytes of DDR and staging: addresses strictly rising, no listed byte 0.
DESIGN CHOICE: note 4. -/
def Memory.wf (m : Map Byte) : Bool := Map.wf (fun _ => 0) m
/-- A little-endian number of `n` bytes. -/
def State.memNat (s : State) (a n : Nat) : Nat := leNat (s.bytes a n)
/-- Write a little-endian number of `n` bytes. -/
def State.setMemNat (s : State) (a n v : Nat) : State := s.setBytes a (leBytes n v)

/-! ### Time (R506-R508, R519) -/

/-- Ship time of half `h`, in ns. -/
def State.now (s : State) (h : Half) : Nat := (s.half h).time.acc / 2 ^ 32 % 2 ^ 64
/-- TIME_STATUS.STATE of half `h`: 0 UNSET, 1 ACQUIRING, 2 LOCKED, 3 HOLDOVER, 4 UNSYNC, 5 FOLLOW (R509). -/
def State.timeState (s : State) (h : Half) : Nat := s.fd (Time.timeStatus h) 2 0
/-- Whether ship time is synchronised (R509). -/
def State.synced (s : State) (h : Half) : Bool :=
  let st := s.timeState h
  let lead := s.timeState h.other
  decide (st = 2) || decide (st = 3) || (decide (st = 5) && (decide (lead = 2) || decide (lead = 3)))
/-- The field deck's copy of ship time, 0 while UNSET (R519, R520). -/
def State.deckNow (s : State) : Nat := if s.deck.timeState = 0 then 0 else s.deck.timeCopy

/-- Whether half `h` runs: fitted and out of reset. -/
def State.runs (s : State) (h : Half) : Bool := (s.half h).fitted && !(s.half h).ctl.inReset

/-! ### Event controller (R59-R63) -/

/-- An edge source is asserted (R62); a half in reset takes none. DEDUCED: note 8. -/
def State.raise (s : State) (h : Half) (src : Nat) : State :=
  if s.runs h = false then s
  else if s.mapBit (Evc.pend h 0) src then s.satF (Evc.srcCnt h src) 15 0 1
  else s.setMapBit (Evc.pend h 0) src true
/-- An edge source of the field deck is asserted in both halves. -/
def State.raiseBoth (s : State) (src : Nat) : State := (s.raise .a src).raise .b src
/-- The ENG source of a kind for half-local engine `e` (R61). -/
def engSource (e kind : Nat) : Nat := 768 + e / 128 * 64 + e / 16 % 8 * 8 + kind
/-- An edge ENG kind is asserted, with the engine's bit in ENG_WHO (R61). -/
def State.raiseEng (s : State) (h : Half) (e kind : Nat) : State :=
  (s.raise h (engSource e kind)).sb (Evc.engWho h (e / 16 * 8 + kind)) (e % 16) true

/-! ### Tally (R67-R70) -/

/-- Whether a source is of the level kind (R60, R61, R62 and the source tables of the chapters). -/
def isLevel (src : Nat) : Bool :=
  if 768 ≤ src then [0, 1, 2, 3, 6].contains ((src - 768) % 8)
  else if 704 ≤ src then [704, 705, 706, 707, 712, 722, 724, 736, 760].contains src
  else if 656 ≤ src then decide (src < 688)
  else if 640 ≤ src then decide (src < 648)
  else if 576 ≤ src then decide (src < 592) || (decide (608 ≤ src) && decide (src < 616))
  else if 320 ≤ src then true
  else if 256 ≤ src then [0, 2, 3].contains (src % 4)
  else [6, 12, 13, 17, 18, 25, 27, 28, 30, 32, 35, 36, 38, 40, 41, 65, 66, 67, 68, 69, 73, 129, 130, 131, 135, 136,
    193, 194, 195, 196, 197].contains src

/-- One count of counter `n`; passing 2^48 - 1 wraps and sets OVF (R70). DEDUCED: note 38. -/
def State.tallyInc (s : State) (h : Half) (n : Nat) : State :=
  let v := Map.get (fun _ => 0) (s.half h).ctr n
  let v' := (v + 1) % 2 ^ 48
  let s1 := s.modHalf h (fun x => { x with ctr := Map.set (fun _ => 0) x.ctr n v' })
  if v' = 0 then s1.sb (Tally.ctrCfg h n) 24 true else s1
/-- The counters of a half whose CTR_CFG is not at reset, each with it (R67). -/
def State.tallyCfgs (s : State) (h : Half) : List (Nat × Word) :=
  (s.live.filter (fun e => decide (Tally.ctrCfg h 0 ≤ e.1) && decide (e.1 < Tally.ctrCfg h 256))).map
    (fun e => ((e.1 - Tally.ctrCfg h 0) / 4, e.2))
/-- The enabled counters. -/
def State.tallyOn (s : State) (h : Half) : List (Nat × Word) := (s.tallyCfgs h).filter (fun e => bit e.2 17)
/-- An EDGE event of R68 happens: it is 1 for one tick, which a counter of either MODE counts (R67). DEDUCED: note 38. -/
def State.tally (s : State) (h : Half) (ev : Nat) : State :=
  if s.runs h = false then s
  else ((s.tallyOn h).filter (fun e => decide (bits e.2 15 0 = ev))).foldl (fun t e => t.tallyInc h e.1) s

/-! ### Logbook reports (R538) -/

/-- A report with the ship time `time` of its event; a half in reset ingests nothing (R538). -/
def State.reportAt (s : State) (h : Half) (time code kind num : Nat) (data : List Nat) : State :=
  if s.runs h = false then s
  else s.modHalf h (fun x => { x with log := { x.log with inbox := x.log.inbox ++
    [⟨code, kind, num, time, data.map (BitVec.ofNat 32)⟩] } })
/-- A half's own block reports (R538). -/
def State.report (s : State) (h : Half) (code kind num : Nat) (data : List Nat) : State :=
  s.reportAt h (s.now h) code kind num data
/-- A field-deck block reports to both halves, with the field deck's copy of ship time (R519, R538). -/
def State.reportDeck (s : State) (code kind num : Nat) (data : List Nat) : State :=
  (s.reportAt .a s.deckNow code kind num data).reportAt .b s.deckNow code kind num data

/-! ### Ownership (R27, R28, R384, R390) -/

/-- The owner that Trivet's rails agree on for a resource group. DEDUCED: note 123. -/
def State.owner (s : State) (g : Nat) : Option Half :=
  match Map.get (fun _ => 0) s.deck.trivet.rail0 g with
  | 1 => some .a
  | 2 => some .b
  | _ => none
/-- Whether half `h` owns group `g`. -/
def State.owns (s : State) (h : Half) (g : Nat) : Bool := s.owner g == some h
/-- The resource group of a field-deck register (R27, R384). -/
def resGroup (o : Nat) : Nat :=
  if o < 0x800000 then 125
  else if o < 0x1040000 then (o - 0x1000000) / 0x400 / 16
  else if o < 0x1100000 then (o - 0x1040000) / 0x100 % 16
  else if o < 0x1180000 then
    (if o < 0x1110000 then 16 + (o - 0x1100000) / 0x40 / 32 % 16 else 16 + (o - 0x1110000) / 0x100 % 16)
  else if o < 0x1200000 then
    (if o < 0x1190000 then 32 + (o - 0x1180000) / 0x40 / 32 % 8 else 32 + (o - 0x1190000) / 0x100 % 8)
  else if o < 0x1300000 then 104 + (o - 0x1200000) / 0x4000 % 32 / 8
  else if o < 0x1400000 then 40 + (o - 0x1300000) / 0x1000 % 64
  else 126
/-- An item of half `h` is discarded by the field deck (R28). -/
def State.deckRefuse (s : State) (h : Half) : State :=
  let s1 := if s.rn (Mod.deckRefusedCnt h) = 0 then s.raise h 1 else s
  (s1.sat (Mod.deckRefusedCnt h)).tally h 0x0A80
/-- Carry out `f` if half `h` owns group `g` at this moment, else count the refusal (R28). -/
def State.ifOwner (s : State) (h : Half) (g : Nat) (f : State → State) : State :=
  if s.owns h g then f s else s.deckRefuse h

/-! ### Half states (R392) -/

/-- HALF_STATUS.STATE: 0 STARTING, 1 NO_IMAGE, 2 JOINING, 3 STANDBY, 4 LEAD, 5 ISOLATED. -/
def State.hstate (s : State) (h : Half) : Nat := s.fd (HalfR.halfStatus h) 2 0
/-- HALF_STATUS.PARTNER: the partner's state from its last valid Whistle, 7 while it is judged dead. -/
def State.partner (s : State) (h : Half) : Nat := s.fd (HalfR.halfStatus h) 7 5
/-- Whether half `h` is the half that HALF_PREF names, as Trivet read it (R572). -/
def State.preferred (s : State) (h : Half) : Bool := decide (s.deck.trivet.pref = h.num)
/-- A command of half `h` acts only while the half is out of reset (R574). DEDUCED: note 7. DESIGN CHOICE: note 6. -/
def State.onHalf (s : State) (h : Half) (f : State → State) : State := if s.runs h then f s else s

/-! ### Commit groups (R44-R58) -/

/-- The commit group of a register: the engine groups are 18 + slab (R40). -/
def grpOf (o : Nat) (d : RegDesc) : Option Nat :=
  if d.grp = 255 then none
  else if d.grp = 18 then some (18 + (o - 0x10000000) / 0x40000 / 128)
  else some d.grp

/-- The commit unit of a shadowed register (R50). -/
def unitOf (a : Nat) : Option CUnit :=
  let o := lowAddr a
  match descOf o with
  | none => none
  | some d => match grpOf o d with
    | none => none
    | some g =>
      let h := if isDeckGroup g then none else some (halfOf a)
      let i :=
        if g = 3 then (o - 0x100000) / 0x40
        else if g = 8 then (o - 0xC00000) / 0x1000
        else if g = 9 then (o - 0x1000000) / 0x400
        else if g = 10 then (o - 0x1100000) / 0x40
        else if g = 11 then (if o < 0x1190000 then (o - 0x1180000) / 0x40 / 32 else (o - 0x1190000) / 0x100)
        else if g = 12 then (o - 0x1200000) / 0x4000
        else if g = 13 then (o - 0x1300000) / 0x1000
        else if g = 16 then (o - 0x2000000) % 0x1000 / 0x40
        else if 18 ≤ g then
          let e := (o - 0x10000000) / 0x40000
          let r := o % 0x40000
          if r < 0x1000 then 4096 + e
          else if r < 0x2000 then 8 * e + (r - 0x1000) / 0x200
          else 8 * e + (r - 0x10000) / 0x1000
        else 0
      some ⟨g, h, i⟩

/-- The resource group of a field-deck unit (R55). -/
def unitRes (u : CUnit) : Nat :=
  if u.grp = 5 then 125
  else if u.grp = 9 then u.idx / 16
  else if u.grp = 10 then 16 + u.idx / 32
  else if u.grp = 11 then 32 + u.idx
  else if u.grp = 12 then 104 + u.idx / 8
  else if u.grp = 13 then 40 + u.idx
  else 126

/-- Whether group `g` is pending, as half `h` shows it. -/
def State.pend (s : State) (h : Half) (g : Nat) : Bool := s.bt (Cmt.cmtPending h) g
/-- Set the pending bit of a group; field-deck groups show the same in both halves (R55). -/
def State.setPend (s : State) (h : Half) (g : Nat) (b : Bool) : State :=
  if isDeckGroup g then (s.sb (Cmt.cmtPending .a) g b).sb (Cmt.cmtPending .b) g b else s.sb (Cmt.cmtPending h) g b
/-- Whether group `g` is locked. -/
def State.locked (s : State) (h : Half) (g : Nat) : Bool := s.bt (Cmt.cmtLock h) g
/-- Set a CMT fault flag bit and raise source 2 ("CMT register summary"). -/
def State.cmtFlag (s : State) (h : Half) (a g : Nat) : State := (s.sb a g true).raise h 2
/-- The units of group `g` that a strobe or abandon of half `h` may act on (R51, R54, R55). -/
def State.actable (s : State) (h : Half) (g : Nat) (u : CUnit) : Bool :=
  decide (u.grp = g) &&
    (if isDeckGroup g then s.owns h (unitRes u) else u.half == some h)
/-- A unit becomes dirty (R50). -/
def State.markDirty (s : State) (u : CUnit) : State :=
  if s.dirty.contains u then s else { s with dirty := s.dirty ++ [u] }

/-- A strobe of one group from half `h` (R51, R52). -/
def State.strobeGroup (s : State) (h : Half) (g : Nat) : State :=
  if s.pend h g then s.cmtFlag h (Cmt.cmtStrobeRefused h) g
  else
    let us := s.dirty.filter (fun u => s.actable h g u && !s.marked.contains u)
    let s1 := { s with marked := s.marked ++ us }
    let s2 := s1.setPend h g true
    if isDeckGroup g then (s2.inc (Cmt.commitCnt .a g)).inc (Cmt.commitCnt .b g) else s2.inc (Cmt.commitCnt h g)

/-- The addresses at which a unit's shadow or live value is listed. -/
def State.unitKeys (s : State) (u : CUnit) : List Nat :=
  ((s.shadow.map (·.1)) ++ (s.live.map (·.1))).filter (fun a => unitOf a == some u)
/-- The bits of a shadowed register that lie outside its shadow (R70: OVF). -/
def directMask (a : Nat) : Word := match descOf (lowAddr a) with
  | some d => BitVec.ofNat 32 d.cmask
  | none => 0
/-- A commit copies every shadow of the unit into its live value at one instant and clears its marks (R50). -/
def State.copyUnit (s : State) (u : CUnit) : State :=
  let s1 := (s.unitKeys u).foldl (fun t a =>
    let m := directMask a
    t.wr a ((s.sh a &&& ~~~m) ||| (s.rg a &&& m))) s
  { s1 with dirty := s1.dirty.filter (· != u), marked := s1.marked.filter (· != u) }
/-- An abandon reloads the shadows of a unit from its live values and clears its marks (R54); a slot's unit forgets the
writes to COMP_CTRL (R150). -/
def State.abandonUnit (s : State) (u : CUnit) : State :=
  let s := match u.half with
    | some h =>
      let forget (x : HalfSt) : HalfSt :=
        let r : SlotRun := Map.get (fun _ => ({} : SlotRun)) x.slots u.idx
        if r.compWr = 0 then x else { x with slots := Map.set (fun _ => ({} : SlotRun)) x.slots u.idx { r with compWr := 0 } }
      if 18 ≤ u.grp ∧ u.grp < 22 then s.modHalf h forget else s
    | none => s
  let s1 := (s.unitKeys u).foldl (fun t a => t.wrSh a (s.rg a &&& ~~~ directMask a)) s
  { s1 with dirty := s1.dirty.filter (· != u), marked := s1.marked.filter (· != u) }
/-- CMT_ABANDON of one group from half `h` (R54, R55). -/
def State.abandonGroup (s : State) (h : Half) (g : Nat) : State :=
  if s.pend h g then s.cmtFlag h (Cmt.cmtStrobeRefused h) g
  else (s.dirty.filter (s.actable h g)).foldl State.abandonUnit s
/-- Whether a marked unit of group `g` (of half `h` for a half-local group) still waits. -/
def State.waiting (s : State) (h : Half) (g : Nat) : Bool :=
  s.marked.any (fun u => decide (u.grp = g) && (isDeckGroup g || u.half == some h))
/-- When no marked unit of the group waits, its pending bit clears (R51). -/
def State.settle (s : State) (h : Half) (g : Nat) : State := if s.waiting h g then s else s.setPend h g false
/-- Trivet changes the owner of a resource group: its units are abandoned in the same instant (R55). -/
def State.ownerAbandon (s : State) (g : Nat) : State :=
  let us := s.dirty.filter (fun u => u.half.isNone && decide (unitRes u = g))
  let s1 := us.foldl State.abandonUnit s
  [5, 9, 10, 11, 12, 13, 15].foldl (fun t k => if s.pend .a k && us.any (fun u => decide (u.grp = k)) then
    t.settle .a k else t) s1

/-- Write a register that is listed at base address `a` as half `h` issues it, its own shadow or live value
(R44, R48, R52, R58). Registers with a row of their own are not written here. DEDUCED: note 48. -/
def State.writeListed (s : State) (h : Half) (a : Nat) (d : RegDesc) (val : Word) : State :=
  let m : Word := BitVec.ofNat 32 d.wmask
  let c : Word := BitVec.ofNat 32 d.cmask
  let mix (old : Word) : Word := match d.acc with
    | .rwm =>
      let sel : Word := (val >>> 16) &&& m
      (old &&& ~~~ sel) ||| (val &&& sel)
    | _ => (old &&& ~~~ m) ||| (val &&& m)
  let s := if c = 0 then s else s.wr a (s.rg a &&& ~~~ (val &&& c))
  if d.wmask = 0 then s
  else match grpOf (lowAddr a) d, unitOf a with
  | some g, some u =>
    let locked := d.acc == .rl && s.locked h g
    let s1 := if locked then s.cmtFlag h (Cmt.cmtLockedWrite h) g else s
    let s2 := if s.pend h g then s1.cmtFlag h (Cmt.cmtLateWrite h) g else s1
    if locked || s.pend h g then s2 else (s2.wrSh a (mix (s2.sh a))).markDirty u
  | _, _ => s.wr a (mix (s.rg a))

/-! ### Fabric masters and the DDR window (R42, R43) -/

/-- Whether `n` bytes at half-relative address `a` lie in the DDR window (R42). -/
def inDdr (a n : Nat) : Bool := decide (0x80000000 ≤ a) && decide (a + n ≤ 0x800000000)
/-- The fabric masters that write buffers: Tally's dump writer and the Trays. DESIGN CHOICE: note 150. -/
def masterTally : Nat := 8
def masterTray : Nat := 9
/-- An access ends in a bus error (R43): source 0 with its address; a core takes a data abort, another master records the
error in its own status. DEDUCED: note 33. -/
def State.busError (s : State) (h : Half) (master a : Nat) : State :=
  let add (l : List Nat) : List Nat := if l.contains master then l else l ++ [master]
  let s := s.modHalf h (fun x => { x with
    busErrAddr := a
    dataAbort := if master < 8 then add x.dataAbort else x.dataAbort
    masterErr := if master < 8 then x.masterErr else add x.masterErr })
  (s.raise h 0).tally h 0x0A81
/-- A fabric master of half `h` writes `n` bytes at half-relative address `a`: into the DDR window, or a bus error at its
first access (R42, R43). DESIGN CHOICE: note 150. -/
def State.masterPut (s : State) (h : Half) (master a n v : Nat) : State :=
  if inDdr a n then s.setMemNat (h.base + a) n v else s.busError h master (h.base + a)

/-! ### Trays (R526-R531) -/

/-- Depth of a Tray in words. -/
def State.trayDepth (s : State) (h : Half) (t : Nat) : Nat := 2 ^ s.fd (Tray.trayLen h t) 4 0
/-- Words a Tray has room for. -/
def State.trayRoom (s : State) (h : Half) (t : Nat) : Nat :=
  s.trayDepth h t - (s.rg (Tray.trayRes h t) - s.rg (Tray.trayRp h t)).toNat
/-- The half-relative address of the word at count `c` (R528). -/
def State.traySlot (s : State) (h : Half) (t c : Nat) : Nat :=
  s.fd (Tray.trayBase h t) 29 0 * 64 + 8 * (c % s.trayDepth h t)
/-- Write words at counts `c`, `c` + 1, ... -/
def State.trayPutAt (s : State) (h : Half) (t : Nat) : Nat → List Dword → State
  | _, [] => s
  | c, w :: ws => State.trayPutAt ((s.masterPut h masterTray (s.traySlot h t c) 8 w.toNat).tally h (0x0A40 + t)) h t (c + 1) ws
/-- TRAY_STATUS follows the counts (R528). -/
def State.trayFlags (s : State) (h : Half) (t : Nat) : State :=
  let e := s.rg (Tray.trayWp h t) == s.rg (Tray.trayRp h t)
  let f := decide (s.trayRoom h t = 0)
  (s.sb (Tray.trayStatus h t) 0 e).sb (Tray.trayStatus h t) 1 f
/-- A whole record into an unframed Tray that has room for it. -/
def State.trayWrite (s : State) (h : Half) (t : Nat) (ws : List Dword) : State :=
  let c := s.rn (Tray.trayRes h t)
  let s1 := s.trayPutAt h t c ws
  let n := BitVec.ofNat 32 (c + ws.length)
  ((s1.wr (Tray.trayRes h t) n).wr (Tray.trayWp h t) n).trayFlags h t
/-- A record of a dropping producer: written whole, or dropped and counted (R531). -/
def State.trayRecord (s : State) (h : Half) (t : Nat) (ws : List Dword) : State :=
  if ws.length ≤ s.trayRoom h t then s.trayWrite h t ws else s.sat (Tray.fullCnt h t)

/-- Read a register or RAM word by its listed or live address, without the registers computed on reading. -/
def State.readPlain (s : State) (a : Nat) : Word :=
  let o := lowAddr a
  let b := if isDeckBlock o then 0 else (halfOf a).base
  if isStaging o || isDdr o then BitVec.ofNat 32 (s.memNat (a / 4 * 4) 4)
  else match liveAlias o with
    | some o' => match descOf o' with
      | some d => if d.acc == .wo then 0 else s.rg (b + o')
      | none => 0
    | none => match descOf o with
      | some d =>
        if d.acc == .wo then 0
        else if (grpOf o d).isSome && d.acc != .ro then s.sh (b + o) ||| (s.rg (b + o) &&& directMask o)
        else s.rg (b + o)
      | none => 0

end Sys2Proof.Machine
end

