-- ==== Sys2Proof/Machine/TimeOps.lean ====
section
/-! DEFINITION. Shared operations of the time base: state changes, reports, the addend, steps and compare units
(chapter 17). The coinciding events of R522 take the order of the commands. -/
namespace Sys2Proof.Machine

/-- Change the time base of half `h`. -/
def State.modTime (s : State) (h : Half) (f : TimeSt → TimeSt) : State :=
  s.modHalf h (fun x => { x with time := f x.time })

/-- STATE changes: source 24 and the record TIME_STATE (R524, R525). -/
def State.setTimeState (s : State) (h : Half) (n : Nat) : State :=
  let o := s.timeState h
  if o = n then s
  else ((s.fw (Time.timeStatus h) 2 0 n).raise h 24).report h 0x1101 1 h.num [o, n, s.rn (Time.offsetLast h)]

/-- The committed addend, a 32.32 number (R507): the live ADDEND_HI and ADDEND_LO. -/
def State.addend (s : State) (h : Half) : Nat := s.rn (Time.addendHi h) * 2 ^ 32 + s.rn (Time.addendLo h)
/-- The addend range of R507. -/
def addendMin : Nat := 0x00000003FEF9DB23
def addendMax : Nat := 0x00000004010624DD

/-- A signed ns figure as its registers hold it, saturating at 2^31 - 1 either way (R523). -/
def satNs (i : Int) : Word := BitVec.ofInt 32 (clampInt (-2147483647) 2147483647 i)

/-- The mean of the committed addends over the last 16 s, 4,000,000,000 ticks (R509): each holds from the tick of its commit, the
reset value before the first; the list is newest first, `upto` the tick up to which the mean is formed. -/
def meanAddend (now : Nat) : List (Nat × Nat) → Nat → Nat → Nat → Nat
  | [], upto, sum, w =>
    let d := upto - (now - 4000000000)
    if w + d = 0 then 2 ^ 34 else (sum + 2 ^ 34 * d) / (w + d)
  | (t, a) :: rest, upto, sum, w =>
    let from_ := max t (now - 4000000000)
    let d := upto - from_
    meanAddend now rest (min t upto) (sum + a * d) (w + d)
/-- The committed addends that reach into the last 16 s before tick `now`. -/
def recentAddends (now : Nat) : List (Nat × Nat) → List (Nat × Nat)
  | [] => []
  | e :: rest => if e.1 + 4000000000 ≤ now then [e] else e :: recentAddends now rest
/-- The addend that HOLDOVER freezes in half `h` (R509). -/
def State.frozen (s : State) (h : Half) : Nat :=
  let t := (s.half h).time
  meanAddend t.ticks t.addends t.ticks 0 0

/-- The state leaves the leader's source behind: HOLDOVER with the frozen addend (R509). -/
def State.enterHoldover (s : State) (h : Half) : State :=
  let m := s.frozen h
  (s.modTime h (fun x => { x with eff := m, holdT := x.ticks, goodRun := 0, badRun := 0 })).setTimeState h 3

/-- One report of the source, own ship time minus source time (R509). DEDUCED: note 139. -/
def State.timeReport (s : State) (h : Half) (ns : Int) : State :=
  if (s.half h).time.following then s
  else
    let s := s.wr (Time.offsetLast h) (satNs ns)
    let ok := decide (ns.natAbs ≤ clampNat 10 4000 (s.fd (Time.timeCfg h) 27 16))
    let s := s.modTime h (fun x =>
      if ok then { x with
        lastRep := x.ticks
        goodRun := x.goodRun + 1
        goodSince := if x.goodRun = 0 then x.ticks else x.goodSince
        badRun := 0 }
      else { x with lastRep := x.ticks, goodRun := 0, badRun := x.badRun + 1 })
    let t := (s.half h).time
    match s.timeState h with
    | 1 => if 10 ≤ t.goodRun ∧ t.goodSince + 250000000 ≤ t.ticks then s.setTimeState h 2 else s
    | 2 => if 10 ≤ t.badRun then s.setTimeState h 1 else s
    | 3 => (s.modTime h (fun x => { x with eff := s.addend h })).setTimeState h 1
    | 4 => (s.modTime h (fun x => { x with eff := s.addend h })).setTimeState h 1
    | _ => s

/-- Set the ship time of half `h` to a number of ns. DEDUCED: note 139. DESIGN CHOICE: note 43. -/
def State.setNow (s : State) (h : Half) (ns : Int) : State :=
  s.modTime h (fun x => { x with acc := (patOf 64 ns) * 2 ^ 32 + x.acc % 2 ^ 32 })

/-- A follower adopts its leader's time by a step (R511). -/
def State.peerStep (s : State) (h : Half) (offset : Int) : State :=
  ((s.setNow h ((s.now h : Int) - offset)).report h 0x1103 1 h.num [patOf 32 offset]).wr (Time.peerOffset h) 0

/-- Half `h`, which followed, leads (R509, R510) with its own addend in force, in HOLDOVER the frozen one: the record TIME_LEADER. -/
def State.becomeTimeLeader (s : State) (h : Half) (st : Nat) : State :=
  if (s.half h).time.following then
    let a := if st = 3 then s.frozen h else s.addend h
    let s := s.modTime h (fun x => { x with
      following := false
      eff := a
      lastRep := x.ticks
      holdT := x.ticks
      peerBad := none
      goodRun := 0
      badRun := 0 })
    (s.setTimeState h st).report h 0x1104 1 h.num [1]
  else s

/-- Whether half `h` follows its partner by the rule of R510: the partner is LEAD, or no half is and the partner is the
preferred half, with the mirror link up and the partner running. -/
def State.shouldFollow (s : State) (h : Half) : Bool :=
  s.mirrorUp && s.runs h.other && decide (s.hstate h ≠ 4) &&
    (decide (s.hstate h.other = 4) || s.preferred h.other)

/-- The 40-bit target of compare unit `k` (R521). -/
def State.cmpTarget (s : State) (h : Half) (k : Nat) : Nat :=
  s.rn (Time.cmpTgtLo h k) + 2 ^ 32 * s.fd (Time.cmpCtrl h k) 7 0
/-- Ship time minus target as a signed 40-bit number (R521). -/
def State.cmpDiff (s : State) (h : Half) (k : Nat) : Int :=
  signedOf 40 (patOf 40 ((s.now h : Int) - (s.cmpTarget h k : Int)))

/-- An armed unit fires (R521). -/
def State.cmpFire (s : State) (h : Half) (k : Nat) (late : Bool) : State :=
  let d := (s.cmpDiff h k).toNat
  let s := (s.sb (Time.cmpStatus h k) 0 true)
  let s := if late then s.sb (Time.cmpStatus h k) 1 true else s
  let s := if s.bt (Time.cmpCtrl h k) 18 then s.setMapBit (Time.cmpMap h 0) k true else s
  if s.bt (Time.cmpCtrl h k) 17 then
    let p := if s.rn (Time.cmpPeriod h k) < 1000 then 1000 else s.rn (Time.cmpPeriod h k)
    let t := (s.cmpTarget h k + p * (d / p + 1)) % 2 ^ 40
    ((s.wn (Time.cmpTgtLo h k) t).fw (Time.cmpCtrl h k) 7 0 (t / 2 ^ 32)).satF (Time.cmpStatus h k) 31 16 (d / p)
  else s.sb (Time.cmpCtrl h k) 16 false

/-- One tick of the 250 MHz clock in half `h`: the time base adds the addend in force (R506). DESIGN CHOICE: note 5. -/
def State.tickHalf (s : State) (h : Half) : State :=
  s.onHalf h (fun s => s.modTime h (fun x =>
    { x with acc := (x.acc + x.eff) % 2 ^ 96, ticks := x.ticks + 1 }))

/-- The field deck's copy follows its source, or runs on the deck oscillator at the last rate in HOLDOVER (R519).
DESIGN CHOICE: note 5. -/
def State.tickDeck (s : State) : State :=
  s.modDeck (fun d => match d.timeState with
    | 1 =>
      let t := (s.half (if d.timeSrc = 0 then .a else .b)).time
      { d with
        ticks := d.ticks + 1
        timeCopy := t.acc / 2 ^ 32 % 2 ^ 64
        timeFrac := t.acc % 2 ^ 32
        timeRate := t.eff }
    | 2 =>
      let a := d.timeCopy * 2 ^ 32 + d.timeFrac + d.timeRate
      { d with ticks := d.ticks + 1, timeCopy := a / 2 ^ 32 % 2 ^ 64, timeFrac := a % 2 ^ 32 }
    | _ => { d with ticks := d.ticks + 1 })

/-- A commit of group 1 (R507): the addend is clamped, and takes force at once in a half that neither follows nor is in
HOLDOVER or UNSYNC. -/
def State.commitTime (s : State) (h : Half) : State :=
  let a := s.addend h
  let c := clampNat addendMin addendMax a
  let s := if c = a then s.sb (Time.timeStatus h) 7 false
    else (((s.wn (Time.addendLo h) c).wn (Time.addendHi h) (c / 2 ^ 32)).sb (Time.timeStatus h) 7 true).raise h 29
  let st := s.timeState h
  s.modTime h (fun x => { x with
    eff := if x.following ∨ st = 3 ∨ st = 4 then x.eff else c
    addends := (x.ticks, c) :: recentAddends x.ticks x.addends })

end Sys2Proof.Machine
end

