-- ==== Sys2Proof/Machine/TrayOps.lean ====
section
/-! DEFINITION. Shared operations of Trays, the logbook and the Pantry (chapter 18). -/
namespace Sys2Proof.Machine

/-- Change the Trays, the logbook or the Pantry of half `h`. -/
def State.modTray (s : State) (h : Half) (f : TraySt → TraySt) : State :=
  s.modHalf h (fun x => { x with tray := f x.tray })
def State.modLog (s : State) (h : Half) (f : LogSt → LogSt) : State :=
  s.modHalf h (fun x => { x with log := f x.log })
def State.modPantry (s : State) (h : Half) (f : PantrySt → PantrySt) : State :=
  s.modHalf h (fun x => { x with pantry := f x.pantry })

/-! ### Pantry streams (R547-R550) -/

/-- Change stream `st`. -/
def State.modStream (s : State) (h : Half) (st : Nat) (f : StreamSt → StreamSt) : State :=
  s.modPantry h (fun p => { p with streams := Map.set (fun _ => {}) p.streams st (f (Map.get (fun _ => {}) p.streams st)) })
/-- Stream `st`. -/
def State.stream (s : State) (h : Half) (st : Nat) : StreamSt := Map.get (fun _ => {}) (s.half h).pantry.streams st
/-- Whether stream `st` runs: STATE RUNNING or TRIGGERED. -/
def State.streaming (s : State) (h : Half) (st : Nat) : Bool :=
  decide (s.fd (Tray.strStatus h st) 1 0 = 1) || decide (s.fd (Tray.strStatus h st) 1 0 = 2)
/-- The running stream that takes source `src` (1 Tray 8, 2 Tally), if there is one. -/
def State.streamOf (s : State) (h : Half) (src : Nat) : Option Nat :=
  (List.range 4).find? (fun st => s.streaming h st && decide (s.fd (Tray.strCfg h st) 1 0 = src))
/-- Source bytes of one chunk (R548). -/
def chunkCap : Nat := 1044480

/-- A chunk is lost: STR_LOST, source 737 and CHUNK_LOST (R550). -/
def State.chunkLost (s : State) (h : Half) (st q m : Nat) : State :=
  ((s.sat (Tray.strLost h st)).raise h 737).report h 0x1403 0x1C st [q % 2 ^ 32, m]

/-- A stream stops: its source is released and STREAM_STOPPED written (R549). -/
def State.streamEnd (s : State) (h : Half) (st cause : Nat) : State :=
  let q := s.rd64 (Tray.strSeqLo h st)
  let s := if s.fd (Tray.strCfg h st) 1 0 = 1 then s.sb (Tray.trayStatus h 8) 3 false else s
  let s := (s.fw (Tray.strStatus h st) 1 0 3).fw (Tray.strStatus h st) 4 2 cause
  let s := s.modStream h st (fun x => { x with chunk := [], postLeft := none, stopping := false, pktLeft := 0, padLeft := 0 })
  (s.raise h 738).report h 0x1404 0x1C st [cause, q % 2 ^ 32]

/-- The chunk header of R548 with its CRC-32 over header and data. DEDUCED: note 45. -/
def chunkBytes (st : Nat) (h : Half) (q run t first image : Nat) (data : List Byte) : List Byte :=
  let head := leBytes 4 0x43505947 ++ [BitVec.ofNat 8 st, BitVec.ofNat 8 h.num] ++ leBytes 2 1 ++ leBytes 8 q
    ++ leBytes 8 run ++ leBytes 8 t ++ leBytes 4 data.length ++ leBytes 4 first ++ leBytes 8 image
    ++ List.replicate 4044 0
  head ++ leBytes 4 (crc32 (head ++ data)).toNat ++ data

/-- The open chunk of a stream is written (R547-R549): to the member of its stripe, or lost at once on a FAILED one. -/
def State.chunkClose (s : State) (h : Half) (st : Nat) : State :=
  let x := s.stream h st
  if x.chunk = [] then s
  else
    let q := s.rd64 (Tray.strSeqLo h st)
    let len := s.rn (Tray.strLen h st)
    let i := s.rn (Tray.strStart h st) + q % (if len < 2 then 2 else len)
    let m := i % (let k := s.fd (Tray.pantryLayout h) 4 0; if k = 0 then 1 else k)
    let b := chunkBytes st h q x.run x.chunkT x.firstPkt (s.rd64 (Mod.imgActiveIdLo h)) x.chunk
    let s := s.wr64 (Tray.strSeqLo h st) (q + 1)
    let s := s.modStream h st (fun y => { y with chunk := [], firstPkt := 4294967295, postLeft := y.postLeft.map (· - 1) })
    let s := if s.fd (Tray.mbrStatus h m) 1 0 = 2 then
        s.modPantry h (fun p => { p with writing := p.writing ++ [⟨st, q, m, i * 2 ^ 20, b, false⟩] })
      else s.chunkLost h st q m
    if x.stopping then s.streamEnd h st 1
    else if x.postLeft = some 1 then s.streamEnd h st 3
    else if s.bt (Tray.strCfg h st) 2 && decide (q + 1 ≥ len) then s.streamEnd h st 2
    else s

/-- Bytes enter a stream's open chunk; a full chunk is written (R548). -/
def State.chunkAdd (s : State) (h : Half) (st : Nat) (bs : List Byte) (head : Bool) : State :=
  if s.streaming h st = false then s
  else
    let now := s.now h
    let s := s.modStream h st (fun x => { x with
      chunkT := if x.chunk = [] then now else x.chunkT
      firstPkt := if head && decide (x.firstPkt = 4294967295) then x.chunk.length else x.firstPkt
      chunk := x.chunk ++ bs })
    if chunkCap ≤ (s.stream h st).chunk.length then s.chunkClose h st else s

/-- A stream takes the next visible word of Tray 8, whose consumer it is: the length words and the VALID words of each
packet (R529, R548). -/
def State.streamTake (s : State) (h : Half) (st : Nat) : State :=
  if s.streaming h st = false ∨ s.rg (Tray.trayRp h 8) = s.rg (Tray.trayWp h 8) then s
  else
    let w := s.memNat (h.base + s.traySlot h 8 (s.rn (Tray.trayRp h 8))) 8
    let s := s.inc (Tray.trayRp h 8)
    let x := s.stream h st
    if x.pktLeft = 0 ∧ x.padLeft = 0 then
      let v := w / 2 ^ 16 % 2 ^ 16
      let s := s.modStream h st (fun y => { y with pktLeft := v, padLeft := w % 2 ^ 16 - v })
      s.chunkAdd h st (leBytes 8 w) true
    else if x.pktLeft = 0 then s.modStream h st (fun y => { y with padLeft := y.padLeft - 1 })
    else (s.modStream h st (fun y => { y with pktLeft := y.pktLeft - 1 })).chunkAdd h st (leBytes 8 w) false
/-- The stream that consumes Tray 8 takes every visible word. -/
def State.streamPull (s : State) (h : Half) : State :=
  match s.streamOf h 1 with
  | some st =>
    let n := (s.rg (Tray.trayWp h 8) - s.rg (Tray.trayRp h 8)).toNat
    ((List.range n).foldl (fun t _ => t.streamTake h st) s).trayFlags h 8
  | none => s

/-! ### Framed Trays (R529, R530) -/

/-- Count of open packets in TRAY_STATUS. -/
def State.trayOpen (s : State) (h : Half) (t : Nat) : State :=
  let n := ((s.half h).tray.packets.filter (fun p => decide (p.tray = t) && !p.closed)).length
  (s.fw (Tray.trayStatus h t) 15 8 (if n < 255 then n else 255)).trayFlags h t
/-- A packet is opened: RES advances by LEN + 1 (R529). -/
def State.trayReserve (s : State) (h : Half) (t len engine : Nat) (cont odd : Bool) : State :=
  let c := s.rn (Tray.trayRes h t)
  let now := s.now h
  let s := s.wn (Tray.trayRes h t) (c + len + 1)
  let s := s.modTray h (fun x => { x with packets := x.packets ++ [⟨t, c, len, [], engine, now, cont, odd, false, false⟩] })
  let s := if cont then s.satF (Tray.trayCnt h t) 31 16 1 else s
  s.trayOpen h t
/-- The length word of a packet (R529). -/
def lengthWord (p : Packet) : Nat :=
  p.len + p.words.length * 2 ^ 16 + p.truncated.toNat * 2 ^ 32 + p.continued.toNat * 2 ^ 33 + p.odd.toNat * 2 ^ 34
    + p.engine * 2 ^ 36
/-- WP passes every leading packet of the Tray that has closed (R529). -/
def State.trayShow (s : State) (h : Half) (t : Nat) : Nat → State
  | 0 => s
  | n + 1 => match (s.half h).tray.packets.find? (fun p => decide (p.tray = t)) with
    | some p =>
      if p.closed then
        State.trayShow ((s.modTray h (fun x => { x with packets := x.packets.erase p })).wn (Tray.trayWp h t) (p.slot + p.len + 1)) h t n
      else s
    | none => s
/-- A packet closes: its length word is written, and it becomes visible in order (R529). -/
def State.trayClosePkt (s : State) (h : Half) (p : Packet) (trunc : Bool) : State :=
  let p' := { p with closed := true, truncated := trunc }
  let s := (s.masterPut h masterTray (s.traySlot h p.tray p.slot) 8 (lengthWord p')).tally h (0x0A40 + p.tray)
  let s := s.modTray h (fun x => { x with packets := x.packets.map (fun q => if q = p then p' else q) })
  let s := s.trayShow h p.tray ((s.half h).tray.packets.length)
  let s := if trunc then
      let s := (s.satF (Tray.trayCnt h p.tray) 15 0 1).raise h 740
      let s := s.modTray h (fun x => { x with outstanding := Map.set (fun _ => 0) x.outstanding p.engine (p.len - p.words.length) })
      s.report h 0x1301 0x1A p.tray [p.words.length, p.len, p.engine]
    else s
  let s := s.trayOpen h p.tray
  if p.tray = 8 then s.streamPull h else s
/-- Words go into the open packet of an engine; its last word closes it (R529). -/
def State.trayFill (s : State) (h : Half) (t engine : Nat) (ws : List Dword) : State :=
  match (s.half h).tray.packets.find? (fun p => decide (p.tray = t) && decide (p.engine = engine) && !p.closed) with
  | none => s
  | some p =>
    let s := s.trayPutAt h t (p.slot + 1 + p.words.length) ws
    let p' := { p with words := p.words ++ ws }
    let s := s.modTray h (fun x => { x with packets := x.packets.map (fun q => if q = p then p' else q) })
    if p'.len ≤ p'.words.length then s.trayClosePkt h p' false else s

/-- Records held for a full Tray are placed in order as room comes (R526, R531). -/
def State.trayFlushHeld (s : State) (h : Half) (t : Nat) : Nat → State
  | 0 => s
  | n + 1 => match (s.half h).tray.held.find? (fun e => decide (e.1 = t)) with
    | some e =>
      if e.2.length ≤ s.trayRoom h t then
        State.trayFlushHeld ((s.modTray h (fun x => { x with held := x.held.erase e })).trayWrite h t e.2) h t n
      else s
    | none => s
/-- A record of a holding producer: placed when the Tray has room and none waits, else held (R526). -/
def State.trayHold (s : State) (h : Half) (t : Nat) (ws : List Dword) : State :=
  if ws.length ≤ s.trayRoom h t ∧ ((s.half h).tray.held.any (fun e => decide (e.1 = t))) = false then s.trayWrite h t ws
  else (s.modTray h (fun x => { x with held := x.held ++ [(t, ws)] })).sat (Tray.fullCnt h t)

/-- A commit of a Tray's unit (R532): a changed base or depth discards its contents. `o` is the state before.
DEDUCED: note 49. -/
def State.commitTray (s o : State) (h : Half) (t : Nat) : State :=
  let s := s.fw (Tray.trayLen h t) 4 0 (clampNat 9 24 (s.fd (Tray.trayLen h t) 4 0))
  let size := 8 * s.trayDepth h t
  let s := s.fw (Tray.trayBase h t) 29 0 (s.fd (Tray.trayBase h t) 29 0 * 64 / size * size / 64)
  if s.rg (Tray.trayLen h t) = o.rg (Tray.trayLen h t) ∧ s.rg (Tray.trayBase h t) = o.rg (Tray.trayBase h t) then s
  else
    let n := (s.rg (Tray.trayRes h t) - s.rg (Tray.trayRp h t)).toNat
    let s := (s.half h).tray.packets.foldl (fun u p =>
      if p.tray = t ∧ p.closed = false then u.modTray h (fun x =>
        { x with outstanding := Map.set (fun _ => 0) x.outstanding p.engine (p.len - p.words.length) }) else u) s
    let s := s.modTray h (fun x => { x with packets := x.packets.filter (fun p => decide (p.tray ≠ t)) })
    let s := ((s.wn (Tray.trayRes h t) 0).wn (Tray.trayWp h t) 0).wn (Tray.trayRp h t) 0
    ((s.satF (Tray.discardCnt h t) 31 0 n).trayOpen h t).report h 0x1302 0x1A t [n]

/-! ### Logbook (R536-R542) -/

/-- Operating time of a half in ms: what MRAM holds plus what has run since (R536). -/
def State.opTime (s : State) (h : Half) : Nat :=
  (s.half h).log.opTime + ((s.half h).time.ticks - (s.half h).log.opMark) / 250000
/-- Operating time of the field deck in ms. -/
def State.deckOpTime (s : State) : Nat := s.deck.opTime + (s.deck.ticks - s.deck.opMark) / 250000

/-- The 64 bytes of a record (R536). DEDUCED: note 45. -/
def recBytes (r : LogRec) : List Byte :=
  leBytes 8 r.shipTime ++ leBytes 6 r.opTime ++ leBytes 3 r.cycles
    ++ leBytes 1 (r.synced.toNat + 2 * r.pinned.toNat + 4 * r.deckTime.toNat + 8 * r.half.num + 16 * r.saturated.toNat)
    ++ leBytes 2 r.code ++ leBytes 4 (r.kind * 2 ^ 24 + r.num) ++ leBytes 2 r.rep ++ leBytes 2 r.span ++ leBytes 4 r.seq
    ++ ((r.data ++ List.replicate 8 (0 : Word)).take 8).flatMap (fun (w : Word) => leBytes 4 w.toNat)

/-- The record that a report opens (R536, R538). -/
def State.openRec (s : State) (h : Half) (r : Report) : LogRec :=
  ⟨if s.synced h then r.time else 0, s.opTime h, (s.half h).log.cycles, s.synced h, false, false, h, false, r.code, r.kind,
    r.num, 1, 0, 0, s.now h, r.data⟩
/-- Records of code 0x12xx and copies of pinned records go ahead of the others (R538). -/
def LogRec.ahead (r : LogRec) : Bool := decide (r.code / 256 = 0x12) || r.pinned
/-- Insert a record into the write queue by its priority. -/
def queueIns (q : List LogRec) (r : LogRec) : List LogRec :=
  if r.ahead then q.takeWhile (·.ahead) ++ [r] ++ q.dropWhile (·.ahead) else q ++ [r]
/-- One report of class `k` is lost (R539). -/
def State.logLose (s : State) (h : Half) (code t : Nat) : State :=
  let k := code / 256 % 32
  let s := if s.rn (Log.lostPend h k) = 0 then s.modLog h (fun x => { x with lostFirst := Map.set (fun _ => 0) x.lostFirst k t }) else s
  let s := s.modLog h (fun x => { x with lostLast := Map.set (fun _ => 0) x.lostLast k t, lossOpen := true })
  (((s.sat (Log.lostCnt h k)).sat (Log.lostPend h k)).raise h 720).tally h 0x0A62
/-- A record closes into the write queue, or all its reports are lost when the queue is full; records of code 0x12xx then wait
(R538, R539). DESIGN CHOICE: note 185. -/
def State.logClose (s : State) (h : Half) (r : LogRec) : State :=
  if (s.half h).log.queue.length < 8192 then s.modLog h (fun x => { x with queue := queueIns x.queue r })
  else if r.ahead then s.modLog h (fun x => { x with waiting := x.waiting ++ [r] })
  else (List.range r.rep).foldl (fun t _ => t.logLose h r.code r.t0) s
/-- Every open record closes at once (R538, at POWER_FAIL). -/
def State.logCloseAll (s : State) (h : Half) : State :=
  let rs := (s.half h).log.opened
  rs.foldl (fun t r => t.logClose h r) (s.modLog h (fun x => { x with opened := [] }))
/-- The ingest takes one report (R538): merged into an open record, or opening one, or lost. -/
def State.logIngest (s : State) (h : Half) (r : Report) : State :=
  let s := s.tally h 0x0A60
  if r.code / 256 = 0x12 then s.logClose h (s.openRec h r)
  else match (s.half h).log.opened.find? (fun o =>
      decide (o.code = r.code) && decide (o.kind = r.kind) && decide (o.num = r.num) && decide (s.now h < o.t0 + 1000000)) with
    | some o =>
      let o' := { o with rep := o.rep + 1, span := (s.now h - o.t0) / 1000, saturated := decide (o.rep + 1 = 65535) }
      if o'.rep = 65535 then (s.modLog h (fun x => { x with opened := x.opened.erase o })).logClose h o'
      else s.modLog h (fun x => { x with opened := x.opened.map (fun p => if p = o then o' else p) })
    | none =>
      if (s.half h).log.opened.length < 1024 then
        let o := s.openRec h r
        s.modLog h (fun x => { x with opened := x.opened ++ [o] })
      else s.logLose h r.code r.time
/-- Room has returned after a loss: one RECORDS_LOST for each class with losses (R539). -/
def State.logLossReport (s : State) (h : Half) : State :=
  if (s.half h).log.lossOpen ∧ (s.half h).log.queue.length ≤ 4096 then
    (List.range 32).foldl (fun t k =>
      let n := t.rn (Log.lostPend h k)
      if n = 0 then t
      else
        let f := Map.get (fun _ => 0) (t.half h).log.lostFirst k
        let l := Map.get (fun _ => 0) (t.half h).log.lostLast k
        let r := t.openRec h ⟨0x1201, 1, h.num, t.now h,
          [k, n, f, f / 2 ^ 32, l, l / 2 ^ 32].map (BitVec.ofNat 32)⟩
        (t.wn (Log.lostPend h k) 0).modLog h (fun x => { x with queue := queueIns x.queue r }))
      (s.modLog h (fun x => { x with lossOpen := false }))
  else s
/-- The flash writer writes one record: it takes the next SEQ (R536, R542: a ring of 2^28). -/
def State.flashPut (s : State) (h : Half) (r : LogRec) : State :=
  (s.modLog h (fun x =>
    let full := decide (2 ^ 28 ≤ x.nextSeq - x.firstSeq)
    { x with flash := (if full then x.flash.drop 1 else x.flash) ++ [{ r with seq := x.nextSeq }]
             firstSeq := if full then x.firstSeq + 1 else x.firstSeq
             nextSeq := x.nextSeq + 1 })).tally h 0x0A61
/-- A trip record for the writer's queue, or counted in PIN_OVERRUN when 1,024 wait (R540). -/
def State.tripRecord (s : State) (r : LogRec) : State :=
  if s.deck.trivet.tripQueue.length < 1024 then
    s.modDeck (fun d => { d with trivet := { d.trivet with
      tripQueue := d.trivet.tripQueue ++ [r], pinSeq := (d.trivet.pinSeq + 1) % 2 ^ 32 } })
  else
    let s := s.modDeck (fun d => { d with trivet := { d.trivet with pinSeq := (d.trivet.pinSeq + 1) % 2 ^ 32 } })
    [Half.a, Half.b].foldl (fun t h => ((t.sat (Log.pinOverrun h)).modLog h (fun x => { x with pinOverrun := x.pinOverrun + 1 })).raise h 725) s
/-- The record that a logbook read returns for number `q`, if it is present (R542). -/
def State.logAt (s : State) (h : Half) (pinned : Bool) (q : Nat) : Option LogRec :=
  let x := (s.half h).log
  if pinned then
    (if x.pinWp - 65536 ≤ q ∧ q < x.pinWp then (x.pinned.find? (fun e => decide (e.1 = q))).map (·.2) else none)
  else x.flash.find? (fun r => decide (r.seq = q))

end Sys2Proof.Machine
end

