-- ==== Sys2Proof/Machine/ImageOps.lean ====
section
/-! DEFINITION. The station image as a byte stream: header, sections, runs, region spaces and the structural checks
(R74-R83), and the loader's report records (R89, R90). -/
namespace Sys2Proof.Machine

/-- The section types of R78: type, number of region indexes, first region number. -/
def regionTypes : List (Nat × Nat × Nat) :=
  [(0x01, 1, 0), (0x02, 1, 1), (0x10, 4096, 2), (0x20, 256, 4098), (0x21, 16, 4354), (0x22, 8, 4370), (0x23, 64, 4378),
   (0x24, 32, 4442), (0x30, 2, 4474), (0x40, 1, 4476), (0x50, 16, 4477), (0x60, 16, 4493), (0x70, 1, 4509),
   (0x80, 1, 4510), (0x90, 1, 4511)]
/-- The region number of a type and index (R78). -/
def regionNo (ty idx : Nat) : Option Nat :=
  match regionTypes.find? (fun e => decide (e.1 = ty)) with
  | some e => if idx < e.2.1 then some (e.2.2 + idx) else none
  | none => none
/-- The type and index of a region number. -/
def regionOf (r : Nat) : Nat × Nat :=
  match regionTypes.find? (fun e => decide (e.2.2 ≤ r) && decide (r < e.2.2 + e.2.1)) with
  | some e => (e.1, r - e.2.2)
  | none => (0, 0)

/-- The ranges of a region space (R81, R347, R490, R608), as first offset and size in bytes. -/
def regionRanges (ty idx : Nat) : List (Nat × Nat) :=
  match ty with
  | 0x01 => [(0, 0x4000), (0x10000, 0x100)]
  | 0x02 => [(0, 0x10000)]
  | 0x10 => [(0, 0x100), (0x10000, 0x1000), (0x20000, 0x4000), (0x30000, 0x40)]
  | 0x20 => [(0, 0x200)]
  | 0x21 => [(0, 0x800)]
  | 0x22 => [(0, 0x804)]
  | 0x23 => [(0, 0x100)]
  | 0x24 => [(0, 0x4000)]
  | 0x30 => if idx = 0 then [(0, 0x60000)] else [(0, 0x880)]
  | 0x40 => [(0, 0x200000)]
  | 0x50 => [(0, 0x800), (0x10000, 0x30000)]
  | 0x60 => [(0, 0x40), (0x100000, 0x6000), (0x200000, 0x100000), (0x1000000, 0x1000000), (0x2000000, 0x2000000)]
  | 0x70 => [(0, 0x80000)]
  | 0x80 => [(0, 0x200000)]
  | 0x90 => [(0, 0x80000)]
  | _ => []
/-- Whether a region-space offset lies in a range. -/
def inRanges (ty idx off : Nat) : Bool :=
  (regionRanges ty idx).any (fun r => decide (r.1 ≤ off) && decide (off < r.1 + r.2))

/-- A 16-bit and a 32-bit field of a byte list. -/
def u16At (bs : List Byte) (o : Nat) : Nat := leNat ((bs.drop o).take 2)
def u32At (bs : List Byte) (o : Nat) : Nat := leNat ((bs.drop o).take 4)

/-- A run (R80): region-space offset, word count, byte offset of its first word in the image. -/
structure ImgRun where
  off : Nat
  cnt : Nat
  pos : Nat
  deriving DecidableEq, Repr

/-- A section (R76, R80): type, byte offset in the image, body length, region header and runs, CRC. -/
structure ImgSect where
  ty : Nat
  pos : Nat
  len : Nat
  idx : Nat
  flags : Nat
  runs : List ImgRun
  crc : Nat
  deriving DecidableEq, Repr

/-- Why an image is refused: IMG_STATUS.FAULT and the byte offset of the failure. DESIGN CHOICE: note 59. -/
structure ImgRefusal where
  fault : Nat
  off : Nat
  deriving DecidableEq, Repr

/-- The runs of a body: `n` runs from byte `p`, the body ending at `e`; or the byte offset of the first that is wrong, or of
the bytes that are left over (R80, R83). DESIGN CHOICE: note 59. -/
def parseRuns (bs : List Byte) : Nat → Nat → Nat → Except Nat (List ImgRun)
  | 0, p, e => if p = e then .ok [] else .error p
  | n + 1, p, e =>
    let c := u16At bs (p + 4)
    let o := u32At bs p
    if e < p + 8 ∨ e < p + 8 + 4 * c ∨ c = 0 ∨ 16384 < c ∨ o % 4 ≠ 0 then .error p
    else match parseRuns bs n (p + 8 + 4 * c) e with
      | .ok l => .ok (⟨o, c, p + 8⟩ :: l)
      | .error q => .error q

/-- The first run that overlaps an earlier one of `before`. -/
def overlapping : List ImgRun → List ImgRun → Option ImgRun
  | _, [] => none
  | before, r :: l =>
    if before.any (fun q => decide (r.off < q.off + 4 * q.cnt) && decide (q.off < r.off + 4 * r.cnt)) then some r
    else overlapping (before ++ [r]) l

/-- The sections from byte `p` on, END included, or the first structural failure (R76-R83); `seen` are the region
numbers of the sections before, `ended` tells that END has come. DESIGN CHOICE: note 59. -/
def parseSections (bs : List Byte) (total : Nat) : Nat → Nat → List Nat → Bool → Except ImgRefusal (List ImgSect)
  | 0, p, _, _ => .error ⟨9, p⟩
  | n + 1, p, seen, ended =>
    if total ≤ p then (if ended then .ok [] else .error ⟨9, p⟩)
    else if total < p + 12 then .error ⟨7, p⟩
    else
      let ty := u16At bs p
      let len := u32At bs (p + 4)
      if total < p + 12 + len then .error ⟨7, p⟩
      else if (crc32 ((bs.drop p).take (8 + len))).toNat ≠ u32At bs (p + 8 + len) then .error ⟨6, p⟩
      else if len % 4 ≠ 0 ∨ ended then .error ⟨7, p⟩
      else if ty = 0xFFFF then
        (if len ≠ 0 then .error ⟨7, p⟩
         else match parseSections bs total n (p + 12) seen true with
          | .error e => .error e
          | .ok l => .ok (⟨ty, p, len, 0, 0, [], u32At bs (p + 8)⟩ :: l))
      else if len < 8 then .error ⟨7, p⟩
      else
        let b := p + 8
        let flags := u16At bs (b + 2)
        let cnt := u16At bs (b + 4)
        match parseRuns bs cnt (b + 8) (b + len) with
        | .error q => .error ⟨7, q⟩
        | .ok runs =>
          if flags % 2 = 1 ∧ cnt ≠ 0 then .error ⟨7, p⟩
          else match regionNo ty (u16At bs b) with
            | none => .error ⟨8, p⟩
            | some r =>
              if seen.contains r then .error ⟨10, p⟩
              else match overlapping [] runs with
              | some q => .error ⟨11, q.pos - 8⟩
              | none =>
                match runs.find? (fun q => (List.range q.cnt).any (fun i => !inRanges ty (u16At bs b) (q.off + 4 * i))) with
                | some q => .error ⟨15, q.pos - 8⟩
                | none => match parseSections bs total n (p + 12 + len) (r :: seen) ended with
                  | .error e => .error e
                  | .ok l => .ok (⟨ty, p, len, u16At bs b, flags, runs, u32At bs (p + 8 + len)⟩ :: l)

/-- The header checks of R83, in their order, with the module's hardware issue, firmware release, strap MODULE_ID
(none: a bit of it is faulted, R572) and active image ID (none: no active image). DESIGN CHOICE: note 59. -/
def checkHeader (bs : List Byte) (len hwIssue fwRel : Nat) (moduleId : Option Nat) (active : Option Nat) :
    Option ImgRefusal :=
  if len < 140 ∨ 0x20000000 < len then some ⟨14, 0⟩
  else if u32At bs 0 ≠ 0x49535947 then some ⟨1, 0⟩
  else if (crc32 (bs.take 0x7C)).toNat ≠ u32At bs 0x7C then some ⟨2, 0x7C⟩
  else if u16At bs 4 ≠ 1 then some ⟨3, 4⟩
  else if u16At bs 6 ≠ 1 ∧ u16At bs 6 ≠ 2 then some ⟨3, 6⟩
  else if u32At bs 0x2C ≠ len then some ⟨14, 0x2C⟩
  else if leNat ((bs.drop 8).take 8) = 0 then some ⟨4, 8⟩
  else if hwIssue < u16At bs 0x24 then some ⟨4, 0x24⟩
  else if fwRel < u16At bs 0x26 then some ⟨4, 0x26⟩
  else if u16At bs 0x28 ≠ 0xFFFF ∧ moduleId ≠ some (u16At bs 0x28) then some ⟨4, 0x28⟩
  else if u16At bs 6 = 2 ∧ active.getD 0 ≠ leNat ((bs.drop 0x10).take 8) then some ⟨5, 0x10⟩
  else none

/-- The sections of an image, or its structural refusal (R83 down to END_MISSING). -/
def parseImage (bs : List Byte) (len hwIssue fwRel : Nat) (moduleId active : Option Nat) :
    Except ImgRefusal (List ImgSect) :=
  match checkHeader bs len hwIssue fwRel moduleId active with
  | some e => .error e
  | none => match parseSections bs len (len / 12 + 1) 0x80 [] false with
    | .error e => .error e
    | .ok l => if l.length ≠ u16At bs 0x2A then .error ⟨9, 0x2A⟩ else .ok l

/-- One report record of the loader (R89), dropped and counted when Tray 0 has no room for four words (R90). -/
def State.imgReport (s : State) (h : Half) (cause region ty rawOff spaceOff written used imageId : Nat) : State :=
  if s.trayRoom h 0 < 4 then (s.sat (Mod.imgReportDropped h)).sat (Tray.fullCnt h 0)
  else s.trayWrite h 0 ([cause % 2 ^ 16 + region % 2 ^ 16 * 2 ^ 16 + ty % 2 ^ 16 * 2 ^ 32
      + s.fd (Mod.imgStatus h) 30 16 * 2 ^ 48,
    rawOff % 2 ^ 32 + spaceOff % 2 ^ 31 * 2 ^ 32, written % 2 ^ 32, used % 2 ^ 32 + imageId % 2 ^ 31 * 2 ^ 32].map
      (BitVec.ofNat 64))

end Sys2Proof.Machine
end

