-- ==== Sys2Proof/Machine/Float.lean ====
section
/-! DEFINITION. Binary floating point with exact intermediate values (IEEE 754): unpacking, one rounding at the end, and
the operations of the engines (R126) and of station code (chapter 12), on bit patterns as numbers. PRESUMED: note 28. -/
namespace Sys2Proof.Machine

/-- A binary format: precision with the hidden bit, and exponent width. -/
structure Fmt where
  p : Nat
  eb : Nat
  deriving DecidableEq, Repr

/-- binary32 and binary64. -/
def f32 : Fmt := ⟨24, 8⟩
def f64 : Fmt := ⟨53, 11⟩
/-- The bit pattern of +infinity. -/
def Fmt.inf (f : Fmt) : Nat := (2 ^ f.eb - 1) * 2 ^ (f.p - 1)
/-- The sign bit's weight. -/
def Fmt.sgn (f : Fmt) : Nat := 2 ^ (f.p - 1 + f.eb)
/-- The exponent of the lowest bit of a subnormal. -/
def Fmt.emin (f : Fmt) : Int := 3 - 2 ^ (f.eb - 1) - (f.p : Int)
/-- The quiet NaN with a zero sign and payload. -/
def Fmt.qnan (f : Fmt) : Nat := f.inf + 2 ^ (f.p - 2)

/-- What a bit pattern stands for: a NaN, an infinity, or (-1)^neg * m * 2^e. -/
inductive FVal where
  | nan
  | inf (neg : Bool)
  | num (neg : Bool) (m : Nat) (e : Int)
  deriving DecidableEq, Repr

/-- The value of a bit pattern. -/
def Fmt.val (f : Fmt) (w : Nat) : FVal :=
  let neg := decide (f.sgn ≤ w % (2 * f.sgn))
  let a := w % f.sgn
  let e := a / 2 ^ (f.p - 1)
  let m := a % 2 ^ (f.p - 1)
  if f.inf < a then .nan
  else if a = f.inf then .inf neg
  else if e = 0 then .num neg m f.emin
  else .num neg (m + 2 ^ (f.p - 1)) (f.emin + (e : Int) - 1)

/-- Number of bits of a natural number. -/
def bitLen (n : Nat) : Nat := if n = 0 then 0 else Nat.log2 n + 1

/-- Rounding directions: to nearest even, toward zero, up, down. -/
inductive RMode where
  | rne | rtz | rup | rdn
  deriving DecidableEq, Repr

/-- A signed pattern. -/
def Fmt.withSign (f : Fmt) (neg : Bool) (a : Nat) : Nat := if neg then f.sgn + a else a

/-- The pattern nearest to (-1)^neg * (m + s) * 2^e, where 0 < s < 1 when `sticky` and s = 0 otherwise. -/
def Fmt.round (f : Fmt) (r : RMode) (neg : Bool) (m : Nat) (e : Int) (sticky : Bool) : Nat :=
  let m' := if sticky then 4 * m + 1 else 4 * m
  let e' := e - 2
  let q : Int := if e' + (bitLen m' : Int) - (f.p : Int) < f.emin then f.emin else e' + (bitLen m' : Int) - (f.p : Int)
  let sh := q - e'
  let k := sh.toNat
  let t := if sh ≤ 0 then m' * 2 ^ (-sh).toNat else m' / 2 ^ k
  let rem := if sh ≤ 0 then 0 else m' % 2 ^ k
  let half := 2 ^ (k - 1)
  let up := match r with
    | .rne => decide (0 < k) && (decide (half < rem) || (decide (rem = half) && decide (t % 2 = 1)))
    | .rtz => false
    | .rup => decide (rem ≠ 0) && !neg
    | .rdn => decide (rem ≠ 0) && neg
  let a := (q - f.emin).toNat * 2 ^ (f.p - 1) + t + up.toNat
  if m' = 0 then f.withSign neg 0
  else if f.inf ≤ a then
    (match r, neg with
      | .rtz, _ => f.withSign neg (f.inf - 1)
      | .rup, true => f.withSign neg (f.inf - 1)
      | .rdn, false => f.withSign neg (f.inf - 1)
      | _, _ => f.withSign neg f.inf)
  else f.withSign neg a

/-- Exact sum of two numbers (-1)^s m 2^e, as a signed mantissa over the lower exponent. -/
def exactAdd (n1 : Bool) (m1 : Nat) (e1 : Int) (n2 : Bool) (m2 : Nat) (e2 : Int) : Int × Int :=
  let e := if e1 < e2 then e1 else e2
  let a : Int := ((m1 * 2 ^ (e1 - e).toNat : Nat) : Int)
  let b : Int := ((m2 * 2 ^ (e2 - e).toNat : Nat) : Int)
  ((if n1 then -a else a) + (if n2 then -b else b), e)

/-- Sum of two numbers, rounded to nearest even; an exact zero sum of unlike signs is +0. -/
def Fmt.sumNum (f : Fmt) (n1 : Bool) (m1 : Nat) (e1 : Int) (n2 : Bool) (m2 : Nat) (e2 : Int) : Nat :=
  let s := exactAdd n1 m1 e1 n2 m2 e2
  if s.1 = 0 then f.withSign (n1 && n2 && decide (m1 = 0) && decide (m2 = 0)) 0
  else f.round .rne (decide (s.1 < 0)) s.1.natAbs s.2 false

/-- a + b. -/
def Fmt.add (f : Fmt) (a b : Nat) : Nat :=
  match f.val a, f.val b with
  | .nan, _ => f.qnan
  | _, .nan => f.qnan
  | .inf s, .inf t => if s = t then f.withSign s f.inf else f.qnan
  | .inf s, _ => f.withSign s f.inf
  | _, .inf t => f.withSign t f.inf
  | .num s m e, .num t k g => f.sumNum s m e t k g
/-- The pattern with the opposite sign. -/
def Fmt.neg (f : Fmt) (a : Nat) : Nat := if f.sgn ≤ a % (2 * f.sgn) then a % f.sgn else a % f.sgn + f.sgn
/-- a - b. -/
def Fmt.sub (f : Fmt) (a b : Nat) : Nat := match f.val b with
  | .nan => f.qnan
  | _ => f.add a (f.neg b)
/-- a * b. -/
def Fmt.mul (f : Fmt) (a b : Nat) : Nat :=
  match f.val a, f.val b with
  | .nan, _ => f.qnan
  | _, .nan => f.qnan
  | .inf s, .inf t => f.withSign (s != t) f.inf
  | .inf s, .num t k _ => if k = 0 then f.qnan else f.withSign (s != t) f.inf
  | .num s m _, .inf t => if m = 0 then f.qnan else f.withSign (s != t) f.inf
  | .num s m e, .num t k g => f.round .rne (s != t) (m * k) (e + g) false
/-- a * b + c with a single rounding. -/
def Fmt.fma (f : Fmt) (a b c : Nat) : Nat :=
  match f.val a, f.val b, f.val c with
  | .num s m e, .num t k g, .num u n i => f.sumNum (s != t) (m * k) (e + g) u n i
  | .num _ _ _, .num _ _ _, .inf u => f.withSign u f.inf
  | .nan, _, _ => f.qnan
  | _, .nan, _ => f.qnan
  | _, _, .nan => f.qnan
  | .inf s, .inf t, c => (match c with
    | .inf u => if (s != t) = u then f.withSign u f.inf else f.qnan
    | _ => f.withSign (s != t) f.inf)
  | .inf s, .num t k _, c => if k = 0 then f.qnan else (match c with
    | .inf u => if (s != t) = u then f.withSign u f.inf else f.qnan
    | _ => f.withSign (s != t) f.inf)
  | .num s m _, .inf t, c => if m = 0 then f.qnan else (match c with
    | .inf u => if (s != t) = u then f.withSign u f.inf else f.qnan
    | _ => f.withSign (s != t) f.inf)
/-- a / b. -/
def Fmt.div (f : Fmt) (a b : Nat) : Nat :=
  match f.val a, f.val b with
  | .nan, _ => f.qnan
  | _, .nan => f.qnan
  | .inf _, .inf _ => f.qnan
  | .inf s, .num t _ _ => f.withSign (s != t) f.inf
  | .num s _ _, .inf t => f.withSign (s != t) 0
  | .num s m e, .num t k g =>
    if k = 0 then (if m = 0 then f.qnan else f.withSign (s != t) f.inf)
    else
      let n := m * 2 ^ (2 * f.p + 4)
      f.round .rne (s != t) (n / k) (e - g - (2 * f.p + 4 : Nat)) (decide (n % k ≠ 0))
/-- The integer square root, by bits from weight 2^n downward. -/
def isqrtBits : Nat → Nat → Nat → Nat
  | 0, _, r => r
  | n + 1, v, r => if (r + 2 ^ n) * (r + 2 ^ n) ≤ v then isqrtBits n v (r + 2 ^ n) else isqrtBits n v r
/-- The integer square root. -/
def isqrt (v : Nat) : Nat := isqrtBits (bitLen v / 2 + 1) v 0
/-- The square root of a. -/
def Fmt.sqrt (f : Fmt) (a : Nat) : Nat :=
  match f.val a with
  | .nan => f.qnan
  | .inf s => if s then f.qnan else f.inf
  | .num s m e =>
    if m = 0 then f.withSign s 0
    else if s then f.qnan
    else
      let k := 2 * f.p + 4 + (e % 2).toNat
      let v := m * 2 ^ k
      let r := isqrt v
      f.round .rne false r ((e - (k : Int)) / 2) (decide (r * r ≠ v))

/-- Whether a pattern is finite. -/
def Fmt.finite (f : Fmt) (a : Nat) : Bool := decide (a % f.sgn < f.inf)
/-- Whether a pattern is a NaN. -/
def Fmt.isNan (f : Fmt) (a : Nat) : Bool := decide (f.inf < a % f.sgn)
/-- The order of two patterns that are no NaN, as integers in the same order; the two zeros are equal. -/
def Fmt.key (f : Fmt) (a : Nat) : Int := if f.sgn ≤ a % (2 * f.sgn) then -((a % f.sgn : Nat) : Int) else ((a % f.sgn : Nat) : Int)
/-- a < b and a ≤ b, false with a NaN. -/
def Fmt.lt (f : Fmt) (a b : Nat) : Bool := !f.isNan a && !f.isNan b && decide (f.key a < f.key b)
def Fmt.le (f : Fmt) (a b : Nat) : Bool := !f.isNan a && !f.isNan b && decide (f.key a ≤ f.key b)
def Fmt.eq (f : Fmt) (a b : Nat) : Bool := !f.isNan a && !f.isNan b && decide (f.key a = f.key b)

/-- The pattern of an integer, rounded to nearest even. -/
def Fmt.ofInt (f : Fmt) (i : Int) : Nat := f.round .rne (decide (i < 0)) i.natAbs 0 false
/-- A number rounded to an integer in a direction. -/
def roundInt (r : RMode) (neg : Bool) (m : Nat) (e : Int) : Int :=
  let k := (-e).toNat
  let q := if 0 ≤ e then m * 2 ^ e.toNat else m / 2 ^ k
  let rem := if 0 ≤ e then 0 else m % 2 ^ k
  let up := match r with
    | .rne => decide (2 ^ k < 2 * rem) || (decide (2 * rem = 2 ^ k) && decide (q % 2 = 1) && decide (0 < rem))
    | .rtz => false
    | .rup => decide (rem ≠ 0) && !neg
    | .rdn => decide (rem ≠ 0) && neg
  let a : Int := ((q + up.toNat : Nat) : Int)
  if neg then -a else a
/-- A pattern as an integer in [lo, hi]; a NaN gives `nan`. -/
def Fmt.toInt (f : Fmt) (r : RMode) (lo hi nan : Int) (a : Nat) : Int :=
  match f.val a with
  | .nan => nan
  | .inf s => if s then lo else hi
  | .num s m e => clampInt lo hi (roundInt r s m e)
/-- A pattern of one format as a pattern of another, rounded to nearest even. -/
def Fmt.cvt (f g : Fmt) (a : Nat) : Nat :=
  match f.val a with
  | .nan => g.qnan
  | .inf s => g.withSign s g.inf
  | .num s m e => g.round .rne s m e false

/-! ### The engines' arithmetic (R126) -/

/-- A subnormal pattern reads as zero of the same sign. -/
def flush32 (a : Nat) : Nat :=
  let b := a % 2 ^ 31
  if b < 2 ^ 23 then a % 2 ^ 32 - b else a % 2 ^ 32
/-- Engine operations: subnormal operands and results are zero; `none` is a non-finite operand or result. -/
def eFma (a b c : Nat) : Option Nat :=
  if f32.finite a && f32.finite b && f32.finite c then
    let r := flush32 (f32.fma (flush32 a) (flush32 b) (flush32 c))
    if f32.finite r then some r else none
  else none
def eAdd (a b : Nat) : Option Nat :=
  if f32.finite a && f32.finite b then
    let r := flush32 (f32.add (flush32 a) (flush32 b))
    if f32.finite r then some r else none
  else none
def eNeg (a : Nat) : Nat := f32.neg a
def eSub (a b : Nat) : Option Nat := eAdd a (eNeg b)
def eMul (a b : Nat) : Option Nat :=
  if f32.finite a && f32.finite b then
    let r := flush32 (f32.mul (flush32 a) (flush32 b))
    if f32.finite r then some r else none
  else none
/-- max and min return the first operand when the two compare equal (R126). -/
def eMax (a b : Nat) : Nat := if f32.lt (flush32 a) (flush32 b) then b else a
def eMin (a b : Nat) : Nat := if f32.lt (flush32 b) (flush32 a) then b else a
/-- minmax(x, lo, hi) of R116, with non-finite limits faulting. -/
def eMinmax (x lo hi : Nat) : Option Nat :=
  if f32.finite x && f32.finite lo && f32.finite hi then some (flush32 (eMin (eMax x lo) hi)) else none
/-- An integer as binary32. -/
def eOfInt (i : Int) : Nat := f32.ofInt i

end Sys2Proof.Machine
end

