-- ==== Sys2Proof/Machine/Law.lean ====
section
/-! DEFINITION. The law of an instance: the arithmetic of one sample, step by step (R107-R127, R144-R157). A computation
answers a value, or the step and row of the first non-finite operand or result (R126, R127).
Compensation settings stand where R138 says, a table point as R143 lays it out. -/
namespace Sys2Proof.Machine

/-- A computation of the law: a value, or the step and row of a NONFINITE fault. -/
abbrev LawM (α : Type) := Except (Nat × Nat) α

/-- The value of an engine operation, or the fault of its step and row. -/
def lawOf (step row : Nat) : Option Nat → LawM Nat
  | some v => .ok v
  | none => .error (step, row)
/-- A dot product by fused multiply-adds in order (R116). -/
def lawDot (step row : Nat) : Nat → List (Nat × Nat) → LawM Nat
  | acc, [] => .ok acc
  | acc, (a, b) :: l => match eFma a b acc with
    | some v => lawDot step row v l
    | none => .error (step, row)
/-- A list of computations in order. -/
def lawAll {α β : Type} (f : α → LawM β) : List α → LawM (List β)
  | [] => .ok []
  | a :: l => do
    let v ← f a
    let vs ← lawAll f l
    .ok (v :: vs)

/-- 1.0, 0.5, -1.0 and the angles of R156, as binary32 patterns. -/
def b32one : Nat := 0x3F800000
def b32half : Nat := 0x3F000000
def b32mone : Nat := 0xBF800000
def b32pi : Nat := 0x40490FDB
def b32halfPi : Nat := 0x3FC90FDB
def b32twoPi : Nat := 0x40C90FDB
/-- 2^-k as a binary32 pattern. -/
def b32pow (k : Nat) : Nat := (127 - k) * 2 ^ 23

/-! ### The slot's words -/

/-- A word of the live coefficient area (R108). -/
def State.cf (s : State) (h : Half) (q off : Nat) : Nat := s.rn (coefBase h q + off)
/-- A live word of the descriptor (R111). -/
def State.dw (s : State) (h : Half) (q off : Nat) : Word := s.rg (slotBase h q + off)
/-- A word of the state area (R113). -/
def State.sw (s : State) (h : Half) (q off : Nat) : Nat := s.rn (stateBase h q + off)
/-- Set a word of the state area. -/
def State.setSw (s : State) (h : Half) (q off v : Nat) : State := s.wn (stateBase h q + off) v
/-- Set consecutive words of the state area. -/
def State.setSws (s : State) (h : Half) (q : Nat) : Nat → List Nat → State
  | _, [] => s
  | off, v :: vs => State.setSws (s.setSw h q off v) h q (off + 4) vs
/-- Consecutive words of the state area. -/
def State.sws (s : State) (h : Half) (q off n : Nat) : List Nat := (List.range n).map (fun i => s.sw h q (off + 4 * i))
/-- Word `i` of the slot's table area; past word 4095 it wraps (R141). -/
def State.tbl (s : State) (h : Half) (q i : Nat) : Nat := s.rn (tableBase h q + 4 * (i % 4096))
/-- Sizes of an instance (R104, R112). -/
def State.nOf (s : State) (h : Half) (q : Nat) : Nat := bits (s.dw h q 4) 4 0
def State.mOf (s : State) (h : Half) (q : Nat) : Nat := bits (s.dw h q 4) 10 8
def State.pOf (s : State) (h : Half) (q : Nat) : Nat := bits (s.dw h q 4) 19 16
def State.qOf (s : State) (h : Half) (q : Nat) : Nat := bits (s.dw h q 4) 26 24
/-- COMP_CTRL of command `j` (R140). -/
def State.compCtrl (s : State) (h : Half) (q j : Nat) : Word := s.dw h q (0x70 + 4 * j)
/-- Whether command `j` has a table, a repetitive controller, or either. -/
def State.tabEn (s : State) (h : Half) (q j : Nat) : Bool := bit (s.compCtrl h q j) 0
def State.rcEn (s : State) (h : Half) (q j : Nat) : Bool := bit (s.compCtrl h q j) 3
def State.compOn (s : State) (h : Half) (q : Nat) : Bool :=
  (List.range (s.mOf h q)).any (fun j => s.tabEn h q j || s.rcEn h q j)
/-- LOSS_STATE of the carried block (R150). -/
def State.lossOf (s : State) (h : Half) (q : Nat) : Nat := s.fd (stateBase h q + 0x50) 2 0
/-- The run of slot `q`. -/
def State.run (s : State) (h : Half) (q : Nat) : SlotRun := Map.get (fun _ => {}) (s.half h).slots q
/-- Change the run of slot `q`. -/
def State.modRun (s : State) (h : Half) (q : Nat) (f : SlotRun → SlotRun) : State :=
  s.modHalf h (fun x => { x with slots := Map.set (fun _ => {}) x.slots q (f (Map.get (fun _ => {}) x.slots q)) })
/-- A list of patterns as words. -/
def toWords (l : List Nat) : List Word := l.map (BitVec.ofNat 32)

/-! ### Steps 1 to 3 (R116, R144-R149, R156) -/

/-- Whether the predicted position is known (R144). -/
def State.posKnown (s : State) (h : Half) (q : Nat) : Bool :=
  let w := BitVec.ofNat 32 (s.cf h q 0xDA4)
  if bit w 0 then decide (bits w 11 8 < s.nOf h q) && decide (s.lossOf h q = 0)
  else decide (bits w 3 1 < s.pOf h q) && decide (s.fd (stateBase h q + 0x70) 4 3 = 2)
/-- The predicted raw position (R144). -/
def State.posPred (s : State) (h : Half) (q : Nat) : Nat :=
  let l := s.rg (stateBase h q + 0x68)
  (l + (l - s.rg (stateBase h q + 0x6C))).toNat

/-- Cell and fraction of command `j` (R145). -/
def State.lawCell (s : State) (h : Half) (q j : Nat) : LawM (Nat × Nat) :=
  let w := BitVec.ofNat 32 (s.cf h q 0xDA4)
  let c := s.compCtrl h q j
  let pts := bits c 7 4
  let n := 2 ^ pts
  let wrap := bit c 2
  if bit w 0 = false then
    let span := bits w 21 16
    let sh := span - pts
    let d := (BitVec.ofNat 32 (s.posPred h q) - BitVec.ofNat 32 (s.cf h q 0xDA8)).toNat
    if wrap then
      let d := if span < 32 then d % 2 ^ span else d
      (lawOf 2 j (eMul (eOfInt (d % 2 ^ sh : Nat)) (b32pow sh))).map (fun f => (d / 2 ^ sh, f))
    else if 2 ^ 31 ≤ d then .ok (0, 0)
    else if n - 1 ≤ d / 2 ^ sh then .ok (n - 2, b32one)
    else (lawOf 2 j (eMul (eOfInt (d % 2 ^ sh : Nat)) (b32pow sh))).map (fun f => (d / 2 ^ sh, f))
  else do
    let a ← lawOf 2 j (eSub (s.sw h q (4 * bits w 11 8)) (s.cf h q 0xD9C))
    let b ← lawOf 2 j (eMul a (s.cf h q 0xDA0))
    let z ← lawOf 2 j (eMul b (eOfInt n))
    let k := f32.toInt .rdn (-2147483648) 2147483647 0 z
    let f ← lawOf 2 j (eSub z (eOfInt k))
    if wrap then .ok ((k % (n : Int)).toNat, f)
    else if k < 0 then .ok (0, 0)
    else if (n : Int) - 1 ≤ k then .ok (n - 2, b32one)
    else .ok (k.toNat, f)

/-- One column of the table, or a bad point (R146). -/
def State.lawCol (s : State) (h : Half) (q j k k1 f col : Nat) : LawM (Option Nat) :=
  let base := bits (s.compCtrl h q j) 15 8 * 16
  let a := s.tbl h q (base + 3 * k + col)
  let b := s.tbl h q (base + 3 * k1 + col)
  if f32.finite a && f32.finite b then do
    let d ← lawOf 2 j (eSub b a)
    let v ← lawOf 2 j (eFma f d a)
    .ok (some v)
  else .ok none
/-- The columns of a table in order, up to the first that holds a bad point (R146). -/
def State.lawCols (s : State) (h : Half) (q j k k1 f : Nat) : List Nat → LawM (Option (List Nat))
  | [] => .ok (some [])
  | col :: cols => do
    match ← s.lawCol h q j k k1 f col with
    | none => .ok none
    | some v => (State.lawCols s h q j k k1 f cols).map (fun r => r.map (v :: ·))
/-- The table output of command `j` (R146): the value, whether a point was bad, which gives 0.0, and the point k. -/
def State.lawTable (s : State) (h : Half) (q j : Nat) : LawM (Nat × Bool × Nat) := do
  let (k, f) ← s.lawCell h q j
  let k1 := (k + 1) % 2 ^ bits (s.compCtrl h q j) 7 4
  match ← s.lawCols h q j k k1 f [0, 1, 2] with
  | some [cog, pos, neg] =>
    let v := bits (BitVec.ofNat 32 (s.cf h q 0xDA4)) 15 12
    let vel := if v < s.nOf h q then s.sw h q (4 * v) else 0
    let b ← lawOf 2 j (eFma vel (s.cf h q (0xC50 + 4 * j)) b32half)
    let beta ← lawOf 2 j (eMinmax b 0 b32one)
    let d ← lawOf 2 j (eSub pos neg)
    let fr ← lawOf 2 j (eFma beta d neg)
    let r ← lawOf 2 j (eAdd cog fr)
    .ok (r, false, k)
  | _ => .ok (0, true, k)
/-- Word `i` of the repetitive memory of command `j` (R147). -/
def State.rcWord (s : State) (h : Half) (q j i : Nat) : Nat := s.tbl h q (bits (s.compCtrl h q j) 23 16 * 16 + i)
/-- RC_LEN, at least 1 for a software value of 0 (R139). -/
def State.rcLen (s : State) (h : Half) (q : Nat) : Nat :=
  let n := bits (BitVec.ofNat 32 (s.cf h q 0xDAC)) 12 0
  if n = 0 then 1 else n
/-- The repetitive output of command `j` (R147): the value, and whether the word was bad. -/
def State.rcOut (s : State) (h : Half) (q j : Nat) : Nat × Bool :=
  if s.rcEn h q j then
    let v := s.rcWord h q j (s.fd (stateBase h q + 0x74) 11 0)
    if f32.finite v then (v, false) else (0, true)
  else (0, false)

/-- SRC of R149 at the start of step 2, and whether FADE_CNT restarts: 0 OFF, 1 TABLE, 2 RC, 3 FADE_TO_RC,
4 FADE_TO_TABLE, 5 FADE_IN_TABLE, 6 FADE_IN_RC. -/
def State.srcNext (s : State) (h : Half) (q : Nat) : Nat × Bool :=
  let w := s.rg (stateBase h q + 0x70)
  let src := bits w 2 0
  let js := List.range (s.mOf h q)
  let ok := s.posKnown h q && js.all (fun j => !s.tabEn h q j || (bit (s.compCtrl h q j) 1 && !bit w (8 + j)))
  let table := ok && js.any (s.tabEn h q)
  if s.lossOf h q ≠ 0 ∨ s.compOn h q = false then (0, false)
  else match src with
    | 0 => (if table then 5 else 6, true)
    | 1 => if ok then (1, false) else (3, true)
    | 2 => if table then (4, true) else (2, false)
    | 4 => if ok then (4, false) else (3, true)
    | 5 => if ok then (5, false) else (3, true)
    | n => (n, false)
/-- α of R149: FADE_CNT times FADE_STEP. DEDUCED: note 72. -/
def State.lawAlpha (s : State) (h : Half) (q step cnt : Nat) : LawM Nat :=
  lawOf step 0 (eMul (eOfInt cnt) (s.cf h q 0xD98))
/-- held[j] of R150. -/
def heldOff (j : Nat) : Nat := if j < 2 then 0x58 + 4 * j else 0x70 + 4 * j

/-- What step 2 gives for one command: comp before COMP_GAIN, comp, table and repetitive outputs, bad table at point
`tabPt`, bad repetitive word. -/
structure CompOut where
  pre : Nat
  comp : Nat
  tab : Nat
  rc : Nat
  tabBad : Bool
  tabPt : Nat
  rcBad : Bool
  deriving DecidableEq, Repr

/-- comp[j] (R149). The repetitive output is formed in every sample, whatever the source (R147). DEDUCED: note 72. A table
source reads tab[j] as 0.0 for a command without TAB_EN. DESIGN CHOICE: note 154. -/
def State.lawComp (s : State) (h : Half) (q src cnt j : Nat) : LawM CompOut :=
  let (rc, rb) := s.rcOut h q j
  if src = 0 ∨ (s.tabEn h q j || s.rcEn h q j) = false then .ok ⟨0, 0, 0, rc, false, 0, rb⟩
  else do
    let useTab := (src == 1 || src == 4 || src == 5) && s.tabEn h q j
    let (tab, tb, pt) ← if useTab then s.lawTable h q j else .ok (0, false, 0)
    let a ← s.lawAlpha h q 2 cnt
    let blend (x y : Nat) : LawM Nat := do
      let d ← lawOf 2 j (eSub y x)
      let m ← lawOf 2 j (eMul a d)
      lawOf 2 j (eAdd x m)
    let pre ← match src with
      | 1 => .ok tab
      | 2 => .ok rc
      | 3 => blend (s.sw h q (heldOff j)) rc
      | 4 => blend rc tab
      | 5 => lawOf 2 j (eMul a tab)
      | _ => lawOf 2 j (eMul a rc)
    let c ← lawOf 2 j (eMul (s.cf h q (0xC40 + 4 * j)) pre)
    .ok ⟨pre, c, tab, rc, tb, pt, rb⟩

/-- cosine(x) of R156. -/
def lawCos (row x : Nat) : LawM Nat := do
  let x := if f32.lt x 0 then eNeg x else x
  let (x, g) ← if f32.lt b32halfPi x then (lawOf 2 row (eSub b32pi x)).map (fun y => (y, b32mone)) else .ok (x, b32one)
  let z ← lawOf 2 row (eMul x x)
  let a ← lawOf 2 row (eFma 0xB493F27E z 0x37D00D01)
  let a ← lawOf 2 row (eFma a z 0xBAB60B61)
  let a ← lawOf 2 row (eFma a z 0x3D2AAAAB)
  let a ← lawOf 2 row (eFma a z 0xBF000000)
  let a ← lawOf 2 row (eFma a z b32one)
  lawOf 2 row (eMul g a)
/-- An angle brought back into [-π, π) (R156). -/
def lawWrap (step row x : Nat) : LawM Nat := do
  let x ← if f32.le b32pi x then lawOf step row (eSub x b32twoPi) else .ok x
  if f32.lt x (eNeg b32pi) then lawOf step row (eAdd x b32twoPi) else .ok x
/-- The catch vector of command `j` (R156). -/
def State.lawCatch (s : State) (h : Half) (q j : Nat) : LawM Nat := do
  let x ← lawOf 2 j (eSub (s.sw h q 0x5C) (s.cf h q (0xD80 + 4 * j)))
  let x ← lawWrap 2 j x
  let c ← lawCos j x
  lawOf 2 j (eFma (s.cf h q (0xD60 + 4 * j)) c (s.cf h q (0xD70 + 4 * j)))

/-- What the prepare phase leaves: c, v, the compensation outputs (or catch vector in `comp`), SRC and FADE_CNT. -/
structure PrepOut where
  c : List Nat
  v : List Nat
  comps : List CompOut
  catchU : List Nat
  src : Nat
  fade : Nat
  deriving DecidableEq, Repr

/-- Steps 1 to 3 (R116). DEDUCED: note 72. -/
def State.lawPrepare (s : State) (h : Half) (q : Nat) : LawM PrepOut := do
  let n := s.nOf h q
  let m := s.mOf h q
  let xs := s.sws h q 0 n
  let c ← lawAll (fun i => lawDot 1 i 0 (((List.range n).map (fun j => s.cf h q (0x500 + 4 * (16 * i + j)))).zip xs))
    (List.range (s.pOf h q))
  let (src, rst) := s.srcNext h q
  let cnt := if rst then 0 else s.fd (stateBase h q + 0x74) 31 16
  let comps ← lawAll (s.lawComp h q src cnt) (List.range m)
  let cu ← if s.lossOf h q = 2 then lawAll (s.lawCatch h q) (List.range m) else .ok []
  let v ← lawAll (fun j => do
      let a ← lawOf 3 j (eAdd (s.dw h q (0x40 + 4 * j)).toNat ((comps.map (·.comp)).getD j 0))
      let a ← lawDot 3 j a ((List.range (s.qOf h q)).map (fun k =>
        (s.cf h q (0xA00 + 4 * (4 * j + k)), (s.dw h q (0x20 + 4 * k)).toNat)))
      lawDot 3 j a (((List.range n).map (fun i => eNeg (s.cf h q (0x900 + 4 * (16 * j + i))))).zip xs))
    (List.range m)
  .ok ⟨c, v, comps, cu, src, cnt⟩

/-! ### Steps 4 to 7 (R116, R120, R123, R124) -/

/-- The format of a raw measurement word by its route (R608): an integer range is converted to binary32 first. -/
def rawToB32 (entry raw : Word) : Nat :=
  match bits entry 3 0 with
  | 2 => (match bits entry 19 16 with
    | 0 => eOfInt (signedOf 16 raw.toNat)
    | 1 => eOfInt (signedOf 16 raw.toNat)
    | 2 => eOfInt (signedOf 16 raw.toNat)
    | 4 => eOfInt raw.toNat
    | _ => eOfInt (raw.toNat % 65536 : Nat))
  | 3 => if bits entry 19 16 = 0 then eOfInt (signedOf 32 raw.toNat) else raw.toNat
  | 4 => (match bits entry 22 20 with
    | 1 => eOfInt (signedOf 32 raw.toNat)
    | 2 => eOfInt raw.toNat
    | 3 => eOfInt (signedOf 16 raw.toNat)
    | 4 => eOfInt (raw.toNat % 65536 : Nat)
    | _ => raw.toNat)
  | _ => raw.toNat

/-- Step 4 for one measurement: y, ν, and whether it counted as invalid. A non-finite value is no fault (R126). -/
def State.lawMeas (s : State) (h : Half) (q i : Nat) (valid : Bool) (raw : Nat) : Nat × Nat × Bool :=
  let c := s.sw h q (0x80 + 4 * i)
  let y := if valid then eFma raw (s.cf h q (0xC00 + 4 * i)) (s.cf h q (0xC20 + 4 * i)) else none
  match y with
  | none => (c, 0, true)
  | some y => match eSub y c with
    | none => (c, 0, true)
    | some d => (y, d, false)

/-- Step 6 for one command: u and the flags HI, LO, RATE (R123, R154). `u0` is the command by its source; the rate
limit is not applied in a loss state. -/
def State.lawLimit (s : State) (h : Half) (q j u0 : Nat) (loss : Bool) : LawM (Nat × Bool × Bool × Bool) := do
  let rate := s.cf h q (0xBA0 + 4 * j)
  let last := s.sw h q (0x40 + 4 * j)
  let _ ← lawOf 6 j (if loss || f32.finite rate then some 0 else none)
  let u ← lawOf 6 j (if f32.finite u0 then some (flush32 u0) else none)
  let r ← if !loss && f32.lt 0 (flush32 rate) then do
      let lo ← lawOf 6 j (eSub last rate)
      let hi ← lawOf 6 j (eAdd last rate)
      lawOf 6 j (eMinmax u lo hi)
    else .ok u
  let lo := s.cf h q (0xB80 + 4 * j)
  let hi := s.cf h q (0xB90 + 4 * j)
  let z ← lawOf 6 j (eMinmax r lo hi)
  .ok (z, f32.lt (flush32 hi) (eMax r lo), f32.lt r (flush32 lo) && !f32.lt (flush32 hi) (flush32 lo), decide (r ≠ u))

/-- What step 4 gives: y, ν, and the map of invalid measurements. -/
structure MeasOut where
  y : List Nat
  nu : List Nat
  invalid : Nat
  deriving DecidableEq, Repr

/-- Step 4 (R116, R120): every measurement with what had arrived at input-ready. -/
def State.lawMeasures (s : State) (h : Half) (q : Nat) : MeasOut :=
  let r := s.run h q
  let p := s.pOf h q
  let L := s.fd (slotBase h q) 11 0
  let ms := (List.range p).map (fun i =>
    let entry := Map.get (fun _ => 0) (s.half h).route (8 * (8 * L + i))
    let ok := r.arrived.testBit i && r.valid.testBit i
    s.lawMeas h q i ok (rawToB32 entry (Map.get (fun _ => 0) r.raw i)))
  ⟨ms.map (·.1), ms.map (·.2.1),
    (List.range p).foldl (fun w i => if ((ms.map (·.2.2)).getD i false) then w + 2 ^ i else w) 0⟩

/-- What steps 5 to 7 give: u, out and the three flag maps. -/
structure CritOut where
  u : List Nat
  out : List Nat
  flags : Nat
  deriving DecidableEq, Repr

/-- Steps 5 to 7 (R116) from the innovations, with the mode in force of the carried block and the loss state at the
sample's start. Step 7 of a command follows its step 6 (R127). -/
def State.lawCritical (s : State) (h : Half) (q : Nat) (nu : List Nat) : LawM CritOut := do
  let r := s.run h q
  let p := s.pOf h q
  let m := s.mOf h q
  let ul ← lawAll (fun j => lawDot 5 j (s.sw h q (0xA0 + 4 * j))
    (((List.range p).map (fun i => eNeg (s.cf h q (0xA40 + 4 * (8 * j + i))))).zip nu)) (List.range m)
  let mode := r.mode
  let us ← lawAll (fun j =>
    let u0 :=
      if r.loss = 2 then (r.catchU.map (·.toNat)).getD j 0
      else if r.loss ≠ 0 then s.sw h q (0x40 + 4 * j)
      else if mode = 1 then ul.getD j 0
      else if mode = 2 then (s.dw h q (0x30 + 4 * j)).toNat
      else s.sw h q (0x40 + 4 * j)
    do
      let l ← s.lawLimit h q j u0 (decide (r.loss ≠ 0))
      let o ← lawOf 7 j (eFma l.1 (s.cf h q (0xBB0 + 4 * j)) (s.cf h q (0xBC0 + 4 * j)))
      .ok (o, l)) (List.range m)
  let flags := (List.range m).foldl (fun w j => match us[j]? with
    | some (_, _, hi, lo, rt) => w + hi.toNat * 2 ^ j + lo.toNat * 2 ^ (4 + j) + rt.toNat * 2 ^ (8 + j)
    | none => w) 0
  .ok ⟨us.map (·.2.1), us.map (·.1), flags⟩

/-! ### Steps 8 to 11 (R116, R122, R147, R152) -/

/-- Steps 8 and 9: the observer update and the integrator clamp. `frozen`: mode HOLD or a loss state. -/
def State.lawUpdate (s : State) (h : Half) (q : Nat) (us nu : List Nat) (frozen : Bool) : LawM (List Nat) := do
  let n := s.nOf h q
  let m := s.mOf h q
  let p := s.pOf h q
  let xs := s.sws h q 0 n
  let xn ← lawAll (fun i => do
      let a ← lawDot 8 i 0 (((List.range n).map (fun j => s.cf h q (4 * (16 * i + j)))).zip xs)
      let a ← lawDot 8 i a (((List.range m).map (fun j => s.cf h q (0x400 + 4 * (4 * i + j)))).zip us)
      lawDot 8 i a (((List.range p).map (fun k => s.cf h q (0x700 + 4 * (8 * i + k)))).zip nu))
    (List.range n)
  lawAll (fun i =>
    if bit (s.dw h q 0x10) i then
      lawOf 9 i (eMinmax (if frozen then xs.getD i 0 else xn.getD i 0) (s.cf h q (0xB00 + 4 * i)) (s.cf h q (0xB40 + 4 * i)))
    else .ok (xn.getD i 0)) (List.range n)

/-- The innovation norm e (R152): the greatest product; 0.0 without a measurement. DEDUCED: note 71. -/
def State.lawNorm (s : State) (h : Half) (q : Nat) (nu : List Nat) : LawM Nat := do
  let ws ← lawAll (fun (x : Nat × Nat) => lawOf 10 0 (eMul (x.1 % 2 ^ 31) (s.cf h q (0xD40 + 4 * x.2))))
    (nu.zip (List.range nu.length))
  match ws with
  | [] => .ok 0
  | w :: l => .ok (l.foldl eMax w)
/-- DTHETA at a declaration (R153). DEDUCED: note 71. -/
def State.lawDtheta (s : State) (h : Half) (q x : Nat) : LawM Nat := do
  let d ← lawOf 10 0 (eMul x (s.cf h q 0xD90))
  lawOf 10 0 (eMinmax d (eNeg b32pi) b32pi)

/-- The new value of the memory cell that command `j` learns, and its index (R147). -/
def State.lawLearn (s : State) (h : Half) (q j : Nat) (nu : List Nat) : LawM (Nat × Nat) := do
  let len := s.rcLen h q
  let p := s.pOf h q
  let e ← lawDot 11 j 0 (((List.range p).map (fun i => s.cf h q (0xCC0 + 4 * (8 * j + i)))).zip nu)
  let idx := s.fd (stateBase h q + 0x74) 11 0
  let lead := bits (BitVec.ofNat 32 (s.cf h q 0xDAC)) 28 16 % len
  let c := (idx + len - lead) % len
  let a ← lawOf 11 j (eFma (s.cf h q (0xC60 + 4 * j)) e (s.rcWord h q j c))
  let acc ← [8, 7, 6, 5, 4, 3, 2, 1].foldlM (fun acc t => do
      let b ← lawOf 11 j (eAdd (s.rcWord h q j ((c + 8 * len - t) % len)) (s.rcWord h q j ((c + t) % len)))
      lawOf 11 j (eFma (s.cf h q (0xC80 + 4 * t)) b acc)) (0 : Nat)
  let acc ← lawOf 11 j (eFma (s.cf h q 0xC80) a acc)
  let lim := s.cf h q (0xC70 + 4 * j)
  let v ← lawOf 11 j (eMinmax acc (eNeg lim) lim)
  .ok (c, v)
/-- Learning of every command with a repetitive controller, in order (R147). -/
def State.lawLearnAll (s : State) (h : Half) (q : Nat) (nu : List Nat) : List Nat → LawM State
  | [] => .ok s
  | j :: js =>
    if s.rcEn h q j then do
      let (c, v) ← s.lawLearn h q j nu
      let i := bits (s.compCtrl h q j) 23 16 * 16 + c
      State.lawLearnAll (s.wn (tableBase h q + 4 * (i % 4096)) v) h q nu js
    else State.lawLearnAll s h q nu js

/-! ### Cost (R134, R151) -/

/-- The prepare, critical and finish cycles of one sample, from the words of a descriptor (R134, R151). -/
def costOf (d : Nat → Word) : Nat × Nat × Nat :=
  let n := bits (d 4) 4 0
  let m := bits (d 4) 10 8
  let p := bits (d 4) 19 16
  let r := bits (d 4) 26 24
  let tab (j : Nat) : Bool := bit (d (0x70 + 4 * j)) 0
  let rc (j : Nat) : Bool := bit (d (0x70 + 4 * j)) 3
  let on := ((List.range m).filter (fun j => tab j || rc j)).length
  let k := if bits (d 0x60) 2 1 = 0 ∧ on < m then m else on
  let c := ((List.range m).filter rc).length
  (64 + p * n + (if k = 0 then 0 else 48 + 84 * k) + m * r + m * n + 24, 2 * p + m * p + 3 * m + 16,
    n * n + n * m + n * p + 2 * n + (p + 8) + (if k = 0 then 0 else 32) + 216 * c + 64 + 32)
/-- The cycles of one sample of the instance in slot `q`. -/
def State.sampleCost (s : State) (h : Half) (q : Nat) : Nat :=
  let c := costOf (s.dw h q)
  c.1 + c.2.1 + c.2.2

end Sys2Proof.Machine
end

