-- ==== Sys2Proof/Machine/Capacity.lean ====
section
/-! DEFINITION. Capacity of an engine: placement records, an instance's cost and load, the prepare test, and the
recomputation of an engine's load and marks, and the copy of a slot (R167-R172, R180). -/
namespace Sys2Proof.Machine

/-- The loop of slot `q`. -/
def State.slotLoop (s : State) (h : Half) (q : Nat) : Nat := s.fd (slotBase h q) 11 0
/-- STATUS.SLOT_STATE: 0 EMPTY, 1 RUNNING, 2 FAULTED, 3 MOVING (R105). -/
def State.slotState (s : State) (h : Half) (q : Nat) : Nat := s.fd (Slot.status h q) 1 0

/-- Change the placement state of half `h`. -/
def State.modPlace (s : State) (h : Half) (f : PlaceSt → PlaceSt) : State :=
  s.modHalf h (fun x => { x with place := f x.place })

/-! ### Placement records (R172) and instances (R167) -/

/-- What a word of a LOOP region holds at reset (R81, R108, R111, R172). -/
def loopDefault (off : Nat) : Word :=
  if off < 0x100 then resetWord 0 (slotBase .a 0 + off)
  else if 0x10000 ≤ off ∧ off < 0x11000 then resetWord 0 (coefBase .a 0 + (off - 0x10000))
  else if off = 0x30000 then 0x800
  else if off = 0x30004 then resetWord 0 (slotBase .a 0 + 4)
  else if off = 0x30008 then resetWord 0 (slotBase .a 0 + 8)
  else if off = 0x3000C then 500
  else if off = 0x30010 then 0xF0F
  else 0
/-- A word of a held LOOP region. -/
def RegCopy.loopWord (c : RegCopy) (off : Nat) : Word := Map.get loopDefault c.words off
/-- The descriptor word `off` that a LOOP region gives (R112): LOOP_ID, SHAPE and TIMING come from the record. -/
def RegCopy.descWord (c : RegCopy) (loop off : Nat) : Word :=
  if off = 0 then
    let k := c.loopWord 0x30000
    BitVec.ofNat 32 (loop + (bit k 0).toNat * 2 ^ 12 + (bit k 1).toNat * 2 ^ 13)
  else if off = 4 then c.loopWord 0x30004
  else if off = 8 then c.loopWord 0x30008
  else c.loopWord off
/-- The active LOOP region of a loop (R91). -/
def State.loopRegion (s : State) (h : Half) (loop : Nat) : Option RegCopy :=
  ((s.half h).img.active.find? (fun e => decide (e.1 = 2 + loop))).map (·.2)
/-- A word of the active placement record of a loop (R172). -/
def State.plcWord (s : State) (h : Half) (loop off : Nat) : Word := match s.loopRegion h loop with
  | some c => c.loopWord (0x30000 + off)
  | none => loopDefault (0x30000 + off)

/-- One instance as placement sees it (R167, R168, R171): phase cycles, period and phase in us, the earliest arrival in
ns, and whether it belongs to the power-management group. -/
structure Inst where
  loop : Nat
  prep : Nat
  crit : Nat
  total : Nat
  period : Nat
  phase : Nat
  arrive : Nat
  pwr : Bool
  deriving DecidableEq, Repr

/-- The instance that descriptor words and an ARRIVE value give. -/
def mkInst (loop : Nat) (d : Nat → Word) (arrive : Nat) : Inst :=
  let c := costOf d
  let per := bits (d 8) 9 0
  let lim := per * 100 - 500
  let w := bits (d 0x14) 31 16
  let w := if lim < w then lim else w
  ⟨loop, c.1, c.2.1, c.1 + c.2.1 + c.2.2, per, bits (d 8) 25 16, 10 * (if w < arrive then w else arrive), bit (d 0) 13⟩
/-- The load of an instance in cycles per ms (R167). -/
def Inst.load (i : Inst) : Nat := if i.period = 0 then 0 else (i.total * 1000 + i.period - 1) / i.period
/-- The instance in slot `q`; a slot in MOVING counts as its source's (R167). -/
def State.instAt (s : State) (h : Half) (q : Nat) : Inst :=
  let p := (s.half h).place
  let fromSlot (k : Nat) : Inst := mkInst (s.slotLoop h k) (s.dw h k) (s.plcWord h (s.slotLoop h k) 0xC).toNat
  if s.slotState h q = 3 then
    match p.moves.find? (fun m => decide (m.dst = q)) with
    | some m => fromSlot m.src
    | none => match p.lost.find? (fun l => l.dst == some q) with
      | some l => match s.loopRegion h l.loop with
        | some c => mkInst l.loop (c.descWord l.loop) (s.plcWord h l.loop 0xC).toNat
        | none => fromSlot q
      | none => match (p.plan.find? (fun e => decide (e.2 = q))).bind (fun e =>
          ((s.half h).img.ready.find? (fun c => decide (c.1 = 2 + e.1))).map (fun c => (e.1, c.2))) with
        | some (loop, c) => mkInst loop (c.descWord loop) (c.loopWord 0x3000C).toNat
        | none => fromSlot q
  else fromSlot q
/-- The instances of engine `e`. -/
def State.engInsts (s : State) (h : Half) (e : Nat) : List Inst :=
  ((List.range 8).filter (fun i => decide (s.slotState h (8 * e + i) ≠ 0))).map (fun i => s.instAt h (8 * e + i))
/-- The load of a set of instances. -/
def loadSum (l : List Inst) : Nat := l.foldl (fun n i => n + i.load) 0

/-- The ticks of instance `j` that count against instance `i` (R171). -/
def prepHits (i j : Inst) : Nat :=
  let g : Int := ((Nat.gcd i.period j.period * 1000 : Nat) : Int)
  let d : Int := (((j.phase : Int) - i.phase) * 1000) % g
  let w : Int := (((j.prep + j.crit) * 5 / 3 + 1 : Nat) : Int)
  let t := d - g * ((d + w - 1) / g)
  if t < i.arrive then (((i.arrive : Int) - t + g - 1) / g).toNat else 0
/-- The prepare test of instance `i` among the instances `others` of its engine (R171). -/
def prepareOk (i : Inst) (others : List Inst) : Bool :=
  decide (8 + i.prep + (others.map (fun j => prepHits i j * (j.prep + j.crit))).foldl (· + ·) 0 ≤ i.arrive * 6 / 10)
/-- Every instance of a set passes the prepare test. -/
def prepareAll (l : List Inst) : Bool := (List.range l.length).all (fun k => match l[k]? with
  | some i => prepareOk i (l.eraseIdx k)
  | none => true)
/-- The load and fast-instance rules of R168. -/
def loadOk (l : List Inst) : Bool :=
  decide (loadSum l ≤ 450000) && decide ((l.filter (fun i => decide (i.period < 20))).length ≤ 2)
/-- Whether engine `e` lies in the power-management group (R37). -/
def pwrEngine (e : Nat) : Bool := decide (496 ≤ e)
/-- The recomputation of an engine (R169): its load, OVERLOADED, and the PREP_RISK bits of its loops. -/
def State.recompute (s : State) (h : Half) (e : Nat) : State :=
  let l := s.engInsts h e
  let s := (s.fw (Mod.plcEngLoad h e) 19 0 (loadSum l)).sb (Mod.plcEngLoad h e) 31 (!loadOk l)
  (List.range l.length).foldl (fun t k => match l[k]? with
    | some i => t.setMapBit (Mod.plcPrepRisk h 0) i.loop (!prepareOk i (l.eraseIdx k))
    | none => t) s

/-! ### Copying a slot (R180) -/

/-- The offsets, from either base, at which a range of `n` bytes is listed in a map. -/
def listedOffs (m : Map Word) (src dst n : Nat) : List Nat :=
  m.filterMap (fun e =>
    if src ≤ e.1 ∧ e.1 < src + n then some (e.1 - src)
    else if dst ≤ e.1 ∧ e.1 < dst + n then some (e.1 - dst) else none)
/-- Copy the live words of a range of `n` bytes. -/
def State.copyLive (s : State) (src dst n : Nat) : State :=
  (listedOffs s.live src dst n).foldl (fun t o => t.wr (dst + o) (s.rg (src + o))) s
/-- Copy the shadows of a range of `n` bytes. -/
def State.copyShadow (s : State) (src dst n : Nat) : State :=
  (listedOffs s.shadow src dst n).foldl (fun t o => t.wrSh (dst + o) (s.sh (src + o))) s
/-- Set the shadows of a range from its live words. -/
def State.reloadShadow (s : State) (a n : Nat) : State :=
  (listedOffs (s.shadow ++ s.live) a a n).foldl (fun t o => t.wrSh (a + o) (s.rg (a + o))) s
/-- Descriptor views, coefficient banks and table area of slot `src` of half `g` go to slot `dst` of half `h`. -/
def State.copySlot (s : State) (g : Half) (src : Nat) (h : Half) (dst : Nat) : State :=
  let s := (s.copyLive (slotBase g src) (slotBase h dst) 0x100).copyShadow (slotBase g src) (slotBase h dst) 0x100
  let s := (s.copyLive (coefBase g src) (coefBase h dst) 0x1000).copyShadow (coefBase g src) (coefBase h dst) 0x1000
  s.copyLive (tableBase g src) (tableBase h dst) 0x4000
/-- From the end of its pre-copy until B, what is written to the source of a move is also applied to its target (R181):
descriptor views, coefficient banks and table area. The target stays MOVING. -/
def State.moveSync (s : State) (h : Half) (q : Nat) : State :=
  match (s.half h).place.moves.find? (fun m => decide (m.src = q) && m.copied && decide (s.slotState h q ≠ 0)) with
  | some m => (s.copySlot h m.src h m.dst).fw (Slot.status h m.dst) 1 0 3
  | none => s

end Sys2Proof.Machine
end

