-- ==== Sys2Proof/Machine/EngOps.lean ====
section
/-! DEFINITION. Shared operations of the loop engines: roles, command words, instance faults, trace, the mirror push,
commits of a slot's unit, and the three phases of a sample (chapters 4 and 5).
Engine faults are those of R131; sample boundaries (R132, R136) come as rows. -/
namespace Sys2Proof.Machine

/-! ### Slots, roles and conditions -/

/-- Whether slot `q` holds a STANDBY copy (ENG_STATUS). -/
def State.standby (s : State) (h : Half) (q : Nat) : Bool := s.bt (Eng.engStatus h (q / 8)) (16 + q % 8)
/-- The half-local slot that the loop map names for loop `n`, if the loop has a copy there (R38). -/
def State.slotOf (s : State) (h : Half) (n : Nat) : Option Nat :=
  if s.fd (loopMapAt h n) 17 16 = 0 then none else some (s.fd (loopMapAt h n) 12 0 % 4096)
/-- Set the ROLE of a loop-map entry (R39). -/
def State.setRole (s : State) (h : Half) (n role : Nat) : State := s.fw (loopMapAt h n) 17 16 role
/-- A record of the active copy of the slot's loop (R161). -/
def State.loopReport (s : State) (h : Half) (q code : Nat) (data : List Nat) : State :=
  if s.standby h q then s else s.report h code 2 (s.slotLoop h q) (s.rn (Slot.sampleCnt h q) :: data)
/-- Set or clear a slot's bit of ENG_COND. -/
def State.engCond (s : State) (h : Half) (q base : Nat) (b : Bool) : State := s.sb (Eng.engCond h (q / 8)) (base + q % 8) b

/-- The open packet of engine `e` in Tray 8. -/
def State.engPacket (s : State) (h : Half) (e : Nat) : Option Packet :=
  (s.half h).tray.packets.find? (fun p => decide (p.tray = 8) && decide (p.engine = e) && !p.closed)

/-! ### Command words (R31, R124, R154) -/

/-- A binary32 command in its destination's format (R124, R198, R608). DEDUCED: note 76. -/
def toDest (kind sel out : Nat) : Word :=
  if kind = 2 then BitVec.ofInt 32 (f32.toInt .rne 0 (if sel = 3 then 1 else 65535) 0 out) else BitVec.ofNat 32 out
/-- Send one command word along its route; nothing leaves where no route names a destination. DEDUCED: note 76. -/
def State.sendOne (s : State) (h : Half) (loop j out : Nat) (coast : Bool) : State :=
  let e := Map.get (fun _ => 0) (s.half h).route (0x40000 + 8 * (4 * loop + j))
  let kind := bits e 3 0
  let c : CmdWord := ⟨loop, j, bits e 15 4, bits e 19 16, toDest kind (bits e 19 16) out, coast⟩
  match kind with
  | 1 => s.modHalf h (fun x => { x with ancTx := x.ancTx ++ [c] })
  | 2 => s.modHalf h (fun x => { x with drvTx := x.drvTx ++ [c] })
  | 3 => s.modHalf h (fun x => { x with motTx := x.motTx ++ [c] })
  | _ => s
/-- Send the command words of a slot through its output port; a STANDBY copy's never leave (R106). A word that is not
finite is not sent (R124). -/
def State.sendWords (s : State) (h : Half) (q : Nat) (outs : List (Option Nat)) (coast : Bool) : State :=
  if s.standby h q then s
  else
    let loop := s.slotLoop h q
    (outs.zip (List.range outs.length)).foldl (fun t e => match e.1 with
      | some w => t.sendOne h loop e.2 w coast
      | none => t) s

/-- Datapath cycles used by engine `e` count toward BUSY of the present millisecond (chapter 4, BUSY). -/
def State.busyAdd (s : State) (h : Half) (e cycles : Nat) : State :=
  let ms := s.now h / 1000000
  let old := Map.get (fun _ => 0) (s.half h).busyMs e
  let acc := Map.get (fun _ => 0) (s.half h).busyAcc e
  let mhz := s.fd (Mod.slabVfStatus h (e / 128)) 9 0
  let s := if old = ms then s
    else s.fw (Eng.busy h e) 15 0 (if old + 1 = ms then clampNat 0 65535 (acc * 65536 / (if mhz = 0 then 1 else mhz * 1000)) else 0)
  let n := if old = ms then acc + cycles else cycles
  s.modHalf h (fun x => { x with busyMs := Map.set (fun _ => 0) x.busyMs e ms, busyAcc := Map.set (fun _ => 0) x.busyAcc e n })

/-- The fault action of a FAULTED slot at a tick (R129): its words count as the command words last sent. -/
def State.faultAction (s : State) (h : Half) (q : Nat) : State :=
  let s := (s.wn (Eng.slotCost h (q / 8) (q % 8)) 16).busyAdd h (q / 8) 16
  let last := (s.run h q).sent
  match bits (s.dw h q 0xC) 3 2 with
  | 1 => s.sendWords h q (last.map (fun w => some w.toNat)) (s.run h q).sentCoast
  | 2 => s
  | _ =>
    let ws := (List.range (s.mOf h q)).map (fun j =>
      eFma (s.dw h q (0x50 + 4 * j)).toNat (s.cf h q (0xBB0 + 4 * j)) (s.cf h q (0xBC0 + 4 * j)))
    let sent := (ws.zip (List.range ws.length)).map (fun e => match e.1 with
      | some w => BitVec.ofNat 32 w
      | none => last.getD e.2 0)
    (s.sendWords h q ws false).modRun h q (fun r => { r with sent := sent, sentCoast := false })

/-! ### Trace (R162-R166) -/

/-- The selected nodes, at most the 32 lowest-numbered (R163). -/
def State.traceSel (s : State) (h : Half) (q : Nat) : List Nat :=
  ((List.range 83).filter (fun i => bit (s.dw h q (0x84 + 4 * (i / 32))) (i % 32))).take 32
/-- One word of a slot's trace area: half-buffer `b`, word `i` (R164). -/
def traceAt (h : Half) (q b i : Nat) : Nat := engBase h (q / 8) + 0x4000 + 0x800 * (q % 8) + 0x400 * b + 4 * i
/-- Change one packet of the slot, the open one. -/
def State.modOpen (s : State) (h : Half) (q : Nat) (f : TracePkt → TracePkt) : State :=
  s.modRun h q (fun r => { r with packets := r.packets.map (fun p => if p.closed = none then f p else p) })
/-- The open packet closes with its cause; its header is written (R164, R165). -/
def State.traceClose (s : State) (h : Half) (q cause : Nat) : State :=
  match (s.run h q).packets.find? (fun p => p.closed = none) with
  | none => s
  | some p =>
    let hd := [p.loop + q % 8 * 2 ^ 12 + p.standby.toNat * 2 ^ 15 + p.w * 2 ^ 16 + (decide (p.gapCnt ≠ 0)).toNat * 2 ^ 22
        + cause * 2 ^ 24,
      p.count + p.decim * 2 ^ 8 + (p.gapCnt - 1) * 2 ^ 16, p.first.toNat, (p.mask.getD 0 0).toNat, (p.mask.getD 1 0).toNat,
      (p.mask.getD 2 0).toNat, p.time % 2 ^ 32, p.time / 2 ^ 32]
    let s := (hd.zip (List.range 8)).foldl (fun t e => t.wn (traceAt h q p.buf e.2) e.1) s
    s.modOpen h q (fun p => { p with closed := some cause })
/-- The 32-bit words of a packet, and its Tray words (R529). -/
def TracePkt.len (p : TracePkt) : Nat := 8 + p.count * p.w
def TracePkt.trayLen (p : TracePkt) : Nat := (p.len + 1) / 2
/-- Node `i` of a sample (R162). The raw word of a measurement that did not arrive is the one received before it.
DESIGN CHOICE: note 155. -/
def State.traceNode (s : State) (h : Half) (q : Nat) (cnt : Word) (i : Nat) : Word :=
  let r := s.run h q
  let n := s.nOf h q
  let m := s.mOf h q
  let p := s.pOf h q
  let at_ (lim k : Nat) (w : Word) : Word := if k < lim then w else 0
  if i < 16 then at_ n i (r.xh.getD i 0)
  else if i < 24 then at_ p (i - 16) (s.rg (stateBase h q + 0xB0 + 4 * (i - 16)))
  else if i < 32 then at_ p (i - 24) (s.rg (stateBase h q + 0xD0 + 4 * (i - 24)))
  else if i < 40 then at_ p (i - 32) (s.rg (stateBase h q + 0x80 + 4 * (i - 32)))
  else if i < 44 then at_ m (i - 40) (s.rg (stateBase h q + 0xA0 + 4 * (i - 40)))
  else if i < 48 then at_ m (i - 44) (r.u.getD (i - 44) 0)
  else if i < 52 then at_ m (i - 48) (r.out.getD (i - 48) 0)
  else if i < 56 then at_ m (i - 52) (r.comp.getD (i - 52) 0)
  else if i < 60 then at_ (s.qOf h q) (i - 56) (s.dw h q (0x20 + 4 * (i - 56)))
  else if i < 68 then at_ p (i - 60) (Map.get (fun _ => 0) r.raw (i - 60))
  else if i = 68 then r.e
  else if i = 69 then s.rg (stateBase h q + 0x50)
  else if i = 70 then s.rg (stateBase h q + 0x70)
  else if i = 71 then r.pos
  else if i < 76 then at_ m (i - 72) (r.tab.getD (i - 72) 0)
  else if i < 80 then at_ m (i - 76) (r.rc.getD (i - 76) 0)
  else if i = 80 then s.rg (Slot.status h q)
  else if i = 81 then BitVec.ofNat 32 (s.fd (Slot.latency h q) 15 0)
  else cnt
/-- A recordable sample is recorded, or counted as lost (R164, R166). `cnt` is its SAMPLE_CNT. DEDUCED: note 73. The header
holds the whole TRACE_CTRL masks, and a STANDBY copy's gap is reported too. DESIGN CHOICE: notes 156, 157. -/
def State.traceRecord (s : State) (h : Half) (q : Nat) (cnt : Word) : State :=
  let c := s.dw h q 0x80
  let sel := s.traceSel h q
  let sb := s.standby h q
  if bit c 0 = false ∨ (sb ∧ bit c 1 = false) ∨ sel = [] ∨ cnt.toNat % (bits c 15 8 + 1) ≠ 0 then s
  else
    let r := s.run h q
    let open_ := r.packets.any (fun p => p.closed = none)
    if (s.half h).snap.reached ∨ (open_ = false ∧ 2 ≤ r.packets.length) then
      s.modRun h q (fun r => { r with gap := satAdd 65535 r.gap 1 })
    else
      let s := if open_ then s else
        let gapped := decide (r.gap ≠ 0) || r.snapGap
        let b := if r.packets.any (fun p => decide (p.buf = 0)) then 1 else 0
        let s := s.modRun h q (fun r => { r with gap := 0, snapGap := false, packets := r.packets ++
          [⟨b, s.slotLoop h q, sb, sel.length, if gapped then r.gap + 1 else 0, bits c 15 8, cnt,
            (List.range 3).map (fun i => s.dw h q (0x84 + 4 * i)), r.tick, 0, 0, none⟩] })
        if gapped then
          (s.report h 0x0520 2 (s.slotLoop h q) [cnt.toNat, r.gap]).sb (Eng.engCond h (q / 8)) 18 true
        else s
      match (s.run h q).packets.find? (fun p => p.closed = none) with
      | none => s
      | some p =>
        let ws := sel.map (s.traceNode h q cnt)
        let s := (ws.zip (List.range ws.length)).foldl (fun t e =>
          t.wr (traceAt h q p.buf (8 + p.count * p.w + e.2)) e.1) s
        let s := s.modOpen h q (fun p => { p with count := p.count + 1 })
        if 248 / p.w ≤ p.count + 1 then s.traceClose h q 0 else s

/-! ### Instance faults (R128-R130) -/

/-- FIRST_DUE in STATUS and in the carried block (R113, R125). -/
def State.firstDue (s : State) (h : Half) (q : Nat) (b : Bool) : State :=
  (s.sb (Slot.status h q) 10 b).sb (stateBase h q + 0x60) 10 b
/-- An instance fault: 1 NONFINITE, 2 OVERRUN, 3 MEAS_LOST. `act`: the fault action replaces this sample's command. A fault
within a sample shows in the loop map at the slot's next boundary (R39). DEDUCED: note 158. -/
def State.instFault (s : State) (h : Half) (q cause step row : Nat) (act : Bool) : State :=
  let trip := bit (s.dw h q 0xC) 4
  let s := s.fw (Slot.status h q) 1 0 2
  let s := if cause = 1 then s else s.setRole h (s.slotLoop h q) 3
  let s := s.wn (Slot.faultInfo h q) (cause + step * 16 + row % 16 * 256 + s.rn (Slot.sampleCnt h q) % 65536 * 65536)
  let s := (s.engCond h q 0 true).traceClose h q 4
  let s := if trip && !s.standby h q then s.sb (Slot.status h q) 9 true else s
  let s := s.modRun h q (fun r => { r with
    phase := 0
    ready := false
    missAct := false
    roleDue := decide (cause = 1)
    faultDem := trip })
  if act then s.faultAction h q else s
/-- RESTART takes effect: FAULTED ends, a first sample is due (R130). -/
def State.slotRestart (s : State) (h : Half) (q : Nat) : State :=
  let s := if s.slotState h q = 2 then
      let s := ((s.fw (Slot.status h q) 1 0 1).engCond h q 0 false).sb (Slot.status h q) 9 false
      s.setRole h (s.slotLoop h q) (if s.standby h q then 2 else 1)
    else s
  (s.firstDue h q true).modRun h q (fun r => { r with missAct := false, roleDue := false, faultDem := false })
/-- CLEAR_COUNTS takes effect (R112). -/
def State.slotClear (s : State) (h : Half) (q : Nat) : State :=
  ((((s.wr (Slot.sampleCnt h q) 0).wr (Slot.eventCnt h q) 0).fw (Slot.latency h q) 31 16 0).wr (Slot.prepLateCnt h q) 0).fw
    (Slot.satState h q) 31 16 0

/-! ### Observer loss (R152-R158) -/

/-- LOSS_STATE becomes `n` at a sample's end, ENTERED set. -/
def State.lossEnter (s : State) (h : Half) (q n : Nat) : State := s.fw (stateBase h q + 0x50) 3 0 (n + 8)
/-- The loss condition shows or ends in STATUS and ENG_COND; with it ends TRIP's demand, not that of a fault (R129, R158). -/
def State.lossShow (s : State) (h : Half) (q : Nat) (b : Bool) : State :=
  let s := (s.sb (Slot.status h q) 6 b).engCond h q 8 b
  if b then s
  else s.sb (Slot.status h q) 9 (s.bt (Slot.status h q) 9 && decide (s.slotState h q = 2) && (s.run h q).faultDem)
/-- ESTIMATE_LOST is declared (R153); `x` is the speed estimate at the sample's start, `e` the norm. -/
def State.lossDeclare (s : State) (h : Half) (q : Nat) (x : Option Nat) (e : Nat) : LawM State := do
  let d ← match x with
    | some x => s.lawDtheta h q x
    | none => .ok 0
  let s := (s.fw (stateBase h q + 0x50) 31 16 0).lossEnter h q 1
  let ev := satAdd 65535 (s.fd (stateBase h q + 0x54) 31 16) 1
  let s := ((s.setSw h q 0x54 (ev * 65536)).setSw h q 0x58 d).setSw h q 0x5C 0
  .ok ((s.lossShow h q true).loopReport h q 0x0501 [e, s.cf h q 0xD94, d])
/-- The instance has reacquired (R157). -/
def State.lossReacquire (s : State) (h : Half) (q e : Nat) : State :=
  let cc := s.fd (stateBase h q + 0x50) 31 16
  let s := (s.setSw h q 0x50 8).fw (stateBase h q + 0x54) 7 0 0
  (s.lossShow h q false).loopReport h q 0x0503 [cc, e]
/-- CATCH has expired (R157). -/
def State.lossExpire (s : State) (h : Half) (q e : Nat) : State :=
  (s.lossEnter h q 3).loopReport h q 0x0504 [s.fd (stateBase h q + 0x50) 31 16, e]
/-- A loss ends at a boundary (R158): cause 0 first sample, 1 LOSS_EN cleared. -/
def State.lossEnd (s : State) (h : Half) (q cause : Nat) : State :=
  let l := s.lossOf h q
  if l = 0 then s
  else (((s.fw (stateBase h q + 0x50) 3 0 0).fw (stateBase h q + 0x50) 15 8 0).lossShow h q false).loopReport h q 0x0507
    [cause, l]
/-- The estimate that SPEED_STATE names; none at or above n, where DTHETA is 0.0 (R153). DEDUCED: note 71. -/
def State.speedOf (s : State) (h : Half) (q : Nat) (xs : List Nat) : Option Nat :=
  let i := bits (s.dw h q 0x60) 20 16
  if i < s.nOf h q then some (xs.getD i 0) else none
/-- Step 10 (R152-R157): the norm and the watched-invalid condition decide the loss state. -/
def State.lossTest (s : State) (h : Half) (q : Nat) (loss e : Nat) (wi : Bool) (xs : List Nat) : LawM State := do
  let c := s.dw h q 0x60
  let a := stateBase h q + 0x50
  let lim := lawOf 10 0 (let v := s.cf h q 0xD94; if f32.finite v then some (flush32 v) else none)
  let s := s.sb a 3 false
  match loss with
  | 0 =>
    if bit c 0 && !wi then do
      let limit ← lim
      let run := if f32.lt limit e then satAdd 255 (s.fd a 15 8) 1 else 0
      let s := s.fw a 15 8 run
      if bits c 15 8 ≤ run then s.lossDeclare h q (s.speedOf h q xs) e else .ok s
    else .ok s
  | 1 => .ok (s.lossEnter h q (match bits c 2 1 with
      | 0 => 2
      | 2 => 4
      | _ => 3))
  | 2 => do
    let cc := satAdd 65535 (s.fd a 31 16) 1
    let s := s.fw a 31 16 cc
    let g ← if wi then .ok (s.fd (a + 4) 7 0) else do
      let limit ← lim
      let hl ← lawOf 10 0 (eMul b32half limit)
      .ok (if f32.lt e hl then satAdd 255 (s.fd (a + 4) 7 0) 1 else 0)
    let s := s.fw (a + 4) 7 0 g
    let t ← lawOf 11 0 (eAdd (s.sw h q 0x5C) (s.sw h q 0x58))
    let t ← lawWrap 11 0 t
    let s := s.setSw h q 0x5C t
    if 16 ≤ g then .ok (s.lossReacquire h q e)
    else if s.fd (slotBase h q + 0x64) 15 0 ≤ cc then .ok (s.lossExpire h q e)
    else .ok s
  | _ => .ok s

/-! ### Compensation source (R149) -/

/-- SRC changes: the record SOURCE_CHANGED (R161). -/
def State.srcSet (s : State) (h : Half) (q n : Nat) : State :=
  let o := s.fd (stateBase h q + 0x70) 2 0
  if o = n then s else (s.fw (stateBase h q + 0x70) 2 0 n).loopReport h q 0x0511 [o, n]
/-- α has reached 1.0 in a FADE state: SRC moves to TABLE or RC (R149). -/
def State.fadeDone (s : State) (h : Half) (q : Nat) : State :=
  match s.fd (stateBase h q + 0x70) 2 0 with
  | 3 => s.srcSet h q 2
  | 6 => s.srcSet h q 2
  | 4 => s.srcSet h q 1
  | 5 => s.srcSet h q 1
  | _ => s
/-- Whether α has reached 1.0. -/
def State.fadeFull (s : State) (h : Half) (q : Nat) : Bool :=
  match s.lawAlpha h q 11 (s.fd (stateBase h q + 0x74) 31 16) with
  | .ok a => f32.le b32one a
  | .error _ => false
/-- Step 11 for the carried words: position, fade, held values, index and flags (R144, R147, R149). In a loss state words
0x058 and 0x05C hold no held value (R150). -/
def State.compFinish (s : State) (h : Half) (q : Nat) (nu : List Nat) : LawM State := do
  let r := s.run h q
  let p := s.pOf h q
  let js := List.range (s.mOf h q)
  let w := BitVec.ofNat 32 (s.cf h q 0xDA4)
  let k := bits w 3 1
  let cw := stateBase h q + 0x70
  let s ← if r.src = 2 ∨ r.src = 3 ∨ r.src = 4 ∨ r.src = 6 then s.lawLearnAll h q nu js else .ok s
  let s := if bit w 0 = false ∧ k < p then
      if r.invalid.testBit k then s.fw cw 4 3 0
      else
        let s := s.setSw h q 0x6C (s.sw h q 0x68)
        (s.wr (stateBase h q + 0x68) (Map.get (fun _ => 0) r.raw k)).fw cw 4 3 (satAdd 2 (s.fd cw 4 3) 1)
    else s
  let s := if r.src = 1 ∨ r.src = 4 ∨ r.src = 5 then
      (js.filter (fun j => decide (s.lossOf h q = 0) || decide (2 ≤ j))).foldl (fun t j =>
        t.wr (stateBase h q + heldOff j) (r.pre.getD j 0)) s else s
  let newTab := js.filter (fun j => r.tabBad.testBit j && !s.bt cw (8 + j))
  let newRc := js.filter (fun j => r.rcBad.testBit j && !s.bt cw (12 + j))
  let s := newTab.foldl (fun t j => (t.sb cw (8 + j) true).loopReport h q 0x0510 [j, r.tabPt.getD j 0]) s
  let s := newRc.foldl (fun t j => (t.sb cw (12 + j) true).loopReport h q 0x0512 [j, s.fd (stateBase h q + 0x74) 11 0]) s
  let s := s.sb cw 5 r.known
  let s := s.srcSet h q r.src
  let s := s.fw (stateBase h q + 0x74) 31 16 r.fade
  let s := if js.any (s.rcEn h q) then
      s.fw (stateBase h q + 0x74) 11 0 ((s.fd (stateBase h q + 0x74) 11 0 + 1) % s.rcLen h q) else s
  if 3 ≤ r.src then
    let s := s.fw (stateBase h q + 0x74) 31 16 (satAdd 65535 r.fade 1)
    let a ← s.lawAlpha h q 11 (satAdd 65535 r.fade 1)
    .ok (if f32.le b32one a then s.fadeDone h q else s)
  else .ok s

/-! ### Mirror of the carried block (R396, R397) -/

/-- The 32 words of a slot's carried block. -/
def State.carried (s : State) (h : Half) (q : Nat) : List Word := (List.range 32).map (fun i => s.rg (stateBase h q + 4 * i))
/-- STATUS and ENG_COND follow a carried block that has been put into a slot: FIRST_DUE, the loss condition, and TRIP's
demand where it no longer lasts (R113, R154). -/
def State.carriedShow (s : State) (h : Half) (q : Nat) : State :=
  let s := s.sb (Slot.status h q) 10 (s.bt (stateBase h q + 0x60) 10)
  s.lossShow h q (decide (s.lossOf h q ≠ 0))
/-- Load a carried block. -/
def State.loadCarried (s : State) (h : Half) (q : Nat) (ws : List Word) : State :=
  ((ws.zip (List.range 32)).foldl (fun t e => t.wr (stateBase h q + 4 * e.2) e.1) s).carriedShow h q
/-- The index of the first word in which two blocks differ. -/
def firstDiff : Nat → List Word → List Word → Option Nat
  | i, a :: as, b :: bs => if a = b then firstDiff (i + 1) as bs else some i
  | _, _, _ => none
/-- A STANDBY copy compares an arrived block with its own of the same sample (R397). DEDUCED: note 129. -/
def State.mirrorCompare (s : State) (h : Half) (q : Nat) (ws : List Word) : State :=
  let loop := s.slotLoop h q
  match firstDiff 0 (s.carried h q) ws with
  | none => s
  | some i =>
    let s := ((s.setMapBit (HalfR.mismatchMap h 0) loop true).sat (HalfR.mirrorMismatchCnt h)).raise h 72
    s.report h 0x0D0A 2 loop [(ws.getD 25 0).toNat, 4 * i]
/-- Step 12: the active copy sends its block, a standby copy compares a block that has arrived (R396, R397). -/
def State.mirrorPush (s : State) (h : Half) (q : Nat) : State :=
  let loop := s.slotLoop h q
  if s.bt (slotBase h q) 12 = false then s
  else if s.standby h q then
    match (s.half h).ctl.held.find? (fun e => decide (e.1 = loop)) with
    | some e => if e.2.getD 25 0 = s.rg (stateBase h q + 0x64) then s.mirrorCompare h q e.2 else s
    | none => s
  else if s.mirrorUp && s.runs h.other then
    (s.modHalf h (fun x => { x with ctl := { x.ctl with mirrorTx := x.ctl.mirrorTx ++
      [⟨loop, s.rg (stateBase h q + 0x64), s.carried h q⟩] } })).tally h 0x0A00
  else s
/-- A STANDBY copy takes a held block as its carried block; the first one after its alignment copy aligns it (R397, R412).
DEDUCED: note 129. -/
def State.takeHeld (s : State) (h : Half) (q : Nat) (ws : List Word) : State :=
  let loop := s.slotLoop h q
  let s := (s.loadCarried h q ws).modHalf h (fun x => { x with ctl := { x.ctl with held := Map.del x.ctl.held loop } })
  if (s.half h).ctl.copied.contains loop then s.setMapBit (HalfR.alignedMap h 0) loop true else s
/-- The block held for the STANDBY copy in a slot. -/
def State.heldOf (s : State) (h : Half) (q : Nat) : Option (List Word) :=
  ((s.half h).ctl.held.find? (fun e => decide (e.1 = s.slotLoop h q))).map (·.2)
/-- At its boundary a STANDBY copy takes the held block; without one it keeps its own (R397). -/
def State.mirrorTake (s : State) (h : Half) (q : Nat) : State :=
  if s.standby h q = false ∨ s.bt (slotBase h q) 12 = false then s
  else match s.heldOf h q with
    | some ws => s.takeHeld h q ws
    | none => (s.sat (HalfR.mirrorLateCnt h)).tally h 0x0A02

/-! ### Commit of a slot's unit (R50, R56, R119, R120, R149, R158, R165, R398) -/

/-- The words of a slot's unit whose live values differ between two states: area 0 descriptor, 1 coefficients. -/
def slotChanges (s o : State) (h : Half) (q : Nat) : List (Nat × Nat × Word) :=
  let d := (List.range 64).filterMap (fun i =>
    if s.rg (slotBase h q + 4 * i) = o.rg (slotBase h q + 4 * i) then none else some (0, 4 * i, s.rg (slotBase h q + 4 * i)))
  let c := (List.range 1024).filterMap (fun i =>
    if s.rg (coefBase h q + 4 * i) = o.rg (coefBase h q + 4 * i) then none else some (1, 4 * i, s.rg (coefBase h q + 4 * i)))
  d ++ c
/-- A commit of the LEAD's active copy of a protected loop is forwarded to the partner (R398). -/
def State.forwardCommit (s o : State) (h : Half) (q : Nat) : State :=
  if s.hstate h = 4 ∧ s.standby h q = false ∧ s.bt (slotBase h q) 12 ∧ s.mirrorUp then
    let g := 18 + q / 1024
    let lag := decide (s.now h < Map.get (fun _ => 0) (s.half h).strobeT g + 2000)
    (s.modHalf h (fun x => { x with ctl := { x.ctl with fwdTx := x.ctl.fwdTx ++
      [⟨s.slotLoop h q, lag, slotChanges s o h q⟩] } })).tally h 0x0A03
  else s
/-- What new live values of a slot bring with them; `o` is the state before. -/
def State.slotCommitted (s o : State) (h : Half) (q : Nat) : State :=
  let lim := s.fd (slotBase h q + 8) 9 0 * 100 - 500
  let s := if lim < s.fd (Slot.measReq h q) 31 16 then s.fw (Slot.measReq h q) 31 16 lim else s
  let s := if bits (o.dw h q 0xC) 1 0 = 0 ∧ bits (s.dw h q 0xC) 1 0 ≠ 0 then s.firstDue h q true else s
  let s := if s.bt (slotBase h q + 0x60) 0 = false then s.lossEnd h q 1 else s
  let s := if s.compOn h q = false then s.srcSet h q 0 else s
  let wr := (s.run h q).compWr
  let s := (List.range 4).foldl (fun t j => if wr.testBit j then
    (t.sb (stateBase h q + 0x70) (8 + j) false).sb (stateBase h q + 0x70) (12 + j) false else t) s
  let s := s.modRun h q (fun r => { r with compWr := 0 })
  let changed := (List.range 4).any (fun i => s.dw h q (0x80 + 4 * i) != o.dw h q (0x80 + 4 * i))
  if changed then s.traceClose h q (if bit (s.dw h q 0x80) 0 then 1 else 7) else s
/-- The slot's unit commits (R50): shadows to live values, with everything a commit brings, the recomputation of its engine
(R169), and COMMIT_DONE. -/
def State.commitSlot (s : State) (h : Half) (q : Nat) : State :=
  let u : CUnit := ⟨18 + q / 1024, some h, q⟩
  let o := s
  let s := (((s.copyUnit u).slotCommitted o h q).forwardCommit o h q).recompute h (q / 8)
  ((s.raiseEng h (q / 8) 5).moveSync h q).settle h (18 + q / 1024)
/-- Words that the partner has forwarded commit at the copy's first boundary after their arrival (R398). -/
def State.forwardTake (s : State) (h : Half) (q : Nat) : State :=
  let loop := s.slotLoop h q
  match (s.half h).ctl.fwdWait.find? (fun e => decide (e.1 = loop)) with
  | some e =>
    if (s.half h).snap.reached then s
    else
      let o := s
      let s := s.modHalf h (fun x => { x with ctl := { x.ctl with fwdWait := x.ctl.fwdWait.filter (fun y => decide (y.1 ≠ loop)) } })
      let s := (((s.copyUnit ⟨18 + q / 1024, some h, q⟩).slotCommitted o h q).recompute h (q / 8)).raiseEng h (q / 8) 5
      let s := s.moveSync h q
      if e.2 then s.sat (HalfR.pairLagCnt h) else s
  | none => s
/-- Whether the slot's unit is marked and no snapshot holds it (R65). -/
def State.slotMarked (s : State) (h : Half) (q : Nat) : Bool :=
  s.marked.contains ⟨18 + q / 1024, some h, q⟩ && !(s.half h).snap.reached
/-- A running finish phase has ended: a unit that was marked for commit at a skipped tick commits (R135). -/
def State.waitCommit (s : State) (h : Half) (q : Nat) : State :=
  let w := (s.run h q).cmtWait
  let s := s.modRun h q (fun r => { r with cmtWait := false })
  if w && s.slotMarked h q then s.commitSlot h q else s

/-! ### The phases of a sample (R115, R116) -/

/-- The carried block at a first sample (R125, R150); a source that it turns OFF has changed (R161). -/
def State.firstSample (s : State) (h : Half) (q : Nat) : State :=
  let s := (s.lossEnd h q 0).srcSet h q 0
  let s := s.setSws h q 0 ((List.range 16).map (fun i => s.cf h q (0xAC0 + 4 * i)))
  let s := s.setSws h q 0x40 ((List.range 4).map (fun j => (s.dw h q (0x50 + 4 * j)).toNat))
  let s := s.setSws h q 0x50 [0, 0, 0, 0]
  let s := s.setSws h q 0x68 [0, 0, 0, 0, 0, 0]
  let s := (s.setSw h q 0x60 0).setSw h q 0x64 0
  ((s.wr (Slot.sampleCnt h q) 0).firstDue h q false).modRun h q (fun r => { r with missAct := false })

/-- Whether the miss run calls for MISS_ACTION (R121). -/
def State.missHit (s : State) (h : Half) (q : Nat) : Bool :=
  let lim := s.fd (slotBase h q + 0x18) 7 0
  (s.run h q).missAct || (decide (lim ≠ 0) && decide (lim ≤ s.fd (stateBase h q + 0x60) 7 0))
/-- The records of a state's first sample, by ENTERED (R161). -/
def State.lossRecords (s : State) (h : Half) (q : Nat) : State :=
  if s.bt (stateBase h q + 0x50) 3 = false then s
  else match s.lossOf h q with
    | 2 => s.loopReport h q 0x0502 [s.sw h q 0x58]
    | 3 => s.loopReport h q 0x0505 [if s.fd (stateBase h q + 0x50) 31 16 = 0 then 0 else 1]
    | 4 => s.loopReport h q 0x0506 [s.fd (slotBase h q + 0x18) 15 8]
    | _ => s
/-- The prepare phase starts: the mode in force is fixed (R116, R119, R121, R154). DEDUCED: note 75. -/
def State.startSample (s : State) (h : Half) (q : Nat) : State :=
  let mode := bits (s.dw h q 0xC) 1 0
  let loss := s.lossOf h q
  let act := bits (s.dw h q 0xC) 6 5
  let hit := s.missHit h q
  if mode = 0 then s.modRun h q (fun r => { r with missAct := false })
  else if hit ∧ act = 2 then s.instFault h q 3 0 0 true
  else
    let m := if loss ≠ 0 then 3 else if hit ∧ act = 1 then 3 else mode
    let now := s.now h
    let s := s.lossRecords h q
    let s := if loss = 4 ∧ s.standby h q = false then s.sb (Slot.status h q) 9 true else s
    let s := s.fw (Slot.status h q) 3 2 m
    let s := s.modRun h q (fun r => { r with
      phase := 1
      ready := false
      arrived := 0
      valid := 0
      invalid := 0
      loss := loss
      mode := m
      tick := now
      missAct := false })
    s.tally h (0x0300 + q / 8)

/-- A tick finds the previous sample not yet ended: it is skipped (R135). The skip run of the carried block counts at the
skipped tick itself, as R113 and R135 place it; R118 lets the rest change at a finish only. DESIGN CHOICE: note 159. -/
def State.skipTick (s : State) (h : Half) (q : Nat) : State :=
  let s := (s.sb (Slot.status h q) 8 true).satF (Slot.eventCnt h q) 15 0 1
  let s := (s.satF (stateBase h q + 0x60) 31 16 1).traceClose h q 3
  let s := s.tally h (0x0500 + q / 8)
  let s := if s.slotMarked h q then s.modRun h q (fun r => { r with cmtWait := true }) else s
  if 3 ≤ s.fd (stateBase h q + 0x60) 31 16 then (s.instFault h q 2 0 0 true).waitCommit h q else s

/-- A FAULTED STANDBY copy whose ACTIVE copy runs is restarted by its half (R395). -/
def State.standbyRestarts (s : State) (h : Half) (q : Nat) : Bool :=
  s.standby h q && s.bt (slotBase h q) 12 && s.mirrorUp && decide (s.hstate h.other = 4)
    && (match s.slotOf h.other (s.slotLoop h q) with
      | some p => decide (s.slotState h.other p = 1)
      | none => false)
/-- The steps of R115 at a slot's sample boundary. -/
def State.sampleTick (s : State) (h : Half) (q : Nat) : State :=
  let st := s.slotState h q
  if st = 0 then s
  else if (s.run h q).phase ≠ 0 then s.skipTick h q
  else
    let s := if (s.run h q).roleDue then s.setRole h (s.slotLoop h q) 3 else s
    let s := (s.sb (Slot.status h q) 8 false).modRun h q (fun r => { r with roleDue := false, cmtWait := false })
    let s := if s.slotMarked h q then s.commitSlot h q else s
    let s := s.forwardTake h q
    let s := if st ≠ 2 then s.mirrorTake h q
      else if s.standbyRestarts h q then
        let s := s.slotRestart h q
        (match s.heldOf h q with
        | some ws => s.takeHeld h q ws
        | none => s)
      else s
    let r := s.run h q
    let s := if r.restart then s.slotRestart h q else s
    let s := if r.clear then s.slotClear h q else s
    let s := s.modRun h q (fun r => { r with restart := false, clear := false })
    if s.slotState h q = 2 then s.faultAction h q
    else
      let s := if s.bt (Slot.status h q) 10 ∧ bits (s.dw h q 0xC) 1 0 ≠ 0 then s.firstSample h q else s
      s.startSample h q

/-- The required measurements below p (R120). -/
def State.reqMask (s : State) (h : Half) (q : Nat) : Nat := s.fd (slotBase h q + 0x14) 7 0 % 2 ^ s.pOf h q
/-- Input-ready (R120): a waiting slot enters its critical phase. -/
def State.inputReady (s : State) (h : Half) (q : Nat) : State :=
  s.modRun h q (fun r => { r with ready := true, phase := if r.phase = 2 then 3 else r.phase })
/-- A measurement word reaches the input port of slot `q`; after input-ready it is discarded (R120). DEDUCED: note 75. -/
def State.measArrive (s : State) (h : Half) (q k : Nat) (valid : Bool) (w : Word) : State :=
  let r := s.run h q
  if (r.phase = 1 ∨ r.phase = 2) ∧ r.ready = false ∧ k < 8 then
    let s := s.modRun h q (fun r => { r with
      raw := Map.set (fun _ => 0) r.raw k w
      arrived := r.arrived ||| 2 ^ k
      valid := if valid then r.valid ||| 2 ^ k else r.valid &&& (255 - 2 ^ k) })
    let req := s.reqMask h q
    if req ≠ 0 ∧ (s.run h q).arrived &&& req = req then s.inputReady h q else s
  else s

/-- Steps 1 to 3 end (R116, R120, R133). -/
def State.prepareEnd (s : State) (h : Half) (q : Nat) : State :=
  if (s.run h q).phase ≠ 1 then s
  else match s.lawPrepare h q with
    | .error e => s.instFault h q 1 e.1 e.2 true
    | .ok o =>
      let known := s.posKnown h q
      let pos := BitVec.ofNat 32 (s.posPred h q)
      let s := (s.setSws h q 0x80 o.c).setSws h q 0xA0 o.v
      let bad (f : CompOut → Bool) : Nat := (o.comps.zip (List.range 4)).foldl (fun w e => if f e.1 then w + 2 ^ e.2 else w) 0
      let xs := toWords (s.sws h q 0 (s.nOf h q))
      let s := s.modRun h q (fun r => { r with
        comp := toWords (o.comps.map (·.comp))
        pre := toWords (o.comps.map (·.pre))
        tab := toWords (o.comps.map (·.tab))
        rc := toWords (o.comps.map (·.rc))
        catchU := toWords o.catchU
        src := o.src
        fade := o.fade
        tabBad := bad (·.tabBad)
        tabPt := o.comps.map (·.tabPt)
        rcBad := bad (·.rcBad)
        known := known
        pos := pos
        xh := xs })
      if (s.run h q).ready then
        ((s.sb (Slot.status h q) 7 true).sat (Slot.prepLateCnt h q)).modRun h q (fun r => { r with phase := 3 })
      else
        let s := (s.sb (Slot.status h q) 7 false).modRun h q (fun r => { r with phase := 2 })
        if s.reqMask h q = 0 then s.inputReady h q else s

/-- Steps 4 to 7 end and the command leaves (R116, R123, R137); `lat` is the measured latency in ns and `queue` the
critical phases found queued. A required measurement that is missing counts also where a later step faults (R121). -/
def State.criticalEnd (s : State) (h : Half) (q lat queue : Nat) : State :=
  if (s.run h q).phase ≠ 3 then s
  else
    let ms := s.lawMeasures h q
    let o := s.lawCritical h q ms.nu
    let s := (s.setSws h q 0xB0 ms.y).setSws h q 0xD0 ms.nu
    let s := s.modRun h q (fun r => { r with invalid := ms.invalid })
    let miss := decide (ms.invalid &&& s.reqMask h q ≠ 0)
    let s := s.sb (Slot.status h q) 5 miss
    let s := if miss then s.satF (Slot.eventCnt h q) 31 16 1 else s
    match o with
    | .error e => s.instFault h q 1 e.1 e.2 true
    | .ok o =>
      let e := q / 8
      let coast := decide (3 ≤ (s.run h q).loss)
      let s := s.modRun h q (fun r => { r with
        phase := 4
        u := toWords o.u
        out := toWords o.out
        sent := toWords o.out
        sentCoast := coast })
      let s := s.sendWords h q (o.out.map some) coast
      let s := (o.u.zip (List.range 4)).foldl (fun t x => t.wn (Slot.uOut h q x.2) x.1) s
      let s := s.fw (Slot.satState h q) 11 0 o.flags
      let s := if o.flags = 0 then s else s.satF (Slot.satState h q) 31 16 1
      let l := if lat < 65535 then lat else 65535
      let s := s.fw (Slot.latency h q) 15 0 l
      let s := if s.fd (Slot.latency h q) 31 16 < l then s.fw (Slot.latency h q) 31 16 l else s
      let s := if s.fd (Eng.engLatMax h e) 15 0 < l then s.fw (Eng.engLatMax h e) 15 0 l else s
      let s := if s.fd (Eng.queueMax h e) 3 0 < queue then s.fw (Eng.queueMax h e) 3 0 queue else s
      let lim := s.fd (Eng.engCtrl h e) 15 0
      if (if lim = 0 then 1200 else lim) < lat then (s.sat (Eng.engLatOverCnt h e)).tally h (0x0700 + e) else s

/-- The finish phase as a computation (steps 8 to 11 in order, R118, R127): the new carried block and tables. -/
def State.lawFinish (s : State) (h : Half) (q : Nat) : LawM State := do
  let r := s.run h q
  let p := s.pOf h q
  let us := r.u.map (·.toNat)
  let nu := s.sws h q 0xD0 p
  let xs := s.sws h q 0 (s.nOf h q)
  let xn ← s.lawUpdate h q us nu (decide (r.mode = 3) || decide (r.loss ≠ 0))
  let e ← s.lawNorm h q nu
  let wi := (List.range p).any (fun i => r.invalid.testBit i && decide (flush32 (s.cf h q (0xD40 + 4 * i)) % 2 ^ 31 ≠ 0))
  let s := s.modRun h q (fun r => { r with e := BitVec.ofNat 32 e })
  let s ← s.lossTest h q r.loss e wi xs
  let s ← s.compFinish h q nu
  let s := ((s.setSws h q 0xF0 xn).setSws h q 0 xn).setSws h q 0x40 us
  let miss := r.invalid &&& s.reqMask h q
  let run := if miss = 0 then 0 else satAdd 255 (s.fd (stateBase h q + 0x60) 7 0) 1
  let s := s.setSw h q 0x60 (run + r.mode * 256)
  .ok ((s.inc (stateBase h q + 0x64)).inc (Slot.sampleCnt h q))

/-- The finish phase ends (R116, R118, R135): carried block, trace, mirror, and a commit that waited. -/
def State.finishEnd (s : State) (h : Half) (q : Nat) : State :=
  if (s.run h q).phase ≠ 4 then s
  else match s.lawFinish h q with
    | .error e => (s.instFault h q 1 e.1 e.2 false).waitCommit h q
    | .ok t =>
      let cnt := s.rg (Slot.sampleCnt h q)
      let cost := s.sampleCost h q
      let t := (t.wn (Eng.slotCost h (q / 8) (q % 8)) cost).busyAdd h (q / 8) cost
      let now := t.now h
      let t := ((t.traceRecord h q cnt).mirrorPush h q).modRun h q (fun r => { r with
        phase := 0
        ready := false
        endT := some now })
      let t := if (List.range (t.mOf h q)).any (t.rcEn h q) then t.moveSync h q else t
      t.waitCommit h q

end Sys2Proof.Machine
end

