-- ==== Sys2Proof/Machine/HalfOps.lean ====
section
/-! DEFINITION. Shared operations of the HALF block: claims, half states, self-fault causes, an abandoned switch, and the
roles and slot states of copies (R383-R413). -/
namespace Sys2Proof.Machine

/-- Change the HALF block's state of half `h`. -/
def State.modCtl (s : State) (h : Half) (f : HalfCtl → HalfCtl) : State :=
  s.modHalf h (fun x => { x with ctl := f x.ctl })

/-- A half claims every group or none (R383); CLAIM_SENT shows the vector it sends. -/
def State.setClaims (s : State) (h : Half) (b : Bool) : State :=
  let s := s.modCtl h (fun x => { x with claims := b })
  (List.range 4).foldl (fun t w => t.wn (HalfR.claimSent h w) (if b then 0xFFFFFFFF else 0)) s

/-- HALF_STATUS.REDUNDANT: this half is LEAD and its partner STANDBY. -/
def State.redundantShow (s : State) (h : Half) : State :=
  s.sb (HalfR.halfStatus h) 4 (decide (s.hstate h = 4) && decide (s.partner h = 3))

/-- HALF_STATUS.STATE becomes `n` (R392); leaving ISOLATED is recorded. -/
def State.setHState (s : State) (h : Half) (n : Nat) : State :=
  let o := s.hstate h
  if o = n then s
  else
    let s := (s.fw (HalfR.halfStatus h) 2 0 n).redundantShow h
    if o = 5 then s.report h 0x0D08 1 h.num [] else s

/-- START_DONE, once after each reset, when the half first becomes LEAD or STANDBY (R578, R591). -/
def State.startDone (s : State) (h : Half) : State :=
  let b := (s.half h).boot
  if b.started then s
  else
    let ms := (s.half h).time.ticks / 250000
    (s.modHalf h (fun x => { x with boot := { x.boot with started := true } })).report h 0x1602 1 h.num [ms]
/-- Every alignment is lost (R392, R412): the bits clear, and nothing counts as copied. -/
def State.unalignAll (s : State) (h : Half) : State :=
  let mapped (a : Nat) : Bool := decide (HalfR.alignedMap h 0 ≤ a) && decide (a < HalfR.alignedMap h 128)
  let s := { s with live := Map.clearIf mapped s.live }
  let now := s.now h
  (s.wr (HalfR.alignStatus h) 0).modCtl h (fun x => { x with
    copied := []
    tasksCopied := []
    held := []
    joinT := now })
/-- Whether the halves' firmware releases have the same major number (R585). -/
def State.majorsEqual (s : State) (h : Half) : Bool := decide (s.fd (Mod.idFw h) 15 8 = s.fd (Mod.idFw h.other) 15 8)
/-- The half becomes JOINING with no alignment (R392, R412); a partner of another major release is recorded (R585). -/
def State.goJoining (s : State) (h : Half) : State :=
  let s := (s.setHState h 2).unalignAll h
  if s.majorsEqual h ∨ s.runs h.other = false then s
  else s.report h 0x1607 1 h.num [s.fd (Mod.idFw h) 15 0, s.fd (Mod.idFw h.other) 15 0]
/-- A planned switch ends without a switch (R410): ABORTED counts, source 70 and the record with its cause. A STANDBY half
that had claimed withdraws. -/
def State.switchAborted (s : State) (h : Half) (cause : Nat) : State :=
  let s := if (s.half h).ctl.resetAfterSwitch then s.fw (Mod.resetStatus h) 1 0 1 else s
  let s := s.modCtl h (fun x => { x with plan := none, takebackReq := false, takeFrom := none, resetAfterSwitch := false })
  let s := s.sb (HalfR.halfStatus h) 8 false
  let s := if s.hstate h = 4 then s else s.setClaims h false
  ((s.satF (HalfR.switchCnt h) 31 24 1).raise h 70).report h 0x0D04 1 h.num [cause]
/-- A planned switch that has not come to T is abandoned (R410). -/
def State.abandonPlan (s : State) (h : Half) (cause : Nat) : State :=
  match (s.half h).ctl.plan with
  | some p => if p.atT then s else s.switchAborted h cause
  | none => s

/-- A self-fault cause arises or ends (R403): 0 LOOP, 1 DECK_LINK, 2 TIME, 3 SUPPLY. -/
def State.selfFaultSet (s : State) (h : Half) (cause : Nat) (on : Bool) : State :=
  if s.bt (HalfR.selfFault h) cause = on then s
  else
    let s := s.sb (HalfR.selfFault h) cause on
    if on = false then s
    else
      let wd := decide (s.hstate h = 4) && decide (s.partner h = 3)
      let s := s.abandonPlan h 1
      let s := if wd then s.setClaims h false else s
      s.report h 0x0D0B 1 h.num [cause, wd.toNat]

/-- STATUS.SLOT_STATE and the engine's OCCUPIED bit (R105). -/
def State.setSlotState (s : State) (h : Half) (q n : Nat) : State :=
  (s.fw (Slot.status h q) 1 0 n).sb (Eng.engStatus h (q / 8)) (8 + q % 8) (decide (n ≠ 0))
/-- Whether the copy in slot `q` is STANDBY: its STANDBY bit and OUT_SUPPRESSED (R106, R404). -/
def State.setStandby (s : State) (h : Half) (q : Nat) (b : Bool) : State :=
  (s.sb (Eng.engStatus h (q / 8)) (16 + q % 8) b).sb (Slot.status h q) 4 b
/-- A slot becomes EMPTY: its conditions and its demand end (R129). -/
def State.emptySlot (s : State) (h : Half) (q : Nat) : State :=
  let s := (((s.setSlotState h q 0).setStandby h q false).engCond h q 0 false).engCond h q 8 false
  let s := s.sb (Slot.status h q) 9 false
  s.modRun h q (fun r => { packets := r.packets })
/-- The role of a copy that runs: an unprotected copy is ACTIVE, a protected one follows its half (R383, R385). -/
def State.roleOf (s : State) (h : Half) (prot : Bool) : Nat := if prot ∧ s.hstate h ≠ 4 then 2 else 1

/-- The copy of a loop loses its alignment (R395, R412): a STANDBY half becomes JOINING. -/
def State.unalign (s : State) (h : Half) (loop : Nat) : State :=
  let s := s.setMapBit (HalfR.alignedMap h 0) loop false
  let s := s.modCtl h (fun x => { x with copied := x.copied.filter (· != loop) })
  if s.hstate h = 3 then (s.setHState h 2).modCtl h (fun x => { x with joinT := s.now h }) else s

end Sys2Proof.Machine
end

