-- ==== Sys2Proof/Machine/PlaceOps.lean ====
section
/-! DEFINITION. Shared operations of placement: what fits an engine, the placer, moves, lost and displaced copies
(R168-R190). Slots are numbered as R36 says; the records are those of R191. -/
namespace Sys2Proof.Machine

/-! ### What fits an engine (R168) -/

/-- R168 for a set on engine `e`; `strict`: with the prepare test. -/
def fits (e : Nat) (l : List Inst) (strict : Bool) : Bool :=
  decide (l.length ≤ 8) && loadOk l && l.all (fun i => i.pwr == pwrEngine e) && (!strict || prepareAll l)

/-! ### The placer (R173, R174) -/

/-- Whether an engine is in service (R185) and not stopped (ENG_CTRL.STOP). -/
def State.engUsable (s : State) (h : Half) (e : Nat) : Bool :=
  !s.mapBit (Mod.plcOos h 0) e && !s.bt (Eng.engStatus h e) 0
/-- Whether PLC_SLABS allows the slab of engine `e`; it does not apply to power-management loops (R172). -/
def State.slabAllowed (s : State) (h : Half) (rec : Word) (pwr : Bool) (e : Nat) : Bool :=
  let m := if h = .a then bits rec 3 0 else bits rec 11 8
  pwr || decide (m = 0) || m.testBit (e / 128)
/-- The lowest-numbered EMPTY slot of an engine. -/
def State.freeSlot (s : State) (h : Half) (e : Nat) : Option Nat :=
  ((List.range 8).find? (fun i => decide (s.slotState h (8 * e + i) = 0))).map (fun i => 8 * e + i)
/-- The best engine of a list: lowest load after the addition, then lowest number. -/
def bestEng : List (Nat × Nat) → Option (Nat × Nat)
  | [] => none
  | x :: l => match bestEng l with
    | none => some x
    | some y => if x.2 < y.2 ∨ (x.2 = y.2 ∧ x.1 ≤ y.1) then some x else some y
/-- The engine that R173 chooses for an instance, with the load after the addition; `skip` is an engine left out. -/
def State.chooseEng (s : State) (h : Half) (i : Inst) (slabs : Word) (skip : Nat) (strict : Bool) : Option (Nat × Nat) :=
  bestEng ((List.range 512).filterMap (fun e =>
    if e ≠ skip ∧ pwrEngine e = i.pwr ∧ s.engUsable h e ∧ s.mapBit (Mod.plcExcluded h 0) e = false
        ∧ s.slabAllowed h slabs i.pwr e ∧ (s.freeSlot h e).isSome then
      let l := s.engInsts h e
      if fits e (l ++ [i]) strict then some (e, loadSum l + i.load) else none
    else none))
/-- R173, and R174 where only the prepare test stands against every candidate: the slot. -/
def State.choosePlace (s : State) (h : Half) (i : Inst) (slabs : Word) : Option Nat :=
  match s.chooseEng h i slabs 512 true with
  | some x => s.freeSlot h x.1
  | none => match s.chooseEng h i slabs 512 false with
    | some x => s.freeSlot h x.1
    | none => none

/-- EXCLUDED of an engine, in both its registers. DEDUCED: note 144. -/
def State.setExcluded (s : State) (h : Half) (e : Nat) (b : Bool) : State :=
  (s.setMapBit (Mod.plcExcluded h 0) e b).sb (Mod.plcEngLoad h e) 30 b

/-! ### Copying a slot from the other half or from a region (R94, R186, R412) -/

/-- The same from the other half's live views alone (R186, R412); the slot's own state, suppression and demand stay its
own (R106). -/
def State.copyPartner (s : State) (g : Half) (src : Nat) (h : Half) (dst : Nat) : State :=
  let st := s.rg (Slot.status h dst)
  let s := s.copyLive (slotBase g src) (slotBase h dst) 0x100
  let s := (s.copyLive (coefBase g src) (coefBase h dst) 0x1000).copyLive (tableBase g src) (tableBase h dst) 0x4000
  let s := (s.reloadShadow (slotBase h dst) 0x100).reloadShadow (coefBase h dst) 0x1000
  (((s.fw (Slot.status h dst) 1 0 (bits st 1 0)).sb (Slot.status h dst) 4 (bit st 4)).sb (Slot.status h dst) 9 (bit st 9)).carriedShow h dst
/-- The bytes of an address range `n` long go back to their reset values, live and shadow. -/
def State.clearRange (s : State) (a n : Nat) : State :=
  let p := fun k => decide (a ≤ k) && decide (k < a + n)
  { s with live := Map.clearIf p s.live, shadow := Map.clearIf p s.shadow }
/-- The words of a LOOP region go into a slot: live values, and shadows reloaded from them (R94, R112). -/
def State.regionToSlot (s : State) (h : Half) (q loop : Nat) (c : RegCopy) : State :=
  let s := (List.range 36).foldl (fun t i =>
    (t.wr (slotBase h q + 4 * i) (c.descWord loop (4 * i))).wrSh (slotBase h q + 4 * i) (c.descWord loop (4 * i))) s
  let s := (s.clearRange (coefBase h q) 0x1000).clearRange (tableBase h q) 0x4000
  c.words.foldl (fun t e =>
    if 0x10000 ≤ e.1 ∧ e.1 < 0x11000 then
      (t.wr (coefBase h q + (e.1 - 0x10000)) e.2).wrSh (coefBase h q + (e.1 - 0x10000)) e.2
    else if 0x20000 ≤ e.1 ∧ e.1 < 0x24000 then t.wr (tableBase h q + (e.1 - 0x20000)) e.2
    else t) s

/-! ### The loop map, moves and commands (R38, R39, R181) -/

/-- A copy of a loop stands in slot `q`: SLOT and ROLE, and one more placement in GEN (R38). -/
def State.mapPlace (s : State) (h : Half) (loop q role : Nat) : State :=
  let a := loopMapAt h loop
  ((s.fw a 12 0 (q + 4096 * h.num)).fw a 17 16 role).fw a 31 24 (s.fd a 31 24 + 1)
/-- PLC_CMD_STATUS.BUSY clears with a result (R190). -/
def State.plcEnd (s : State) (h : Half) (result : Nat) : State :=
  ((((s.modPlace h (fun p => { p with cmd := none })).sb (Mod.plcCmdStatus h) 0 false).fw (Mod.plcCmdStatus h) 3 1 result).fw
    (Mod.plcCmdStatus h) 15 8 0).raise h 14
/-- The command that runs, after a move of `loop` from slot `src` has ended (0) or been abandoned (5). -/
def State.plcAfter (s : State) (h : Half) (loop src result : Nat) : State :=
  match (s.half h).place.cmd with
  | some (1, l) => if l = loop then s.plcEnd h result else s
  | some (2, e) =>
    if src / 8 ≠ e then s
    else
      let left := ((List.range 8).filter (fun i => s.slotState h (8 * e + i) = 1 || s.slotState h (8 * e + i) = 2)).length
      let s := s.fw (Mod.plcCmdStatus h) 15 8 left
      if (s.half h).place.moves.any (fun m => decide (m.src / 8 = e)) then s
      else s.plcEnd h (if left = 0 then 0 else if result = 0 then 1 else result)
  | _ => s
/-- A move starts: its target is reserved (R181 step 1). -/
def State.moveStart (s : State) (h : Half) (loop src dst cause : Nat) : State :=
  let s := (s.setSlotState h dst 3).modPlace h (fun p => { p with moves := p.moves ++ [⟨loop, src, dst, cause, false, 0⟩] })
  s.recompute h (dst / 8)
/-- A move is abandoned by `event` (R181, R183): the target is EMPTY again and the source carries on. Events: 0 no
boundary within 16, 1 CMT_HOLD or PIN, 2 source engine fault, 3 target engine fault, 4 region removed.
DEDUCED: note 143. -/
def State.moveAbandon (s : State) (h : Half) (m : Move) (event : Nat) : State :=
  let s := s.modPlace h (fun p => { p with moves := p.moves.filter (· != m) })
  let s := if s.slotState h m.dst = 3 then s.emptySlot h m.dst else s
  let s := ((s.recompute h (m.dst / 8)).satF (Mod.plcMoveCnt h) 31 24 1).report h 0x0602 2 m.loop [m.cause, event]
  s.plcAfter h m.loop m.src 5
/-- The number of a loop's slot as records and the loop map name it. -/
def slotNum (h : Half) (q : Nat) : Nat := q + 4096 * h.num
/-- A move has reached its boundary: loop map, counts, record and source MIGRATION_DONE (R181 step 4). -/
def State.moveDone (s : State) (h : Half) (loop src dst cause role : Nat) : State :=
  let now := s.now h
  let s := (s.mapPlace h loop dst role).modPlace h (fun p => { p with
    lastMove := Map.set (fun _ => 0) p.lastMove loop (now + 1) })
  let s := s.fw (Mod.plcMoveCnt h) 23 0 (s.fd (Mod.plcMoveCnt h) 23 0 + 1)
  (s.raiseEng h (dst / 8) 4).report h 0x0601 2 loop [cause, slotNum h src, slotNum h dst]

/-- The dirty and commit marks of one unit go over to another (R56). -/
def State.moveMarks (s : State) (u v : CUnit) : State :=
  let f (l : List CUnit) : List CUnit := (l.filter (· != v)).map (fun x => if x = u then v else x)
  { s with dirty := f s.dirty, marked := f s.marked }
/-- The commit unit of a slot. -/
def slotUnit (h : Half) (q : Nat) : CUnit := ⟨18 + q / 1024, some h, q⟩

/-- At the tick of B (R181): a marked unit commits first, then the copy goes over with its carried block, and the source
becomes EMPTY. DEDUCED: note 78. -/
def State.migrate (s : State) (h : Half) (m : Move) : State :=
  let held := (s.half h).snap.reached
  let s := if s.slotMarked h m.src then s.commitSlot h m.src else s
  let s := s.traceClose h m.src 2
  let st := s.slotState h m.src
  let sb := s.standby h m.src
  let role := s.fd (loopMapAt h m.loop) 17 16
  let r := s.run h m.src
  let s := (s.copySlot h m.src h m.dst).copyLive (stateBase h m.src) (stateBase h m.dst) 0x80
  let s := s.moveMarks (slotUnit h m.src) (slotUnit h m.dst)
  let s := (s.settle h (18 + m.src / 1024))
  let s := if s.marked.contains (slotUnit h m.dst) then s.setPend h (18 + m.dst / 1024) true else s
  let s := (s.setSlotState h m.dst st).setStandby h m.dst sb
  let s := (s.engCond h m.dst 0 (decide (st = 2))).engCond h m.dst 8 (s.bt (Slot.status h m.dst) 6)
  let s := s.modRun h m.dst (fun x => { r with packets := x.packets, gap := 0 })
  let s := ((s.emptySlot h m.src).reloadShadow (slotBase h m.src) 0x100).reloadShadow (coefBase h m.src) 0x1000
  let s := s.modPlace h (fun p => { p with moves := p.moves.filter (· != m) })
  let s := s.moveDone h m.loop m.src m.dst m.cause role
  let s := if held then s.sb (Mod.snapStatus h) 4 true else s
  (((s.recompute h (m.src / 8)).recompute h (m.dst / 8)).plcAfter h m.loop m.src 0)

/-- Whether the source's finish phase ended the final-transfer time before B: 250 ns within a slab, 500 ns between slabs
(R181). -/
def State.moveReady (s : State) (h : Half) (m : Move) : Bool :=
  decide ((s.run h m.src).phase = 0) && (match (s.run h m.src).endT with
    | some t => decide (t + (if m.src / 1024 = m.dst / 1024 then 250 else 500) ≤ s.now h)
    | none => true)
/-- A boundary that does not meet the final-transfer time (R181). -/
def State.moveMissed (s : State) (h : Half) (m : Move) : State :=
  s.modPlace h (fun p => { p with moves := p.moves.map (fun x => if x = m then { m with tries := m.tries + 1 } else x) })
/-- The move of a loop under way. -/
def State.moveOf (s : State) (h : Half) (loop : Nat) : Option Move :=
  (s.half h).place.moves.find? (fun m => decide (m.loop = loop))

/-! ### Lost and displaced copies (R185-R188) -/

/-- The LOOP cause of R403 follows the list of lost active protected copies. DEDUCED: note 131. -/
def State.selfLostShow (s : State) (h : Half) : State := s.selfFaultSet h 0 (decide ((s.half h).place.selfLost ≠ []))
/-- An active protected copy is reported as a loop self-fault (R187, R188). DEDUCED: note 131. -/
def State.selfLose (s : State) (h : Half) (loop : Nat) : State :=
  (s.modPlace h (fun p => { p with selfLost := if p.selfLost.contains loop then p.selfLost else p.selfLost ++ [loop] })).selfLostShow h
/-- A reported copy runs again, or its region is undefined (R403). -/
def State.selfFound (s : State) (h : Half) (loop : Nat) : State :=
  (s.modPlace h (fun p => { p with selfLost := p.selfLost.filter (· != loop) })).selfLostShow h
/-- Whether a loop's active placement record makes it protected. -/
def State.isProtected (s : State) (h : Half) (loop : Nat) : Bool := bit (s.plcWord h loop 0) 0
/-- A lost copy finds no slot: it is displaced (R188). -/
def State.displace (s : State) (h : Half) (l : LostCopy) : State :=
  if s.mapBit (Mod.plcDisplaced h 0) l.loop then s
  else
    let s := (s.setMapBit (Mod.plcDisplaced h 0) l.loop true).setRole h l.loop 3
    let s := s.setMapBit (Mod.plcPrepRisk h 0) l.loop false
    let s := s.report h 0x0603 2 l.loop [if l.active then 1 else 2, l.evicted.toNat]
    if l.active ∧ s.isProtected h l.loop then s.selfLose h l.loop else s
/-- The instance of a lost copy, by its active region or by the slot it last had. -/
def State.lostInst (s : State) (h : Half) (l : LostCopy) : Inst := match s.loopRegion h l.loop with
  | some c => mkInst l.loop (c.descWord l.loop) (c.loopWord 0x3000C).toNat
  | none => mkInst l.loop (s.dw h l.src) (s.plcWord h l.loop 0xC).toNat
/-- Priority before loop number (R174, R188). -/
def State.prioKey (s : State) (h : Half) (loop : Nat) : Nat := bits (s.plcWord h loop 0) 11 8 * 4096 + loop
/-- The STANDBY copy that an active copy evicts (R188): lowest priority, then highest loop number, of those whose slot
makes an engine that meets R168. -/
def State.evictee (s : State) (h : Half) (i : Inst) (slabs : Word) : Option Nat :=
  let c := (List.range 4096).filter (fun q =>
    decide (s.slotState h q = 1) && s.standby h q && (pwrEngine (q / 8) == i.pwr) && s.engUsable h (q / 8)
      && !s.mapBit (Mod.plcExcluded h 0) (q / 8) && s.slabAllowed h slabs i.pwr (q / 8)
      && fits (q / 8) ((s.engInsts h (q / 8)).filter (fun x => x.loop != s.slotLoop h q) ++ [i]) true)
  c.foldl (fun b q => match b with
    | none => some q
    | some k => if s.prioKey h (s.slotLoop h k) < s.prioKey h (s.slotLoop h q) then some q else some k) none
/-- A slot is taken from a STANDBY copy, which becomes displaced (R188). -/
def State.evict (s : State) (h : Half) (q : Nat) : State :=
  let loop := s.slotLoop h q
  let l : LostCopy := {
    loop := loop
    src := q
    dst := none
    active := false
    state := 1
    engine := false
    clean := false
    block := false
    prefer := none
    evicted := true
    detect := s.now h
    tick := some (s.run h q).tick
    regionNew := false
    sizeNew := false
    demand := none }
  let s := match (s.half h).place.moves.find? (fun m => decide (m.src = q)) with
    | some m => s.moveAbandon h m 2
    | none => s
  let s := s.traceClose h q 2
  let s := { s with dirty := s.dirty.filter (· != slotUnit h q), marked := s.marked.filter (· != slotUnit h q) }
  let s := ((s.settle h (18 + q / 1024)).emptySlot h q).modPlace h (fun p => { p with lost := p.lost ++ [l] })
  ((s.displace h l).unalign h loop).recompute h (q / 8)
/-- The target that a move had reserved for a copy, if it is still free and still meets R168 (R183). -/
def State.preferred? (s : State) (h : Half) (l : LostCopy) (i : Inst) : Option Nat :=
  l.prefer.filter (fun q => decide (s.slotState h q = 0) && s.engUsable h (q / 8) && fits (q / 8) (s.engInsts h (q / 8) ++ [i]) true)
/-- A waiting copy looks for a slot (R173, R174, R183, R188): reserved, or displaced. -/
def State.placeLost (s : State) (h : Half) (l : LostCopy) : State :=
  let i := s.lostInst h l
  let slabs := s.plcWord h l.loop 0x10
  let take (t : State) (q : Nat) : State :=
    let t := (t.setSlotState h q 3).modPlace h (fun p => { p with
      lost := p.lost.map (fun x => if x.loop = l.loop then { x with dst := some q } else x) })
    t.recompute h (q / 8)
  match (s.preferred? h l i).or (s.choosePlace h i slabs) with
  | some q => take s q
  | none => match if l.active then s.evictee h i slabs else none with
    | some q => take (s.evict h q) q
    | none => s.displace h l
/-- Every copy without a slot looks for one, `key` giving the order. -/
def State.placeAll (s : State) (h : Half) (key : LostCopy → Nat) : State :=
  let w := sortBy (fun x y => decide (key x ≤ key y)) ((s.half h).place.lost.filter (fun l => l.dst.isNone))
  w.foldl (fun t l => t.placeLost h l) s
/-- The order of R188: active copies first, then by PRIORITY and loop number. -/
def State.lostKey (s : State) (h : Half) (l : LostCopy) : Nat := (if l.active then 0 else 2 ^ 17) + s.prioKey h l.loop

/-- An engine goes out of service (R185); `clean` names the slots whose descriptor, coefficient area and table share (bits
0-7) and whose carried block (bits 8-15) read without a double-bit error (R186), `engine` says that it is an engine fault. Its
copies are lost and its moves abandoned. An asserted half-demand stays asserted. DEDUCED: note 79. -/
def State.engineOut (s : State) (h : Half) (e clean : Nat) (engine : Bool) : State :=
  if s.mapBit (Mod.plcOos h 0) e then s
  else
    let s := ((s.sb (Eng.engStatus h e) 2 true).sb (Eng.engCond h e) 16 true).setMapBit (Mod.plcOos h 0) e true
    let now := s.now h
    let s := match s.engPacket h e with
      | some p => s.trayClosePkt h p true
      | none => s
    (List.range 8).foldl (fun (t : State) (i : Nat) =>
      let q := 8 * e + i
      let st := t.slotState h q
      let loop := t.slotLoop h q
      if st = 0 then t
      else if st = 3 then
        match (t.half h).place.moves.find? (fun m => decide (m.dst = q)) with
        | some m => t.moveAbandon h m 3
        | none => t.modPlace h (fun p => { p with
            plan := p.plan.filter (fun e => e.2 != q)
            lost := p.lost.map (fun l => if l.dst = some q then { l with dst := none } else l) })
      else
        let mv := (t.half h).place.moves.find? (fun m => decide (m.src = q))
        let t : State := match mv with
          | some m => t.moveAbandon h m 2
          | none => t
        let act : Bool := !t.standby h q
        let dem := if act && t.bt (Slot.status h q) 9 then some (t.fd (slotBase h q + 0x18) 15 8) else none
        let l : LostCopy := {
          loop := loop
          src := q
          dst := none
          active := act
          state := st
          engine := engine
          clean := clean.testBit i
          block := clean.testBit (8 + i)
          prefer := mv.map (·.dst)
          evicted := false
          detect := now
          tick := some (t.run h q).tick
          regionNew := false
          sizeNew := false
          demand := dem }
        let t := t.modRun h q (fun r => { r with phase := 0, ready := false })
        let t := t.modPlace h (fun p => { p with lost := p.lost ++ [l] })
        let t : State := { t with dirty := t.dirty.filter (· != slotUnit h q), marked := t.marked.filter (· != slotUnit h q) }
        let t := t.settle h (18 + q / 1024)
        if act then
          (if t.isProtected h loop && (!engine || decide (60 < t.fd (Slot.timing h q) 9 0)) then t.selfLose h loop else t)
        else t.unalign h loop) s

/-- The partner's slot of a protected loop, when its copy runs and can be reached (R186). DEDUCED: note 81. -/
def State.partnerSlot (s : State) (h : Half) (loop : Nat) : Option Nat :=
  if s.isProtected h loop ∧ s.mirrorUp ∧ s.runs h.other then
    match s.slotOf h.other loop with
    | some q => if s.slotState h.other q = 1 ∧ s.mapBit (Mod.plcOos h.other 0) (q / 8) = false then some q else none
    | none => none
  else none

/-- What a re-placed copy runs with (R186): its descriptor, coefficients and table from the faulted engine where they read
clean, else from the partner's live views, else from the active region. -/
def State.resumeWords (s : State) (h : Half) (l : LostCopy) (q : Nat) (pq : Option Nat) (src : Nat) : State :=
  if src ≠ 3 ∧ l.engine ∧ l.clean then s.copySlot h l.src h q
  else match pq with
    | some k => s.copyPartner h.other k h q
    | none => (s.clearRange (slotBase h q) 0x100).clearRange (stateBase h q) 0x80
/-- The carried block, and the run's words last sent, of a re-placed copy: the partner's or its own (R186); none for a first
sample. -/
def State.resumeBlock (s : State) (h : Half) (l : LostCopy) (q : Nat) (pq : Option Nat) (src : Nat) : State :=
  let from' (t : State) (g : Half) (k : Nat) : State :=
    let r := s.run g k
    (t.copyLive (stateBase g k) (stateBase h q) 0x80).modRun h q (fun x => { x with sent := r.sent, sentCoast := r.sentCoast })
  let s := s.modRun h q (fun r => { packets := r.packets })
  if src = 3 then s.clearRange (stateBase h q) 0x80
  else match pq with
    | some k => from' s h.other k
    | none => from' s h l.src
/-- A re-placed copy resumes in its new slot (R186, R187), from the partner (1), its faulted engine (2) or its active region
(3); a region that committed since the fault gives the words and the record. The demand that it asserted passes to the new
slot's own conditions (R185). A copy that never had a place lost no samples and did not move. DEDUCED: notes 81, 160. -/
def State.resume (s : State) (h : Half) (l : LostCopy) (q : Nat) : State :=
  let pq := s.partnerSlot h l.loop
  let src := if pq.isSome then 1 else if l.engine && l.clean && l.block then 2 else 3
  let first := decide (src = 3) || l.sizeNew
  let t := (s.resumeWords h l q pq src).resumeBlock h l q pq src
  let prot := t.isProtected h l.loop
  let role := t.roleOf h prot
  let t := (t.setSlotState h q l.state).setStandby h q (decide (role = 2))
  let trip := l.demand.isSome && decide (l.state = 2)
  let t := (t.sb (Slot.status h q) 9 false).modRun h q (fun r => { r with faultDem := trip })
  let t := t.carriedShow h q
  let t := if role ≠ 2 ∧ (trip ∨ (t.lossOf h q = 4 ∧ l.demand.isSome)) then t.sb (Slot.status h q) 9 true else t
  let o := t
  let t := match s.loopRegion h l.loop with
    | some c => if l.regionNew ∨ src = 3 then (t.regionToSlot h q l.loop c).slotCommitted o h q else t
    | none => t
  let t := t.firstDue h q (first || t.bt (Slot.status h q) 10)
  let per := t.fd (Slot.timing h q) 9 0 * 1000
  let lost := match l.tick with
    | some k => if per = 0 then 0 else (s.now h - k) / per - 1
    | none => 0
  let t := (t.engCond h q 0 (decide (l.state = 2))).satF (Slot.eventCnt h q) 15 0 lost
  let t := t.modPlace h (fun p => { p with lost := p.lost.filter (fun x => x.loop != l.loop) })
  let t := t.setMapBit (Mod.plcDisplaced h 0) l.loop false
  let shown := if l.state = 2 then 3 else role
  let t := if l.tick.isSome then t.moveDone h l.loop l.src q 3 shown else t.mapPlace h l.loop q shown
  let t := t.report h 0x0604 2 l.loop [src, lost]
  let t := if first then t.imgReport h 0x14 (2 + l.loop) 0x10 0 0 0 0 (t.rd64 (Mod.imgActiveIdLo h)) else t
  let t := if (t.half h).snap.reached then t.sb (Mod.snapStatus h) 4 true else t
  (t.selfFound h l.loop).recompute h (q / 8)

end Sys2Proof.Machine
end

