-- ==== Sys2Proof/Machine/RegionOps.lean ====
section
/-! DEFINITION. Shared operations of the image's regions: where a region's words lie, the words a held copy gives, and the
end of a region's commit (R78, R81, R93, R94, R97). -/
namespace Sys2Proof.Machine

/-- Change the loader's state of half `h`. -/
def State.modImg (s : State) (h : Half) (f : ImgSt → ImgSt) : State := s.modHalf h (fun x => { x with img := f x.img })

/-- The register (below the half bit) that lies at an offset of a region space, where the region's words are registers
(R81). -/
def regionAddr (ty idx off : Nat) : Option Nat :=
  match ty with
  | 0x01 => some (if off < 0x10000 then off else 0x200000 + (off - 0x10000))
  | 0x02 => some (0x20000 + off)
  | 0x20 => some (0x1000000 + 0x400 * idx + off)
  | 0x21 => some (0x1100000 + 0x800 * idx + off)
  | 0x22 => some (if off < 0x800 then 0x1180000 + 0x800 * idx + off else 0x1190000 + 0x100 * idx + (off - 0x800))
  | 0x23 => some (0x1300000 + 0x1000 * idx + off)
  | 0x24 => some (0x1200000 + 0x4000 * idx + off)
  | 0x40 => some (0x400000 + off)
  | 0x50 => if off < 0x10000 then some (0xC00000 + 0x1000 * idx + off) else none
  | 0x60 => if off < 0x40 then some (0x2001000 + 0x40 * idx + off) else none
  | 0x70 => some (0x1400000 + off)
  | 0x80 => some (0x800000 + off)
  | 0x90 => some (0x1500000 + off)
  | _ => none
/-- What a word of region `r` holds at reset (R82). -/
def regionReset (straps r off : Nat) : Word :=
  let x := regionOf r
  if x.1 = 0x10 then loopDefault off
  else match regionAddr x.1 x.2 off with
    | some a => resetWord straps a
    | none => 0
/-- A word of a held copy of region `r`. -/
def RegCopy.word (c : RegCopy) (straps r off : Nat) : Word := Map.get (regionReset straps r) c.words off

/-! ### The form of a copy and of a stored image (R74-R80, R91, R99) -/

/-- A contiguous range as runs of at most 16,384 words: region-space offset and word count. DEDUCED: note 44. -/
def splitRange (start : Nat) : Nat → Nat → List (Nat × Nat)
  | 0, _ => []
  | _, 0 => []
  | n + 1, words => (start, if words < 16384 then words else 16384) :: splitRange (start + 65536) n (words - 16384)
/-- The words of a range of region `r` that a copy holds: all of them; of a task's carry map, code and initial data those up to
the last that is not at its reset value. DEDUCED: note 44. -/
def rangeWords (r : Nat) (c : RegCopy) (e : Nat × Nat) : Nat :=
  if (regionOf r).1 = 0x60 ∧ 0x200000 ≤ e.1 then
    (c.words.filter (fun w => decide (e.1 ≤ w.1) && decide (w.1 < e.1 + e.2))).foldl
      (fun n w => if n ≤ (w.1 - e.1) / 4 then (w.1 - e.1) / 4 + 1 else n) 0
  else (e.2 + 3) / 4
/-- The runs of a copy of region `r` (R91); a copy that undefines its region has none. DEDUCED: note 44. -/
def copyRuns (r : Nat) (c : RegCopy) : List (Nat × Nat) :=
  if c.remove then []
  else (regionRanges (regionOf r).1 (regionOf r).2).flatMap (fun (e : Nat × Nat) => splitRange e.1 1024 (rangeWords r c e))
/-- The bytes a copy takes. -/
def copyLen (r : Nat) (c : RegCopy) : Nat := 8 + ((copyRuns r c).map (fun e => 8 + 4 * e.2)).foldl (· + ·) 0
/-- The word at byte offset `off` of a body's runs. -/
def runsWord (val : Nat → Word) : List (Nat × Nat) → Nat → Option Word
  | [], _ => none
  | (o, n) :: l, off =>
    if off = 0 then some (BitVec.ofNat 32 o)
    else if off = 4 then some (BitVec.ofNat 32 n)
    else if off < 8 + 4 * n then some (val (o + off - 8))
    else runsWord val l (off - (8 + 4 * n))
/-- The word at byte offset `off` of a copy's body (R80): region header, then the runs. Of FLAGS a copy holds REMOVE alone.
DESIGN CHOICE: note 166. -/
def copyWord (straps r : Nat) (c : RegCopy) (off : Nat) : Option Word :=
  let runs := copyRuns r c
  if off = 0 then some (BitVec.ofNat 32 ((regionOf r).2 + c.remove.toNat * 65536))
  else if off = 4 then some (BitVec.ofNat 32 runs.length)
  else runsWord (c.word straps r) runs (off - 8)
/-- Where the loader places a copy of `size` bytes beside those that `taken` lists with their sizes: a 16-byte-aligned offset of
the staging window of its own choosing, where `hint` is free there, else the lowest that is (R91). DESIGN CHOICE: note 11. -/
def freePlace (taken : List (Nat × Nat)) (size hint : Nat) : Nat :=
  let ok (p : Nat) : Bool := decide (p + size ≤ 0x40000000)
    && taken.all (fun t => decide (p + size ≤ t.1) || decide (t.1 + t.2 ≤ p))
  let first := 0x20016080 + 16 * (hint % 0x1FFE9F8)
  if ok first then first
  else ((0x20016080 :: taken.map (fun t => (t.1 + t.2 + 15) / 16 * 16)).find? ok).getD first
/-- A section of an image (R76) with its CRC. -/
def sectionBytes (ty : Nat) (body : List Byte) : List Byte :=
  let bs := leBytes 2 ty ++ leBytes 2 0 ++ leBytes 4 body.length ++ body
  bs ++ leBytes 4 (crc32 bs).toNat
/-- A copy's body as bytes (R80, R91). -/
def copyBody (straps r : Nat) (c : RegCopy) : List Byte :=
  (List.range (copyLen r c / 4)).flatMap (fun i => leBytes 4 ((copyWord straps r c (4 * i)).getD 0).toNat)
/-- An image of the store, or the partner's active one, as the full image that R99 describes: a header with its ID, the active
copy of every region it defines, and END. DESIGN CHOICE: note 63. -/
def imageBytes (straps : Nat) (x : StoredImg) : List Byte :=
  let sects := (x.regions.map (fun e => sectionBytes (regionOf e.1).1 (copyBody straps e.1 e.2))).flatten ++ sectionBytes 0xFFFF []
  let hd := leBytes 4 0x49535947 ++ leBytes 2 1 ++ leBytes 2 1 ++ leBytes 8 x.id ++ leBytes 24 0 ++ leBytes 2 0xFFFF
    ++ leBytes 2 (x.regions.length + 1) ++ leBytes 4 (128 + sects.length) ++ leBytes 76 0
  -- 24 zero bytes: BASE_ID, BUILD_TIME, TOOL_REL, MIN_HW and MIN_FW
  hd ++ leBytes 4 (crc32 hd).toNat ++ sects

/-- The active and the ready copy of region `r` in half `h` (R91). -/
def State.activeCopy (s : State) (h : Half) (r : Nat) : Option RegCopy :=
  ((s.half h).img.active.find? (fun e => decide (e.1 = r))).map (·.2)
def State.readyCopy (s : State) (h : Half) (r : Nat) : Option RegCopy :=
  ((s.half h).img.ready.find? (fun e => decide (e.1 = r))).map (·.2)
/-- The commit unit of a region (R78). -/
def regionUnit (h : Half) (r : Nat) : CUnit := ⟨17, some h, r⟩
/-- Whether region `r` is marked for commit (R93). -/
def State.regionMarked (s : State) (h : Half) (r : Nat) : Bool := s.marked.contains (regionUnit h r)

/-- Whether half `h` holds an active image: an active image ID (R97). -/
def State.hasImage (s : State) (h : Half) : Bool :=
  decide (s.rn (Mod.imgActiveIdLo h) ≠ 0) || decide (s.rn (Mod.imgActiveIdHi h) ≠ 0)
/-- Whether the partner is reachable over the mirror link: the link is up, the partner runs, and its Whistles arrive on that
path (R93, R387). DEDUCED: note 122. -/
def State.reachable (s : State) (h : Half) : Bool :=
  s.mirrorUp && s.runs h.other && s.bt (HalfR.whistleStatus h) 0
/-- Whether a marked region needs no partner, or the partner has marked it with the same CRC (R93, R98, R100).
DEDUCED: note 67. -/
def State.pairOk (s : State) (h : Half) (r : Nat) : Bool :=
  let x := (s.half h).img
  x.actFree || !(s.reachable h && s.hasImage h.other) || x.paired.contains r

/-- Group 17's pending bit clears (R97): the active image ID and INCOMPLETE, and source 9. -/
def State.imgSettled (s : State) (h : Half) : State :=
  let x := (s.half h).img
  let s := s.setPend h 17 false
  let s := if x.actAny then
      ((s.wn (Mod.imgActiveIdLo h) x.actId).wn (Mod.imgActiveIdHi h) (x.actId / 2 ^ 32)).sb (Mod.imgStatus h) 11 x.actBad
    else s
  let s := s.fw (Mod.imgStatus h) 2 0 (if x.ready ≠ [] then 2 else if s.hasImage h then 0 else 5)
  (s.modImg h (fun y => { y with actAny := false, actBad := false, actFree := false, starting := false, paired := [] })).raise h 9
/-- When no region waits, group 17's pending bit clears (R51, R97). -/
def State.imgSettle (s : State) (h : Half) : State :=
  if s.pend h 17 ∧ s.waiting h 17 = false then s.imgSettled h else s
/-- A region's mark and its ready copy go (R93). -/
def State.regionUnmark (s : State) (h : Half) (r : Nat) : State :=
  let u := regionUnit h r
  let s := { s with
    dirty := s.dirty.filter (· != u)
    marked := s.marked.filter (· != u) }
  s.modImg h (fun x => { x with ready := Map.del x.ready r, paired := x.paired.filter (· != r) })
/-- A region has committed into its target (R94 step 3). -/
def State.regionFinish (s : State) (h : Half) (r : Nat) (c : RegCopy) : State :=
  let s := s.modImg h (fun x => { x with
    active := if c.remove then Map.del x.active r else Map.ins x.active r c
    actAny := true })
  (s.regionUnmark h r).imgSettle h

/-- Shadowed registers of a region, by live or listed address, that are listed anywhere, as region-space offsets. -/
def State.regionOffs (s : State) (h : Half) (ty idx : Nat) (c : RegCopy) : List Nat :=
  let deck := isDeckBlock ((regionAddr ty idx 0).getD 0)
  let base := if deck then 0 else h.base
  let listed := ((s.live ++ s.shadow).map (·.1)).filter (fun k => decide (base ≤ k))
  let rs := if ty = 0x22 then [(0, 0x800), (0x800, 4)] else regionRanges ty idx
  (rs.flatMap (fun r => match regionAddr ty idx r.1 with
    | some a => (listed.filter (fun k => decide (base + a ≤ k) && decide (k < base + a + r.2))).map (fun k => k - base - a + r.1)
    | none => [])) ++ c.words.map (·.1)
/-- The words of a region whose target is registers go into their live values and shadows (R94 steps 1 and 2); a region
that is removed gives reset values (R82). Registers outside the commit groups are not touched, but for those the
loader alone writes (R352). -/
def State.regionRegs (s : State) (h : Half) (r : Nat) (c : RegCopy) : State :=
  let x := regionOf r
  let c' : RegCopy := if c.remove then { c with words := [] } else c
  (s.regionOffs h x.1 x.2 c').foldl (fun (t : State) (o : Nat) =>
    match regionAddr x.1 x.2 o with
    | none => t
    | some a => match descOf a with
      | none => t
      | some d =>
        if (grpOf a d).isNone then t
        else
          let k := if isDeckBlock a then a else h.base + a
          let w := c'.word t.deck.straps r o
          let m := directMask k
          (t.wr k ((w &&& ~~~m) ||| (t.rg k &&& m))).wrSh k (w &&& ~~~m)) s
/-- The dirty marks of a unit are lost to a region's commit, which reports OVERRODE_DIRTY (R94). -/
def State.overrode (s : State) (h : Half) (r : Nat) (c : RegCopy) (u : CUnit) : State :=
  if s.dirty.contains u then
    let s := { s with dirty := s.dirty.filter (· != u) }
    s.imgReport h 0x13 r (regionOf r).1 c.pos 0 0 0 c.sid
  else s

end Sys2Proof.Machine
end

