-- ==== Sys2Proof/Machine/DeckOps.lean ====
section
/-! DEFINITION. Shared operations of the field-deck blocks: commands of an owning half, delivery of measurement words and
I/O image units to both halves, the destination routes and Lid's disable outputs (R28-R31, R328, R608). -/
namespace Sys2Proof.Machine

/-- An event of the field deck's blocks: none happens while the field deck is in reset.
DEDUCED: note 7. DESIGN CHOICE: note 6. -/
def State.onDeck (s : State) (f : State → State) : State := if s.deck.inReset then s else f s
/-- A command or write of half `h` to the field deck acts if the half runs, its link is up and it owns group `g` (R28). -/
def State.deckCmd (s : State) (h : Half) (g : Nat) (f : State → State) : State :=
  s.onHalf h (fun s => if (s.half h).linkUp then s.ifOwner h g f else s)
/-- The ship time that the field deck's group `g` works by: its owner's (R35), or the deck's own copy. -/
def State.fieldNow (s : State) (g : Nat) : Nat := match s.owner g with
  | some h => s.now h
  | none => s.deckNow

/-- Half `h` hears the field deck: it runs and its link is up. -/
def State.deckHears (s : State) (h : Half) : Bool := s.runs h && (s.half h).linkUp
/-- The measurement entries of half `h`'s router that name a source: loop and measurement (R608). -/
def HalfSt.measEntries (x : HalfSt) (p : Word → Word → Bool) : List (Nat × Nat) :=
  (x.route.filter (fun e => decide (e.1 < 0x40000) && decide (e.1 % 8 = 0)
    && p e.2 (Map.get (fun _ => 0) x.route (e.1 + 4)))).map (fun e => (e.1 / 64, e.1 / 8 % 8))
/-- A source word goes onto its way to every engine input port of half `h` whose entry names it (R30, R31). -/
def State.deliverTo (s : State) (h : Half) (p : Word → Word → Bool) (valid : Bool) (w : Word) : State :=
  s.modHalf h (fun x => { x with
    measTx := x.measTx ++ (x.measEntries p).map (fun e => ⟨e.1, e.2, valid, w⟩) })
/-- Whether a measurement entry names word `sel` of unit `idx` of a kind. -/
def namesSrc (kind idx sel : Nat) (w0 _w1 : Word) : Bool :=
  decide (bits w0 3 0 = kind) && decide (bits w0 15 4 = idx) && decide (bits w0 19 16 = sel)
/-- A field-deck measurement reaches both halves (R30). -/
def State.deliver (s : State) (kind idx sel : Nat) (valid : Bool) (w : Word) : State :=
  let f (t : State) (h : Half) : State := if t.deckHears h then t.deliverTo h (namesSrc kind idx sel) valid w else t
  f (f s .a) .b
/-- Words go into the I/O image of half `h` (R328). -/
def State.imageTo (s : State) (h : Half) (off : Nat) (ws : List Nat) : State :=
  (ws.zip (List.range ws.length)).foldl (fun t e => t.setMemNat (h.base + 0x80000000 + off + 4 * e.2) 4 e.1) s
/-- A unit goes into the I/O image of both halves (R329). -/
def State.image (s : State) (off : Nat) (ws : List Nat) : State :=
  let f (t : State) (h : Half) : State := if t.deckHears h then t.imageTo h off ws else t
  f (f s .a) .b

/-- A word of the deck I/O fabric's route table (R608). -/
def State.deckRoute (s : State) (off : Nat) : Word := Map.get (fun _ => 0) s.deck.route off
/-- Whether the destination entry at `off` takes command `j` of loop `loop`. -/
def State.takes (s : State) (off loop j : Nat) : Bool :=
  let e := s.deckRoute off
  bit e 31 && decide (bits e 11 0 = loop) && decide (bits e 13 12 = j)
/-- Whether Lid disables target `k`, in the layout of DISABLED_MAP: 0-255 outputs, 256-319 links, 320-351 ports. -/
def State.lidOff (s : State) (k : Nat) : Bool := s.mapBit (Lid.disabledMap 0) k

end Sys2Proof.Machine
end

