-- ==== Sys2Proof/Machine/Errq.lean ====
section
/-! DEFINITION. The error queue of a half and access to its tasks and cores (R324, R326, R340). -/
namespace Sys2Proof.Machine

/-- Task `t` of half `h` beyond its registers. -/
def State.task (s : State) (h : Half) (t : Nat) : TaskRun := Map.get (fun _ => {}) (s.half h).tasks t
/-- Change it. -/
def State.modTask (s : State) (h : Half) (t : Nat) (f : TaskRun → TaskRun) : State :=
  s.modHalf h (fun x => { x with tasks := Map.set (fun _ => {}) x.tasks t (f (Map.get (fun _ => {}) x.tasks t)) })
/-- Core `c` of half `h`. -/
def State.core (s : State) (h : Half) (c : Nat) : CoreRun := Map.get (fun _ => {}) (s.half h).cores c
/-- Change it. -/
def State.modCore (s : State) (h : Half) (c : Nat) (f : CoreRun → CoreRun) : State :=
  s.modHalf h (fun x => { x with cores := Map.set (fun _ => {}) x.cores c (f (Map.get (fun _ => {}) x.cores c)) })

/-- The source of an APC record that concerns task `t`, or the half where no task is concerned (R354, R537).
DEDUCED: note 102. -/
def State.apcReport (s : State) (h : Half) (code t : Nat) (data : List Nat) : State :=
  if t < 16 then s.report h code 0x10 t data else s.report h code 1 h.num data

/-- An error entry (R340): placed at ERRQ_WP, or counted lost where the queue is full. DEDUCED: note 102. -/
def State.errEntry (s : State) (h : Half) (cls t src data : Nat) : State :=
  let wp := s.fd (Apc.errqWp h) 7 0
  if (wp + 1) % 256 = s.fd (Apc.errqRp h) 7 0 then
    let first := decide (s.rn (Apc.errqLost h) = 0)
    let s := s.sat (Apc.errqLost h)
    if first then s.apcReport h 0x0B0C t [s.rn (Apc.errqLost h)] else s
  else
    let now := s.now h
    let s := s.wn (Apc.errq h wp 0) (cls + (if t < 16 then t else 0xFF) * 2 ^ 8 + src % 65536 * 2 ^ 16)
    let s := ((s.wn (Apc.errq h wp 1) data).wn (Apc.errq h wp 2) now).wn (Apc.errq h wp 3) (now / 2 ^ 32)
    s.fw (Apc.errqWp h) 7 0 (wp + 1)

/-- The card of a resource group (R27): analogue, digital-input, digital-output and motion cards count from 0 each; 4096 and more stand for
remote stations. -/
def cardOf (g : Nat) : Nat :=
  if 4096 ≤ g then g - 4096 else if g < 16 then g else if g < 32 then g - 16 else if g < 40 then g - 32 else if 104 ≤ g ∧ g < 108 then g - 104 else g
/-- A write of a task's output path to a card of resource group `g` is refused (R331): OUTPUT_REFUSED once per cycle and
card. -/
def State.outputRefused (s : State) (h : Half) (t g : Nat) : State :=
  if (s.task h t).refused.contains g then s
  else (s.modTask h t (fun x => { x with refused := x.refused ++ [g] })).errEntry h 7 t (cardOf g) (s.rn (Mod.deckRefusedCnt h))

/-! ### Sources of the input image (R339) -/

/-- Whether a source's words are substituted: 0 analogue card, 1 digital-input card, 2 output card, 3 link, 4 motion port,
5 remote station. -/
def State.sourceDown (s : State) (h : Half) (kind n : Nat) : Bool :=
  match kind with
  | 0 => !s.bt (Anc.cardStatus n) 1
  | 1 => !s.bt (Din.diCardStatus n) 1
  | 2 => !s.bt (Dout.grpStatus n) 3
  | 3 => decide (s.fd (Drv.linkStatus n) 1 0 ≠ 2)
  | 4 => !s.bt (Mot.portCfg n) 0
  | _ => !(decide (s.fd (Trk.stnStatus h n) 2 0 = 1) || decide (s.fd (Trk.stnStatus h n) 2 0 = 2))
/-- The source kind of a SUBST record and its number as the records name it (R537). -/
def substKind (kind : Nat) : Nat := [5, 7, 9, 0xC, 0xD, 0x11].getD kind 0
/-- The start or end of a source's state, once per half (R339, R340, R354); `t` is the task concerned, 16 for none. A station's
entries are the trunk's own. DEDUCED: note 101. -/
def State.substEdge (s : State) (h : Half) (t kind n : Nat) : State :=
  let key := kind * 65536 + n
  let was := (s.half h).substOn.contains key
  let on := s.sourceDown h kind n
  if was = on then s
  else
    let s := s.modHalf h (fun x => { x with
      substOn := if on then x.substOn ++ [key] else x.substOn.filter (· != key) })
    let s := if kind = 5 then s
      else s.errEntry h (if on then 3 else 4) t (n + kind * 2 ^ 12)
        (if on then (if kind = 3 then 1 else if kind = 4 then 2 else 0) else 0)
    s.report h (if on then 0x0B0A else 0x0B0B) (substKind kind) n [kind, n]
/-- A source of the field deck may have changed: both halves that hear the deck note it (R339). -/
def State.sourceEdge (s : State) (kind n : Nat) : State :=
  let f (t : State) (h : Half) : State := if t.deckHears h then t.substEdge h 16 kind n else t
  f (f s .a) .b

end Sys2Proof.Machine
end

