-- ==== Sys2Proof/Machine/Timers.lean ====
section
/-! DEFINITION. The hardware timers of the cyclic program (R334, R335), read and written at an instant of ship time. -/
namespace Sys2Proof.Machine

/-- KIND of timer `k`: 0 NONE, 1 TON, 2 TOF, 3 TP. -/
def State.tmKind (s : State) (h : Half) (k : Nat) : Nat := s.fd (Apc.timer h k 0) 1 0
/-- The timer's UNIT in ns. -/
def State.tmUnit (s : State) (h : Half) (k : Nat) : Nat := if s.bt (Apc.timer h k 0) 4 then 1000000 else 1000
/-- START. -/
def State.tmStart (s : State) (h : Half) (k : Nat) : Nat := s.rd64 (Apc.timer h k 4)
/-- Whether the timer has been started since its task's start (R334, R345). -/
def State.tmRan (s : State) (h : Half) (k : Nat) : Bool := (s.half h).tmRan.contains k
/-- Mark it so, or not. -/
def State.tmMark (s : State) (h : Half) (k : Nat) (b : Bool) : State :=
  s.modHalf h (fun x =>
    let rest := x.tmRan.filter (· != k)
    { x with tmRan := if b then k :: rest else rest })
/-- Whether less than PRESET has passed since START at instant `t`. -/
def State.tmWithin (s : State) (h : Half) (k t : Nat) : Bool :=
  decide (t - s.tmStart h k < s.rn (Apc.timer h k 1) * s.tmUnit h k)
/-- Q at instant `t` (R334). -/
def State.tmQ (s : State) (h : Half) (k t : Nat) : Bool :=
  let i := s.bt (Apc.timer h k 0) 2
  match s.tmKind h k with
  | 1 => i && !s.tmWithin h k t
  | 2 => i || (s.tmRan h k && s.tmWithin h k t)
  | 3 => s.tmRan h k && s.tmWithin h k t
  | _ => false
/-- ELAPSED at instant `t`, in UNIT (R334). -/
def State.tmElapsed (s : State) (h : Half) (k t : Nat) : Nat :=
  let i := s.bt (Apc.timer h k 0) 2
  let e := (t - s.tmStart h k) / s.tmUnit h k
  let p := s.rn (Apc.timer h k 1)
  let m := if e < p then e else p
  match s.tmKind h k with
  | 1 => if i then m else 0
  | 2 => if i then 0 else m
  | 3 => if s.tmRan h k then m else 0
  | _ => 0
/-- A write of IN at instant `t` (R334). -/
def State.tmIn (s : State) (h : Half) (k t : Nat) (v : Bool) : State :=
  let i := s.bt (Apc.timer h k 0) 2
  let starts := match s.tmKind h k with
    | 1 => !i && v
    | 2 => i && !v
    | 3 => !i && v && !s.tmQ h k t
    | _ => false
  let s := if starts then (s.wr64 (Apc.timer h k 4) t).tmMark h k true else s
  s.sb (Apc.timer h k 0) 2 v
/-- A write of PRESET (R334). -/
def State.tmPreset (s : State) (h : Half) (k : Nat) (v : Word) : State := s.wr (Apc.timer h k 1) v
/-- The timer of a task that starts (R345): IN, Q and START 0. -/
def State.tmClear (s : State) (h : Half) (k : Nat) : State :=
  ((s.sb (Apc.timer h k 0) 2 false).wr64 (Apc.timer h k 4) 0).tmMark h k false
/-- Whether timer `k` is assigned to task `t`. -/
def State.tmOwned (s : State) (h : Half) (k t : Nat) : Bool :=
  s.bt (Apc.timer h k 0) 12 && decide (s.fd (Apc.timer h k 0) 11 8 = t)
/-- The instant at which an access by core `c` finds timer `k` (R334): within a cycle of the timer's owner that the core
executes the cycle's release instant, else that of the access. -/
def State.tmTime (s : State) (h : Half) (c k : Nat) : Nat := match (s.core h c).stack with
  | t :: _ => if s.tmOwned h k t ∧ (s.task h t).phase = 2 then (s.task h t).ctx.rel else s.now h
  | [] => s.now h
/-- The timers assigned to task `t`. -/
def State.taskTimers (s : State) (h : Half) (t : Nat) : List Nat := (List.range 4096).filter (fun k => s.tmOwned h k t)

/-- Ship time of half `h` has been stepped by `d` (R335, R351): START of every timer moves with it, and so do the
release instants of the cycles that run; release instants that a forward step jumps over are not used. -/
def State.stepTimers (s : State) (h : Half) (d : Int) : State :=
  let move (n : Nat) : Nat := ((n : Int) + d).toNat
  let s := (List.range 4096).foldl (fun (u : State) (k : Nat) => u.wr64 (Apc.timer h k 4) (move (u.tmStart h k))) s
  let now := s.now h
  (List.range 16).foldl (fun (u : State) (t : Nat) => u.modTask h t (fun x =>
    if x = {} then x
    else { x with
      lastInst := x.lastInst.map move
      release := move x.release
      ctx := { x.ctx with rel := move x.ctx.rel }
      startT := move x.startT
      errEnd := if x.errEnd = 0 then 0 else move x.errEnd
      carryEnd := if x.carryEnd = 0 then 0 else move x.carryEnd
      notBefore := if 0 < d then max now (move x.notBefore) else move x.notBefore })) s

end Sys2Proof.Machine
end

