-- ==== Sys2Proof/Machine/TrunkOps.lean ====
section
/-! DEFINITION. Shared operations of the station trunk: the node's own state and its registers, inserting frames, posted
writes and tagged reads and their outcomes (R423-R445). DESIGN CHOICE: note 18. -/
namespace Sys2Proof
open Machine

/-- The header and payload bytes of a frame (R424). -/
def TrkFrame.bytes (f : TrkFrame) : List Byte :=
  leBytes 1 f.kind ++ leBytes 1 f.src ++ leBytes 1 f.dst ++ leBytes 1 f.flags ++ leBytes 2 (4 * f.payload.length)
    ++ leBytes 2 f.seq ++ leBytes 2 f.tag ++ leBytes 1 f.hops ++ leBytes 1 0 ++ leBytes 2 f.nonce ++ leBytes 2 f.cycle
    ++ f.payload.flatMap (fun w => leBytes 4 w.toNat)
/-- Whether a frame's CRC-32 is that of its header and payload (R77, R424). -/
def TrkFrame.crcOk (f : TrkFrame) : Bool := f.crc == crc32 f.bytes
/-- The frame with its CRC-32 as R424 has it. -/
def TrkFrame.sealed (f : TrkFrame) : TrkFrame := { f with crc := crc32 f.bytes }

end Sys2Proof

namespace Sys2Proof.Machine

/-- Change the trunk endpoint of half `h`. -/
def State.modTrk (s : State) (h : Half) (f : TrkSt → TrkSt) : State := s.modHalf h (fun x => { x with trk := f x.trk })
/-- Change the node's state in the field deck. -/
def State.modNode (s : State) (f : TrkDeck → TrkDeck) : State := s.modDeck (fun d => { d with trunk := f d.trunk })
/-- A flag of port `p`. -/
def portFlag (m : Map Bool) (p : Nat) : Bool := Map.get (fun _ => false) m p
/-- The map with the flag of port `p` set. -/
def portSet (m : Map Bool) (p : Nat) (b : Bool) : Map Bool := Map.set (fun _ => false) m p b

/-- This node's address, the MODULE_ID strap (R435). -/
def State.node (s : State) : Nat := s.deck.straps % 64
/-- This node's NONCE (R424). -/
def State.nonce (s : State) : Nat := Config.nonce s.deck.trunk.nonceIx % 65536

/-- TRK_STATUS.RING (R432). -/
def TrkDeck.ring (d : TrkDeck) : Nat :=
  let u0 := portFlag d.up 0
  let u1 := portFlag d.up 1
  if d.en = false then 0
  else if d.dup then 7
  else if u0 = false ∧ u1 = false then (if d.joined then 6 else 1)
  else if portFlag d.wrapped 0 then 3
  else if portFlag d.wrapped 1 then 4
  else if d.remote then 5
  else 2
/-- The node's state as TRK_STATUS and PORT_STATUS of half `h` show it. -/
def State.trkShow (s : State) (h : Half) : State :=
  let d := s.deck.trunk
  let s := ((s.fw (Trk.trkStatus h) 10 8 d.ring).sb (Trk.trkStatus h) 11 d.master).fw (Trk.trkStatus h) 21 16 d.masterNode
  (List.range 2).foldl (fun (t : State) (p : Nat) =>
    (t.sb (Trk.portStatus h p) 4 (portFlag d.up p)).sb (Trk.portStatus h p) 6 (!portFlag d.opened p)) s
/-- The ship time from which the node times its cycle, whatever its state (R426, R513): that of the half that owns the trunk,
else the field deck's copy. DEDUCED: note 95. -/
def State.nodeNow (s : State) : Nat := match s.owner 124 with
  | some h => s.now h
  | none => s.deck.timeCopy
/-- Apply `f` for each half that hears the field deck (R30). -/
def State.eachHalf (s : State) (f : State → Half → State) : State :=
  let g (t : State) (h : Half) : State := if t.deckHears h then f t h else t
  g (g s .a) .b
/-- Change the node's state and show it; a change of RING raises source 192 (R452). -/
def State.setNode (s : State) (f : TrkDeck → TrkDeck) : State :=
  let old := s.deck.trunk.ring
  let s := (s.modNode f).eachHalf State.trkShow
  if s.deck.trunk.ring = old then s else s.raiseBoth 192

/-- Bytes of a frame on the ring, header, CRC and coding included (R424, R428). DEDUCED: note 96. -/
def frameBytes (f : TrkFrame) : Nat := 4 * f.payload.length + 24
/-- Whether this node inserts frames: some port up and no duplicate address (R432, R435). -/
def TrkDeck.inserts (d : TrkDeck) : Bool := [2, 3, 4, 5].contains d.ring
/-- A frame of this node leaves; it goes east unless that port is wrapped (R431). DEDUCED: note 96. -/
def State.nodeSend (s : State) (f : TrkFrame) : State :=
  let w := portFlag s.deck.trunk.wrapped 0
  s.modNode (fun d => { d with
    out := d.out ++ [(w.toNat, TrkFrame.sealed { f with flags := f.flags % 2 + w.toNat * 2 + f.flags / 4 * 4 })] })
/-- A frame of this node in half `h`, with no payload. -/
def State.newFrame (s : State) (h : Half) (kind dst : Nat) : TrkFrame :=
  ⟨0, kind, s.node, dst, h.num, 0, 0, 0, s.nonce, s.rn (Trk.cycleNum h) % 65536, []⟩

/-- Waiting acyclic frames leave while the node inserts, this half owns the trunk and ACYC_BUDGET has bytes left
(R423, R426, R428). DEDUCED: note 96. -/
def State.trkDrain (s : State) (h : Half) : Nat → State
  | 0 => s
  | n + 1 => match (s.half h).trk.queue with
    | [] => s
    | f :: fs =>
      if s.owns h 124 ∧ s.deckHears h ∧ s.deck.trunk.inserts ∧ (s.half h).trk.spent < s.fd (Trk.acycCfg h) 17 0 then
        let s := (s.modTrk h (fun x => { x with queue := fs, spent := x.spent + frameBytes f })).nodeSend f
        State.trkDrain (if f.kind = 0x10 then (s.sat (Trk.postSentCnt h)).tally h 0x0A12 else s) h n
      else s
/-- An acyclic frame of half `h` is queued and sent when it may. -/
def State.trkQueue (s : State) (h : Half) (f : TrkFrame) : State :=
  let s := s.modTrk h (fun x => { x with queue := x.queue ++ [f] })
  s.trkDrain h (s.half h).trk.queue.length

/-- Whether ordering group `g` of half `h` is fenced (R443). -/
def State.fenced (s : State) (h : Half) (g : Nat) : Bool := s.mapBit (Trk.fenceMap h 0) g
/-- The module-wide number of an operation's ordering group (R440). -/
def TrkOp.grp (o : TrkOp) : Nat := o.station * 8 + o.group
/-- A tag is in use: by an open transaction, or by a read's outcome that waits for the RDATA Tray (R439, R526). -/
def State.tagUsed (s : State) (h : Half) (tag : Nat) : Bool :=
  (s.half h).trk.ops.any (fun o => decide (o.tag = tag))
    || (s.half h).tray.held.any (fun e => decide (e.1 = 2) && decide ((e.2.headD 0).toNat % 4096 = tag))
/-- Tags in use: TAGS_IN_USE. -/
def State.tagsInUse (s : State) (h : Half) : Nat :=
  (s.half h).trk.ops.length + ((s.half h).tray.held.filter (fun e => decide (e.1 = 2))).length
/-- The next tag in increasing order that is free (R439). -/
def State.nextTag (s : State) (h : Half) : Option Nat :=
  let n := (s.half h).trk.nextTag
  ((List.range 4096).find? (fun i => !s.tagUsed h ((n + i) % 4096))).map (fun i => (n + i) % 4096)

/-- Word 0 of a report or an RDATA entry (R442, R445). -/
def TrkOp.head (o : TrkOp) (h : Half) (cause : Nat) : Nat :=
  o.tag + h.num * 2 ^ 12 + o.station * 2 ^ 16 + o.group * 2 ^ 22 + cause % 256 * 2 ^ 32 + (o.count - 1) % 256 * 2 ^ 40
/-- A report of a posted write (R441, R442): the POSTFAIL Tray, which holds 256 and then drops; source 200 + core, the
count and the record. DEDUCED: note 98. -/
def State.postReport (s : State) (h : Half) (o : TrkOp) (cause : Nat) : State :=
  let ws := [o.head h cause, o.addr + o.seq * 2 ^ 32, o.first.toNat, s.now h % 2 ^ 63].map (BitVec.ofNat 64)
  let waiting := ((s.half h).tray.held.filter (fun e => decide (e.1 = 1))).length
  let s := if waiting < 256 ∨ (waiting = 0 ∧ 4 ≤ s.trayRoom h 1) then s.trayHold h 1 ws
    else (s.sat (Trk.postfailLost h)).raise h 198
  (((s.raise h (200 + o.core)).sat (Trk.postFailCnt h)).tally h 0x0A14).report h 0x0E07 0x12 o.grp [o.tag, cause]
/-- A report that fences its ordering group (R441, R443). -/
def State.postFail (s : State) (h : Half) (o : TrkOp) (cause : Nat) (fence : Bool) : State :=
  let s := s.postReport h o cause
  if fence then s.setMapBit (Trk.fenceMap h 0) o.grp true else s
/-- A tagged read ends (R445): its outcome goes to the RDATA Tray, and source 208 + core. -/
def State.readEnd (s : State) (h : Half) (o : TrkOp) (status : Nat) (data : List Word) : State :=
  let ws := BitVec.ofNat 64 (o.head h status) :: (if status = 0 then data.map (fun w => BitVec.ofNat 64 w.toNat) else [])
  (s.trayHold h 2 ws).raise h (208 + o.core)
/-- An open transaction is removed. -/
def State.opDone (s : State) (h : Half) (tag : Nat) : State :=
  s.modTrk h (fun x => { x with ops := x.ops.filter (fun o => decide (o.tag ≠ tag)) })

/-- Whether a station is exchanging data with half `h`'s node: UP or LATE (R436). -/
def State.stnLive (s : State) (h : Half) (st : Nat) : Bool :=
  decide (s.fd (Trk.stnStatus h st) 2 0 = 1) || decide (s.fd (Trk.stnStatus h st) 2 0 = 2)

/-- A posted write (`words` its data) or tagged read of `count` words is issued (R439-R441, R445): the RESULT of
PSTATUS or RSTATUS, the tag where one is given, and the state. DEDUCED: note 98. -/
def State.trkIssue (s : State) (h : Half) (read : Bool) (core station group addr count : Nat) (words : List Word) :
    Nat × Nat × State :=
  if addr % 4 ≠ 0 then (5, 0, s)
  else match s.nextTag h with
    | none => (1, 0, s)
    | some tag =>
      let s := s.modTrk h (fun x => { x with nextTag := (tag + 1) % 4096 })
      let o : TrkOp := ⟨tag, read, station, group, addr, count, words.headD 0, 0, core, (s.half h).time.ticks⟩
      let refuse (cause : Nat) (fence : Bool) : State :=
        if read then s.readEnd h o cause [] else s.postFail h o cause fence
      if s.fenced h o.grp then (2, tag, refuse 0x11 true)
      else if s.stnLive h station = false then (4, tag, refuse 0x12 true)
      else if s.owns h 124 = false then (3, tag, refuse 0x13 false)
      else
        let q := Map.get (fun _ => 0) (s.half h).trk.seqs o.grp
        let sync := (s.half h).trk.known.contains o.grp
        let s := s.modTrk h (fun x => { x with
          seqs := Map.set (fun _ => 0) x.seqs o.grp ((q + 1) % 65536)
          known := if sync then x.known else x.known ++ [o.grp]
          ops := x.ops ++ [{ o with seq := q }] })
        let f := s.newFrame h (if read then 0x12 else 0x10) station
        let body := BitVec.ofNat 32 addr :: (if read then [BitVec.ofNat 32 count] else words)
        (0, tag, s.trkQueue h { f with
          flags := f.flags + (if sync then 0 else 4)
          seq := q
          tag := tag + group * 4096
          payload := body })

/-- The node takes EN, MASTER_EN and UNWRAP_HOLD of the half that owns the trunk (R432, R433, R446), EN
only with a sound MODULE_ID (R572). A changed EN starts the ports anew. DEDUCED: note 95. -/
def State.trkFollow (s : State) : State := match s.owner 124 with
  | none => s
  | some h =>
    let en := s.bt (Trk.trkCfg h) 0 && decide (s.deck.strapFaults % 64 = 0)
    let m := s.bt (Trk.trkCfg h) 1
    let hold := min 60 (max 1 (s.fd (Trk.trkCfg h) 15 8))
    let now := s.deck.ticks
    s.setNode (fun d =>
      if d.en = en then { d with masterEn := m, hold := hold }
      else { d with
        en := en
        masterEn := m
        hold := hold
        downT := [(0, now), (1, now)]
        upT := []
        crcCycle := []
        crcRun := []
        up := []
        down := []
        wrapped := []
        ready := []
        joined := false
        remote := false
        master := false
        plan := none })

/-- Trivet gives the trunk group to another half: the frames that wait in a half that does not own it are discarded
(R28, R429), and the node takes the new owner's settings. DEDUCED: note 95. -/
def State.trkOwner (s : State) : State :=
  let f (t : State) (h : Half) : State :=
    if t.owns h 124 then t
    else (List.range (t.half h).trk.queue.length).foldl (fun (u : State) (_ : Nat) => u.deckRefuse h)
      (t.modTrk h (fun x => { x with queue := [] }))
  (f (f s .a) .b).trkFollow

/-- A station goes DOWN in half `h` (R436): STN_STATUS, the record, and the error entry where EXPECT is set. -/
def State.stnDown (s : State) (h : Half) (st cause : Nat) : State :=
  if s.fd (Trk.stnStatus h st) 2 0 = 3 then s
  else
    let s := ((s.fw (Trk.stnStatus h st) 2 0 3).fw (Trk.stnStatus h st) 6 4 cause).satF (Trk.stnStatus h st) 31 16 1
    let c := s.rn (Trk.cycleNum h)
    let s := (s.modTrk h (fun x => { x with downAt := Map.set (fun _ => 0) x.downAt st c })).report h 0x0E03 0x11 st [cause]
    (if s.bt (Trk.stnCfg h st) 0 then s.errEntry h 1 16 st cause else s).substEdge h 16 5 st
/-- A station comes UP from ABSENT or DOWN (R436). -/
def State.stnUp (s : State) (h : Half) (st : Nat) : State :=
  let old := s.fd (Trk.stnStatus h st) 2 0
  let s := s.fw (Trk.stnStatus h st) 2 0 1
  if old = 1 ∨ old = 2 then s
  else
    let down := if old = 3 then
      (s.rn (Trk.cycleNum h) + 2 ^ 32 - Map.get (fun _ => 0) (s.half h).trk.downAt st) % 2 ^ 32 else 0
    let s := s.report h 0x0E04 0x11 st [down]
    (if s.bt (Trk.stnCfg h st) 0 then s.errEntry h 2 16 st (s.fd (Trk.stnStatus h st) 6 4) else s).substEdge h 16 5 st
/-- TRK_CFG.STN_TIMEOUT, at least 2. -/
def State.stnTimeout (s : State) (h : Half) : Nat := let n := s.fd (Trk.trkCfg h) 7 4; if n < 2 then 2 else n
/-- Word 0 of a subscribed station's remote-input area follows STN_STATUS (R437). -/
def State.stnWord (s : State) (h : Half) (st : Nat) : State :=
  if s.bt (Trk.stnCfg h st) 1 then s.imageTo h (0x10000 + 0x4000 * st) [s.rn (Trk.stnStatus h st)] else s
/-- A cycle of half `h` has brought no frame from a station (R436). -/
def State.stnMiss (s : State) (h : Half) (st : Nat) : State :=
  let x := s.fd (Trk.stnStatus h st) 2 0
  if x = 0 then s
  else
    let s := s.satF (Trk.stnStatus h st) 15 8 1
    if x = 3 then s
    else
      let s := s.fw (Trk.stnStatus h st) 2 0 2
      (if s.stnTimeout h ≤ s.fd (Trk.stnStatus h st) 15 8 then s.stnDown h st 1 else s).stnWord h st

end Sys2Proof.Machine
end

