-- ==== Sys2Proof/Machine/ApcOps.lean ====
section
/-! DEFINITION. Shared operations of the cyclic program (chapter 11): task data, lists and header, the cores, substitution,
the loop-write queue, starting and stopping tasks, and the switch to a committed region. -/
namespace Sys2Proof.Machine

/-! ### Task definition, code and data (R347, R356, R358) -/

/-- The region of task `t` (R78). -/
def taskRegion (t : Nat) : Nat := 4493 + t
/-- A word of task `t`'s active region. -/
def State.taskWord (s : State) (h : Half) (t off : Nat) : Nat := match s.activeCopy h (taskRegion t) with
  | some c => (c.word 0 (taskRegion t) off).toNat
  | none => 0
/-- A byte of a held TASK region. -/
def RegCopy.byteAt (c : RegCopy) (off : Nat) : Byte :=
  BitVec.ofNat 8 ((c.word 0 4493 (off / 4 * 4)).toNat / 2 ^ (8 * (off % 4)))
/-- `n` bytes of task `t`'s code from a code offset, as a little-endian number. -/
def State.codeNat (s : State) (h : Half) (t off n : Nat) : Nat := match s.activeCopy h (taskRegion t) with
  | some c => leNat ((List.range n).map (fun i => c.byteAt (0x1000000 + off + i)))
  | none => 0
/-- A 32-bit field of the code header (R358). -/
def State.hdr (s : State) (h : Half) (t off : Nat) : Nat := s.codeNat h t off 4
/-- The initial data of a held TASK region: the first DATA_LEN bytes (R347). -/
def RegCopy.initData (c : RegCopy) (len : Nat) : Map Byte :=
  c.words.foldl (fun (m : Map Byte) (e : Nat × Word) =>
    if 0x2000000 ≤ e.1 ∧ e.1 < 0x4000000 then
      (List.range 4).foldl (fun (n : Map Byte) (i : Nat) =>
        let o := e.1 - 0x2000000 + i
        if o < len then Map.set (fun _ => 0) n o (BitVec.ofNat 8 (e.2.toNat / 2 ^ (8 * i))) else n) m
    else m) []

/-- KIND, CORE, PRIO and CODE_KIND of a task (R324, R326). -/
def State.taskKind (s : State) (h : Half) (t : Nat) : Nat := s.fd (Apc.taskCfg h t) 1 0
def State.taskCore (s : State) (h : Half) (t : Nat) : Nat := s.fd (Apc.taskCfg h t) 6 4
def State.taskPrio (s : State) (h : Half) (t : Nat) : Nat := s.fd (Apc.taskCfg h t) 11 8
def State.taskIc (s : State) (h : Half) (t : Nat) : Bool := s.bt (Apc.taskCfg h t) 12
/-- TASK_STATUS.STATE: 0 UNDEFINED, 1 STOPPED, 2 IDLE, 3 RUNNING, 4 STANDBY, 5 HUNG, 6 STARTING. -/
def State.taskState (s : State) (h : Half) (t : Nat) : Nat := s.fd (Apc.taskStatus h t) 2 0
def State.setTaskState (s : State) (h : Half) (t n : Nat) : State := s.fw (Apc.taskStatus h t) 2 0 n
/-- The state of a task between cycles: IDLE in a LEAD half, else STANDBY (R383). DEDUCED: note 127. -/
def State.restTask (s : State) (h : Half) : Nat := if s.hstate h = 4 then 2 else 4

/-- Period and phase in ns that TASK_PERIOD and TASK_PHASE words give (R325). -/
def taskTiming (period phase : Nat) : Nat × Nat :=
  let p := clampNat 100 10000000 (period / 100 * 100)
  let f := phase / 10 * 10
  (p * 1000, if p ≤ f then 0 else f * 1000)
/-- The latest release instant at or before `now` (R325). -/
def releaseAt (tm : Nat × Nat) (now : Nat) : Nat :=
  now - (((now : Int) - (tm.2 : Int)) % (tm.1 : Int)).toNat

/-- A little-endian number of `n` bytes of a task's data area. -/
def State.dataNat (s : State) (h : Half) (t off n : Nat) : Nat :=
  leNat ((List.range n).map (fun i => Map.get (fun _ => 0) (s.task h t).data (off + i)))
/-- Bytes go into a map from an offset on. -/
def putBytes (m : Map Byte) (off : Nat) (bs : List Byte) : Map Byte :=
  (bs.zip (List.range bs.length)).foldl (fun (n : Map Byte) (e : Byte × Nat) => Map.set (fun _ => 0) n (off + e.2) e.1) m
/-- A cycle writes bytes of its data area; their lines go into its cycle set (R400). -/
def State.dataPut (s : State) (h : Half) (t off n v : Nat) : State :=
  s.modTask h t (fun x =>
    let l := off / 64
    let m := (off + n - 1) / 64
    let ls := if x.lines.contains l then x.lines else x.lines ++ [l]
    { x with
      data := putBytes x.data off (leBytes n v)
      lines := if ls.contains m then ls else ls ++ [m] })

/-! ### Cores (R326, R357, R370) -/

/-- Whether a core can take task `t` now: it runs, and holds no task of the same or higher priority (R326). -/
def State.coreTakes (s : State) (h : Half) (t : Nat) : Bool :=
  let c := s.taskCore h t
  !(s.half h).coreStopped.contains c && (match (s.core h c).stack with
    | [] => true
    | u :: _ => decide (s.taskPrio h t < s.taskPrio h u))
/-- Whether task `u` waits for the same core and goes before task `t`: higher priority, then earlier release, then lower
number (R326). -/
def State.waitsAhead (s : State) (h : Half) (t u : Nat) : Bool :=
  let x := s.task h t
  let y := s.task h u
  decide (u ≠ t) && (decide (y.phase = 1) || decide (y.phase = 5)) && decide (s.taskCore h u = s.taskCore h t)
    && (decide (s.taskPrio h u < s.taskPrio h t) || (decide (s.taskPrio h u = s.taskPrio h t)
      && (decide (y.release < x.release) || (decide (y.release = x.release) && decide (u < t)))))
/-- Whether task `t` gets its core now. -/
def State.canRun (s : State) (h : Half) (t : Nat) : Bool :=
  s.coreTakes h t && !(List.range 16).any (fun u => s.waitsAhead h t u)
/-- A task takes its core, or leaves it. -/
def State.corePush (s : State) (h : Half) (t : Nat) : State :=
  s.modCore h (s.taskCore h t) (fun x => { x with stack := t :: x.stack })
def State.corePop (s : State) (h : Half) (t : Nat) : State :=
  (List.range 8).foldl (fun (u : State) (c : Nat) =>
    if (u.core h c).stack.contains t then u.modCore h c (fun x => { x with stack := x.stack.filter (· != t) }) else u) s
/-- The core state at an entry into task `t`'s code (R357), of entry kind `kind`. -/
def State.entryCtx (s : State) (h : Half) (t kind rel : Nat) : Ctx :=
  let entry := s.hdr h t (8 + 4 * kind)
  let top := if kind = 4 then 0x400011000 else 0x300001000 + s.hdr h t 0x1C
  let g : Map Dword := [(1, BitVec.ofNat 64 kind), (2, BitVec.ofNat 64 t), (29, 0x200000000),
    (30, BitVec.ofNat 64 top), (31, 0xFFFFFFFFFFFFFFF0)]
  { kind := kind
    task := t
    g := g.filter (fun e => e.2 != 0)
    pc := 0x100000000 + entry
    off := entry
    fctl := BitVec.ofNat 32 (s.fd (Apc.codeCfg h t) 20 16 * 2 ^ 16)
    rel := rel
    cyc := s.rg (Apc.cycleCnt h t) }
/-- The background run of a task ends, and may start anew once the task is ACTIVE and neither HUNG nor STOPPED (R370, R382). -/
def State.bgStop (s : State) (h : Half) (t : Nat) : State :=
  (List.range 8).foldl (fun (u : State) (c : Nat) =>
    let x := u.core h c
    let hit : Bool := match x.bg with
      | some b => decide (b.task = t)
      | none => false
    if hit ∨ x.bgOut = some t then u.modCore h c (fun y => { y with
      bg := if hit then none else y.bg
      bgEnd := none
      bgOut := if y.bgOut = some t then none else y.bgOut })
    else u) s

/-- APC_STATUS.STATE: 0 NO_PROGRAM, 1 RESTARTING, 2 RUN, 3 STOPPED. -/
def State.apcShow (s : State) (h : Half) : State :=
  let ts := (List.range 16).filter (fun t => decide (s.taskState h t ≠ 0))
  let n := if ts = [] then 0
    else if ts.any (fun t => (s.task h t).whole && decide (4 ≤ (s.task h t).phase)) then 1
    else if ts.all (fun t => decide (s.taskState h t = 1)) then 3 else 2
  s.fw (Apc.apcStatus h) 2 0 n

/-! ### Loop words (R332, R333) -/

/-- The slot of a loop that has a copy here, not displaced (R38, R188). -/
def State.copySlotOf (s : State) (h : Half) (loop : Nat) : Option Nat :=
  let r := s.fd (loopMapAt h loop) 17 16
  if r = 1 ∨ r = 2 then s.slotOf h loop else none
/-- LOOP_ABSENT, once per cycle and loop (R332, R369). -/
def State.loopAbsent (s : State) (h : Half) (t loop : Nat) : State :=
  if (s.task h t).absent.contains loop then s
  else (s.modTask h t (fun x => { x with absent := x.absent ++ [loop] })).errEntry h 8 t loop 0
/-- A loop word as LOOP_RD and LRD read it (R332): a descriptor word of the live view, or a word of the carried block. -/
def State.loopWord (s : State) (h : Half) (t loop area off : Nat) : Word × State :=
  match s.copySlotOf h loop with
  | some q => (s.rg ((if area = 0 then slotBase h q else stateBase h q) + 4 * off), s)
  | none => (0, s.loopAbsent h t loop)

/-- LOOPQ_STATUS.DEPTH. -/
def State.queueShow (s : State) (h : Half) : State := s.fw (Apc.loopqStatus h) 10 0 (s.half h).loopq.length
/-- A loop word is dropped: LOOP_WR_LOST (R333, R353, R354). -/
def State.loopWrLost (s : State) (h : Half) (t loop off : Nat) : State :=
  ((s.errEntry h 9 t loop (4 * off)).raise h 22).report h 0x0B0D 2 loop [4 * off]
/-- A word enters the loop-write queue (R333): it replaces one queued for the same place; a full queue drops it. -/
def State.queueWord (s : State) (h : Half) (w : LoopWord) : State :=
  let same (x : LoopWord) : Bool := (x.mot == w.mot) && decide (x.loop = w.loop) && decide (x.off = w.off)
  if (s.half h).loopq.any same then
    (s.modHalf h (fun x => { x with loopq := x.loopq.map (fun y => if same y then w else y) })).satF
      (Apc.loopqStatus h) 31 16 1
  else if 1024 ≤ (s.half h).loopq.length then s.loopWrLost h w.task w.loop w.off
  else (s.modHalf h (fun x => { x with loopq := x.loopq ++ [w] })).queueShow h
/-- A word of a task for a loop (R333, R369): dropped with LOOP_ABSENT where the loop has no copy here. -/
def State.queueLoop (s : State) (h : Half) (t loop off : Nat) (w : Word) : State :=
  if (s.copySlotOf h loop).isNone then s.loopAbsent h t loop else s.queueWord h ⟨false, loop, off, w, t⟩
/-- The words of a task leave the queue (R345). -/
def State.dequeueTask (s : State) (h : Half) (t : Nat) : State :=
  (s.modHalf h (fun x => { x with loopq := x.loopq.filter (fun y => decide (y.task ≠ t)) })).queueShow h
/-- The words that LQW holds enter the queue (R369). -/
def State.queueHeld (s : State) (h : Half) (t : Nat) (l : List (Nat × Nat × Word)) : State :=
  l.foldl (fun (u : State) (e : Nat × Nat × Word) => u.queueLoop h t e.1 e.2.1 e.2.2) s

/-! ### Sources and substitution (R339) -/

/-- The source of a live-image byte offset (R328): kind (0 analogue card, 1 digital-input card, 2 output card, 3 link, 4
motion port, 5 station) and number, and whether the word there is one of the source's status and valid words.
DEDUCED: note 101. -/
def sourceOf (o : Nat) : Option (Nat × Nat × Bool) :=
  if o < 0x1000 then some (0, o / 256, decide (o % 16 = 4))
  else if o < 0x10C0 then some (1, o % 0x40 / 4, decide (0x1040 ≤ o))
  else if 0x2000 ≤ o ∧ o < 0x4000 then some (1, (o - 0x2000) / 512, decide (o % 16 = 0))
  else if 0x4000 ≤ o ∧ o < 0x4800 then some (3, (o - 0x4000) / 32, decide (o % 32 = 16) || decide (o % 32 = 24))
  else if 0x4800 ≤ o ∧ o < 0x4C00 then some (4, (o - 0x4800) / 32, decide (24 ≤ o % 32))
  else if 0x4C00 ≤ o ∧ o < 0x4C80 then some (2, (o - 0x4C00) / 16, decide (o % 16 = 8))
  else if 0x10000 ≤ o ∧ o < 0x110000 then
    some (5, (o - 0x10000) / 0x4000, decide (o % 0x4000 = 0) || decide (o % 0x4000 = 12))
  else none
/-! ### Lists of a task (R330-R333) -/

/-- Entry `i` of a list: the word at `base` + `size` * `i` + `w`. -/
def State.listWord (s : State) (h : Half) (t base size i w : Nat) : Word :=
  BitVec.ofNat 32 (s.taskWord h t (base + size * i + 4 * w))
/-- The used entries of a list of 512 (COUNT other than 0): word 0, COUNT, word 2. -/
def State.listOf (s : State) (h : Half) (t base size cbits : Nat) : List (Word × Nat × Word) :=
  (List.range 512).filterMap (fun i =>
    let c := bits (s.listWord h t base size i 1) cbits 0
    if c = 0 then none
    else some (s.listWord h t base size i 0, c, if size = 16 then s.listWord h t base size i 2 else 0))
/-- The words of an IN_LIST in order: live-image byte offset, EDGE, SUBST, SUBST_VALUE. -/
def State.inWords (s : State) (h : Half) (t : Nat) : List (Nat × Bool × Nat × Word) :=
  (s.listOf h t 0x100000 16 15).flatMap (fun e =>
    (List.range e.2.1).map (fun k => (4 * (bits e.1 19 0 + k), bit e.1 28, bits e.1 31 30, e.2.2)))

/-! ### Starts and stops (R345, R408) -/

/-- A task leaves its cycle and its core: nothing of it is sent (R338, R345). -/
def State.taskAbandon (s : State) (h : Half) (t : Nat) : State :=
  (s.corePop h t).modTask h t (fun x => { x with phase := 0, held := false, lines := [], ctx := {} })

/-- Whether an earlier task of a whole-half restart has its start routine still to end (R345 step 4). -/
def State.startsAhead (s : State) (h : Half) (t : Nat) : Bool :=
  (s.task h t).whole && (List.range 16).any (fun u =>
    decide (u ≠ t) && (s.task h u).whole && decide (4 ≤ (s.task h u).phase)
      && (decide (s.taskPrio h u < s.taskPrio h t) || (decide (s.taskPrio h u = s.taskPrio h t) && decide (u < t))))
/-- A task's part in a whole-half restart is over; RESTART_DONE with the last one (R345 step 5, R353). -/
def State.wholeLeave (s : State) (h : Half) (t : Nat) : State :=
  let done := (s.task h t).whole && !(List.range 16).any (fun u =>
    decide (u ≠ t) && (s.task h u).whole && decide (4 ≤ (s.task h u).phase))
  let s := s.modTask h t (fun y => { y with whole := false })
  if done then s.raise h 19 else s
/-- Step 5 of a start (R345), or the end of a take-over start (R408). -/
def State.startEnd (s : State) (h : Half) (t : Nat) : State :=
  let x := s.task h t
  let now := s.now h
  let s := if x.phase = 6 then s.queueHeld h t x.ctx.lqw else s
  let s := (s.corePop h t).modTask h t (fun y => { y with
    phase := 0
    ctx := {}
    start := 0
    notBefore := if x.start = 3 then now else now + 1000000 })
  let s := (s.setTaskState h t (s.restTask h)).fw (Apc.taskStatus h t) 17 16 x.start
  let s := (s.errEntry h 10 t 0xFFFF x.start).report h 0x0B04 0x10 t [x.start, s.fd (Apc.apcStatus h) 7 6]
  let s := match (s.half h).ctl.catchUp.find? (fun e => decide (e.1 = t)) with
    | some e =>
      if x.start = 3 then
        let s := s.modHalf h (fun y => { y with ctl := { y.ctl with catchUp := Map.del y.ctl.catchUp t } })
        ((s.modTask h t (fun y => { y with
          phase := 1
          release := e.2
          refused := []
          absent := [] })).wr64 (Apc.releaseLo h t) e.2).tally h (0x0030 + t)
      else s
    | none => s
  (s.wholeLeave h t).apcShow h
/-- Start routines that have their turn and their core begin; an entry offset of 0 passes at once (R345, R357, R408). -/
def State.startRun (s : State) (h : Half) (t : Nat) : State :=
  let x := s.task h t
  if x.phase ≠ 5 ∨ s.startsAhead h t then s
  else if s.hdr h t (8 + 4 * x.start) = 0 then s.startEnd h t
  else if s.canRun h t = false then s
  else
    let now := s.now h
    (s.modTask h t (fun y => { y with
      phase := 6
      startT := now
      ctx := s.entryCtx h t x.start now })).corePush h t
/-- Every start routine that can begins, in order of priority and number. -/
def State.startNext (s : State) (h : Half) : State :=
  (List.range 16).foldl (fun (v : State) (_ : Nat) =>
    ((List.range 16).foldl (fun (u : State) (t : Nat) => u.startRun h t) v)) s

/-- A task stops as under step 1 of R345. -/
def State.taskStop (s : State) (h : Half) (t cause : Nat) : State :=
  let s := (((s.taskAbandon h t).dequeueTask h t).bgStop h t).modTask h t (fun x => { x with whole := false })
  (((s.setTaskState h t 1).report h 0x0B03 0x10 t [cause]).apcShow h).startNext h

/-- The retained part of a data area (R343). -/
def State.retained (s : State) (h : Half) (t : Nat) : Map Byte :=
  let n := s.fd (Apc.retLen h t) 20 0
  (s.task h t).data.filter (fun e => decide (e.1 < n))
/-- The set a writeback makes of the present data (R343). -/
def State.retSet (s : State) (h : Half) (t : Nat) : RetSet :=
  ⟨s.rg (Apc.cycleCnt h t), s.rg (Apc.layoutId h t), s.retained h t, true⟩
/-- The newest complete set. -/
def TaskRun.newest (x : TaskRun) : Option RetSet := if x.newest1 then x.ret1 else x.ret0

/-! ### The switch (R348, R350) -/

/-- The timers that a TASK region's timer list assigns: timer, KIND, UNIT (R347). -/
def timerList (c : RegCopy) : List (Nat × Nat × Bool) :=
  (c.words.filter (fun e => decide (0x105000 ≤ e.1) && decide (e.1 < 0x106000) && bit e.2 31)).map
    (fun e => (bits e.2 11 0, bits e.2 13 12, bit e.2 14))
/-- The timers follow a new list (R350): an assigned timer with the same KIND and UNIT keeps its record. -/
def State.timersSwitch (s : State) (h : Half) (t : Nat) (l : List (Nat × Nat × Bool)) (keep : Bool) : State :=
  let s := (s.taskTimers h t).foldl (fun (u : State) (k : Nat) =>
    if l.any (fun e => decide (e.1 = k)) then u else ((u.tmClear h k).fw (Apc.timer h k 0) 12 0 0).wr (Apc.timer h k 1) 0) s
  l.foldl (fun (u : State) (e : Nat × Nat × Bool) =>
    let k := e.1
    let same := keep && u.tmOwned h k t && decide (u.tmKind h k = e.2.1) && (u.bt (Apc.timer h k 0) 4 == e.2.2)
    let u := if same then u else u.tmClear h k
    let w := e.2.1 + (u.bt (Apc.timer h k 0) 2).toNat * 4 + e.2.2.toNat * 16 + t * 256 + 4096
    u.wn (Apc.timer h k 0) w) s
/-- The previous values of the words whose SRC both lists name (R350). -/
def edgeCarry (old new : List (Nat × Bool × Nat × Word)) (last : Map (Option Word)) : Map (Option Word) :=
  (new.zip (List.range new.length)).foldl (fun (m : Map (Option Word)) (e : (Nat × Bool × Nat × Word) × Nat) =>
    match (old.zip (List.range old.length)).find? (fun f => decide (f.1.1 = e.1.1)) with
    | some f => Map.set (fun _ => none) m e.2 (Map.get (fun _ => none) last f.2)
    | none => m) []
/-- What every switch shows (R348): GEN, source 20, the error entry and the record. -/
def State.switched (s : State) (h : Half) (t us : Nat) : State :=
  let g := s.fd (Apc.taskStatus h t) 15 8
  let s := ((s.fw (Apc.taskStatus h t) 15 8 (g + 1)).raise h 20).errEntry h 11 t 0xFFFF ((g + 1) % 256)
  (s.report h 0x0B07 0x10 t [g, (g + 1) % 256, us]).bgStop h t
/-- A software commit of a task's unit: a switch without code, lists or carry (R350). -/
def State.softSwitch (s : State) (h : Half) (t : Nat) : State :=
  ((s.copyUnit ⟨16, some h, t⟩).settle h 16).switched h t 0
/-- A TASK region commits (R94, R348, R350): registers, code and lists, timers, edges and data take effect together. -/
def State.taskSwitch (s : State) (h : Half) (t : Nat) : State :=
  match s.readyCopy h (taskRegion t) with
  | none => s
  | some c =>
    let x := s.task h t
    let defined := decide (s.taskState h t ≠ 0)
    let old := s.inWords h t
    let s := (s.overrode h (taskRegion t) c ⟨16, some h, t⟩).regionRegs h (taskRegion t) c
    if c.remove then
      let s := ((s.taskAbandon h t).dequeueTask h t).timersSwitch h t [] false
      let s := ((s.report h 0x0B03 0x10 t [2]).bgStop h t).wr (Apc.taskStatus h t) 0
      let s := s.modTask h t (fun y => { ret0 := y.ret0, ret1 := y.ret1, newest1 := y.newest1 })
      (s.regionFinish h (taskRegion t) c).apcShow h
    else
      let s := s.timersSwitch h t (timerList c) defined
      let s := s.modImg h (fun y => { y with active := Map.ins y.active (taskRegion t) c })
      let new := s.inWords h t
      let len := s.fd (Apc.dataLen h t) 28 0
      let s := s.modTask h t (fun y => { y with
        data := if x.prep = 0 then c.initData len else x.newData
        newData := []
        prep := 0
        held := false
        last := if defined then edgeCarry old new x.last else [] })
      let s := if defined then s
        else (s.setTaskState h t (s.restTask h)).fw (Apc.taskStatus h t) 17 16 1
      ((s.switched h t x.carryT).regionFinish h (taskRegion t) c).apcShow h

/-- A restart of one task begins (R345 step 1): a region that waits for its switch commits first (R351). -/
def State.startBegin (s : State) (h : Half) (t kind : Nat) (whole : Bool) : State :=
  let s := (s.taskAbandon h t).dequeueTask h t
  let s := if (s.task h t).prep ≠ 0 then s.taskSwitch h t else s
  let s := s.bgStop h t
  if s.taskState h t = 0 then s
  else (s.setTaskState h t 6).modTask h t (fun x => { x with phase := 4, start := kind, whole := whole })
/-- A restart of every task (R345): RESTARTING, with its kind and cause. -/
def State.restartAll (s : State) (h : Half) (kind cause : Nat) : State :=
  let ts := (List.range 16).filter (fun t => decide (s.taskState h t ≠ 0))
  let s := ts.foldl (fun (u : State) (t : Nat) => u.startBegin h t kind true) s
  let n := s.fd (Apc.apcStatus h) 31 16 + 1
  let s := ((s.fw (Apc.apcStatus h) 5 4 kind).fw (Apc.apcStatus h) 7 6 cause).fw (Apc.apcStatus h) 31 16 n
  s.apcShow h
/-- The data, timers, edges and substitutes of a start are built (R345 steps 2 and 3). -/
def State.startBuild (s : State) (h : Half) (t : Nat) : State :=
  let x := s.task h t
  let len := s.fd (Apc.dataLen h t) 28 0
  let init : Map Byte := match s.activeCopy h (taskRegion t) with
    | some c => c.initData len
    | none => []
  let bad : Option Nat := if x.start ≠ 2 then none else match x.newest with
    | none => some 2
    | some r => if r.layout ≠ s.rg (Apc.layoutId h t) then some 0 else if r.good = false then some 1 else none
  let s := match bad with
    | some n => s.report h 0x0B05 0x10 t [n]
    | none => s
  let kind := if bad.isSome then 1 else x.start
  let n := s.fd (Apc.retLen h t) 20 0
  let kept : Map Byte := match x.newest with
    | some r => r.bytes
    | none => []
  let data := if kind = 2 then
      kept.foldl (fun (m : Map Byte) (e : Nat × Byte) => Map.set (fun _ => 0) m e.1 e.2) (init.filter (fun e => decide (n ≤ e.1)))
    else init
  let s := s.modTask h t (fun y => { y with
    data := data
    last := []
    cur := []
    lines := []
    start := kind })
  let r := s.retSet h t
  let s := if kind = 1 then s.modTask h t (fun y => { y with
      ret0 := some r
      ret1 := some r
      writing := none })
    else s
  let s := (s.taskTimers h t).foldl (fun (u : State) (k : Nat) => u.tmClear h k) s
  (s.modTask h t (fun y => { y with phase := 5, absent := [] })).startNext h

/-- A take-over starts task `t` (R408): its TAKEOVER routine, then a catch-up cycle if one is due. -/
def State.takeoverStart (s : State) (h : Half) (t : Nat) : State :=
  ((s.setTaskState h t 6).modTask h t (fun x => { x with phase := 5, start := 3, whole := false })).startRun h t

/-! ### Faults of code (R372) and the end of a run (R357) -/

/-- A code fault in the run that core `c` executes (R370-R374): `pc` and `addr` as FAULT_PC and FAULT_ADDR. -/
def State.codeFault (s : State) (h : Half) (c : Nat) (x : Ctx) (code pc addr : Nat) : State :=
  let t := x.task
  let cyc := decide (x.kind = 0)
  let s := ((s.fw (Apc.codeFault h t) 7 0 code).satF (Apc.codeFault h t) 31 16 1).wn (Apc.faultPc h t) pc
  let s := s.wr64 (Apc.faultAddrLo h t) addr
  let s := if cyc then s.satF (Apc.codeFault h t) 15 8 1 else s
  let lim := s.fd (Apc.codeCfg h t) 15 8
  let stop := (cyc && (s.bt (Apc.codeCfg h t) 0 || (decide (lim ≠ 0) && decide (lim ≤ s.fd (Apc.codeFault h t) 15 8))))
    || decide (1 ≤ x.kind ∧ x.kind ≤ 3)
  let s := (s.errEntry h 12 t 0xFFFF code).raise h 23
  let s := s.report h 0x0B10 0x10 t [code, pc, addr, addr / 2 ^ 32, stop.toNat]
  if x.kind = 4 then s.modCore h c (fun y => { y with bg := none, bgOut := some t })
  else
    let now := s.now h
    let s := if s.taskKind h t = 2 then s.modTask h t (fun y => { y with errEnd := now }) else s
    let s := s.taskAbandon h t
    if stop then
      let s := ((s.dequeueTask h t).bgStop h t).setTaskState h t 1
      (((s.modTask h t (fun y => { y with start := 0 })).wholeLeave h t).apcShow h).startNext h
    else (s.setTaskState h t (s.restTask h)).startNext h
/-- A run ends (R357): a cycle's execute phase, a start routine, or a background run. DEDUCED: note 104. -/
def State.runEnd (s : State) (h : Half) (c : Nat) (x : Ctx) : State :=
  if x.kind = 4 then
    let now := s.now h
    s.modCore h c (fun y => { y with bg := none, bgEnd := some now })
  else if x.kind = 0 then s.modTask h x.task (fun y => { y with phase := 3, ctx := x })
  else ((s.modTask h x.task (fun y => { y with ctx := x })).startEnd h x.task).startNext h

end Sys2Proof.Machine
end

