-- ==== Sys2Proof/Machine/Drive.lean ====
section
/-! DEFINITION. Drive links (R192-R207, R223, R224). -/
namespace Sys2Proof.Machine

/-- The state of link `l` beyond its registers. -/
def State.lrun (s : State) (l : Nat) : LinkRun := Map.get (fun _ => {}) s.deck.links l
/-- Change it. -/
def State.modLink (s : State) (l : Nat) (f : LinkRun → LinkRun) : State :=
  s.modDeck (fun d => { d with links := Map.set (fun _ => {}) d.links l (f (Map.get (fun _ => {}) d.links l)) })
/-- LINK_STATUS.STATE: 0 OFF, 1 ACQUIRE, 2 UP (R201). -/
def State.linkState (s : State) (l : Nat) : Nat := s.fd (Drv.linkStatus l) 1 0
/-- FAULT_MAP follows the link's fault (R223). -/
def State.linkShow (s : State) (l : Nat) : State :=
  s.setMapBit (Drv.faultMap 0) l ((s.bt (Drv.linkCfg l) 0 && decide (s.linkState l ≠ 2))
    || s.bt (Drv.linkStatus l) 3 || s.bt (Drv.linkStatus l) 4)
/-- STATE becomes `n`; the link's words are substituted or no longer (R339). -/
def State.setLink (s : State) (l n : Nat) : State := ((s.fw (Drv.linkStatus l) 1 0 n).linkShow l).sourceEdge 3 l
/-- A counter of the link increases: ERR_MAP and the source of its connector (R223). -/
def State.linkCount (s : State) (l a : Nat) : State :=
  ((s.sat a).setMapBit (Drv.errMap 0) l true).raiseBoth (640 + 8 + l / 8)
/-- The gate-disable pair follows Lid and EN (R204); a fault ends with its condition (R205). -/
def State.gateShow (s : State) (l : Nat) : State :=
  let on := s.bt (Drv.linkCfg l) 0 && !s.lidOff (256 + l)
  if s.bt (Drv.linkStatus l) 2 = on then s
  else
    let s := (s.sb (Drv.linkStatus l) 2 on).sb (Drv.linkStatus l) (if on then 4 else 3) false
    let s := if on then s else s.modLink l (fun r => { r with gated := true })
    s.linkShow l

/-- A frame on the line (R193): its bytes between start and end of frame. -/
def frameChars (bs : List Byte) : List LinkChar := .k27_7 :: bs.map .data ++ [.k29_7]
/-- SYNC and IDLE (R193). -/
def syncChars (seq : Nat) : List LinkChar := [.k28_1, .data (BitVec.ofNat 8 seq)]
def idleChars : List LinkChar := [.k28_5, .data 0x50]
/-- Bytes with their CRC-16 after them, low byte first (R196). -/
def withCrc16 (bs : List Byte) : List Byte := bs ++ leBytes 2 (crc16 bs).toNat
/-- The bytes of a command frame (R194). -/
def cmdBytes (seq : Nat) (duty : List Nat) (ctrl : Nat) : List Byte :=
  withCrc16 (leBytes 1 1 ++ leBytes 1 seq ++ leBytes 2 (duty.getD 0 0) ++ leBytes 2 (duty.getD 1 0)
    ++ leBytes 2 (duty.getD 2 0) ++ leBytes 1 ctrl ++ leBytes 1 0)
/-- The little-endian number in bytes `i` to `i + n - 1` of a frame. -/
def leAt (bs : List Byte) (i n : Nat) : Nat := leNat ((bs.drop i).take n)
/-- A frame of the length of R195 whose CRC is right (R196). -/
def retCrcOk (bs : List Byte) : Bool := decide (bs.length = 20) && decide (withCrc16 (bs.take 18) = bs)
/-- The characters that the link sends between two frames or SYNCs: IDLE (R193); what left it since its last SYNC, that
SYNC first, is `tx`. -/
def State.linkLine (s : State) (l : Nat) : List LinkChar := (s.lrun l).tx ++ idleChars

/-- A command frame starts (R194, R199, R204): duties, PWM_EN, coast and stale marks. DEDUCED: note 82. -/
def State.cmdFrame (s : State) (l : Nat) (duty : List Nat) (pwm coast stale : Bool) : State :=
  let r := s.lrun l
  let gated := !s.bt (Drv.linkStatus l) 2 || r.gated
  let pwm := pwm && !gated && !coast
  let seq := s.fd (Drv.linkStatus l) 15 8
  let ctrl := pwm.toNat + coast.toNat * 2 + stale.toNat * 4 + gated.toNat * 8 + (if s.owner (40 + l) = some .b then 16 else 0)
  let s := s.wn (Drv.lastCmd0 l) (duty.getD 0 0 % 65536 + duty.getD 1 0 % 65536 * 65536)
  let s := (s.wn (Drv.lastCmd1 l) (duty.getD 2 0 % 65536 + ctrl * 65536 + seq * 2 ^ 24)).sb (Drv.linkStatus l) 5 stale
  let fell := stale && r.pwm && !pwm
  let miss := if stale then r.missRun else 0
  let s := s.modLink l (fun r => { r with
    started := true
    duty := duty
    pwm := pwm
    missRun := miss
    curSeq := some seq
    gated := !s.bt (Drv.linkStatus l) 2
    tx := r.tx ++ frameChars (cmdBytes seq duty ctrl) })
  if fell then s.reportDeck 0x0705 0x0C l [miss] else s
/-- The fields of link `l` that a routing entry names (R608). -/
def State.linkFields (s : State) (l : Nat) : List Nat :=
  (List.range 4).filter (fun f => bit (s.deckRoute (0x400 + 16 * l + 4 * f)) 31)
/-- The frame of a complete command (R198); an unbound link expects no command and never switches (R197).
DEDUCED: note 82. -/
def State.fullFrame (s : State) (l : Nat) : State :=
  let r := s.lrun l
  let fs := if s.bt (Drv.linkCfg l) 1 then s.linkFields l else []
  let w (f d : Nat) : Nat := if fs.contains f then (Map.get (fun _ => 0) r.words f).toNat else d
  s.cmdFrame l [w 0 0, w 1 0, w 2 0] (s.bt (Drv.linkCfg l) 1 && decide (w 3 1 ≠ 0)) r.coast false
/-- The frame starts as soon as every routed word has arrived (R198). -/
def State.tryFrame (s : State) (l : Nat) : State :=
  let r := s.lrun l
  let fs := if s.bt (Drv.linkCfg l) 1 then s.linkFields l else []
  if r.started = false ∧ fs.all (fun f => r.got.testBit f) then s.fullFrame l else s

/-- The receiver falls from UP (R201): 0 code errors, 1 no return frames. -/
def State.linkFall (s : State) (l cause : Nat) : State :=
  if s.linkState l = 2 then
    ((s.setLink l 1).linkCount l (Drv.syncLossCnt l)).reportDeck 0x0701 0x0C l [cause]
  else s

/-- The sample period of link `l` in us and its phase (R197): those of the loop it is bound to where its owner has placed it,
else IDLE_PERIOD at phase 0. DESIGN CHOICE: note 186. -/
def State.linkPer (s : State) (l : Nat) : Nat × Nat :=
  let idle := (clampNat 10 1000 (s.fd (Drv.linkTiming l) 25 16), 0)
  if s.bt (Drv.linkCfg l) 1 = false then idle
  else match s.owner (40 + l) with
    | none => idle
    | some h =>
      let e := loopMapAt h (s.fd (Drv.linkCfg l) 27 16)
      let t := Slot.timing h (s.fd e 12 0 % 4096)
      if s.fd e 17 16 = 0 ∨ s.fd t 9 0 = 0 then idle else (s.fd t 9 0, s.fd t 25 16)
/-- The number of the link's boundary at or before now (R132, R197). -/
def State.linkBoundary (s : State) (l : Nat) : Nat :=
  let p := s.linkPer l
  (s.fieldNow (40 + l) + (p.1 - p.2 % p.1) * 1000) / (p.1 * 1000)
/-- A link boundary, once each (R197, R200, R201): the previous sample's missing return is counted, with the code errors that the
receiver met in it outside frames (R193), and SYNC carries the next SEQ. DEDUCED: notes 82, 171. -/
def execDriveLinkSync (b : LinkSync) (s : State) : Host.Outcome State Fault Refusal :=
  let l := b.link
  .next (s.onDeck (fun s => 
    let k := s.linkBoundary l
    let now := s.fieldNow (40 + l)
    if s.bt (Drv.linkCfg l) 0 = false ∨ ((s.lrun l).synced ∧ (s.lrun l).syncK = k) then s
    else
      let s := if b.errs = 0 then s else (s.satF (Drv.errCodeCnt l) 31 0 (b.errs - 1)).linkCount l (Drv.errCodeCnt l)
      let r := s.lrun l
      let missed := r.synced && !r.accepted
      let s := if missed then s.linkCount l (Drv.retMissCnt l) else s
      let run := if missed then r.noRet + 1 else 0
      let s := if missed ∧ s.fd (Drv.linkCfg l) 15 8 ≤ run then s.linkFall l 1 else s
      let seq := (s.fd (Drv.linkStatus l) 15 8 + 1) % 256
      let s := s.fw (Drv.linkStatus l) 15 8 seq
      (s.modLink l (fun r => { r with
        got := 0
        words := []
        coast := false
        started := false
        accepted := false
        synced := true
        syncT := now
        syncK := k
        noRet := run
        prevSeq := r.curSeq
        curSeq := none
        tx := syncChars seq })).tryFrame l))
/-- The oldest command word on its way from half `h` reaches its link (R198): taken from the owner alone, and late once
the sample's frame has started. -/
def execDriveCmdWord (h : Half) (s : State) : Host.Outcome State Fault Refusal :=
  .next (match (s.half h).drvTx with
    | [] => s
    | c :: rest =>
      let s := s.modHalf h (fun x => { x with drvTx := rest })
      let l := c.idx
      s.deckCmd h (40 + l) (fun s =>
        if l < 64 ∧ c.sel < 4 ∧ s.bt (Drv.linkCfg l) 0 ∧ s.takes (0x400 + 16 * l + 4 * c.sel) c.loop c.j then
          (if (s.lrun l).started then s.linkCount l (Drv.cmdLateCnt l)
           else (s.modLink l (fun r => { r with
             got := r.got ||| 2 ^ c.sel
             words := Map.set (fun _ => 0) r.words c.sel c.word
             coast := r.coast || c.coast })).tryFrame l)
        else s))
/-- tick + CMD_DEADLINE passes with the command incomplete: the frame of R199. -/
def execCmdDeadline (l : Nat) (s : State) : Host.Outcome State Fault Refusal :=
  .next (s.onDeck (fun s => 
    let r := s.lrun l
    if s.bt (Drv.linkCfg l) 0 ∧ s.bt (Drv.linkCfg l) 1 ∧ r.synced ∧ r.started = false
        ∧ r.syncT + s.fd (Drv.linkTiming l) 15 0 * 10 ≤ s.fieldNow (40 + l) then
      let s := s.linkCount l (Drv.cmdMissCnt l)
      let run := r.missRun + 1
      let s := s.modLink l (fun r => { r with missRun := run })
      let hold := decide (s.fd (Drv.linkCfg l) 3 2 = 1) && decide (run ≤ s.fd (Drv.linkCfg l) 7 4)
      s.cmdFrame l r.duty (hold && r.pwm) false true
    else s))
/-- A return frame arrives (R195, R200); accepted, its words go to the routed inputs and the I/O image of both halves. One of
another length has no right CRC; one of another TYPE is no return frame. DEDUCED: note 171. -/
def execReturnFrame (l : Nat) (f : RetFrame) (s : State) : Host.Outcome State Fault Refusal :=
  .next (s.onDeck (fun s => 
    if s.linkState l ≠ 2 then s
    else if f.codeErr then s.linkCount l (Drv.errCodeCnt l)
    else if retCrcOk f.bytes = false then s.linkCount l (Drv.errCrcCnt l)
    else if leAt f.bytes 0 1 ≠ 0x81 then s
    else if leAt f.bytes 1 1 ≠ s.fd (Drv.linkStatus l) 15 8 then s.linkCount l (Drv.retStaleCnt l)
    else if (s.lrun l).accepted then s
    else
      let r := s.lrun l
      let s := s.modLink l (fun r => { r with accepted := true })
      let i := (leAt f.bytes 2 2, leAt f.bytes 4 2, leAt f.bytes 6 2)
      let vdc := leAt f.bytes 8 2
      let pos := leAt f.bytes 10 4
      let echo := leAt f.bytes 16 1
      let s := if r.prevSeq.isSome ∧ r.prevSeq ≠ some (echo) then s.linkCount l (Drv.echoMissCnt l) else s
      let t := if f.time < 65535 then f.time else 65535
      let s := s.fw (Drv.retTime l) 15 0 t
      let s := if t < s.fd (Drv.retTime l) 31 16 then s.fw (Drv.retTime l) 31 16 t else s
      let s := if s.fd (Drv.retTimeMax l) 15 0 < t then s.fw (Drv.retTimeMax l) 15 0 t else s
      let st := leAt f.bytes 14 2
      let s := s.fw (Drv.linkStatus l) 31 16 st
      let s := (s.wn (Drv.lastRet0 l) (i.1 + i.2.1 * 65536)).wn (Drv.lastRet1 l)
        (i.2.2 + vdc * 65536)
      let s := (s.wn (Drv.lastRet2 l) pos).wn (Drv.lastRet3 l) (st + echo * 65536 + leAt f.bytes 1 1 * 2 ^ 24)
      let cv := st.testBit 2
      let ws : List (Nat × Bool) := [(i.1, cv), (i.2.1, cv), (i.2.2, cv), (vdc, st.testBit 4),
        (pos, st.testBit 3), (st, true)]
      let s := (ws.zip (List.range 6)).foldl (fun t e => t.deliver 2 l e.2 e.1.2 (BitVec.ofNat 32 e.1.1)) s
      let valid := ((ws.zip (List.range 6)).map (fun e => if e.1.2 then 2 ^ e.2 else 0)).foldl (· + ·) 0
      s.image (0x4000 + 32 * l) [s.rn (Drv.lastRet0 l), s.rn (Drv.lastRet1 l), s.rn (Drv.lastRet2 l), s.rn (Drv.lastRet3 l),
        s.rn (Drv.linkStatus l), s.rn (Drv.retTime l), valid]))
/-- 64 consecutive characters without a code error, aligned on a comma (R201). -/
def execLinkUp (l : Nat) (s : State) : Host.Outcome State Fault Refusal :=
  .next (s.onDeck (fun s => if s.linkState l = 1 then
      ((s.setLink l 2).modLink l (fun r => { r with noRet := 0 })).reportDeck 0x0702 0x0C l [] else s))
/-- Four code errors within 64 characters, or RX_LOSS_LIMIT samples without a return frame (R201). -/
def execLinkDown (l cause : Nat) (s : State) : Host.Outcome State Fault Refusal :=
  .next (s.onDeck (fun s => s.linkFall l cause))
/-- GATE_OPEN begins or ends (R205): the pair is energised and its current below 4 mA. -/
def execGateOpen (l : Nat) (on : Bool) (current : Nat) (s : State) : Host.Outcome State Fault Refusal :=
  .next (s.onDeck (fun s => 
    if on then
      (if s.bt (Drv.linkStatus l) 2 ∧ s.bt (Drv.linkStatus l) 3 = false then
        ((s.sb (Drv.linkStatus l) 3 true).linkShow l).reportDeck 0x0703 0x0C l [current]
       else s)
    else (s.sb (Drv.linkStatus l) 3 false).linkShow l))
/-- GATE_FOREIGN begins or ends (R205): the pair is de-energised and its current above 1 mA. -/
def execGateForeign (l : Nat) (on : Bool) (current : Nat) (s : State) : Host.Outcome State Fault Refusal :=
  .next (s.onDeck (fun s => 
    if on then
      (if s.bt (Drv.linkStatus l) 2 = false ∧ s.bt (Drv.linkStatus l) 4 = false then
        ((s.sb (Drv.linkStatus l) 4 true).linkShow l).reportDeck 0x0704 0x0C l [current]
       else s)
    else (s.sb (Drv.linkStatus l) 4 false).linkShow l))
/-- LINK_CMD.CLEAR_COUNTS (R207). -/
def execLinkClearCounts (h : Half) (l : Nat) (s : State) : Host.Outcome State Fault Refusal :=
  .next (s.deckCmd h (40 + l) (fun s =>
    let s := [Drv.errCrcCnt l, Drv.errCodeCnt l, Drv.retMissCnt l, Drv.retStaleCnt l, Drv.echoMissCnt l, Drv.cmdMissCnt l,
      Drv.cmdLateCnt l, Drv.syncLossCnt l, Drv.retTimeMax l].foldl (fun t a => t.wr a 0) s
    s.wn (Drv.retTime l) 0xFFFF0000))
/-- LINK_CMD.RETRAIN (R206): the receiver seeks alignment again. -/
def execRetrain (h : Half) (l : Nat) (s : State) : Host.Outcome State Fault Refusal :=
  .next (s.deckCmd h (40 + l) (fun s => if s.linkState l = 2 then s.setLink l 1 else s))

/-- A commit of the link's unit (R198, R199, R201, R206); `o` is the state before. -/
def State.commitDrv (s o : State) (l : Nat) : State :=
  let per := (s.linkPer l).1
  let lim := per * 100 - 50
  let s := if lim < s.fd (Drv.linkTiming l) 15 0 then s.fw (Drv.linkTiming l) 15 0 lim else s
  let was := o.bt (Drv.linkCfg l) 0
  let is := s.bt (Drv.linkCfg l) 0
  let s := if is && !was then (s.modLink l (fun _ => {})).setLink l 1
    else if was && !is then (s.modLink l (fun r => { r with tx := [] })).setLink l 0 else s
  (s.gateShow l).linkShow l
/-- The owner of the link changes: words of the former owner are discarded (R206). -/
def State.linkOwner (s : State) (l : Nat) : State :=
  if (s.lrun l).started then s else s.modLink l (fun r => { r with got := 0, words := [], coast := false })

end Sys2Proof.Machine
end

