-- ==== Sys2Proof/Machine/Join.lean ====
section
/-! DEFINITION. When a JOINING half becomes STANDBY (R100, R412, R585). -/
namespace Sys2Proof.Machine

/-- The protected loops of half `h`'s active image. -/
def State.protectedLoops (s : State) (h : Half) : List Nat :=
  ((s.half h).img.active.filterMap (fun e =>
    let x := regionOf e.1
    if x.1 = 0x10 then some x.2 else none)).filter (s.isProtected h)
/-- Whether the active image ID of half `h` equals its partner's, and both hold an image (R100). -/
def State.imagesEqual (s : State) (h : Half) : Bool :=
  s.hasImage h && s.hasImage h.other && (s.rg (Mod.imgActiveIdLo h) == s.rg (Mod.imgActiveIdLo h.other))
    && (s.rg (Mod.imgActiveIdHi h) == s.rg (Mod.imgActiveIdHi h.other))
/-- Whether a JOINING half may align with its partner. -/
def State.mayAlign (s : State) (h : Half) : Bool :=
  decide (s.hstate h = 2) && decide (s.partner h = 4) && s.mirrorUp && s.runs h.other && s.imagesEqual h && s.majorsEqual h
/-- Whether every protected copy and every task is aligned; a task that is undefined counts as aligned. -/
def State.allAligned (s : State) (h : Half) : Bool :=
  (s.protectedLoops h).all (fun l => s.mapBit (HalfR.alignedMap h 0) l)
    && (List.range 16).all (fun t => decide (s.fd (Apc.taskStatus h t) 2 0 = 0) || s.bt (HalfR.alignStatus h) (16 + t))
/-- A JOINING half becomes STANDBY when every protected copy and every task is aligned (R412 step 4). -/
def State.joinCheck (s : State) (h : Half) : State :=
  if s.mayAlign h && s.allAligned h then
    let ms := (s.now h - (s.half h).ctl.joinT) / 1000000
    (((s.setHState h 3).raise h 71).report h 0x0D0C 1 h.num [ms]).startDone h
  else s

end Sys2Proof.Machine
end

