-- ==== Sys2Proof/Machine/Level.lean ====
section
/-! DEFINITION. The conditions of the level sources of the event controller (R60-R62 and the source tables of the
chapters), the pending bits as a core sees them, and the claim of a core (R63). -/
namespace Sys2Proof.Machine

/-- Some register of a run of `n` words from `a` is not zero. -/
def State.anySet (s : State) (a n : Nat) : Bool :=
  s.live.any (fun e => decide (a ≤ e.1) && decide (e.1 < a + 4 * n) && e.2 != 0)
/-- MOD and power sources (0-63). -/
def State.levelMod (s : State) (h : Half) (src : Nat) : Bool :=
  match src with
  | 6 => (List.range 4).any (fun k => decide (2 ≤ s.fd (Pnl.keyStatus k) 1 0)) || s.bt Pnl.pnlStatus 11
  | 12 => s.anySet (Mod.plcDisplaced h 0) 128
  | 13 => s.anySet (Mod.plcPrepRisk h 0) 128 || s.live.any (fun e => decide (Mod.plcEngLoad h 0 ≤ e.1)
      && decide (e.1 < Mod.plcEngLoad h 512) && bit e.2 31)
  | 17 => (List.range 16).any (fun t => decide (s.fd (Apc.taskStatus h t) 2 0 = 5))
  | 18 => decide (s.fd (Apc.errqWp h) 7 0 ≠ s.fd (Apc.errqRp h) 7 0)
  | 25 => !s.synced h
  | 27 => s.bt (Time.timeStatus h) 6
  | 28 => s.anySet (Time.cmpMap h 0) 2
  | 30 => decide (s.fd (Time.timeStatus h) 9 8 ≠ 1)
  | 32 => !s.bt (Pwr.pwrStatus h) 0 || !s.bt (Pwr.pwrStatus h) 1
  | 35 => s.anySet (Pwr.cardPwrMap h) 2
  | 36 => s.bt (Pwr.pwrStatus h) 7 || s.bt (Pwr.pwrStatus h) 8
  | 38 => (List.range 8).any (fun g => decide (s.fd (Pwr.genStatus h g) 2 0 = 6))
  | 40 => (List.range 4).any (fun b => decide (s.fd (Pwr.busStatus h b) 2 0 = 2))
  | 41 => (List.range 4).any (fun b => decide (s.fd (Pwr.busStatus h b) 2 0 = 4))
  | _ => false
/-- HALF, LID and TRK sources (64-255). -/
def State.levelHalf (s : State) (h : Half) (src : Nat) : Bool :=
  match src with
  | 65 => decide (s.partner h = 7) || (decide (s.hstate h = 4) && !s.bt (HalfR.halfStatus h) 4)
  | 66 => s.bt (HalfR.whistleStatus h) 2
  | 67 => decide (s.hstate h = 5)
  | 68 => s.bt (HalfR.trivetStatus h) 0
  | 69 => s.rg (HalfR.selfFault h) != 0
  | 73 => s.bt (HalfR.halfStatus h) 9
  | 129 => decide (s.fd Lid.lidStatus 31 16 ≠ 0)
  | 130 => s.bt Lid.lidStatus 2 || s.anySet (Lid.targetFaultMap 0) 11
  | 131 => s.bt Lid.lidStatus 3
  | 135 => s.live.any (fun e => decide (Lid.termStatus 0 ≤ e.1) && decide (e.1 < Lid.termStatus 512)
      && decide (bits e.2 1 0 = 1) && decide (s.fd (Lid.termCtrl ((e.1 - Lid.termStatus 0) / 4)) 1 0 = 2))
  | 136 => s.bt Lid.lidStatus 0 && !s.bt Lid.lidStatus 1
  | 193 => s.bt (Trk.trkCfg h) 0 && (List.range 2).any (fun p => !s.bt (Trk.portStatus h p) 4)
  | 194 => (List.range 64).any (fun st => s.bt (Trk.stnCfg h st) 0
      && (decide (s.fd (Trk.stnStatus h st) 2 0 = 0) || decide (s.fd (Trk.stnStatus h st) 2 0 = 3)))
  | 195 => decide (s.fd (Trk.trkStatus h) 10 8 = 7)
  | 196 => s.anySet (Trk.fenceMap h 0) 16
  | 197 => portFlag s.deck.trunk.baseBad 0 || portFlag s.deck.trunk.baseBad 1
  | _ => false
/-- CAN sources (256-319). -/
def State.levelCan (s : State) (h : Half) (p kind : Nat) : Bool :=
  let b := Can.objCfg h p 0
  let evt (bitNo : Nat) : Bool := s.live.any (fun e => decide (b ≤ e.1) && decide (e.1 < b + 0x30000)
    && decide ((e.1 - b) % 0x60 = 0) && bit e.2 6 && s.bt (e.1 + 8) bitNo)
  let st := s.fd (Can.canStatus h p) 2 0
  let w := s.rg (Can.canStatus h p)
  match kind with
  | 0 => evt 0
  | 2 => bit w 3 || decide (st = 4) || decide (st = 5) || decide (st = 6)
  | 3 => decide (st = 1) || bit w 4 || bit w 7 || bit w 6 || bit w 8 || evt 1
  | _ => false
/-- ANC, DIN, DOUT, DRV and MOT sources (320-703). DEDUCED: note 89. -/
def State.levelField (s : State) (src : Nat) : Bool :=
  if src < 576 then s.mapBit (Anc.condMap 0) (src - 320)
  else if src < 592 then
    let n := src - 576
    let c := s.rg (Din.diCardStatus n)
    !bit c 0 || decide (bits c 4 2 ≠ 0) || decide (bits c 15 8 ≠ 0) || s.rg (Din.diCondMap n) != 0
  else if 608 ≤ src ∧ src < 616 then
    let n := src - 608
    let c := s.rg (Dout.grpStatus n)
    !bit c 2 || decide (bits c 6 4 ≠ 0) || s.rg (Dout.doCondMap n) != 0
  else if 640 ≤ src ∧ src < 648 then (List.range 8).any (fun k => s.mapBit (Drv.faultMap 0) (8 * (src - 640) + k))
  else if 656 ≤ src ∧ src < 688 then
    let w := s.rg (Mot.portStatus (src - 656))
    decide (bits w 2 0 = 4) || bit w 4 || (bit w 3 && s.bt (Mot.portCfg (src - 656)) 0) || bit w 7
  else false
/-- TRAY, LOG and TALLY sources (704-767). DEDUCED: note 55. -/
def State.levelTray (s : State) (h : Half) (src : Nat) : Bool :=
  if src < 708 then s.rg (Tray.trayWp h (src - 704)) != s.rg (Tray.trayRp h (src - 704))
  else match src with
    | 712 => s.rg (Tray.trayWp h 8) != s.rg (Tray.trayRp h 8) && !s.bt (Tray.trayStatus h 8) 3
    | 722 => s.bt (Log.logStatus h) 0
    | 724 => s.bt (Log.flashStatus h) 8
    | 736 => (List.range 16).any (fun m => s.bt (Tray.mbrCfg h m) 0 && decide (s.fd (Tray.mbrStatus h m) 1 0 = 3))
    | 760 => s.live.any (fun e => decide (Tally.ctrCfg h 0 ≤ e.1) && decide (e.1 < Tally.ctrCfg h 256)
        && bit e.2 24 && bit e.2 18)
    | _ => false
/-- Whether engine `e` holds the condition of a level ENG kind (R61). -/
def State.engHolds (s : State) (h : Half) (e kind : Nat) : Bool :=
  let w := s.rg (Eng.engCond h e)
  match kind with
  | 0 => decide (bits w 7 0 ≠ 0)
  | 1 => decide (bits w 15 8 ≠ 0)
  | 2 => bit w 16
  | 3 => bit w 17
  | 6 => bit w 18
  | _ => false
/-- Whether a level source's condition holds in half `h`. -/
def State.levelCond (s : State) (h : Half) (src : Nat) : Bool :=
  if src < 64 then s.levelMod h src
  else if src < 256 then s.levelHalf h src
  else if src < 320 then s.levelCan h ((src - 256) / 4) (src % 4)
  else if src < 704 then s.levelField src
  else if src < 768 then s.levelTray h src
  else
    let k := src - 768
    (List.range 16).any (fun i => s.engHolds h (k / 8 * 16 + i) (k % 8))
/-- The pending bit of a source (R62). -/
def State.pendOf (s : State) (h : Half) (src : Nat) : Bool :=
  if isLevel src then s.levelCond h src else s.mapBit (Evc.pend h 0) src
/-- ENG_WHO of a kind of a cluster (R61). -/
def State.engWhoOf (s : State) (h : Half) (j : Nat) : Nat :=
  if isLevel (768 + j) then
    (List.range 16).foldl (fun (v : Nat) (i : Nat) => v + (s.engHolds h (j / 8 * 16 + i) (j % 8)).toNat * 2 ^ i) 0
  else s.fd (Evc.engWho h j) 15 0
/-- The enabled pending sources routed to core `c`, each with its PRIO (R63). -/
def State.claimable (s : State) (h : Half) (c : Nat) : List (Nat × Nat) :=
  ((s.live.filter (fun e => decide (Evc.srcCfg h 0 ≤ e.1) && decide (e.1 < Evc.srcCfg h 1024) && bit e.2 8
    && decide (bits e.2 2 0 = c))).map (fun e => ((e.1 - Evc.srcCfg h 0) / 4, bits e.2 5 4))).filter
      (fun e => s.pendOf h e.1)
/-- CLAIM[c]: the highest PRIO, then the lowest number (R63). -/
def State.claimOf (s : State) (h : Half) (c : Nat) : Word :=
  let m := s.rg (Evc.coreMask h c)
  let ok := (s.claimable h c).filter (fun e => decide (bits m 1 0 ≤ e.2))
  let best := ok.foldl (fun (b : Option (Nat × Nat)) (e : Nat × Nat) => match b with
    | none => some e
    | some x => if x.2 < e.2 ∨ (x.2 = e.2 ∧ e.1 < x.1) then some e else some x) none
  match best with
  | some e => if bit m 8 then 0x80000000 else BitVec.ofNat 32 e.1
  | none => 0x80000000
/-- The level sources asserted in a half, counted (R560). -/
def State.levelCount (s : State) (h : Half) : Nat :=
  ((List.range 1024).filter (fun n => isLevel n && s.levelCond h n)).length

/-! ### LEVEL events of Tally (R67-R69) -/

/-- The present value of a LEVEL event of R68; `none`: no such event. Those that turn on durations that no command carries
are free values. DESIGN CHOICE: note 24. -/
def State.levelEvent (s : State) (h : Half) (ev : Nat) : Option Bool :=
  let top (c : Nat) : Bool := match (s.core h c).stack with
    | t :: _ => let p := (s.task h t).phase; decide (p = 2) || decide (p = 3) || decide (p = 6)
    | [] => false
  if ev = 0 then some true
  else if 0x10 ≤ ev ∧ ev < 0x18 then some (top (ev - 0x10))
  else if 0x18 ≤ ev ∧ ev < 0x20 then
    some ((s.core h (ev - 0x18)).stack.isEmpty && (s.core h (ev - 0x18)).bg.isSome
      && !(s.half h).coreStopped.contains (ev - 0x18))
  else if 0x50 ≤ ev ∧ ev < 0x60 then
    let p := (s.task h (ev - 0x50)).phase
    some (decide (1 ≤ p) && decide (p ≤ 3))
  else if 0x60 ≤ ev ∧ ev < 0x68 then some (!bit (s.claimOf h (ev - 0x60)) 31)
  else if 0x900 ≤ ev ∧ ev < 0x920 then some (decide (s.trayRoom h (ev - 0x900 + 32) = 0))
  else if ev = 0xA15 then some (s.nextTag h).isNone
  else if [0xA50, 0xA51, 0xA52, 0xA53, 0xA58].contains ev then some (decide (s.trayRoom h (ev - 0xA50) = 0))
  else if (0x20 ≤ ev ∧ ev < 0x28) ∨ (0x100 ≤ ev ∧ ev < 0x300) ∨ ev = 0xA08 ∨ ev = 0xA82 then
    some (Config.levelOpen ev (s.half h).time.ticks)
  else none
/-- A 250 MHz tick of the counters on LEVEL events: MODE LEVEL counts the tick, MODE EDGE a change from 0 to 1 (R67). -/
def State.tickTally (s : State) (h : Half) : State :=
  s.onHalf h (fun s =>
    let now := ((s.tallyCfgs h).map (fun e => bits e.2 15 0)).filterMap (fun ev => (s.levelEvent h ev).map (fun v => (ev, v)))
    let old := (s.half h).levOld
    let s := (s.tallyOn h).foldl (fun (t : State) (e : Nat × Word) =>
      let ev := bits e.2 15 0
      if now.contains (ev, true) && (bit e.2 16 || old.contains (ev, false)) then t.tallyInc h e.1 else t) s
    s.modHalf h (fun x => { x with levOld := now }))

end Sys2Proof.Machine
end

