-- ==== Sys2Proof/Machine/Token.lean ====
section
/-! DEFINITION. Lid's tokens and change log (R311, R312, R315). PRESUMED: note 27. -/
namespace Sys2Proof.Machine

/-- Change Lid's hidden state. -/
def State.modLid (s : State) (f : LidSt → LidSt) : State := s.modDeck (fun d => { d with lid := f d.lid })

/-- The bytes of `n` words from register address `a`, little-endian. -/
def State.wordBytes (s : State) (a n : Nat) : List Byte := (List.range n).flatMap (fun i => leBytes 4 (s.rn (a + 4 * i)))

/-- SEQ of the newest change-log entry (R315); 0 before the first entry. DEDUCED: note 145. -/
def State.chgLast (s : State) : Nat := ((s.deck.lid.entries - 1 : Nat)) % 2 ^ 32

/-- One change-log entry, also written to the logbook as CHANGE (R315, R319). DEDUCED: note 69. -/
def State.chgEntry (s : State) (h : Half) (kind op8 data : Nat) : State :=
  let q := s.deck.lid.entries
  let bs := leBytes 4 q ++ leBytes 8 s.deckNow ++ leBytes 6 s.deckOpTime ++ leBytes 1 kind
    ++ leBytes 1 (h.num + op8 * 16) ++ leBytes 4 (s.rn Lid.configCrc) ++ leBytes 8 data
  let ws := (List.range 8).map (fun w => leNat ((bs.drop (4 * w)).take 4))
  let s := (List.range 8).foldl (fun t w => t.wn (Lid.chgLog (q % 4096) w) (ws.getD w 0)) s
  let s := (s.modLid (fun x => { x with entries := q + 1 })).wn Lid.chgSeq (q % 2 ^ 32)
  s.reportDeck 0x0A0A 1 h.num ws

/-- The token that the verifier, CHALLENGE and a purpose give (R311). DEDUCED: note 145. -/
def State.tokenFor (s : State) (purpose : Nat) : List Byte :=
  (sha256 (s.wordBytes (Lid.pwVerifier 0) 8 ++ s.wordBytes Lid.challengeLo 2 ++ [BitVec.ofNat 8 purpose])).take 8

/-- CHALLENGE takes the first 8 bytes of a digest. -/
def State.setChallenge (s : State) (digest : List Byte) : State :=
  (s.wn Lid.challengeLo (leNat (digest.take 4))).wn Lid.challengeHi (leNat ((digest.drop 4).take 4))

/-- A check of the token in two registers (R311): the result, and the state with the token consumed. While no password
is set no check is made (R312). DEDUCED: note 145. -/
def State.tokenCheck (s : State) (h : Half) (lo hi purpose : Nat) : Bool × State :=
  if s.bt Lid.lidStatus 1 = false then (true, s)
  else
    let tok := leBytes 4 (s.rn lo) ++ leBytes 4 (s.rn hi)
    let ok := !s.bt Lid.lidStatus 4 && decide (tok = s.tokenFor purpose)
    let digest := sha256 (s.wordBytes Lid.challengeLo 2 ++ leBytes 4 s.chgLast ++ leBytes 8 s.deckNow
      ++ leBytes 8 s.deck.ticks)
    let s := ((s.wr lo 0).wr hi 0).setChallenge digest
    if ok then (true, s.modLid (fun x => { x with failRun := 0 }))
    else
      let n := s.deck.lid.failRun + 1
      let now := s.deck.ticks
      let was := s.bt Lid.lidStatus 4
      let s := s.modLid (fun x => { x with failRun := n, blockT := if 3 ≤ n ∧ was = false then now else x.blockT })
      let s := if 3 ≤ n then s.sb Lid.lidStatus 4 true else s
      (false, ((s.raiseBoth 132).reportDeck 0x0A09 1 h.num [purpose]).chgEntry h 6 0 0)

end Sys2Proof.Machine
end

