-- ==== Sys2Proof/Machine/Reg.lean ====
section
/-! DEFINITION. The commands of the commit registers, the event controller, Tally and the cores (chapters 1 and 2) that
touch no other block. -/
namespace Sys2Proof.Machine

/-- The commit groups that a written word names. -/
def namedGroups (w : Word) : List Nat := (List.range 22).filter (bit w)

/-- A parity error stops an application core and raises source 4 (R20, R60). -/
def execCoreParity (h : Half) (core : Nat) (s : State) : Host.Outcome State Fault Refusal :=
  .next (s.onHalf h (fun s =>
    (s.modHalf h (fun x => { x with coreStopped := if x.coreStopped.contains core then x.coreStopped
      else x.coreStopped ++ [core] })).raise h 4))

/-- A write of CMT_LOCK (R57): set-only; the locks of field-deck groups are the same in both halves. Setting bit 5 is
entered in Lid's change log (R315). DEDUCED: note 48. -/
def execCmtLock (h : Half) (groups : Word) (s : State) : Host.Outcome State Fault Refusal :=
  .next (s.onHalf h (fun s => (namedGroups groups).foldl (fun t g =>
    if t.locked h g then t
    else if isDeckGroup g then
      let t := (t.sb (Cmt.cmtLock .a) g true).sb (Cmt.cmtLock .b) g true
      if g = 5 then t.chgEntry h 7 0 0 else t
    else t.sb (Cmt.cmtLock h) g true) s))

/-- The three fault flag registers of CMT: LATE_WRITE, STROBE_REFUSED, LOCKED_WRITE. -/
def cmtFlags (h : Half) : List Nat := [Cmt.cmtLateWrite h, Cmt.cmtStrobeRefused h, Cmt.cmtLockedWrite h]
/-- A write that clears fault flags; source 2 is raised again while any of the three stays non-zero ("CMT register
summary"). -/
def execCmtFaultFlagClear (h : Half) (reg : Nat) (val : Word) (s : State) : Host.Outcome State Fault Refusal :=
  .next (s.onHalf h (fun s =>
    let a := (cmtFlags h).getD reg (Cmt.cmtLateWrite h)
    let s := s.wr a (s.rg a &&& ~~~ val)
    if (cmtFlags h).any (fun x => s.rg x != 0) then s.raise h 2 else s))

/-- A written 1 at an edge source clears its pending bit and its count; `again` names the sources asserted in the same
fabric cycle, which stay pending (R62). The ENG_WHO bits of the edge kinds 4 and 5 are set with the event and all clear
with the pending bit. DEDUCED: note 40. DESIGN CHOICE: note 149. -/
def State.pendClear (s : State) (h : Half) (src : Nat) (again : Bool) : State :=
  if isLevel src then s
  else if again then s.raise h src
  else
    let s := (s.setMapBit (Evc.pend h 0) src false).fw (Evc.srcCnt h src) 15 0 0
    if 768 ≤ src then s.wr (Evc.engWho h (src - 768)) 0 else s
/-- A write of PEND[k] (R62). DEDUCED: note 40. -/
def execEvcPendClear (h : Half) (k : Nat) (val again : Word) (s : State) : Host.Outcome State Fault Refusal :=
  .next (s.onHalf h (fun s => (List.range 32).foldl (fun t i =>
    if bit val i then t.pendClear h (32 * k + i) (bit again i) else t) s))

/-- Whether the snapshot buffer of R66 at the present SNAP_BASE lies in the DDR window. SNAP_BASE is read half-relative, so
a base with station bit [35] set lies outside. DEDUCED: note 46. DESIGN CHOICE: note 152. -/
def State.snapFits (s : State) (h : Half) : Bool := inDdr (s.fd (Mod.snapBase h) 23 0 * 4096) 25186304
/-- SNAP_CMD.START (R64, R66): T is the first whole us of ship time at least 2 us ahead; ignored while one runs, and
aborted at once where the buffer leaves the DDR window. -/
def execSnapStart (h : Half) (cmd : Word) (s : State) : Host.Outcome State Fault Refusal :=
  .next (s.onHalf h (fun s =>
    if bit cmd 0 = false ∨ s.bt (Mod.snapStatus h) 0 then s
    else
      let q := s.fd (Mod.snapStatus h) 31 16 + 1
      let t := (s.now h + 2000 + 999) / 1000 * 1000
      let s := (s.wn (Mod.snapStatus h) (q % 65536 * 65536 + 1)).wr64 (Mod.snapTLo h) t
      if s.snapFits h then s.modHalf h (fun x => { x with snap := { t := some t } })
      else ((s.sb (Mod.snapStatus h) 0 false).fw (Mod.snapStatus h) 3 2 1).raise h 3))

/-! ### Tally (R67-R73) -/

/-- A core's read of CTR_LO: bits [31:0], with bits [47:32] to that core's latch (R71). -/
def execTallyCtrLoRead (h : Half) (core n : Nat) (s : State) : Host.Outcome State Fault Refusal :=
  .next (s.onHalf h (fun s =>
    let v := Map.get (fun _ => 0) (s.half h).ctr n
    s.modHalf h (fun x => { x with
      readData := Map.set (fun _ => 0) x.readData core (BitVec.ofNat 32 v)
      time := { x.time with latchTally := Map.set (fun _ => 0) x.time.latchTally core (BitVec.ofNat 32 (v / 2 ^ 32)) } })))
/-- A write of CTR_LO with CTR_HI_WR, in one cycle (R71). -/
def execTallyCtrLoWrite (h : Half) (n : Nat) (val : Word) (s : State) : Host.Outcome State Fault Refusal :=
  .next (s.onHalf h (fun s =>
    let v := s.fd (Tally.ctrHiWr h) 15 0 * 2 ^ 32 + val.toNat
    s.modHalf h (fun x => { x with ctr := Map.set (fun _ => 0) x.ctr n v })))
/-- A counter at 2^48 - 1 counts once more: it wraps to 0 and sets OVF (R70). -/
def execTallyWrap (h : Half) (n : Nat) (s : State) : Host.Outcome State Fault Refusal :=
  .next (s.onHalf h (fun s =>
    if Map.get (fun _ => 0) (s.half h).ctr n = 2 ^ 48 - 1 ∧ s.bt (Tally.ctrCfg h n) 17 then s.tallyInc h n else s))

/-- The 64-byte header and 256 slots of a dump record (R72). DEDUCED: note 45. -/
def State.dumpRecord (s : State) (h : Half) (seq : Nat) : List Byte :=
  leBytes 8 (s.now h) ++ leBytes 4 seq ++ leBytes 4 (s.fd (Tally.dumpCtrl h) 31 8) ++ List.replicate 48 0
    ++ (List.range 256).flatMap (fun n =>
      let c := s.rg (Tally.ctrCfg h n)
      leBytes 8 (Map.get (fun _ => 0) (s.half h).ctr n + (bit c 16).toNat * 2 ^ 48 + (bit c 24).toNat * 2 ^ 49
        + (bit c 17).toNat * 2 ^ 50))
/-- DUMP_LEN, at least 2 (R73). -/
def State.dumpLen (s : State) (h : Half) : Nat := let n := s.fd (Tally.dumpLen h) 23 0; if n < 2 then 2 else n
/-- The stream that consumes the dump ring takes every record it holds (R548). -/
def State.dumpPull (s : State) (h : Half) : Nat → State
  | 0 => s
  | n + 1 => match s.streamOf h 2 with
    | none => s
    | some st =>
      let rp := s.rn (Tally.dumpRp h)
      if s.rn (Tally.dumpWp h) = rp then s
      else
        let bs := s.bytes (h.base + s.fd (Tally.dumpBase h) 29 0 * 64 + rp * 2112) 2112
        State.dumpPull ((s.chunkAdd h st bs false).wn (Tally.dumpRp h) ((rp + 1) % s.dumpLen h)) h n
/-- The number of the dump period that ended last (R72): PERIOD us of ship time each. DESIGN CHOICE: note 186. -/
def State.dumpPer (s : State) (h : Half) : Nat := s.now h / (clampNat 10 10000000 (s.fd (Tally.dumpCtrl h) 31 8) * 1000)
/-- A dump is lost (R73). DESIGN CHOICE: note 153. -/
def State.dumpLose (s : State) (h : Half) : State := s.sat (Tally.dumpLost h)
/-- Every PERIOD us of ship time, once each: the counters are captured in one tick and written to the dump ring, or the dump is lost (R72, R73);
`busy`: the previous record is still being written. A ring outside the DDR window gives a bus error (R42) and writes
nothing. The first record after reset has sequence number 1. DESIGN CHOICE: notes 150, 153. -/
def execTallyDump (d : DumpTick) (s : State) : Host.Outcome State Fault Refusal :=
  let h := d.half
  .next (s.onHalf h (fun s =>
    let k := s.dumpPer h
    if s.bt (Tally.dumpCtrl h) 0 = false ∨ (s.half h).dumpK = some k then s
    else
    let s := s.modHalf h (fun x => { x with dumpK := some k })
    if d.busy then s.dumpLose h
    else
      let wp := s.rn (Tally.dumpWp h)
      let nx := (wp + 1) % s.dumpLen h
      let a := s.fd (Tally.dumpBase h) 29 0 * 64 + wp * 2112
      if s.bt (Tally.dumpCtrl h) 1 = false ∧ nx = s.rn (Tally.dumpRp h) then (s.dumpLose h).raise h 761
      else if inDdr a 2112 = false then s.busError h masterTally (h.base + a)
      else
        let q := (s.rn (Tally.dumpSeq h) + 1) % 2 ^ 32
        let s := s.setBytes (h.base + a) (s.dumpRecord h q)
        ((s.wn (Tally.dumpSeq h) q).wn (Tally.dumpWp h) nx).dumpPull h 1))

/-- A commit of group 2: PERIOD is clamped (R72). -/
def State.commitTally (s : State) (h : Half) : State :=
  s.fw (Tally.dumpCtrl h) 31 8 (clampNat 10 10000000 (s.fd (Tally.dumpCtrl h) 31 8))

end Sys2Proof.Machine
end

