-- ==== Sys2Proof/Machine/Place.lean ====
section
/-! DEFINITION. The commands of placement, migration, engine faults, slab clocks and snapshots (chapter 6, R20, R64-R66). -/
namespace Sys2Proof.Machine

/-! ### Moves (R179-R183, R190) -/

/-- What stops a move of loop `loop` to engine `e`: the RESULT of PLC_CMD_STATUS, or the target slot (R190).
DEDUCED: note 77. -/
def State.moveTarget (s : State) (h : Half) (loop e : Nat) : Except Nat Nat :=
  match s.slotOf h loop with
  | none => .error 6
  | some q =>
    let p := (s.half h).place
    let i := s.instAt h q
    if p.lost.any (fun l => decide (l.loop = loop)) then .error 6
    else if p.moves.any (fun m => decide (m.loop = loop)) then .error 2
    else if s.engUsable h e = false then .error 3
    else if pwrEngine e ≠ i.pwr ∨ s.slabAllowed h (s.plcWord h loop 0x10) i.pwr e = false then .error 4
    else if q / 8 = e then .error 1
    else match s.freeSlot h e with
      | none => .error 1
      | some d => if fits e (s.engInsts h e ++ [i]) true then .ok d else .error 1
/-- A PLC_CMD is accepted: BUSY. -/
def State.plcBegin (s : State) (h : Half) (op x : Nat) : State :=
  (s.modPlace h (fun p => { p with cmd := some (op, x) })).sb (Mod.plcCmdStatus h) 0 true
/-- PLC_CMD MOVE (R179); ignored while BUSY. DEDUCED: note 77. -/
def execPlcMove (h : Half) (loop e : Nat) (s : State) : Host.Outcome State Fault Refusal :=
  .next (s.onHalf h (fun s =>
    if s.bt (Mod.plcCmdStatus h) 0 then s
    else
      let t := s.plcBegin h 1 loop
      match s.moveTarget h loop e with
      | .error r => t.plcEnd h r
      | .ok d => match s.slotOf h loop with
        | some q => t.moveStart h loop q d 2
        | none => t.plcEnd h 6))
/-- One copy of an engine that empties starts its move under R173, if it has a place to go. -/
def State.moveOut (s : State) (h : Half) (cause q : Nat) : State :=
  let loop := s.slotLoop h q
  let i := s.instAt h q
  if (s.half h).place.moves.any (fun m => decide (m.loop = loop)) then s
  else match s.chooseEng h i (s.plcWord h loop 0x10) (q / 8) true with
    | none => s
    | some x => match s.freeSlot h x.1 with
      | some d => s.moveStart h loop q d cause
      | none => s
/-- PLC_CMD EVACUATE (R173): EXCLUDED, and every copy moves. -/
def execPlcEvacuate (h : Half) (e : Nat) (s : State) : Host.Outcome State Fault Refusal :=
  .next (s.onHalf h (fun s =>
    if s.bt (Mod.plcCmdStatus h) 0 then s
    else if s.mapBit (Mod.plcOos h 0) e then (s.plcBegin h 2 e).plcEnd h 3
    else
      let s := (s.plcBegin h 2 e).setExcluded h e true
      let qs := (List.range 8).filter (fun i => s.slotState h (8 * e + i) = 1 || s.slotState h (8 * e + i) = 2)
      let s := (qs.foldl (fun t i => t.moveOut h 2 (8 * e + i)) s).fw (Mod.plcCmdStatus h) 15 8 qs.length
      if (s.half h).place.moves.any (fun m => decide (m.src / 8 = e)) then s
      else s.plcEnd h (if qs = [] then 0 else 1)))
/-- PLC_CMD INCLUDE (R190). -/
def execPlcInclude (h : Half) (e : Nat) (s : State) : Host.Outcome State Fault Refusal :=
  .next (s.onHalf h (fun s =>
    if s.bt (Mod.plcCmdStatus h) 0 then s
    else
      let s := (s.plcBegin h 3 e).setExcluded h e false
      (s.modPlace h (fun p => { p with eccOut := p.eccOut.filter (· != e) })).plcEnd h 0))

/-- Whether CMT_HOLD or PIN holds a loop against the balancer (R56, R175). -/
def State.heldLoop (s : State) (h : Half) (loop : Nat) : Bool :=
  bit (s.plcWord h loop 0) 3 ||
    (List.range 8).any (fun c => s.bt (Cmt.cmtHold h c) 31 && decide (s.fd (Cmt.cmtHold h c) 11 0 = loop))
/-- The pre-copy ends (R181 step 2): the target holds the descriptor views, coefficient banks and table area. A balancer
move whose loop is held by now is abandoned (R183). DEDUCED: note 78. -/
def execPrecopyDone (h : Half) (loop : Nat) (s : State) : Host.Outcome State Fault Refusal :=
  .next (s.onHalf h (fun s => match s.moveOf h loop with
    | none => s
    | some m =>
      if m.copied then s
      else if m.cause = 1 ∧ s.heldLoop h loop then s.moveAbandon h m 1
      else
        let t := (s.copySlot h m.src h m.dst).setSlotState h m.dst 3
        t.modPlace h (fun p => { p with
          moves := p.moves.map (fun x => if x = m then { m with copied := true } else x) })))
/-- The tick of B (R181 steps 3 to 5): with the source's finish phase ended in time the copy goes over; balancer and
software moves wait for a snapshot's end (R65, R183), and a move that a region needs waits for the region's commit (R94,
R169). The finish phase of the preceding sample must have ended 250 ns before B, or 500 ns for a move between slabs. DEDUCED:
note 78. -/
def execMigrationBoundary (h : Half) (loop : Nat) (s : State) : Host.Outcome State Fault Refusal :=
  .next (s.onHalf h (fun s => match s.moveOf h loop with
    | none => s
    | some m =>
      if m.copied = false ∨ 16 ≤ m.tries ∨ (m.cause = 0 ∧ s.regionMarked h (2 + loop)) ∨ ((s.half h).snap.reached ∧ (m.cause = 1 ∨ m.cause = 2)) then s
      else if s.moveReady h m = false then s.moveMissed h m
      else s.migrate h m))
/-- No boundary met the final-transfer time within 16 (R181): the move is abandoned. -/
def execMigrationAbandoned (h : Half) (loop : Nat) (s : State) : Host.Outcome State Fault Refusal :=
  .next (s.onHalf h (fun s => match s.moveOf h loop with
    | some m => if m.copied ∧ 16 ≤ m.tries then s.moveAbandon h m 0 else s
    | none => s))

/-! ### The balancer (R174, R175) -/

/-- Corrected errors of engine `e` in the last second. -/
def State.eccSecond (s : State) (h : Half) (e : Nat) : Nat :=
  ((s.half h).place.ecc.filter (fun x => decide (x.2.1 = e) && decide (s.now h < x.1 + 1000000000))).foldl
    (fun n x => n + x.2.2) 0
/-- Whether the balancer may move the copy in slot `q` (R175). -/
def State.movable (s : State) (h : Half) (q : Nat) : Bool :=
  let loop := s.slotLoop h q
  let p := (s.half h).place
  let t := Map.get (fun _ => 0) p.lastMove loop
  decide (s.slotState h q = 1) && !s.mapBit (Mod.plcOos h 0) (q / 8) && !s.heldLoop h loop
    && !p.moves.any (fun m => decide (m.loop = loop)) && (decide (t = 0) || decide (t - 1 + 100000000 ≤ s.now h))
/-- The movable slots of engine `e`, largest load first, then by loop number. -/
def State.movableOf (s : State) (h : Half) (e : Nat) : List Nat :=
  sortBy (fun a b =>
    let x := s.instAt h a
    let y := s.instAt h b
    decide (y.load < x.load) || (decide (x.load = y.load) && decide (x.loop ≤ y.loop)))
    (((List.range 8).map (fun i => 8 * e + i)).filter (s.movable h))
/-- A balancer move of slot `q` to the engine R173 chooses, if that leaves it at or below `lim`. -/
def State.balMove (s : State) (h : Half) (q lim : Nat) : Option State :=
  let loop := s.slotLoop h q
  match s.chooseEng h (s.instAt h q) (s.plcWord h loop 0x10) (q / 8) true with
  | some x => if x.2 ≤ lim then (s.freeSlot h x.1).map (fun d => s.moveStart h loop q d 1) else none
  | none => none
/-- The first choice that gives a move. -/
def firstMove {α : Type} (f : α → Option State) : List α → Option State
  | [] => none
  | x :: l => match f x with
    | some t => some t
    | none => firstMove f l
/-- Cases 1 and 2 of R175: instances at risk, and overloaded engines. DEDUCED: note 80. -/
def State.balRisk (s : State) (h : Half) : Option State :=
  let risk := (List.range 4096).filter (fun n => s.mapBit (Mod.plcPrepRisk h 0) n)
  match firstMove (fun n => match s.slotOf h n with
    | some q => if s.movable h q then s.balMove h q 450000 else none
    | none => none) risk with
  | some t => some t
  | none => firstMove (fun e => firstMove (fun q =>
      if loadOk ((s.engInsts h e).filter (fun i => i.loop != s.slotLoop h q)) then s.balMove h q 450000 else none)
      (s.movableOf h e)) ((List.range 512).filter (fun e => s.bt (Mod.plcEngLoad h e) 31 && s.engUsable h e))
/-- Case 3 of R175 over a list of engines that ECC evacuation empties: each is EXCLUDED, up to the first that yields a move;
whether one did. DEDUCED: notes 80, 144. -/
def State.balEccList (s : State) (h : Half) : List Nat → State × Bool
  | [] => (s, false)
  | e :: es =>
    let t := if s.mapBit (Mod.plcExcluded h 0) e then s
      else (s.setExcluded h e true).modPlace h (fun p => { p with eccOut := e :: p.eccOut.filter (· != e) })
    match (((List.range 8).map (fun i => 8 * e + i)).find? (t.movable h)).bind (fun q => t.balMove h q 450000) with
    | some u => (u, true)
    | none => State.balEccList t h es
/-- Case 3 of R175. -/
def State.balEcc (s : State) (h : Half) : State × Bool :=
  if s.bt (Mod.plcBalCfg h) 1 = false then (s, false)
  else s.balEccList h ((List.range 512).filter (fun e => s.engUsable h e
    && (decide (16 ≤ s.eccSecond h e) || (s.half h).place.eccOut.contains e)))
/-- Case 4 of R175 in one domain: levelling from the most to the least loaded engine. DEDUCED: note 80. -/
def State.balLevel (s : State) (h : Half) (pwr : Bool) : Option State :=
  let hi := s.fd (Mod.plcBalLevels h) 15 0
  let lo0 := s.fd (Mod.plcBalLevels h) 31 16
  let lo := if hi < lo0 then hi else lo0
  let es := (List.range 512).filter (fun e => (pwrEngine e == pwr) && s.engUsable h e)
  let ld (e : Nat) : Nat := loadSum (s.engInsts h e)
  let top := es.foldl (fun b e => match b with
    | none => some e
    | some k => if ld k < ld e then some e else some k) none
  match top with
  | some e => if hi * 1000 < ld e ∧ es.any (fun k => decide (ld k < lo * 1000)) then
      firstMove (fun q => s.balMove h q (hi * 1000)) (s.movableOf h e) else none
  | none => none
/-- Whether INTERVAL us have passed since the balancer's last run (R175). -/
def State.balDue (s : State) (h : Half) : Bool := match (s.half h).place.balT with
  | some t => decide (t + clampNat 100 100000 (s.fd (Mod.plcBalCfg h) 31 8) * 250 ≤ (s.half h).time.ticks)
  | none => true
/-- The balancer's run begins: the displaced copies are tried again (R174). -/
def State.balBegin (s : State) (h : Half) : State :=
  (s.modPlace h (fun p => { p with balT := some (s.half h).time.ticks })).placeAll h (fun l => s.prioKey h l.loop)
/-- One run of the balancer, every INTERVAL us (R174, R175): displaced copies first, then at most one move. DEDUCED: note 80. -/
def execBalancerRun (h : Half) (s : State) : Host.Outcome State Fault Refusal :=
  .next (s.onHalf h (fun s =>
    if s.balDue h = false then s
    else
    let s := s.balBegin h
    if s.bt (Mod.plcBalCfg h) 0 = false ∨ (s.half h).snap.reached then s
    else match s.balRisk h with
      | some t => t
      | none =>
        let r := s.balEcc h
        if r.2 then r.1
        else ((r.1.balLevel h false).or (r.1.balLevel h true)).getD r.1))

/-! ### Slab clocks (R176-R178) -/

/-- Whether a slab calls for a step (R176): FIXED goes to FIX_STEP; TRACK goes up while `slack`, the lowest of its monitors
in units of 4 ps, is at least 40 ps and `power` in W is at most PWR_CAP, and down when one of them fails. -/
def State.stepWanted (s : State) (h : Half) (slab : Nat) (up : Bool) (slack power : Nat) : Bool :=
  let c := Mod.slabVfCfg h slab
  let st := s.fd (Mod.slabVfStatus h slab) 4 0
  let goal := if 16 < s.fd c 12 8 then 16 else s.fd c 12 8
  let good := decide (10 ≤ slack) && decide (power ≤ s.fd c 23 16)
  if s.bt c 0 then (if up then decide (st < goal) else decide (goal < st))
  else if up then decide (st < 16) && good else decide (0 < st) && !good
/-- One clock step up or down at most every 20 us (R176), with the voltage that the monitors then call for, up to 0.95 V: a
step up never lowers it. A step that the slab does not call for is not taken. DEDUCED: note 161. -/
def execSlabStep (h : Half) (slab : Nat) (up : Bool) (m : SlabMeas) (s : State) : Host.Outcome State Fault Refusal :=
  .next (s.onHalf h (fun s =>
    let a := Mod.slabVfStatus h slab
    let st := s.fd a 4 0
    let now := s.now h
    let last := Map.get (fun _ => 0) (s.half h).place.vfT slab
    if s.stepWanted h slab up m.slack m.power = false ∨ (last ≠ 0 ∧ now + 1 < last + 20000) then s
    else
      let v := clampNat (if up then s.fd a 15 8 else 0) 50 m.volt
      ((((s.fw a 15 8 v).fw a 4 0 (if up then st + 1 else st - 1)).modPlace h (fun p => { p with
        vfT := Map.set (fun _ => 0) p.vfT slab (now + 1) })).tally h (0x0940 + slab))))
/-- A monitor reports slack below 40 ps: one step down, and the voltage rises to `volt` (R178). -/
def execSlabLowSlack (h : Half) (slab slack volt : Nat) (s : State) : Host.Outcome State Fault Refusal :=
  .next (s.onHalf h (fun s =>
    let a := Mod.slabVfStatus h slab
    let s := ((s.satF a 31 24 1).fw a 23 16 slack).tally h (0x0944 + slab)
    let s := if s.fd a 4 0 = 0 then s else (s.fw a 4 0 (s.fd a 4 0 - 1)).tally h (0x0940 + slab)
    if s.fd a 15 8 < volt then s.fw a 15 8 (if 50 < volt then 50 else volt) else s))

/-! ### Faults (R184-R188) -/

/-- After engines went out of service, their copies look for new slots (R186, R188). -/
def State.replace (s : State) (h : Half) : State := s.placeAll h (s.lostKey h)
/-- A slab goes out of service (R184, R185) with its cause, and source 15. -/
def State.slabOut (s : State) (h : Half) (slab cause : Nat) : State :=
  let a := Mod.slabFault h slab
  let s := ((s.sb a 0 true).fw a 3 1 cause).fw a 15 8 0xFF
  let s := (List.range 128).foldl (fun t i => t.engineOut h (128 * slab + i) 0 false) s
  ((s.raise h 15).report h 0x0606 4 slab [s.rn a]).replace h
/-- A slab at 600 MHz and 0.95 V keeps low slack for 1 us (R178). -/
def execMonitorAtFloor (h : Half) (slab : Nat) (s : State) : Host.Outcome State Fault Refusal :=
  .next (s.onHalf h (fun s =>
    if s.fd (Mod.slabVfStatus h slab) 4 0 = 0 ∧ s.fd (Mod.slabVfStatus h slab) 15 8 = 50 then s.slabOut h slab 3 else s))
/-- One engine goes out of service and its copies are re-placed (R185, R186). `cause` is the row of R184. -/
def State.engineFault (s : State) (h : Half) (e cause clean : Nat) : State :=
  if s.mapBit (Mod.plcOos h 0) e then s
  else ((s.engineOut h e clean true).report h 0x0605 3 e [cause]).replace h
/-- An engine fault (R184): 0 RAM double-bit error, 1 table share, 2 datapath self-check; `clean` names the slots whose
words all read without a double-bit error (R186). DEDUCED: note 79. -/
def execEngineFault (h : Half) (e cause clean : Nat) (s : State) : Host.Outcome State Fault Refusal :=
  .next (s.onHalf h (fun s => s.engineFault h e cause clean))
/-- A read finds a double-bit error in an engine's RAM or table share (R20): an engine fault. -/
def execEccDoubleError (h : Half) (e : Nat) (table : Bool) (clean : Nat) (s : State) : Host.Outcome State Fault Refusal :=
  .next (s.onHalf h (fun s => s.engineFault h e table.toNat clean))
/-- A cluster arbiter or table-RAM control fails its self-check (R184): its 16 engines go out of service.
DEDUCED: note 79. -/
def execClusterFault (h : Half) (cluster : Nat) (s : State) : Host.Outcome State Fault Refusal :=
  .next (s.onHalf h (fun s =>
    let a := Mod.slabFault h (cluster / 8)
    let s := (s.fw a 3 1 6).sb a (8 + cluster % 8) true
    let s := (List.range 16).foldl (fun t i => t.engineOut h (16 * cluster + i) 0 false) s
    ((s.raise h 15).report h 0x0606 4 (cluster / 8) [s.rn a]).replace h))
/-- A slab fault with its cause (R184): 1 CLOCK_LOSS, 2 VOLT_LOOP, 3 MONITOR_AT_FLOOR, 4 OVER_TEMP, 5 SHARED_PARITY.
DEDUCED: note 79. -/
def execSlabFault (h : Half) (slab cause : Nat) (s : State) : Host.Outcome State Fault Refusal :=
  .next (s.onHalf h (fun s => s.slabOut h slab (if cause = 0 then 1 else cause)))
/-- A re-placed copy reaches its resume boundary (R187): 40 us after an engine fault; the event marks the boundary.
DEDUCED: note 81. -/
def execCopyResume (h : Half) (loop : Nat) (s : State) : Host.Outcome State Fault Refusal :=
  .next (s.onHalf h (fun s =>
    match (s.half h).place.lost.find? (fun l => decide (l.loop = loop)) with
    | some l => match l.dst with
      | some q => if l.engine ∧ s.now h < l.detect + 40000 then s else s.resume h l q
      | none => s
    | none => s))
/-- A pass of a slab's scrubber, with the engines and the counts of errors corrected in their RAMs since the pass before, those
that ordinary reads met among them (R20). DEDUCED: note 181. -/
def execScrubberPass (h : Half) (slab : Nat) (corrected : List (Nat × Nat)) (s : State) : Host.Outcome State Fault Refusal :=
  .next (s.onHalf h (fun s =>
    let now := s.now h
    let s := s.modPlace h (fun p => { p with ecc := p.ecc.filter (fun x => decide (now < x.1 + 1000000000)) })
    (corrected.filter (fun c => decide (c.1 / 128 = slab) && decide (c.2 ≠ 0))).foldl (fun t c =>
      if t.mapBit (Mod.plcOos h 0) c.1 then t
      else ((t.satF (Eng.eccCorrCnt h c.1) 31 0 c.2).sb (Eng.engCond h c.1) 17 true).modPlace h (fun p => { p with
        ecc := p.ecc ++ [(now, c.1, c.2)] })) s))

/-! ### Snapshots (R64-R66, R166) -/

/-- At T: the holds begin, each engine's state RAM goes into its trace buffer, and trace packets close (R65, R166).
DEDUCED: note 46. -/
def execSnapshotT (h : Half) (s : State) : Host.Outcome State Fault Refusal :=
  .next (s.onHalf h (fun s =>
    if (s.half h).snap.t.isNone ∨ (s.half h).snap.reached then s
    else
      let s := (List.range 4096).foldl (fun t q => t.traceClose h q 5) s
      let s := (List.range 512).foldl (fun t e => t.copyLive (engBase h e + 0x2000) (engBase h e + 0x6000) 0x2000) s
      let cc := (List.range 4).map (fun i => s.rg (Cmt.commitCnt h (18 + i)))
      let oos := (List.range 512).filter (fun e => s.mapBit (Mod.plcOos h 0) e)
      let s := (List.range 4096).foldl (fun t q =>
        let hi := decide (4 ≤ q % 8)
        if t.slotState h q = 0 ∧ (hi = false ∨ (t.run h q).packets = []) then t
        else
          let gone := if hi then (t.run h q).packets.filter (fun p => decide (p.moved < p.trayLen)) else []
          t.modRun h q (fun r => { r with
            snapGap := true
            gap := satAdd 65535 r.gap ((gone.map (fun p => p.count)).foldl (· + ·) 0)
            packets := if hi then [] else r.packets })) s
      s.modHalf h (fun x => { x with snap := { x.snap with reached := true, commitCnt := cc, oos := oos } })))
/-- The 4 KiB header of a snapshot buffer (R66). DEDUCED: note 45. -/
def State.snapHeader (s : State) (h : Half) : List Byte :=
  let bs := leBytes 4 1 ++ leBytes 4 h.num ++ leBytes 4 (s.rn (Mod.idHw h)) ++ leBytes 4 (s.rn (Mod.idFw h))
    ++ leBytes 8 (s.rd64 (Mod.snapTLo h)) ++ leBytes 4 (s.rn (Mod.snapStatus h))
    ++ (s.half h).snap.commitCnt.flatMap (fun w => leBytes 4 w.toNat)
    ++ leBytes 64 (((s.half h).snap.oos.map (fun e => 2 ^ e)).foldl (· + ·) 0)
  bs ++ List.replicate (4096 - bs.length) 0
/-- Write a range of registers or RAM words into memory as they read now. -/
def State.dumpWords (s : State) (dst src n : Nat) : State :=
  (List.range n).foldl (fun t i => t.setMemNat (dst + 4 * i) 4 (s.readPlain (src + 4 * i)).toNat) s
/-- The snapshot ends complete (R66): header, loop map and the four pages of every engine are in the buffer, the holds
end, source 3. -/
def execSnapshotDone (h : Half) (s : State) : Host.Outcome State Fault Refusal :=
  .next (s.onHalf h (fun s =>
    if (s.half h).snap.reached = false then s
    else
      let b := h.base + s.fd (Mod.snapBase h) 23 0 * 4096 % 2 ^ 35
      let s := (s.sb (Mod.snapStatus h) 0 false).sb (Mod.snapStatus h) 1 true
      let s := s.setBytes b (s.snapHeader h)
      let s := s.dumpWords (b + 0x1000) (loopMapAt h 0) 4096
      let s := (List.range 512).foldl (fun t e =>
        let d := b + 0x5000 + 0xC000 * e
        let t := (t.dumpWords d (engBase h e) 1024).dumpWords (d + 0x1000) (engBase h e + 0x1000) 1024
        let t := (List.range 2048).foldl (fun u i =>
          u.setMemNat (d + 0x2000 + 4 * i) 4 (s.rg (engBase h e + 0x6000 + 4 * i)).toNat) t
        (List.range 8192).foldl (fun u i =>
          u.setMemNat (d + 0x4000 + 4 * i) 4 (s.rg (engBase h e + 0x10000 + 4 * i)).toNat) t) s
      (s.modHalf h (fun x => { x with snap := {} })).raise h 3))
/-- A snapshot that runs is aborted (R66): 1 the buffer leaves the DDR window, 2 a take-over of this half.
DEDUCED: note 46. -/
def State.snapAbort (s : State) (h : Half) (cause : Nat) : State :=
  if s.bt (Mod.snapStatus h) 0 then
    (((s.sb (Mod.snapStatus h) 0 false).fw (Mod.snapStatus h) 3 2 cause).modHalf h (fun x => { x with snap := {} })).raise h 3
  else s

end Sys2Proof.Machine
end

