-- ==== Sys2Proof/Machine/Can.lean ====
section
/-! DEFINITION. The CAN ports: controllers, message objects, transmission, error states and ownership (chapter 16).
The sources are those of R504, the records those of R505. -/
namespace Sys2Proof.Machine

/-- Controller `p` of half `h` beyond its registers. -/
def State.can (s : State) (h : Half) (p : Nat) : CanRun := Map.get (fun _ => {}) (s.half h).can p
/-- Change it. -/
def State.modCan (s : State) (h : Half) (p : Nat) (f : CanRun → CanRun) : State :=
  s.modHalf h (fun x => { x with can := Map.set (fun _ => {}) x.can p (f (Map.get (fun _ => {}) x.can p)) })
/-- CAN_STATUS.STATE: 0 STOPPED, 1 TIMING_BAD, 2 INTEGRATING, 3 ERROR_ACTIVE, 4 ERROR_PASSIVE, 5 BUS_OFF, 6 RECOVERING,
7 MONITOR. -/
def State.canState (s : State) (h : Half) (p : Nat) : Nat := s.fd (Can.canStatus h p) 2 0
/-- Set it. -/
def State.canGo (s : State) (h : Half) (p n : Nat) : State := s.fw (Can.canStatus h p) 2 0 n
/-- Whether half `h` owns the port's resource group (R27, R384). -/
def State.canOwned (s : State) (h : Half) (p : Nat) : Bool := s.owns h (108 + p)
/-- MODE and FD_EN as applied: 1 NORMAL, 2 LISTEN_ONLY, else STOPPED. -/
def CanRun.mode (c : CanRun) : Nat := bits c.cfg 1 0
def CanRun.fdEn (c : CanRun) : Bool := bit c.cfg 2
/-- TEC and REC. -/
def State.tec (s : State) (h : Half) (p : Nat) : Nat := s.fd (Can.errCnt h p) 8 0
def State.recCnt (s : State) (h : Half) (p : Nat) : Nat := s.fd (Can.errCnt h p) 23 16
/-- The number of a CAN object as a record's source (R537). -/
def canObjNo (p k : Nat) : Nat := p * 2048 + k

/-- The enabled objects of a port. -/
def State.canObjs (s : State) (h : Half) (p : Nat) : List Nat :=
  let b := Can.objCfg h p 0
  (s.live.filter (fun e => decide (b ≤ e.1) && decide (e.1 < b + 0x30000) && decide ((e.1 - b) % 0x60 = 0)
    && bit e.2 0)).map (fun e => (e.1 - b) / 0x60)
/-- An object's identifier: bits [10:0], or [28:0] with IDE (R489). -/
def canId (ide : Bool) (w : Word) : Nat := if ide then bits w 28 0 else bits w 10 0
/-- Whether object `k` carries an identifier and IDE. -/
def State.canIs (s : State) (h : Half) (p k : Nat) (ide : Bool) (id : Nat) : Bool :=
  (s.bt (Can.objCfg h p k) 2 == ide) && decide (canId ide (s.rg (Can.objId h p k)) = id)

/-- The length of a DLC code (R503). -/
def canLen (dlc : Nat) (fdf : Bool) : Nat :=
  if dlc ≤ 8 then dlc
  else if fdf = false then 8
  else [12, 16, 20, 24, 32, 48, 64].getD (dlc - 9) 64

/-! ### Timing (R485, R486) -/

/-- Clock periods of a nominal bit and of a data bit. -/
def nbtPeriods (w : Word) : Nat := (bits w 7 0 + 1) * (1 + (bits w 16 8 + 1) + (bits w 23 17 + 1))
def dbtPeriods (w : Word) : Nat := (bits w 4 0 + 1) * (1 + (bits w 12 8 + 1) + (bits w 19 16 + 1))
/-- Whether the timing meets R485, at a CAN clock of 80 MHz. -/
def canTimingOk (cfg nbt dbt : Word) : Bool :=
  let n := nbtPeriods nbt
  let d := dbtPeriods dbt
  decide (80 ≤ n) && decide (n ≤ 8000) && decide (8 ≤ 3 + bits nbt 16 8 + bits nbt 23 17) && decide (1 ≤ bits nbt 16 8)
    && (!bit cfg 2 || (decide (d ≤ n) && decide (16 ≤ d) && decide (5 ≤ 3 + bits dbt 12 8 + bits dbt 19 16)))

/-- The port takes the live mode and timing (R484, R490): it stops, finds the timing bad, or integrates.
DEDUCED: note 113. -/
def State.canApply (s : State) (h : Half) (p : Nat) : State :=
  let cfg := s.rg (Can.canCfg h p)
  let nbt := s.rg (Can.nbt h p)
  let dbt := s.rg (Can.dbt h p)
  let s := s.modCan h p (fun c => { c with cfg := cfg, nbt := nbt, dbt := dbt })
  let s := s.sb (Can.canStatus h p) 5 false
  if bits cfg 1 0 ≠ 1 ∧ bits cfg 1 0 ≠ 2 then s.canGo h p 0
  else if canTimingOk cfg nbt dbt then s.canGo h p 2
  else (s.canGo h p 1).report h 0x1006 0x18 p [nbt.toNat, dbt.toNat]
/-- A commit of the port registers (R486, R490): TRIPLE is decided, and a changed mode, timing, FD_EN or TRIPLE waits for
bus idle, but for a port that takes no part in the bus, which applies it at once (R484). DEDUCED: note 113. -/
def State.commitCan (s : State) (h : Half) (p : Nat) : State :=
  let cfg := s.rg (Can.canCfg h p)
  let n := nbtPeriods (s.rg (Can.nbt h p))
  let refused := bit cfg 3 && decide (n < 320)
  let was := s.bt (Can.canStatus h p) 4
  let s := s.sb (Can.canStatus h p) 4 refused
  let s := if refused && !was then s.report h 0x1007 0x18 p [80000000 / n] else s
  let c := s.can h p
  if bits cfg 3 0 = bits c.cfg 3 0 ∧ s.rg (Can.nbt h p) = c.nbt ∧ s.rg (Can.dbt h p) = c.dbt then
    s.sb (Can.canStatus h p) 5 false
  else if s.canState h p ≤ 1 then s.canApply h p
  else s.sb (Can.canStatus h p) 5 true

/-! ### Requests and their ends (R493, R494) -/

/-- A request of object `k` ends with a TX_STATE: TXEND_MAP, source TX_END, and the record of a failed one-shot.
DEDUCED: notes 112, 115. -/
def State.canEnd (s : State) (h : Half) (p k : Nat) (oneShot : Bool) (st : Nat) : State :=
  let s := (s.fw (Can.objStatus h p k) 7 4 st).setMapBit (Can.txendMap h p 0) k true
  let s := if s.bt (Can.objCfg h p k) 6 then s.raise h (256 + 4 * p + 1) else s
  if oneShot ∧ (st = 4 ∨ st = 5 ∨ st = 6) then s.report h 0x1004 0x19 (canObjNo p k) [k, st] else s
/-- The pending request of object `k` ends. -/
def State.canDrop (s : State) (h : Half) (p k st : Nat) : State :=
  match (s.can h p).pend.find? (fun e => decide (e.1 = k)) with
  | none => s
  | some e => (s.modCan h p (fun c => { c with pend := Map.del c.pend k })).canEnd h p k e.2.oneShot st
/-- Every pending object of the port ends. -/
def State.canDropAll (s : State) (h : Half) (p st : Nat) : State :=
  (s.can h p).pend.foldl (fun (t : State) (e : Nat × CanBuf) => t.canDrop h p e.1 st) s
/-- The object's transmit buffer as its registers give it. -/
def State.canBuf (s : State) (h : Half) (p k : Nat) : CanBuf :=
  let c := s.rg (Can.objCfg h p k)
  ⟨canId (bit c 2) (s.rg (Can.objId h p k)), bit c 2, bit c 5, bits c 11 8, bit c 3, bit c 4,
    (List.range 16).map (fun w => s.rg (Can.data h p k w))⟩
/-- A request becomes PENDING. -/
def State.canPend (s : State) (h : Half) (p k : Nat) (b : CanBuf) : State :=
  (s.modCan h p (fun c => { c with pend := Map.ins c.pend k b })).fw (Can.objStatus h p k) 7 4 1
/-- Whether the frame in flight is object `k`'s. -/
def CanRun.sends (c : CanRun) (k : Nat) : Bool := match c.sending with
  | some (j, _, true) => decide (j = k)
  | _ => false
/-- A request that ends at once; a request of the object that waited ends with it. DEDUCED: note 112. -/
def State.canRefuse (s : State) (h : Half) (p k : Nat) (oneShot : Bool) (st : Nat) : State :=
  (s.modCan h p (fun c => { c with pend := Map.del c.pend k })).canEnd h p k oneShot st

/-- A transmit request of object `k` (R493), by a write of TX_REQ, a periodic instant or a PWR request. -/
def State.canRequest (s : State) (h : Half) (p k : Nat) : State :=
  let cfg := s.rg (Can.objCfg h p k)
  let c := s.can h p
  let st := s.canState h p
  let one := bit cfg 5
  if bit cfg 0 = false ∨ bit cfg 1 = false then s
  else if s.canOwned h p = false ∨ c.mode = 2 then s.canRefuse h p k one 8
  else if (bit cfg 3 ∧ c.fdEn = false) ∨ (8 < bits cfg 11 8 ∧ bit cfg 3 = false) then s.canRefuse h p k one 9
  else if one ∧ (st = 5 ∨ st = 6) then s.canRefuse h p k one 6
  else
    let b := s.canBuf h p k
    if c.sends k then s.modCan h p (fun c => { c with held := some b }) else s.canPend h p k b

/-- OBJ_CMD.TX_REQ (R493). -/
def execTxReq (h : Half) (p k : Nat) (s : State) : Host.Outcome State Fault Refusal :=
  .next (s.onHalf h (fun s => s.canRequest h p k))
/-- The newest instant of a periodic object, in ns (R495): none before the first; a PHASE not below PERIOD acts as 0. -/
def State.canInstant (s : State) (h : Half) (p k : Nat) : Option Nat :=
  let n := s.fd (Can.objPeriod h p k) 15 0 * 1000000
  let f := s.fd (Can.objPeriod h p k) 31 16 * 1000000
  let f := if f < n then f else 0
  if n = 0 ∨ s.now h < f then none else some ((s.now h - f) / n * n + f)
/-- A periodic object's instant of ship time (R495); each instant requests once. DEDUCED: note 6. -/
def execCanPeriodic (h : Half) (p k : Nat) (s : State) : Host.Outcome State Fault Refusal :=
  .next (s.onHalf h (fun s => match s.canInstant h p k with
    | none => s
    | some t =>
      if t < Map.get (fun _ => 0) (s.can h p).perT k then s
      else (s.modCan h p (fun c => { c with perT := Map.set (fun _ => 0) c.perT k (t + 1) })).canRequest h p k))
/-- OBJ_CMD.ABORT (R494): a PENDING object ends ABORTED; one that is SENDING is not affected. -/
def execCanObjAbort (h : Half) (p k : Nat) (s : State) : Host.Outcome State Fault Refusal :=
  .next (s.onHalf h (fun s => if (s.can h p).sends k then s else s.canDrop h p k 7))

/-! ### Error states (R484, R496, R497) -/

/-- ERR_WARN follows the counters. -/
def State.canWarn (s : State) (h : Half) (p : Nat) : State :=
  s.sb (Can.canStatus h p) 3 (decide (96 ≤ s.tec h p) || decide (96 ≤ s.recCnt h p))
/-- The port enters BUS_OFF (R497). -/
def State.canBusOff (s : State) (h : Half) (p : Nat) : State :=
  let now := s.now h
  let s := ((s.canGo h p 5).sat (Can.busoffCnt h p)).modCan h p (fun c => { c with offSince := now, recovering := false })
  let s := ((s.can h p).pend.filter (fun e => e.2.oneShot)).foldl
    (fun (t : State) (e : Nat × CanBuf) => t.canDrop h p e.1 6) s
  s.report h 0x1002 0x18 p [(s.can h p).pend.length]
/-- The error state follows the counters (R484). -/
def State.canErr (s : State) (h : Half) (p : Nat) : State :=
  let s := s.canWarn h p
  let st := s.canState h p
  if st ≠ 3 ∧ st ≠ 4 then s
  else if 255 < s.tec h p then s.canBusOff h p
  else if 128 ≤ s.tec h p ∨ 128 ≤ s.recCnt h p then
    if st = 4 then s else (s.canGo h p 4).report h 0x1001 0x18 p [s.tec h p, s.recCnt h p]
  else s.canGo h p 3
/-- TEC and REC move; TEC stops at 256, REC at 255. -/
def State.canCount (s : State) (h : Half) (p tec rec : Nat) : State :=
  let a := Can.errCnt h p
  ((s.fw a 8 0 (if tec < 256 then tec else 256)).fw a 23 16 (if rec < 255 then rec else 255)).canErr h p
/-- The error state that the counters and a running recovery give. -/
def State.canResume (s : State) (h : Half) (p : Nat) : Nat :=
  if (s.can h p).mode = 2 then 3
  else if 255 < s.tec h p then (if (s.can h p).recovering then 6 else 5)
  else if 128 ≤ s.tec h p ∨ 128 ≤ s.recCnt h p then 4
  else 3

/-- A half has lost the port's group and no frame of it is in flight (R501). DEDUCED: note 114. -/
def State.canLeave (s : State) (h : Half) (p : Nat) : State :=
  let st := s.canState h p
  let n := (s.can h p).pend.length
  let s := (s.modCan h p (fun c => { c with leaving := false })).canDropAll h p 8
  let s := if 3 ≤ st then s.canGo h p 7 else s
  s.report h 0x1009 0x18 p [st, n]
/-- A half gains the port's group (R500). DEDUCED: note 114. -/
def State.canGain (s : State) (h : Half) (p : Nat) : State :=
  let now := s.now h
  let fwd := (s.can h p).fwd
  let s := s.modCan h p (fun c => { c with recovering := decide (c.fwd = 6), offSince := now, leaving := false })
  let s := s.sb (Can.errCnt h p) 24 false
  let s := if 2 ≤ s.canState h p then s.canGo h p 2 else s
  (s.canWarn h p).report h 0x1009 0x18 p [fwd, 0]
/-- Trivet has changed the owner of the port's group, which was `old` (R500, R501). DEDUCED: note 114. -/
def State.canOwner (s : State) (p : Nat) (old : Option Half) : State :=
  let f (t : State) (h : Half) : State :=
    let was := decide (old = some h)
    let has := t.canOwned h p
    t.onHalf h (fun t =>
      if was && !has then
        (if (t.can h p).sending.isSome then t.modCan h p (fun c => { c with leaving := true }) else t.canLeave h p)
      else if has && !was then t.canGain h p
      else t)
  f (f s .a) .b

/-! ### Reception (R491, R492) -/

/-- The stamp of a frame whose SOF was `ago` ns before now (R492, R520). -/
def State.canStamp (s : State) (p ago : Nat) : Nat := match s.owner (108 + p) with
  | some h => if s.timeState h = 0 then 0 else (s.now h - ago) / 4 * 4
  | none => if s.deck.timeState = 0 then 0 else (s.deckNow - ago) / 4 * 4
/-- The words of a payload cut at its length and filled up with 0. -/
def canWords (f : CanFrame) : List Nat :=
  let bs := (f.payload.take (canLen f.dlc f.fdf)) ++ List.replicate 64 0
  (List.range 16).map (fun w => leNat ((bs.drop (4 * w)).take 4))
/-- A frame is stored in object `k` (R491). DEDUCED: note 112. -/
def State.canStore (s : State) (h : Half) (p k : Nat) (f : CanFrame) (stamp : Nat) : State :=
  let a := Can.objStatus h p k
  let seq := s.fd a 31 16
  let s := (List.range 16).foldl (fun (t : State) (w : Nat) => t.wn (Can.data h p k w) ((canWords f).getD w 0)) s
  let s := ((((s.fw a 11 8 f.dlc).sb a 12 f.fdf).sb a 13 f.brs).sb a 14 f.esi).wr64 (Can.objTimeLo h p k) stamp
  let s := if s.bt a 0 then
      (((s.sb a 1 true).sat (Can.lostCnt h p)).setMapBit (Can.lostMap h p 0) k true).report h 0x1005 0x19 (canObjNo p k) [k]
    else s
  let s := ((s.sb a 0 true).setMapBit (Can.newMap h p 0) k true).fw a 31 16 (seq + 2)
  (s.sat (Can.rxCnt h p)).tally h (0x0A20 + p)
/-- One controller hears an error-free frame (R482, R491, R496, R499). DEDUCED: note 114. DESIGN CHOICE: note 19. -/
def State.canHear (s : State) (h : Half) (p : Nat) (f : CanFrame) (ago : Nat) : State :=
  let st := s.canState h p
  if s.deckHears h = false ∨ (st ≠ 3 ∧ st ≠ 4 ∧ st ≠ 7) ∨ (f.fdf ∧ (s.can h p).fdEn = false) then s
  else
    let stamp := s.canStamp p ago
    let s := if st = 7 ∨ (s.can h p).mode = 2 then s
      else
        let r := s.recCnt h p
        let fr := s.fresh
        if 127 < r then fr.2.canCount h p (s.tec h p) (119 + Config.recDrop fr.1 % 9)
        else s.canCount h p (s.tec h p) (r - 1)
    if f.rtr then s.sat (Can.rtrCnt h p)
    else match (s.canObjs h p).find? (fun k => !s.bt (Can.objCfg h p k) 1 && s.canIs h p k f.ide f.id) with
      | some k => s.canStore h p k f stamp
      | none => s.sat (Can.unmatchedCnt h p)

/-- An error-free frame of another node, whose SOF was `ago` ns before its last EOF bit: both halves hear it (R491). -/
def execCanFrameReceive (p : Nat) (f : CanFrame) (ago : Nat) (s : State) : Host.Outcome State Fault Refusal :=
  .next (s.onDeck (fun s => (s.canHear .a p f ago).canHear .b p f ago))

/-! ### Transmission (R494, R496) -/

/-- The arbitration field as a number: the bus lets the smallest win, a base frame before an extended one (R494). -/
def CanBuf.field (b : CanBuf) : Nat :=
  if b.ide then b.id / 2 ^ 18 * 2 ^ 19 + 2 ^ 18 + b.id % 2 ^ 18 else b.id * 2 ^ 19
/-- The pending object that wins. -/
def canFirst : Map CanBuf → Option (Nat × CanBuf)
  | [] => none
  | e :: m => match canFirst m with
    | none => some e
    | some f => if f.2.field < e.2.field then some f else some e

/-- The end of an intermission: the owning port offers its first object, which is SENDING (R494). -/
def execCanArbitration (p : Nat) (s : State) : Host.Outcome State Fault Refusal :=
  .next (s.onDeck (fun s => match s.owner (108 + p) with
    | none => s
    | some h =>
      let c := s.can h p
      let st := s.canState h p
      if s.deckHears h = false ∨ (st ≠ 3 ∧ st ≠ 4) ∨ c.mode ≠ 1 ∨ c.sending.isSome ∨ (s.can h.other p).sending.isSome then s
      else match canFirst c.pend with
        | none => s
        | some (k, b) =>
          ((s.modCan h p (fun c => { c with pend := Map.del c.pend k, sending := some (k, b, true) })).fw
            (Can.objStatus h p k) 7 4 2).sb (Can.canStatus h p) 7 false))

/-- The frame of a buffer as the bus carries it. -/
def CanBuf.frame (b : CanBuf) (esi : Bool) : CanFrame :=
  ⟨b.ide, false, b.id, b.fdf, b.brs, esi, b.dlc, b.data.flatMap (fun w => leBytes 4 w.toNat)⟩
/-- A request goes back to PENDING, or ends where its object is no longer enabled. -/
def State.canAgain (s : State) (h : Half) (p k : Nat) (b : CanBuf) : State :=
  if s.bt (Can.objCfg h p k) 0 then s.canPend h p k b else s.canEnd h p k b.oneShot 7

/-- A transmission ends (R487, R494, R496, R501): outcome 0 DONE, 1 lost arbitration, 2 error; `tecKept` an error under
which ISO 11898-1 leaves TEC; `delay` the loop delay measured in the frame, if it was; `ago` ns since SOF. -/
def execCanTxEnd (h : Half) (p outcome : Nat) (tecKept : Bool) (delay : Option Nat) (ago : Nat) (s : State) :
    Host.Outcome State Fault Refusal :=
  .next (s.onHalf h (fun s => match (s.can h p).sending with
    | none => s
    | some (k, b, mine) =>
      let d := if b.fdf && b.brs && s.bt (Can.tdcCfg h p) 0 then delay else none
      let ovr := match d with
        | some n => decide (127 < n)
        | none => false
      let s := match d with
        | some n => (s.fw (Can.tdcStatus h p) 6 0 (if n < 127 then n else 127)).sb (Can.canStatus h p) 8
            (ovr || s.bt (Can.canStatus h p) 8)
        | none => s
      let oc := if ovr then 2 else outcome
      let stamp := s.canStamp p ago
      let held := (s.can h p).held
      let s := (s.modCan h p (fun c => { c with sending := none, held := none })).sb (Can.canStatus h p) 7 false
      let s := if oc = 0 then
          let s := (s.sat (Can.txCnt h p)).tally h (0x0A30 + p)
          let s := if mine then (s.canEnd h p k b.oneShot 3).wr64 (Can.objTimeLo h p k) stamp else s
          s.canHear h.other p (b.frame (decide (s.canState h p = 4))) ago
        else if mine = false then s
        else if b.oneShot then s.canEnd h p k true (if oc = 1 then 4 else 5)
        else if held.isSome && s.bt (Can.objCfg h p k) 0 then s
        else s.canAgain h p k b
      let s := match held with
        | some b' => if mine && s.bt (Can.objCfg h p k) 0 then s.canPend h p k b' else s
        | none => s
      let s := if oc = 0 then s.canCount h p (s.tec h p - 1) (s.recCnt h p)
        else if oc = 2 then
          (s.sat (Can.errFrameCnt h p)).canCount h p (s.tec h p + (if tecKept then 0 else 8)) (s.recCnt h p)
        else s
      if (s.can h p).leaving then s.canLeave h p else s))

/-- A frame on the bus ends in an error that this half's receiver detects; `eight` an error that counts 8 (R496, R499). -/
def execCanRxError (h : Half) (p : Nat) (eight : Bool) (s : State) : Host.Outcome State Fault Refusal :=
  .next (s.onHalf h (fun s =>
    let st := s.canState h p
    if st = 7 then s.sat (Can.monErrCnt h p)
    else if st ≠ 3 ∧ st ≠ 4 then s
    else
      let s := s.sat (Can.errFrameCnt h p)
      if (s.can h p).mode = 2 then s else s.canCount h p (s.tec h p) (s.recCnt h p + (if eight then 8 else 1))))
/-- With FD_EN 0 a received FDF bit takes the port off the bus until bus idle (R482): it integrates again. -/
def execProtocolException (h : Half) (p : Nat) (s : State) : Host.Outcome State Fault Refusal :=
  .next (s.onHalf h (fun s =>
    let st := s.canState h p
    if (s.can h p).fdEn ∨ (st ≠ 3 ∧ st ≠ 4 ∧ st ≠ 7) then s else (s.sat (Can.protoExcCnt h p)).canGo h p 2))
/-- The transmit input has stayed dominant for the time-out (R483). -/
def execTxdTimeout (h : Half) (p : Nat) (s : State) : Host.Outcome State Fault Refusal :=
  .next (s.onHalf h (fun s => (s.sb (Can.canStatus h p) 7 true).report h 0x1008 0x18 p []))

/-! ### Recovery, integration and the partner (R484, R490, R498, R499) -/

/-- Recovery starts (R498). -/
def State.canRecover (s : State) (h : Half) (p : Nat) : State :=
  let now := s.now h
  if s.canState h p = 5 then (s.canGo h p 6).modCan h p (fun c => { c with recovering := true, recT := now }) else s
/-- CAN_CMD.RECOVER (R498): ignored in any state but BUS_OFF. -/
def execRecover (h : Half) (p : Nat) (s : State) : Host.Outcome State Fault Refusal :=
  .next (s.onHalf h (fun s => s.canRecover h p))
/-- RECOV_DELAY ms after BUS_OFF with AUTO_RECOVER (R498). -/
def execCanAutoRecover (h : Half) (p : Nat) (s : State) : Host.Outcome State Fault Refusal :=
  .next (s.onHalf h (fun s =>
    let d := s.fd (Can.recovCfg h p) 9 0
    if s.bt (Can.canCfg h p) 5 ∧ (s.can h p).offSince + (if d < 1000 then d else 1000) * 1000000 ≤ s.now h then
      s.canRecover h p
    else s))
/-- Whether a recovery has run for its 1,408 nominal bit times of 12.5 ns a clock period (R485, R498). -/
def State.canRecDone (s : State) (h : Half) (p : Nat) : Bool :=
  decide ((s.can h p).recT + 17600 * nbtPeriods (s.can h p).nbt ≤ s.now h)
/-- The 128th occurrence of 11 recessive bits (R498). -/
def execCanRecovered (h : Half) (p : Nat) (s : State) : Host.Outcome State Fault Refusal :=
  .next (s.onHalf h (fun s =>
    if s.canState h p ≠ 6 ∨ s.canRecDone h p = false then s
    else
      let ms := (s.now h - (s.can h p).offSince) / 1000000
      let s := (s.canGo h p 3).modCan h p (fun c => { c with recovering := false })
      (s.canCount h p 0 0).report h 0x1003 0x18 p [ms]))
/-- 11 recessive bits and bus idle end INTEGRATING (R484, R500); a recovery that was running counts from the beginning. -/
def execCanIntegrated (h : Half) (p : Nat) (s : State) : Host.Outcome State Fault Refusal :=
  .next (s.onHalf h (fun s =>
    if s.canState h p ≠ 2 then s
    else if s.canOwned h p = false then s.canGo h p 7
    else
      let now := s.now h
      (s.canGo h p (s.canResume h p)).modCan h p (fun c => { c with recT := now })))
/-- Bus idle after a commit of mode or timing (R490). -/
def execCanTimingApply (h : Half) (p : Nat) (s : State) : Host.Outcome State Fault Refusal :=
  .next (s.onHalf h (fun s => if s.bt (Can.canStatus h p) 5 then s.canApply h p else s))
/-- CAN_CMD.CLEAR_COUNTS (R503). -/
def execCanClearCounts (h : Half) (p : Nat) (s : State) : Host.Outcome State Fault Refusal :=
  .next (s.onHalf h (fun s =>
    let s := (List.range 9).foldl (fun (t : State) (i : Nat) => t.wr (Can.rxCnt h p + 4 * i) 0) s
    (s.sb (Can.canStatus h p) 6 false).sb (Can.canStatus h p) 8 false))
/-- The owner's counters and error state arrive at the partner (R499). -/
def execCanStateForward (p : Nat) (s : State) : Host.Outcome State Fault Refusal :=
  .next (s.onDeck (fun s => match s.owner (108 + p) with
    | none => s
    | some h =>
      let q := h.other
      if s.mirrorUp = false ∨ s.runs h = false ∨ s.runs q = false then s
      else
        let st := s.canState h p
        let fwd := if 3 ≤ st ∧ st ≤ 6 then st else s.canResume h p
        let a := Can.errCnt q p
        ((((s.fw a 8 0 (s.tec h p)).fw a 23 16 (s.recCnt h p)).sb a 24 true).modCan q p
          (fun c => { c with fwd := fwd })).canWarn q p))

/-! ### Objects (R489, R490) -/

/-- A write of OBJ_CFG (R489, R502): EN is refused to a duplicate, and the other bits but EVT stand still while EN is 1. -/
def State.canObjCfg (s : State) (h : Half) (p k : Nat) (val : Word) : State :=
  let a := Can.objCfg h p k
  if s.bt a 0 then
    let s := s.sb a 6 (bit val 6)
    if bit val 0 then s
    else (s.sb a 0 false).canDrop h p k 7
  else
    let s := s.wr a (val &&& 0xF7E)
    if bit val 0 = false then s
    else
      let id := canId (bit val 2) (s.rg (Can.objId h p k))
      if (s.canObjs h p).any (fun j => decide (j ≠ k) && s.canIs h p j (bit val 2) id) then
        (s.sb (Can.objStatus h p k) 2 true).sb (Can.canStatus h p) 6 true
      else (s.sb a 0 true).sb (Can.objStatus h p k) 2 false
def execObjCfgWrite (h : Half) (p k : Nat) (val : Word) (s : State) : Host.Outcome State Fault Refusal :=
  .next (s.onHalf h (fun s => s.canObjCfg h p k val))
/-- A write of 1 to NEW or LOST of OBJ_STATUS (R491). -/
def State.canObjAck (s : State) (h : Half) (p k : Nat) (val : Word) : State :=
  let a := Can.objStatus h p k
  let s := if bit val 0 then (s.sb a 0 false).setMapBit (Can.newMap h p 0) k false else s
  if bit val 1 then (s.sb a 1 false).setMapBit (Can.lostMap h p 0) k false else s
/-- A CAN region gives object `k` its image words (R490): an object with the same OBJ_CFG and OBJ_ID keeps its state and
received data, any other starts anew and its pending request ends ABORTED. -/
def State.canObjImage (s : State) (h : Half) (p k : Nat) (word : Nat → Word) : State :=
  let cfg := word 0 &&& 0xF7F
  let id := word 4 &&& 0x1FFFFFFF
  let same := decide (s.rg (Can.objCfg h p k) = cfg) && decide (s.rg (Can.objId h p k) = id)
  let put (t : State) (rx : Bool) : State :=
    let t := t.wr (Can.objPeriod h p k) (word 0x18)
    if rx then t
    else (List.range 16).foldl (fun (u : State) (w : Nat) => u.wr (Can.data h p k w) (word (0x20 + 4 * w))) t
  if same then put s (!bit cfg 1)
  else
    let s := s.canDrop h p k 7
    let st := if s.fd (Can.objStatus h p k) 7 4 = 7 then 7 else 0
    let s := if (s.can h p).sends k then
        s.modCan h p (fun c => { c with
          sending := c.sending.map (fun e => (e.1, e.2.1, false))
          held := none })
      else s
    let s := (s.canObjAck h p k 3).wn (Can.objStatus h p k) (st * 16)
    put (((s.wr64 (Can.objTimeLo h p k) 0).wr (Can.objCfg h p k) cfg).wr (Can.objId h p k) id) false

end Sys2Proof.Machine
end

