-- ==== Sys2Proof/Machine/Analog.lean ====
section
/-! DEFINITION. Analogue channels (R225-R264). Readings and values are binary32 patterns. -/
namespace Sys2Proof.Machine

/-- The state of channel `c` beyond its registers. -/
def State.chan (s : State) (c : Nat) : ChanRun := Map.get (fun _ => {}) s.deck.chans c
/-- Change it. -/
def State.modChan (s : State) (c : Nat) (f : ChanRun → ChanRun) : State :=
  s.modDeck (fun d => { d with chans := Map.set (fun _ => {}) d.chans c (f (Map.get (fun _ => {}) d.chans c)) })
/-- CH_STATUS.STATE: 0 ABSENT, 1 OFF, 2 SETTLING, 3 ACTIVE, 4 OFFLINE, 5 FAULT (R256). -/
def State.chState (s : State) (c : Nat) : Nat := s.fd (Anc.chStatus c) 2 0
/-- The mode in force: codes 10-15 act as OFF (R228). -/
def State.ancMode (s : State) (c : Nat) : Nat := let m := s.fd (Anc.chCfg c) 3 0; if m < 10 then m else 0
/-- Input and output modes. -/
def ancInput (m : Nat) : Bool := decide (1 ≤ m) && decide (m ≤ 6)
def ancOutput (m : Nat) : Bool := decide (7 ≤ m) && decide (m ≤ 9)
/-- Whether the channel runs FAST (R229). -/
def State.ancFast (s : State) (c : Nat) : Bool :=
  s.bt (Anc.chCfg c) 12 && decide (1 ≤ s.ancMode c) && decide (s.ancMode c ≤ 3)
/-- Whether a factory calibration of the channel's mode failed its check (R258). -/
def State.ancCalBad (s : State) (c : Nat) : Bool :=
  (Map.get (fun _ => 0) s.deck.ancBad (c / 16)).testBit (s.ancMode c)
/-- The magnitude of a binary32 pattern. -/
def b32abs (a : Nat) : Nat := a % 2 ^ 31
/-- Whether a routing entry of either half names the channel as a source (R235). -/
def State.ancRouted (s : State) (c : Nat) : Bool :=
  !(s.a.measEntries (fun w _ => decide (bits w 3 0 = 1) && decide (bits w 15 4 = c))).isEmpty
    || !(s.b.measEntries (fun w _ => decide (bits w 3 0 = 1) && decide (bits w 15 4 = c))).isEmpty

/-- FAST_REFUSED, ROUTE_MODE and COND_MAP follow the channel (R229, R235, R263). DEDUCED: note 85. -/
def State.chanShow (s : State) (c : Nat) : State :=
  let fast := s.ancFast c
  let s := (s.sb (Anc.chStatus c) 14 (s.bt (Anc.chCfg c) 12 && !fast)).sb (Anc.chStatus c) 19 (s.ancRouted c && !fast)
  let q := s.fd (Anc.chStatus c) 7 4
  let st := s.rg (Anc.chStatus c)
  s.setMapBit (Anc.condMap 0) c ((decide (s.ancMode c ≠ 0) && !bit st 8 && decide (q ≠ 7) && decide (q ≠ 8))
    || bit st 9 || bit st 10 || bit st 11 || bit st 15 || bit st 14 || bit st 19)

/-! ### Comparators (R251-R253) -/

/-- A path asserted or not by its hysteresis: `hi` for comparator HI, else LO. -/
def cmpPath (hi was : Bool) (v thr hyst : Nat) : Bool :=
  if hi then (if f32.le thr v then true else if f32.lt v (f32.sub thr hyst) then false else was)
  else (if f32.le v thr then true else if f32.lt (f32.add thr hyst) v then false else was)
/-- One evaluation of a comparator on the card's value and the island's (R251, R252). -/
def CmpRun.eval (x : CmpRun) (hi : Bool) (v isl thr hyst : Nat) : CmpRun :=
  let card := cmpPath hi x.card v thr hyst
  let il := cmpPath hi x.isl isl thr hyst
  let far := f32.lt hyst (b32abs (f32.sub v thr))
  let n := if card ≠ il ∧ far then x.diff + 1 else 0
  let ag := if card = il then x.agree + 1 else 0
  if x.dis then { x with
      isl := il
      card := card
      diff := 0
      agree := ag
      dis := decide (ag < 100) }
  else { x with
      isl := il
      card := card
      diff := n
      agree := 0
      dis := decide (3 ≤ n) }
/-- A comparator with no valid value: DEMAND asserts, HOLD keeps (R253); a disabled one never asserts. -/
def CmpRun.noValue (x : CmpRun) (demand : Bool) : CmpRun := if demand then { x with isl := true, card := true } else x
/-- A comparator as its rails drive it: the island path and the card path, both while in disagreement. -/
def CmpRun.rail (x : CmpRun) (island : Bool) : Bool := x.dis || (if island then x.isl else x.card)

/-- CMP_MAP, CMP_LO_ON, CMP_HI_ON and CMP_DISAGREE follow the comparators, with the record CMP_DISAGREE. -/
def State.cmpShow (s : State) (c : Nat) : State :=
  let x := s.chan c
  let lo := x.lo.rail true || x.lo.rail false
  let hi := x.hi.rail true || x.hi.rail false
  let dis := x.lo.dis || x.hi.dis
  let s := if dis && !s.bt (Anc.chStatus c) 15 then
      s.reportDeck 0x0817 6 c [x.lo.isl.toNat + x.hi.isl.toNat * 2, x.lo.card.toNat + x.hi.card.toNat * 2] else s
  let s := (s.setMapBit (Anc.cmpMap 0) (2 * c) lo).setMapBit (Anc.cmpMap 0) (2 * c + 1) hi
  ((s.sb (Anc.chStatus c) 15 dis).sb (Anc.chStatus c) 20 lo).sb (Anc.chStatus c) 21 hi
/-- The comparators after a change: on a new value and the island's reading of it, or on validity alone. -/
def State.ancCmp (s : State) (c : Nat) (ev : Option (Nat × Nat)) : State :=
  let thr := s.rn (Anc.cmpHyst c)
  let f (hi : Bool) (en : Bool) (lim : Nat) (x : CmpRun) : CmpRun :=
    if en = false then {}
    else if s.bt (Anc.chStatus c) 8 = false then x.noValue (!s.bt (Anc.cmpCfg c) 2)
    else match ev with
      | some (v, isl) => x.eval hi v isl lim thr
      | none => x
  (s.modChan c (fun x => { x with
    lo := f false (s.bt (Anc.cmpCfg c) 0) (s.rn (Anc.cmpLo c)) x.lo
    hi := f true (s.bt (Anc.cmpCfg c) 1) (s.rn (Anc.cmpHi c)) x.hi })).cmpShow c

/-! ### Quality (R237-R241) -/

/-- The ends of a temperature mode's standard range (R228). -/
def tempRange (m sensor : Nat) : Nat × Nat :=
  if m = 4 then (if sensor = 3 then (0xC2700000, 0x437A0000) else (0xC3480000, 0x44548000))
  else ((Config.tcLo sensor).toNat, (Config.tcHi sensor).toNat)
/-- The quality that the value alone gives (R238-R240): `old` is the quality before, for the ends of an alarm. -/
def valueQuality (m sensor : Nat) (ne43 : Bool) (old v : Nat) : Nat :=
  let a := b32abs v
  let neg := decide (2 ^ 31 ≤ v)
  if m = 1 then
    (if f32.lt 0x41400000 a then 6 else if f32.lt 0x41280000 a then (if neg then 1 else 2) else 0)
  else if m = 2 ∨ m = 3 then
    (if ne43 then
      (if f32.le v 0x40666666 || (decide (old = 3) && f32.le v 0x4069999A) then 3
       else if f32.le 0x41A80000 v || (decide (old = 4) && f32.le 0x41A7999A v) then 4
       else if f32.lt v 0x40733333 then 1
       else if f32.lt 0x41A40000 v then 2 else 0)
     else if f32.lt 0x41C80000 v then 6 else if f32.lt 0x41C00000 v then 2 else 0)
  else if m = 5 then
    (if f32.lt 0x45834000 v then 5 else if f32.lt 0x457A0000 v then 2 else 0)
  else
    let r := tempRange m sensor
    if m = 4 ∧ f32.lt (f32.add r.2 0x41200000) v then 5
    else if m = 4 ∧ f32.lt v (f32.sub r.1 0x41200000) then 14
    else if f32.lt r.2 v && f32.le v (f32.add r.2 0x41200000) then 2
    else if f32.lt v r.1 && f32.le (f32.sub r.1 0x41200000) v then 1 else 0
/-- The first code of R237 that applies. -/
def State.ancQuality (s : State) (c : Nat) : Nat :=
  let m := s.ancMode c
  let st := s.chState c
  let x := s.chan c
  if st = 0 then 9
  else if m = 0 then 12
  else if st = 4 then 8
  else if x.islFault then 10
  else if s.ancCalBad c then 11
  else if st = 2 then 7
  else if x.shunt || x.exLimit || x.clamp then 6
  else if ancOutput m then 0
  else
    let q := valueQuality m (s.fd (Anc.chCfg c) 6 4) (s.bt (Anc.chCfg c) 16) (s.fd (Anc.chStatus c) 7 4) (s.rn (Anc.value c))
    if q = 6 then 6
    else if m = 6 ∧ x.cjcBad ∧ s.bt (Anc.chCfg c) 18 = false then 13
    else if m = 6 ∧ x.openTc then 5
    else if (m = 4 ∨ m = 5) ∧ x.openWire then 5
    else q
/-- QUALITY and VALID follow, with the counts and records of an entry (R263, R264). DEDUCED: note 85. -/
def State.setQuality (s : State) (c q : Nat) : State :=
  let old := s.fd (Anc.chStatus c) 7 4
  let s := (s.fw (Anc.chStatus c) 7 4 q).sb (Anc.chStatus c) 8 (decide (q ≤ 2))
  if q = old then s
  else if q = 3 ∨ q = 4 then (s.satF (Anc.chCounts c) 15 0 1).reportDeck 0x0811 6 c [q, s.rn (Anc.value c)]
  else if q = 5 ∨ q = 14 then (s.satF (Anc.chCounts c) 31 16 1).reportDeck 0x0812 6 c [q, s.rn (Anc.value c)]
  else if q = 6 then (s.satF (Anc.chCounts c) 31 16 1).reportDeck 0x0813 6 c [s.ancMode c]
  else s
/-- The channel's unit of the I/O image (R328). -/
def State.ancImage (s : State) (c : Nat) : State :=
  s.image (16 * c) [s.rn (Anc.value c), s.rn (Anc.chStatus c), s.rn (Anc.valueT c), s.rn (Anc.readback c)]
/-- Quality, comparators, condition and I/O image after a change of the channel. -/
def State.ancRefresh (s : State) (c : Nat) (ev : Option (Nat × Nat)) : State :=
  ((((s.setQuality c (s.ancQuality c)).ancCmp c ev).chanShow c)).ancImage c

/-! ### Outputs (R242-R250) -/

/-- The limits of an output mode's range (R228). DEDUCED: note 85. -/
def outRange (m : Nat) : Nat × Nat :=
  if m = 9 then (0xC1280000, 0x41280000) else if m = 8 then (0x40600000, 0x41C00000) else (0, 0x41C00000)
/-- A value set into a range. -/
def b32into (v lo hi : Nat) : Nat := eMin (eMax v lo) hi
/-- The NE 43 level that ALARM_DIR names (R245). -/
def State.alarmLevel (s : State) (c : Nat) : Nat := if s.bt (Anc.chCfg c) 17 then 0x41AC0000 else 0x40600000
/-- The output takes a value: an active one at once, a passive one at its next update (R244); ALARM_DRIVEN follows: `alarm`
for an NE 43 level or SAFE_VALUE (R245). DEDUCED: note 87. -/
def State.ancTake (s : State) (c v : Nat) (alarm : Bool) : State :=
  let s := s.sb (Anc.chStatus c) 12 alarm
  if s.ancMode c = 8 then s.modChan c (fun x => { x with target := v, frameLost := false })
  else s.modChan c (fun x => { x with applied := v, target := v })
/-- The value of an output in SETTLING, and until its first command (R247, R256). -/
def State.ancRest (s : State) (c : Nat) : Nat := if s.ancMode c = 8 then 0x40600000 else 0
/-- The channel goes to that value at once (R256, R262). -/
def State.ancPut (s : State) (c : Nat) : State :=
  let v := s.ancRest c
  ((s.sb (Anc.chStatus c) 12 false).fw (Anc.chStatus c) 17 16 0).modChan c (fun x => { x with
    applied := v
    target := v
    falling := false
    frameLost := false
    passive := decide (s.ancMode c = 8) })
/-- The value with the user calibration (R260). -/
def State.ancDrive (s : State) (c u : Nat) (alarm : Bool) : State :=
  s.ancTake c (f32.div (f32.sub u (s.rn (Anc.userOffset c))) (s.rn (Anc.userGain c))) alarm
/-- SAFE_VALUE, limited by the mode's range alone (R243). -/
def State.ancSafe (s : State) (c : Nat) : Nat :=
  let r := outRange (s.ancMode c)
  b32into (s.rn (Anc.safeValue c)) r.1 r.2
/-- A channel's output drives its value while it is ACTIVE. -/
def State.ancApply (s : State) (c u : Nat) (alarm : Bool) : State := if s.chState c = 3 then s.ancDrive c u alarm else s
/-- The action of a missing command (R245). -/
def State.ancMissAct (s : State) (c : Nat) : State :=
  let a := s.fd (Anc.chCfg c) 21 20
  if a = 2 then s
  else s.ancApply c (if a = 1 ∨ s.ancMode c = 9 then s.ancSafe c else s.alarmLevel c) true
/-- An output that becomes ACTIVE drives its latest accepted command, or the action of a missing one (R245, R256); HOLD keeps
the latest accepted command, and one that never had any stays at rest (R247). -/
def State.ancResume (s : State) (c : Nat) : State :=
  if ancOutput (s.ancMode c) = false ∨ s.chState c ≠ 3 then s
  else if s.bt (Anc.chStatus c) 11 ∧ s.fd (Anc.chCfg c) 21 20 ≠ 2 then s.ancMissAct c
  else match (s.chan c).cmd with
    | some v => s.ancDrive c v false
    | none => s.ancTake c (s.ancRest c) false
/-- The command is missing: CMD_MISSING, its record and action (R245). DEDUCED: note 88. -/
def State.ancMissing (s : State) (c : Nat) : State :=
  if s.bt (Anc.chStatus c) 11 then s
  else
    let s := (s.sb (Anc.chStatus c) 11 true).reportDeck 0x0816 6 c [s.fd (Anc.chCfg c) 21 20]
    ((s.ancMissAct c).chanShow c).ancImage c
/-- An output command from the owner (R242-R244): missing at once when non-finite or coast-marked, else limited and
taken. -/
def State.ancCommand (s : State) (c : Nat) (w : Nat) (coast : Bool) : State :=
  if ancOutput (s.ancMode c) = false ∨ s.chState c = 4 then s
  else if coast || !f32.finite w then s.ancMissing c
  else
    let r := outRange (s.ancMode c)
    let u := b32into w (s.rn (Anc.outLo c)) (s.rn (Anc.outHi c))
    let v := b32into u r.1 r.2
    let s := (s.sb (Anc.chStatus c) 11 false).sb (Anc.chStatus c) 13 (!f32.eq u w || !f32.eq v u)
    let s := s.modChan c (fun x => { x with cmd := some v, cmdT := s.fieldNow (c / 16) })
    ((s.ancApply c v false).chanShow c).ancImage c
/-- MISS_US, held within its range (R245). DEDUCED: note 88. -/
def State.missNs (s : State) (c : Nat) : Nat := clampNat 10 16000000 (s.fd (Anc.chTiming c) 23 0) * 1000

/-- The oldest command word on its way from half `h` reaches its channel (R242): an engine's word where the route names
its loop and command, the I/O image's where the route names none. -/
def execAnalogOutCmd (h : Half) (s : State) : Host.Outcome State Fault Refusal :=
  .next (s.onDeck (fun s => match (s.half h).ancTx with
    | [] => s
    | w :: rest =>
      let s := s.modHalf h (fun x => { x with ancTx := rest })
      let refused := s.deckHears h && !s.owns h (w.idx / 16) && decide (4096 ≤ w.loop)
      let s := s.deckCmd h (w.idx / 16) (fun s =>
        let byRoute := if 4096 ≤ w.loop then !bit (s.deckRoute (4 * w.idx)) 31 else s.takes (4 * w.idx) w.loop w.j
        if w.idx < 256 ∧ s.bt (Anc.chCfg w.idx) 19 = false ∧ byRoute then s.ancCommand w.idx w.word.toNat w.coast else s)
      if refused then s.outputRefused h (w.loop - 4096) (w.idx / 16) else s))
/-- A write of OUT_VALUE: stored, and a command where OUT_SRC is REGISTER (R242). -/
def execOutValueWrite (h : Half) (c : Nat) (val : Word) (s : State) : Host.Outcome State Fault Refusal :=
  .next (s.deckCmd h (c / 16) (fun s =>
    let s := s.wr (Anc.outValue c) val
    if s.bt (Anc.chCfg c) 19 then s.ancCommand c val.toNat false else s))
/-- MISS_US has passed without an accepted command, or since SETTLING began (R245, R256). -/
def execAnalogCmdMissing (c : Nat) (s : State) : Host.Outcome State Fault Refusal :=
  .next (s.onDeck (fun s => 
    if ancOutput (s.ancMode c) ∧ s.chState c = 3 ∧ (s.chan c).cmdT + s.missNs c ≤ s.fieldNow (c / 16) then s.ancMissing c
    else s))

/-! ### Channel states (R256-R258) -/

/-- What ends with the mode the channel had, `m` being the new one. A shunt that its limiter holds open goes on between the
current inputs, OPEN_LOOP and COMPLIANCE between the current outputs (R241, R246). -/
def State.ancNewMode (s : State) (c m : Nat) : State :=
  let cur := decide (m = 2) || decide (m = 3)
  let out := decide (m = 7) || decide (m = 8)
  let dead := s.bt (Anc.chStatus c) 18
  let s := s.modChan c (fun x => { x with
    shunt := x.shunt && cur
    exLimit := false
    clamp := false
    cjcBad := false
    openTc := false
    openWire := false
    islFault := x.islFault && !dead
    cmd := none
    convT := none
    zcLastUp := none
    zcLastDown := none })
  let s := if out then s else (s.sb (Anc.chStatus c) 9 false).sb (Anc.chStatus c) 10 false
  [11, 12, 13, 18].foldl (fun (t : State) (b : Nat) => t.sb (Anc.chStatus c) b false) s
/-- The channel enters SETTLING, or FAULT while its island is faulty or its mode's calibration failed (R256, R258); what is
still wrong goes on (R241, R246, R250). -/
def State.ancSettle (s : State) (c : Nat) : State :=
  let m := s.ancMode c
  let now := s.fieldNow (c / 16)
  let tick := s.deck.ticks
  let s := s.modChan c (fun x => { x with
    cmdT := now
    setT := tick
    zcUp := false
    zcDown := false
    zcPrev := none })
  let s := (s.sb (Anc.chStatus c) 11 false).ancPut c
  if m = 0 then (s.fw (Anc.chStatus c) 2 0 1).ancRefresh c none
  else if s.ancCalBad c then
    let s := s.fw (Anc.chStatus c) 2 0 5
    let s := if ancOutput m then s.ancTake c (if m = 9 then s.ancSafe c else s.alarmLevel c) true else s
    s.ancRefresh c none
  else (s.fw (Anc.chStatus c) 2 0 (if (s.chan c).islFault then 5 else 2)).ancRefresh c none
/-- The island has failed (R250): quality ISLAND_FAULT, state FAULT; an OFFLINE channel leaves OFFLINE first (R256). -/
def State.ancIslFault (s : State) (c : Nat) : State :=
  let s := s.modChan c (fun x => { x with islFault := true })
  (if s.chState c = 4 then s else s.fw (Anc.chStatus c) 2 0 5).ancRefresh c none
/-- The conversion period in ns (R230): codes 5-7 act as 0. -/
def State.precNs (s : State) (c : Nat) : Nat :=
  match s.fd (Anc.chCfg c) 15 13 with
  | 1 => 20000000
  | 2 => 4000000
  | 3 => 1000000
  | 4 => 250000
  | _ => 100000000
/-- The settling time in deck ticks (R256): 5 ms for outputs, 1 ms in FAST, 2 conversion periods and 5 ms in PRECISION. -/
def State.settleFor (s : State) (c : Nat) : Nat :=
  if ancOutput (s.ancMode c) then 1250000
  else if s.ancFast c then 250000
  else 2 * s.precNs c / 4 + 1250000
/-- The settling time has passed (R256): ACTIVE; an output drives its latest accepted command, and a passive island is
configured (R250). DEDUCED: note 174. -/
def execSettlingEnd (c : Nat) (s : State) : Host.Outcome State Fault Refusal :=
  .next (s.onDeck (fun s => 
    if s.chState c = 2 ∧ (s.chan c).setT + s.settleFor c ≤ s.deck.ticks then
      let s := s.modChan c (fun x => { x with islDir := s.bt (Anc.chCfg c) 17 })
      ((s.fw (Anc.chStatus c) 2 0 3).ancResume c).ancRefresh c none
    else s))

/-! ### Calibration (R259-R261) -/

/-- The calibration in progress ends without effect (R261): 0 time-out, 1 commit, 2 owner change, 3 withdrawal. -/
def State.calAbort (s : State) (c cause : Nat) : State :=
  let x := s.chan c
  if s.fd (Anc.calStatus c) 2 0 = 0 ∧ x.calReq = false then s
  else
    let s := (s.fw (Anc.calStatus c) 2 0 0).fw (Anc.calStatus c) 5 3 3
    let s := s.modChan c (fun x => { x with calReq := false, calRun := 0, calLo := none, calHi := none })
    s.reportDeck 0x0822 6 c [cause]
/-- CAL_CMD is refused with REFUSED_STATE. -/
def State.calRefuse (s : State) (c : Nat) : State := s.fw (Anc.calStatus c) 5 3 1
/-- A CAL_CMD of half `h`: refused from a half that does not own the card or where `ok` fails (R259).
DEDUCED: note 87. -/
def State.calCmd (s : State) (h : Half) (c : Nat) (ok : State → Bool) (f : State → State) : State :=
  s.onHalf h (fun s =>
    if (s.half h).linkUp = false then s
    else if s.owns h (c / 16) = false then (s.deckRefuse h).calRefuse c
    else
      let s := s.modChan c (fun x => { x with calT := s.fieldNow (c / 16) })
      if ok s then f (s.fw (Anc.calStatus c) 5 3 0) else s.calRefuse c)
/-- The calibration step. -/
def State.calStep (s : State) (c : Nat) : Nat := s.fd (Anc.calStatus c) 2 0
/-- CAL_CMD.OFFLINE, from ACTIVE: OFFLINE at the next conversion. -/
def execCalOffline (h : Half) (c : Nat) (s : State) : Host.Outcome State Fault Refusal :=
  .next (s.calCmd h c (fun s => decide (s.chState c = 3) && !(s.chan c).calReq)
    (fun s => s.modChan c (fun x => { x with calReq := true, calRun := 0, calLo := none, calHi := none })))
/-- The conversions that a point of an input averages (R259). -/
def State.calNeed (s : State) (c : Nat) : Nat := if s.ancFast c then 1024 else 16
/-- A conversion's factory-calibrated reading counts toward the point being averaged (R259). DESIGN CHOICE: note 175. -/
def State.calAdd (s : State) (c v : Nat) : State :=
  let x := s.chan c
  if s.chState c = 4 ∧ x.calRun ≠ 0 ∧ x.calN < s.calNeed c then
    s.modChan c (fun x => { x with
      calN := x.calN + 1
      calSum := f64.add x.calSum (f32.cvt f64 v) })
  else s
/-- A calibration point is taken (R259 step 2). -/
def State.calTake (s : State) (c : Nat) (hi : Bool) (m : Nat) : State :=
  let r := s.rn (Anc.calRef c)
  (s.modChan c (fun x => if hi then { x with calHi := some (r, m), calRun := 0 }
    else { x with calLo := some (r, m), calRun := 0 })).fw (Anc.calStatus c) 2 0 (if hi then 3 else 2)
/-- A point begins: an output's measured value is CAL_MEAS, an input's the average to come. -/
def State.calPoint (s : State) (c : Nat) (hi : Bool) : State :=
  if ancOutput (s.ancMode c) then s.calTake c hi (s.rn (Anc.calMeas c))
  else s.modChan c (fun x => { x with
    calRun := if hi then 2 else 1
    calN := 0
    calSum := 0 })
/-- CAL_CMD.POINT_LO. -/
def execCalPointLo (h : Half) (c : Nat) (s : State) : Host.Outcome State Fault Refusal :=
  .next (s.calCmd h c (fun s => decide (s.chState c = 4) && decide (s.calStep c = 1) && decide ((s.chan c).calRun = 0))
    (fun s => s.calPoint c false))
/-- CAL_CMD.POINT_HI. -/
def execCalPointHi (h : Half) (c : Nat) (s : State) : Host.Outcome State Fault Refusal :=
  .next (s.calCmd h c (fun s => decide (s.chState c = 4) && decide (s.calStep c = 2) && decide ((s.chan c).calRun = 0))
    (fun s => s.calPoint c true))
/-- The average of the conversions counted (R259). DESIGN CHOICE: note 175. -/
def State.calAvg (s : State) (c : Nat) : Nat :=
  f64.cvt f32 (f64.div (s.chan c).calSum (f64.ofInt (s.calNeed c)))
/-- The averaging of the point `hi` of an input, if that point is the one being averaged, ends with its 16th conversion in
PRECISION, its 1,024th in FAST (R259). -/
def execCalPointTaken (c : Nat) (hi : Bool) (s : State) : Host.Outcome State Fault Refusal :=
  .next (s.onDeck (fun s => 
    if s.chState c = 4 ∧ (s.chan c).calRun = (if hi then 2 else 1) ∧ s.calNeed c ≤ (s.chan c).calN then
      s.calTake c hi (s.calAvg c)
    else s))
/-- The mode's span (R259 step 4). -/
def State.calSpan (s : State) (c : Nat) : Nat :=
  let m := s.ancMode c
  if m = 1 ∨ m = 9 then 0x41A80000
  else if m = 8 then 0x41A40000
  else if m = 5 then 0x457A0000
  else if m = 4 ∨ m = 6 then
    let r := tempRange m (s.fd (Anc.chCfg c) 6 4)
    f32.sub r.2 r.1
  else 0x41C00000
/-- CAL_CMD.APPLY: gain and offset computed, checked and sent to the card (R259 step 4). DEDUCED: note 84. -/
def execCalApply (h : Half) (c : Nat) (s : State) : Host.Outcome State Fault Refusal :=
  .next (s.calCmd h c (fun s => decide (s.chState c = 4) && decide (s.calStep c = 3))
    (fun s => match (s.chan c).calLo, (s.chan c).calHi with
      | some (rl, ml), some (rh, mh) =>
        let gain := f32.div (f32.sub rh rl) (f32.sub mh ml)
        let off := f32.sub rl (f32.mul gain ml)
        let lim := f32.mul 0x3C23D70A (s.calSpan c)
        if !f32.eq mh ml && f32.le 0x3F7AE148 gain && f32.le gain 0x3F828F5C && f32.le (b32abs off) lim then
          (s.modChan c (fun x => { x with calNew := (gain, off) })).fw (Anc.calStatus c) 2 0 4
        else s.fw (Anc.calStatus c) 5 3 2
      | _, _ => s.calRefuse c))
/-- The card's memory is written, or the write fails (R259 step 4, R260). -/
def execCalStoreDone (c : Nat) (ok : Bool) (s : State) : Host.Outcome State Fault Refusal :=
  .next (s.onDeck (fun s => 
    if s.calStep c ≠ 4 then s
    else if ok then
      let n := (s.chan c).calNew
      let s := (s.wn (Anc.userGain c) n.1).wn (Anc.userOffset c) n.2
      let s := (s.fw (Anc.calStatus c) 2 0 1).fw (Anc.calStatus c) 5 3 0
      let s := s.fw (Anc.calStatus c) 31 16 (s.fd (Anc.calStatus c) 31 16 + 1)
      let s := s.modChan c (fun x => { x with calLo := none, calHi := none })
      s.reportDeck 0x0821 6 c [n.1, n.2]
    else (s.fw (Anc.calStatus c) 2 0 3).fw (Anc.calStatus c) 5 3 4))
/-- The channel leaves OFFLINE for ACTIVE, and goes on to FAULT while its island is faulty (R256). -/
def State.calOnline (s : State) (c : Nat) : State :=
  let s := (s.fw (Anc.calStatus c) 2 0 0).fw (Anc.chStatus c) 2 0 (if (s.chan c).islFault then 5 else 3)
  let s := s.modChan c (fun x => { x with calReq := false, calRun := 0, calLo := none, calHi := none })
  (s.ancResume c).ancRefresh c none
/-- A calibration in progress ends without effect and the channel goes on (R261). -/
def State.calEnd (s : State) (c cause : Nat) : State :=
  if s.chState c = 4 then (s.calAbort c cause).calOnline c else s.calAbort c cause
/-- CAL_CMD.ONLINE (R259 step 5). -/
def execCalOnline (h : Half) (c : Nat) (s : State) : Host.Outcome State Fault Refusal :=
  .next (s.calCmd h c (fun s => decide (s.chState c = 4) && decide (s.calStep c ≠ 4)) (fun s => s.calOnline c))
/-- CAL_CMD.RESET_USER, in ACTIVE and OFFLINE (R260); an output that is ACTIVE drives its value anew. -/
def execCalResetUser (h : Half) (c : Nat) (s : State) : Host.Outcome State Fault Refusal :=
  .next (s.calCmd h c (fun s => (decide (s.chState c = 3) || decide (s.chState c = 4)) && decide (s.calStep c ≠ 4))
    (fun s => ((s.wn (Anc.userGain c) 0x3F800000).wr (Anc.userOffset c) 0).ancResume c))
/-- 600 s OFFLINE without a CAL_CMD (R261). -/
def execCalTimeout (c : Nat) (s : State) : Host.Outcome State Fault Refusal :=
  .next (s.onDeck (fun s => 
    if s.chState c = 4 ∧ (s.chan c).calT + 600000000000 ≤ s.fieldNow (c / 16) then
      s.calEnd c 0 else s))

/-! ### Conversions (R230-R235, R246, R255) -/

/-- A waiting OFFLINE takes effect at a conversion (R259): an output then drives CAL_REF through the factory calibration
only. -/
def State.ancOffline (s : State) (c : Nat) : State :=
  let s := if (s.chan c).calReq then
      ((s.modChan c (fun x => { x with calReq := false })).fw (Anc.chStatus c) 2 0 4).fw (Anc.calStatus c) 2 0 1
    else s
  if s.chState c = 4 ∧ ancOutput (s.ancMode c) then s.ancTake c (s.rn (Anc.calRef c)) false else s
/-- The island's self-check and its link to the card: a failure, or its end (R237, R256). -/
def State.ancCheck (s : State) (c : Nat) (ok : Bool) : State :=
  if ok then
    (if (s.chan c).islFault ∧ s.bt (Anc.chStatus c) 18 = false then
      let s := s.modChan c (fun x => { x with islFault := false })
      if s.chState c = 5 then s.ancSettle c else s
     else s)
  else if (s.chan c).islFault then s else s.ancIslFault c
/-- VALUE and VALUE_T of a conversion of factory-calibrated reading `v` at ship time `t`, with the user calibration. -/
def State.ancWrite (s : State) (c v t : Nat) : State :=
  (s.wn (Anc.value c) (f32.add (f32.mul (s.rn (Anc.userGain c)) v) (s.rn (Anc.userOffset c)))).wn (Anc.valueT c) t
/-- A channel that converts: its card is ready and its mode is an input of the given kind. -/
def State.ancConverts (s : State) (c : Nat) (fast : Bool) : Bool :=
  decide (s.chState c ≠ 0) && ancInput (s.ancMode c) && (s.ancFast c == fast)
/-- The end of a window's reading in the mode's unit: RTD and RES in 2-wire less LEAD_OHM, RTD and TC linearised.
DESIGN CHOICE: note 16. -/
def State.ancReading (s : State) (c : Nat) (raw cjc : Word) : Nat :=
  let m := s.ancMode c
  let sensor := s.fd (Anc.chCfg c) 6 4
  let r := if s.fd (Anc.chCfg c) 9 8 = 0 ∧ (m = 4 ∨ m = 5) then f32.sub raw.toNat (s.rn (Anc.leadOhm c)) else raw.toNat
  if m = 4 then (Config.rtdTemp sensor (BitVec.ofNat 32 r)).toNat
  else if m = 6 then (Config.tcTemp sensor raw (if s.bt (Anc.chCfg c) 18 then s.rg (Anc.cjcFixed c) else cjc)).toNat
  else r
/-- Whether a value comes at the window end `t` (R230): the windows end at multiples of the period, and in RTD and RES with
3 wires every second one gives a value. -/
def State.precDue (s : State) (c t : Nat) : Bool :=
  let m := s.ancMode c
  let two := (decide (m = 4) || decide (m = 5)) && decide (s.fd (Anc.chCfg c) 9 8 = 1)
  decide (t % s.precNs c = 0) && (!two || match (s.chan c).convT with
    | some p => decide (p + 2 * s.precNs c ≤ t)
    | none => true)
/-- A precision window ends at ship time `t` (R230, R234, R237-R241) with the reading averaged over it. -/
def execPrecisionConversion (c : Nat) (raw isl lead cjc : Word) (ovr hold ok : Bool) (t : Nat) (s : State) :
    Host.Outcome State Fault Refusal :=
  .next (s.onDeck (fun s => 
    if s.ancConverts c false ∧ s.precDue c t then
      let s := (s.ancOffline c).ancCheck c ok
      let m := s.ancMode c
      let wires := s.fd (Anc.chCfg c) 9 8
      let s := s.modChan c (fun x => { x with
        convT := some t
        clamp := ovr && decide (4 ≤ m)
        openWire := hold || (decide (m = 4) && decide (wires = 1) && f32.lt 0x42480000 lead.toNat)
        cjcBad := f32.lt cjc.toNat 0xC2200000 || f32.lt 0x42FA0000 cjc.toNat })
      let s := if m = 6 then s.wr (Anc.cjcTemp c) cjc else s
      let s := (s.calAdd c (s.ancReading c raw cjc)).ancWrite c (s.ancReading c raw cjc) t
      s.ancRefresh c (some (s.rn (Anc.value c), isl.toNat))
    else s))

/-- The crossing time of R255: S_prev + 5,000 ns * (level - y_prev) / (y - y_prev) - 3,200 ns, on the 4 ns grid.
DEDUCED: note 86. -/
def zcTime (sp yp y lvl : Nat) : Int :=
  let d := f64.div (f64.mul 0x40B3880000000000 (f64.sub (f32.cvt f64 lvl) (f32.cvt f64 yp)))
    (f64.sub (f32.cvt f64 y) (f32.cvt f64 yp))
  (sp : Int) + 4 * f64.toInt .rne (-(2 ^ 31)) (2 ^ 31) 0 (f64.mul d 0x3FD0000000000000) - 3200
/-- A crossing: ZC_T, and ZC_PERIOD since the previous one of the same edge. -/
def State.zcHit (s : State) (c : Nat) (up : Bool) (t : Nat) : State :=
  let x := s.chan c
  let last := if up then x.zcLastUp else x.zcLastDown
  let s := (s.wn (Anc.zcTLo c) t).wn (Anc.zcTHi c) (t / 2 ^ 32)
  let s := s.wn (Anc.zcPeriod c) (match last with
    | some p => t - p
    | none => 0)
  s.modChan c (fun x => if up then { x with zcLastUp := some t, zcUp := false }
    else { x with zcLastDown := some t, zcDown := false })
/-- The crossing detector on the conversion `y` at S = `t` (R255). DEDUCED: note 86. -/
def State.zcEval (s : State) (c y t : Nat) : State :=
  if s.bt (Anc.chCfg c) 22 = false then s.modChan c (fun x => { x with zcPrev := none, zcUp := false, zcDown := false })
  else
    let lvl := s.rn (Anc.zcLevel c)
    let hy := s.rn (Anc.zcHyst c)
    let edge := s.fd (Anc.zcCfg c) 1 0
    let x := s.chan c
    let s := match x.zcPrev with
      | some (yp, sp) =>
        if sp + 5000 ≠ t then s
        else
          let tt := (zcTime sp yp y lvl).toNat
          if edge ≠ 1 ∧ x.zcUp ∧ f32.lt yp lvl ∧ f32.le lvl y then s.zcHit c true tt
          else if (edge = 1 ∨ edge = 2) ∧ x.zcDown ∧ f32.lt lvl yp ∧ f32.le y lvl then s.zcHit c false tt
          else s
      | none => s
    s.modChan c (fun x => { x with
      zcPrev := some (y, t)
      zcUp := x.zcUp || f32.le y (f32.sub lvl hy)
      zcDown := x.zcDown || f32.le (f32.add lvl hy) y })
/-- The first conversion at or after a loop's tick goes to its input port (R235). -/
def State.ancDeliver (s : State) (h : Half) (c t : Nat) : State :=
  if s.deckHears h = false then s
  else
    let due := (s.half h).ancDue.filter (fun e => decide (e.chan = c) && decide (e.tick ≤ t))
    let v := s.bt (Anc.chStatus c) 8
    let w := s.rg (Anc.value c)
    s.modHalf h (fun x => { x with
      ancDue := x.ancDue.filter (fun e => !(decide (e.chan = c) && decide (e.tick ≤ t)))
      measTx := x.measTx ++ due.map (fun e => ⟨e.loop, e.k, v, w⟩) })
/-- A fast conversion at the grid instant S = `t` (R231, R234, R235, R255): (S - GRID_OFS * 4) mod 5,000 = 0. -/
def execFastConversion (c : Nat) (raw isl : Word) (ok : Bool) (t : Nat) (s : State) : Host.Outcome State Fault Refusal :=
  .next (s.onDeck (fun s => 
    if s.ancConverts c true ∧ t % 5000 = 4 * s.fd (Anc.grid c) 10 0 % 5000 then
      let s := (s.ancOffline c).ancCheck c ok
      let s := (s.calAdd c raw.toNat).ancWrite c raw.toNat t
      let s := s.ancRefresh c (some (s.rn (Anc.value c), isl.toNat))
      let s := s.zcEval c (s.rn (Anc.value c)) t
      (s.ancDeliver .a c t).ancDeliver .b c t
    else s))
/-- The tick of a loop: each measurement entry that names a channel waits for its conversion (R235). -/
def State.ancSample (s : State) (h : Half) (loop : Nat) : State :=
  if s.deckHears h = false then s
  else
    let now := s.now h
    let s := s.modHalf h (fun x => { x with ancDue := x.ancDue.filter (fun e => decide (e.loop ≠ loop)) })
    (List.range 8).foldl (fun (t : State) (k : Nat) =>
      let e := Map.get (fun _ => 0) (t.half h).route (8 * (8 * loop + k))
      if bits e 3 0 = 1 then
        (t.modHalf h (fun x => { x with ancDue := x.ancDue ++ [⟨loop, k, bits e 15 4, now⟩] })).chanShow (bits e 15 4)
      else t) s

/-- The island reads an output back (R246): READBACK, VALUE, HEADROOM, comparators. -/
def execOutputReadback (c : Nat) (raw isl volt : Word) (ok : Bool) (t : Nat) (s : State) :
    Host.Outcome State Fault Refusal :=
  .next (s.onDeck (fun s => 
    let m := s.ancMode c
    if s.chState c ≠ 0 ∧ ancOutput m then
      let s := (s.ancOffline c).ancCheck c ok
      let s := ((s.wr (Anc.readback c) raw).wr (Anc.value c) raw).wn (Anc.valueT c) t
      let s := if m = 7 then s.wn (Anc.headroom c) (f32.sub 0x419C0000 volt.toNat)
        else if m = 8 then s.wn (Anc.headroom c) (f32.sub volt.toNat 0x41100000) else s
      s.ancRefresh c (some (raw.toNat, isl.toNat))
    else s))
/-- |readback - applied| > 0.2 mA. -/
def State.ancOpen (s : State) (c : Nat) : Bool :=
  f32.lt 0x3E4CCCCD (b32abs (f32.sub (s.rn (Anc.readback c)) (s.chan c).applied))
/-- OPEN_LOOP begins or ends after 5 ms (R246). -/
def execOpenLoop (c : Nat) (on : Bool) (s : State) : Host.Outcome State Fault Refusal :=
  .next (s.onDeck (fun s => 
    let m := s.ancMode c
    if (m = 7 ∨ m = 8) ∧ s.chState c ≠ 0 then
      (if on && s.ancOpen c && !s.bt (Anc.chStatus c) 9 then
        ((((s.sb (Anc.chStatus c) 9 true).satF (Anc.chCounts c) 31 16 1).reportDeck 0x0814 6 c
          [(s.chan c).applied, s.rn (Anc.readback c), (s.bt (Anc.chStatus c) 18).toNat]).chanShow c).ancImage c
       else if !on && !s.ancOpen c && !s.bt (Anc.chStatus c) 18 then
        ((s.sb (Anc.chStatus c) 9 false).chanShow c).ancImage c
       else s)
    else s))
/-- COMPLIANCE begins or ends after 5 ms (R246). -/
def execCompliance (c : Nat) (on : Bool) (s : State) : Host.Outcome State Fault Refusal :=
  .next (s.onDeck (fun s => 
    let m := s.ancMode c
    let low := f32.lt (s.rn (Anc.headroom c)) 0x3FC00000
    if (m = 7 ∨ m = 8) ∧ s.chState c ≠ 0 then
      (if on && low && !s.bt (Anc.chStatus c) 10 then
        ((((s.sb (Anc.chStatus c) 10 true).satF (Anc.chCounts c) 31 16 1).reportDeck 0x0815 6 c
          [s.rn (Anc.headroom c)]).chanShow c).ancImage c
       else if !on && !low then ((s.sb (Anc.chStatus c) 10 false).chanShow c).ancImage c
       else s)
    else s))

/-! ### The loop-powered island (R248-R250) -/

/-- The clock step of a current, and a step's lower threshold (R248). -/
def stepOf (i : Nat) : Nat :=
  if f32.le 0x41000000 i then 3 else if f32.le 0x40D00000 i then 2 else if f32.le 0x40A00000 i then 1 else 0
def stepFloor (k : Nat) : Nat := if k = 3 then 0x41000000 else if k = 2 then 0x40D00000 else if k = 1 then 0x40A00000 else 0
/-- One update of a passive island (R249): the clock step never runs ahead of the current that supplies it. -/
def execPassiveIslandUpdate (c : Nat) (s : State) : Host.Outcome State Fault Refusal :=
  .next (s.onDeck (fun s => 
    if s.ancMode c = 8 ∧ s.chState c ≠ 0 ∧ s.bt (Anc.chStatus c) 18 = false then
      let x := s.chan c
      let step := s.fd (Anc.chStatus c) 17 16
      let step := if x.falling = false ∧ step < stepOf x.applied then stepOf x.applied else step
      let low := decide (0 < step) && f32.lt x.target (f32.sub (stepFloor step) 0x3E800000)
      let s := if low then (s.fw (Anc.chStatus c) 17 16 (stepOf x.target)).modChan c (fun x => { x with falling := true })
        else (s.fw (Anc.chStatus c) 17 16 step).modChan c (fun x => { x with applied := x.target, falling := false })
      s.chanShow c
    else s))
/-- 2 ms without a frame from the card (R250): the island's alarm level, by the ALARM_DIR it holds. -/
def execIslandFrameLoss (c : Nat) (s : State) : Host.Outcome State Fault Refusal :=
  .next (s.onDeck (fun s => 
    if s.ancMode c = 8 ∧ s.chState c ≠ 0 then
      ((s.modChan c (fun x => { x with
        frameLost := true
        target := if x.islDir then 0x41AC0000 else 0x40600000 })).sb (Anc.chStatus c) 12 true).chanShow c
    else s))
/-- The card hears nothing from the island for 5 ms (R250). -/
def execLoopUnpowered (c : Nat) (s : State) : Host.Outcome State Fault Refusal :=
  .next (s.onDeck (fun s => 
    if s.ancMode c = 8 ∧ s.chState c ≠ 0 ∧ s.bt (Anc.chStatus c) 18 = false then
      let was := s.bt (Anc.chStatus c) 9
      let s := (s.sb (Anc.chStatus c) 18 true).sb (Anc.chStatus c) 9 true
      let s := if was then s else (s.satF (Anc.chCounts c) 31 16 1).reportDeck 0x0814 6 c
        [(s.chan c).applied, s.rn (Anc.readback c), 1]
      s.ancIslFault c
    else s))
/-- Loop power appears (R250): the island starts at 3.5 mA and goes to its kept alarm level until the card has configured it;
the card hears it again. DEDUCED: note 174. -/
def execIslandLoopPowerUp (c : Nat) (s : State) : Host.Outcome State Fault Refusal :=
  .next (s.onDeck (fun s => 
    if s.ancMode c = 8 ∧ s.chState c ≠ 0 ∧ s.bt (Anc.chStatus c) 18 then
      let s := (s.sb (Anc.chStatus c) 18 false).modChan c (fun x => { x with islFault := false })
      let s := s.ancSettle c
      let s := s.modChan c (fun x => { x with target := if x.islDir then 0x41AC0000 else 0x40600000 })
      ((s.sb (Anc.chStatus c) 12 true).chanShow c).ancImage c
    else s))

/-! ### Mis-wiring (R240, R241) -/

/-- A protection acts or ends: 0 the shunt's limiter, 1 EX in limit for 5 ms, 2 V_OUT in limit for 5 ms (R241). -/
def execOverload (c kind : Nat) (on : Bool) (s : State) : Host.Outcome State Fault Refusal :=
  .next (s.onDeck (fun s => 
    let m := s.ancMode c
    if s.chState c = 0 then s
    else if kind = 0 ∧ (m = 2 ∨ m = 3) ∧ on then
      (s.modChan c (fun x => { x with shunt := true, shuntT := if x.shunt then x.shuntT else s.deck.ticks })).ancRefresh c none
    else if (kind = 1 ∧ m = 2) ∨ (kind = 2 ∧ m = 9) then
      (s.modChan c (fun x => { x with exLimit := on })).ancRefresh c none
    else s))
/-- Every 1,000 ms the opened shunt recloses to test the current (R241): at or below 25 mA it stays closed. -/
def execShuntRetest (c : Nat) (current : Word) (s : State) : Host.Outcome State Fault Refusal :=
  .next (s.onDeck (fun s => 
    let now := s.deck.ticks
    if (s.chan c).shunt = false ∨ now < (s.chan c).shuntT + 250000000 then s
    else if f32.le current.toNat 0x41C80000 then
      (s.modChan c (fun x => { x with shunt := false, shuntT := now })).ancRefresh c none
    else s.modChan c (fun x => { x with shuntT := now })))
/-- The open-wire test of a thermocouple, every 1,000 ms (R240). DESIGN CHOICE: note 186. -/
def State.tcDue (s : State) (c : Nat) : Bool := match (s.chan c).tcT with
  | some t => decide (t + 250000000 ≤ s.deck.ticks)
  | none => true
def execTcOpenWireTest (c : Nat) (ohm : Word) (s : State) : Host.Outcome State Fault Refusal :=
  .next (s.onDeck (fun s => 
    if s.ancMode c = 6 ∧ s.chState c ≠ 0 ∧ s.tcDue c then
      (s.modChan c (fun x => { x with openTc := f32.lt 0x461C4000 ohm.toNat, tcT := some s.deck.ticks })).ancRefresh c none
    else s))

/-! ### Commits, owners and cards -/

/-- A commit of the channel's unit (R256, R259-R262); `o` is the state before. DEDUCED: note 84. -/
def State.commitAnc (s o : State) (c : Nat) : State :=
  let newMode := decide (s.ancMode c ≠ o.ancMode c)
  let setup := newMode || decide (s.fd (Anc.chCfg c) 6 4 ≠ o.fd (Anc.chCfg c) 6 4)
    || decide (s.fd (Anc.chCfg c) 9 8 ≠ o.fd (Anc.chCfg c) 9 8)
    || decide (s.fd (Anc.chCfg c) 15 12 ≠ o.fd (Anc.chCfg c) 15 12)
  let s := if setup then s.calAbort c 1 else s.calEnd c 1
  let s := if newMode then
      (((s.wn (Anc.userGain c) 0x3F800000).wr (Anc.userOffset c) 0).wr (Anc.chCounts c) 0).ancNewMode c (s.ancMode c)
    else s
  let s := if (s.chan c).frameLost ∨ s.bt (Anc.chStatus c) 18 ∨ s.chState c = 0 then s
    else s.modChan c (fun x => { x with islDir := s.bt (Anc.chCfg c) 17 })
  if s.chState c = 0 then s.chanShow c
  else if setup then s.ancSettle c
  else ((s.ancCmp c none).chanShow c).ancImage c
/-- The owner of analogue card `n` changes: calibrations in progress end (R261). -/
def State.ancOwner (s : State) (n : Nat) : State :=
  (List.range 16).foldl (fun (t : State) (k : Nat) => t.calEnd (16 * n + k) 2) s
/-- What the islands keep through a reset of the field deck (R247, R250): a passive one its ALARM_DIR, and it drives the alarm
level; every other output falls to 0. -/
def heldIslands (m : Map ChanRun) : Map ChanRun :=
  (m.filter (fun e => e.2.passive)).map (fun e =>
    let v := if e.2.islDir then 0x41AC0000 else 0x40600000
    (e.1, { islDir := e.2.islDir
            passive := true
            frameLost := true
            applied := v
            target := v }))
/-- After the reset a passive island stays at 3.5 mA until its channel is configured and commanded (R247). -/
def restedIslands (m : Map ChanRun) : Map ChanRun :=
  m.map (fun e => (e.1, { e.2 with applied := 0x40600000, target := 0x40600000 }))
/-- The card of channel `c` is out of its slot or not ready (R253, R257). DEDUCED: note 89. -/
def State.ancAbsent (s : State) (c : Nat) : State :=
  let cmd := (s.chan c).cmd
  let s := ((s.calAbort c 3).ancNewMode c 0).fw (Anc.chStatus c) 2 0 0
  let s := s.modChan c (fun x => { x with islFault := false, cmd := cmd })
  let s := (s.wn (Anc.userGain c) 0x3F800000).wr (Anc.userOffset c) 0
  let s := s.setQuality c 9
  let on : CmpRun := { isl := true, card := true }
  let s := (s.modChan c (fun x => { x with lo := on, hi := on })).cmpShow c
  (s.chanShow c).ancImage c

end Sys2Proof.Machine
end

