-- ==== Sys2Proof/Machine/Digital.lean ====
section
/-! DEFINITION. Digital inputs and outputs, and the exchange of field cards (R257, R258, R265-R290, R309, R310). -/
namespace Sys2Proof.Machine

/-! ### Inputs -/

/-- The state of input `i` beyond its registers. -/
def State.din (s : State) (i : Nat) : DinRun := Map.get (fun _ => {}) s.deck.dins i
/-- Change it. -/
def State.modDin (s : State) (i : Nat) (f : DinRun → DinRun) : State :=
  s.modDeck (fun d => { d with dins := Map.set (fun _ => {}) d.dins i (f (Map.get (fun _ => {}) d.dins i)) })
/-- Whether an input card is ready. -/
def State.dinReady (s : State) (n : Nat) : Bool := s.bt (Din.diCardStatus n) 1
/-- The enabled supply that drops out and feeds input `i` (R277, R309): TP_SUPPLY names it, EN and TP_RUN are 1 and its
card is ready. -/
def State.testSupply (s : State) (i : Nat) : Option Nat :=
  let k := s.fd (Din.diCfg i) 11 8
  let g := 8 * (i / 32) + k
  if k < 8 ∧ s.bt (Lid.tpCfg g) 8 ∧ s.bt Lid.lidCfg 0 ∧ s.dinReady (i / 32) then some g else none

/-- The first code of R269 that applies. -/
def State.diQuality (s : State) (i : Nat) : Nat :=
  let x := s.din i
  if s.dinReady (i / 32) = false then 4
  else if s.bt (Din.diStatus i) 7 then 6
  else if x.ovr then 5
  else if x.cross then 3
  else if x.resolved = false then 1
  else if s.bt (Din.diStatus i) 10 then 2
  else 0
/-- DI_STATUS, the maps and the fault count follow the input (R269, R289). -/
def State.diShow (s : State) (i : Nat) : State :=
  let q := s.diQuality i
  let old := s.fd (Din.diStatus i) 3 1
  let v := decide (q = 0) || decide (q = 2)
  let st := (s.din i).p0.state && decide (q ≠ 4)
  let s := if q ≠ old ∧ (q = 6 ∨ q = 5 ∨ q = 3) then s.satF (Din.diCounts i) 31 16 1 else s
  let s := if q ≠ old ∧ q = 5 then s.reportDeck 0x0913 8 i [] else s
  let s := if s.bt (Din.diStatus i) 0 = st ∧ s.bt (Din.diStatus i) 4 = v then s
    else
      let was := (s.bt (Din.diStatus i) 0).toNat + (s.bt (Din.diStatus i) 4).toNat * 2
      let now := s.deck.ticks
      s.modDin i (fun x => { x with
        was := was
        wasFor := now - x.since
        since := now
        stepDone := false })
  let s := ((s.fw (Din.diStatus i) 3 1 q).sb (Din.diStatus i) 4 v).sb (Din.diStatus i) 0 st
  let s := (s.setMapBit (Din.diStateMap 0) i st).setMapBit (Din.diValidMap 0) i v
  s.setMapBit (Din.diCondMap 0) i (s.bt (Din.diStatus i) 5 || decide (q = 6) || decide (q = 5) || decide (q = 3))

/-- DI_COUNT takes one edge; at 2^32 - 1 it wraps (R274). -/
def State.diCountEdge (s : State) (i : Nat) : State :=
  if s.rn (Din.diCount i) = 2 ^ 32 - 1 then
    (((s.wr (Din.diCount i) 0).sb (Din.diStatus i) 9 true).setMapBit (Din.diWrapMap 0) i true).raiseBoth 624
  else s.inc (Din.diCount i)
/-- Whether DI_CFG.EDGE selects an edge of this direction. -/
def State.diSelects (s : State) (i : Nat) (up : Bool) : Bool :=
  match s.fd (Din.diCfg i) 6 5 with
  | 1 => !up
  | 2 => true
  | _ => up
/-- The state changes (R267, R273-R276): counts, the stamp `t` (in PULSED of every change, in CONTINUOUS of the selected edges),
DI_EDGE_MAP and DI_CHANGE. -/
def State.diChanged (s : State) (i : Nat) (up : Bool) (t : Nat) : State :=
  let s := s.satF (Din.diCounts i) 15 0 1
  let s := if s.bt (Din.diCfg i) 0 = false ∨ s.diSelects i up then
      (s.wn (Din.diEdgeTLo i) t).wn (Din.diEdgeTHi i) (t / 2 ^ 32) else s
  let s := if s.diSelects i up then
      let s := s.diCountEdge i
      if s.bt (Din.diCfg i) 0 then
        s.modDin i (fun x => match x.tRef with
          | none => { x with tRef := some t, tLast := t, edges := 0 }
          | some _ => { x with tLast := t, edges := x.edges + 1 })
      else s
    else s
  if s.bt (Din.diCfg i) 7 then
    (s.setMapBit (Din.diEdgeMap 0) i true).raiseBoth (592 + i / 32) else s

/-- DEBOUNCE, 0 acting as 1. DEDUCED: note 88. -/
def State.debounce (s : State) (i : Nat) : Nat := let d := s.fd (Din.diCfg i) 4 1; if d = 0 then 1 else d
/-- A path takes a sample, 0 low, 1 in-band, 2 high, 3 above the over-voltage limit (R267); the flag says a run has
completed. -/
def DiPath.sample (p : DiPath) (n k : Nat) : DiPath × Bool :=
  if k = 1 then (p, false)
  else
    let up := decide (2 ≤ k)
    let run := if p.up = up ∧ 0 < p.run then p.run + 1 else 1
    if n ≤ run then ({ state := up, up := up, run := n }, true) else ({ p with up := up, run := run }, false)

/-- The two paths are compared (R270). -/
def State.diCompare (s : State) (i : Nat) : State :=
  let x := s.din i
  if x.p0.state = x.p1.state then
    let ag := x.agree + 1
    let s := s.modDin i (fun x => { x with diff := 0, agree := ag })
    if 100 ≤ ag ∧ s.bt (Din.diStatus i) 7 then s.sb (Din.diStatus i) 7 false else s
  else
    let s := s.modDin i (fun x => { x with diff := x.diff + 1, agree := 0 })
    if 3 ≤ x.diff + 1 ∧ s.bt (Din.diStatus i) 7 = false then
      (s.sb (Din.diStatus i) 7 true).reportDeck 0x0914 8 i [x.p0.state.toNat, x.p1.state.toNat] else s
/-- The first run completes (R268). -/
def State.diResolve (s : State) (i t : Nat) : State :=
  let x := s.din i
  if x.resolved then s
  else
    let s := s.modDin i (fun x => { x with resolved := true })
    if s.bt (Din.diStatus i) 5 then
      (s.sb (Din.diStatus i) 5 false).reportDeck 0x0912 8 i
        [x.p0.state.toNat, (t - (match x.first with
          | some f => f
          | none => t)) / 1000000]
    else s
/-- New path states: the state's change, resolution and comparison. -/
def State.diTake (s : State) (i : Nat) (p0 p1 : DiPath) (done : Bool) (stamp t : Nat) : State :=
  let was := (s.din i).p0.state
  let s := s.modDin i (fun x => { x with p0 := p0, p1 := p1 })
  let s := if p0.state ≠ was then s.diChanged i p0.state stamp else s
  let s := if done then s.diResolve i t else s
  s.diCompare i

/-! ### Test pulses (R277, R309, R310) -/

/-- CROSS_SHORT is set, with the supply concerned. -/
def State.crossShort (s : State) (i g : Nat) : State :=
  if (s.din i).cross then s.modDin i (fun x => { x with clean := 0 })
  else (s.modDin i (fun x => { x with cross := true, clean := 0 })).reportDeck 0x0A08 8 i [i, g]
/-- Where an instant lies in the frame: frame and slot. -/
def frameSlot (t : Nat) : Nat × Nat := (t / 20000000, t % 20000000 / 200000)
/-- The own-slot test on a sample (R310): from 25 us after the slot's start to its end every sample must be low. -/
def State.ownTest (s : State) (i g k t : Nat) : State :=
  let rel := t % 20000000
  let a := s.fd (Lid.tpCfg g) 6 0 * 200000
  if a + 25000 ≤ rel ∧ rel < a + 200000 ∧ k ≠ 0 then
    (s.modDin i (fun x => { x with slotOk := false })).crossShort i g
  else s
/-- Another enabled supply whose slot is `k`. -/
def State.supplyAt (s : State) (g k : Nat) : Option Nat :=
  (List.range 128).find? (fun j => decide (j ≠ g) && s.bt (Lid.tpCfg j) 8 && s.dinReady (j / 8)
    && decide (s.fd (Lid.tpCfg j) 6 0 = k))
/-- The first window after a slot in which the input gave a low sample (R310): a high one, after GOOD and state 1 with a high
sample before the slot, speaks of a short to the supply of the slot; twice in consecutive frames is a failure. -/
def State.foreignEnd (s : State) (i g k : Nat) (e : Nat × Nat) : State :=
  let x := s.din i
  match (if decide (2 ≤ k) && x.lowPre && decide (x.badFrame ≠ some e.1) then s.supplyAt g e.2 else none) with
  | none => s.modDin i (fun y => { y with failed := none, badFrame := some e.1 })
  | some j =>
    if x.failed = some (e.1 - 1, e.2) ∧ 0 < e.1 then (s.modDin i (fun y => { y with failed := some e })).crossShort i j
    else if x.failed.map Prod.fst = some e.1 then s.modDin i (fun y => { y with failed := none, badFrame := some e.1 })
    else s.modDin i (fun y => { y with failed := some e })
/-- The foreign-slot test on a sample (R310), with state and quality as they stood before it. DEDUCED: note 176. -/
def State.foreignTest (s : State) (i g k t : Nat) : State :=
  let x := s.din i
  let fs := frameSlot t
  if x.cur = some fs then s.modDin i (fun y => { y with low := y.low || decide (k = 0) })
  else
    let pre := x.lastHigh && x.p0.state && decide (s.diQuality i = 0)
    let s := match x.cur with
      | some e => if x.low then s.foreignEnd i g k e else s
      | none => s
    s.modDin i (fun y => { y with
      cur := some fs
      lowPre := pre
      low := decide (k = 0) })

/-- One window of one input (R267-R271, R277, R310): `k0` and `k1` are the two paths' samples, in CONTINUOUS those of the
filtered level. -/
def State.diJudge (s : State) (i k0 k1 t : Nat) : State :=
  let g := match (s.din i).heldBy with
    | some g => some g
    | none => s.testSupply i
  let s := match g with
    | some g => s.ownTest i g k0 t
    | none => s
  let s := if (s.din i).clearReq then
      ((s.wr (Din.diCount i) 0).sb (Din.diStatus i) 9 false).modDin i (fun x => { x with clearReq := false }) else s
  let s :=
    if s.bt (Din.diStatus i) 10 then s
    else
      let s := match g with
        | some g => s.foreignTest i g k0 t
        | none => s
      let x := s.din i
      let s := s.modDin i (fun x => { x with
        ovr := decide (k0 = 3)
        first := if x.first.isNone then some t else x.first })
      let s := s.sb (Din.diStatus i) 6 (decide (k0 = 1))
      let s :=
        if s.bt (Din.diCfg i) 0 then
          (if k0 = 1 then s.diCompare i
           else s.diTake i { state := decide (2 ≤ k0) }
             { state := if k1 = 1 then x.p1.state else decide (2 ≤ k1) } true t t)
        else
          let d := s.debounce i
          let a := x.p0.sample d k0
          let b := x.p1.sample d k1
          s.diTake i a.1 b.1 a.2 t t
      s.modDin i (fun x => { x with lastHigh := decide (2 ≤ k0) })
  s.diShow i
/-- The unit of an input card in the I/O image (R278, R328). -/
def State.dinImage (s : State) (n : Nat) : State :=
  let s := ((s.image (0x1000 + 4 * n) [s.rn (Din.diStateMap n)]).image (0x1040 + 4 * n) [s.rn (Din.diValidMap n)]).image
    (0x1080 + 4 * n) [s.rn (Din.diCardStatus n)]
  (List.range 32).foldl (fun (t : State) (k : Nat) =>
    let i := 32 * n + k
    t.image (0x2000 + 16 * i) [t.rn (Din.diStatus i), t.rn (Din.diCount i), t.rn (Din.diFreq i), t.rn (Din.diEdgeTLo i)]) s
/-- A card's window ends at ship time `t` (R271, R278); the samples of the two paths by input. -/
def execDiWindow (n : Nat) (p0 p1 : List Nat) (t : Nat) (s : State) : Host.Outcome State Fault Refusal :=
  .next (s.onDeck (fun s => 
    if s.dinReady n then
      ((List.range 32).foldl (fun (u : State) (k : Nat) => u.diJudge (32 * n + k) (p0.getD k 0) (p1.getD k 0) t) s).dinImage n
    else s))
/-- A CONTINUOUS input accepts an edge at ship time `t` (R273, R275); `other` is the second path's level. -/
def execDiEdge (i : Nat) (level other : Bool) (t : Nat) (s : State) : Host.Outcome State Fault Refusal :=
  .next (s.onDeck (fun s => 
    if s.dinReady (i / 32) ∧ s.bt (Din.diCfg i) 0 ∧ s.bt (Din.diStatus i) 10 = false then
      let stamp := (t - 400 - s.fd (Din.diFreqCfg i) 7 0 * 40) / 4 * 4
      let s := s.modDin i (fun x => { x with first := if x.first.isNone then some t else x.first })
      ((s.diTake i { state := level } { state := other } true stamp t).diShow i)
    else s))
/-- Still UNRESOLVED 100 ms after the first judgement (R268). -/
def execUnresolvedLong (i : Nat) (s : State) : Host.Outcome State Fault Refusal :=
  .next (s.onDeck (fun s => 
    let x := s.din i
    let due : Bool := match x.first with
      | some f => decide (f + 100000000 ≤ s.fieldNow (16 + i / 32))
      | none => false
    if s.dinReady (i / 32) ∧ x.resolved = false ∧ due ∧ s.bt (Din.diStatus i) 5 = false then
      ((((s.sb (Din.diStatus i) 5 true).satF (Din.diCounts i) 31 16 1).reportDeck 0x0911 8 i
        [(s.bt (Din.diStatus i) 6).toNat]).diShow i)
    else s))
/-- The edge that follows 2^32 - 1 (R274). -/
def execDiCountWrap (i : Nat) (s : State) : Host.Outcome State Fault Refusal :=
  .next (s.onDeck (fun s => if s.rn (Din.diCount i) = 2 ^ 32 - 1 then s.diCountEdge i else s))

/-- The number of the frequency gate of input `i` that ended last (R276): FREQ_GATE ms of ship time each. DESIGN CHOICE: note
186. -/
def State.gateOf (s : State) (i : Nat) : Nat :=
  s.fieldNow (16 + i / 32) / (clampNat 1 250 (s.fd (Din.diFreqCfg i) 23 16) * 1000000)
/-- A positive ratio as binary32. DEDUCED: note 90. -/
def b32Ratio (n d : Nat) : Nat := f32.round .rne false (n * 2 ^ 64 / d) (-64) (decide (n * 2 ^ 64 % d ≠ 0))
/-- A frequency gate of FREQ_GATE ms of ship time ends, once each (R276). DEDUCED: note 90. -/
def execFreqGateEnd (i : Nat) (s : State) : Host.Outcome State Fault Refusal :=
  .next (s.onDeck (fun s => 
    let x := s.din i
    let k := s.gateOf i
    if s.bt (Din.diCfg i) 0 = false ∨ s.dinReady (i / 32) = false ∨ x.gateK = some k then s
    else
      let s := s.modDin i (fun x => { x with gateK := some k })
      match x.tRef with
      | none => s
      | some r =>
        if 0 < x.edges then
          ((s.wn (Din.diFreq i) (b32Ratio (x.edges * 1000000000) (x.tLast - r))).sb (Din.diStatus i) 8 false).modDin i
            (fun x => { x with tRef := some x.tLast, edges := 0 })
        else if r + 2000000000 < s.fieldNow (16 + i / 32) then (s.wr (Din.diFreq i) 0).sb (Din.diStatus i) 8 true
        else s))
/-- DI_CMD.CLEAR_COUNT: at the next window instant (R274). -/
def execDiClearCount (h : Half) (i : Nat) (s : State) : Host.Outcome State Fault Refusal :=
  .next (s.deckCmd h (16 + i / 32) (fun s => s.modDin i (fun x => { x with clearReq := true })))
/-- DI_CMD.CLEAR_COUNTS. -/
def execDiClearCounts (h : Half) (i : Nat) (s : State) : Host.Outcome State Fault Refusal :=
  .next (s.deckCmd h (16 + i / 32) (fun s => s.wr (Din.diCounts i) 0))
/-- The inputs that supply `g` feeds. -/
def State.fedBy (s : State) (g : Nat) : List Nat :=
  ((List.range 32).map (fun k => 32 * (g / 8) + k)).filter (fun i => s.testSupply i == some g)
/-- An enabled supply's slot begins (R277, R309): its inputs are held, until 50 us after that slot. -/
def execTestPulseSlotStart (g : Nat) (s : State) : Host.Outcome State Fault Refusal :=
  .next (s.onDeck (fun s => (s.fedBy g).foldl (fun (t : State) (i : Nat) =>
    ((t.modDin i (fun x => { x with
      preHigh := x.lastHigh
      slotOk := true
      heldBy := some g
      holdT := t.deck.ticks
      frame := t.fieldNow (16 + g / 8) / 20000000 })).sb (Din.diStatus i) 10 true).diShow i) s))
/-- 50 us after the slot of 200 us the inputs are released (R277); two proving frames clear CROSS_SHORT (R310). -/
def execTestPulseHoldEnd (g : Nat) (s : State) : Host.Outcome State Fault Refusal :=
  .next (s.onDeck (fun s => ((List.range 32).map (fun k => 32 * (g / 8) + k)).foldl (fun (t : State) (i : Nat) =>
    if t.bt (Din.diStatus i) 10 ∧ (t.din i).heldBy = some g ∧ (t.din i).holdT + 62500 ≤ t.deck.ticks then
      let x := t.din i
      let n := if x.slotOk && x.preHigh then (if x.cleanFrame + 1 = x.frame then x.clean + 1 else 1) else 0
      let t := t.modDin i (fun x => { x with
        heldBy := none
        cleanFrame := x.frame
        clean := n
        cross := x.cross && decide (n < 2)
        slotOk := false
        preHigh := false })
      (t.sb (Din.diStatus i) 10 false).diShow i
    else t) s))
/-- A supply has been in limit for 1 ms, or is no longer (R277). -/
def execTpSupplyFault (g : Nat) (on : Bool) (s : State) : Host.Outcome State Fault Refusal :=
  .next (s.onDeck (fun s => 
    let n := g / 8
    let b := 8 + g % 8
    if on then
      (if s.bt (Din.diCardStatus n) b then s else (s.sb (Din.diCardStatus n) b true).reportDeck 0x0915 7 n [g])
    else s.sb (Din.diCardStatus n) b false))
/-- A commit of the input's unit (R276, R288); `o` is the state before. -/
def State.commitDin (s o : State) (i : Nat) : State :=
  if s.bt (Din.diCfg i) 0 = o.bt (Din.diCfg i) 0 then s
  else
    let s := s.modDin i (fun x => { x with tRef := none, edges := 0 })
    if s.bt (Din.diCfg i) 0 then s else (s.wr (Din.diFreq i) 0).sb (Din.diStatus i) 8 false

/-! ### Outputs -/

/-- The state of output `o` beyond its registers. -/
def State.dout (s : State) (o : Nat) : DoutRun := Map.get (fun _ => {}) s.deck.douts o
/-- Change it. -/
def State.modDout (s : State) (o : Nat) (f : DoutRun → DoutRun) : State :=
  s.modDeck (fun d => { d with douts := Map.set (fun _ => {}) d.douts o (f (Map.get (fun _ => {}) d.douts o)) })
/-- The command bit of output `o` (R281). -/
def State.doCommand (s : State) (o : Nat) : Bool :=
  if o % 32 < 16 then s.bt (Dout.outLo (o / 32)) (o % 32) else s.bt (Dout.outHi (o / 32)) (o % 32 - 16)
/-- Whether the section of output `o` is below its limit. -/
def State.secLow (s : State) (o : Nat) : Bool := s.bt (Dout.grpStatus (o / 32)) (8 + o % 32 / 4)
/-- The cause in force and what the output does by it (R282). -/
def State.doDrive (s : State) (o : Nat) : Nat × Bool :=
  let n := o / 32
  let wd := s.fd (Dout.grpStatus n) 1 0
  if s.bt (Dout.grpStatus n) 3 = false then (0, false)
  else if s.lidOff o then (1, false)
  else if (s.dout o).hot then (2, false)
  else if s.secLow o then (3, false)
  else if wd = 2 then (4, match s.fd (Dout.doCfg o) 1 0 with
    | 1 => true
    | 2 => (s.dout o).hold
    | _ => false)
  else if wd = 0 then (5, false)
  else (6, s.doCommand o)
/-- DO_STATUS, the card's maps and DO_COND_MAP follow the output (R282-R284). -/
def State.doShow (s : State) (o : Nat) : State :=
  let n := o / 32
  let d := s.doDrive o
  let s := ((s.sb (Dout.doStatus o) 0 d.2).fw (Dout.doStatus o) 3 1 d.1).sb (Dout.doStatus o) 9 (s.lidOff o)
  let s := if d.2 then s.sb (Dout.doStatus o) 4 false else s
  let s := s.sb (Dout.outApplied n) (o % 32) d.2
  let s := s.sb (Dout.outReadback n) (o % 32) (d.2 || (s.dout o).term)
  let st := s.rg (Dout.doStatus o)
  s.setMapBit (Dout.doCondMap 0) o (bit st 4 || bit st 7 || bit st 8 || (s.dout o).limit || s.secLow o)
/-- The card's unit of the I/O image (R328). -/
def State.doImage (s : State) (n : Nat) : State :=
  s.image (0x4C00 + 16 * n) [s.rn (Dout.outApplied n), s.rn (Dout.outReadback n), s.rn (Dout.grpStatus n)]
/-- One output and its card's image after a change. -/
def State.doOne (s : State) (o : Nat) : State := (s.doShow o).doImage (o / 32)
/-- Every output of a card after a change. -/
def State.doCard (s : State) (n : Nat) : State :=
  ((List.range 32).foldl (fun (t : State) (k : Nat) => t.doShow (32 * n + k)) s).doImage n
/-- A feed reaches the card (R286). DEDUCED: note 54. -/
def State.wdFeed (s : State) (n : Nat) : State :=
  if s.bt (Dout.grpStatus n) 3 = false then s
  else
    let st := s.fd (Dout.grpStatus n) 1 0
    let s := s.modDeck (fun d => { d with wdFed := Map.set (fun _ => 0) d.wdFed n d.ticks })
    if st = 0 then s.fw (Dout.grpStatus n) 1 0 1
    else if st = 2 ∧ s.bt (Dout.grpCfg n) 16 = false then (s.fw (Dout.grpStatus n) 1 0 1).reportDeck 0x0929 9 n [1]
    else s
/-- A write of OUT_LO or OUT_HI from the owner (R281, R286): bits [31:16] are the mask. -/
def State.doWrite (s : State) (h : Half) (n : Nat) (hi : Bool) (val : Nat) : State :=
  s.deckCmd h (32 + n) (fun s =>
    let a := if hi then Dout.outHi n else Dout.outLo n
    let m := val / 65536 % 65536
    let s := s.wn a ((s.rn a &&& (65535 - m)) + (val % 65536 &&& m))
    (s.wdFeed n).doCard n)
def execDoOutWrite (h : Half) (n : Nat) (hi : Bool) (val : Word) (s : State) : Host.Outcome State Fault Refusal :=
  .next (s.onDeck (fun s => s.doWrite h n hi val.toNat))
/-- GRP_CMD.WD_KICK (R286). -/
def execWdKick (h : Half) (n : Nat) (s : State) : Host.Outcome State Fault Refusal :=
  .next (s.deckCmd h (32 + n) (fun s => (s.wdFeed n).doCard n))
/-- GRP_CMD.WD_RESTART: TRIPPED to ARMED (R286). DEDUCED: note 54. -/
def execWdRestart (h : Half) (n : Nat) (s : State) : Host.Outcome State Fault Refusal :=
  .next (s.deckCmd h (32 + n) (fun s =>
    if s.bt (Dout.grpStatus n) 3 ∧ s.fd (Dout.grpStatus n) 1 0 = 2 then
      (((s.fw (Dout.grpStatus n) 1 0 1).modDeck (fun d => { d with wdFed := Map.set (fun _ => 0) d.wdFed n d.ticks })).reportDeck
        0x0929 9 n [0]).doCard n
    else s))
/-- WD_MS, 0 acting as 1 and at most 1,000. DEDUCED: note 88. -/
def State.wdMs (s : State) (n : Nat) : Nat := clampNat 1 1000 (s.fd (Dout.grpCfg n) 9 0)
/-- The watchdog runs out without a feed (R286, R287), never before WD_MS x 0.98 of its card's time: a feed in the same cycle
wins (R288). -/
def execWdExpired (n : Nat) (s : State) : Host.Outcome State Fault Refusal :=
  .next (s.onDeck (fun s => 
    if s.bt (Dout.grpStatus n) 3 ∧ s.fd (Dout.grpStatus n) 1 0 = 1
        ∧ Map.get (fun _ => 0) s.deck.wdFed n + s.wdMs n * 245000 ≤ s.deck.ticks then
      let was := s.rn (Dout.outApplied n)
      let s := (List.range 32).foldl (fun (t : State) (k : Nat) =>
        t.modDout (32 * n + k) (fun x => { x with hold := was.testBit k })) s
      let s := (s.fw (Dout.grpStatus n) 1 0 2).fw (Dout.grpStatus n) 31 16 (s.fd (Dout.grpStatus n) 31 16 + 1)
      ((s.raiseBoth (616 + n)).reportDeck 0x0928 9 n [s.wdMs n, was]).doCard n
    else s))
/-- An output's junction reaches its shutdown temperature (R283). -/
def execThermalOff (o : Nat) (s : State) : Host.Outcome State Fault Refusal :=
  .next (s.onDeck (fun s => 
    if s.bt (Dout.grpStatus (o / 32)) 3 = false ∨ (s.dout o).hot then s
    else
      let now := s.fieldNow (32 + o / 32)
      let auto := s.bt (Dout.doCfg o) 2
      let offs := now :: (s.dout o).offs.filter (fun t => decide (now < t + 60000000000))
      let s := s.modDout o (fun x => { x with hot := true, offs := offs })
      let s := ((s.sb (Dout.doStatus o) 4 true).satF (Dout.doCounts o) 15 0 1).reportDeck 0x0923 0xA o [auto.toNat]
      let s := if auto = false then s.sb (Dout.doStatus o) 5 true
        else if 16 ≤ offs.length then (s.sb (Dout.doStatus o) 5 true).reportDeck 0x0924 0xA o [offs.length]
        else s
      s.doOne o))
/-- AUTO_RETRY: cooled, and 500 ms have passed (R283). -/
def execThermalAutoRetry (o : Nat) (s : State) : Host.Outcome State Fault Refusal :=
  .next (s.onDeck (fun s => 
    let x := s.dout o
    if s.bt (Dout.doCfg o) 2 ∧ x.hot ∧ s.bt (Dout.doStatus o) 5 = false
        ∧ x.offs.headD 0 + 500000000 ≤ s.fieldNow (32 + o / 32) then
      (s.modDout o (fun x => { x with hot := false })).doOne o
    else s))
/-- DO_CMD.RETRY (R283, R288); `cool`: the junction is below the restart threshold. DESIGN CHOICE: note 23. -/
def execDoRetry (h : Half) (o : Nat) (cool : Bool) (s : State) : Host.Outcome State Fault Refusal :=
  .next (s.deckCmd h (32 + o / 32) (fun s =>
    if s.bt (Dout.doStatus o) 5 then
      (if cool then
        (((s.modDout o (fun x => { x with hot := false })).sb (Dout.doStatus o) 5 false).fw
          (Dout.doStatus o) 11 10 0).doOne o
       else s.fw (Dout.doStatus o) 11 10 1)
    else s.fw (Dout.doStatus o) 11 10 (if cool then 0 else 1)))
/-- DO_CMD.CLEAR_COUNTS. -/
def execDoClearCounts (h : Half) (o : Nat) (s : State) : Host.Outcome State Fault Refusal :=
  .next (s.deckCmd h (32 + o / 32) (fun s => (s.wr (Dout.doCounts o) 0).fw (Dout.doStatus o) 11 10 0))
/-- A section's supply falls below 16 V for 1 ms, or returns above 17 V (R280). -/
def execSupplyLow (n sec : Nat) (on : Bool) (volt : Nat) (s : State) : Host.Outcome State Fault Refusal :=
  .next (s.onDeck (fun s => 
    let was := s.bt (Dout.grpStatus n) (8 + sec)
    let s := s.sb (Dout.grpStatus n) (8 + sec) on
    (if on && !was then s.reportDeck 0x0927 9 n [sec, volt] else s).doCard n))
/-- OPEN_LOAD begins or ends after 10 ms (R284). -/
def execOpenLoad (o : Nat) (on : Bool) (s : State) : Host.Outcome State Fault Refusal :=
  .next (s.onDeck (fun s => 
    if on then
      (if s.bt (Dout.doCfg o) 3 ∧ s.bt (Dout.doStatus o) 0 ∧ s.bt (Dout.doStatus o) 7 = false then
        (((s.sb (Dout.doStatus o) 7 true).satF (Dout.doCounts o) 31 16 1).reportDeck 0x0925 0xA o []).doOne o
       else s)
    else (s.sb (Dout.doStatus o) 7 false).doOne o))
/-- An off output's terminal (R284): 0 it has been below half its supply for 10 ms, and SHORT_TO_SUPPLY clears; 1 it rises
above; 2 it has been above for 10 ms, which is SHORT_TO_SUPPLY; 3 it falls below. OUT_READBACK shows the level whatever
OL_EN is. DEDUCED: note 177. -/
def execShortToSupply (o phase volt : Nat) (s : State) : Host.Outcome State Fault Refusal :=
  .next (s.onDeck (fun s => 
    let s := s.modDout o (fun x => { x with term := decide (phase = 1) || decide (phase = 2) })
    let s := if phase = 2 ∧ s.bt (Dout.doCfg o) 3 ∧ s.bt (Dout.doStatus o) 0 = false ∧ s.secLow o = false
          ∧ s.bt (Dout.doStatus o) 8 = false then
        ((s.sb (Dout.doStatus o) 8 true).satF (Dout.doCounts o) 31 16 1).reportDeck 0x0926 0xA o [volt]
      else if phase = 0 then s.sb (Dout.doStatus o) 8 false else s
    s.doOne o))
/-- The switch and its current limit (R283): 0 it leaves the limit, 1 it enters it, which LIMITING shows, 2 it has been in it
for 1 ms, which is a condition of the card. -/
def execLimitLong (o phase : Nat) (s : State) : Host.Outcome State Fault Refusal :=
  .next (s.onDeck (fun s => 
    if phase = 0 ∨ s.bt (Dout.doStatus o) 0 then
      ((s.sb (Dout.doStatus o) 6 (decide (phase ≠ 0))).modDout o (fun x => { x with
        limit := decide (phase = 2) || (x.limit && decide (phase = 1)) })).doOne o
    else s))
/-- A commit of an output group (R284); an output that is off under AUTO_RETRY and becomes LATCHED waits for RETRY (R283). -/
def State.commitDo (s : State) (n : Nat) : State :=
  ((List.range 32).foldl (fun (t : State) (k : Nat) =>
    let o := 32 * n + k
    let t := if (t.dout o).hot && !t.bt (Dout.doCfg o) 2 then t.sb (Dout.doStatus o) 5 true else t
    if t.bt (Dout.doCfg o) 3 then t else (t.sb (Dout.doStatus o) 7 false).sb (Dout.doStatus o) 8 false) s).doCard n

/-! ### Card exchange (R257, R258, R285) -/

/-- Every input of an input card starts anew (R268). -/
def State.dinClear (s : State) (n : Nat) : State :=
  (List.range 32).foldl (fun (t : State) (k : Nat) =>
    let i := 32 * n + k
    let t := t.modDin i (fun x => { clearReq := x.clearReq })
    let t := [0, 5, 6, 7, 8, 10].foldl (fun (u : State) (b : Nat) => u.sb (Din.diStatus i) b false) t
    t.diShow i) s
/-- The number of a card for supply faults (R479): kind 0 analogue, 1 input, 2 output. -/
def cardNo (kind n : Nat) : Nat := if kind = 0 then n else if kind = 1 then 16 + n else 32 + n
/-- Whether a card is present. -/
def State.cardPresent (s : State) (kind n : Nat) : Bool :=
  if kind = 0 then s.bt (Anc.cardStatus n) 0
  else if kind = 1 then s.bt (Din.diCardStatus n) 0
  else decide (n < 8) && s.bt (Dout.grpStatus n) 2
/-- A card's channels, inputs or outputs after it has become not ready (R257, R285). -/
def State.cardClear (s : State) (kind n : Nat) : State :=
  if kind = 0 then
    (List.range 16).foldl (fun (t : State) (k : Nat) => t.ancAbsent (16 * n + k)) (s.fw (Anc.cardStatus n) 5 0 0)
  else if kind = 1 then
    let s := (s.fw (Din.diCardStatus n) 4 0 0).fw (Din.diCardStatus n) 15 8 0
    (s.dinClear n).dinImage n
  else
    let s := ((s.fw (Dout.grpStatus n) 6 2 0).fw (Dout.grpStatus n) 1 0 0).fw (Dout.grpStatus n) 15 8 0
    let s := (List.range 32).foldl (fun (t : State) (k : Nat) =>
      (t.modDout (32 * n + k) (fun _ => {})).fw (Dout.doStatus (32 * n + k)) 8 4 0) s
    s.doCard n
/-- A card's channels, inputs or outputs report as those of a card that is not present (R257, R285, R339, R460). -/
def State.cardGone (s : State) (kind n : Nat) : State := (s.cardClear kind n).sourceEdge kind n
/-- CARD_PWR_MAP and CARD_PWR_MAP_HI of a half follow the supply faults (R479). -/
def State.cardPwrShow (s : State) (h : Half) : State :=
  let v := s.deck.pwr.cardFault.foldl (fun (v : Nat) (k : Nat) => v ||| 2 ^ k) 0
  (s.wn (Pwr.cardPwrMap h) v).wn (Pwr.cardPwrMapHi h) (v / 2 ^ 32)
/-- Change the supply fault of a card number. -/
def State.cardFaultSet (s : State) (k : Nat) (on : Bool) : State :=
  let s := s.modDeck (fun d => { d with pwr := { d.pwr with
    cardFault := if on then (if d.pwr.cardFault.contains k then d.pwr.cardFault else d.pwr.cardFault ++ [k])
      else d.pwr.cardFault.filter (· != k) } })
  (s.cardPwrShow .a).cardPwrShow .b
/-- The presence contacts of a card break: 0 analogue, 1 input, 2 output. A supply fault of it clears (R460). -/
def execCardRemoved (kind n : Nat) (s : State) : Host.Outcome State Fault Refusal :=
  .next (s.onDeck (fun s => 
    let k := cardNo kind n
    let s := (s.cardFaultSet k false).modDeck (fun d => { d with pwr := { d.pwr with
      slotOn := d.pwr.slotOn.filter (· != k) } })
    if s.cardPresent kind n then
      (s.reportDeck (if kind = 0 then 0x0801 else if kind = 1 then 0x0901 else 0x0921)
        (if kind = 0 then 5 else if kind = 1 then 7 else 9) n []).cardGone kind n
    else s))
/-- A card is inserted and identified (R257, R258, R285): REFUSED gives the cause of a refusal; `bad` names the modes
whose factory calibration fails and `cal` is the user calibration in the card's memory, channel by channel.
DEDUCED: note 84. -/
def execCardInserted (kind n refused issue bad : Nat) (cal : List CardCal) (s : State) :
    Host.Outcome State Fault Refusal :=
  .next (s.onDeck (fun s => 
    if kind = 0 then
      (if s.bt (Anc.cardStatus n) 0 then s
       else
        let cnt := s.fd (Anc.cardStatus n) 31 16 + 1
        let cb := decide (bad ≠ 0)
        let s := s.wn (Anc.cardStatus n) (1 + refused * 4 + cb.toNat * 32 + issue * 256 + cnt % 65536 * 65536)
        if refused ≠ 0 then s.reportDeck 0x0803 5 n [refused, cb.toNat]
        else
          let s := s.modDeck (fun d => { d with ancBad := Map.set (fun _ => 0) d.ancBad n bad })
          (List.range 16).foldl (fun (t : State) (k : Nat) => match cal[k]? with
            | some x => if x.mode = t.ancMode (16 * n + k) then
                (t.wr (Anc.userGain (16 * n + k)) x.gain).wr (Anc.userOffset (16 * n + k)) x.off else t
            | none => t) s)
    else if kind = 1 then
      (if s.bt (Din.diCardStatus n) 0 then s
       else
        let cnt := s.fd (Din.diCardStatus n) 31 24 + 1
        let s := s.wn (Din.diCardStatus n) (1 + refused * 4 + issue * 65536 + cnt % 256 * 2 ^ 24)
        if refused ≠ 0 then s.reportDeck 0x0903 7 n [refused] else s)
    else if n < 8 ∧ s.bt (Dout.grpStatus n) 2 = false then
      (((s.fw (Dout.grpStatus n) 6 4 refused).sb (Dout.grpStatus n) 2 true).modDeck (fun d => { d with
        doIssue := Map.set (fun _ => 0) d.doIssue n issue }))
    else s))
/-- Configuration of an inserted card completes (R257, R268, R285, R286). -/
def State.cardReady (s : State) (kind n : Nat) : State :=
    if kind = 0 then
      (if s.fd (Anc.cardStatus n) 4 0 = 1 then
        let s := (s.sb (Anc.cardStatus n) 1 true).reportDeck 0x0802 5 n [s.fd (Anc.cardStatus n) 15 8]
        (List.range 16).foldl (fun (t : State) (k : Nat) => t.ancSettle (16 * n + k)) s
       else s)
    else if kind = 1 then
      (if s.fd (Din.diCardStatus n) 4 0 = 1 then
        let s := (s.sb (Din.diCardStatus n) 1 true).reportDeck 0x0902 7 n [s.fd (Din.diCardStatus n) 23 16]
        s.dinClear n
       else s)
    else if n < 8 ∧ s.fd (Dout.grpStatus n) 6 2 = 1 then
      ((((s.sb (Dout.grpStatus n) 3 true).fw (Dout.grpStatus n) 1 0 0).reportDeck 0x0922 9 n
        [Map.get (fun _ => 0) s.deck.doIssue n]).doCard n)
    else s
/-- Configuration of an inserted card completes; its words are no longer substituted (R339). -/
def execCardReady (kind n : Nat) (s : State) : Host.Outcome State Fault Refusal :=
  .next (s.onDeck (fun s => (s.cardReady kind n).sourceEdge kind n))

end Sys2Proof.Machine
end

