-- ==== Sys2Proof/Machine/Motion.lean ====
section
/-! DEFINITION. Motion ports (R208-R224). DEDUCED: note 83. -/
namespace Sys2Proof.Machine

/-- The state of port `p` beyond its registers. -/
def State.prun (s : State) (p : Nat) : MotRun := Map.get (fun _ => {}) s.deck.ports p
/-- Change it. -/
def State.modPort (s : State) (p : Nat) (f : MotRun → MotRun) : State :=
  s.modDeck (fun d => { d with ports := Map.set (fun _ => {}) d.ports p (f (Map.get (fun _ => {}) d.ports p)) })
/-- PORT_STATUS.STATE: 0 OFF, 1 IDLE, 2 RUNNING, 3 FOLLOWING, 4 DISABLED. -/
def State.portState (s : State) (p : Nat) : Nat := s.fd (Mot.portStatus p) 2 0
/-- STEP_POS and OWED as signed numbers. -/
def State.stepPos (s : State) (p : Nat) : Int := (s.rg (Mot.stepPos p)).toInt
def State.owed (s : State) (p : Nat) : Int := (s.rg (Mot.owed p)).toInt
/-- Whether the port is moving (R216). -/
def State.moving (s : State) (p : Nat) : Bool := decide ((s.prun p).v % 2 ^ 63 ≠ 0) || decide (s.owed p ≠ 0)
/-- STEP_POS as it stood at ship time `t`: the steps of the present tick that fall at `t` or later are not issued yet (R215,
R220). -/
def State.stepPosAt (s : State) (p t : Nat) : Int :=
  let late := (((s.prun p).steps.filter (fun te => decide (t ≤ te))).length : Int)
  if s.bt (Mot.portStatus p) 9 then s.stepPos p + late else s.stepPos p - late
/-- The step output stops now: the steps placed later in the present tick are not issued (R219). -/
def State.cutSteps (s : State) (p : Nat) : State :=
  let t := s.fieldNow (104 + p / 8) + 1
  let pos := s.stepPosAt p t
  (s.wr (Mot.stepPos p) (BitVec.ofInt 32 pos)).modPort p (fun r => { r with
    steps := r.steps.filter (fun te => decide (te < t))
    lastStep := if r.lastStep < t then r.lastStep else ((r.steps.filter (fun te => decide (te < t))).getLast?).getD (t - 1) })
/-- The state of an enabled port that Lid does not disable and no profile occupies. -/
def State.restState (s : State) (p : Nat) : Nat := if s.fd (Mot.portCfg p) 2 1 = 1 then 3 else 1

/-- UNCERTAIN is set, recorded with the row of R219 when it was clear. -/
def State.uncertain (s : State) (p cause : Nat) : State :=
  if s.bt (Mot.portStatus p) 3 then s else (s.sb (Mot.portStatus p) 3 true).reportDeck 0x0712 0x0D p [cause]
/-- The step output stops at once (R219); `cause` is the row of its table: 0 ABORT, 1 stall, 2 MODE, 3 EN, 4 Lid, 5 a reset of
the field deck. -/
def State.portStop (s : State) (p cause : Nat) : State :=
  let s := s.cutSteps p
  let owed := s.owed p
  let unc := s.moving p
  let run := decide (s.portState p = 2)
  let seg := s.fd (Mot.portStatus p) 25 16
  let pos := f64.ofInt (s.stepPos p)
  let s := (s.wr (Mot.owed p) 0).modPort p (fun r => { r with p := pos, v := 0, segs := [], finished := false })
  let s := if run then
      ((s.fw (Mot.portStatus p) 2 0 (s.restState p)).raiseBoth (688 + p / 8)).reportDeck 0x0714 0x0D p
        [cause, seg, (BitVec.ofInt 32 owed).toNat]
    else s
  if unc ∨ cause = 1 then s.uncertain p cause else s
/-- ENA goes inactive and IREF to 0 V (R219). -/
def State.portDrop (s : State) (p cause st : Nat) : State :=
  let s := s.portStop p cause
  let ena := s.bt (Mot.portStatus p) 8
  let s := ((s.sb (Mot.portStatus p) 8 false).wr (Mot.iRefOut p) 0).fw (Mot.portStatus p) 2 0 st
  if ena then s.uncertain p cause else s
/-- Lid disables or releases the port (R219, R303). -/
def State.motDisable (s : State) (p : Nat) (off : Bool) : State :=
  if s.bt (Mot.portCfg p) 0 = false then s
  else if off then (if s.portState p = 4 then s else s.portDrop p 4 4)
  else if s.portState p = 4 then (s.sb (Mot.portStatus p) 8 true).fw (Mot.portStatus p) 2 0 (s.restState p) else s

/-! ### The tick (R209-R217) -/

/-- 1.0e-5 in binary64. -/
def tickSec : Nat := 0x3EE4F8B588E368F1
def d64one : Nat := 0x3FF0000000000000
def d64half : Nat := 0x3FE0000000000000
def d64two : Nat := 0x4000000000000000
def d64three : Nat := 0x4008000000000000
/-- A binary32 word as binary64. -/
def wide (w : Nat) : Nat := f32.cvt f64 w
/-- clamp in binary64. -/
def clamp64 (lo hi x : Nat) : Nat := if f64.lt x lo then lo else if f64.lt hi x then hi else x
/-- `x` moved toward `goal` by at most `by_` (R212, R213). DEDUCED: note 83. -/
def slew64 (x goal by_ : Nat) : Nat := clamp64 (f64.sub x by_) (f64.add x by_) goal
/-- floor of a binary64 number. DEDUCED: note 83. -/
def floor64 (x : Nat) : Int := f64.toInt .rdn (-(2 ^ 62)) (2 ^ 62) 0 x

/-- The segment in which the profile stands, from `tau` on (R211): `none` with its last segment passed.
DEDUCED: note 83. -/
def segSeek : Nat → List Segm → MotRun → MotRun
  | 0, _, r => r
  | n + 1, segs, r => match segs[r.idx]? with
    | none => r
    | some g =>
      let d := f64.ofInt g.dur
      if f64.le d r.tau then
        (if segs.length ≤ r.idx + 1 then { r with p := f64.ofInt g.pos, v := 0, finished := true }
         else segSeek n segs { r with tau := f64.sub r.tau d, p0 := f64.ofInt g.pos, v0 := wide g.vel, idx := r.idx + 1 })
      else r
/-- The commanded position of a RUNNING port advances by one tick (R211). -/
def profileTick (r : MotRun) : MotRun :=
  if r.finished then { r with v := 0 }
  else
    let r := segSeek (r.segs.length + 1) r.segs { r with tau := f64.add r.tau r.sigma }
    if r.finished then r
    else match r.segs[r.idx]? with
      | none => r
      | some g =>
        let d := f64.ofInt g.dur
        let s := f64.div r.tau d
        let s2 := f64.mul s s
        let s3 := f64.mul s2 s
        let h00 := f64.add (f64.sub (f64.mul d64two s3) (f64.mul d64three s2)) d64one
        let h10 := f64.add (f64.sub s3 (f64.mul d64two s2)) s
        let h01 := f64.add (f64.neg (f64.mul d64two s3)) (f64.mul d64three s2)
        let h11 := f64.sub s3 s2
        let a := f64.mul h00 r.p0
        let b := f64.mul (f64.mul (f64.mul h10 d) tickSec) r.v0
        let c := f64.mul h01 (f64.ofInt g.pos)
        let e := f64.mul (f64.mul (f64.mul h11 d) tickSec) (wide g.vel)
        let pn := f64.add (f64.add (f64.add a b) c) e
        { r with v := f64.div (f64.sub pn r.p) tickSec, p := pn }
/-- One tick of FOLLOW_VEL (R213). -/
def followTick (r : MotRun) (goal acc : Nat) : MotRun :=
  let v := slew64 r.v goal (f64.mul acc tickSec)
  { r with v := v, p := f64.add r.p (f64.mul v tickSec) }

/-- The steps of a tick under placement (R215): position, steps owed, earliest instant, last step, instants placed. -/
structure Stepping where
  pos : Int
  owed : Int
  last : Nat
  out : List Nat
  deriving DecidableEq, Repr

/-- Place the steps of a tick (R215); `dir` is the sign of the steps owed. -/
def stepsPlace (pa pb tick t hi : Nat) (dir : Int) : Nat → Stepping → Stepping
  | 0, x => x
  | n + 1, x =>
    if x.owed = 0 then x
    else
      let h := f64.add (f64.ofInt x.pos) (if dir < 0 then f64.neg d64half else d64half)
      let dh := f64.sub h pa
      let early := f64.le (if dir < 0 then f64.neg dh else dh) 0 || f64.eq pb pa
      let tc := if early then tick
        else tick + (floor64 (f64.div (f64.mul (f64.ofInt 10000) dh) (f64.sub pb pa)) / 4 * 4).toNat
      let tc := if tick + 9996 < tc then tick + 9996 else tc
      let te := if tc < t then t else tc
      let te := if te < x.last + hi then x.last + hi else te
      if tick + 9996 < te then x
      else stepsPlace pa pb tick t hi dir n ⟨x.pos + dir, x.owed - dir, te, x.out ++ [te]⟩
/-- Step 4 of a tick: steps from commanded position `pa` to `pb` (R215); no step before wake_end (R216). -/
def State.stepsTick (s : State) (p pa pb tick : Nat) : State :=
  let r := s.prun p
  let hi := 8 * s.fd (Mot.stepTiming p) 7 0
  let owed := floor64 (f64.add pb d64half) - s.stepPos p
  let neg := s.bt (Mot.portStatus p) 9
  let turn := decide (owed ≠ 0) && (decide (owed < 0) != neg)
  let t0 := if turn then (if tick < r.lastStep + hi then r.lastStep + hi else tick) + 200 * s.fd (Mot.stepTiming p) 15 8 else tick
  let t := if t0 < r.wakeEnd then r.wakeEnd else t0
  let s := if turn then s.sb (Mot.portStatus p) 9 (decide (owed < 0)) else s
  let x := stepsPlace pa pb tick t hi (if owed < 0 then -1 else 1) 128 ⟨s.stepPos p, owed, r.lastStep, []⟩
  let lim := decide (x.owed ≠ 0)
  let s := ((s.wr (Mot.stepPos p) (BitVec.ofInt 32 x.pos)).wr (Mot.owed p) (BitVec.ofInt 32 x.owed)).sb (Mot.portStatus p) 5 lim
  let s := if lim then s.satF (Mot.motCounts p) 31 16 1 else s
  s.modPort p (fun r => { r with lastStep := x.last, steps := x.out })

/-- The ports' binary32 arithmetic under the rounding of R126: subnormals are zero. -/
def mAdd (a b : Nat) : Nat := flush32 (f32.add (flush32 a) (flush32 b))
def mSub (a b : Nat) : Nat := flush32 (f32.sub (flush32 a) (flush32 b))
def mMul (a b : Nat) : Nat := flush32 (f32.mul (flush32 a) (flush32 b))
def mDiv (a b : Nat) : Nat := flush32 (f32.div (flush32 a) (flush32 b))
/-- 0.05, 0.01, 100.0, pi and 2 pi in binary32. -/
def b32c005 : Nat := 0x3D4CCCCD
def b32c001 : Nat := 0x3C23D70A
def b32c100 : Nat := 0x42C80000
def b32cpi : Nat := 0x40490FDB
def b32c2pi : Nat := 0x40C90FDB
/-- An angle brought into [-pi, pi) (R217). -/
def wrapPi (x : Nat) : Nat :=
  let k := f32.toInt .rdn (-(2 ^ 31)) (2 ^ 31) 0 (mDiv (mAdd x b32cpi) b32c2pi)
  mSub x (mMul (f32.ofInt k) b32c2pi)
/-- atan of 1, 1/2, 1/4, … in units of 2^-32 rad, and pi. -/
def atanSteps : List Int := [3373259426, 1991351318, 1052175346, 534100635, 268086748, 134174063, 67103403, 33553749, 16777131,
  8388597, 4194303, 2097152, 1048576, 524288, 262144, 131072, 65536, 32768, 16384, 8192, 4096, 2048, 1024, 512, 256, 128, 64, 32]
def piUnits : Int := 13493037705
/-- The vector (x, y), x not negative, turned onto the x axis by the angles of the list; the sum of the turns. -/
def turnBack : List Int → Nat → Int → Int → Int → Int
  | [], _, _, _, z => z
  | t :: ts, i, x, y, z =>
    if 0 ≤ y then turnBack ts (i + 1) (x + y / 2 ^ i) (y - x / 2 ^ i) (z + t)
    else turnBack ts (i + 1) (x - y / 2 ^ i) (y + x / 2 ^ i) (z - t)
/-- A magnitude m * 2^e in units of 2^(top - 40). -/
def magAt (m : Nat) (e top : Int) : Int :=
  if top - 40 ≤ e then (m * 2 ^ (e - (top - 40)).toNat : Nat) else (m / 2 ^ ((top - 40) - e).toNat : Nat)
/-- The angle of the vector with components `b` (y) and `a` (x) in units of 2^-32 rad, to within 1.0e-8 rad; none where one of
them is no number. DESIGN CHOICE: note 15. -/
def angleUnits (b a : Nat) : Option Int :=
  match f32.val b, f32.val a with
  | .num nb mb eb, .num na ma ea =>
    let tb := eb + (bitLen mb : Int)
    let ta := ea + (bitLen ma : Int)
    let top := if ma = 0 then tb else if mb = 0 then ta else if ta < tb then tb else ta
    let z := turnBack atanSteps 0 (magAt ma ea top) (magAt mb eb top) 0
    let z := if na then piUnits - z else z
    some (if nb then -z else z)
  | _, _ => none
/-- Whether the binary32 number `w` lies within the error that R217 allows of the angle `z`. -/
def nearAngle (w : Nat) (z : Int) : Bool :=
  match f32.val w with
  | .num n m e =>
    let u : Int := if -32 ≤ e then (m * 2 ^ (e + 32).toNat : Nat) else (m / 2 ^ (-32 - e).toNat : Nat)
    decide (((if n then -u else u) - z).natAbs ≤ 859036)
  | _ => false
/-- atan2 of R217: a free value within the absolute error of 2.0e-4 rad that R217 states (the nearest number where the constant
lies outside), and a free value where an operand is no number. DESIGN CHOICE: note 15. -/
def mAtan2 (b a : Nat) : Nat :=
  let w := (Config.atan2 (BitVec.ofNat 32 b) (BitVec.ofNat 32 a)).toNat
  match angleUnits b a with
  | none => w
  | some z => if nearAngle w z then w else f32.round .rne (decide (z < 0)) z.natAbs (-32) false
/-- The load angle of a moving port (R217). -/
def State.updateDelta (s : State) (p : Nat) : State :=
  let a := s.rn (Mot.isenA p)
  let b := s.rn (Mot.isenB p)
  if f32.lt (f32.sqrt (mAdd (mMul a a) (mMul b b))) b32c005 then s
  else
    let micro : Int := s.fd (Mot.microstep p) 10 0
    let th := mAdd (mDiv (mMul b32c2pi (f32.ofInt (s.stepPos p % micro))) (f32.ofInt micro)) (s.rn (Mot.angleOfs p))
    let w := wrapPi (mSub th (mAtan2 b a))
    let w := if s.bt (Mot.portStatus p) 9 then f32.neg w else w
    let v := f64.cvt f32 ((s.prun p).v % 2 ^ 63)
    let d := mSub w (mMul (s.rn (Mot.lagK p)) v)
    let delta := s.rn (Mot.loadAngle p)
    s.wn (Mot.loadAngle p) (mAdd delta (mMul b32c001 (mSub d delta)))
/-- The larger and the smaller of two binary32 numbers. -/
def mMax (a b : Nat) : Nat := if f32.lt a b then b else a
def mMin (a b : Nat) : Nat := if f32.lt b a then b else a
/-- Whether the port has stood still for HOLD_DELAY at `tick` (R216). -/
def State.standstill (s : State) (p tick : Nat) : Bool :=
  !s.moving p && decide ((s.prun p).lastStep + 1000000 * s.fd (Mot.adaptCfg p) 13 0 ≤ tick)
/-- Step 5 of a tick: the coil current (R216); REDUCED ends with wake_end. -/
def State.currentTick (s : State) (p tick : Nat) : State :=
  let ref := s.rn (Mot.iRefOut p)
  let ramp := mSub ref (mDiv (s.rn (Mot.iRamp p)) b32c100)
  if s.standstill p tick then (s.sb (Mot.portStatus p) 6 true).wn (Mot.iRefOut p) (mMax (s.rn (Mot.iHold p)) ramp)
  else
    let red := s.bt (Mot.portStatus p) 6
    let ref := if red then mMax ref (s.rn (Mot.iRun p)) else ref
    let s := if red then
        s.modPort p (fun r => { r with wakeEnd := tick + 10000 * s.fd (Mot.stepTiming p) 23 16 })
      else s
    let s := s.sb (Mot.portStatus p) 6 false
    let s := if s.bt (Mot.portCfg p) 5 && s.moving p then s.updateDelta p else s
    let ovr := mMax 0 (mSub (s.rn (Mot.loadAngle p)) (s.rn (Mot.angleStart p)))
    let want := mMin (mAdd (s.rn (Mot.iRun p)) (mMul (s.rn (Mot.adaptGain p)) ovr)) (s.rn (Mot.iMax p))
    let ramp := mSub ref (mDiv (s.rn (Mot.iRamp p)) b32c100)
    s.wn (Mot.iRefOut p) (if f32.lt ref want then want else mMax want ramp)

/-- The port is stalled (R218), once for each run of ticks above STALL_ANGLE. DEDUCED: note 172. -/
def State.portStall (s : State) (p : Nat) : State :=
  let s := if s.bt (Mot.portCfg p) 6 then s.cutSteps p else s
  let s := s.modPort p (fun r => { r with decl := true })
  let s := (s.sb (Mot.portStatus p) 4 true).satF (Mot.motCounts p) 15 0 1
  let s := s.reportDeck 0x0711 0x0D p [s.rn (Mot.loadAngle p), s.rn (Mot.stepPos p)]
  if s.bt (Mot.portCfg p) 6 then s.portStop p 1 else s.uncertain p 1
/-- Whether the stall rule of R218 is met. -/
def State.stallMet (s : State) (p : Nat) : Bool :=
  !(s.prun p).decl && decide (0 < (s.prun p).ovr) && decide (s.fd (Mot.adaptCfg p) 23 16 ≤ (s.prun p).ovr)
/-- A finished profile with nothing owed ends (R211). -/
def State.portDone (s : State) (p : Nat) : State :=
  if s.portState p = 2 ∧ (s.prun p).finished ∧ s.owed p = 0 then
    (((s.fw (Mot.portStatus p) 2 0 (s.restState p)).modPort p (fun r => { r with segs := [], finished := false })).raiseBoth
      (688 + p / 8)).reportDeck 0x0713 0x0D p [s.rn (Mot.stepPos p)]
  else s
/-- The six feedback words with their valid bits (R220). -/
def State.portWords (s : State) (p : Nat) : List (Word × Bool) :=
  let en := s.bt (Mot.portCfg p) 0
  [(s.rg (Mot.stepPos p), en && !s.bt (Mot.portStatus p) 3), (s.rg (Mot.cmdVel p), en), (s.rg (Mot.loadAngle p), en),
    (s.rg (Mot.iRefOut p), en), (s.rg (Mot.isenA p), en), (s.rg (Mot.isenB p), en)]
/-- The six words at a loop tick at ship time `t` (R220): STEP_POS as it stands there, the others of the last interpolation tick
that began before it. -/
def State.portWordsAt (s : State) (p t : Nat) : List (Word × Bool) :=
  let r := s.prun p
  let old := if t ≤ r.tickT then r.prev else (s.portWords p).map Prod.fst
  let ws := if t ≤ r.tickT then old else BitVec.ofInt 32 (s.stepPosAt p t) :: old.drop 1
  ws.zip ((s.portWords p).map Prod.snd)
/-- The port's unit of the I/O image (R220, R328). -/
def State.portImage (s : State) (p : Nat) : State :=
  let ws := s.portWords p
  let valid := ((ws.zip (List.range 6)).map (fun e => if e.1.2 then 2 ^ e.2 else 0)).foldl (· + ·) 0
  s.image (0x4800 + 32 * p) (ws.map (fun e => e.1.toNat) ++ [s.rn (Mot.portStatus p), valid])

/-- PORT_STATUS.CMD_RESULT: 0 DONE, 1 REFUSED_STATE, 2 REFUSED_UNCERTAIN. -/
def State.portResult (s : State) (p n : Nat) : State := s.fw (Mot.portStatus p) 11 10 n
/-- The live segment `i` of port `p`. -/
def State.segAt (s : State) (p i : Nat) : Segm :=
  ⟨s.rn (Mot.seg p i 0), (s.rg (Mot.seg p i 1)).toInt, s.rn (Mot.seg p i 2)⟩
/-- START acts (R210, R221). -/
def State.portStart (s : State) (p : Nat) : State :=
  let a := s.fd (Mot.segRange p) 9 0
  let b := s.fd (Mot.segRange p) 25 16
  if s.portState p ≠ 1 ∨ b < a then s.portResult p 1
  else if s.bt (Mot.portStatus p) 3 then s.portResult p 2
  else
    let pos := f64.ofInt (s.stepPos p)
    let segs := (List.range (b + 1 - a)).map (fun i => s.segAt p (a + i))
    let s := s.modPort p (fun r => { r with
      p := pos
      v := 0
      tau := 0
      segs := segs
      idx := 0
      first := a
      p0 := pos
      v0 := 0
      finished := false })
    ((s.fw (Mot.portStatus p) 2 0 2).fw (Mot.portStatus p) 25 16 a).portResult p 0
/-- ABORT acts (R219, R221). -/
def State.portAbort (s : State) (p : Nat) : State :=
  if s.portState p = 2 ∨ s.portState p = 3 then (s.portStop p 0).portResult p 0 else s.portResult p 1
/-- POS_SET acts (R221); accepted, it holds a command word back for one tick (R222). -/
def State.portPosSet (s : State) (p : Nat) : State :=
  if s.moving p ∨ s.portState p = 4 then s.portResult p 1
  else
    let w := s.rg (Mot.posSetVal p)
    let s := (s.wr (Mot.stepPos p) w).modPort p (fun r => { r with
      p := f64.ofInt w.toInt
      steps := []
      posSet := true })
    ((s.sb (Mot.portStatus p) 3 false).sb (Mot.portStatus p) 4 false).portResult p 0
/-- A PORT_CMD by its bit acts (R221); a write of several bits is refused. -/
def State.portAct (s : State) (p : Nat) : Nat → State
  | 0 => s.portStart p
  | 1 => s.portAbort p
  | 2 => s.portPosSet p
  | 3 => (s.wr (Mot.motCounts p) 0).portResult p 0
  | _ => s.portResult p 1
/-- Step 2 of a tick: the PORT_CMDs that have arrived act, in their order (R209). -/
def State.portActs (s : State) (p : Nat) : State :=
  (s.prun p).cmds.foldl (fun t n => t.portAct p n) (s.modPort p (fun r => { r with cmds := [], posSet := false }))
/-- A PORT_CMD of half `h` arrives and waits for the port's next tick (R209, R221): 0 START, 1 ABORT, 2 POS_SET,
3 CLEAR_COUNTS, 4 a write of several bits. -/
def State.portCmd (s : State) (h : Half) (p n : Nat) : State :=
  s.deckCmd h (104 + p / 8) (fun s => s.modPort p (fun r => { r with cmds := r.cmds ++ [n] }))

/-- One interpolation tick of a port, with its sense inputs as read (R209): the PORT_CMDs, the motion, the steps, the coil
current. A commit comes before it with its own command. DEDUCED: note 172. -/
def execMotionTick (p : Nat) (isenA isenB : Word) (s : State) : Host.Outcome State Fault Refusal :=
  .next (s.onDeck (fun s => 
    let tick := s.fieldNow (104 + p / 8) / 10000 * 10000
    let prev := (s.portWords p).map Prod.fst
    let s := s.portActs p
    let wasMoving := s.moving p
    let s := s.modPort p (fun r => { r with
      tickT := tick
      prev := prev
      steps := [] })
    let s := (s.wr (Mot.isenA p) isenA).wr (Mot.isenB p) isenB
    let st := s.portState p
    if st = 0 ∨ st = 4 then (s.wr (Mot.cmdVel p) 0).portImage p
    else
      let s := s.modPort p (fun r => if r.posSet then r else { r with
        word := r.newWord.getD r.word
        newWord := none })
      let miss := s.bt (Mot.portStatus p) 7
      let r := s.prun p
      let goal := if s.bt (Mot.portCfg p) 4 then (if miss then 0 else clamp64 0 d64two (wide r.word)) else clamp64 0 d64two (wide (s.rn (Mot.scaleSet p)))
      let sigma := slew64 r.sigma goal (f64.mul (wide (s.rn (Mot.scaleSlew p))) tickSec)
      let s := (s.modPort p (fun r => { r with sigma := sigma })).wn (Mot.sigma p) (f64.cvt f32 sigma)
      let vmax := wide (s.rn (Mot.velMax p))
      let vcmd := if miss then 0 else clamp64 (f64.neg vmax) vmax (wide r.word)
      let pa := r.p
      let s := s.modPort p (fun r =>
        if st = 2 then profileTick r
        else if st = 3 then followTick r vcmd (wide (s.rn (Mot.accMax p)))
        else { r with v := 0 })
      let r := s.prun p
      let s := if st = 2 then s.fw (Mot.portStatus p) 25 16 (r.first + r.idx) else s
      let s := s.wn (Mot.cmdVel p) (f64.cvt f32 (f64.div (f64.sub r.p pa) tickSec))
      let due := floor64 (f64.add r.p d64half) - s.stepPos p
      let wake := s.bt (Mot.portStatus p) 6 && (decide (due ≠ 0) || decide (r.v % 2 ^ 63 ≠ 0))
      let s := if wake then s.modPort p (fun r => { r with wakeEnd := tick + 10000 * s.fd (Mot.stepTiming p) 23 16 }) else s
      let s := (s.stepsTick p pa r.p tick).currentTick p tick
      let ovr := (wasMoving || s.moving p) && f32.lt (s.rn (Mot.stallAngle p)) (s.rn (Mot.loadAngle p))
      let s := s.modPort p (fun r => { r with
        ovr := if ovr then r.ovr + 1 else 0
        decl := ovr && r.decl })
      let s := if s.stallMet p then s.portStall p else s
      (s.portDone p).portImage p))
/-- The oldest engine command word on its way from half `h` reaches its port, for the next tick (R213). One with
the coast mark is no word there (R154). DEDUCED: note 76. -/
def execMotionCmdWord (h : Half) (s : State) : Host.Outcome State Fault Refusal :=
  .next (match (s.half h).motTx with
    | [] => s
    | c :: rest =>
      let s := s.modHalf h (fun x => { x with motTx := rest })
      let p := c.idx
      s.deckCmd h (104 + p / 8) (fun s =>
        if p < 32 ∧ s.takes (0x800 + 4 * p) c.loop c.j ∧ c.coast = false then
          let now := s.fieldNow (104 + p / 8)
          (s.modPort p (fun r => { r with newWord := some c.word.toNat, wordT := now })).sb (Mot.portStatus p) 7 false
        else s))
/-- No word for MISS_HOLD us at a port (R214). -/
def execPortCmdMissing (p : Nat) (s : State) : Host.Outcome State Fault Refusal :=
  .next (s.onDeck (fun s => 
    if s.bt (Mot.portCfg p) 0
        ∧ (s.prun p).wordT + 1000 * s.fd (Mot.missHold p) 13 0 ≤ s.fieldNow (104 + p / 8) then
      s.sb (Mot.portStatus p) 7 true
    else s))
/-- No step for HOLD_DELAY ms while not moving: the current is reduced from the next tick on (R216). -/
def execPortStandstill (p : Nat) (s : State) : Host.Outcome State Fault Refusal :=
  .next (s.onDeck (fun s => 
    let st := s.portState p
    if st ≠ 0 ∧ st ≠ 4 ∧ s.standstill p (s.fieldNow (104 + p / 8)) then s.sb (Mot.portStatus p) 6 true else s))
/-- The load angle has exceeded STALL_ANGLE in STALL_COUNT consecutive ticks (R218). -/
def execPortStalled (p : Nat) (s : State) : Host.Outcome State Fault Refusal :=
  .next (s.onDeck (fun s => if s.stallMet p then s.portStall p else s))
/-- PORT_CMD.START (R210, R221): it acts at the port's next tick (`State.portStart`). -/
def execPortStart (h : Half) (p : Nat) (s : State) : Host.Outcome State Fault Refusal := .next (s.portCmd h p 0)
/-- PORT_CMD.ABORT (R219, R221): it acts at the port's next tick (`State.portAbort`). -/
def execPortAbort (h : Half) (p : Nat) (s : State) : Host.Outcome State Fault Refusal := .next (s.portCmd h p 1)
/-- PORT_CMD.POS_SET (R221): it acts at the port's next tick (`State.portPosSet`). -/
def execPosSet (h : Half) (p : Nat) (s : State) : Host.Outcome State Fault Refusal := .next (s.portCmd h p 2)
/-- PORT_CMD.CLEAR_COUNTS (R221): it acts at the port's next tick. -/
def execPortClearCounts (h : Half) (p : Nat) (s : State) : Host.Outcome State Fault Refusal := .next (s.portCmd h p 3)

/-- A commit of the port's unit, its state (R210, R219); `o` is the state before. -/
def State.commitPort (s o : State) (p : Nat) : State :=
  let was := o.bt (Mot.portCfg p) 0
  let is := s.bt (Mot.portCfg p) 0
  let modeNew := decide (s.fd (Mot.portCfg p) 2 1 ≠ o.fd (Mot.portCfg p) 2 1)
  if is && !was then
    let pos := f64.ofInt (s.stepPos p)
    let s := (s.wr (Mot.loadAngle p) 0).modPort p (fun r => { r with p := pos, v := 0, segs := [], finished := false })
    if s.lidOff (320 + p) then s.fw (Mot.portStatus p) 2 0 4
    else (s.sb (Mot.portStatus p) 8 true).fw (Mot.portStatus p) 2 0 (s.restState p)
  else if was && !is then s.portDrop p 3 0
  else if is && modeNew then
    let s := if s.moving p ∨ s.portState p = 2 then s.portStop p 2 else s
    if s.portState p = 4 then s else s.fw (Mot.portStatus p) 2 0 (s.restState p)
  else s
/-- A commit of the port's unit (R210, R219, R339); `o` is the state before. -/
def State.commitMot (s o : State) (p : Nat) : State := (s.commitPort o p).sourceEdge 4 p
/-- The motion words of a loop at its tick go to its input port (R220). -/
def State.motSample (s : State) (h : Half) (loop : Nat) : State :=
  if s.deckHears h = false then s
  else (List.range 8).foldl (fun t k =>
    let e := Map.get (fun _ => 0) (t.half h).route (8 * (8 * loop + k))
    if bits e 3 0 = 3 then
      match (t.portWordsAt (bits e 15 4) (t.now h))[bits e 19 16]? with
      | some w => t.modHalf h (fun x => { x with measTx := x.measTx ++ [⟨loop, k, w.2, w.1⟩] })
      | none => t
    else t) s

end Sys2Proof.Machine
end

