-- ==== Sys2Proof/Machine/Lid.lean ====
section
/-! DEFINITION. Lid: inputs, trip terms, targets, lock-out and its reset, configuration (R291-R319). -/
namespace Sys2Proof.Machine

/-! ### Inputs and conditions (R291-R294) -/

/-- Lid input `i` on a rail, 0 (`r` false) or 1: whether it demands (R291). Rail 0 takes the island path of a comparator
and the first path of a digital input. DEDUCED: note 91. -/
def State.lidInput (s : State) (r : Bool) (i : Nat) : Bool :=
  if i < 512 then
    let c := i / 2
    if s.bt (Anc.cardStatus (c / 16)) 1 = false then true
    else if i % 2 = 0 then (s.chan c).lo.rail (!r) else (s.chan c).hi.rail (!r)
  else if i < 1024 then
    let j := i - 512
    !s.bt (Din.diStatus j) 4 || !(if r then (s.din j).p1.state else (s.din j).p0.state)
  else if i < 1280 then s.deck.lid.demA.testBit (i - 1024) || s.deck.lid.demB.testBit (i - 1024)
  else false
/-- Reference `k` of term `t`; 0x7FF is unused. DEDUCED: note 92. -/
def State.termRefAt (s : State) (t k : Nat) : Nat :=
  if k % 2 = 0 then s.fd (Lid.termRef t (k / 2)) 10 0 else s.fd (Lid.termRef t (k / 2)) 26 16
/-- The references of a term in use. -/
def State.termRefs (s : State) (t : Nat) : List Nat :=
  ((List.range 8).map (s.termRefAt t)).filter (fun r => decide (r ≠ 0x7FF))
/-- Term kind: 1 SAFETY, 2 SHED; anything else never acts. -/
def State.termKind (s : State) (t : Nat) : Nat := s.fd (Lid.termCtrl t) 1 0
/-- The condition of R293 on one rail. DEDUCED: note 91. -/
def State.termCond (s : State) (r : Bool) (t : Nat) : Bool :=
  let refs := s.termRefs t
  let vote := let v := s.fd (Lid.termCtrl t) 7 4; if v = 0 then 1 else v
  let k := s.termKind t
  (decide (k = 1) || decide (k = 2)) && decide (refs ≠ [])
    && decide ((if vote < refs.length then vote else refs.length) ≤ (refs.filter (s.lidInput r)).length)
/-- The terms in use, in rising order. -/
def State.usedTerms (s : State) : List Nat :=
  (((s.live.filter (fun e => decide (Lid.termCtrl 0 ≤ e.1) && decide (e.1 < Lid.termCtrl 512)
    && decide ((e.1 - Lid.termCtrl 0) % 0x20 = 0))).map (fun e => (e.1 - Lid.termCtrl 0) / 0x20))).filter
    (fun t => decide (s.termKind t = 1) || decide (s.termKind t = 2))
/-- A term beyond its registers. -/
def State.term (s : State) (t : Nat) : TermRun := Map.get (fun _ => {}) s.deck.lid.terms t
/-- Change it. -/
def State.modTerm (s : State) (t : Nat) (f : TermRun → TermRun) : State :=
  s.modLid (fun l => { l with terms := Map.set (fun _ => {}) l.terms t (f (Map.get (fun _ => {}) l.terms t)) })
/-- LOCK_STATE: 0 CLEAR, 1 TRIPPED, 2 LOCKED, 3 ARMED (R299). -/
def State.lockState (s : State) (t : Nat) : Nat := s.fd (Lid.termStatus t) 1 0

/-! ### Targets (R296, R298, R303) -/

/-- Whether a term holds its targets disabled. -/
def State.termHolds (s : State) (t : Nat) : Bool :=
  (decide (s.termKind t = 1) && decide (s.lockState t ≠ 0)) || (decide (s.termKind t = 2) && decide (s.lockState t = 1))
/-- Word `w` of an action set: 0-7 outputs, 8-9 links, 10 motion ports. -/
def actWord (a w : Nat) : Nat := if w < 8 then Lid.actDo a w else if w < 10 then Lid.actDl a (w - 8) else Lid.actMo a
/-- The targets that the terms disable; every one until the first commit of group 5 (R298). -/
def State.disabledWord (s : State) (held : List Nat) (w : Nat) : Word :=
  if s.bt Lid.lidStatus 0 = false then 0xFFFFFFFF
  else held.foldl (fun m t => m ||| s.rg (actWord (s.fd (Lid.termCtrl t) 13 8) w)) 0
/-- A target follows its disable lines (R296, R303). -/
def State.targetShow (s : State) (k : Nat) : State :=
  if k < 256 then s.doOne k
  else if k < 320 then s.gateShow (k - 256)
  else s.motDisable (k - 320) (s.lidOff k)
/-- LID_STATUS and DISABLED_MAP follow the terms, and every target whose lines change follows them. DEDUCED: note 91. -/
def State.lidShow (s : State) : State :=
  let ts := s.usedTerms
  let s := s.fw Lid.lidStatus 31 16 ((ts.filter (fun t => decide (s.termKind t = 1) && decide (s.lockState t ≠ 0))).length)
  let s := s.sb Lid.lidStatus 2 (ts.any (fun t => s.bt (Lid.termStatus t) 3))
  let held := ts.filter s.termHolds
  let o := s
  let s := (List.range 11).foldl (fun (u : State) (w : Nat) => u.wr (Lid.disabledMap w) (o.disabledWord held w)) s
  let changed := (List.range 352).filter (fun k => s.lidOff k != o.lidOff k)
  changed.foldl State.targetShow s

/-! ### Terms (R293-R299, R307) -/

/-- The demand state of the eight references on a rail, bit k for reference k. -/
def State.refStates (s : State) (r : Bool) (t : Nat) : Nat :=
  (bitMap 8 (fun k => decide (s.termRefAt t k ≠ 0x7FF) && s.lidInput r (s.termRefAt t k))).toNat
/-- The first reference found in demand. -/
def State.firstOut (s : State) (r : Bool) (t : Nat) : Nat :=
  ((List.range 8).find? (fun k => (s.refStates r t).testBit k)).getD 0
/-- A SAFETY term enters TRIPPED (R299, R540, R560); `r` is the rail of the decision. -/
def State.termTrip (s : State) (t : Nat) (r : Bool) : State :=
  let fo := s.firstOut r t
  let rs := s.refStates r t
  let now := s.deckNow
  let s := (((s.fw (Lid.termStatus t) 1 0 1).fw (Lid.termStatus t) 6 4 fo).fw (Lid.termStatus t) 9 8 0).satF
    (Lid.termStatus t) 31 16 1
  let s := (s.wn (Lid.termTripT t 0) now).wn (Lid.termTripT t 1) (now / 2 ^ 32)
  let data := (fo + rs * 256 + r.toNat * 65536 + s.termKind t * 2 ^ 17) ::
    ((List.range 4).map (fun k => s.rn (Lid.termRef t k)) ++ [s.deck.trivet.pinSeq, 0, 0])
  let s := s.tripRecord ⟨now, s.deckOpTime, s.deck.cycles, decide (now ≠ 0), true, true, .a, false, 0x0A01, 0xE, t, 1, 0, 0,
    now, data.map (BitVec.ofNat 32)⟩
  let g := s.fd (Lid.termCtrl t) 19 16
  let s := s.modDeck (fun d => { d with panel := { d.panel with next := some (2, g) } })
  (s.raiseBoth 128).reportDeck 0x0A01 0xE t [fo, rs]
/-- The delay of a term in ticks of its rail's 250 MHz oscillator (R293). -/
def State.termDelay (s : State) (t : Nat) : Nat := s.fd (Lid.termCtrl t) 31 22 * 2500
/-- A term becomes LOCKED. -/
def State.termLock (s : State) (t : Nat) : State :=
  ((s.fw (Lid.termStatus t) 1 0 2).fw (Lid.termStatus t) 9 8 0).reportDeck 0x0A02 0xE t []
/-- A term takes the state that its condition gives (R293, R294, R299, R307). -/
def State.termEval (s : State) (t : Nat) : State :=
  let fault := s.bt (Lid.termStatus t) 3
  let used := decide (s.termKind t = 1) || decide (s.termKind t = 2)
  let c0 := s.termCond false t || (fault && used)
  let c1 := s.termCond true t || (fault && used)
  let now := s.deck.ticks
  let d := s.termDelay t
  let f (c : Bool) (x : Option Nat) : Option Nat := if c then some (x.getD now) else none
  let s := s.modTerm t (fun x => { x with
    since0 := f c0 x.since0
    since1 := f c1 x.since1
    act0 := c0 && (x.act0 || decide (d = 0))
    act1 := c1 && (x.act1 || decide (d = 0)) })
  let cfg := s.bt Lid.lidStatus 3 && used
  let x := s.term t
  let s := s.sb (Lid.termStatus t) 2 (c0 || c1)
  let acts := x.act0 || x.act1 || cfg
  let st := s.lockState t
  let r := !x.act0 && x.act1
  if s.termKind t = 1 then
    (if st ≠ 1 then (if acts then s.termTrip t r else s)
     else if c0 || c1 || cfg then s
     else s.termLock t)
  else if s.termKind t = 2 then
    (if acts ∧ st ≠ 1 then
      ((s.fw (Lid.termStatus t) 1 0 1).satF (Lid.termStatus t) 31 16 1).reportDeck 0x0A04 0xE t [s.firstOut r t]
     else if !acts ∧ st = 1 then s.fw (Lid.termStatus t) 1 0 0
     else s)
  else s
/-- Some terms are evaluated afresh, and the targets follow. -/
def State.termsEval (s : State) (ts : List Nat) : State := (ts.foldl State.termEval s).lidShow

/-- A Lid input changes on a rail (R295): every term that references it is evaluated. -/
def execLidInputChange (i : Nat) (s : State) : Host.Outcome State Fault Refusal :=
  .next (s.onDeck (fun s => s.termsEval (s.usedTerms.filter (fun t => (s.termRefs t).contains i))))
/-- A condition has held for DELAY x 10 us (R293). -/
def execTermDelayExpire (t : Nat) (s : State) : Host.Outcome State Fault Refusal :=
  .next (s.onDeck (fun s => 
    let d := s.termDelay t
    let due (x : Option Nat) : Bool := match x with
      | some k => decide (k + d ≤ s.deck.ticks)
      | none => false
    (s.modTerm t (fun x => { x with act0 := x.act0 || due x.since0, act1 := x.act1 || due x.since1 })).termsEval [t]))
/-- The rails have differed on a term for more than 1 us (R294). -/
def execTermRailFault (t : Nat) (s : State) : Host.Outcome State Fault Refusal :=
  .next (s.onDeck (fun s => 
    let c0 := s.termCond false t
    let c1 := s.termCond true t
    let now := s.deck.ticks
    let s := if c0 = c1 then s else s.modTerm t (fun x => { x with railT := now })
    if c0 ≠ c1 ∧ s.bt (Lid.termStatus t) 3 = false then
      ((s.sb (Lid.termStatus t) 3 true).reportDeck 0x0A05 0xE t [c0.toNat, c1.toNat]).termsEval [t]
    else s))
/-- The rails have agreed on a term for 100 ms (R294). -/
def execRailFaultClear (t : Nat) (s : State) : Host.Outcome State Fault Refusal :=
  .next (s.onDeck (fun s => 
    if s.termCond false t = s.termCond true t ∧ s.bt (Lid.termStatus t) 3
        ∧ (s.term t).railT + 25000000 ≤ s.deck.ticks then
      (s.sb (Lid.termStatus t) 3 false).termsEval [t]
    else s))
/-- The rails compare the CRC of their configuration copies (R294). -/
def execConfigCrcCompare (c0 c1 : Word) (s : State) : Host.Outcome State Fault Refusal :=
  .next (s.onDeck (fun s => 
    if c0 = c1 ∨ s.bt Lid.lidStatus 3 then s
    else ((s.sb Lid.lidStatus 3 true).reportDeck 0x0A06 0xE 0 [c0.toNat, c1.toNat]).termsEval s.usedTerms))
/-- A target's disable-line returns have disagreed for 10 us (R297). DEDUCED: note 94. -/
def execTargetFault (k : Nat) (r0 r1 : Bool) (s : State) : Host.Outcome State Fault Refusal :=
  .next (s.onDeck (fun s => 
    if (r0 ≠ s.lidOff k ∨ r1 ≠ s.lidOff k) ∧ s.mapBit (Lid.targetFaultMap 0) k = false then
      (s.setMapBit (Lid.targetFaultMap 0) k true).reportDeck 0x0A07 0xF k [r0.toNat, r1.toNat]
    else s))

/-! ### Half demands (R292) -/

/-- The demands that the engines of half `h` assert: TRIP_DEMAND of every copy whose STATUS.DEMAND is 1 and that is not
STANDBY. -/
def State.engDemands (s : State) (h : Half) : List Nat :=
  (s.half h).place.lost.filterMap (fun l => l.demand) ++ ((s.live.filter (fun e => decide (engBase h 0 ≤ e.1) && decide (e.1 < engBase h 512)
    && decide (0x1000 ≤ (e.1 - engBase h 0) % 0x40000) && decide ((e.1 - engBase h 0) % 0x40000 < 0x2000)
    && decide ((e.1 - engBase h 0) % 0x200 = 0xC0) && bit e.2 9 && !bit e.2 4
    && (bits e.2 1 0 == 1 || bits e.2 1 0 == 2) && !s.mapBit (Mod.plcOos h 0) ((e.1 - engBase h 0) / 0x40000))).map (fun e =>
      s.fd (e.1 - 0xC0 + 0x18) 15 8))
/-- The half's vector of 256 demands as bit map. -/
def State.demandVec (s : State) (h : Half) : Nat :=
  (List.range 8).foldl (fun v w => v + s.rn (Mod.lidDemand h w) * 2 ^ (32 * w)) 0
    ||| (s.engDemands h).foldl (fun v d => v ||| 2 ^ d) 0
/-- LID_DEMAND_SENT takes the vector as it is sent. -/
def State.demandSend (s : State) (h : Half) : State :=
  let v := s.demandVec h
  (List.range 8).foldl (fun (t : State) (w : Nat) => t.wn (Mod.lidDemandSent h w) (v / 2 ^ (32 * w))) s
/-- A half's vector arrives at Lid. -/
def State.demandTake (s : State) (h : Half) (v : Nat) : State :=
  let s := s.modLid (fun l => match h with
    | .a => { l with demA := v }
    | .b => { l with demB := v })
  s.termsEval (s.usedTerms.filter (fun t => (s.termRefs t).any (fun r => decide (1024 ≤ r))))
/-- A half's vector is sent and arrives (R292). -/
def execHalfDemandVector (h : Half) (s : State) : Host.Outcome State Fault Refusal :=
  .next (s.onHalf h (fun s =>
    let s := s.demandSend h
    if (s.half h).linkUp then s.demandTake h (s.demandVec h) else s))
/-- A write of MOD.LID_DEMAND (R292). -/
def execLidDemandWrite (h : Half) (w : Nat) (val : Word) (s : State) : Host.Outcome State Fault Refusal :=
  .next (s.onHalf h (fun s => (s.wr (Mod.lidDemand h w) val).demandSend h))
/-- 200 us after a half's link is lost or the half is reset (R292). -/
def execHalfDemandRelease (h : Half) (s : State) : Host.Outcome State Fault Refusal :=
  .next (s.onDeck (fun s =>
    if s.deckHears h ∨ s.deck.ticks < (s.half h).lostT + 50000 then s else s.demandTake h 0))

/-! ### The two-step reset (R299-R303) -/

/-- RESET_STATUS and source 134 after a step of any source. -/
def State.resetResult (s : State) (src res : Nat) : State :=
  ((s.fw Lid.resetStatus 2 0 res).fw Lid.resetStatus 5 4 src).raiseBoth 134
/-- The groups of a step that its source may act on (R300). -/
def State.groupAllows (s : State) (src groups g : Nat) : Bool :=
  groups.testBit g && decide (0 < src) && s.bt (Lid.resetGrp g) (src - 1)
/-- The terms of those groups in one state. -/
def State.groupTerms (s : State) (src groups st : Nat) : List Nat :=
  s.usedTerms.filter (fun t => decide (s.termKind t = 1) && decide (s.lockState t = st)
    && s.groupAllows src groups (s.fd (Lid.termCtrl t) 19 16))
/-- Step 1 (R300) at the instant `now`. -/
def State.lidArm (s : State) (h : Half) (src groups now : Nat) : State :=
  let ts := s.groupTerms src groups 2
  if ts = [] then s.resetResult src 5
  else
    let s := ts.foldl (fun (u : State) (t : Nat) =>
      ((u.fw (Lid.termStatus t) 1 0 3).fw (Lid.termStatus t) 9 8 src).modTerm t (fun x => { x with armT := now })) s
    ((s.chgEntry h 8 src groups).resetResult src 0).lidShow
/-- A term of the group has an output of its action set commanded on (R302). DEDUCED: note 93. -/
def State.cmdOn (s : State) (t : Nat) : Bool :=
  let a := s.fd (Lid.termCtrl t) 13 8
  (List.range 256).any (fun o => s.mapBit (Lid.actDo a 0) o && s.doCommand o)
/-- Step 2 (R300, R302, R303) at the instant `now`: the terms armed by the same source, inside its window. A term whose
condition acts in the same cycle trips instead (R317). DEDUCED: note 93. -/
def State.lidConfirm (s : State) (h : Half) (src groups now : Nat) : State :=
  let hi := if src = 3 then 1250000000 else 2500000000
  let mine (s : State) : List Nat := (s.groupTerms src groups 3).filter (fun t => decide (s.fd (Lid.termStatus t) 9 8 = src)
    && decide ((s.term t).armT + 125000000 ≤ now) && decide (now ≤ (s.term t).armT + hi))
  let s := s.termsEval (mine s)
  let ts := mine s
  if ts = [] then s.resetResult src 3
  else if (s.groupTerms src groups 3).any (fun t =>
      s.bt (Lid.resetGrp (s.fd (Lid.termCtrl t) 19 16)) 3 && s.cmdOn t) then s.resetResult src 4
  else
    let s := ts.foldl (fun (u : State) (t : Nat) =>
      ((u.fw (Lid.termStatus t) 1 0 0).fw (Lid.termStatus t) 9 8 0).reportDeck 0x0A03 0xE t [src]) s
    let s := s.fw Lid.resetStatus 31 16 (s.fd Lid.resetStatus 31 16 + 1)
    ((s.chgEntry h 8 (src + 4) groups).resetResult src 0).termsEval ts
/-- The groups for which digital input `i` is the external input, and none of whose terms references it (R301). -/
def State.extGroups (s : State) (i : Nat) : Nat :=
  (bitMap 16 (fun g => s.bt (Lid.resetGrp g) 2 && decide (s.fd (Lid.resetGrp g) 24 16 = i)
    && !s.usedTerms.any (fun t => decide (s.fd (Lid.termCtrl t) 19 16 = g) && (s.termRefs t).contains (512 + i)))).toNat
/-- Whether input `i` has just made an edge, to 1 (`up`) or to 0, VALID, after at least 0.5 s VALID at the other state, and
for a falling edge at most 5 s (R301). DEDUCED: note 178. -/
def State.extEdge (s : State) (i : Nat) (up : Bool) : Bool :=
  let x := s.din i
  decide (i < 512) && !x.stepDone && s.bt (Din.diStatus i) 4 && (s.bt (Din.diStatus i) 0 == up)
    && decide (x.was = (if up then 2 else 3)) && decide (125000000 ≤ x.wasFor) && (up || decide (x.wasFor ≤ 1250000000))
/-- A step by the external input `i`: an edge is one step, and one outside the limits is none. -/
def State.extStep (s : State) (i : Nat) (up : Bool) (f : State → Nat → Nat → State) : State :=
  if s.extEdge i up ∧ s.extGroups i ≠ 0 then
    let at_ := (s.din i).since
    f (s.modDin i (fun x => { x with stepDone := true })) (s.extGroups i) at_
  else s
/-- A step of a source (R301): the panel's for the group in PANEL_GROUP; software's only from the owner and with a token of
purpose RESET; for EXTERNAL, `groups` is the number of the digital input. -/
def State.lidStep (s : State) (src : Nat) (h : Half) (groups : Nat) (up : Bool)
    (f : State → Half → Nat → Nat → Nat → State) : State :=
  if src = 2 then
    s.onHalf h (fun s =>
      if (s.half h).linkUp = false then s
      else if s.owns h 125 = false then (s.deckRefuse h).resetResult 2 2
      else
        let blocked := s.bt Lid.lidStatus 1 && s.bt Lid.lidStatus 4
        let r := s.tokenCheck h Lid.tokenLo Lid.tokenHi 2
        if r.1 then f r.2 h 2 groups s.deck.ticks else r.2.resetResult 2 (if blocked then 6 else 1))
  else if src = 1 then f s h 1 (2 ^ s.fd Lid.panelGroup 3 0) s.deck.ticks
  else if src = 3 then s.extStep groups up (fun s g t => f s h 3 g t)
  else s
/-- Step 1 from a source: 1 PANEL, 2 SOFTWARE, 3 EXTERNAL. -/
def execLidResetArm (src : Nat) (h : Half) (groups : Nat) (s : State) : Host.Outcome State Fault Refusal :=
  .next (s.onDeck (fun s => s.lidStep src h groups true State.lidArm))
/-- Step 2 from a source. -/
def execLidResetConfirm (src : Nat) (h : Half) (groups : Nat) (s : State) : Host.Outcome State Fault Refusal :=
  .next (s.onDeck (fun s => s.lidStep src h groups false State.lidConfirm))
/-- 10 s after step 1 (R299). -/
def execArmWindowExpire (t : Nat) (s : State) : Host.Outcome State Fault Refusal :=
  .next (s.onDeck (fun s => 
    if s.lockState t = 3 ∧ (s.term t).armT + 2500000000 ≤ s.deck.ticks then (s.termLock t).lidShow else s))
/-- The Lid group changes owner (R317): terms armed by SOFTWARE return to LOCKED. -/
def State.lidOwner (s : State) : State :=
  ((s.usedTerms.filter (fun t => decide (s.lockState t = 3) && decide (s.fd (Lid.termStatus t) 9 8 = 2))).foldl
    State.termLock s).lidShow

/-! ### Configuration (R298, R304, R305, R309, R311-R316) -/

/-- The registers under CONFIG_CRC, in order (R316). -/
def configRegs : List Nat :=
  Lid.lidCfg :: ((List.range 16).map Lid.resetGrp
    ++ (List.range 512).flatMap (fun t => Lid.termCtrl t :: (List.range 4).map (Lid.termRef t))
    ++ (List.range 64).flatMap (fun a => (List.range 11).map (actWord a))
    ++ (List.range 128).map Lid.tpCfg)
/-- CONFIG_CRC over the values that `f` reads (R316). -/
def configCrcOf (f : Nat → Nat) : Word := crc32 (configRegs.flatMap (fun a => leBytes 4 (f a)))
/-- Two enabled supplies of one card share a slot (R309), by the values that `f` reads. -/
def tpClash (f : Nat → Nat) : Bool :=
  (List.range 128).any (fun g => (List.range 128).any (fun j => decide (g < j) && decide (g / 8 = j / 8)
    && (f (Lid.tpCfg g)).testBit 8 && (f (Lid.tpCfg j)).testBit 8
    && decide (f (Lid.tpCfg g) % 128 = f (Lid.tpCfg j) % 128)))
/-- A SHED term's action set names a drive link or a motion port (R307), by the values that `f` reads. -/
def shedBad (f : Nat → Nat) : Bool :=
  (List.range 512).any (fun t => decide (f (Lid.termCtrl t) % 4 = 2)
    && [8, 9, 10].any (fun w => decide (f (actWord (f (Lid.termCtrl t) / 256 % 64) w) ≠ 0)))
/-- The configuration has changed on both rails (R298, R304, R305): `o` is the state before. DEDUCED: note 94. -/
def State.lidApply (s o : State) : State :=
  let first := !o.bt Lid.lidStatus 0
  let s := s.wr Lid.configCrc (configCrcOf s.rn)
  let s := (((s.sb Lid.lidStatus 0 true).sb Lid.lidStatus 5 (tpClash s.rn))).sb Lid.lidStatus 9 (s.bt Lid.lidCfg 0)
  let gone := o.usedTerms.filter (fun t => decide (s.termKind t ≠ 1) && decide (s.termKind t ≠ 2))
  let s := gone.foldl (fun (u : State) (t : Nat) =>
    (u.wr (Lid.termStatus t) (u.rg (Lid.termStatus t) &&& 0xFFFF0000)).modTerm t (fun _ => {})) s
  let ts := s.usedTerms
  let s := ts.foldl (fun (u : State) (t : Nat) =>
    let u := u.modTerm t (fun _ => {})
    if u.termKind t = 1 ∧ (first ∨ o.termKind t ≠ 1) then
      u.fw (Lid.termStatus t) 1 0 (if u.bt (Lid.resetGrp (u.fd (Lid.termCtrl t) 19 16)) 4 then 2 else 0)
    else if u.termKind t = 2 ∧ o.termKind t ≠ 2 then u.fw (Lid.termStatus t) 1 0 0
    else u) s
  s.termsEval ts
/-- The unit of group 5. -/
def lidUnit : CUnit := ⟨5, none, 0⟩
/-- COMMIT_RESULT, source 133 and the change-log entry of a refused or abandoned commit. -/
def State.lidCommitOut (s : State) (h : Half) (res : Nat) : State :=
  ((s.fw Lid.lidStatus 8 6 res).raiseBoth 133).chgEntry h 9 0 0
/-- A strobe of group 5 from half `h` (R307, R313). -/
def State.lidStrobe (s : State) (h : Half) : State :=
  if s.pend h 5 then s.cmtFlag h (Cmt.cmtStrobeRefused h) 5
  else if (s.dirty.filter (s.actable h 5)) = [] then s.strobeGroup h 5
  else
    let r := s.tokenCheck h Lid.tokenLo Lid.tokenHi 1
    let s := r.2
    if r.1 = false then (s.abandonUnit lidUnit).lidCommitOut h 2
    else if shedBad (fun a => (s.sh a).toNat) then (s.abandonUnit lidUnit).lidCommitOut h 4
    else
      let s := (s.strobeGroup h 5).fw Lid.lidStatus 8 6 1
      s.modLid (fun l => { l with waitT := s.deck.ticks, waitH := h })
/-- The commit point of group 5 (R313): no SAFETY term away from CLEAR and no CONFIG_FAULT. -/
def State.lidCanCommit (s : State) : Bool :=
  decide (s.fd Lid.lidStatus 31 16 = 0) && !s.bt Lid.lidStatus 3
/-- The group's commit. -/
def execLidCommit (s : State) : Host.Outcome State Fault Refusal :=
  .next (s.onDeck (fun s => 
    if s.marked.contains lidUnit ∧ s.lidCanCommit then
      let o := s
      let s := (s.copyUnit lidUnit).lidApply o
      let h := s.deck.lid.waitH
      let s := (s.fw Lid.lidStatus 8 6 0).raiseBoth 133
      let s := s.chgEntry h 1 0 0
      s.settle .a 5
    else s))
/-- LID_CMD.PW_SET (R312). -/
def execPwSet (h : Half) (s : State) : Host.Outcome State Fault Refusal :=
  .next (s.deckCmd h 125 (fun s =>
    let r := s.tokenCheck h Lid.tokenLo Lid.tokenHi 4
    if r.1 then
      let s := (List.range 4).foldl (fun (t : State) (w : Nat) => t.wr (Lid.pwSalt w) (t.rg (Lid.pwNew w))) r.2
      let s := (List.range 8).foldl (fun (t : State) (w : Nat) => t.wr (Lid.pwVerifier w) (t.rg (Lid.pwNew (4 + w)))) s
      (s.sb Lid.lidStatus 1 true).chgEntry h 4 0 0
    else r.2))
/-- LID_CMD.CLEAR_COUNTS. -/
def execLidClearCounts (h : Half) (s : State) : Host.Outcome State Fault Refusal :=
  .next (s.deckCmd h 125 (fun s =>
    (List.range 512).foldl (fun (t : State) (k : Nat) => t.fw (Lid.termStatus k) 31 16 0) s))
/-- 60 s after TOKEN_BLOCKED was set (R311). -/
def execTokenBlockEnd (s : State) : Host.Outcome State Fault Refusal :=
  .next (s.onDeck (fun s =>
    if s.deck.ticks < s.deck.lid.blockT + 15000000000 then s
    else (s.sb Lid.lidStatus 4 false).modLid (fun l => { l with failRun := 0 })))

end Sys2Proof.Machine
end

