-- ==== Sys2Proof/Machine/PwrOps.lean ====
section
/-! DEFINITION. The power-management sequencer: sources, generators, islands, requests and shed demands (R464-R475). DEDUCED: notes 116, 117. -/
namespace Sys2Proof.Machine

/-- Change the sequencer of half `h`, a generator of it or a section of it. -/
def State.modPwr (s : State) (h : Half) (f : PwrSeq → PwrSeq) : State := s.modHalf h (fun x => { x with pwr := f x.pwr })
def State.gen (s : State) (h : Half) (g : Nat) : GenRun := Map.get (fun _ => {}) (s.half h).pwr.gens g
def State.modGen (s : State) (h : Half) (g : Nat) (f : GenRun → GenRun) : State :=
  s.modPwr h (fun x => { x with gens := Map.set (fun _ => {}) x.gens g (f (Map.get (fun _ => {}) x.gens g)) })
def State.isl (s : State) (h : Half) (b : Nat) : IslRun := Map.get (fun _ => {}) (s.half h).pwr.isls b
def State.modIsl (s : State) (h : Half) (b : Nat) (f : IslRun → IslRun) : State :=
  s.modPwr h (fun x => { x with isls := Map.set (fun _ => {}) x.isls b (f (Map.get (fun _ => {}) x.isls b)) })

/-- Whether half `h` issues (R466): LEAD, owner of group 127, sequencer enabled. -/
def State.pwrIssues (s : State) (h : Half) : Bool :=
  decide (s.hstate h = 4) && s.owns h 127 && s.bt (Pwr.pwrCfg h) 0
/-- A record that only the issuing half writes (R481). -/
def State.pwrLog (s : State) (h : Half) (code kind num : Nat) (data : List Nat) : State :=
  if s.pwrIssues h then s.report h code kind num data else s
/-- A binary32 pattern held between two others. -/
def fclamp (lo hi x : Nat) : Nat := if f32.lt x lo then lo else if f32.lt hi x then hi else x

/-! ### Sources (R467) -/

/-- The 16-bit value of a CAN source: whether its object received a frame in the last 1,000 ms, and the value. -/
def State.pwrCan (s : State) (h : Half) (d : Word) : Bool × Nat :=
  let p := bits d 19 16
  let k := bits d 15 4 % 2048
  let b := bits d 25 20
  let byteOf (i : Nat) : Nat := s.rn (Can.data h p k (i / 4 % 16)) / 2 ^ (8 * (i % 4)) % 256
  let t := s.rd64 (Can.objTimeLo h p k)
  (s.bt (Can.objCfg h p k) 0 && !s.bt (Can.objCfg h p k) 1 && decide (t ≠ 0) && decide (s.now h ≤ t + 1000000000),
    byteOf b + 256 * byteOf (b + 1))
/-- BLK_MS of section `b`, in ns. -/
def State.blkNs (s : State) (h : Half) (b : Nat) : Nat := clampNat 5 100 (s.fd (Pwr.busCtrl h b) 15 8) * 10000000
/-- A ZC source: the frequency, judged with BLK_MS of section `b`. -/
def State.pwrZc (s : State) (h : Half) (d : Word) (b : Nat) : Bool × Nat :=
  let c := bits d 15 4 % 256
  let per := s.rn (Anc.zcPeriod c)
  let f := f32.div 0x4E6E6B28 (f32.ofInt per)
  let t := s.rn (Anc.zcTLo c) + 2 ^ 32 * s.rn (Anc.zcTHi c)
  (s.ancConverts c true && s.bt (Anc.chCfg c) 22 && s.bt (Anc.chStatus c) 8 && decide (per ≠ 0)
    && decide (s.now h ≤ t + s.blkNs h b) && f32.le 0x42340000 f && f32.le f 0x42820000, f)
/-- A numeric source: whether it is valid and its value as binary32; a frequency's CAN value is unsigned hundredths of Hz. -/
def State.pwrNum (s : State) (h : Half) (d : Word) (b : Nat) (freq : Bool) : Bool × Nat :=
  let i := bits d 15 4
  match bits d 2 0 with
  | 1 => (s.bt (Anc.chStatus (i % 256)) 8, s.rn (Anc.value (i % 256)))
  | 2 => s.pwrZc h d b
  | 3 => (s.mapBit (Din.diValidMap 0) (i % 512),
      if (s.mapBit (Din.diStateMap 0) (i % 512)) != bit d 3 then 0x3F800000 else 0)
  | 4 =>
    let c := s.pwrCan h d
    (c.1, if freq then f32.mul (f32.ofInt c.2) 0x3C23D70A
      else f32.ofInt (if c.2 < 32768 then (c.2 : Int) else (c.2 : Int) - 65536))
  | _ => (false, 0)
/-- A boolean source: whether it is valid and its value; KIND NONE is a quantity that is not used, valid and 0. -/
def State.pwrBool (s : State) (h : Half) (d : Word) (b : Nat) : Bool × Bool :=
  match bits d 2 0 with
  | 3 => (s.mapBit (Din.diValidMap 0) (bits d 15 4 % 512), s.mapBit (Din.diStateMap 0) (bits d 15 4 % 512) != bit d 3)
  | 4 =>
    let c := s.pwrCan h d
    (c.1, decide (c.2 ≠ 0) != bit d 3)
  | 1 | 2 =>
    let x := s.pwrNum h d b false
    (x.1, !f32.eq x.2 0)
  | _ => (true, false)

/-! ### Generators and islands (R464, R468-R470) -/

/-- GEN_STATUS.STATE: 0 ABSENT, 1 STOPPED, 2 STARTING, 3 SYNCING, 4 ONLINE, 5 STOPPING, 6 FAILED, 7 UNAVAILABLE. -/
def State.genState (s : State) (h : Half) (g : Nat) : Nat := s.fd (Pwr.genStatus h g) 2 0
def State.genPresent (s : State) (h : Half) (g : Nat) : Bool := s.bt (Pwr.genCtrl h g) 0
/-- Whether the generator's breaker reads closed, as taken at the boundary: it is online. -/
def State.genOnline (s : State) (h : Half) (g : Nat) : Bool := s.genPresent h g && s.bt (Pwr.genStatus h g) 10
/-- Its section, rating (kW) and whether it is in automatic and not blocked. -/
def State.genSection (s : State) (h : Half) (g : Nat) : Nat := s.fd (Pwr.genCtrl h g) 2 1
def State.genKw (s : State) (h : Half) (g : Nat) : Nat := fclamp 0 0x49742400 (s.rn (Pwr.genRating h g))
def State.genAvail (s : State) (h : Half) (g : Nat) : Bool :=
  let d := s.rg (Pwr.genAutoSrc h g)
  (decide (bits d 2 0 = 0) || (s.pwrBool h d (s.genSection h g)).2) && !s.bt (Pwr.genCtrl h g) 3
/-- The weight of a generator, ramped to 0.0 over UNLOAD_S while it is unloaded (R468, R470). -/
def State.genW (s : State) (h : Half) (g : Nat) : Nat :=
  if s.genState h g = 5 then
    let t := clampNat 1 255 (s.fd (Pwr.genCtrl h g) 31 24) * 1000000
    let e := (s.now h - (s.gen h g).since) / 1000
    if t ≤ e then 0 else f32.mul (s.gen h g).w0.toNat (f32.div (f32.ofInt (t - e)) (f32.ofInt t))
  else fclamp 0 0x3F800000 (s.rn (Pwr.genWeight h g))

/-- Whether section `b` exists, and whether bus tie `b` reads closed. -/
def State.busPresent (s : State) (h : Half) (b : Nat) : Bool := decide (b < 4) && s.bt (Pwr.busCtrl h b) 0
def State.tieClosed (s : State) (h : Half) (b : Nat) : Bool :=
  decide (b < 3) && s.busPresent h b && s.busPresent h (b + 1) && (s.pwrBool h (s.rg (Pwr.busTieSrc h b)) b).2
/-- The lowest section of the island of section `b`. -/
def State.islandOf (s : State) (h : Half) : Nat → Nat
  | 0 => 0
  | b + 1 => if s.tieClosed h b then State.islandOf s h b else b + 1
/-- The islands by their lowest section, the sections of one and its generators. -/
def State.islands (s : State) (h : Half) : List Nat :=
  (List.range 4).filter (fun b => s.busPresent h b && decide (s.islandOf h b = b))
def State.islSections (s : State) (h : Half) (i : Nat) : List Nat :=
  (List.range 4).filter (fun b => s.busPresent h b && decide (s.islandOf h b = i))
def State.islGens (s : State) (h : Half) (i : Nat) : List Nat :=
  (List.range 8).filter (fun g => s.genPresent h g && (s.islSections h i).contains (s.genSection h g))
def State.islOnline (s : State) (h : Half) (i : Nat) : List Nat := (s.islGens h i).filter (s.genOnline h)
/-- The capacity of an island and its load, and whether the load is valid: a power invalid for 1 s counts at its last value
(R468, R469). -/
def State.islC (s : State) (h : Half) (i : Nat) : Nat :=
  (s.islOnline h i).foldl (fun (x : Nat) (g : Nat) => f32.add x (s.genKw h g)) 0
def State.islP (s : State) (h : Half) (i : Nat) : Nat :=
  (s.islOnline h i).foldl (fun (x : Nat) (g : Nat) => f32.add x (s.gen h g).pLast.toNat) 0
def State.islPValid (s : State) (h : Half) (i : Nat) : Bool :=
  (s.islOnline h i).all (fun g => match (s.gen h g).badSince with
    | none => s.bt (Pwr.genStatus h g) 8
    | some t => decide (t + 1000000000 ≤ s.now h))
/-- The frequency of an island, from its lowest section's source. -/
def State.islF (s : State) (h : Half) (i : Nat) : Bool × Nat := s.pwrNum h (s.rg (Pwr.busFSrc h i)) i true
/-- Whether an island is DEGRADED (R469). -/
def State.islDegraded (s : State) (h : Half) (i : Nat) : Bool :=
  let secs := s.islSections h i
  (s.islOnline h i).any (fun g => !s.bt (Pwr.genStatus h g) 8)
    || (s.islGens h i).any (fun g => !(s.pwrBool h (s.rg (Pwr.genBrkSrc h g)) (s.genSection h g)).1)
    || (List.range 3).any (fun b => (secs.contains b || secs.contains (b + 1))
      && !(s.pwrBool h (s.rg (Pwr.busTieSrc h b)) b).1)
/-- Whether an island is dead: its frequency invalid and no breaker closed (R474). -/
def State.islDead (s : State) (h : Half) (i : Nat) : Bool := !(s.islF h i).1 && (s.islOnline h i).isEmpty
/-- The start order of an island (R472): the BUS_ORDER lists of its sections; a nibble of 8 or more ends a list. -/
def orderList (w : Word) : Nat → List Nat
  | 0 => []
  | n + 1 => let g := bits w (4 * (8 - (n + 1)) + 3) (4 * (8 - (n + 1))); if g < 8 then g :: orderList w n else []
def State.islOrder (s : State) (h : Half) (i : Nat) : List Nat :=
  ((s.islSections h i).flatMap (fun b => orderList (s.rg (Pwr.busOrder h b)) 8)).filter ((s.islGens h i).contains ·)
/-- A percentage register of an island applied to a capacity. -/
def State.islPct (s : State) (h : Half) (a lo hi x : Nat) : Nat := f32.mul (fclamp lo hi (s.rn a)) x

/-! ### Requests (R471) -/

/-- The request descriptors a half may issue. -/
def State.pwrDescs (s : State) (h : Half) : List Word :=
  (List.range 8).flatMap (fun g => [s.rg (Pwr.genStartReq h g), s.rg (Pwr.genCloseReq h g), s.rg (Pwr.genStopReq h g)])
    ++ (List.range 32).map (fun r => s.rg (Pwr.restartReq h r))
/-- The bits of card `n`'s outputs among the DO outputs of descriptors. -/
def doBits (n : Nat) (ds : List Word) : Nat :=
  ds.foldl (fun (v : Nat) (d : Word) =>
    if bits d 1 0 = 1 ∧ bits d 15 4 % 256 / 32 = n then v ||| 2 ^ (bits d 15 4 % 32) else v) 0
/-- The issuing half writes OUT_LO and OUT_HI of card `n` with the mask of its request bits. -/
def State.reqCard (s : State) (h : Half) (n : Nat) : State :=
  let m := doBits n (s.pwrDescs h ++ (s.half h).pwr.reqs.map (·.desc))
  let v := doBits n ((s.half h).pwr.reqs.map (·.desc))
  if s.pwrIssues h = false ∨ m = 0 then s
  else (s.doWrite h n false (v % 65536 + m % 65536 * 65536)).doWrite h n true (v / 65536 + m / 65536 * 65536)
/-- The output of a request is driven: the card's write, or a transmit request of the CAN object. -/
def State.reqDrive (s : State) (h : Half) (d : Word) (can : Bool) : State :=
  if s.pwrIssues h = false then s
  else match bits d 1 0 with
    | 1 => s.reqCard h (bits d 15 4 % 256 / 32)
    | 2 => if can then s.canRequest h (bits d 19 16) (bits d 15 4 % 2048) else s
    | _ => s
/-- REQ_ACTIVE of a generator follows its standing requests. -/
def State.reqShow (s : State) (h : Half) (g : Nat) : State :=
  s.sb (Pwr.genStatus h g) 11 ((s.half h).pwr.reqs.any (fun r => decide (r.kind < 3) && decide (r.num = g)))
/-- Requests end; their outputs' cards are written again. -/
def State.reqEnd (s : State) (h : Half) (p : PwrReq → Bool) : State :=
  let gone := (s.half h).pwr.reqs.filter p
  let s := s.modPwr h (fun x => { x with reqs := x.reqs.filter (fun r => !p r) })
  gone.foldl (fun (t : State) (r : PwrReq) =>
    let t := if bits r.desc 1 0 = 1 then
        let n := bits r.desc 15 4 % 256 / 32
        let b := bits r.desc 15 4 % 32
        let on := doBits n ((t.half h).pwr.reqs.map (·.desc)) / 2 ^ b % 2
        if t.pwrIssues h then t.doWrite h n (decide (16 ≤ b)) (2 ^ (b % 16) * 65536 + on * 2 ^ (b % 16)) else t
      else t
    if r.kind < 3 then t.reqShow h r.num else t) s
/-- A request is issued. -/
def State.reqIssue (s : State) (h : Half) (kind num : Nat) (d : Word) : State :=
  if bits d 1 0 = 0 ∨ bits d 1 0 = 3 then s
  else
    let now := s.now h
    let n := bits d 31 24
    let r : PwrReq := ⟨kind, num, d, if n = 0 then none else some (now + n * 10000000)⟩
    let s := s.modPwr h (fun x => { x with
      reqs := x.reqs.filter (fun q => !(decide (q.kind = kind) && decide (q.num = num))) ++ [r] })
    let s := if kind < 3 then s.reqShow h num else s
    s.reqDrive h d true

/-! ### Generator states (R470) -/

/-- A generator's STATE changes: its requests end, source 37, and GEN_ONLINE (R480, R481). -/
def State.genGo (s : State) (h : Half) (g n : Nat) : State :=
  if s.genState h g = n then s
  else
    let now := s.now h
    let s := (s.fw (Pwr.genStatus h g) 2 0 n).fw (Pwr.genStatus h g) 14 12 0
    let s := s.modGen h g (fun x => { x with since := now, closed := false, stopped := false })
    let s := (s.reqEnd h (fun r => decide (r.kind < 3) && decide (r.num = g))).raise h 37
    if n = 4 then s.pwrLog h 0x0F12 0x15 g [] else s
/-- It becomes FAILED. -/
def State.genFail (s : State) (h : Half) (g cause : Nat) : State :=
  ((s.genGo h g 6).fw (Pwr.genStatus h g) 14 12 cause).pwrLog h 0x0F14 0x15 g [cause]
/-- It is started: cause 0 load, 1 trip, 2 blackout. -/
def State.genStart (s : State) (h : Half) (g cause : Nat) : State :=
  let s := ((s.genGo h g 2).satF (Pwr.genStatus h g) 31 16 1).reqIssue h 0 g (s.rg (Pwr.genStartReq h g))
  s.pwrLog h 0x0F11 0x15 g [cause]
/-- START_TIMEOUT or SYNC_TIMEOUT has run out. -/
def State.genTimeout (s : State) (h : Half) (g : Nat) : State :=
  let st := s.genState h g
  let lim (hi lo : Nat) : Nat := clampNat 1 255 (s.fd (Pwr.genCtrl h g) hi lo) * 1000000000
  let e := s.now h - (s.gen h g).since
  if st = 2 ∧ lim 15 8 ≤ e then s.genFail h g 1
  else if st = 3 ∧ lim 23 16 ≤ e then s.genFail h g 2
  else s
/-- The close request of a generator that is SYNCING: while its island is dead, only for the first one to reach RUN (R474). -/
def State.genClose (s : State) (h : Half) (g : Nat) : State :=
  let i := s.islandOf h (s.genSection h g)
  let dead := decide ((s.isl h i).phase = 2)
  if (s.gen h g).closed ∨ (dead ∧ (s.isl h i).closer.isSome) then s
  else
    let s := if dead then s.modIsl h i (fun x => { x with closer := some g }) else s
    (s.modGen h g (fun x => { x with closed := true })).reqIssue h 1 g (s.rg (Pwr.genCloseReq h g))
/-- GEN_RESET (R470, R476). -/
def State.genReset (s : State) (h : Half) (g : Nat) : State :=
  if s.genState h g = 6 then s.genGo h g (if s.genOnline h g then 4 else 1) else s
/-- The inputs of a generator are taken at a boundary. -/
def State.genRead (s : State) (h : Half) (g : Nat) : State :=
  let b := s.genSection h g
  let run := (s.pwrBool h (s.rg (Pwr.genRunSrc h g)) b).2
  let brk := (s.pwrBool h (s.rg (Pwr.genBrkSrc h g)) b).2
  let x := s.pwrNum h (s.rg (Pwr.genPSrc h g)) b false
  let kw := f32.add (f32.mul x.2 (s.rn (Pwr.genPScale h g))) (s.rn (Pwr.genPOffset h g))
  let now := s.now h
  let s := ((s.sb (Pwr.genStatus h g) 8 x.1).sb (Pwr.genStatus h g) 9 run).sb (Pwr.genStatus h g) 10 brk
  let s := s.modGen h g (fun r => if x.1 then { r with pLast := BitVec.ofNat 32 kw, badSince := none }
    else { r with badSince := if brk then (if r.badSince.isSome then r.badSince else some now) else none })
  s.wr (Pwr.genPKw h g) (s.gen h g).pLast
/-- A generator is evaluated (R470). -/
def State.genEval (s : State) (h : Half) (g : Nat) : State :=
  let st := s.genState h g
  let run := s.bt (Pwr.genStatus h g) 9
  let brk := s.bt (Pwr.genStatus h g) 10
  if s.genPresent h g = false then s.genGo h g 0
  else if st = 6 then s
  else if s.genAvail h g = false then s.genGo h g 7
  else match st with
    | 2 =>
      if brk then s.genGo h g 4
      else if run then (s.genGo h g 3).genClose h g
      else s.genTimeout h g
    | 3 =>
      if brk then s.genGo h g 4
      else
        let s := s.genTimeout h g
        if s.genState h g = 3 ∧ (s.isl h (s.islandOf h (s.genSection h g))).phase ≠ 2 then s.genClose h g else s
    | 4 => if brk then s else s.genFail h g 3
    | 5 =>
      if brk = false then s.genGo h g 1
      else if (s.gen h g).stopped = false ∧ f32.eq (s.genW h g) 0
          ∧ f32.lt (s.gen h g).pLast.toNat (f32.mul 0x3D4CCCCD (s.genKw h g)) then
        (s.modGen h g (fun x => { x with stopped := true })).reqIssue h 2 g (s.rg (Pwr.genStopReq h g))
      else s
    | _ => s.genGo h g (if brk then 4 else 1)

/-! ### Shed steps (R472, R473) -/

/-- Whether a step is VALID, and its declared load. -/
def State.stepValid (s : State) (h : Half) (k : Nat) : Bool := s.bt (Pwr.shedStep h k) 15
def State.stepKw (s : State) (h : Half) (k : Nat) : Nat := fclamp 0 0x49742400 (s.rn (Pwr.shedKw h k))
/-- The asserted steps of an island, oldest first. -/
def State.islSteps (s : State) (h : Half) (i : Nat) : List Nat :=
  (s.half h).pwr.steps.filter (fun k => (s.islSections h i).contains (s.fd (Pwr.shedStep h k) 9 8))
/-- The step to assert next. -/
def State.nextStep (s : State) (h : Half) (i : Nat) : Option Nat :=
  (List.range 32).find? (fun k => s.stepValid h k && (s.islSections h i).contains (s.fd (Pwr.shedStep h k) 9 8)
    && !(s.half h).pwr.steps.contains k)
/-- The hold timers of an island start anew. -/
def State.holdsAnew (s : State) (h : Half) (i : Nat) : State :=
  let now := s.now h
  s.modIsl h i (fun x => { x with
    ovr := x.ovr.map (fun _ => now)
    freq := x.freq.map (fun _ => now)
    rest := x.rest.map (fun _ => now)
    start := x.start.map (fun _ => now)
    stop := x.stop.map (fun _ => now) })
/-- A step is asserted: cause 0 trip, 1 overload, 2 frequency, 3 blackout. -/
def State.stepAssert (s : State) (h : Half) (i k cause : Nat) : State :=
  let s := (s.modPwr h (fun x => { x with steps := x.steps ++ [k] })).raise h 39
  (s.pwrLog h 0x0F15 0x17 k [cause, s.islP h i]).holdsAnew h i
/-- A step is released. -/
def State.stepRelease (s : State) (h : Half) (i k headroom : Nat) : State :=
  let s := (s.modPwr h (fun x => { x with steps := x.steps.filter (· != k) })).raise h 39
  (s.pwrLog h 0x0F16 0x17 k [headroom]).holdsAnew h i
/-- The half's sequencer sets and clears its bits of LID_DEMAND (R473). -/
def State.shedSet (s : State) (h : Half) (ds : List Nat) : State :=
  let named := ((List.range 32).filter (s.stepValid h)).map (fun k => s.fd (Pwr.shedStep h k) 7 0)
  let s := ((s.half h).pwr.shedBits ++ named).foldl (fun (t : State) (d : Nat) => t.setMapBit (Mod.lidDemand h 0) d false) s
  let s := ds.foldl (fun (t : State) (d : Nat) => t.setMapBit (Mod.lidDemand h 0) d true) s
  (s.modPwr h (fun x => { x with shedBits := ds })).demandSend h
/-- The demands of the asserted steps. -/
def State.shedDemands (s : State) (h : Half) : List Nat :=
  (s.half h).pwr.steps.map (fun k => s.fd (Pwr.shedStep h k) 7 0)
/-- A half that issues writes its shed bits: at each boundary, and at T of a role switch. -/
def State.shedWrite (s : State) (h : Half) : State := if s.pwrIssues h then s.shedSet h (s.shedDemands h) else s

/-! ### Islands (R472, R474) -/

/-- A condition held since an instant. -/
def holdOn (c : Bool) (since : Option Nat) (now : Nat) : Option Nat :=
  if c then (match since with
    | some t => some t
    | none => some now) else none
def heldFor (since : Option Nat) (now d : Nat) : Bool := match since with
  | some t => decide (t + d ≤ now)
  | none => false

/-- start_next: the first STOPPED generator in the start order. -/
def State.genNext (s : State) (h : Half) (i cause : Nat) : State :=
  match (s.islOrder h i).find? (fun g => decide (s.genState h g = 1)) with
  | some g => s.genStart h g cause
  | none => s
/-- Steps shed at a trip while the excess is positive. -/
def State.shedExcess (s : State) (h : Half) (i : Nat) : Nat → Nat → State
  | 0, _ => s
  | n + 1, excess =>
    if f32.lt 0 excess = false then s
    else match s.nextStep h i with
      | none => s
      | some k => State.shedExcess (s.stepAssert h i k 0) h i n (f32.sub excess (s.stepKw h k))
/-- An island enters BLACKOUT (R474). -/
def State.blackout (s : State) (h : Half) (i : Nat) : State :=
  let now := s.now h
  let s := s.modIsl h i (fun x => { x with
    phase := 2
    blackT := now
    closer := none
    alive := none
    dead := none })
  let s := (s.satF (Pwr.busStatus h i) 31 16 1).pwrLog h 0x0F17 0x16 i [i]
  let s := (List.range 32).foldl (fun (t : State) (_ : Nat) => match t.nextStep h i with
    | some k => t.stepAssert h i k 3
    | none => t) s
  let n := clampNat 1 8 (s.fd (Pwr.busCtrl h i) 7 4)
  (((s.islOrder h i).filter (fun g => decide (s.genState h g = 1))).take n).foldl
    (fun (t : State) (g : Nat) => t.genStart h g 2) s
/-- An island is live again: RECOVERY (R474). -/
def State.busLive (s : State) (h : Half) (i : Nat) : State :=
  let now := s.now h
  let ms := (now - (s.isl h i).blackT) / 1000000
  (s.modIsl h i (fun x => { x with phase := 3, liveT := now, issued := [], alive := none })).pwrLog h 0x0F18 0x16 i [ms]
/-- The VALID restart entries of an island's sections. -/
def State.islRestarts (s : State) (h : Half) (i : Nat) : List Nat :=
  (List.range 32).filter (fun r => s.bt (Pwr.restartCtrl h r) 31
    && (s.islSections h i).contains (s.fd (Pwr.restartCtrl h r) 17 16))
/-- A restart entry whose DELAY has passed is issued. -/
def State.restartIssue (s : State) (h : Half) (i r : Nat) : State :=
  let x := s.isl h i
  if x.phase ≠ 3 ∨ x.issued.contains r ∨ (s.islRestarts h i).contains r = false
      ∨ s.now h < x.liveT + s.fd (Pwr.restartCtrl h r) 15 0 * 100000000 then s
  else
    let s := (s.modIsl h i (fun x => { x with issued := x.issued ++ [r] })).reqIssue h 3 r (s.rg (Pwr.restartReq h r))
    s.pwrLog h 0x0F19 0x16 (s.fd (Pwr.restartCtrl h r) 17 16) [r]
/-- Whether an island's restart entries have all been issued. -/
def State.restartsDone (s : State) (h : Half) (i : Nat) : Bool :=
  (s.islRestarts h i).all (fun r => (s.isl h i).issued.contains r)

/-- The limits of an island: START, STOP, SHED and RESTORE shares of a capacity. -/
def State.startLim (s : State) (h : Half) (i c : Nat) : Nat := s.islPct h (Pwr.startPct h i) 0x3DCCCCCD 0x3F800000 c
def State.stopLim (s : State) (h : Half) (i c : Nat) : Nat := s.islPct h (Pwr.stopPct h i) 0x3DCCCCCD 0x3F800000 c
def State.shedLim (s : State) (h : Half) (i c : Nat) : Nat := s.islPct h (Pwr.shedPct h i) 0x3F000000 0x3F99999A c
def State.restLim (s : State) (h : Half) (i c : Nat) : Nat := s.islPct h (Pwr.restorePct h i) 0x3DCCCCCD 0x3F800000 c
/-- The last generator online in the start order. -/
def State.islLast (s : State) (h : Half) (i : Nat) : Option Nat := ((s.islOrder h i).filter (s.genOnline h)).getLast?
/-- The hold timers of an island follow their conditions (R469, R472). -/
def State.islHolds (s : State) (h : Half) (i : Nat) : State :=
  let now := s.now h
  let c := s.islC h i
  let p := s.islP h i
  let f := s.islF h i
  let ok := !s.islDegraded h i
  let recov := decide ((s.isl h i).phase ≠ 3) || s.restartsDone h i
  let room := f32.sub (s.restLim h i c) p
  let rest := match (s.islSteps h i).getLast? with
    | some k => ok && recov && f32.le (s.stepKw h k) room
    | none => false
  let stop := match s.islLast h i with
    | some g => ok && f32.lt p (s.stopLim h i (f32.sub c (s.genKw h g)))
    | none => false
  s.modIsl h i (fun x => { x with
    ovr := holdOn (s.islPValid h i && f32.lt (s.shedLim h i c) p) x.ovr now
    freq := holdOn (f.1 && f32.lt f.2 (fclamp 0x42200000 0x42820000 (s.rn (Pwr.shedFHz h i)))) x.freq now
    rest := holdOn rest x.rest now
    start := holdOn (ok && f32.lt (s.startLim h i c) p) x.start now
    stop := holdOn stop x.stop now })
/-- The actions whose hold has run out, or that a trip calls for (R472). -/
def State.islActs (s : State) (h : Half) (i : Nat) (lost : Bool) : State :=
  let now := s.now h
  let x := s.isl h i
  let dly (hi lo : Nat) (a unit : Nat) : Nat := clampNat 1 255 (s.fd a hi lo) * unit
  let d := Pwr.busDelays h i
  let c := s.islC h i
  let p := s.islP h i
  let ovr := heldFor x.ovr now (dly 7 0 d 100000000)
  let freq := heldFor x.freq now (dly 15 8 d 10000000)
  let s :=
    if lost then
      let t := s.genNext h i 1
      t.shedExcess h i 32 (f32.sub x.pLast.toNat (s.shedLim h i c))
    else if ovr || freq then
      (if x.stepT ≤ now then
        match s.nextStep h i with
        | some k => (s.stepAssert h i k (if ovr then 1 else 2)).modIsl h i (fun y => { y with
            stepT := now + dly 23 16 d 100000000 })
        | none => s
       else s)
    else match (s.islSteps h i).getLast? with
      | some k => if heldFor x.rest now (dly 31 24 d 1000000000) then
          s.stepRelease h i k (f32.sub (s.restLim h i c) p) else s
      | none => s
  let quiet (t : State) : Bool := (t.islGens h i).all (fun g => decide (t.genState h g ≠ 2) && decide (t.genState h g ≠ 3))
  let y := s.isl h i
  let s := if heldFor y.start now (dly 23 16 (Pwr.busCtrl h i) 1000000000) && quiet s then s.genNext h i 0 else s
  match s.islLast h i with
  | some g =>
    if heldFor y.stop now (dly 31 24 (Pwr.busCtrl h i) 1000000000) && quiet s && decide (s.genState h g = 4)
        && decide (s.fd (Pwr.busCtrl h i) 3 1 < (s.islOnline h i).length) then
      let w := BitVec.ofNat 32 (s.genW h g)
      let s := (s.genGo h g 5).modGen h g (fun r => { r with w0 := w })
      s.pwrLog h 0x0F13 0x15 g [p]
    else s
  | none => s
/-- One island at a boundary (R472, R474); `lost` are the generators that tripped at it. -/
def State.islEval (s : State) (h : Half) (i : Nat) (lost : List Nat) : State :=
  let now := s.now h
  let tripped := lost.any ((s.islGens h i).contains ·)
  let s := s.modIsl h i (fun x => { x with dead := holdOn (s.islDead h i) x.dead now })
  let x := s.isl h i
  let s :=
    if x.phase ≠ 2 ∧ ((tripped ∧ s.islOnline h i = []) ∨ heldFor x.dead now (s.blkNs h i)) then s.blackout h i
    else if x.phase = 2 then
      let s := s.modIsl h i (fun y => { y with alive := holdOn (s.islF h i).1 y.alive now })
      if heldFor (s.isl h i).alive now 500000000 then s.busLive h i else s
    else
      let s := (s.islRestarts h i).foldl (fun (t : State) (r : Nat) => t.restartIssue h i r) s
      let s := (s.islHolds h i).islActs h i tripped
      if (s.isl h i).phase = 3 ∧ s.restartsDone h i ∧ s.islSteps h i = [] then
        s.modIsl h i (fun y => { y with phase := 1 }) else s
  let p := BitVec.ofNat 32 (s.islP h i)
  s.modIsl h i (fun y => { y with pLast := p })

/-- BUS_STATUS and the bus measurements of an island's sections. A section that does not name the island follows its
phase. -/
def State.islShow (s : State) (h : Half) (i : Nat) : State :=
  let x := s.isl h i
  let st := if x.phase = 1 ∧ s.islDegraded h i then 4 else x.phase
  let f := s.islF h i
  let n := (s.islSteps h i).length
  let c := s.islC h i
  let p := s.islP h i
  (s.islSections h i).foldl (fun (t : State) (b : Nat) =>
    let t := ((t.fw (Pwr.busStatus h b) 5 0 (st + 8 * i)).fw (Pwr.busStatus h b) 13 8 n).sb (Pwr.busStatus h b) 14 f.1
    let t := ((t.wn (Pwr.busFHz h b) f.2).wn (Pwr.busPKw h b) p).wn (Pwr.busCKw h b) c
    if b = i then t else t.modIsl h b (fun y => { phase := x.phase, blackT := x.blackT, liveT := x.liveT, issued := x.issued, pLast := y.pLast })) s
/-- The shares of an island's generators, and the measurement words of the PWR block (R468). -/
def State.islShare (s : State) (h : Half) (i : Nat) : State :=
  let on := s.islOnline h i
  let rw (g : Nat) : Nat := f32.mul (s.genKw h g) (s.genW h g)
  let sum := on.foldl (fun (x : Nat) (g : Nat) => f32.add x (rw g)) 0
  let ws := on.foldl (fun (x : Nat) (g : Nat) => f32.add x (s.genW h g)) 0
  let p := s.islP h i
  let pv := s.islPValid h i
  let f := s.islF h i
  (s.islGens h i).foldl (fun (t : State) (g : Nat) =>
    let sh := if on.contains g = false then 0
      else if f32.eq ws 0 then f32.div p (f32.ofInt on.length)
      else if f32.eq (s.genW h g) 0 then 0
      else f32.div (f32.mul p (rw g)) sum
    let t := t.wn (Pwr.genShareKw h g) sh
    let t := t.deliverTo h (namesSrc 5 g 0) pv (BitVec.ofNat 32 sh)
    let t := t.deliverTo h (namesSrc 5 g 1) (t.bt (Pwr.genStatus h g) 8) (t.rg (Pwr.genPKw h g))
    t.deliverTo h (namesSrc 5 g 2) f.1 (BitVec.ofNat 32 f.2)) s

/-! ### The boundary (R465, R475, R477) -/

/-- The sequencer is initialised from the field (R475); `joining` a half that joins. -/
def State.pwrInit (s : State) (h : Half) (joining : Bool) : State :=
  let s := s.modPwr h (fun x => { x with
    inited := true
    gens := []
    isls := []
    reqs := []
    steps := (List.range 32).filter (fun k => s.stepValid h k
      && (let d := 1024 + s.fd (Pwr.shedStep h k) 7 0; s.lidInput false d || s.lidInput true d)) })
  let s := (List.range 8).foldl (fun (t : State) (g : Nat) =>
    let t := t.genRead h g
    let d := t.rg (Pwr.genStartReq h g)
    let st :=
      if t.genPresent h g = false then 0
      else if t.genAvail h g = false then 7
      else if t.bt (Pwr.genStatus h g) 10 then 4
      else if t.bt (Pwr.genStatus h g) 9 then 3
      else if bits d 1 0 = 1 ∧ t.doCommand (bits d 15 4 % 256) then 2
      else 1
    let now := t.now h
    ((t.fw (Pwr.genStatus h g) 2 0 st).fw (Pwr.genStatus h g) 14 12 0).modGen h g (fun r => { r with since := now })) s
  let now := s.now h
  (s.islands h).foldl (fun (t : State) (i : Nat) =>
    if joining && t.islDead h i then t.modIsl h i (fun x => { x with phase := 2, blackT := now }) else t) s
/-- Whether a hold timer, a pulse or a generator timeout runs. -/
def State.pwrRuns (s : State) (h : Half) : Bool :=
  let q := (s.half h).pwr
  q.isls.any (fun e => let x := e.2
    x.ovr.isSome || x.freq.isSome || x.rest.isSome || x.start.isSome || x.stop.isSome || x.dead.isSome || x.alive.isSome)
    || q.reqs.any (fun r => r.ends.isSome)
    || (List.range 8).any (fun g => decide (s.genState h g = 2) || decide (s.genState h g = 3))
/-- Commands that act at the boundary: GEN_RESET of a generator, or CLEAR_COUNTS. -/
def State.pwrCmds (s : State) (h : Half) : State :=
  let cs := (s.half h).pwr.cmds
  cs.foldl (fun (t : State) (c : Nat) =>
    if c < 8 then t.genReset h c
    else
      let t := (List.range 8).foldl (fun (u : State) (g : Nat) => u.fw (Pwr.genStatus h g) 31 16 0) t
      (List.range 4).foldl (fun (u : State) (b : Nat) => u.fw (Pwr.busStatus h b) 31 16 0) t)
    (s.modPwr h (fun x => { x with cmds := [] }))
/-- Whether half `o`'s newest strobe of group 14 lies within 2 us before the boundary at which half `h` stands (R477). -/
def State.pwrLate (s : State) (h o : Half) : Bool :=
  decide (s.now h < Map.get (fun _ => 0) (s.half o).strobeT 14 + 2000) && (s.half o).strobeT.any (fun e => decide (e.1 = 14))
/-- Forwarded words of a commit take effect (R477). -/
def State.pwrTake (s : State) (h : Half) : State :=
  if s.pwrLate h h.other then s else
  let ws := (s.half h).pwr.next
  ws.foldl (fun (t : State) (e : Nat × Word) => (t.wr (h.base + e.1) e.2).wrSh (h.base + e.1) e.2)
    (s.modPwr h (fun x => { x with next := [] }))
/-- A half that joins takes the live PWR values of the half that owns group 127 before its sequencer is initialised (R477). -/
def State.pwrJoin (s : State) (h : Half) : State :=
  let o := h.other
  if s.owns o 127 ∧ s.mirrorUp ∧ s.runs o then
    (s.copyLive (Pwr.pwrCfg o) (Pwr.pwrCfg h) 0x1000).reloadShadow (Pwr.pwrCfg h) 0x1000
  else s
/-- Steps and generators that a commit has made not VALID are released at once (R476). -/
def State.pwrDropSteps (s : State) (h : Half) : State :=
  let gone := (s.half h).pwr.steps.filter (fun k => !s.stepValid h k)
  if gone = [] then s
  else (s.modPwr h (fun x => { x with steps := x.steps.filter (fun k => !gone.contains k) })).raise h 39
/-- The sequencer stands still with PM_EN 0: nothing is evaluated or issued and the shed bits are cleared (R478). -/
def State.pwrIdle (s : State) (h : Half) : State :=
  let s := if (s.half h).pwr.shedBits = [] then s else s.shedSet h []
  (s.modPwr h (fun x => { x with steps := [], reqs := [], inited := false })).sb (Pwr.pwrStatus h) 5 false
/-- One PWR boundary (R465): the sequencer takes its inputs and evaluates generators, then islands, in rising order. -/
def State.pwrBoundary (s : State) (h : Half) : State :=
  let s := s.pwrTake h
  let st := s.hstate h
  let q := (s.half h).pwr
  let joins := decide (st = 2) && decide (q.hstate ≠ 2)
  let s := if joins then s.pwrJoin h else s
  if s.bt (Pwr.pwrCfg h) 0 = false then s.pwrIdle h
  else
    let s := s.modPwr h (fun x => { x with hstate := st })
    let s := (if q.inited = false ∨ joins then s.pwrInit h joins else s).pwrDropSteps h
    let s := s.sb (Pwr.pwrStatus h) 5 (s.pwrIssues h)
    let s := (List.range 8).foldl (fun (t : State) (g : Nat) => t.genRead h g) s
    let s := s.pwrCmds h
    let was := (List.range 8).filter (fun g => decide (s.genState h g = 4))
    let s := (List.range 8).foldl (fun (t : State) (g : Nat) => t.genEval h g) s
    let lost := was.filter (fun g => decide (s.genState h g = 6))
    let s := (s.islands h).foldl (fun (t : State) (i : Nat) => ((t.islEval h i lost).islShow h i).islShare h i) s
    let s := (List.range 4).foldl (fun (t : State) (b : Nat) =>
      if t.busPresent h b then t else t.fw (Pwr.busStatus h b) 5 0 0) s
    let now := s.now h
    let s := s.reqEnd h (fun r => match r.ends with
      | some t => decide (t ≤ now)
      | none => false)
    let s := if s.pwrRuns h then s else s.sb (Pwr.pwrStatus h) 6 true
    s.shedWrite h

end Sys2Proof.Machine
end

