-- ==== Sys2Proof/Machine/Resets.lean ====
section
/-! DEFINITION. Resets of a half and of the field deck: what they clear and what their non-volatile memories keep (R342,
R343, R536, R538, R571-R574, R582). -/
namespace Sys2Proof.Machine

/-- The strap bits as their contact pairs give them, and the faulted bits (R571): a bit reads 1 with its true contact linked
and its complement open; RESTART_DEFAULT takes 1 when faulted, every other bit 0. -/
def strapRead (tru comp : Nat) : Nat × Nat :=
  (List.range 17).foldl (fun (x : Nat × Nat) (n : Nat) =>
    let t := tru.testBit n
    if t = comp.testBit n then (x.1 + (if n = 7 then 128 else 0), x.2 + 2 ^ n)
    else (x.1 + (if t then 2 ^ n else 0), x.2)) (0, 0)

/-- The retained sets of the tasks (R343). DEDUCED: note 10. -/
def keepRet (m : Map TaskRun) : Map TaskRun :=
  m.foldl (fun (r : Map TaskRun) (e : Nat × TaskRun) =>
    Map.set (fun _ => {}) r e.1 { ret0 := e.2.ret0, ret1 := e.2.ret1, newest1 := e.2.newest1 }) []
/-- What a cartridge keeps through a reset: its MRAM (write queue, pinned area, operating time, CYCLES, retained sets) and
its flash (logbook, image store, firmware). DEDUCED: note 10. DESIGN CHOICE: note 4. -/
def HalfSt.afterReset (x : HalfSt) (cause now : Nat) : HalfSt :=
  { fitted := x.fitted
    lostT := now
    boot := { active := x.boot.active
              previous := x.boot.previous
              failedBoots := x.boot.failedBoots
              resets := x.boot.resets
              rolled := x.boot.rolled }
    log := { queue := x.log.queue
             waiting := x.log.waiting
             flash := x.log.flash
             pinned := x.log.pinned
             opTime := x.log.opTime
             pinBad := x.log.pinBad
             cycles := x.log.cycles
             firstSeq := x.log.firstSeq
             nextSeq := x.log.nextSeq
             pinWp := x.log.pinWp
             pinCp := x.log.pinCp }
    img := { slotA := x.img.slotA
             slotP := x.img.slotP }
    tasks := keepRet x.tasks
    ctl := { inReset := true
             resetCause := cause
             resetT := now } }
/-- CMT_PENDING and CMT_LOCK bits of the field-deck groups, which a half's reset leaves (R55). -/
def deckGroupMask : Word := 0xBE20
/-- Half `h` enters reset with a cause (R574): its registers, RAM and work in progress go; the field deck is untouched. -/
def State.halfReset (s : State) (h : Half) (cause : Nat) : State :=
  let own (k : Nat) : Bool := !isDeckBlock (lowAddr k) && decide (halfOf k = h)
  let ran := (List.range 4).filter (fun st => s.streaming h st)
  let p := s.rg (Cmt.cmtPending h) &&& deckGroupMask
  let l := s.rg (Cmt.cmtLock h) &&& deckGroupMask
  let cs := [5, 9, 10, 11, 12, 13, 15].map (fun g => (g, s.rg (Cmt.commitCnt h g)))
  let s := { s with
    live := s.live.filter (fun e => !own e.1)
    shadow := s.shadow.filter (fun e => !own e.1)
    mem := s.mem.filter (fun e => decide (halfOf e.1 ≠ h))
    dirty := s.dirty.filter (fun u => u.half != some h)
    marked := s.marked.filter (fun u => u.half != some h) }
  let now := s.deck.ticks
  let s := s.modHalf h (fun x => x.afterReset cause now)
  let s := cs.foldl (fun (t : State) (e : Nat × Word) => t.wr (Cmt.commitCnt h e.1) e.2)
    ((s.wr (Cmt.cmtPending h) p).wr (Cmt.cmtLock h) l)
  ran.foldl (fun (t : State) (st : Nat) => (t.fw (Tray.strStatus h st) 1 0 3).fw (Tray.strStatus h st) 4 2 4) s

/-- The registers of Lid that its non-volatile memory holds (R311, R312, R315): SALT, V, the change log and its SEQ, and
PW_SET. DEDUCED: note 10. -/
def lidKept (a : Nat) : Bool :=
  (decide (Lid.pwSalt 0 ≤ a) && decide (a < Lid.pwSalt 4)) || (decide (Lid.pwVerifier 0 ≤ a) && decide (a < Lid.pwVerifier 8))
    || decide (a = Lid.chgSeq) || (decide (Lid.chgLog 0 0 ≤ a) && decide (a < Lid.chgLog 4096 0))
/-- What the field deck keeps: what the analogue islands hold (R247), Lid's change log, its operating time and CYCLES, firmware, the levels on SV, the state of the
power entry, and what stands on the panel, which finishes from its own store. DEDUCED: note 10. -/
def DeckSt.afterReset (d : DeckSt) : DeckSt :=
  { lid := { entries := d.lid.entries }
    trivet := { pinSeq := d.trivet.pinSeq }
    trunk := { nonceIx := d.trunk.nonceIx + 1 }
    straps := d.straps
    strapFaults := d.strapFaults
    strapTrue := d.strapTrue
    strapComp := d.strapComp
    opTime := d.opTime
    cycles := d.cycles
    fwActive := d.fwActive
    fwPrevious := d.fwPrevious
    inReset := true
    chans := heldIslands d.chans
    panel := { shown := d.panel.shown
               known := d.panel.known
               finals := d.panel.finals
               drawing := d.panel.drawing
               busy := d.panel.busy }
    pwr := { phase := d.pwr.phase
             feed := d.pwr.feed
             bayOff := d.pwr.bayOff
             bayFault := d.pwr.bayFault
             latchOpen := d.pwr.latchOpen
             retained := d.pwr.retained } }
/-- The motion ports at a reset of the field deck (R219): every port stops, its position is uncertain. -/
def State.portsReset (s : State) : State :=
  (List.range 32).foldl (fun (t : State) (p : Nat) => (t.portDrop p 5 0).uncertain p 5) s
/-- The reports that half `h` has on its way in `t` beyond those in `s`. -/
def State.newReports (s t : State) (h : Half) : List Report := (t.half h).log.inbox.drop (s.half h).log.inbox.length
/-- The field deck enters reset, and both halves with it (R574); what the ports report reaches the halves' ingest when they run
again. DEDUCED: note 173. -/
def State.deckReset (s : State) : State :=
  let p := s.portsReset
  let put (h : Half) (t : State) : State := t.modHalf h (fun x => { x with log := { x.log with inbox := s.newReports p h } })
  let s := (p.halfReset .a 0).halfReset .b 0
  let set := s.bt Lid.lidStatus 1
  let kept := s.live.filter (fun e => lidKept e.1)
  let s := { s with
    live := []
    shadow := []
    dirty := []
    marked := [] }
  let s := s.modDeck (fun d => d.afterReset)
  let s := kept.foldl (fun (t : State) (e : Nat × Word) => t.wr e.1 e.2) s
  put .a (put .b (s.sb Lid.lidStatus 1 set))
/-- Lid clears the password (R312, R573). -/
def State.pwClear (s : State) : State :=
  let s := (List.range 4).foldl (fun (t : State) (w : Nat) => t.wr (Lid.pwSalt w) 0) s
  let s := (List.range 8).foldl (fun (t : State) (w : Nat) => t.wr (Lid.pwVerifier w) 0) s
  (s.sb Lid.lidStatus 1 false).chgEntry .a 5 0 0
/-- The field deck leaves reset (R311, R572, R573, R577): straps read, NONCE drawn, CHALLENGE set, the password cleared if its
strap says so. DESIGN CHOICE: note 17. -/
def State.deckStart (s : State) : State :=
  let r := strapRead s.deck.strapTrue s.deck.strapComp
  let kept := s.live
  let s := { s with live := [] }
  let s := s.modDeck (fun d => { d with
    inReset := false
    chans := restedIslands d.chans
    straps := r.1
    strapFaults := r.2
    cycles := satAdd 16777215 d.cycles 1
    trivet := { d.trivet with pref := r.1 / 64 % 2 } })
  let s := kept.foldl (fun (t : State) (e : Nat × Word) => t.wr e.1 e.2) s
  let s := s.setChallenge (sha256 (leBytes 4 s.chgLast ++ leBytes 6 s.deckOpTime))
  if r.1.testBit 16 then s.pwClear else s

end Sys2Proof.Machine
end

