-- ==== Sys2Proof/Machine/HalvesOps.lean ====
section
/-! DEFINITION. Shared operations of the halves (chapter 13): Trivet's decisions, Whistles, claims and fail-over, planned
switches, the role switch, and alignment. DEDUCED: note 126.
The cases of R415, the sources of R418 and the records of R419 follow from these. -/
namespace Sys2Proof.Machine

/-! ### Trivet (R389-R391) -/

/-- Change Trivet. -/
def State.modTrivet (s : State) (f : Trivet → Trivet) : State := s.modDeck (fun d => { d with trivet := f d.trivet })
/-- Trivet counts the claims of a half (R389): its Whistles are heard, its link is up and its vector is fresh. -/
def State.counted (s : State) (h : Half) : Bool :=
  let t := s.deck.trivet
  match h with
  | .a => t.heardA && t.freshA && (s.half .a).linkUp
  | .b => t.heardB && t.freshB && (s.half .b).linkUp
/-- The claim of a half on a group that counts. -/
def State.claimCounts (s : State) (h : Half) (g : Nat) : Bool :=
  s.counted h && (match h with
    | .a => s.deck.trivet.vecA.testBit g
    | .b => s.deck.trivet.vecB.testBit g)
/-- A rail's decision on a group (R390): owners coded 0 NONE, 1 Half A, 2 Half B. DEDUCED: note 123. -/
def railDecide (own : Nat) (a b : Bool) (pref : Nat) : Nat :=
  match own with
  | 1 => if !a && b then 2 else 1
  | 2 => if !b && a then 1 else 2
  | _ => if a && b then pref + 1 else if a then 1 else if b then 2 else 0
/-- The field deck's blocks meet a new owner of group `g`, `old` before (R28, R55, R206, R261, R317, R429, R500). -/
def State.newOwner (s : State) (g : Nat) (old : Option Half) : State :=
  let s := s.ownerAbandon g
  if g < 16 then s.ancOwner g
  else if 40 ≤ g ∧ g < 104 then s.linkOwner (g - 40)
  else if 108 ≤ g ∧ g < 124 then s.canOwner (g - 108) old
  else if g = 124 then s.trkOwner
  else if g = 125 then s.lidOwner
  else s
/-- Both rails take owner `n` for group `g`. -/
def State.setOwner (s : State) (g n : Nat) : State :=
  let old := s.owner g
  let now := Map.get (fun _ => 0) s.deck.trivet.rail0 g
  let s := s.modTrivet (fun t => { t with
    rail0 := Map.set (fun _ => 0) t.rail0 g n
    rail1 := Map.set (fun _ => 0) t.rail1 g n })
  if now = n then s else s.newOwner g old
/-- The decision of the first rail on a group. DEDUCED: note 123. -/
def State.decideOf (s : State) (g : Nat) : Nat :=
  railDecide (Map.get (fun _ => 0) s.deck.trivet.rail0 g) (s.claimCounts .a g) (s.claimCounts .b g) s.deck.trivet.pref
/-- Every group that is not frozen is decided (R390). -/
def State.redecide (s : State) : State :=
  (List.range 128).foldl (fun (t : State) (g : Nat) =>
    if t.deck.trivet.frozen.contains g then t else t.setOwner g (t.decideOf g)) s
/-- The rails differ on group `g`: it is frozen (R391). -/
def State.freeze (s : State) (g : Nat) : State :=
  let s := s.modTrivet (fun t => { t with
    frozen := if t.frozen.contains g then t.frozen else t.frozen ++ [g]
    railFault := true })
  (s.report .a 0x0D09 1 0 [g]).report .b 0x0D09 1 1 [g]

/-- The owner map of one half as OWN_A and OWN_B show it, word `w`. -/
def State.ownWord (s : State) (h : Half) (w : Nat) : Nat :=
  (List.range 32).foldl (fun (n : Nat) (i : Nat) => if s.owns h (32 * w + i) then n + 2 ^ i else n) 0
/-- The owner report of half `h` (R390, R417). -/
def State.showOwners (s : State) (h : Half) : State :=
  let s := (List.range 4).foldl (fun (t : State) (w : Nat) =>
    let f := (List.range 32).foldl (fun (n : Nat) (i : Nat) =>
      if t.deck.trivet.frozen.contains (32 * w + i) then n + 2 ^ i else n) 0
    ((t.wn (HalfR.ownA h w) (t.ownWord .a w)).wn (HalfR.ownB h w) (t.ownWord .b w)).wn (HalfR.frozen h w) f) s
  s.wn (HalfR.trivetStatus h) (s.deck.trivet.railFault.toNat + 2 * s.deck.trivet.pref + 4 * (s.counted .a).toNat
    + 8 * (s.counted .b).toNat)
/-- Whether the last report shows half `o` the owner of every group, or of any group, to half `h`. -/
def ownReg (h o : Half) (w : Nat) : Nat := match o with
  | .a => HalfR.ownA h w
  | .b => HalfR.ownB h w
def State.shownAll (s : State) (h o : Half) : Bool := (List.range 4).all (fun w => s.rg (ownReg h o w) == 0xFFFFFFFF)
def State.shownAny (s : State) (h o : Half) : Bool := (List.range 4).any (fun w => s.rg (ownReg h o w) != 0)

/-! ### Whistles (R386, R387) -/

/-- The Whistle that a half sends now (R386). -/
def State.whistle (s : State) (h : Half) : Word :=
  let c := (s.half h).ctl
  let n := c.whSeq % 256 + s.hstate h * 256 + (decide (s.rg (HalfR.selfFault h) ≠ 0)).toNat * 2048
    + c.claims.toNat * 4096 + c.takebackReq.toNat * 8192
  BitVec.ofNat 32 (n + (crc16 (leBytes 2 n)).toNat * 65536)
/-- Whether a received frame's CRC is right. -/
def whistleCrc (w : Word) : Bool := decide ((crc16 (leBytes 2 (bits w 15 0))).toNat = bits w 31 16)
/-- WHISTLE_STATUS path bits: path 0 mirror, 1 Trivet; PATH_LOST while exactly one is silent. -/
def State.pathShow (s : State) (h : Half) (path : Nat) (live : Bool) : State :=
  let s := s.sb (HalfR.whistleStatus h) path live
  let s := s.sb (HalfR.whistleStatus h) 2 (s.bt (HalfR.whistleStatus h) 0 != s.bt (HalfR.whistleStatus h) 1)
  let lost := (s.half h).ctl.pathLost.contains path
  if live then
    (if lost then (s.modCtl h (fun c => { c with pathLost := c.pathLost.filter (· != path) })).report h 0x0D06 1 h.num [path]
     else s)
  else if lost then s
  else (s.modCtl h (fun c => { c with pathLost := c.pathLost ++ [path] })).report h 0x0D05 1 h.num [path]
/-- Whether half `h` hears its partner on either path (R387). -/
def State.hears (s : State) (h : Half) : Bool := s.bt (HalfR.whistleStatus h) 0 || s.bt (HalfR.whistleStatus h) 1

/-! ### Fail-over and planned switches (R393, R405, R409, R410) -/

/-- A fail-over starts (R405): all groups are claimed; a snapshot of the half that is taken over aborts (R66). -/
def State.failover (s : State) (h : Half) (cause : Nat) : State :=
  if (s.half h).ctl.failover.isSome then s
  else
    let now := (s.half h).time.ticks
    let s := (s.setClaims h true).modCtl h (fun c => { c with failover := some now, failCause := cause })
    if s.runs h.other then s.snapAbort h.other 2 else s
/-- At start, with an image active (R393, R578): JOINING where the partner is LEAD, else a claim of all groups; the half that
HALF_PREF does not name waits at power-up while its partner is STARTING. -/
def State.startRole (s : State) (h : Half) : State :=
  if 2 ≤ s.hstate h ∨ s.hasImage h = false ∨ s.pend h 17 then s
  else if s.hears h ∧ s.partner h = 4 then (s.setClaims h false).goJoining h
  else if (s.half h).ctl.startDelay ∧ s.hears h ∧ s.partner h = 0 then s
  else if (s.half h).ctl.claims then s else s.setClaims h true
/-- A LEAD half plans a switch to its STANDBY partner (R410): T is the first whole millisecond at least 2 ms ahead.
DEDUCED: note 126. -/
def State.planStart (s : State) (h : Half) (kind : Nat) (byLatch byReset : Bool) : State :=
  let t := (s.now h + 2999999) / 1000000 * 1000000
  s.modCtl h (fun c => { c with
    plan := some ⟨t, kind, true, false, byLatch, byReset, false, (s.half h).time.ticks⟩
    resetAfterSwitch := byReset })
/-- What R409 asks of the half that takes back the lead, but for the count of mismatches. -/
def State.takebackOk (s : State) (h : Half) : Bool :=
  let both (k : Half) : Bool := s.bt (HalfR.whistleStatus k) 0 && s.bt (HalfR.whistleStatus k) 1
  let zero (a n : Nat) : Bool := (List.range n).all (fun i => s.rg (a + 4 * i) == 0)
  s.preferred h && decide (s.hstate h = 3) && s.bt (HalfR.halfCfg h) 0 && both h && both h.other
    && zero (Mod.plcDisplaced h 0) 128 && zero (HalfR.selfFault h) 1 && zero (HalfR.selfFault h.other) 1
    && s.deck.trivet.frozen.isEmpty && !s.bt Lid.lidStatus 3 && !s.pend h 17 && !s.pend h.other 17
/-- The tick from which R409's conditions have held, judged at every tick: a break or a new mirror mismatch begins the count
anew. DEDUCED: note 125. -/
def State.takebackWatch (s : State) (h : Half) : State :=
  s.onHalf h (fun s =>
    let c := (s.half h).ctl
    if s.takebackOk h = false then (if c.takeFrom.isNone then s else s.modCtl h (fun c => { c with takeFrom := none }))
    else if c.takeFrom.isSome ∧ c.takeMis = s.rg (HalfR.mirrorMismatchCnt h) then s
    else s.modCtl h (fun c => { c with
      takeFrom := some (s.half h).time.ticks
      takeMis := s.rg (HalfR.mirrorMismatchCnt h) }))
/-- What passes while no command waits: one tick of the 250 MHz clock (R506, R519, R67), after which each half judges the
conditions of R409. DESIGN CHOICE: note 5. -/
def State.idle (s : State) : State :=
  let s := ((s.tickHalf .a).tickHalf .b).tickDeck
  let s := (s.tickTally .a).tickTally .b
  (s.takebackWatch .a).takebackWatch .b
/-- Whether a hand-over may start now (R411). -/
def State.canHandover (s : State) (h : Half) : Bool :=
  decide (s.hstate h = 4) && decide (s.partner h = 3) && (s.half h).ctl.plan.isNone

/-! ### Leaving and taking the lead (R394, R404, R408) -/

/-- The slots of half `h` that hold a protected loop. -/
def State.protectedSlots (s : State) (h : Half) : List Nat :=
  (List.range 4096).filter (fun q => decide (s.slotState h q ≠ 0) && s.bt (slotBase h q) 12)
/-- Whether `h`'s clock stands at a sample boundary of slot `q` (R132). -/
def State.atBoundary (s : State) (h : Half) (q : Nat) : Bool :=
  let per := s.fd (Slot.timing h q) 9 0 * 1000
  decide (per ≠ 0) && decide (s.now h % per = s.fd (Slot.timing h q) 25 16 * 1000 % per)
/-- One copy of a protected loop passes its role from slot `p` of half `o` to slot `q` of half `h` (R56): at a boundary a marked
unit commits first and its live words go over; dirty shadows and marks go with the loop, and the old slot's shadows are
reloaded. DEDUCED: note 163. -/
def State.shadowsOver (s : State) (o : Half) (p : Nat) (h : Half) (q : Nat) : State :=
  let s := if s.slotMarked o p ∧ s.atBoundary o p then
      let t := s.commitSlot o p
      (t.copyLive (slotBase o p) (slotBase h q) 0xA0).copyLive (coefBase o p) (coefBase h q) 0x1000
    else s
  if s.dirty.contains (slotUnit o p) ∨ s.marked.contains (slotUnit o p) then
    let s := (s.copyShadow (slotBase o p) (slotBase h q) 0x100).copyShadow (coefBase o p) (coefBase h q) 0x1000
    let s := (s.moveMarks (slotUnit o p) (slotUnit h q)).settle o (18 + p / 1024)
    let s := if s.marked.contains (slotUnit h q) then s.setPend h (18 + q / 1024) true else s
    (s.reloadShadow (slotBase o p) 0x100).reloadShadow (coefBase o p) 0x1000
  else s
/-- At T every protected copy passes its role on, while the mirror link carries its shadows (R56); a snapshot that runs is
marked MOVED (R65). DEDUCED: note 163. -/
def State.passRoles (s : State) (o h : Half) : State :=
  let s := if s.mirrorUp ∧ s.runs o ∧ s.runs h then
      (s.protectedSlots o).foldl (fun (t : State) (p : Nat) => match t.slotOf h (t.slotLoop o p) with
        | some q => if t.standby o p then t else t.shadowsOver o p h q
        | none => t) s
    else s
  [o, h].foldl (fun (t : State) (k : Half) =>
    if (t.half k).snap.reached then t.sb (Mod.snapStatus k) 4 true else t) s
/-- A LEAD half becomes STANDBY, JOINING or ISOLATED: its copies and tasks are STANDBY, its claims are withdrawn.
DEDUCED: notes 124, 127. -/
def State.leaveLead (s : State) (h : Half) (st : Nat) : State :=
  let s := s.setClaims h false
  let s := (s.protectedSlots h).foldl (fun (t : State) (q : Nat) =>
    let l := t.slotLoop h q
    let t := (t.traceClose h q 2).setStandby h q true
    if t.fd (loopMapAt h l) 17 16 = 1 then t.setRole h l 2 else t) s
  let s := s.modPlace h (fun p => { p with lost := p.lost.map (fun l =>
    if s.isProtected h l.loop then { l with active := false } else l) })
  let s := (List.range 16).foldl (fun (t : State) (k : Nat) =>
    (if t.taskState h k = 2 then t.setTaskState h k 4 else t).bgStop h k) s
  let left := (s.half h).time.ticks
  let s := s.modCtl h (fun c => { c with plan := none, failover := none, takebackReq := false, switchT := left })
  let s := s.modPwr h (fun x => { x with leftT := left })
  let s := s.sb (HalfR.halfStatus h) 8 false
  if st = 2 then s.goJoining h
  else if st = 3 then
    let s := (s.protectedLoops h).foldl (fun (t : State) (l : Nat) => t.setMapBit (HalfR.alignedMap h 0) l true) s
    let ts := (List.range 16).filter (fun k => decide (s.taskState h k ≠ 0))
    let s := ts.foldl (fun (t : State) (k : Nat) => t.sb (HalfR.alignStatus h) (16 + k) true) s
    (s.modCtl h (fun c => { c with copied := s.protectedLoops h, tasksCopied := ts })).setHState h 3
  else s.setHState h st
/-- A half enters ISOLATED (R394): the record names the groups that Trivet refused. -/
def State.isolate (s : State) (h : Half) : State :=
  let ws := (List.range 4).map (fun w => s.rn (ownReg h h.other w))
  (s.leaveLead h 5).report h 0x0D07 1 h.num ws
/-- The take-over send of the copy in a slot that becomes ACTIVE, and its demand where its state calls for it (R404); an open
trace packet closes (R165). -/
def State.takeoverSend (s : State) (h : Half) (q : Nat) : State :=
  let l := s.slotLoop h q
  let s := (s.traceClose h q 2).setStandby h q false
  let s := if s.fd (loopMapAt h l) 17 16 = 2 then s.setRole h l 1 else s
  let r := s.run h q
  let s := s.sendWords h q (r.sent.map (fun w => some w.toNat)) r.sentCoast
  if (s.slotState h q = 2 ∧ (s.run h q).faultDem) ∨ s.lossOf h q = 4 then s.sb (Slot.status h q) 9 true else s
/-- The release instant of the cycle of task `t` that half `o` had released and not ended, as far as half `h` can tell
(R408): of a partner that has reset, one later than the last applied set. -/
def State.lostCycle (s : State) (h : Half) (t : Nat) : Option Nat :=
  let o := h.other
  if s.runs o then
    let x := s.task o t
    if 1 ≤ x.phase ∧ x.phase ≤ 3 then some x.release else none
  else if s.taskKind h t = 2 then none
  else
    let r := releaseAt (taskTiming (s.fd (Apc.taskPeriod h t) 23 0) (s.fd (Apc.taskPhase h t) 23 0)) (s.now h)
    if s.rd64 (Apc.releaseLo h t) < r then some r else none
/-- Tasks at a fail-over (R408). -/
def State.tasksTakeOver (s : State) (h : Half) : State :=
  (List.range 16).foldl (fun (t : State) (k : Nat) =>
    if t.taskState h k ≠ 4 then t
    else
      let t := match t.lostCycle h k with
        | some r => t.modCtl h (fun c => { c with catchUp := Map.ins c.catchUp k r })
        | none => t.modCtl h (fun c => { c with catchUp := Map.del c.catchUp k })
      t.takeoverStart h k) s
/-- Tasks at a planned switch (R410 step 5): released from T on; the first input phase waits for the cycle set of the former
LEAD's last cycle, or that cycle's hung limit. -/
def State.tasksPlanned (s : State) (h : Half) (at_ : Nat) : State :=
  (List.range 16).foldl (fun (t : State) (k : Nat) =>
    if t.taskState h k ≠ 4 then t
    else
      let x := t.task h.other k
      let due := decide (1 ≤ x.phase) && decide (x.phase ≤ 3) || (t.half h.other).ctl.setTx.any (fun c => decide (c.task = k))
      let per := (taskTiming (t.fd (Apc.taskPeriod h k) 23 0) (t.fd (Apc.taskPhase h k) 23 0)).1
      let n := clampNat 2 255 (t.fd (Apc.taskLimit h k) 7 0)
      let lim := x.release + n * per
      (t.setTaskState h k 2).modTask h k (fun y => { y with
        notBefore := at_
        waitSet := if due then some lim else none })) s
/-- Half `h` becomes LEAD at T (R404): `kind` 1 START, 2 FAILOVER, 3 TAKEBACK, 4 HANDOVER; `cause` as the record of a
fail-over names it. -/
def State.becomeLead (s : State) (h : Half) (kind cause : Nat) (latch : Bool) : State :=
  let now := s.now h
  let s := (s.protectedSlots h).foldl (fun (t : State) (q : Nat) => if t.standby h q then t.takeoverSend h q else t) s
  let s := s.modPlace h (fun p => { p with lost := p.lost.map (fun l =>
    if s.isProtected h l.loop then { l with active := true } else l) })
  let s := (s.setHState h 4).modCtl h (fun c => { c with plan := none, failover := none, takebackReq := false })
  let s := (s.sb (HalfR.halfStatus h) 8 false).fw (HalfR.halfStatus h) 14 12 kind
  let s := s.wr64 (HalfR.switchTLo h) now
  let s := if kind = 1 then s.restartAll h (if s.bt (Mod.straps h) 7 then 1 else 2) 2
    else if kind = 2 then s.tasksTakeOver h
    else s.tasksPlanned h now
  let s := s.shedWrite h
  let s := s.becomeTimeLeader h (if s.runs h.other then s.timeState h.other else if (s.half h).time.everSet then 3 else 0)
  let s := (s.raise h 64).startDone h
  let lo := now % 2 ^ 32
  let hi := now / 2 ^ 32
  match kind with
  | 2 => (s.satF (HalfR.switchCnt h) 7 0 1).report h 0x0D01 1 h.num
      [cause, if s.bt (HalfR.selfFault h.other) 0 then 0 else if s.bt (HalfR.selfFault h.other) 1 then 1
        else if s.bt (HalfR.selfFault h.other) 2 then 2 else 3, lo, hi]
  | 3 => (s.satF (HalfR.switchCnt h) 15 8 1).report h 0x0D02 1 h.num [lo, hi]
  | 4 => (s.satF (HalfR.switchCnt h) 23 16 1).report h 0x0D03 1 h.num [lo, hi, latch.toNat]
  | _ => s
/-- The owners that half `h` finds at its owner report, or when it loses its partner, bind its state (R393, R394). -/
def State.judgeOwners (s : State) (h : Half) : State :=
  let o := h.other
  let any := s.shownAny h o
  let st := s.hstate h
  let c := (s.half h).ctl
  let atT : Bool := match c.plan with
    | some p => p.atT
    | none => false
  let arrived := match h with
    | .a => decide (s.deck.trivet.vecA ≠ 0) && s.deck.trivet.freshA
    | .b => decide (s.deck.trivet.vecB ≠ 0) && s.deck.trivet.freshB
  if any = false then s
  else if st = 4 then
    (if atT then s else if s.hears h then s.leaveLead h 2 else s.isolate h)
  else if c.claims = false ∨ arrived = false then s
  else if s.hears h = false then (if s.shownAll h h then s else s.isolate h)
  else if st < 2 then (s.setClaims h false).goJoining h
  else s

/-! ### Field-deck link (R26) -/

/-- The degraded-link alarms follow the working lanes: an alarm stands while its link lacks a lane (R26). DEDUCED: note 162. -/
def State.linkAlarm (s : State) (h : Half) : State :=
  s.modHalf h (fun x => { x with link := { x.link with
    alarmDeck := decide (x.link.deckTo ≠ 15) || decide (x.link.deckFrom ≠ 15)
    alarmMirror := decide (x.link.mirror ≠ 255) } })
/-- The working lanes of a half's field-deck link decide whether it is up; Trivet counts no claim over a lost one. -/
def State.deckLinkShow (s : State) (h : Half) : State :=
  let l := (s.half h).link
  let n (m : Nat) : Nat := ((List.range 4).filter (fun i => m.testBit i)).length
  let up := decide (2 ≤ n l.deckTo) && decide (2 ≤ n l.deckFrom)
  let now := s.deck.ticks
  ((s.modHalf h (fun x => { x with linkUp := up, lostT := if x.linkUp && !up then now else x.lostT })).linkAlarm h).redecide

end Sys2Proof.Machine
end

