-- ==== Sys2Proof/Machine/Power.lean ====
section
/-! DEFINITION. Power intake, card-slot power and the commands of the power-management sequencer (chapter 15). -/
namespace Sys2Proof.Machine

/-- Change the power entry. -/
def State.modEntry (s : State) (f : PwrDeck → PwrDeck) : State := s.modDeck (fun d => { d with pwr := f d.pwr })
/-- PWR_STATUS of a half follows the power entry (R478). DEDUCED: note 119. -/
def State.pwrShow (s : State) (h : Half) : State :=
  let p := s.deck.pwr
  let a := Pwr.pwrStatus h
  if s.runs h = false then s
  else
    (((((s.sb a 0 (portFlag p.feed 0)).sb a 1 (portFlag p.feed 1)).sb a 3 (decide (p.phase = 1))).sb a 7
      (portFlag p.bayFault h.num)).sb a 8 (portFlag p.bayFault h.other.num)).cardPwrShow h
/-- The same in both halves. -/
def State.pwrShowAll (s : State) : State := (s.pwrShow .a).pwrShow .b
/-- A record that PWR writes in each half. -/
def State.reportBoth (s : State) (code kind num : Nat) (data : List Nat) : State :=
  (s.report .a code kind num data).report .b code kind num data

/-! ### Feeds and hold-up (R454, R462, R476) -/

/-- A feed becomes OK; in RIDE the module returns to NORMAL. -/
def execFeedOk (f : Nat) (s : State) : Host.Outcome State Fault Refusal :=
  .next (
    if portFlag s.deck.pwr.feed f then s
    else
      let ride := decide (s.deck.pwr.phase = 1)
      let now := s.deck.ticks
      let ms := (now - s.deck.pwr.rideT) / 250000
      let s := s.modEntry (fun p => { p with
        feed := portSet p.feed f true
        feedT := if portFlag p.feed 0 || portFlag p.feed 1 then p.feedT else now
        phase := if p.phase = 1 then 0 else p.phase })
      let s := s.pwrShowAll.reportBoth 0x0F02 0x14 f [f]
      if ride then (s.raiseBoth 34).reportBoth 0x0F04 0x14 f [ms] else s)
/-- A feed becomes OUT, at a voltage; with both OUT, RIDE begins, the store at `store` V. -/
def execFeedLost (f : Nat) (volts store : Word) (s : State) : Host.Outcome State Fault Refusal :=
  .next (
    if portFlag s.deck.pwr.feed f = false then s
    else
      let s := s.modEntry (fun p => { p with feed := portSet p.feed f false })
      let ride := decide (s.deck.pwr.phase = 0) && !portFlag s.deck.pwr.feed 0 && !portFlag s.deck.pwr.feed 1
      let t := s.deck.ticks
      let s := if ride then s.modEntry (fun p => { p with phase := 1, rideT := t }) else s
      let s := s.pwrShowAll.reportBoth 0x0F01 0x14 f [f, volts.toNat]
      if ride then (s.raiseBoth 33).reportBoth 0x0F03 0x14 f [store.toNat] else s)
/-- Whether RIDE is over: RIDE_MS of the half that owns group 127 has elapsed, or the store stands at 280 V or less. DEDUCED:
note 120. -/
def State.rideOver (s : State) : Bool :=
  let h := (s.owner 127).getD .a
  decide (s.deck.pwr.rideT + clampNat 1 15 (s.fd (Pwr.pwrCfg h) 19 16) * 250000 ≤ s.deck.ticks)
    || f32.le (Config.pwrMeter (s.now h) 4).toNat 0x438C0000
/-- RIDE ends in HALVES_OFF: both halves are held in reset and both bay converters go off. -/
def execRideEnd (s : State) : Host.Outcome State Fault Refusal :=
  .next (
    if s.deck.pwr.phase ≠ 1 ∨ s.rideOver = false then s
    else
      let t := s.deck.ticks
      let s := (s.halfReset .a 3).halfReset .b 3
      s.modEntry (fun p => { p with phase := 2, offT := t, bayOff := portSet (portSet p.bayOff 0 true) 1 true }))
/-- HALVES_OFF ends in DECK_OFF, in `full` after its 20 ms: the field deck is in reset. -/
def execHalvesOffEnd (full : Bool) (s : State) : Host.Outcome State Fault Refusal :=
  .next (
    if s.deck.pwr.phase ≠ 2 ∨ (full ∧ s.deck.ticks < s.deck.pwr.offT + 5000000) then s
    else (s.modEntry (fun p => { p with phase := 3, retained := full })).deckReset)

/-! ### Bays (R458, R459) -/

/-- A half's supply leaves or returns to range (R458): the SUPPLY cause. -/
def execHalfSupplyRange (h : Half) (ok : Bool) (s : State) : Host.Outcome State Fault Refusal :=
  .next (s.onHalf h (fun s => s.selfFaultSet h 3 (!ok)))
/-- The supply falls past the reset limit (R458, R574). -/
def execHalfSupplyReset (h : Half) (s : State) : Host.Outcome State Fault Refusal :=
  .next (s.onHalf h (fun s => s.halfReset h 6))
/-- A bay converter switches off, with its record: cause 0 fault, 1 BAY_CYCLE, 2 latch. -/
def State.bayDown (s : State) (h : Half) (cause : Nat) : State :=
  let s := if s.runs h then s.halfReset h 1 else s
  (s.modEntry (fun p => { p with
    bayOff := portSet p.bayOff h.num true
    bayFault := if cause = 0 then portSet p.bayFault h.num true else p.bayFault })).pwrShowAll.reportBoth 0x0F06 0x1D h.num
    [cause]
/-- A bay converter switches on: the half's reset then has this cause (R574). -/
def State.bayUp (s : State) (h : Half) (cause : Nat) : State :=
  let now := s.deck.ticks
  (s.modEntry (fun p => { p with
    bayOff := portSet p.bayOff h.num false
    upT := Map.set (fun _ => 0) p.upT h.num now
    bayCycle := portSet p.bayCycle h.num false })).modCtl h (fun x => { x with inReset := true, resetCause := cause })
/-- The cartridges withdrawn from both bays change places (R21): each takes its memories into the other bay, whose identity it
has from its reset on; the other bay stands empty until its latch closes. DEDUCED: notes 120, 164. -/
def State.swapCartridges (s : State) (h : Half) : State :=
  let s := (s.halfReset h 1).halfReset h.other 1
  let x := s.half h
  let y := s.half h.other
  ((s.modHalf h (fun _ => y)).modHalf h.other (fun _ => { x with fitted := false })).modEntry (fun p => { p with
    bayOff := portSet p.bayOff h.other.num true })
/-- A bay latch closes on an inserted cartridge: `moved` 0 it stayed in the bay, 1 it was withdrawn and put back, 2 another
cartridge, as delivered, was put in, 3 the cartridge of the other bay, whose latch stands open, was put in (R21).
DEDUCED: notes 120, 164. -/
def execBayLatchClose (h : Half) (moved : Nat) (s : State) : Host.Outcome State Fault Refusal :=
  .next (
    let now := s.deck.ticks
    let s := s.modEntry (fun p => { p with
      latchT := if portFlag p.latchOpen h.num ∨ moved ≠ 0 then Map.set (fun _ => 0) p.latchT h.num now else p.latchT
      latchOpen := portSet p.latchOpen h.num false
      bayFault := if moved = 0 then p.bayFault else portSet p.bayFault h.num false
      bayOff := if moved = 0 then p.bayOff else portSet p.bayOff h.num true })
    let s := if moved = 0 then s else s.halfReset h 1
    let s := if moved = 3 ∧ portFlag s.deck.pwr.latchOpen h.other.num then s.swapCartridges h else s
    let s := if moved = 2 then s.modHalf h (fun _ => { ctl := { inReset := true, resetCause := 1 } }) else s
    let s := s.modHalf h (fun x => { x with fitted := true })
    (if s.runs h then s.sb (HalfR.halfStatus h) 9 false else s).pwrShowAll)
/-- Whether `n` deck ticks have passed since bay `h`'s latch last opened or closed. -/
def State.latchFor (s : State) (h : Half) (n : Nat) : Bool :=
  decide (Map.get (fun _ => 0) s.deck.pwr.latchT h.num + n ≤ s.deck.ticks)
/-- 500 ms after the latch opened. -/
def execBayOff (h : Half) (s : State) : Host.Outcome State Fault Refusal :=
  .next (if portFlag s.deck.pwr.latchOpen h.num ∧ portFlag s.deck.pwr.bayOff h.num = false ∧ s.latchFor h 125000000 then
    s.bayDown h 2 else s)
/-- 200 ms after the latch closed. -/
def execBayOn (h : Half) (s : State) : Host.Outcome State Fault Refusal :=
  .next (
    let p := s.deck.pwr
    if portFlag p.latchOpen h.num ∨ portFlag p.bayOff h.num = false ∨ portFlag p.bayFault h.num ∨ portFlag p.bayCycle h.num
        ∨ 2 ≤ p.phase ∨ s.latchFor h 50000000 = false then s
    else s.bayUp h 1)
/-- A bay converter has been in current limit for 20 ms. -/
def execBayFault (h : Half) (s : State) : Host.Outcome State Fault Refusal :=
  .next (if portFlag s.deck.pwr.bayOff h.num then s else s.bayDown h 0)
/-- The result of a PWR_CMD: 0 DONE, 1 REFUSED. -/
def State.pwrResult (s : State) (h : Half) (r : Nat) : State := s.fw (Pwr.pwrCmdStatus h) 1 0 r
/-- PWR_CMD.BAY_CYCLE: refused unless this half is LEAD and its partner neither LEAD nor JOINING. -/
def execBayCycle (h : Half) (s : State) : Host.Outcome State Fault Refusal :=
  .next (s.onHalf h (fun s =>
    let q := h.other
    if s.hstate h ≠ 4 ∨ s.partner h = 4 ∨ s.partner h = 2 then s.pwrResult h 1
    else
      let now := s.deck.ticks
      let s := s.bayDown q 1
      ((s.modEntry (fun p => { p with
        bayFault := portSet p.bayFault q.num false
        cycleT := Map.set (fun _ => 0) p.cycleT q.num now
        bayCycle := portSet p.bayCycle q.num true })).pwrShowAll).pwrResult h 0))
/-- 1 s after BAY_CYCLE. -/
def execBayCycleOn (h : Half) (s : State) : Host.Outcome State Fault Refusal :=
  .next (
    let p := s.deck.pwr
    if portFlag p.bayCycle h.num = false ∨ s.deck.ticks < Map.get (fun _ => 0) p.cycleT h.num + 250000000 then s
    else if portFlag p.latchOpen h.num then s.modEntry (fun p => { p with bayCycle := portSet p.bayCycle h.num false })
    else s.bayUp h 2)

/-! ### Card slots (R460, R479) -/

/-- 100 ms after a card's presence contacts mate its switch closes. -/
def execCardSlotSwitchClose (kind n : Nat) (s : State) : Host.Outcome State Fault Refusal :=
  .next (s.onDeck (fun s =>
    let k := cardNo kind n
    if s.deck.pwr.cardFault.contains k ∨ s.deck.pwr.slotOn.contains k ∨ 40 ≤ k then s
    else s.modEntry (fun p => { p with slotOn := p.slotOn ++ [k] })))
/-- A card draws above its limit for 10 ms: its switch opens, and it counts as not ready. -/
def execCardPwrFault (kind n : Nat) (draw : Word) (s : State) : Host.Outcome State Fault Refusal :=
  .next (s.onDeck (fun s =>
    let k := cardNo kind n
    if 40 ≤ k then s
    else
      let s := (s.modEntry (fun p => { p with slotOn := p.slotOn.filter (· != k) })).cardFaultSet k true
      let s := if s.cardPresent kind n then s.cardGone kind n else s
      s.reportBoth 0x0F05 (if kind = 0 then 5 else if kind = 1 then 7 else 9) n [k, draw.toNat]))
/-- PWR_CMD.CARD_RETRY: the switch closes once and the fault clears. -/
def execCardRetry (h : Half) (card : Nat) (s : State) : Host.Outcome State Fault Refusal :=
  .next (s.onHalf h (fun s =>
    if 40 ≤ card then s.pwrResult h 1
    else
      let s := if s.deck.pwr.cardFault.contains card then
          (s.cardFaultSet card false).modEntry (fun p => { p with slotOn := p.slotOn ++ [card] })
        else s
      s.pwrResult h 0))

/-! ### The sequencer's commands (R465-R478) -/

/-- A PWR_CMD that acts at the next boundary in both halves (R477); taken in the half that owns group 127. -/
def State.pwrLater (s : State) (h : Half) (c : Nat) : State :=
  if s.owns h 127 = false then s.pwrResult h 1
  else
    let send := s.mirrorUp && s.runs h.other
    (s.modPwr h (fun x => { x with
      cmds := x.cmds ++ [c]
      tx := if send then x.tx ++ [.inl c] else x.tx })).pwrResult h 0
/-- PWR_CMD.GEN_RESET. -/
def execGenReset (h : Half) (g : Nat) (s : State) : Host.Outcome State Fault Refusal :=
  .next (s.onHalf h (fun s => s.pwrLater h g))
/-- PWR_CMD.CLEAR_COUNTS. -/
def execPwrClearCounts (h : Half) (s : State) : Host.Outcome State Fault Refusal :=
  .next (s.onHalf h (fun s => s.pwrLater h 8))
/-- What the partner of half `h` forwarded arrives and waits for the boundary (R477). -/
def execPwrForwardArrive (h : Half) (s : State) : Host.Outcome State Fault Refusal :=
  .next (
    let q := h.other
    match (s.half q).pwr.tx with
    | [] => s
    | x :: rest =>
      let s := s.modPwr q (fun y => { y with tx := rest })
      if s.mirrorUp = false ∨ s.runs h = false then s
      else match x with
        | .inl c => s.modPwr h (fun y => { y with cmds := y.cmds ++ [c] })
        | .inr ws => s.modPwr h (fun y => { y with next := ws }))
/-- The newest PWR boundary: the last multiple of PM_PERIOD_US in ship time (R465). -/
def State.pwrInstant (s : State) (h : Half) : Nat :=
  let n := clampNat 100 1000 (s.fd (Pwr.pwrCfg h) 13 4) * 1000
  s.now h / n * n
/-- A PWR boundary (R465); each instant is a boundary once. -/
def execPwrBoundary (h : Half) (s : State) : Host.Outcome State Fault Refusal :=
  .next (s.onHalf h (fun s =>
    let b := s.pwrInstant h
    match (s.half h).pwr.bound with
    | some t => if b ≤ t then s else (s.modPwr h (fun x => { x with bound := some b })).pwrBoundary h
    | none => (s.modPwr h (fun x => { x with bound := some b })).pwrBoundary h))
/-- The sequencer of half `h` runs: PM_EN. -/
def State.onSeq (s : State) (h : Half) (f : State → State) : State :=
  s.onHalf h (fun s => if s.bt (Pwr.pwrCfg h) 0 then f s else s)
/-- START_TIMEOUT or SYNC_TIMEOUT runs out (R470). -/
def execGenTimeout (h : Half) (g : Nat) (s : State) : Host.Outcome State Fault Refusal :=
  .next (s.onSeq h (fun s => s.genTimeout h g))
/-- A hold timer of an island runs out (R472). -/
def execIslandHoldExpire (h : Half) (b : Nat) (s : State) : Host.Outcome State Fault Refusal :=
  .next (s.onSeq h (fun s =>
    if (s.islands h).contains b ∧ (s.isl h b).phase ≠ 2 then (s.islActs h b false).shedWrite h else s))
/-- BLK_MS runs out on a dead island (R474). -/
def execBlackout (h : Half) (b : Nat) (s : State) : Host.Outcome State Fault Refusal :=
  .next (s.onSeq h (fun s =>
    if (s.islands h).contains b ∧ (s.isl h b).phase ≠ 2 ∧ s.islDead h b ∧ heldFor (s.isl h b).dead (s.now h) (s.blkNs h b) then
      ((s.blackout h b).islShow h b).shedWrite h
    else s))
/-- An island's frequency has been valid for 500 ms (R474). -/
def execBusLive (h : Half) (b : Nat) (s : State) : Host.Outcome State Fault Refusal :=
  .next (s.onSeq h (fun s =>
    if (s.islands h).contains b ∧ (s.isl h b).phase = 2 ∧ (s.islF h b).1 ∧ heldFor (s.isl h b).alive (s.now h) 500000000 then
      (s.busLive h b).islShow h b
    else s))
/-- A restart entry's DELAY passes (R474). -/
def execRestartIssued (h : Half) (r : Nat) (s : State) : Host.Outcome State Fault Refusal :=
  .next (s.onSeq h (fun s => s.restartIssue h (s.islandOf h (s.fd (Pwr.restartCtrl h r) 17 16)) r))
/-- A request's pulse ends (R471). -/
def execRequestPulseEnd (h : Half) (kind num : Nat) (s : State) : Host.Outcome State Fault Refusal :=
  .next (s.onHalf h (fun s =>
    let now := s.now h
    s.reqEnd h (fun r => decide (r.kind = kind) && decide (r.num = num) && (match r.ends with
      | some t => decide (t ≤ now)
      | none => false))))
/-- Every 10 ms the issuing half rewrites its request cards; `can`: every 100 ms it also transmits level CAN requests
(R471). -/
def execRequestRewrite (h : Half) (can : Bool) (s : State) : Host.Outcome State Fault Refusal :=
  .next (s.onHalf h (fun s =>
    let s := (List.range 8).foldl (fun (t : State) (n : Nat) => t.reqCard h n) s
    if can then
      ((s.half h).pwr.reqs.filter (fun r => r.ends.isNone && decide (bits r.desc 1 0 = 2))).foldl
        (fun (t : State) (r : PwrReq) => t.reqDrive h r.desc true) s
    else s))
/-- 100 us after T the former LEAD clears its shed bits (R473). -/
def execShedBitsClear (h : Half) (s : State) : Host.Outcome State Fault Refusal :=
  .next (s.onHalf h (fun s =>
    if s.hstate h = 4 ∨ (s.half h).time.ticks < (s.half h).pwr.leftT + 25000 then s else s.shedSet h []))

end Sys2Proof.Machine
end

