-- ==== Sys2Proof/Machine/Boot.lean ====
section
/-! DEFINITION. Start-up, reset and service (chapter 20) and the temperatures of R604 and R605.
The exchanges under way of R586, R587 and R588 are sequences of these rows. -/
namespace Sys2Proof.Machine

/-- Change the start-up state of a half. -/
def State.modBoot (s : State) (h : Half) (f : BootSt → BootSt) : State := s.modHalf h (fun x => { x with boot := f x.boot })

/-! ### Power-up and resets (R574-R579) -/

/-- A feed has been OK for 100 ms with the store at 360 V (R577): the field deck leaves reset, the bay converters
start 200 ms later.
`uniform` says whether the panel's map passes its check (R558); the record waits in the halves' ingest until they run. DEDUCED:
note 136. -/
def execPowerUp (uniform : Bool) (s : State) : Host.Outcome State Fault Refusal :=
  .next (
    let now := s.deck.ticks
    if s.deck.inReset = false ∨ (portFlag s.deck.pwr.feed 0 = false ∧ portFlag s.deck.pwr.feed 1 = false)
        ∨ now < s.deck.pwr.feedT + 25000000 then s
    else
      let s := s.deckStart
      let s := s.modEntry (fun p =>
        let on (m : Map Bool) (n : Nat) : Map Bool := if portFlag p.latchOpen n then m else portSet m n false
        { p with phase := 0, bayOff := on (on p.bayOff 0) 1, upT := [(0, now + 50000000), (1, now + 50000000)] })
      let log (t : State) (h : Half) : State :=
        t.modLog h (fun x => { x with inbox := x.inbox ++ [⟨0x1505, 1, h.num, s.deckNow, []⟩] })
      if uniform then s else log (log (s.sb Pnl.pnlStatus 11 true) .a) .b)
/-- The field deck's supply monitor finds a deck rail out of range for 50 us (R574). DEDUCED: note 120. -/
def execDeckRailFault (s : State) : Host.Outcome State Fault Refusal := .next s.deckReset
/-- HALF_WD is written: by the half firmware it feeds the watchdog, by station code it does nothing (R575).
DEDUCED: note 37. -/
def execHalfWdFeed (h : Half) (firmware : Bool) (s : State) : Host.Outcome State Fault Refusal :=
  .next (s.onHalf h (fun s =>
    let t := (s.half h).time.ticks
    if firmware then s.modBoot h (fun b => { b with wdFed := t }) else s))
/-- 99 ms, within 1 ms, without a feed reset the half (R575). -/
def execHalfWdExpire (h : Half) (s : State) : Host.Outcome State Fault Refusal :=
  .next (s.onHalf h (fun s =>
    if (s.half h).boot.wdFed + 24500000 ≤ (s.half h).time.ticks then s.halfReset h 5 else s))
/-- RESET_CMD is written (R576, R589). -/
def execHalfResetCmd (h : Half) (val : Word) (s : State) : Host.Outcome State Fault Refusal :=
  .next (s.onHalf h (fun s =>
    if bits val 15 0 ≠ 0x5A3C ∨ bit val 16 = false then s
    else if s.fd (Mod.fwStatus h) 1 0 = 1 then s.fw (Mod.resetStatus h) 1 0 1
    else if s.hstate h ≠ 4 then s.halfReset h 4
    else if s.partner h = 3 then
      (if s.canHandover h then (s.planStart h 4 false true).fw (Mod.resetStatus h) 1 0 2
       else s.fw (Mod.resetStatus h) 1 0 1)
    else if bit val 17 then s.halfReset h 4
    else s.fw (Mod.resetStatus h) 1 0 1))
/-- 1 ms after the T of a hand-over that RESET_CMD started (R576). -/
def execHandoverReset (h : Half) (s : State) : Host.Outcome State Fault Refusal :=
  .next (s.onHalf h (fun s =>
    let c := (s.half h).ctl
    if c.resetAfterSwitch && c.plan.isNone && decide (s.hstate h ≠ 4)
        && decide (c.switchT + 250000 ≤ (s.half h).time.ticks) then s.halfReset h 4 else s))

/-- The slot that a half boots (R584): the release, and the cause of a FW_ROLLBACK record. DEDUCED: note 133. -/
def BootSt.choose (b : BootSt) : Option (Nat × Option Nat) :=
  match b.active with
  | some f =>
    if f.good ∧ b.failedBoots < 3 then some (f.release, if b.rolled then some 2 else none)
    else b.previous.map (fun p => (p.release, some (if f.good then 1 else 0)))
  | none => b.previous.map (fun p => (p.release, some 0))
/-- Whether the reset of half `h` may end (R574): 20 ms of soft start and 1 ms in range after its bay converter came up, or for
the causes SOFTWARE, WATCHDOG and SUPPLY 9 ms after its entry. -/
def State.resetOver (s : State) (h : Half) : Bool :=
  if (s.half h).ctl.resetCause < 3 then decide (Map.get (fun _ => 0) s.deck.pwr.upT h.num + 5250000 ≤ s.deck.ticks)
  else decide ((s.half h).ctl.resetT + 2250000 ≤ s.deck.ticks)
/-- A half's reset ends (R572, R578, R582, R584, R590, R591, R596). DEDUCED: notes 133, 134. -/
def execHalfResetEnd (h : Half) (debug : Bool) (s : State) : Host.Outcome State Fault Refusal :=
  .next (
    let x := s.half h
    let p := s.deck.pwr
    if x.fitted = false ∨ x.ctl.inReset = false ∨ s.deck.inReset ∨ portFlag p.bayOff h.num ∨ 2 ≤ p.phase
        ∨ s.resetOver h = false then s
    else match x.boot.choose with
    | none => s
    | some (rel, roll) =>
      let cause := x.ctl.resetCause
      let s := s.modCtl h (fun c => { c with inReset := false, startDelay := decide (cause = 0) && !s.preferred h })
      let s := s.modBoot h (fun b => { b with
        failedBoots := if roll = some 0 ∨ roll = some 1 then b.failedBoots else b.failedBoots + 1
        resets := satAdd 65535 b.resets 1
        rolled := false })
      let s := if cause < 3 then s.modLog h (fun l => { l with cycles := satAdd 16777215 l.cycles 1 }) else s
      let r := strapRead s.deck.strapTrue s.deck.strapComp
      let differs := decide (r.1 / 64 % 2 ≠ s.deck.trivet.pref)
      let s := (s.wn (Mod.straps h) r.1).wn (Mod.strapFaults h) (r.2 + differs.toNat * 131072)
      let s := (s.fw (Mod.imgSource h) 1 0 (r.1 / 512)).sb (Mod.imgSource h) 2 (decide (r.1 / 512 % 4 = 3))
      let s := s.wn (Mod.resetCause h) (cause + 65536 * (s.half h).boot.resets)
      let deckRel := match s.deck.fwActive with
        | some f => f.release
        | none => s.fd (Mod.idFw h) 31 16
      let s := (s.wn (Mod.idFw h) (rel + 65536 * deckRel)).sb (HalfR.halfStatus h) 3 (s.preferred h)
      let s := s.sb (HalfR.halfStatus h) 9 (portFlag p.latchOpen h.num)
      let s := ((s.trkShow h).fw (Trk.trkStatus h) 5 0 (r.1 % 64)).pwrShow h
      let s := s.report h 0x1601 1 h.num [cause, r.1, s.rn (Mod.idFw h)]
      let s := if s.rn (Mod.strapFaults h) = 0 then s else s.report h 0x1604 1 h.num [s.rn (Mod.strapFaults h)]
      let s := match roll with
        | some n => s.report h 0x1606 1 h.num [rel, n]
        | none => s
      let s := if debug then s.report h 0x1703 1 h.num [h.num] else s
      if p.retained ∧ cause = 0 then s.raise h 42 else s)
/-- The self-test ends (R579). A failure names its part (0 engine, 1 cluster, 2 slab), its number, the test and the cause of
R184: the part goes out of service before any placement. DEDUCED: note 137. -/
def execSelftestDone (h : Half) (fails : List (Nat × Nat × Nat × Nat)) (s : State) : Host.Outcome State Fault Refusal :=
  .next (s.onHalf h (fun s =>
    if (s.half h).boot.tested then s
    else
      let part (f : Nat × Nat × Nat × Nat) : Nat × Nat :=
        if f.1 = 0 then (f.2.1 % 512, 1) else if f.1 = 1 then (16 * (f.2.1 % 32), 16) else (128 * (f.2.1 % 4), 128)
      let s := fails.foldl (fun (t : State) (f : Nat × Nat × Nat × Nat) =>
        let e := part f
        let slab := e.1 / 128
        let t := (List.range e.2).foldl (fun (u : State) (i : Nat) => u.engineOut h (e.1 + i) 0 false) t
        let t := if f.1 = 0 then t
          else if f.1 = 1 then (t.fw (Mod.slabFault h slab) 3 1 6).sb (Mod.slabFault h slab) (8 + e.1 / 16 % 8) true
          else ((t.sb (Mod.slabFault h slab) 0 true).fw (Mod.slabFault h slab) 3 1 f.2.2.2).fw (Mod.slabFault h slab) 15 8 255
        t.report h 0x1603 (if f.1 = 2 then 4 else 3) (if f.1 = 2 then slab else e.1) [f.2.2.1, f.2.2.2]) s
      let ok := ((List.range 512).filter (fun e => !s.mapBit (Mod.plcOos h 0) e)).length
      let out := (List.range 4).foldl (fun (n : Nat) (k : Nat) => if s.bt (Mod.slabFault h k) 0 then n + 2 ^ k else n) 0
      (s.wn (Mod.selftest h) (ok + 1024 + out * 4096)).modBoot h (fun b => { b with tested := true, failedBoots := 0 })))
/-- The 3 s for which the half that HALF_PREF does not name delays its start claim run out (R578). -/
def execStartClaimDelayExpire (h : Half) (s : State) : Host.Outcome State Fault Refusal :=
  .next (s.onHalf h (fun s =>
    if (s.half h).time.ticks < 750000000 then s
    else (s.modCtl h (fun c => { c with startDelay := false })).startRole h))
/-- A strap contact pair of SV changes in service (R571, R572): the pair of bit `n` now reads so. -/
def execStrapLevelChange (n : Nat) (tru comp : Bool) (s : State) : Host.Outcome State Fault Refusal :=
  .next (
    let put (m : Nat) (b : Bool) : Nat := if m.testBit n = b then m else if b then m + 2 ^ n else m - 2 ^ n
    let s := s.modDeck (fun d => { d with strapTrue := put d.strapTrue tru, strapComp := put d.strapComp comp })
    let v := (strapRead s.deck.strapTrue s.deck.strapComp).1
    let f (t : State) (h : Half) : State := t.onHalf h (fun t => t.sb (Mod.straps h) 30 (decide (t.fd (Mod.straps h) 16 0 ≠ v)))
    f (f s .a) .b)

/-! ### Firmware (R581-R584) -/

/-- The check of a firmware package (R582, R583): 0, or the fault that refuses it. DEDUCED: note 132. -/
def fwCheck (bs : List Byte) (len target issue : Nat) : Nat :=
  let at_ (o n : Nat) : Nat := leNat ((bs.drop o).take n)
  if at_ 0 4 ≠ 0x57465947 then 1
  else if at_ 0x7C 4 ≠ (crc32 (bs.take 0x7C)).toNat then 2
  else if at_ 4 1 ≠ target then 3
  else if issue < at_ 8 2 then 4
  else if len < 128 ∨ 134217728 < len ∨ at_ 0xC 4 + 128 ≠ len then 5
  else if (bs.drop 0x10).take 32 ≠ sha256 (bs.drop 128) then 6
  else 0
/-- FW_CMD.STORE or DECK_STORE (R583): ignored while a store runs. DEDUCED: note 132. -/
def State.fwStore (s : State) (h : Half) (deck : Bool) : State :=
  let a := Mod.fwStatus h
  if s.fd a 1 0 = 1 then s
  else
    let base := s.fd (Mod.fwSrc h) 29 0 * 64
    let len := s.fd (Mod.fwLen h) 27 0
    let fit := inDdr base (if len < 128 then 128 else len)
    let bs := s.bytes (h.base + base) (if len < 128 then 128 else len)
    let n := if fit then
        fwCheck bs len (if deck then 2 else 1) (if deck then s.fd (h.base) 15 8 else s.fd (h.base) 7 0)
      else 5
    if n ≠ 0 then (s.fw a 1 0 3).fw a 5 2 n
    else
      let rel := leNat ((bs.drop 6).take 2)
      let s := ((s.fw a 1 0 1).fw a 5 2 0).modBoot h (fun b => { b with
        storing := some (deck, rel)
        previous := if deck then b.previous else b.active
        active := if deck then b.active else none })
      if deck then s.modDeck (fun d => { d with fwPrevious := d.fwActive, fwActive := none }) else s
/-- FW_CMD.STORE. -/
def execFwStore (h : Half) (s : State) : Host.Outcome State Fault Refusal := .next (s.onHalf h (fun s => s.fwStore h false))
/-- FW_CMD.DECK_STORE. -/
def execFwDeckStore (h : Half) (s : State) : Host.Outcome State Fault Refusal := .next (s.onHalf h (fun s => s.fwStore h true))
/-- FW_CMD.ROLLBACK exchanges the slots for the next boot (R584). DEDUCED: note 134. -/
def execFwRollback (h : Half) (s : State) : Host.Outcome State Fault Refusal :=
  .next (s.onHalf h (fun s =>
    if s.fd (Mod.fwStatus h) 1 0 = 1 then s
    else s.modBoot h (fun b => { b with
      active := b.previous
      previous := b.active
      failedBoots := 0
      rolled := true })))
/-- A firmware store ends, done or with FLASH (R583): a deck package restarts the deck controller. -/
def execFwStoreDone (h : Half) (ok : Bool) (s : State) : Host.Outcome State Fault Refusal :=
  .next (s.onHalf h (fun s => match (s.half h).boot.storing with
    | none => s
    | some (deck, rel) =>
      let a := Mod.fwStatus h
      let s := s.modBoot h (fun b => { b with storing := none })
      if ok = false then (s.fw a 1 0 3).fw a 5 2 7
      else
        let s := ((s.fw a 1 0 2).fw a 31 16 rel).report h 0x1605 1 h.num [if deck then 2 else 1, rel]
        if deck then
          let s := s.modDeck (fun d => { d with fwActive := some ⟨rel, true⟩, ctrlDown := true })
          let s := (s.report .a 0x1608 1 0 [1]).report .b 0x1608 1 1 [1]
          let f (t : State) (k : Half) : State := t.onHalf k (fun t => t.fw (Mod.idFw k) 31 16 rel)
          f (f s .a) .b
        else s.modBoot h (fun b => { b with active := some ⟨rel, true⟩, failedBoots := 0 })))
/-- The deck controller's watchdog restarts it after 500 ms of silence, or (`up`) its restart ends (R581).
DEDUCED: note 135. -/
def execDeckCtrlRestart (up : Bool) (s : State) : Host.Outcome State Fault Refusal :=
  .next (s.onDeck (fun s =>
    let s := s.modDeck (fun d => { d with ctrlDown := !up })
    if up then s else (s.report .a 0x1608 1 0 [0]).report .b 0x1608 1 1 [0]))

/-! ### Temperatures (R604, R605) -/

/-- TEMP[k] of a half takes a reading: T in [15:0], T_MAX in [31:16], both signed; of the reference point the half keeps from when
it has been above 55 and below 52 degrees C. -/
def State.tempTake (s : State) (h : Half) (k : Nat) (t : Word) : State :=
  s.onHalf h (fun s =>
    let v := bits t 15 0
    let s := s.fw (Mod.temp h k) 15 0 v
    let now := (s.half h).time.ticks
    let s := if k ≠ 0 then s
      else s.modBoot h (fun b => { b with
        hotFrom := if 880 < signedOf 16 v then some (b.hotFrom.getD now) else none
        coolFrom := if signedOf 16 v < 832 then some (b.coolFrom.getD now) else none })
    if signedOf 16 (s.fd (Mod.temp h k) 31 16) < signedOf 16 v then s.fw (Mod.temp h k) 31 16 v else s)
/-- A sensor is read: 0 to 3 lie in the field deck and show in both halves, 4 to 8 in half `h`. -/
def execTempSample (h : Half) (k : Nat) (t : Word) (s : State) : Host.Outcome State Fault Refusal :=
  .next (if k < 4 then (s.tempTake .a k t).tempTake .b k t else if k < 9 then s.tempTake h k t else s)
/-- The reference point has exceeded 55 degrees C for 10 s. DEDUCED: note 138. -/
def execTempHigh (h : Half) (s : State) : Host.Outcome State Fault Refusal :=
  .next (s.onHalf h (fun s =>
    let v := s.fd (Mod.temp h 0) 15 0
    let due : Bool := match (s.half h).boot.hotFrom with
      | some t => decide (t + 2500000000 ≤ (s.half h).time.ticks)
      | none => false
    if (s.half h).boot.hot ∨ due = false then s
    else (s.modBoot h (fun b => { b with hot := true })).report h 0x1701 1 h.num [0, v]))
/-- After TEMP_HIGH the reference point has stayed below 52 degrees C for 10 s. DEDUCED: note 138. -/
def execTempNormal (h : Half) (s : State) : Host.Outcome State Fault Refusal :=
  .next (s.onHalf h (fun s =>
    let due : Bool := match (s.half h).boot.coolFrom with
      | some t => decide (t + 2500000000 ≤ (s.half h).time.ticks)
      | none => false
    if (s.half h).boot.hot = false ∨ due = false then s
    else (s.modBoot h (fun b => { b with hot := false })).report h 0x1702 1 h.num [0, s.fd (Mod.temp h 0) 31 16]))

end Sys2Proof.Machine
end

