-- ==== Sys2Proof/Machine/Eng.lean ====
section
/-! DEFINITION. The commands of the loop engines: samples, instance faults, compensation, observer loss, trace and its
arbitration (chapters 4, 5 and R534, R535). -/
namespace Sys2Proof.Machine

/-- ROUTE entries of loop `l` that wait for its next sample boundary switch (R608). DEDUCED: note 66. -/
def State.routeTick (s : State) (h : Half) (l : Nat) : State :=
  let s := if (s.half h).routeDue.contains l then
      let offs := (List.range 16).map (fun i => 64 * l + 4 * i) ++ (List.range 8).map (fun i => 0x40000 + 32 * l + 4 * i)
      s.modHalf h (fun x => { x with
        route := offs.foldl (fun m o => Map.set (fun _ => 0) m o (Map.get (fun _ => 0) x.routeNew o)) x.route
        routeDue := x.routeDue.filter (· != l) })
    else s
  s.modDeck (fun d => { d with
    route := (d.routeDue.filter (fun e => decide (e.2 = l))).foldl (fun m e =>
      Map.set (fun _ => 0) m e.1 (Map.get (fun _ => 0) d.routeNew e.1)) d.route
    routeDue := d.routeDue.filter (fun e => decide (e.2 ≠ l)) })

/-- The sample clock of slot `q`: PERIOD_US x 1024 + PHASE_US (R518). -/
def State.sclk (s : State) (h : Half) (q : Nat) : Nat := s.fd (Slot.timing h q) 9 0 * 1024 + s.fd (Slot.timing h q) 25 16
/-- Whether slot `q`'s sample clock may tick: after a step only once half a period has elapsed since its last tick (R517). -/
def State.sampleDue (s : State) (h : Half) (q : Nat) : Bool :=
  let t := (s.half h).time
  let c := s.sclk h q
  !t.sclkStepped.contains c
    || decide (c / 1024 * 125 ≤ t.ticks - Map.get (fun _ => 0) t.sclkTick c)
/-- A sample boundary of slot `q` (R115, R517). -/
def execSampleTick (h : Half) (q : Nat) (s : State) : Host.Outcome State Fault Refusal :=
  .next (s.onHalf h (fun s =>
    if s.slotState h q = 0 ∨ s.slotState h q = 3 ∨ s.bt (Eng.engStatus h (q / 8)) 2 ∨ s.sampleDue h q = false then s
    else
      let c := s.sclk h q
      let now := s.now h
      let s := s.modHalf h (fun x => { x with time := { x.time with
        sclkLast := Map.set (fun _ => 0) x.time.sclkLast c now
        sclkTick := Map.set (fun _ => 0) x.time.sclkTick c x.time.ticks
        sclkStepped := x.time.sclkStepped.filter (· != c) } })
      ((((s.routeTick h (s.slotLoop h q)).sampleTick h q).motSample h (s.slotLoop h q)).ancSample h (s.slotLoop h q)).joinCheck h))
/-- Three consecutive skipped ticks fault the copy (R135). -/
def execOverrunFault (h : Half) (q : Nat) (s : State) : Host.Outcome State Fault Refusal :=
  .next (s.onHalf h (fun s =>
    if s.slotState h q = 1 ∧ s.bt (Eng.engStatus h (q / 8)) 2 = false ∧ 3 ≤ s.fd (stateBase h q + 0x60) 31 16 then (s.instFault h q 2 0 0 true).waitCommit h q else s))
/-- The oldest measurement word on its way reaches the input port of its loop's slot (R120, R180). DEDUCED: note 75. -/
def execMeasWordArrive (h : Half) (s : State) : Host.Outcome State Fault Refusal :=
  .next (s.onHalf h (fun s => match (s.half h).measTx with
    | [] => s
    | w :: rest =>
      let s := s.modHalf h (fun x => { x with measTx := rest })
      match s.slotOf h w.loop with
      | some q => s.measArrive h q w.k w.valid w.word
      | none => s))
/-- Tick + IN_WAIT × 10 ns: input-ready with what has arrived (R120). -/
def execInWaitExpire (h : Half) (q : Nat) (s : State) : Host.Outcome State Fault Refusal :=
  .next (s.onHalf h (fun s =>
    let r := s.run h q
    if (r.phase = 1 ∨ r.phase = 2) ∧ r.ready = false ∧ s.reqMask h q ≠ 0
        ∧ r.tick + s.fd (Slot.measReq h q) 31 16 * 10 ≤ s.now h then s.inputReady h q else s))
/-- The prepare phase ends (R133). -/
def execPreparePhaseEnd (h : Half) (q : Nat) (s : State) : Host.Outcome State Fault Refusal :=
  .next (s.onHalf h (fun s => s.prepareEnd h q))
/-- The critical phase ends (R116, R137). -/
def execCriticalPhaseEnd (h : Half) (q lat queue : Nat) (s : State) : Host.Outcome State Fault Refusal :=
  .next (s.onHalf h (fun s => s.criticalEnd h q lat queue))
/-- The finish phase ends (R116, R118). -/
def execFinishPhaseEnd (h : Half) (q : Nat) (s : State) : Host.Outcome State Fault Refusal :=
  .next (s.onHalf h (fun s => s.finishEnd h q))
/-- The miss run reaches MISS_LIMIT: MISS_ACTION applies from the next sample (R121). -/
def execMissLimitReached (h : Half) (q : Nat) (s : State) : Host.Outcome State Fault Refusal :=
  .next (s.onHalf h (fun s => if s.missHit h q then s.modRun h q (fun r => { r with missAct := true }) else s))
/-- SLOT_CMD.RESTART, for the slot's next sample boundary; ignored for an EMPTY slot (R130). -/
def execSlotRestart (h : Half) (q : Nat) (s : State) : Host.Outcome State Fault Refusal :=
  .next (s.onHalf h (fun s => if s.slotState h q = 0 ∨ s.bt (Eng.engStatus h (q / 8)) 2 then s else s.modRun h q (fun r => { r with restart := true })))
/-- SLOT_CMD.CLEAR_COUNTS, for the slot's next sample boundary (R112). -/
def execSlotClearCounts (h : Half) (q : Nat) (s : State) : Host.Outcome State Fault Refusal :=
  .next (s.onHalf h (fun s => if s.slotState h q = 0 ∨ s.bt (Eng.engStatus h (q / 8)) 2 then s else s.modRun h q (fun r => { r with clear := true })))
/-- SLOT_CMD.CLEAR_LAT, at once. -/
def execClearLat (h : Half) (q : Nat) (s : State) : Host.Outcome State Fault Refusal :=
  .next (s.onHalf h (fun s =>
    if s.slotState h q = 0 ∨ s.bt (Eng.engStatus h (q / 8)) 2 then s
    else ((s.wr (Eng.engLatMax h (q / 8)) 0).wr (Eng.engLatOverCnt h (q / 8)) 0).wr (Eng.queueMax h (q / 8)) 0))

/-- STOP takes force in an engine whose slots are all EMPTY, or is refused; clearing it restarts the engine. -/
def State.engStop (s : State) (h : Half) (e : Nat) (stop : Bool) : State :=
  if stop then
    (if (List.range 8).all (fun i => decide (s.slotState h (8 * e + i) = 0)) then s.sb (Eng.engStatus h e) 0 true
     else s.sb (Eng.engStatus h e) 1 true)
  else (s.sb (Eng.engStatus h e) 0 false).sb (Eng.engStatus h e) 1 false
/-- ENG_CTRL.STOP is written: the engine's register unit commits at once. -/
def execEngStop (h : Half) (e : Nat) (stop : Bool) (s : State) : Host.Outcome State Fault Refusal :=
  .next (s.onHalf h (fun s =>
    if s.bt (Eng.engStatus h e) 2 then s else
    ((s.sb (Eng.engCtrl h e) 16 stop).wrSh (Eng.engCtrl h e) (setBit (s.sh (Eng.engCtrl h e)) 16 stop)).engStop h e stop))

/-- RUN has reached INNOV_COUNT at the end of a sample: ESTIMATE_LOST is declared (R153). -/
def execLossDeclared (h : Half) (q : Nat) (s : State) : Host.Outcome State Fault Refusal :=
  .next (s.onHalf h (fun s =>
    let c := s.dw h q 0x60
    let run := s.fd (stateBase h q + 0x50) 15 8
    if s.slotState h q = 1 ∧ (s.run h q).phase = 0 ∧ bit c 0 ∧ s.lossOf h q = 0 ∧ run ≠ 0 ∧ bits c 15 8 ≤ run then
      match s.lossDeclare h q (s.speedOf h q ((s.run h q).xh.map (·.toNat))) (s.run h q).e.toNat with
      | .ok t => t
      | .error e => s.instFault h q 1 e.1 e.2 false
    else s))
/-- GOOD_RUN has reached 16 in CATCH (R157). -/
def execReacquired (h : Half) (q : Nat) (s : State) : Host.Outcome State Fault Refusal :=
  .next (s.onHalf h (fun s =>
    if s.slotState h q = 1 ∧ (s.run h q).phase = 0 ∧ s.lossOf h q = 2 ∧ 16 ≤ s.fd (stateBase h q + 0x54) 7 0 then
      s.lossReacquire h q (s.run h q).e.toNat else s))
/-- CATCH_CNT has reached CATCH_LIMIT (R157). -/
def execCatchExpired (h : Half) (q : Nat) (s : State) : Host.Outcome State Fault Refusal :=
  .next (s.onHalf h (fun s =>
    if s.slotState h q = 1 ∧ (s.run h q).phase = 0 ∧ s.lossOf h q = 2
        ∧ s.fd (slotBase h q + 0x64) 15 0 ≤ s.fd (stateBase h q + 0x50) 31 16 then
      s.lossExpire h q (s.run h q).e.toNat else s))
/-- α has reached 1.0 in a FADE state (R149). -/
def execFadeComplete (h : Half) (q : Nat) (s : State) : Host.Outcome State Fault Refusal :=
  .next (s.onHalf h (fun s => if s.slotState h q = 1 ∧ (s.run h q).phase = 0 ∧ s.fadeFull h q then s.fadeDone h q else s))

/-- 10 ms since the first record of the open packet (R165). -/
def execTracePacketAge (h : Half) (q : Nat) (s : State) : Host.Outcome State Fault Refusal :=
  .next (s.onHalf h (fun s =>
    match (s.run h q).packets.find? (fun p => p.closed = none) with
    | some p => if p.time + 10000000 ≤ s.now h then s.traceClose h q 6 else s
    | none => s))

/-! ### Fair arbitration (R534, R535) -/

/-- The packet of engine `e` that drains next: one under way first, then the lowest slot's; with its slot. -/
def State.drainOf (s : State) (h : Half) (e : Nat) : Option (Nat × TracePkt) :=
  if s.bt (Eng.engStatus h e) 2 then none else
  let all := (List.range 8).flatMap (fun i => ((s.run h (8 * e + i)).packets.filter (fun p =>
    p.closed.isSome && decide (p.moved < p.trayLen))).map (fun p => (8 * e + i, p)))
  match all.find? (fun x => decide (0 < x.2.moved)) with
  | some x => some x
  | none => all.head?
/-- Bytes of engine `e`'s next burst (R534). -/
def State.burstLen (s : State) (h : Half) (e : Nat) : Nat := match s.drainOf h e with
  | some (_, p) => 8 * (if p.trayLen - p.moved < 8 then p.trayLen - p.moved else 8)
  | none => 0
/-- Whether engine `e` may take its next burst: a packet's slots are reserved, or Tray 8 has room for them (R531, R535). -/
def State.canBurst (s : State) (h : Half) (e : Nat) : Bool := match s.drainOf h e with
  | none => false
  | some (_, p) => (s.engPacket h e).isSome || decide (p.trayLen - p.moved + 1 ≤ s.trayRoom h 8)

/-- One choice of a deficit round-robin arbiter over `n` children with weights `w`, next bursts `len` and the children
that can be served now: the child served and the arbiter after it (R535). DEDUCED: note 74. -/
def arbPick (n : Nat) (w len : Nat → Nat) (can : Nat → Bool) : Nat → ArbSt → Option (Nat × ArbSt)
  | 0, _ => none
  | k + 1, a =>
    let c := a.turn
    let d := Map.get (fun _ => 0) a.deficit c
    let pass (v : Nat) : ArbSt := ⟨(c + 1) % n, false, Map.set (fun _ => 0) a.deficit c v⟩
    if w c = 0 then arbPick n w len can k (pass 0)
    else if can c = false then arbPick n w len can k (pass d)
    else
      let d' := if a.begun then d else d + 64 * w c
      if len c ≤ d' then some (c, ⟨c, true, Map.set (fun _ => 0) a.deficit c (d' - len c)⟩)
      else arbPick n w len can k (pass d')
/-- The arbiter `i` of a half: 0 the half's, 1 + slab, 8 + cluster. -/
def State.arb (s : State) (h : Half) (i : Nat) : ArbSt := Map.get (fun _ => {}) (s.half h).tray.arbs i
/-- Set arbiter `i`. -/
def State.setArb (s : State) (h : Half) (i : Nat) (a : ArbSt) : State :=
  s.modTray h (fun x => { x with arbs := Map.set (fun _ => {}) x.arbs i a })
/-- Requesting engines among `n` from engine `e` on. -/
def State.requesting (s : State) (h : Half) (e n : Nat) : Nat :=
  ((List.range n).filter (fun i => (s.drainOf h (e + i)).isSome)).length
/-- What the arbiter of cluster `k` would choose: the engine within it. -/
def State.clusterPick (s : State) (h : Half) (k : Nat) : Option (Nat × ArbSt) :=
  arbPick 16 (fun i => s.requesting h (16 * k + i) 1) (fun i => s.burstLen h (16 * k + i)) (fun i => s.canBurst h (16 * k + i))
    34 (s.arb h (8 + k))
/-- Bytes of the next burst below cluster `k`. -/
def State.clusterLen (s : State) (h : Half) (k : Nat) : Nat := match s.clusterPick h k with
  | some (i, _) => s.burstLen h (16 * k + i)
  | none => 0
/-- What the arbiter of slab `b` would choose: the cluster within it. -/
def State.slabPick (s : State) (h : Half) (b : Nat) : Option (Nat × ArbSt) :=
  arbPick 8 (fun i => s.requesting h (128 * b + 16 * i) 16) (fun i => s.clusterLen h (8 * b + i))
    (fun i => (s.clusterPick h (8 * b + i)).isSome) 18 (s.arb h (1 + b))
/-- Bytes of the next burst below slab `b`. -/
def State.slabLen (s : State) (h : Half) (b : Nat) : Nat := match s.slabPick h b with
  | some (i, _) => s.clusterLen h (8 * b + i)
  | none => 0
/-- One burst of engine `e` through its cluster Tray into Tray 8 (R529, R530, R534). DEDUCED: note 74. -/
def State.burst (s : State) (h : Half) (e : Nat) : State :=
  match s.drainOf h e with
  | none => s
  | some (q, p) =>
    let n := s.burstLen h e / 8
    let ws := (List.range n).map (fun i =>
      let j := 2 * (p.moved + i)
      let lo := s.rn (traceAt h q p.buf j)
      let hi := if j + 1 < p.len then s.rn (traceAt h q p.buf (j + 1)) else 0
      BitVec.ofNat 64 (lo + hi * 2 ^ 32))
    let left := Map.get (fun _ => 0) (s.half h).tray.outstanding e
    let s := if (s.engPacket h e).isSome then s
      else
        let s := s.trayReserve h 8 (p.trayLen - p.moved) e (decide (0 < left)) (decide (p.len % 2 = 1))
        s.modTray h (fun x => { x with outstanding := Map.set (fun _ => 0) x.outstanding e 0 })
    let s := s.modRun h q (fun r => { r with packets := r.packets.map (fun x =>
      if x = p then { p with moved := p.moved + n } else x) })
    let t := 32 + e / 16
    let c := BitVec.ofNat 32 n
    let s := ((s.wr (Tray.trayRes h t) (s.rg (Tray.trayRes h t) + c)).wr (Tray.trayWp h t) (s.rg (Tray.trayWp h t) + c)).wr
      (Tray.trayRp h t) (s.rg (Tray.trayRp h t) + c)
    (s.trayFill h 8 e ws).tally h (0x0920 + e / 16)
/-- The arbiters grant one burst (R534, R535). DEDUCED: note 74. -/
def execEngineBurstGrant (h : Half) (s : State) : Host.Outcome State Fault Refusal :=
  .next (s.onHalf h (fun s =>
    match arbPick 4 (fun b => s.requesting h (128 * b) 128) (s.slabLen h) (fun b => (s.slabPick h b).isSome) 10 (s.arb h 0) with
    | none => if (s.requesting h 0 512) = 0 then s else s.sat (Tray.fullCnt h 8)
    | some (b, a0) => match s.slabPick h b with
      | none => s
      | some (i, a1) => match s.clusterPick h (8 * b + i) with
        | none => s
        | some (j, a2) =>
          (((s.setArb h 0 a0).setArb h (1 + b) a1).setArb h (8 + (8 * b + i)) a2).burst h (16 * (8 * b + i) + j)))
/-- A half-buffer whose packet has drained is free again (R164). -/
def execTraceHalfBufferDrained (h : Half) (q : Nat) (s : State) : Host.Outcome State Fault Refusal :=
  .next (s.onHalf h (fun s => s.modRun h q (fun r => { r with
    packets := r.packets.filter (fun p => !(p.closed.isSome && decide (p.trayLen ≤ p.moved))) })))

end Sys2Proof.Machine
end

