-- ==== Sys2Proof/Machine/Apc.lean ====
section
/-! DEFINITION. The commands of the cyclic program (chapter 11, R370). -/
namespace Sys2Proof.Machine

/-! ### Release and input phase (R325, R326, R330, R332, R336, R339) -/

/-- A task is released at instant `r`. -/
def State.taskRelease (s : State) (h : Half) (t r : Nat) : State :=
  let s := s.modTask h t (fun x => { x with
    phase := 1
    release := r
    lastInst := some r
    refused := []
    absent := []
    lines := [] })
  (s.wr64 (Apc.releaseLo h t) r).tally h (0x0030 + t)
/-- A release that finds the previous cycle not ended is skipped (R337). -/
def State.releaseSkip (s : State) (h : Half) (t r : Nat) : State :=
  let s := s.modTask h t (fun x => { x with lastInst := some r })
  let e := s.fd (Apc.execLast h t) 23 0
  let s := ((s.sb (Apc.taskStatus h t) 3 true).satF (Apc.overrunCnt h t) 15 0 1).raise h 16
  ((s.errEntry h 5 t 0xFFFF e).report h 0x0B01 0x10 t [e]).tally h (0x0040 + t)
/-- Whether a switch of task `t` waits for its next release: a carried or new region, or a software commit (R348, R350). -/
def State.switchDue (s : State) (h : Half) (t : Nat) : Bool :=
  decide ((s.task h t).prep = 3) || s.marked.contains ⟨16, some h, t⟩
/-- The switch that waits takes place: a commit of the task's own registers before a region, which then waits for the next
release (R94). -/
def State.switchNow (s : State) (h : Half) (t : Nat) : State :=
  if s.marked.contains ⟨16, some h, t⟩ then s.softSwitch h t
  else if (s.task h t).prep = 3 then s.taskSwitch h t else s
/-- TASK_PERIOD and TASK_PHASE that time the next release: a new task's come with its region (R350).
DEDUCED: note 100. -/
def State.releaseTiming (s : State) (h : Half) (t : Nat) : Nat × Nat :=
  match if s.taskState h t = 0 then s.readyCopy h (taskRegion t) else none with
  | some c => taskTiming (bits (c.word 0 (taskRegion t) 4) 23 0) (bits (c.word 0 (taskRegion t) 8) 23 0)
  | none => taskTiming (s.fd (Apc.taskPeriod h t) 23 0) (s.fd (Apc.taskPhase h t) 23 0)
/-- Whether a release finds the carry of the switch that it would be still running (R348 step 2). -/
def State.carryRuns (s : State) (h : Half) (t : Nat) : Bool :=
  decide ((s.task h t).prep = 3) && !s.marked.contains ⟨16, some h, t⟩ && decide (s.now h < (s.task h t).carryEnd)
/-- A release instant of a CYCLIC task (R325, R337, R348, R351): its latest one not yet used. One that finds the carry
running waits for its end, which is the switch. In a half that is not LEAD the task only switches. DEDUCED: note 100. -/
def execTaskRelease (h : Half) (t : Nat) (s : State) : Host.Outcome State Fault Refusal :=
  .next (s.onHalf h (fun s =>
    let x := s.task h t
    let r := releaseAt (s.releaseTiming h t) (s.now h)
    let used : Bool := match x.lastInst with
      | some l => decide (r ≤ l)
      | none => false
    let st := s.taskState h t
    if used ∨ r < x.notBefore ∨ st = 1 ∨ st = 5 ∨ st = 6 then s
    else if st = 0 ∧ s.switchDue h t = false then s
    else if s.taskKind h t = 2 ∧ st ≠ 0 then s
    else if x.phase ≠ 0 then s.releaseSkip h t r
    else if s.carryRuns h t then
      (if s.hstate h ≠ 4 then s else (s.taskRelease h t r).modTask h t (fun y => { y with held := true }))
    else
      let s := s.switchNow h t
      if s.hstate h ≠ 4 then s.modTask h t (fun y => { y with lastInst := some r })
      else if s.taskState h t ≠ 2 ∨ s.taskKind h t = 2 then s
      else s.taskRelease h t r))

/-- The word placed for one source word (R339), and what the place holds from now on. DEDUCED: note 101. -/
def State.inputWord (s : State) (h : Half) (t place o sub : Nat) (value : Word) : Word × Bool :=
  let live := BitVec.ofNat 32 (s.memNat (h.base + 0x80000000 + o) 4)
  let down := match sourceOf o with
    | some x => !x.2.2 && s.sourceDown h x.1 x.2.1
    | none => false
  if down = false ∨ sub = 0 then (live, false)
  else match sub with
    | 1 => ((Map.get (fun _ => none) (s.task h t).last place).getD 0, true)
    | 2 => (value, true)
    | _ => (0, true)
/-- The IN_LIST goes into the input image (R330, R336, R339). -/
def State.copyInputs (s : State) (h : Half) (t : Nat) : State :=
  let ws := s.inWords h t
  let srcs := (ws.filterMap (fun w => sourceOf w.1)).map (fun x => (x.1, x.2.1))
  let s := srcs.foldl (fun (u : State) (x : Nat × Nat) => u.substEdge h t x.1 x.2) s
  let base := s.hdr h t 0x20
  let step (a : State × Nat × Nat × Bool) (w : Nat × Bool × Nat × Word) : State × Nat × Nat × Bool :=
    let (u, place, off, sub) := a
    let v := u.inputWord h t place w.1 w.2.2.1 w.2.2.2
    let prev := (Map.get (fun _ => none) (u.task h t).last place).getD v.1
    let u := u.dataPut h t (base + off) 4 v.1.toNat
    let u := if w.2.1 then u.dataPut h t (base + off + 4) 4 prev.toNat else u
    let u := u.modTask h t (fun x => { x with cur := Map.set (fun _ => none) x.cur place (some v.1) })
    (u, place + 1, off + (if w.2.1 then 8 else 4), sub || v.2)
  let r := ws.foldl step (s.modTask h t (fun x => { x with cur := [] }), 0, 0, false)
  r.1.sb (Apc.taskStatus h t) 4 r.2.2.2
/-- The words that LOOP_RD names, in order: loop, AREA, offset (R332). -/
def State.loopReads (s : State) (h : Half) (t : Nat) : List (Nat × Nat × Nat) :=
  (s.listOf h t 0x103000 8 5).flatMap (fun e =>
    let a := (bit e.1 12).toNat
    let o := bits e.1 21 16
    let lim := if a = 0 then 64 else 32
    ((List.range e.2.1).filter (fun k => decide (o + k < lim))).map (fun k => (bits e.1 11 0, a, o + k)))
/-- LOOP_RD goes into the input image (R332). -/
def State.copyLoops (s : State) (h : Half) (t : Nat) : State :=
  let l := s.loopReads h t
  let base := s.hdr h t 0x24
  (l.zip (List.range l.length)).foldl (fun (u : State) (e : (Nat × Nat × Nat) × Nat) =>
    let v := u.loopWord h t e.1.1 e.1.2.1 e.1.2.2
    v.2.dataPut h t (base + 4 * e.2) 4 v.1.toNat) s
/-- The switch that a release has waited for: the carry has ended (R348 steps 2 and 3). -/
def State.heldSwitch (s : State) (h : Half) (t : Nat) : State :=
  if (s.task h t).held ∧ (s.task h t).carryEnd ≤ s.now h then s.taskSwitch h t else s
/-- The input phase of a released task that gets its core (R326, R327, R330), after the switch that its release waited for. -/
def execInputPhase (h : Half) (t : Nat) (s : State) : Host.Outcome State Fault Refusal :=
  .next (s.onHalf h (fun s =>
    let s := s.heldSwitch h t
    let x := s.task h t
    let now := s.now h
    let waits : Bool := match x.waitSet with
      | some d => decide (now < d)
      | none => x.held
    if x.phase ≠ 1 ∨ waits ∨ s.canRun h t = false then s
    else
      let late := clampNat 0 65535 ((now - x.release) / 1000)
      let s := s.fw (Apc.startLate h t) 15 0 late
      let s := if s.fd (Apc.startLate h t) 31 16 < late then s.fw (Apc.startLate h t) 31 16 late else s
      let s := ((s.corePush h t).setTaskState h t 3).modTask h t (fun y => { y with waitSet := none })
      let s := (s.copyInputs h t).copyLoops h t
      let c := s.entryCtx h t 0 x.release
      s.modTask h t (fun y => { y with
        phase := 2
        ctx := c })))

/-! ### Output phase and retained writeback (R331, R333, R343, R400) -/

/-- Remote-output words in runs of contiguous words of one station, at most 256 each (R444): station, byte address, words. -/
def remoteRuns : List (Nat × Word) → List (Nat × Nat × List Word) → List (Nat × Nat × List Word)
  | [], acc => acc.reverse
  | (o, w) :: l, acc =>
    let st := (o - 0x210000) / 0x4000
    let a := (o - 0x210000) % 0x4000
    match acc with
    | (st', a', ws) :: rest =>
      if st = st' ∧ a = a' + 4 * ws.length ∧ ws.length < 256 then remoteRuns l ((st', a', ws ++ [w]) :: rest)
      else remoteRuns l ((st, a, [w]) :: acc)
    | [] => remoteRuns l [(st, a, [w])]
/-- One output word goes to its destination (R331): `o` a live-image byte offset. Remote words are gathered by the caller. -/
def State.outWord (s : State) (h : Half) (t o : Nat) (w : Word) : State :=
  if o < 0x200000 ∨ 0x310000 ≤ o then s
  else
    let s := s.setMemNat (h.base + 0x80000000 + o) 4 w.toNat
    if o < 0x200400 then s.modHalf h (fun x => { x with
      ancTx := x.ancTx ++ [⟨4096 + t, 0, (o - 0x200000) / 4, 0, w, false⟩] })
    else if o < 0x200440 ∧ o % 8 = 0 then
      let n := (o - 0x200400) / 8
      s.modHalf h (fun x => { x with deckTx := x.deckTx ++
        [⟨16 + t, Dout.outLo n, BitVec.ofNat 32 (0xFFFF0000 + w.toNat % 65536)⟩,
         ⟨16 + t, Dout.outHi n, BitVec.ofNat 32 (0xFFFF0000 + w.toNat / 65536)⟩] })
    else s
/-- The OUT_LIST's words in order: DEST, word offset, word (R331). DEDUCED: note 99. -/
def State.outWords (s : State) (h : Half) (t : Nat) : List (Nat × Nat × Word) :=
  let es := (s.listOf h t 0x102000 8 15).flatMap (fun e =>
    (List.range e.2.1).map (fun k => (bits e.1 29 28, bits e.1 19 0 + k)))
  let base := s.hdr h t 0x28
  (es.zip (List.range es.length)).map (fun e => (e.1.1, e.1.2, BitVec.ofNat 32 (s.dataNat h t (base + 4 * e.2) 4)))
/-- The output image is sent (R331, R444); a remote word that is refused is recorded for its station. DEDUCED: note 99. -/
def State.sendOutputs (s : State) (h : Half) (t : Nat) : State :=
  let l := s.outWords h t
  let s := l.foldl (fun (u : State) (e : Nat × Nat × Word) =>
    if e.1 = 0 then u.outWord h t (4 * e.2.1) e.2.2
    else if e.1 = 1 then u.queueWord h ⟨true, 0, e.2.1, e.2.2, t⟩ else u) s
  let remote := (l.filter (fun e => decide (e.1 = 0) && decide (0x210000 ≤ 4 * e.2.1) && decide (4 * e.2.1 < 0x310000))).map
    (fun e => (4 * e.2.1, e.2.2))
  (remoteRuns remote []).foldl (fun (u : State) (e : Nat × Nat × List Word) =>
    let r := u.trkIssue h false (u.taskCore h t) e.1 7 e.2.1 e.2.2.length e.2.2
    if r.1 = 0 then r.2.2 else r.2.2.outputRefused h t (4096 + e.1)) s
/-- The words of LOOP_WR enter the queue, then those that LQW holds (R333, R369). -/
def State.sendLoops (s : State) (h : Half) (t : Nat) : State :=
  let es := (s.listOf h t 0x104000 8 5).flatMap (fun e =>
    (List.range e.2.1).map (fun k => (bits e.1 11 0, bits e.1 21 16 + k)))
  let base := s.hdr h t 0x2C
  let s := (es.zip (List.range es.length)).foldl (fun (u : State) (e : (Nat × Nat) × Nat) =>
    if 3 ≤ e.1.2 ∧ e.1.2 ≤ 35 then
      u.queueLoop h t e.1.1 e.1.2 (BitVec.ofNat 32 (u.dataNat h t (base + 4 * e.2) 4))
    else u) s
  s.queueHeld h t (s.task h t).ctx.lqw
/-- A task of half `h` loses its alignment (R400): its bit in ALIGN_STATUS.TASKS clears and a STANDBY half joins anew. -/
def State.unalignTask (s : State) (h : Half) (t : Nat) : State :=
  let s := (s.sb (HalfR.alignStatus h) (16 + t) false).modCtl h (fun x => { x with
    tasksCopied := x.tasksCopied.filter (· != t) })
  if s.hstate h = 3 then (s.setHState h 2).modCtl h (fun x => { x with joinT := s.now h }) else s
/-- The cycle set of an ended cycle goes to the partner (R400); one not yet applied is discarded. DEDUCED: note 128. -/
def State.sendSet (s : State) (h : Half) (t : Nat) : State :=
  if s.mirrorUp = false ∨ s.runs h.other = false then s
  else
    let late := (s.half h).ctl.setTx.any (fun c => decide (c.task = t))
    let s := if late then s.unalignTask h.other t else s
    let x := s.task h t
    let c : CycleSet := ⟨t, s.rg (Apc.cycleCnt h t), x.release,
      x.lines.map (fun l => (l, (List.range 64).map (fun i => Map.get (fun _ => 0) x.data (64 * l + i)))),
      (s.taskTimers h t).map (fun k => (k, (List.range 6).map (fun w => s.rg (Apc.timer h k w)) ++
        [if s.tmRan h k then 1 else 0])), x.last⟩
    (s.modCtl h (fun y => { y with setTx := y.setTx.filter (fun z => decide (z.task ≠ t)) ++ [c] })).tally h 0x0A04
/-- The retained writeback of an ended cycle begins, or is skipped while the last one runs (R343). -/
def State.writebackBegin (s : State) (h : Half) (t : Nat) : State :=
  if s.fd (Apc.retLen h t) 20 0 = 0 then s
  else if (s.task h t).writing.isSome then
    ((s.sb (Apc.taskStatus h t) 5 true).raise h 21).report h 0x0B06 0x10 t [s.rn (Apc.cycleCnt h t)]
  else
    let r := s.retSet h t
    s.modTask h t (fun x => { x with writing := some r })
/-- The output phase of a cycle whose execution has ended (R327, R331, R333, R337, R343, R372, R400).
DEDUCED: note 100. -/
def execTaskCycleEnd (h : Half) (t : Nat) (s : State) : Host.Outcome State Fault Refusal :=
  .next (s.onHalf h (fun s =>
    let x := s.task h t
    if x.phase ≠ 3 then s
    else
      let s := (s.sendOutputs h t).sendLoops h t
      let now := s.now h
      let us := clampNat 0 0xFFFFFF ((now - x.release) / 1000)
      let s := s.fw (Apc.execLast h t) 23 0 us
      let s := if s.fd (Apc.execMax h t) 23 0 < us then s.fw (Apc.execMax h t) 23 0 us else s
      let s := (s.inc (Apc.cycleCnt h t)).fw (Apc.codeFault h t) 15 8 0
      let s := if s.taskIc h t then s.sb (Apc.icStatus h t) 0 x.ctx.div0 else s
      let next := x.release + (s.releaseTiming h t).1
      let s := if now < next then s.sb (Apc.taskStatus h t) 3 false else s
      let s := (s.corePop h t).modTask h t (fun y => { y with
        phase := 0
        last := y.cur
        errEnd := now })
      let s := (s.sendSet h t).writebackBegin h t
      let s := (s.modTask h t (fun y => { y with lines := [], ctx := {} })).setTaskState h t (s.restTask h)
      let s := if x.ctx.halted then (s.taskStop h t 0).report h 0x0B11 0x10 t [x.ctx.off] else s
      s.startNext h))
/-- A retained writeback completes: its buffer is the newest complete set (R343). -/
def execRetainedWritebackDone (h : Half) (t : Nat) (s : State) : Host.Outcome State Fault Refusal :=
  .next (s.onHalf h (fun s =>
    match (s.task h t).writing with
    | none => s
    | some r => (s.modTask h t (fun x => { x with
        writing := none
        ret0 := if x.newest1 then some r else x.ret0
        ret1 := if x.newest1 then x.ret1 else some r
        newest1 := !x.newest1 })).sb (Apc.taskStatus h t) 5 false))

/-- The instant from which a task's run counts as hung (R338): a cycle HUNG_PERIODS periods after its release; a start routine,
and a run of the error task, START_LIMIT_MS after its begin. DEDUCED: note 180. -/
def State.hungAt (s : State) (h : Half) (t : Nat) : Nat :=
  let x := s.task h t
  let lim := clampNat 1 10000 (s.fd (Apc.taskLimit h t) 31 16) * 1000000
  if x.phase = 6 then x.startT + lim
  else if s.taskKind h t = 2 then x.release + lim
  else x.release + clampNat 2 255 (s.fd (Apc.taskLimit h t) 7 0) * (s.releaseTiming h t).1
/-- The hung limit of a cycle, or of a start routine (R338). -/
def execTaskHung (h : Half) (t : Nat) (s : State) : Host.Outcome State Fault Refusal :=
  .next (s.onHalf h (fun s =>
    let p := (s.task h t).phase
    if (p = 1 ∨ p = 2 ∨ p = 6) ∧ s.hungAt h t ≤ s.now h then
      let k := if p = 6 then 1 else 0
      let now := s.now h
      let s := (s.taskAbandon h t).modTask h t (fun x => { x with
        start := 0
        errEnd := now })
      let s := (((s.bgStop h t).wholeLeave h t).setTaskState h t 5).satF (Apc.overrunCnt h t) 31 16 1
      (((s.errEntry h 6 t 0xFFFF k).report h 0x0B02 0x10 t [k]).apcShow h).startNext h
    else s))

/-- The queued words of a commit group that is not pending go to their shadows, and the group is strobed (R333). -/
def execLoopQueueWrite (h : Half) (g : Nat) (s : State) : Host.Outcome State Fault Refusal :=
  .next (s.onHalf h (fun s =>
    let mine (w : LoopWord) : Bool :=
      if w.mot then decide (g = 12)
      else match s.copySlotOf h w.loop with
        | some q => decide (g = 18 + q / 1024)
        | none => false
    let ws := (s.half h).loopq.filter mine
    if s.pend h g ∨ ws = [] then s
    else
      let s := (s.modHalf h (fun x => { x with loopq := x.loopq.filter (fun w => !mine w) })).queueShow h
      let s := ws.foldl (fun (u : State) (w : LoopWord) =>
        if w.mot then
          let a := 0x1200000 + 4 * w.off
          match descOf a with
          | some d =>
            if (w.off * 4) % 0x4000 < 0x1000 then u
            else if u.owns h (resGroup a) then u.writeListed h a d w.word
            else (u.deckRefuse h).outputRefused h w.task (resGroup a)
          | none => u
        else match u.copySlotOf h w.loop with
          | some q =>
            if u.standby h q then u.sat (HalfR.stbyWriteCnt h)
            else
              let a := slotBase h q + 4 * w.off
              (match descOf (lowAddr a) with
              | some d => u.writeListed h a d w.word
              | none => u)
          | none => u) s
      s.strobeGroup h g))

/-! ### Timers (R334) -/

/-- A write of a timer's IN: within a cycle of its owner at the release instant, else at the instant of the access. -/
def execTimerInWrite (h : Half) (k : Nat) (val cyc : Bool) (s : State) : Host.Outcome State Fault Refusal :=
  .next (s.onHalf h (fun s =>
    let x := s.task h (s.fd (Apc.timer h k 0) 11 8)
    let t := if cyc ∧ s.bt (Apc.timer h k 0) 12 ∧ x.phase = 2 then x.ctx.rel else s.now h
    s.tmIn h k t val))

/-! ### The error task (R341) -/

/-- The error task is released: an entry waits, it is not running, and 100 us have passed since its last run. In a half that
is not LEAD it only switches, with its partner's (R348). -/
def execErrorTaskRelease (h : Half) (s : State) : Host.Outcome State Fault Refusal :=
  .next (s.onHalf h (fun s =>
    match (List.range 16).find? (fun t => decide (s.taskState h t ≠ 0) && decide (s.taskKind h t = 2)) with
    | none => s
    | some t =>
      let x := s.task h t
      let now := s.now h
      if s.hstate h ≠ 4 ∧ x.phase = 0 ∧ s.carryRuns h t = false then s.switchNow h t
      else if s.hstate h ≠ 4 ∨ s.fd (Apc.errqWp h) 7 0 = s.fd (Apc.errqRp h) 7 0 ∨ s.taskState h t ≠ 2 ∨ x.phase ≠ 0
          ∨ (x.errEnd ≠ 0 ∧ now < x.errEnd + 100000) ∨ now < x.notBefore ∨ s.carryRuns h t then s
      else
        let s := s.switchNow h t
        if s.taskState h t = 2 ∧ s.taskKind h t = 2 then s.taskRelease h t now else s))

/-! ### Restart and stop commands (R342, R345, R352) -/

/-- APC_CMD.RESTART_WARM. A half whose tasks are STANDBY runs no restart (R342). -/
def execRestartWarm (h : Half) (s : State) : Host.Outcome State Fault Refusal :=
  .next (s.onHalf h (fun s => if s.hstate h = 4 then s.restartAll h 2 1 else s))
/-- APC_CMD.RESTART_COLD. -/
def execRestartCold (h : Half) (s : State) : Host.Outcome State Fault Refusal :=
  .next (s.onHalf h (fun s => if s.hstate h = 4 then s.restartAll h 1 1 else s))
/-- APC_CMD.STOP_ALL. -/
def execStopAll (h : Half) (s : State) : Host.Outcome State Fault Refusal :=
  .next (s.onHalf h (fun s =>
    if s.hstate h ≠ 4 then s
    else (List.range 16).foldl (fun (u : State) (t : Nat) =>
      if u.taskState h t = 0 ∨ u.taskState h t = 1 then u else u.taskStop h t 1) s))
/-- TASK_CMD.STOP. -/
def execTaskStop (h : Half) (t : Nat) (s : State) : Host.Outcome State Fault Refusal :=
  .next (s.onHalf h (fun s =>
    if s.hstate h ≠ 4 ∨ s.taskState h t = 0 ∨ s.taskState h t = 1 then s else s.taskStop h t 0))
/-- A start command of one task: accepted in STOPPED and HUNG (R352). -/
def State.taskStart (s : State) (h : Half) (t kind : Nat) : State :=
  if s.hstate h = 4 ∧ (s.taskState h t = 1 ∨ s.taskState h t = 5) then (s.startBegin h t kind false).apcShow h else s
/-- TASK_CMD.START_WARM. -/
def execStartWarm (h : Half) (t : Nat) (s : State) : Host.Outcome State Fault Refusal :=
  .next (s.onHalf h (fun s => s.taskStart h t 2))
/-- TASK_CMD.START_COLD. -/
def execStartCold (h : Half) (t : Nat) (s : State) : Host.Outcome State Fault Refusal :=
  .next (s.onHalf h (fun s => s.taskStart h t 1))
/-- TASK_CMD.CLEAR_COUNTS (R352, R373). -/
def execTaskClearCounts (h : Half) (t : Nat) (s : State) : Host.Outcome State Fault Refusal :=
  .next (s.onHalf h (fun s =>
    let s := ((s.wr (Apc.overrunCnt h t) 0).wr (Apc.execMax h t) 0).wr (Apc.startLate h t) 0
    ((s.fw (Apc.codeFault h t) 31 16 0).fw (Apc.icStatus h t) 31 20 0).fw (Apc.icStatus h t) 16 8 0))
/-- Steps 2 and 3 of a restart have ended for task `t`; its start routine follows (R345). -/
def execRestartBuildDone (h : Half) (t : Nat) (s : State) : Host.Outcome State Fault Refusal :=
  .next (s.onHalf h (fun s => if (s.task h t).phase = 4 then s.startBuild h t else s))

/-! ### Online change (R348-R351) -/

/-- Whether a prepared region commits without waiting for a release: its task is HUNG or STOPPED, or no cycle of the half
can run (R351). -/
def State.switchAtOnce (s : State) (h : Half) (t : Nat) : Bool :=
  let st := s.taskState h t
  decide (st = 1) || decide (st = 5) || (decide (s.hstate h ≠ 4) && decide (s.hstate h ≠ 3))
/-- The new code and data area of a marked TASK region stand beside the old (R348 step 1). A new task, and one that is
removed, has nothing to carry. -/
def execTaskPrepareDone (h : Half) (t : Nat) (s : State) : Host.Outcome State Fault Refusal :=
  .next (s.onHalf h (fun s =>
    match s.readyCopy h (taskRegion t) with
    | none => s
    | some c =>
      if s.regionMarked h (taskRegion t) = false ∨ s.pairOk h (taskRegion t) = false ∨ (s.task h t).prep ≠ 0 then s
      else
        let len := bits (c.word 0 (taskRegion t) 0x14) 28 0
        let carry := decide (s.taskState h t ≠ 0) && !c.remove
        let s := s.modTask h t (fun x => { x with
          newData := if c.remove then [] else c.initData len
          prep := if carry then 2 else 3
          carryT := 0 })
        if carry = false ∧ s.switchAtOnce h t then s.taskSwitch h t else s))

/-- Width in bytes of a carry-map type, and whether it is 1 signed, 2 unsigned, 3 REAL, 4 LREAL, 5 bit string, 6 other
(R349). -/
def carryType (ty : Nat) : Nat × Nat :=
  match ty with
  | 0x01 => (1, 6) | 0x02 => (1, 1) | 0x03 => (2, 1) | 0x04 => (4, 1) | 0x05 => (8, 1)
  | 0x06 => (1, 2) | 0x07 => (2, 2) | 0x08 => (4, 2) | 0x09 => (8, 2)
  | 0x0A => (4, 3) | 0x0B => (8, 4)
  | 0x0C => (1, 5) | 0x0D => (2, 5) | 0x0E => (4, 5) | 0x0F => (8, 5)
  | 0x10 => (8, 6)
  | 0x20 => (1, 6)
  | _ => (0, 0)
/-- The bounds of an integer type. -/
def carryBounds (x : Nat × Nat) : Int × Int :=
  let b := 8 * x.1
  if x.2 = 1 then (-((2 ^ (b - 1) : Nat) : Int), ((2 ^ (b - 1) : Nat) : Int) - 1) else (0, ((2 ^ b : Nat) : Int) - 1)
/-- One element's conversion (R349): the new pattern and 0 no report, 1 CARRY_CLAMPED; none keeps the initial value. -/
def carryElem (old new : Nat) (v : Nat) : Option (Nat × Nat) :=
  let a := carryType old
  let b := carryType new
  let int (i : Int) : Option (Nat × Nat) :=
    let lim := carryBounds b
    let c := clampInt lim.1 lim.2 i
    some (patOf (8 * b.1) c, if c = i then 0 else 1)
  if old = new then some (v, 0)
  else match a.2, b.2 with
    | 1, 1 => int (signedOf (8 * a.1) v)
    | 1, 2 => int (signedOf (8 * a.1) v)
    | 2, 1 => int v
    | 2, 2 => int v
    | 1, 3 => some (f32.ofInt (signedOf (8 * a.1) v), 0)
    | 1, 4 => some (f64.ofInt (signedOf (8 * a.1) v), 0)
    | 2, 3 => some (f32.ofInt v, 0)
    | 2, 4 => some (f64.ofInt v, 0)
    | 3, 4 => some (f32.cvt f64 v, 0)
    | 4, 3 =>
      let r := f64.cvt f32 v
      if f64.isNan v then some (r, 0)
      else if f64.finite v = false then some (r, 0)
      else if f32.finite r = false then some (f32.withSign (decide (f64.sgn ≤ v)) 0x7F7FFFFF, 1)
      else
        let q := flush32 r
        some (q, if f32.cvt f64 q = v then 0 else 1)
    | 5, 5 => some (v % 2 ^ (8 * b.1), if v % 2 ^ (8 * b.1) = v then 0 else 1)
    | x, 1 => if x = 3 ∨ x = 4 then carryReal (if x = 3 then f32 else f64) b v else none
    | x, 2 => if x = 3 ∨ x = 4 then carryReal (if x = 3 then f32 else f64) b v else none
    | _, _ => none
where
  /-- A REAL or LREAL to an integer: nearest, out of range the nearer bound, NaN the initial value. -/
  carryReal (f : Fmt) (b : Nat × Nat) (v : Nat) : Option (Nat × Nat) :=
    let lim := carryBounds b
    if f.isNan v then none
    else
      let c := f.toInt .rne lim.1 lim.2 0 v
      let wide := f.toInt .rne (lim.1 - 1) (lim.2 + 1) 0 v
      some (patOf (8 * b.1) c, if c = wide then 0 else 1)
/-- One entry of the carry map applied (R349). -/
def State.carryEntry (s : State) (h : Half) (t : Nat) (w0 w1 w2 w3 : Word) : State :=
  let oldT := bits w2 15 8
  let newT := bits w2 7 0
  let n := if bits w3 15 0 < bits w3 31 16 then bits w3 15 0 else bits w3 31 16
  let a := (carryType oldT).1
  let b := (carryType newT).1
  if w1 = 0xFFFFFFFF then s
  else (List.range n).foldl (fun (u : State) (k : Nat) =>
    let off := w0.toNat + b * k
    let v := u.dataNat h t (w1.toNat + a * k) a
    match carryElem oldT newT v with
    | none => (u.satF (Apc.carryCnt h t) 31 16 1).report h 0x0B09 0x10 t [off, oldT, newT]
    | some r =>
      let u := u.modTask h t (fun x => { x with newData := putBytes x.newData off (leBytes b r.1) })
      if r.2 = 0 then u
      else (u.satF (Apc.carryCnt h t) 15 0 1).report h 0x0B08 0x10 t [off, v, r.1]) s
/-- The carry of a prepared task while no cycle of it runs (R348 step 2, R349); `us` is how long it takes. -/
def execTaskCarry (h : Half) (t us : Nat) (s : State) : Host.Outcome State Fault Refusal :=
  .next (s.onHalf h (fun s =>
    let x := s.task h t
    match s.readyCopy h (taskRegion t) with
    | none => s
    | some c =>
      if x.prep ≠ 2 ∨ (x.phase ≠ 0 ∧ s.taskState h t ≠ 5) then s
      else
        let now := s.now h
        let w (i k : Nat) : Word := c.word 0 (taskRegion t) (0x200000 + 16 * i + 4 * k)
        let es := (c.words.filter (fun e => decide (0x200000 ≤ e.1) && decide (e.1 < 0x300000))).map (fun e => (e.1 - 0x200000) / 16)
        let s := (s.wr (Apc.carryCnt h t) 0)
        let s := es.eraseDups.foldl (fun (u : State) (i : Nat) => u.carryEntry h t (w i 0) (w i 1) (w i 2) (w i 3)) s
        let s := s.modTask h t (fun y => { y with prep := 3, carryT := us, carryEnd := now + 1000 * us })
        if s.switchAtOnce h t then s.taskSwitch h t else s))

/-! ### Background code (R370) -/

/-- The background routine of a core: the entry of the lowest-numbered task on it that is ACTIVE, neither HUNG nor STOPPED,
with a BACKGROUND_ENTRY. -/
def State.bgTask (s : State) (h : Half) (c : Nat) : Option Nat :=
  (List.range 16).find? (fun t =>
    let st := s.taskState h t
    decide (s.taskCore h t = c) && (decide (st = 2) || decide (st = 3)) && decide (s.hdr h t 0x18 ≠ 0))
/-- The background routine starts, 1 ms after its last run ended (R370). -/
def execBackgroundRestart (h : Half) (c : Nat) (s : State) : Host.Outcome State Fault Refusal :=
  .next (s.onHalf h (fun s =>
    let x := s.core h c
    let early : Bool := match x.bgEnd with
      | some e => decide (s.now h < e + 1000000)
      | none => false
    match s.bgTask h c with
    | none => s
    | some t =>
      if x.bg.isSome ∨ x.stack ≠ [] ∨ early ∨ x.bgOut = some t ∨ s.hstate h ≠ 4 ∨ (s.half h).coreStopped.contains c then s
      else
        let b := s.entryCtx h t 4 (s.now h)
        s.modCore h c (fun y => { y with bg := some b })))

end Sys2Proof.Machine
end

