-- ==== Sys2Proof/Machine/IcCode.lean ====
section
/-! DEFINITION. A task's code as its region holds it: the header of R358 with the checks of R359, the K7 maps (R376), the
lengths of the intermediate instructions (R378) and the load checks of R377. -/
namespace Sys2Proof.Machine

/-- Length in bytes of an intermediate instruction, opcode included; `none`: not in R378. -/
def icLen (op : Nat) : Option Nat :=
  if op = 0 then some 1
  else if op = 1 then some 2
  else if op = 2 then some 3
  else if op = 3 then some 5
  else if 0x04 ≤ op ∧ op ≤ 0x07 then some 1
  else if 0x10 ≤ op ∧ op ≤ 0x13 then some 4
  else if 0x18 ≤ op ∧ op ≤ 0x1B then some 4
  else if 0x20 ≤ op ∧ op ≤ 0x29 then some 1
  else if 0x30 ≤ op ∧ op ≤ 0x37 then some 1
  else if 0x40 ≤ op ∧ op ≤ 0x45 then some 1
  else if 0x48 ≤ op ∧ op ≤ 0x4D then some 1
  else if 0x50 ≤ op ∧ op ≤ 0x53 then some 1
  else if op = 0x54 ∨ op = 0x55 then some 2
  else if op = 0x56 then some 1
  else if 0x60 ≤ op ∧ op ≤ 0x62 then some 3
  else if op = 0x63 then some 4
  else if op = 0x64 ∨ op = 0x65 then some 1
  else if 0x70 ≤ op ∧ op ≤ 0x72 then some 1
  else if op = 0x80 ∨ op = 0x81 then some 3
  else if op = 0x90 ∨ op = 0x91 then some 2
  else if 0xA0 ≤ op ∧ op ≤ 0xA2 then some 2
  else if 0xF0 ≤ op ∧ op ≤ 0xF2 then some 1
  else if op = 0xFF then some 1
  else none

/-- A word of a held region's lists, maps, code or data, which read 0 where nothing was written. -/
def RegCopy.raw (c : RegCopy) (off : Nat) : Word := Map.get (fun _ => 0) c.words off
/-- A little-endian number of `n` bytes of a held region's code. -/
def RegCopy.code (c : RegCopy) (off n : Nat) : Nat := leNat ((List.range n).map (fun i => c.byteAt (0x1000000 + off + i)))
/-- The used entries (COUNT other than 0) of a list of 512 entries: word 0 and COUNT. -/
def RegCopy.entries (c : RegCopy) (base size chi : Nat) : List (Word × Nat) :=
  (List.range 512).filterMap (fun i =>
    let n := bits (c.raw (base + size * i + 4)) chi 0
    if n = 0 then none else some (c.raw (base + size * i), n))
/-- Words of the input image, of the LOOP_RD area, of the output image and of the LOOP_WR area (R331-R333, R336, R358). -/
def RegCopy.inCount (c : RegCopy) : Nat :=
  (c.entries 0x100000 16 15).foldl (fun (n : Nat) (e : Word × Nat) => n + e.2 * (1 + (bit e.1 28).toNat)) 0
def RegCopy.lrdCount (c : RegCopy) : Nat :=
  (c.entries 0x103000 8 5).foldl (fun (n : Nat) (e : Word × Nat) =>
    let room := (if bit e.1 12 then 32 else 64) - bits e.1 21 16
    n + (if room < e.2 then room else e.2)) 0
def RegCopy.outCount (c : RegCopy) : Nat :=
  (c.entries 0x102000 8 15).foldl (fun (n : Nat) (e : Word × Nat) => n + e.2) 0
def RegCopy.lwrCount (c : RegCopy) : Nat :=
  (c.entries 0x104000 8 5).foldl (fun (n : Nat) (e : Word × Nat) => n + e.2) 0

/-- The first bytes of the instructions from `off` to `stop`, or the offset at which decoding fails (R377). -/
def RegCopy.icStarts (c : RegCopy) (stop : Nat) : Nat → Nat → Except Nat (List Nat)
  | 0, off => .error off
  | n + 1, off =>
    if off = stop then .ok []
    else match icLen (c.code off 1) with
      | none => .error off
      | some l =>
        if stop < off + l then .error off
        else match RegCopy.icStarts c stop n (off + l) with
          | .error e => .error e
          | .ok r => .ok (off :: r)

/-- Bytes of a static data operand; 0 for the instructions without one. -/
def icDataSize (op : Nat) : Nat :=
  if op = 0x10 ∨ op = 0x18 then 1 else if op = 0x11 ∨ op = 0x19 then 2 else if op = 0x12 ∨ op = 0x1A then 4 else 0

/-- Whether the instruction at `o` breaks a rule of R377; `starts` are the first bytes of the decoded instructions. A loop
number past 4,095 is out of range (R86). -/
def RegCopy.icBad (c : RegCopy) (starts : List Nat) (o : Nat) : Bool :=
  let op := c.code o 1
  let mapOff := c.code 0x30 4
  let dataLen := (c.raw 0x14).toNat
  let lim := if dataLen < 2 ^ 24 then dataLen else 2 ^ 24
  if 0x60 ≤ op ∧ op ≤ 0x62 then
    let t : Int := (o : Int) + 3 + signedOf 16 (c.code (o + 1) 2)
    decide (t < 0) || !starts.contains t.toNat
  else if op = 0x63 then !starts.contains (c.code (o + 1) 3)
  else if icDataSize op ≠ 0 then decide (lim < c.code (o + 1) 3 + icDataSize op)
  else if op = 0x80 ∨ op = 0x81 then
    let k := c.code (o + 1) 2
    let e := BitVec.ofNat 32 (c.code (mapOff + 4 * k) 4)
    let n := if op = 0x80 then c.inCount else c.outCount
    decide (4096 ≤ k) || !bit e 31 || (bit e 30 != decide (op = 0x81)) || decide (n ≤ bits e 19 0)
  else if op = 0x90 ∨ op = 0x91 then
    let n := c.code (mapOff + 0x4000 + 2 * c.code (o + 1) 1) 2
    decide (n = 0xFFFF) || !(timerList c).any (fun e => decide (e.1 = n) && e.2.2)
  else if 0xA0 ≤ op ∧ op ≤ 0xA2 then decide (4095 < c.code (mapOff + 0x4200 + 2 * c.code (o + 1) 1) 2)
  else false

/-- The code offset at which a TASK region's code breaks R359 or R377, if it does. -/
def RegCopy.codeBad (c : RegCopy) : Option Nat :=
  let ic := bit (c.raw 0) 12
  let len := (c.raw 0x10).toNat
  let dataLen := (c.raw 0x14).toNat
  let entries := [0x08, 0x0C, 0x10, 0x14, 0x18]
  let badEntry (o : Nat) : Bool :=
    let v := c.code o 4
    if v = 0 then decide (o = 8)
    else decide (len ≤ v) || (!ic && decide (v % 4 ≠ 0)) || (ic && decide (o = 0x18))
  let areas := [(c.code 0x20 4, 4 * c.inCount), (c.code 0x24 4, 4 * c.lrdCount), (c.code 0x28 4, 4 * c.outCount),
    (c.code 0x2C 4, 4 * c.lwrCount)]
  let areaBad (i : Nat) : Bool := match areas[i]? with
    | some e => decide (e.1 % 4 ≠ 0) || decide (dataLen < e.1 + e.2)
      || (List.range i).any (fun j => match areas[j]? with
        | some f => decide (e.2 ≠ 0) && decide (f.2 ≠ 0) && decide (e.1 < f.1 + f.2) && decide (f.1 < e.1 + e.2)
        | none => false)
    | none => false
  let stk := c.code 0x1C 4
  if c.code 0 4 ≠ (if ic then 0x4349374B else 0x43535947) then some 0
  else if c.code 4 2 ≠ 1 then some 4
  else if c.code 6 2 ≠ 1 then some 6
  else if (crc32 ((List.range 0x3C).map (fun i => c.byteAt (0x1000000 + i)))).toNat ≠ c.code 0x3C 4 then some 0x3C
  else match entries.find? badEntry with
    | some o => some o
    | none =>
      if stk < 4096 ∨ 2 ^ 20 < stk ∨ stk % 4096 ≠ 0 then some 0x1C
      else match (List.range 4).find? areaBad with
        | some i => some (0x20 + 4 * i)
        | none =>
          if ic = false then none
          else
            let stop := c.code 0x38 4
            if len < stop then some 0x38
            else if len < c.code 0x30 4 + 0x4400 then some 0x30
            else match c.icStarts stop (stop + 1) (c.code 0x34 4) with
              | .error e => some e
              | .ok starts =>
                match [0x08, 0x0C, 0x10, 0x14].find? (fun o => decide (c.code o 4 ≠ 0) && !starts.contains (c.code o 4)) with
                | some o => some (c.code o 4)
                | none => starts.find? (c.icBad starts)

end Sys2Proof.Machine
end

