-- ==== Sys2Proof/Machine/Fields.lean ====
section
/-! DEFINITION. The field maps as the image loader checks them (R81, R85): which words of a region space an image writes,
their writable bits, and the range of every field that has one. A field that a chapter lets act as another value for
some codes counts as in range (R85). -/
namespace Sys2Proof.Machine

/-- The range of a field: an integer with its step, the codes of an enumeration, a binary32 range. -/
inductive FRule where
  | int (lo hi step : Nat)
  | codes (lo hi : Nat)
  | codesOr (lo hi also : Nat)
  | flt (lo hi : Nat)
  deriving DecidableEq, Repr

/-- A field of a word and its range. -/
structure FSpec where
  hi : Nat
  lo : Nat
  rule : FRule
  deriving DecidableEq, Repr

/-- A whole word that is binary32 within [-x, x] or [lo, hi]. -/
def fltWord (lo hi : Nat) : List FSpec := [⟨31, 0, .flt lo hi⟩]
/-- ±1.0e12. -/
def wideWord : List FSpec := fltWord 0xD368D4A5 0x5368D4A5
/-- An integer field. -/
def intF (h l lo hi : Nat) : FSpec := ⟨h, l, .int lo hi 1⟩
/-- An enumeration from code 0. DEDUCED: note 57. -/
def enumF (h l hi : Nat) : FSpec := ⟨h, l, .codes 0 hi⟩

/-! ### Words an image writes (R81) -/

/-- Writable bits of a word of a LOOP region (R81, R111, R172). -/
def loopMask (off : Nat) : Option Nat :=
  if off < 0x100 then
    match descOf (0x10001000 + off) with
    | some d => if d.grp = 255 then none else some (d.wmask % 2 ^ 32)
    | none => none
  else if 0x10000 ≤ off ∧ off < 0x11000 then coefMask (off - 0x10000)
  else if 0x20000 ≤ off ∧ off < 0x24000 then some 0xFFFFFFFF
  else if off = 0x30000 then some 0xF0F
  else if off = 0x30004 then some 0x070F071F
  else if off = 0x30008 then some 0x03FF03FF
  else if off = 0x3000C then some 0xFFFF
  else if off = 0x30010 then some 0xF0F
  else none
/-- Writable bits of a word of a TASK region (R347, R352). -/
def taskMask (off : Nat) : Option Nat :=
  if off < 0x40 then
    if off = 0x10 then some 0x1FFFFFF
    else if off = 0x14 then some 0x1FFFFFFF
    else if off = 0x18 then some 0x1FFFFF
    else if off = 0x1C then some 0xFFFFFFFF
    else match descOf (0x2001000 + off) with
      | some d => if d.grp = 255 then none else some d.wmask
      | none => none
  else if off < 0x102000 then
    let k := off % 16
    if k = 0 then some 0xD00FFFFF else if k = 4 then some 0xFFFF else if k = 8 then some 0xFFFFFFFF else none
  else if off < 0x103000 then (if off % 8 = 0 then some 0x300FFFFF else some 0xFFFF)
  else if off < 0x104000 then (if off % 8 = 0 then some 0x003F1FFF else some 0x3F)
  else if off < 0x105000 then (if off % 8 = 0 then some 0x003F0FFF else some 0x3F)
  else if off < 0x106000 then some 0x80007FFF
  else if off < 0x300000 then (if off % 16 = 8 then some 0xFFFF else some 0xFFFFFFFF)
  else some 0xFFFFFFFF
/-- Writable bits of a word of the ROUTE regions (R608). -/
def routeMask (idx off : Nat) : Option Nat :=
  if idx = 0 then
    if off < 0x40000 then (if off % 8 = 0 then some 0x7FFFFF else some 0xFFF)
    else (if off % 8 = 0 then some 0xFFFFF else none)
  else some 0x80003FFF
/-- Writable bits of a word of a CAN object (R488). -/
def objMask (o : Nat) : Option Nat :=
  if o = 0 then some 0xF7F
  else if o = 4 then some 0x1FFFFFFF
  else if o = 0x18 then some 0xFFFFFFFF
  else if 0x20 ≤ o then some 0xFFFFFFFF
  else none
/-- Writable bits of a word of a region space; `none`: an image does not write it (R81). -/
def imageMask (ty idx off : Nat) : Option Nat :=
  if ty = 0x10 then loopMask off
  else if ty = 0x30 then routeMask idx off
  else if ty = 0x60 then taskMask off
  else if ty = 0x50 ∧ 0x10000 ≤ off then objMask ((off - 0x10000) % 0x60)
  else match regionAddr ty idx off with
    | none => none
    | some a => match descOf a with
      | none => none
      | some d => if d.grp = 255 ∨ d.acc = .ro then none else some d.wmask

/-! ### Ranges (R85 and each chapter's field maps) -/

/-- Ranges in the coefficient area (R108, R139). -/
def coefLimits (o : Nat) : List FSpec :=
  if 0xBA0 ≤ o ∧ o < 0xBB0 then fltWord 0 0x5368D4A5
  else if 0xC60 ≤ o ∧ o < 0xC70 then fltWord 0 0x3F800000
  else if 0xC70 ≤ o ∧ o < 0xC80 then fltWord 0 0x5368D4A5
  else if 0xC80 ≤ o ∧ o < 0xCA4 then fltWord 0 0x3F800000
  else if 0xD40 ≤ o ∧ o < 0xD60 then fltWord 0 0x5368D4A5
  else if 0xD80 ≤ o ∧ o < 0xD90 then fltWord 0xC0490FDB 0x40490FDB
  else if o = 0xD94 then fltWord 0 0x5368D4A5
  else if o = 0xD98 then fltWord 0x37800000 0x3F800000
  else if o = 0xDA4 then [intF 21 16 10 32]
  else if o = 0xDA8 then []
  else if o = 0xDAC then [intF 12 0 2 4096, intF 28 16 0 4095]
  else wideWord
/-- Ranges in a LOOP region (R111, R149-R166, R172). -/
def loopLimits (off : Nat) : List FSpec :=
  if off = 0x0C then [enumF 3 2 2, enumF 6 5 2]
  else if off = 0x14 then [intF 31 16 1 65535]
  else if 0x20 ≤ off ∧ off < 0x60 then wideWord
  else if off = 0x60 then [enumF 2 1 2, intF 15 8 1 255, intF 20 16 0 15]
  else if off = 0x64 then [intF 15 0 1 65535]
  else if 0x70 ≤ off ∧ off < 0x80 then [intF 7 4 2 10]
  else if 0x10000 ≤ off ∧ off < 0x11000 then coefLimits (off - 0x10000)
  else if 0x20000 ≤ off ∧ off < 0x24000 then wideWord
  else if off = 0x30004 then [intF 4 0 1 16, intF 10 8 1 4, intF 19 16 0 8, intF 26 24 0 4]
  else if off = 0x30008 then [intF 9 0 10 1000]
  else if off = 0x3000C then [intF 15 0 1 65535]
  else []
/-- Ranges in a TASK region (R325, R330-R333, R347, R352). -/
def taskLimits (off : Nat) : List FSpec :=
  if off = 0 then [⟨1, 0, .codes 1 2⟩]
  else if off = 4 then [⟨23, 0, .int 100 10000000 100⟩]
  else if off = 8 then [⟨23, 0, .int 0 16777210 10⟩]
  else if off = 0xC then [intF 7 0 2 255, intF 31 16 1 10000]
  else if off = 0x10 then [intF 24 0 0 16777216]
  else if off = 0x14 then [intF 28 0 0 268435456]
  else if off = 0x18 then [intF 20 0 0 1048576]
  else if 0x100000 ≤ off ∧ off < 0x102000 then (if off % 16 = 4 then [intF 15 0 0 4096] else [])
  else if 0x102000 ≤ off ∧ off < 0x103000 then (if off % 8 = 4 then [intF 15 0 0 4096] else [enumF 29 28 1])
  else if 0x104000 ≤ off ∧ off < 0x105000 then (if off % 8 = 4 then [intF 5 0 0 33] else [intF 21 16 3 35])
  else []
/-- Ranges of an analogue channel (chapter 8). -/
def ancLimits (off : Nat) : List FSpec :=
  if off = 0 then [enumF 3 0 9, enumF 6 4 6, enumF 9 8 2, enumF 15 13 4, enumF 21 20 2]
  else if off = 4 then [intF 23 0 10 16000000]
  else if off = 8 then [intF 10 0 0 1249]
  else if off = 0x10 ∨ off = 0x14 then wideWord
  else if off = 0x18 then fltWord 0 0x5368D4A5
  else if off = 0x1C ∨ off = 0x20 ∨ off = 0x24 then fltWord 0xC1C00000 0x41C00000
  else if off = 0x28 then fltWord 0 0x42C80000
  else if off = 0x2C then fltWord 0xC2200000 0x42FA0000
  else if off = 0x30 then [enumF 1 0 2]
  else if off = 0x34 then fltWord 0xC1280000 0x41280000
  else if off = 0x38 then fltWord 0 0x41200000
  else []
/-- Ranges of a motion port (chapter 7). -/
def motLimits (off : Nat) : List FSpec :=
  if 0x1000 ≤ off then
    let k := (off - 0x1000) % 12
    if k = 0 then [intF 31 0 1 0xFFFFFFFF] else if k = 8 then fltWord 0xCA989680 0x4A989680 else []
  else if off = 0 then [enumF 2 1 1]
  else if off = 4 then [intF 7 0 25 250, intF 15 8 1 250]
  else if off = 8 then [intF 10 0 4 1024]
  else if off = 0xC then fltWord 0xC0490FDB 0x40490FDB
  else if off = 0x10 then fltWord 0x3F800000 0x4A989680
  else if off = 0x14 then fltWord 0x3F800000 0x4E6E6B28
  else if off = 0x18 then fltWord 0 0x40000000
  else if off = 0x1C then fltWord 0x3C23D70A 0x447A0000
  else if off = 0x20 ∨ off = 0x24 ∨ off = 0x28 then fltWord 0 0x3F800000
  else if off = 0x2C then fltWord 0x3A83126F 0x3F800000
  else if off = 0x30 then fltWord 0 0x41200000
  else if off = 0x34 ∨ off = 0x38 then fltWord 0 0x40490FDB
  else if off = 0x3C then fltWord 0xBA83126F 0x3A83126F
  else if off = 0x48 then [intF 13 0 1 10000, intF 23 16 1 255]
  else if off = 0x50 then [intF 13 0 0 10000]
  else []
/-- Ranges of a source descriptor (R467) and of a request descriptor (R471). -/
def srcLimits : List FSpec := [enumF 2 0 4, intF 25 20 0 62]
def reqLimits : List FSpec := [enumF 1 0 2]
/-- Ranges of the PWR region (chapter 15). -/
def pwrLimits (off : Nat) : List FSpec :=
  if off = 0 then [intF 13 4 100 1000, intF 19 16 1 15]
  else if 0x100 ≤ off ∧ off < 0x300 then
    let k := off % 0x40
    if k = 0 then [intF 15 8 1 255, intF 23 16 1 255, intF 31 24 1 255]
    else if k = 4 then fltWord 0 0x49742400
    else if k = 8 then fltWord 0 0x3F800000
    else if k = 0x10 ∨ k = 0x14 then fltWord 0xC9742400 0x49742400
    else if k = 0xC ∨ k = 0x18 ∨ k = 0x1C ∨ k = 0x20 then srcLimits
    else if k = 0x24 ∨ k = 0x28 ∨ k = 0x2C then reqLimits
    else []
  else if 0x400 ≤ off ∧ off < 0x500 then
    let k := off % 0x40
    if k = 0 then [intF 7 4 0 8, intF 15 8 5 100, intF 23 16 1 255, intF 31 24 1 255]
    else if k = 4 ∨ k = 8 then srcLimits
    else if k = 0x10 ∨ k = 0x14 ∨ k = 0x1C then fltWord 0x3DCCCCCD 0x3F800000
    else if k = 0x18 then fltWord 0x3F000000 0x3F99999A
    else if k = 0x20 then fltWord 0x42200000 0x42820000
    else if k = 0x24 then [intF 7 0 1 255, intF 15 8 1 255, intF 23 16 1 255, intF 31 24 1 255]
    else []
  else if 0x800 ≤ off ∧ off < 0x900 then (if off % 8 = 4 then fltWord 0 0x49742400 else [])
  else if 0xA00 ≤ off ∧ off < 0xB00 then (if off % 8 = 0 then reqLimits else [])
  else []
/-- The ranges of a word's fields, those that depend on another field left out. -/
def limits (ty idx off : Nat) : List FSpec :=
  match ty with
  | 0x01 =>
    if off = 0x2000 then [intF 31 8 100 100000]
    else if off = 0x2004 then [intF 15 0 0 450, intF 31 16 0 450]
    else if 0x2020 ≤ off ∧ off < 0x2030 then [intF 23 16 20 100]
    else []
  | 0x02 => if off = 0 then [enumF 1 0 2, intF 7 3 1 31, intF 15 8 1 255, intF 27 16 10 4000] else []
  | 0x10 => loopLimits off
  | 0x20 => ancLimits off
  | 0x21 => if off % 0x40 = 0 then [enumF 6 5 2, ⟨11, 8, .codesOr 0 7 15⟩] else if off % 0x40 = 4 then [intF 23 16 0 250] else []
  | 0x22 =>
    if off < 0x800 then (if off % 0x40 = 0 then [enumF 1 0 2] else [])
    else if off = 0x800 then [intF 9 0 0 1000] else []
  | 0x23 =>
    if off = 0 then [enumF 3 2 1, intF 7 4 1 15, intF 15 8 1 255]
    else if off = 4 then [intF 15 0 1 65535, intF 25 16 10 1000] else []
  | 0x24 => motLimits off
  | 0x30 =>
    if idx ≠ 0 then []
    else if off < 0x40000 then (if off % 8 = 0 then [enumF 3 0 5] else [intF 11 0 0 4091])
    else [enumF 3 0 3]
  | 0x40 =>
    if 0x10000 ≤ off ∧ off < 0x14000 then (if off % 0x20 = 0 then [enumF 1 0 2, intF 7 4 0 8] else [])
    else if 0x30000 ≤ off ∧ off < 0x30200 then [intF 6 0 0 99]
    else []
  | 0x50 =>
    if 0x10000 ≤ off then []
    else if off = 0 then [enumF 1 0 2]
    else if off = 4 then [intF 16 8 1 255]
    else if off = 0x10 then [intF 9 0 0 1000] else []
  | 0x60 => taskLimits off
  | 0x70 => pwrLimits off
  | 0x80 =>
    if off = 0 then [intF 7 4 2 15, intF 15 8 1 60]
    else if off = 4 then [intF 12 0 0 4000]
    else if off = 8 then [intF 17 0 0 200000]
    else if off = 0xC then [⟨13, 0, .int 0 16368 4⟩] else []
  | 0x90 =>
    if off = 0 then [intF 15 8 10 255, intF 23 16 1 100]
    else if off = 4 then [intF 9 0 50 1000, intF 19 10 10 500] else []
  | _ => []
/-- The ranges that depend on another field (R85): `w` is the word with its other fields checked, `other` a word of the
ready copy. -/
def depLimits (ty idx off : Nat) (w : Word) (other : Nat → Word) : List FSpec :=
  if ty = 0x10 ∧ off = 0x30008 then [intF 25 16 0 (bits w 9 0 - 1)]
  else if ty = 0x20 ∧ off = 0 ∧ bits w 3 0 = 4 then [enumF 6 4 3]
  else if ty = 0x60 ∧ 0x103000 ≤ off ∧ off < 0x104000 ∧ off % 8 = 0 then [intF 21 16 0 (if bit w 12 then 31 else 63)]
  else if ty = 0x30 ∧ idx = 0 ∧ off % 8 = 0 then
    let k := bits w 3 0
    if off < 0x40000 then
      if k = 2 ∨ k = 3 then [enumF 19 16 5] else if k = 5 then [enumF 19 16 2]
      else if k = 4 then [enumF 19 16 0, enumF 22 20 4] else [enumF 19 16 0]
    else [enumF 19 16 3]
  else []
/-- Whether a word is checked after the words it depends on. -/
def dependent (ty off : Nat) : Bool :=
  (decide (ty = 0x50) && decide (0x10000 ≤ off) && decide ((off - 0x10000) % 0x60 = 4))
/-- The writable bits of a word in a ready copy: a standard CAN identifier has 11 bits (R488). -/
def depMask (ty off m : Nat) (other : Nat → Word) : Nat :=
  if ty = 0x50 ∧ 0x10000 ≤ off ∧ (off - 0x10000) % 0x60 = 4 ∧ bit (other (off - 4)) 2 = false then 0x7FF else m

/-! ### The check of one word (R85) -/

/-- The value used and the causes for an integer field. DEDUCED: note 56. -/
def checkInt (lo hi step v : Nat) : Nat × List Nat :=
  let w := v / step * step
  if v < lo ∨ w < lo then (lo, [1])
  else if hi < w then (hi, [2])
  else if w ≠ v then (w, [2])
  else (v, [])
/-- The value used and the causes for a binary32 word. -/
def checkFlt (lo hi v : Nat) : Nat × List Nat :=
  if f32.isNan v then
    ((if f32.le lo 0 && f32.le 0 hi then 0 else if f32.lt 0 lo then lo else hi), [3])
  else
    let z := flush32 v
    let c := if z = v then [] else [4]
    if f32.lt z lo then (lo, c ++ [1]) else if f32.lt hi z then (hi, c ++ [2]) else (z, c)
/-- The word with one field checked, and the causes; `rst` is the word's reset value. DEDUCED: note 57. -/
def checkField (rst : Word) (r : Word × List Nat) (f : FSpec) : Word × List Nat :=
  let v := bits r.1 f.hi f.lo
  let x := match f.rule with
    | .int lo hi step => checkInt lo hi step v
    | .codes lo hi => if v < lo ∨ hi < v then (bits rst f.hi f.lo, [5]) else (v, [])
    | .codesOr lo hi also => if (v < lo ∨ hi < v) ∧ v ≠ also then (bits rst f.hi f.lo, [5]) else (v, [])
    | .flt lo hi => checkFlt lo hi v
  (setBits r.1 f.hi f.lo x.1, r.2 ++ x.2)
/-- The word an image word becomes and the causes of its reports (R85). DEDUCED: note 56. -/
def checkWord (ty idx off mask : Nat) (rst w : Word) (other : Nat → Word) : Word × List Nat :=
  let m := BitVec.ofNat 32 (depMask ty off mask other)
  let r := (limits ty idx off).foldl (checkField rst) (w &&& m, [])
  let r := (depLimits ty idx off r.1 other).foldl (checkField rst) r
  (r.1, r.2 ++ (if w &&& ~~~m = 0 then [] else [6]))

end Sys2Proof.Machine
end

