-- ==== Sys2Proof/Machine/LoadOps.lean ====
section
/-! DEFINITION. The image check (R83-R90, R96, R608, R344, R88, R518): ready copies, field checks, references, the load
check, and what a check leaves. What R102 says of images that break a rule of the tool follows from these checks. -/
namespace Sys2Proof.Machine

/-- A report of the check before it is written (R89). DEDUCED: note 58. -/
structure ImgRep where
  cause : Nat
  region : Nat
  ty : Nat
  raw : Nat
  space : Nat
  written : Nat
  used : Nat
  deriving DecidableEq, Repr

/-- A region under check: its number, type, section offset, FLAGS, runs, ready copy, whether a field was clamped, and the words
as the image writes them. -/
structure Carried where
  region : Nat
  ty : Nat
  pos : Nat
  flags : Nat
  runs : List ImgRun
  copy : RegCopy
  clamped : Bool
  src : List (Nat × Word)
  deriving DecidableEq, Repr

/-- The word at a region-space offset as the image writes it; that of the ready copy where no run writes it (R89). -/
def Carried.written (c : Carried) (off : Nat) : Nat :=
  match c.src.find? (fun e => decide (e.1 = off)) with
  | some e => e.2.toNat
  | none => (c.copy.raw off).toNat
/-- The offset in the raw image of the word at a region-space offset; the section's where no run writes it.
DEDUCED: note 61. -/
def Carried.rawOf (c : Carried) (off : Nat) : Nat :=
  match c.runs.find? (fun r => decide (r.off ≤ off) && decide (off < r.off + 4 * r.cnt)) with
  | some r => r.pos + (off - r.off)
  | none => c.pos
/-- The words of a section's runs: region-space offset, raw offset, value. -/
def sectWords (bs : List Byte) (x : ImgSect) : List (Nat × Nat × Word) :=
  x.runs.flatMap (fun r => (List.range r.cnt).map (fun i => (r.off + 4 * i, r.pos + 4 * i, BitVec.ofNat 32 (u32At bs (r.pos + 4 * i)))))
/-- One written word goes into a ready copy, with its reports (R81, R85). -/
def putWord (straps r ty idx : Nat) (acc : Map Word × List ImgRep) (e : Nat × Nat × Word) : Map Word × List ImgRep :=
  match imageMask ty idx e.1 with
  | none => (acc.1, acc.2 ++ [⟨7, r, ty, e.2.1, e.1, e.2.2.toNat, 0⟩])
  | some m =>
    let q := checkWord ty idx e.1 m (regionReset straps r e.1) e.2.2 (fun o => Map.get (regionReset straps r) acc.1 o)
    (Map.set (regionReset straps r) acc.1 e.1 q.1,
      acc.2 ++ q.2.map (fun c => ⟨c, r, ty, e.2.1, e.1, e.2.2.toNat, q.1.toNat⟩))
/-- The ready copy of a section (R82, R83), and its reports. DEDUCED: note 58. -/
def buildCopy (straps id : Nat) (act : Map RegCopy) (bs : List Byte) (x : ImgSect) : Carried × List ImgRep :=
  let r := (regionNo x.ty x.idx).getD 0
  let base : Map Word := match if x.flags.testBit 2 then act.find? (fun e => decide (e.1 = r)) else none with
    | some e => e.2.words
    | none => []
  let ws := sectWords bs x
  let acc := (ws.filter (fun e => !dependent x.ty e.1)).foldl (putWord straps r x.ty x.idx) (base, [])
  let acc := (ws.filter (fun e => dependent x.ty e.1)).foldl (putWord straps r x.ty x.idx) acc
  (⟨r, x.ty, x.pos, x.flags, x.runs, ⟨x.flags.testBit 0, acc.1, id, x.crc, 0, x.pos⟩, acc.2.any (fun p => decide (p.cause ≤ 6)),
    ws.map (fun e => (e.1, e.2.2))⟩, acc.2)

/-! ### References (R86) -/

/-- A region's contents in the set that would be active. -/
abbrev RegionSet := Nat → Option RegCopy
/-- Whether the set defines region `r`. -/
def isDef (look : RegionSet) (r : Nat) : Bool := (look r).isSome
/-- Whether channel, link or port `i` exists and its region is defined: 1 channel, 2 link, 3 port. -/
def unitDef (look : RegionSet) (kind i : Nat) : Bool :=
  match kind with
  | 1 => decide (i < 256) && isDef look (4098 + i)
  | 2 => decide (i < 64) && isDef look (4378 + i)
  | 3 => decide (i < 32) && isDef look (4442 + i)
  | _ => true
/-- Whether a Lid input exists (R291): comparators, digital inputs and half demands. DEDUCED: note 92. -/
def lidInputDef (look : RegionSet) (v : Nat) : Bool :=
  if v = 0x7FF then true
  else if v < 512 then isDef look (4098 + v / 2)
  else if v < 1024 then isDef look (4354 + (v - 512) / 32)
  else decide (v < 1280)
/-- A source descriptor's INDEX (R467). DEDUCED: note 60. -/
def srcDef (look : RegionSet) (w : Word) : Bool :=
  let i := bits w 15 4
  match bits w 2 0 with
  | 1 => unitDef look 1 i
  | 2 => unitDef look 1 i
  | 3 => decide (i < 512) && isDef look (4354 + i / 32)
  | 4 => decide (i < 2048) && isDef look (4477 + bits w 19 16)
  | _ => true
/-- A request descriptor's INDEX (R471). DEDUCED: note 60. -/
def reqDef (look : RegionSet) (w : Word) : Bool :=
  let i := bits w 15 4
  match bits w 1 0 with
  | 1 => decide (i < 256) && isDef look (4370 + i / 32)
  | 2 => decide (i < 2048) && isDef look (4477 + bits w 19 16)
  | _ => true
/-- Whether the references of one word hold. -/
def wordRefOk (look : RegionSet) (ty idx off : Nat) (w : Word) : Bool :=
  if ty = 0x30 ∧ idx = 0 ∧ off % 8 = 0 then
    let k := bits w 3 0
    let i := bits w 15 4
    if 0x40000 ≤ off then unitDef look k i
    else if k = 4 then decide (i < 64)
    else if k = 5 then decide (i < 8) && isDef look 4509
    else unitDef look k i
  else if ty = 0x23 ∧ off = 0 then !bit w 1 || isDef look (2 + bits w 27 16)
  else if ty = 0x40 ∧ 0x100 ≤ off ∧ off < 0x140 then
    !bit w 2 || (decide (bits w 24 16 < 512) && isDef look (4354 + bits w 24 16 / 32))
  else if ty = 0x40 ∧ 0x10000 ≤ off ∧ off < 0x14000 ∧ off % 0x20 ≠ 0 then
    lidInputDef look (bits w 10 0) && lidInputDef look (bits w 26 16)
  else if ty = 0x70 ∧ 0x100 ≤ off ∧ off < 0x500 then
    if pwrLimits off = srcLimits then srcDef look w else if pwrLimits off = reqLimits then reqDef look w else true
  else if ty = 0x70 ∧ 0xA00 ≤ off ∧ off < 0xB00 ∧ off % 8 = 0 then reqDef look w
  else true
/-- The offset of an enabled CAN object whose identifier an earlier enabled object of the port holds (R86, R489).
DEDUCED: note 60. -/
def canDup (c : RegCopy) : Option Nat :=
  let on := (c.words.filter (fun e => decide (0x10000 ≤ e.1) && decide ((e.1 - 0x10000) % 0x60 = 0) && bit e.2 0)).map
    (fun e => (e.1, bit e.2 2, (c.raw (e.1 + 4)).toNat))
  (on.find? (fun e => on.any (fun f => decide (f.1 < e.1) && decide (f.2 = e.2)))).map (fun e => e.1 + 4)
/-- The areas of the live I/O image (R328): offset and size. -/
def liveAreas : List (Nat × Nat) :=
  [(0, 0x1000), (0x1000, 0x40), (0x1040, 0x40), (0x1080, 0x40), (0x2000, 0x2000), (0x4000, 0x800), (0x4800, 0x400), (0x4C00, 0x80),
   (0x10000, 0x100000), (0x200000, 0x400), (0x200400, 0x40), (0x210000, 0x100000)]
/-- Whether a word of the live image, by byte offset, is an output that exists (R328, R331). -/
def outputDef (look : RegionSet) (a : Nat) : Bool :=
  if 0x200000 ≤ a ∧ a < 0x200400 then isDef look (4098 + (a - 0x200000) / 4)
  else if 0x200400 ≤ a ∧ a < 0x200440 then isDef look (4370 + (a - 0x200400) / 8)
  else decide (0x210000 ≤ a) && decide (a < 0x310000)
/-- Whether a word of the MOT window, by byte offset, is one of a port's segment table (R210, R331). -/
def segmentDef (look : RegionSet) (a : Nat) : Bool :=
  decide (0x1000 ≤ a % 0x4000) && unitDef look 3 (a / 0x4000)
/-- The offset of the reference that a TASK list's entry makes, where it does not hold (R86, R330-R333); `e` is the word with
the entry's COUNT. DEDUCED: note 60. -/
def taskRefBad (look : RegionSet) (c : RegCopy) (e : Nat × Word) : Option Nat :=
  let o := e.1
  let w := c.raw (o - 4)
  let ok : Bool :=
    if o < 0x100000 ∨ 0x105000 ≤ o ∨ o % 8 ≠ 4 then true
    else if o < 0x102000 then
      decide (o % 16 ≠ 4) || liveAreas.any (fun a =>
        decide (a.1 ≤ 4 * bits w 19 0) && decide (4 * (bits w 19 0 + bits e.2 15 0) ≤ a.1 + a.2))
    else if o < 0x103000 then
      (List.range (bits e.2 15 0)).all (fun k =>
        let a := 4 * (bits w 19 0 + k)
        if bits w 29 28 = 0 then outputDef look a else segmentDef look a)
    else isDef look (2 + bits w 11 0)
  if ok then none else some (o - 4)
/-- The first entry of IN_LIST with which a task's copied words exceed 16,384 (R330); `n` words were copied before.
DEDUCED: note 60. -/
def inListOver (c : RegCopy) : Nat → List (Nat × Word) → Option Nat
  | _, [] => none
  | n, e :: l =>
    let n' := n + bits e.2 15 0 * (if bit (c.raw (e.1 - 4)) 28 then 2 else 1)
    if 16384 < n' then some (e.1 - 4) else inListOver c n' l
/-- The references of a TASK region that do not hold. -/
def taskRefsBad (look : RegionSet) (c : RegCopy) : List Nat :=
  c.words.filterMap (taskRefBad look c)
    ++ (inListOver c 0 (c.words.filter (fun e => decide (0x100000 ≤ e.1) && decide (e.1 < 0x102000) && decide (e.1 % 16 = 4)))).toList
/-- The first reference word of a SHED term none of whose references is a half demand that the PWR region uses (R102, R308).
DEDUCED: note 167. -/
def shedUnused (look : RegionSet) (c : RegCopy) : Option Nat :=
  let used (d : Nat) : Bool := match look 4509 with
    | some p => (List.range 32).any (fun k => bit (p.raw (0x800 + 8 * k)) 15 && decide (bits (p.raw (0x800 + 8 * k)) 7 0 = d))
    | none => false
  let refs (t : Nat) : List Nat := ((List.range 4).flatMap (fun k =>
    let w := c.word 0 4476 (0x10004 + 0x20 * t + 4 * k)
    [bits w 10 0, bits w 26 16])).filter (fun v => decide (v ≠ 0x7FF))
  ((List.range 512).find? (fun t => decide (bits (c.word 0 4476 (0x10000 + 0x20 * t)) 1 0 = 2) && decide (refs t ≠ [])
    && !(refs t).any (fun v => decide (1024 ≤ v) && used (v - 1024)))).map (fun t => 0x10004 + 0x20 * t)
/-- The region-space offset of the first reference of a region that is refused, in the order of the stream, then among words
that keep their active values. DEDUCED: note 60. -/
def refBad (look : RegionSet) (x : Carried) : Option Nat :=
  if x.copy.remove then none
  else if x.ty = 0x60 then
    let bad := taskRefsBad look x.copy
    match x.src.find? (fun e => bad.contains e.1) with
    | some e => some e.1
    | none => bad.head?.or (x.copy.codeBad.map (0x1000000 + ·))
  else
    let bad (o : Nat) (w : Word) : Bool := !wordRefOk look x.ty (regionOf x.region).2 o w
    match x.src.find? (fun e => x.copy.words.any (fun c => decide (c.1 = e.1) && bad c.1 c.2)) with
    | some e => some e.1
    | none => match x.copy.words.find? (fun e => bad e.1 e.2) with
      | some e => some e.1
      | none => if x.ty = 0x50 then canDup x.copy else if x.ty = 0x40 then shedUnused look x.copy else none
/-- The set that would be active (R86, R88): a carried region that is kept, else the active one, which a full image
undefines where it does not carry it. -/
def wouldBe (act : Map RegCopy) (full : Bool) (all kept : List Carried) : RegionSet := fun r =>
  match kept.find? (fun c => decide (c.region = r)) with
  | some c => if c.copy.remove then none else some c.copy
  | none =>
    if full && !all.any (fun c => decide (c.region = r)) then none
    else (act.find? (fun e => decide (e.1 = r))).map (·.2)
/-! ### Checks of whole sets -/

/-- The value of a LID register that a region gives. -/
def lidWord (c : RegCopy) (a : Nat) : Nat := (c.word 0 4476 (a - 0x400000)).toNat
/-- A clamped or otherwise refused region: the report, if there is one (R87). -/
def clampRefusal (x : Carried) : Option ImgRep :=
  if x.clamped && (x.flags.testBit 1 || decide (x.ty = 0x40)) then some ⟨0x10, x.region, x.ty, x.pos, 0, 0, 0⟩
  else if x.ty = 0x40 ∧ x.copy.remove = false then
    if shedBad (lidWord x.copy) then some ⟨0x15, x.region, x.ty, x.pos, 0, 0, 3⟩
    else if tpClash (lidWord x.copy) then some ⟨0x15, x.region, x.ty, x.pos, 0, 0, 4⟩
    else none
  else none
/-- The refusal of one carried region: its references first, then R87 (R83). -/
def regionRefusal (look : RegionSet) (x : Carried) : Option ImgRep :=
  match refBad look x with
  | some o => some ⟨0x11, x.region, x.ty, x.rawOf o, o, x.written o, 0⟩
  | none => clampRefusal x
/-- Regions that are kept, with the reports of those refused; a refusal can refuse others. DEDUCED: note 60. -/
def refPass (act : Map RegCopy) (full : Bool) (all : List Carried) : Nat → List Carried → List ImgRep → List Carried × List ImgRep
  | 0, kept, reps => (kept, reps)
  | n + 1, kept, reps =>
    let bad := kept.filterMap (regionRefusal (wouldBe act full all kept))
    if bad = [] then (kept, reps)
    else refPass act full all n (kept.filter (fun c => !bad.any (fun b => decide (b.region = c.region)))) (reps ++ bad)
/-- KIND of a TASK region and its RET_LEN. -/
def taskKindOf (c : Option RegCopy) : Nat := match c with
  | some c => bits (c.word 0 4493 0) 1 0
  | none => 0
def taskRetOf (c : Option RegCopy) : Nat := match c with
  | some c => (c.word 0 4493 0x18).toNat
  | none => 0
/-- The TASK regions that R344 refuses: the offset of the word is that of KIND or RET_LEN. -/
def taskLimitBad (act : Map RegCopy) (look : RegionSet) (kept : List Carried) : List (Carried × Nat) :=
  let ts := (List.range 16).map (fun t => look (4493 + t))
  let errs := (ts.filter (fun c => decide (taskKindOf c = 2))).length
  let ret := ts.foldl (fun (n : Nat) (c : Option RegCopy) => n + taskRetOf c) 0
  if errs ≤ 1 ∧ ret ≤ 8388608 then []
  else kept.filterMap (fun c =>
    if c.ty ≠ 0x60 ∨ c.copy.remove then none
    else
      let old := (act.find? (fun e => decide (e.1 = c.region))).map (·.2)
      if taskKindOf (some c.copy) = 2 ∧ taskKindOf old ≠ 2 then some (c, 0)
      else if taskRetOf old < taskRetOf (some c.copy) then some (c, 0x18)
      else none)
/-- The offset in region 1 of the destination that a command entry names: its kind, INDEX and SEL. DEDUCED: note 60. -/
def destOff (w : Word) : Nat :=
  let i := bits w 15 4
  match bits w 3 0 with
  | 1 => 4 * i
  | 2 => 0x400 + 16 * i + 4 * bits w 19 16
  | _ => 0x800 + 4 * i
/-- The first entry of either ROUTE region that the other does not confirm (R608): region number and offset. -/
def routeBad (look : RegionSet) : Option (Nat × Nat) :=
  let words (r : Nat) : Map Word := match look r with
    | some c => c.words
    | none => []
  let w0 := (words 4474).filter (fun e => decide (0x40000 ≤ e.1) && decide (e.1 % 8 = 0) && decide (bits e.2 3 0 ≠ 0))
  let w1 := (words 4475).filter (fun e => bit e.2 31)
  let loopOf (o : Nat) : Nat × Nat := ((o - 0x40000) / 32, (o - 0x40000) / 8 % 4)
  match w0.find? (fun e =>
      let d := Map.get (fun _ => 0) (words 4475) (destOff e.2)
      !(bit d 31 && decide ((bits d 11 0, bits d 13 12) = loopOf e.1))) with
  | some e => some (4474, e.1)
  | none =>
    (w1.find? (fun d => !w0.any (fun e => decide (destOff e.2 = d.1)
      && decide (loopOf e.1 = (bits d.2 11 0, bits d.2 13 12))))).map (fun d => (4475, d.1))
/-- The instances that a half would hold (R88). -/
def wouldHold (look : RegionSet) (h : Half) : List Inst :=
  (List.range 4096).filterMap (fun l => match look (2 + l) with
    | none => none
    | some c =>
      let k := c.loopWord 0x30000
      if bit k 0 ∨ bit k 2 = decide (h = .b) then some (mkInst l (c.descWord l) (c.loopWord 0x3000C).toNat) else none)
/-- The load check of R88 (R168) and the sample clocks of R518 for one half. -/
def loadFits (l : List Inst) : Bool :=
  let ok (m : List Inst) (e : Nat) : Bool :=
    decide (m.length ≤ 8 * e) && decide (loadSum m ≤ 450000 * e) && decide ((m.filter (fun i => decide (i.period < 20))).length ≤ 2 * e)
  ok (l.filter (fun i => i.pwr)) 16 && ok (l.filter (fun i => !i.pwr)) 496
    && decide (((l.map (fun i => (i.period, i.phase))).eraseDups).length ≤ 512)

/-- The refusals against the whole of what is carried, before any refusal has taken a region away (R83). -/
def regionRefusalAll (act : Map RegCopy) (full : Bool) (all : List Carried) : List ImgRep :=
  all.filterMap (regionRefusal (wouldBe act full all all))
/-- The regions that a check keeps, the reports of what it refuses, and whether the load check passes. -/
structure CheckResult where
  kept : List Carried
  reps : List ImgRep
  fits : Bool
  deriving DecidableEq, Repr
/-- The checks after the ready copies are built (R83, R86-R88, R344, R608, R518). DEDUCED: note 61. -/
def checkSet (act : Map RegCopy) (full : Bool) (all : List Carried) : CheckResult :=
  let p := refPass act full all (all.length + 1) all []
  let tb := taskLimitBad act (wouldBe act full all p.1) p.1
  let kept := p.1.filter (fun c => !tb.any (fun b => decide (b.1.region = c.region)))
  let reps := p.2 ++ tb.map (fun b => ⟨0x11, b.1.region, b.1.ty, b.1.rawOf b.2, b.2, b.1.written b.2, 0⟩)
  let rs := kept.filter (fun c => decide (c.ty = 0x30))
  let bad := if rs = [] then none else routeBad (wouldBe act full all kept)
  let kept := if bad.isSome then kept.filter (fun c => decide (c.ty ≠ 0x30)) else kept
  let reps := match bad with
    | none => reps
    | some b => reps ++ rs.map (fun c => if c.region = b.1
        then ⟨0x11, c.region, 0x30, c.rawOf b.2, b.2, c.written b.2, 0⟩ else ⟨0x11, c.region, 0x30, c.pos, 0, 0, 0⟩)
  let look := wouldBe act full all kept
  ⟨kept, reps, loadFits (wouldHold look .a) && loadFits (wouldHold look .b)⟩

/-! ### What a check leaves in the half -/

/-- Ready copies of an earlier check go, with their dirty marks (R83, R84). -/
def State.imgDiscard (s : State) (h : Half) : State :=
  let mine (u : CUnit) : Bool := decide (u.grp = 17) && u.half == some h
  ({ s with dirty := s.dirty.filter (fun u => !mine u) }).modImg h (fun x => { x with
    ready := []
    refused := []
    newMod := none
    newBad := false })
/-- The reports of a check go into the Tray, and clamps are counted (R89, R90). -/
def State.imgReports (s : State) (h : Half) (id : Nat) (l : List ImgRep) : State :=
  l.foldl (fun (t : State) (p : ImgRep) =>
    let t := if p.cause ≤ 6 then (t.sat (Mod.imgClampCnt h)).sb (Mod.imgStatus h) 8 true else t
    t.imgReport h p.cause p.region p.ty p.raw p.space p.written p.used id) s
/-- STATE while nothing is ready: IDLE, or NO_IMAGE. -/
def State.imgIdle (s : State) (h : Half) : State := s.fw (Mod.imgStatus h) 2 0 (if s.hasImage h then 0 else 5)
/-- A check starts: CHECKING, CHECK_SEQ, the length as it stands now (R83), and the results of the last check cleared.
DEDUCED: note 70. -/
def State.imgBegin (s : State) (h : Half) : State :=
  let s := (s.fw (Mod.imgStatus h) 2 0 1).fw (Mod.imgStatus h) 10 4 0
  let s := s.fw (Mod.imgStatus h) 31 16 (s.fd (Mod.imgStatus h) 31 16 + 1)
  let len := s.fd (Mod.imgLen h) 29 0
  let s := s.modImg h (fun x => { x with chkLen := len })
  ((s.wr (Mod.imgClampCnt h) 0).wr (Mod.imgReportDropped h) 0).wr (Mod.imgFailOffset h) 0
/-- The whole image is refused (R83): FAULT, IMG_FAIL_OFFSET, one record and source 8. DESIGN CHOICE: note 62. -/
def State.imgRefuse (s : State) (h : Half) (id fault off : Nat) : State :=
  let s := s.imgDiscard h
  let s := (((s.fw (Mod.imgStatus h) 2 0 4).fw (Mod.imgStatus h) 7 4 fault).wn (Mod.imgFailOffset h) off).wr64 (Mod.imgStagedIdLo h) id
  (s.imgReport h 0x20 0xFFFF 0 off 0 0 fault id).raise h 8
/-- The carried regions are checked as a set, and what is kept becomes READY (R83, R84). -/
def State.stageSet (s : State) (h : Half) (full free : Bool) (id : Nat) (cs : List Carried) (reps : List ImgRep)
    (mod : Option Nat) : State :=
  let act := (s.half h).img.active
  let r := checkSet act full cs
  let refused := (cs.filter (fun c => !r.kept.any (fun k => decide (k.region = c.region)))).map (fun c => c.region)
  let s := (s.imgDiscard h).wr64 (Mod.imgStagedIdLo h) id
  let first (p : ImgRep) : Bool := (regionRefusalAll act full cs).contains p
  let s := s.imgReports h id (cs.flatMap (fun c =>
    (reps ++ r.reps.filter first).filter (fun p => decide (p.region = c.region))) ++ r.reps.filter (fun p => !first p))
  let s := if refused = [] then s else s.sb (Mod.imgStatus h) 9 true
  let s := refused.foldl (fun (t : State) (_ : Nat) => t.raise h 10) s
  if r.fits = false then s.imgRefuse h id 12 0
  else
    let gone := if full then (act.filter (fun e => decide (e.1 ≠ 0) && !cs.any (fun c => decide (c.region = e.1)))).map
      (fun e => (e.1, (⟨true, [], id, 0, 0, 0⟩ : RegCopy))) else []
    let l := r.kept.map (fun c => (c.region, c.copy)) ++ gone
    let s := l.foldl (fun (t : State) (e : Nat × RegCopy) =>
      let f := t.fresh
      let y := (t.half h).img
      let p := freePlace ((y.active ++ y.ready).map (fun c => (c.2.place, copyLen c.1 c.2))) (copyLen e.1 e.2) (Config.copyOffset f.1)
      (f.2.modImg h (fun x => { x with ready := Map.ins x.ready e.1 { e.2 with place := p } })).markDirty (regionUnit h e.1)) s
    let s := s.modImg h (fun x => { x with
      refused := refused
      newId := id
      newMod := mod
      newBad := decide (refused ≠ [])
      newFree := free
      newFull := full })
    (if l = [] then s.imgIdle h else s.fw (Mod.imgStatus h) 2 0 2).raise h 8
/-- The active image ID. -/
def State.activeId (s : State) (h : Half) : Nat := s.rd64 (Mod.imgActiveIdLo h)
/-- The words of a region as its section writes them, before any field is checked (R83, R96); a merging section starts from the
active ones. DEDUCED: note 61. -/
def Carried.asWritten (c : Carried) (straps : Nat) (act : Map RegCopy) : Map Word :=
  let base : Map Word := match if c.flags.testBit 2 then act.find? (fun e => decide (e.1 = c.region)) else none with
    | some e => e.2.words
    | none => []
  c.src.foldl (fun m e =>
    if (imageMask c.ty (regionOf c.region).2 e.1).isNone then m else Map.set (regionReset straps c.region) m e.1 e.2) base
/-- A structural check and the rest of the check of `len` bytes in the raw staging area (R83, R96). The record of an image
refused before HDR_CRC has passed carries no IMAGE_ID. DESIGN CHOICE: note 168. -/
def State.checkRaw (s : State) (h : Half) (len : Nat) (free : Bool) : State :=
  let bs := s.bytes (h.base + 0x40000000) (if 0x20000000 < len then 140 else len)
  let act := (s.half h).img.active
  let mid := if s.fd (Mod.strapFaults h) 5 0 ≠ 0 then none else some (s.fd (Mod.straps h) 5 0)
  let active := if s.hasImage h then some (s.activeId h) else none
  let id := leNat ((bs.drop 8).take 8)
  match parseImage bs len (s.fd (Mod.idHw h) 7 0) (s.fd (Mod.idFw h) 15 0) mid active with
  | .error e => s.imgRefuse h (if (e.fault = 14 ∧ e.off = 0) ∨ e.fault = 1 ∨ e.fault = 2 then 0 else id) e.fault e.off
  | .ok sects =>
    let full := decide (u16At bs 6 = 1)
    let built := (sects.filter (fun x => decide (x.ty ≠ 0xFFFF))).map (buildCopy s.deck.straps id act bs)
    let m := built.find? (fun b => decide (b.1.region = 0))
    let same : Bool := match m, act.find? (fun e => decide (e.1 = 0)) with
      | some b, some e => !b.1.copy.remove && decide (b.1.asWritten s.deck.straps act = e.2.words)
      | some _, none => false
      | none, _ => !full
    if active.isSome && !same then
      s.imgRefuse h id 13 (match m with
        | some b => b.1.pos
        | none => 0)
    else
      let built := if active.isSome then built.filter (fun b => decide (b.1.region ≠ 0)) else built
      s.stageSet h full free id (built.map (·.1)) (built.flatMap (·.2))
        (if active.isSome then m.map (fun b => b.1.copy.crc) else none)
/-- A load source writes an image into the raw staging area (R91), and its length into IMG_LEN. DESIGN CHOICE: note 63. -/
def State.putRaw (s : State) (h : Half) (bs : List Byte) : State :=
  (s.setBytes (h.base + 0x40000000) (bs.take 0x20000000)).fw (Mod.imgLen h) 29 0 bs.length
/-- An image of the store or of the partner goes into the raw staging area. -/
def State.putImage (s : State) (h : Half) (x : StoredImg) : State := s.putRaw h (imageBytes s.deck.straps x)

end Sys2Proof.Machine
end

