-- ==== Sys2Proof/Machine/LoopRegion.lean ====
section
/-! DEFINITION. The commit of a LOOP region (R82, R94, R95, R169, R173, R182). -/
namespace Sys2Proof.Machine

/-- Whether half `h` holds a copy under a LOOP region: protected, or at home (R172). -/
def holdsLoop (h : Half) (c : RegCopy) : Bool :=
  let k := c.loopWord 0x30000
  !c.remove && (bit k 0 || (bit k 2 == decide (h = .b)))
/-- Numbers of states and of inputs (R94). -/
def loopSizes (c : RegCopy) : Nat × Nat := (bits (c.loopWord 0x30004) 4 0, bits (c.loopWord 0x30004) 10 8)
/-- The instance a LOOP region gives. -/
def regionInst (loop : Nat) (c : RegCopy) : Inst := mkInst loop (c.descWord loop) (c.loopWord 0x3000C).toNat

/-- The copy in slot `q` stops and its slot is freed (R82). -/
def State.loopStop (s : State) (h : Half) (loop q : Nat) : State :=
  let s := match (s.half h).place.moves.find? (fun m => decide (m.loop = loop)) with
    | some m => s.moveAbandon h m 4
    | none => s
  let s := s.traceClose h q 2
  let s := { s with
    dirty := s.dirty.filter (· != slotUnit h q)
    marked := s.marked.filter (· != slotUnit h q) }
  let s := ((s.settle h (18 + q / 1024)).emptySlot h q).setRole h loop 0
  let s := (s.setMapBit (HalfR.alignedMap h 0) loop false).modCtl h (fun x => { x with
    copied := x.copied.filter (· != loop)
    held := Map.del x.held loop })
  (s.selfFound h loop).recompute h (q / 8)
/-- A lost copy whose region is undefined, or moves away, is dropped with its place. -/
def State.lostDrop (s : State) (h : Half) (l : LostCopy) : State :=
  let s := match l.dst with
    | some q => (s.setSlotState h q 0).recompute h (q / 8)
    | none => s
  let s := s.modPlace h (fun p => { p with lost := p.lost.filter (fun x => x.loop != l.loop) })
  ((s.setMapBit (Mod.plcDisplaced h 0) l.loop false).setRole h l.loop 0).selfFound h l.loop
/-- The other half's copy of a loop that moves home to `h` (R182): its carried block, or the one it sent.
DEDUCED: note 68. -/
def State.homeBlock (s : State) (h : Half) (loop : Nat) : Option (List Word) :=
  match (s.half h).ctl.held.find? (fun e => decide (e.1 = loop)) with
  | some e => some e.2
  | none =>
    if s.mirrorUp ∧ s.runs h.other then
      match s.slotOf h.other loop with
      | some q => if s.slotState h.other q = 1 then some (s.carried h.other q) else none
      | none => none
    else none
/-- At the activation of a full image the placer takes the loops that it must place in order of decreasing load, then of loop
number (R173): each has its slot from the strobe on. DEDUCED: note 165. -/
def State.planPlaces (s : State) (h : Half) (rs : List Nat) : State :=
  let new : List (Nat × RegCopy) := rs.filterMap (fun r => match s.readyCopy h r with
    | some c =>
      if decide (2 ≤ r) && decide (r < 4098) && holdsLoop h c && (s.slotOf h (r - 2)).isNone
          && !(s.half h).place.lost.any (fun l => decide (l.loop = r - 2)) then some (r - 2, c) else none
    | none => none)
  let key (e : Nat × RegCopy) : Inst := regionInst e.1 e.2
  let order := sortBy (fun a b =>
    decide ((key b).load < (key a).load) || (decide ((key a).load = (key b).load) && decide (a.1 ≤ b.1))) new
  order.foldl (fun (t : State) (e : Nat × RegCopy) =>
    match t.choosePlace h (key e) (e.2.loopWord 0x30010) with
    | some q =>
      let t := t.setSlotState h q 3
      (t.modPlace h (fun p => { p with plan := p.plan ++ [(e.1, q)] })).recompute h (q / 8)
    | none => t) s
/-- What waits for a LOOP region goes with it: a slot that the placer has set aside, and a move that the region needs
(R169, R173). -/
def State.planDrop (s : State) (h : Half) (loop : Nat) : State :=
  let s := match (s.half h).place.plan.find? (fun e => decide (e.1 = loop)) with
    | some e => ((s.modPlace h (fun p => { p with plan := p.plan.filter (fun x => x.1 != loop) })).emptySlot h e.2).recompute h (e.2 / 8)
    | none => s
  match s.moveOf h loop with
  | some m => if m.cause = 0 then s.moveAbandon h m 4 else s
  | none => s
/-- A copy is placed anew from its region (R173), with a carried block that crossed the mirror link if it has one (R182).
DEDUCED: note 68. -/
def State.loopPlace (s : State) (h : Half) (loop : Nat) (c : RegCopy) (moved resized : Bool) : State :=
  let prot := bit (c.loopWord 0x30000) 0
  let role := s.roleOf h prot
  let plan := ((s.half h).place.plan.find? (fun e => decide (e.1 = loop))).map (·.2)
  let s := s.modPlace h (fun p => { p with plan := p.plan.filter (fun e => e.1 != loop) })
  match plan.or (s.choosePlace h (regionInst loop c) (c.loopWord 0x30010)) with
  | some q =>
    let block := if moved && !resized then s.homeBlock h loop else none
    let s := (s.clearRange (slotBase h q) 0x100).clearRange (stateBase h q) 0x80
    let s := (s.regionToSlot h q loop c).modRun h q (fun r => { packets := r.packets })
    let s := ((s.setSlotState h q 1).setStandby h q (decide (role = 2))).mapPlace h loop q role
    let s := (s.slotCommitted s h q).firstDue h q block.isNone
    let s := match block with
      | some ws => (s.loadCarried h q ws).modCtl h (fun x => { x with held := Map.del x.held loop })
      | none => s
    let s := if role = 2 then s.modCtl h (fun x => { x with copied := if x.copied.contains loop then x.copied else x.copied ++ [loop] })
      else s
    let s := if moved ∧ block.isNone then s.imgReport h 0x14 (2 + loop) 0x10 c.pos 0 0 0 c.sid else s
    let s := if moved then
        let from' := match s.slotOf h.other loop with
          | some k => slotNum h.other k
          | none => s.fd (loopMapAt h.other loop) 12 0
        let now := s.now h
        (s.modPlace h (fun p => { p with lastMove := Map.set (fun _ => 0) p.lastMove loop (now + 1) })).report h 0x0601 2 loop
          [4, from', slotNum h q]
      else s
    s.recompute h (q / 8)
  | none =>
    let l : LostCopy := {
      loop := loop
      src := 0
      dst := none
      active := decide (role = 1)
      state := 1
      engine := false
      clean := false
      block := false
      prefer := none
      evicted := false
      detect := s.now h
      tick := none
      regionNew := true
      sizeNew := true
      demand := none }
    (s.modPlace h (fun p => { p with lost := p.lost ++ [l] })).displace h l
/-- A copy that stands in slot `q` takes the new region at its boundary (R94). DEDUCED: note 68. -/
def State.loopRenew (s : State) (h : Half) (loop q : Nat) (c : RegCopy) (resized : Bool) : State :=
  let o := s
  let s := s.overrode h (2 + loop) c (slotUnit h q)
  let s := ((s.regionToSlot h q loop c).modRun h q (fun r => { r with compWr := 15 })).slotCommitted o h q
  let s := if resized then (s.firstDue h q true).imgReport h 0x14 (2 + loop) 0x10 c.pos 0 0 0 c.sid else s
  let role := s.roleOf h (bit (c.loopWord 0x30000) 0)
  let s := if s.slotState h q = 1 then (s.setRole h loop role).setStandby h q (decide (role = 2)) else s
  s.recompute h (q / 8)
/-- A LOOP region commits in half `h` (R94): its copies are removed, renewed or placed, and a displaced or stopped copy takes
the region into its record (R95). A move that the region needs falls on the same boundary, or on the next that meets the
final-transfer time (R169, R181). DEDUCED: note 68. -/
def State.loopCommit (s : State) (h : Half) (loop : Nat) (c : RegCopy) : State :=
  let old := s.loopRegion h loop
  let want := holdsLoop h c
  let resized : Bool := match old with
    | some x => decide (loopSizes x ≠ loopSizes c)
    | none => false
  let moved : Bool := match old with
    | some x => !holdsLoop h x && holdsLoop h.other x && !holdsLoop h.other c
    | none => false
  let away := !c.remove && !want
  let s := if c.remove then s else s.modImg h (fun x => { x with active := Map.ins x.active (2 + loop) c })
  let s := match (s.half h).place.lost.find? (fun l => decide (l.loop = loop)) with
    | some l =>
      if want then s.modPlace h (fun p => { p with lost := p.lost.map (fun (x : LostCopy) => if x.loop = loop then
        { x with regionNew := true, sizeNew := x.sizeNew || resized } else x) })
      else s.lostDrop h l
    | none => match s.slotOf h loop with
      | some q =>
        if want then
          let s := s.loopRenew h loop q c resized
          match s.moveOf h loop with
          | some m =>
            if m.cause = 0 ∧ m.copied then (if s.moveReady h m then s.migrate h m else s.moveMissed h m) else s
          | none => s
        else
          let ws := s.carried h q
          let s := if away ∧ s.mirrorUp ∧ s.runs h.other ∧ s.slotState h q = 1 then
              s.modCtl h.other (fun x => { x with held := Map.ins x.held loop ws }) else s
          s.loopStop h loop q
      | none => if want then s.loopPlace h loop c moved resized else s
  s.regionFinish h (2 + loop) c
/-- At marking, a LOOP region whose loop would no longer fit its engine reserves a target that fits (R169). -/
def State.loopReserve (s : State) (h : Half) (r : Nat) : State :=
  match s.readyCopy h r with
  | none => s
  | some c =>
    let loop := r - 2
    match s.slotOf h loop with
    | none => s
    | some q =>
      let i := regionInst loop c
      let rest := (s.engInsts h (q / 8)).filter (fun x => x.loop != loop)
      if holdsLoop h c = false ∨ s.slotState h q ≠ 1 ∨ (s.half h).place.moves.any (fun m => decide (m.loop = loop))
          ∨ fits (q / 8) (rest ++ [i]) true then s
      else match (s.chooseEng h i (c.loopWord 0x30010) 512 true).bind (fun x => s.freeSlot h x.1) with
        | some d => s.moveStart h loop q d 0
        | none => s

end Sys2Proof.Machine
end

