-- ==== Sys2Proof/Machine/Trunk.lean ====
section
/-! DEFINITION. The commands of the station trunk (chapter 14, R513). DEDUCED: note 97. -/
namespace Sys2Proof.Machine

/-! ### Ports and the ring (R421-R423, R430-R435, R446, R447) -/

/-- A port meets a down condition (R430, R431): cause 0 loss of block lock on a lane, 1 remote fault, 2 CRC failures. The
node wraps the port where the other one is up; with no port up nothing can be turned. CRC failures count in 2 cycles in a row.
A port that is down already only notes the condition. -/
def execPortDown (p cause lanes : Nat) (s : State) : Host.Outcome State Fault Refusal :=
  .next (s.onDeck (fun s => 
    let d := s.deck.trunk
    if d.en = false ∨ (cause = 2 ∧ Map.get (fun _ => 0) d.crcRun p < 2) then s
    else if portFlag d.down p then s.modNode (fun d => { d with downT := Map.set (fun _ => 0) d.downT p s.deck.ticks })
    else
      let other := portFlag d.up (1 - p)
      let s := s.setNode (fun d => { d with
        up := portSet d.up p false
        down := portSet d.down p true
        downT := Map.set (fun _ => 0) d.downT p s.deck.ticks
        ready := portSet d.ready p false
        wrapped := if other then portSet d.wrapped p true else [] })
      let s := s.eachHalf (fun t h =>
        let t := ((t.satF (Trk.portStatus h p) 31 16 1).fw (Trk.portStatus h p) 3 0 lanes).sb (Trk.portStatus h p) 5
          (decide (cause = 1))
        if other then t.sat (Trk.wrapCnt h) else t)
      let s := if other then s.reportDeck 0x0E01 0x13 p [p, cause] else s
      if s.deck.trunk.ring = 6 then
        s.eachHalf (fun t h => (List.range 64).foldl (fun (u : State) (st : Nat) =>
          if u.stnLive h st then (u.stnDown h st 1).stnWord h st else u) t)
      else s))

/-- A port whose bypass is open is up after 1 s without a down condition (R422): a wrapped port waits for its unwrap (R433); where the other port is not up, that one is wrapped. -/
def execPortUp (p : Nat) (s : State) : Host.Outcome State Fault Refusal :=
  .next (s.onDeck (fun s => 
    let d := s.deck.trunk
    if d.en = false ∨ portFlag d.up p ∨ portFlag d.opened p = false
        ∨ s.deck.ticks < Map.get (fun _ => 0) d.downT p + 250000000 then s
    else
      let other := portFlag d.up (1 - p)
      let s := s.setNode (fun d => { d with
        up := portSet d.up p true
        upT := Map.set (fun _ => 0) d.upT p s.deck.ticks
        down := portSet d.down p false
        joined := true
        wrapped := if other then d.wrapped else portSet d.wrapped (1 - p) true })
      s.eachHalf (fun t h =>
        let t := (t.fw (Trk.portStatus h p) 3 0 15).sb (Trk.portStatus h p) 5 false
        t.trkDrain h (t.half h).trk.queue.length)))

/-- A lane's equaliser and eye are measured (R421): once its height has been below 16 for 1 s, LANE_MARGIN is set. -/
def execLaneMargin (p l : Nat) (eq : Word) (s : State) : Host.Outcome State Fault Refusal :=
  .next (s.eachHalf (fun t h =>
    let t := t.wr (Trk.laneEq h p l) eq
    let now := (t.half h).time.ticks
    let since := Map.get (fun _ => 0) (t.half h).trk.eyeLow (4 * p + l)
    let put (n : Nat) : State := t.modTrk h (fun x => { x with eyeLow := Map.set (fun _ => 0) x.eyeLow (4 * p + l) n })
    if 16 ≤ bits eq 23 16 then put 0
    else if since = 0 then put (now + 1)
    else if since + 250000000 ≤ now + 1 then t.sb (Trk.portStatus h p) 8 true
    else t))

/-- The kinds of R425. -/
def frameKinds : List Nat := [1, 2, 3, 0x10, 0x11, 0x12, 0x13]
/-- The 8-byte time field of a CYCLE_START frame advanced by `ns` (R513). -/
def timeAhead (ns : Nat) : List Word → List Word
  | lo :: hi :: rest =>
    let t := lo.toNat + 2 ^ 32 * hi.toNat + ns
    BitVec.ofNat 32 t :: BitVec.ofNat 32 (t / 2 ^ 32) :: rest
  | ws => ws
/-- Port `p` has received a frame of bad CRC in this trunk cycle (R430). -/
def State.portCrcBad (s : State) (p : Nat) : State :=
  let c := s.nodeNow / 50000
  let d := s.deck.trunk
  let last := Map.get (fun _ => 0) d.crcCycle p
  let run := Map.get (fun _ => 0) d.crcRun p
  if last = c ∧ run ≠ 0 then s
  else s.modNode (fun d => { d with
    crcCycle := Map.set (fun _ => 0) d.crcCycle p c
    crcRun := Map.set (fun _ => 0) d.crcRun p (if last + 1 = c then run + 1 else 1) })
/-- A frame reaches the front-end at port `p` (R423, R425, R431, R435): it is removed as the node's own or by HOPS, or sent
on at the other port, or turned back where that one is wrapped; `res` is the residence time of a CYCLE_START (R513). -/
def execTrunkFrameReceive (p : Nat) (f : TrkFrame) (res : Nat) (s : State) : Host.Outcome State Fault Refusal :=
  .next (s.onDeck (fun s => 
    let d := s.deck.trunk
    if d.en = false ∨ portFlag d.opened p = false then s
    else
      let known := frameKinds.contains f.kind
      let s := if f.crcOk = false then (s.portCrcBad p).eachHalf (fun t h => t.sat (Trk.crcErrCnt h))
        else (if known = false then s.eachHalf (fun t h => t.sat (Trk.kindErrCnt h)) else s).eachHalf
          (fun t h => t.tally h (0x0A10 + p))
      let good := f.crcOk && known
      let own := good && decide (f.src = s.node)
      let s := if own ∧ f.nonce ≠ s.nonce ∧ d.dup = false then
          (s.setNode (fun d => { d with dup := true, master := false })).reportDeck 0x0E05 0x11 s.node [f.nonce]
        else s
      let s := if good ∧ f.flags / 2 % 2 = 1 then
          (if d.remote then s.modNode (fun d => { d with wrapSeen := true })
           else s.setNode (fun d => { d with remote := true, wrapSeen := true })) else s
      if (own ∧ f.nonce = s.nonce) ∨ (good ∧ 128 ≤ f.hops) then s
      else
        let d := s.deck.trunk
        let turn := portFlag d.wrapped (1 - p)
        let port := if turn then p else 1 - p
        let span := Map.get (fun _ => 0) d.span p
        let g := if good = false then f
          else TrkFrame.sealed { f with
            hops := f.hops + 1
            flags := if turn then f.flags % 2 + 2 + f.flags / 4 * 4 else f.flags
            payload := if f.kind = 1 then timeAhead (span + res) f.payload else f.payload }
        s.modNode (fun d => { d with out := d.out ++ [(port, g)] })))

/-- A node becomes the master this node hears (R434, R453). -/
def State.masterIs (s : State) (n : Nat) : State :=
  if s.deck.trunk.masterNode = n ∧ s.deck.trunk.noCs < 2 then s.modNode (fun d => { d with sawCs := true })
  else
    let changed := decide (s.deck.trunk.masterNode ≠ n)
    let s := s.setNode (fun d => { d with masterNode := n, sawCs := true, noCs := 0 })
    if changed then s.reportDeck 0x0E06 0x11 n [n] else s
/-- A CYCLE_START frame arrives at port `p` (R433, R434, R513): the master heard, an unwrap plan that names this node, and
with SRC TRUNK a time report of the leader. -/
def execCycleStartReceive (p : Nat) (f : TrkFrame) (s : State) : Host.Outcome State Fault Refusal :=
  .next (s.onDeck (fun s => 
    if f.crcOk = false ∨ f.kind ≠ 1 ∨ s.deck.trunk.en = false ∨ f.src = s.node then s
    else
      let word (i : Nat) : Nat := (f.payload.getD i 0).toNat
      let s := s.masterIs f.src
      let s := if s.deck.trunk.master ∧ f.src < s.node then s.modNode (fun d => { d with stop := true }) else s
      let ctl := word 3
      let s := if ctl / 2 ^ 16 ≠ 0xFFFF ∧ (ctl % 256 = s.node ∨ ctl / 256 % 256 = s.node) then
          s.modNode (fun d => { d with plan := some (ctl % 256, ctl / 256 % 256, ctl / 2 ^ 16) }) else s
      let span := Map.get (fun _ => 0) s.deck.trunk.span p
      s.eachHalf (fun t h =>
        if t.fd (Time.timeCfg h) 1 0 = 2 then
          t.timeReport h ((t.now h : Int) - ((word 0 + 2 ^ 32 * word 1 : Nat) : Int) - (span : Int))
        else t)))

/-- A RING frame (R433): the master keeps each node's flags, and names the pair of a link whose both ends are ready, with
an unwrap cycle 4 ahead. `east` and `west` are the sending node's neighbours. -/
def execRingReceive (f : TrkFrame) (east west : Nat) (s : State) : Host.Outcome State Fault Refusal :=
  .next (s.onDeck (fun s => 
    if f.crcOk = false ∨ f.kind ≠ 3 ∨ s.deck.trunk.en = false then s
    else
      let w := (f.payload.getD 0 0).toNat
      let s := s.modNode (fun d => { d with flags := Map.set (fun _ => 0) d.flags f.src (w % 8) })
      let fl (n : Nat) : Nat := Map.get (fun _ => 0) s.deck.trunk.flags n
      if s.deck.trunk.master = false ∨ s.deck.trunk.plan.isSome then s
      else match s.owner 124 with
        | none => s
        | some h =>
          let c := (s.rn (Trk.cycleNum h) + 4) % 65536
          if w % 2 = 1 ∧ fl east / 2 % 2 = 1 then s.modNode (fun d => { d with plan := some (f.src, east, c) })
          else if w / 2 % 2 = 1 ∧ fl west % 2 = 1 then s.modNode (fun d => { d with plan := some (west, f.src, c) })
          else s))

/-- A wrapped port that has been up for UNWRAP_HOLD is ready to unwrap (R433). -/
def execUnwrapReady (p : Nat) (s : State) : Host.Outcome State Fault Refusal :=
  .next (s.onDeck (fun s => 
    let d := s.deck.trunk
    if portFlag d.up p ∧ portFlag d.wrapped p ∧ Map.get (fun _ => 0) d.upT p + d.hold * 250000000 ≤ s.deck.ticks then
      s.modNode (fun d => { d with
      ready := portSet d.ready p true
      flags := Map.set (fun _ => 0) d.flags s.node ((portFlag d.ready (1 - p)).toNat * 2 ^ (1 - p) + 2 ^ p) })
    else s))
/-- Offset 48 us of the named unwrap cycle (R433): a port of the pair that is up unwraps. -/
def execUnwrap (p : Nat) (s : State) : Host.Outcome State Fault Refusal :=
  .next (s.onDeck (fun s => 
    let d := s.deck.trunk
    match d.plan with
    | none => s
    | some (a, b, c) =>
      if (a = s.node ∨ b = s.node) ∧ portFlag d.up p ∧ portFlag d.wrapped p ∧ s.nodeNow / 50000 % 65536 = c
          ∧ 48000 ≤ s.nodeNow % 50000 then
        (s.setNode (fun d => { d with
          plan := none
          wrapped := portSet d.wrapped p false
          ready := portSet d.ready p false
          flags := Map.set (fun _ => 0) d.flags s.node 0 })).reportDeck 0x0E02 0x13 p [p, c]
      else s))

/-- The latching bypass of a port reaches the position that EN gives it (R446). -/
def execBypassSwitched (p : Nat) (s : State) : Host.Outcome State Fault Refusal :=
  .next (
    let d := s.deck.trunk
    if portFlag d.opened p = d.en then s
    else
      let s := s.setNode (fun d => { d with opened := portSet d.opened p d.en })
      s.reportDeck 0x0E0A 0x13 p [p, (!d.en).toNat])
/-- The bypass-sense contacts are read (R447). -/
def execBaseBypassSense (p : Nat) (closed : Bool) (s : State) : Host.Outcome State Fault Refusal :=
  .next (
    let d := s.deck.trunk
    let bad := closed && portFlag d.opened p
    let s := s.eachHalf (fun t h => t.sb (Trk.portStatus h p) 7 (!closed))
    let s := s.modNode (fun d => { d with baseBad := portSet d.baseBad p bad })
    if bad ∧ portFlag d.baseBad p = false then s.reportDeck 0x0E09 0x13 p [p] else s)
/-- The once-per-cycle probe of a port has measured its upstream span delay (R513). -/
def execSpanProbe (p ns : Nat) (s : State) : Host.Outcome State Fault Refusal :=
  .next (s.onDeck (fun s => s.modNode (fun d => { d with span := Map.set (fun _ => 0) d.span p ns })))

/-! ### The trunk cycle (R426-R428, R433, R434) -/

/-- A commit of the TRK unit (R50, R451). -/
def State.commitTrk (s : State) (h : Half) : State :=
  let s := (s.copyUnit ⟨7, some h, 0⟩).settle h 7
  if s.owns h 124 then s.trkFollow else s
/-- The master's CYCLE_START of half `h` (R425). -/
def State.sendCycleStart (s : State) (h : Half) : State :=
  let f := s.newFrame h 1 0xFF
  let now := s.now h
  let ctl := match s.deck.trunk.plan with
    | some (a, b, c) => a + b * 2 ^ 8 + c * 2 ^ 16
    | none => 0xFFFF0000
  s.nodeSend { f with payload := [now, now / 2 ^ 32, s.rn (Trk.cycleNum h), ctl].map (BitVec.ofNat 32) }
/-- A trunk cycle of half `h` begins (R426, R433, R434, R436, R450): another one than CYCLE_NUM shows. -/
def execTrunkCycle (h : Half) (s : State) : Host.Outcome State Fault Refusal :=
  .next (s.onHalf h (fun s =>
    if s.rg (Trk.cycleNum h) = BitVec.ofNat 32 (s.now h / 50000) then s
    else
    let s := s.wn (Trk.cycleNum h) (s.now h / 50000)
    let s := if s.waiting h 7 then s.commitTrk h else s
    let seen := (s.half h).trk.seen
    let s := (List.range 64).foldl (fun (t : State) (st : Nat) => if seen.contains st then t else t.stnMiss h st) s
    let s := s.modTrk h (fun x => { x with spent := 0, seen := [], slotSent := false })
    let s := if s.owns h 124 ∧ s.deckHears h then
        let d := s.deck.trunk
        let s := s.setNode (fun d => { d with
          out := []
          noCs := if d.sawCs ∨ d.master then 0 else d.noCs + 1
          sawCs := false
          remote := d.remote && d.wrapSeen
          wrapSeen := false
          plan := match d.plan with
            | some (_, _, c) => if (c + 1) % 65536 = s.rn (Trk.cycleNum h) % 65536 then none else d.plan
            | none => none
          master := d.master && !d.stop && d.masterEn
          stop := false })
        if d.inserts then
          let s := if s.deck.trunk.master then s.sendCycleStart h else s
          let f := s.newFrame h 3 0xFF
          let w := (portFlag d.ready 0).toNat + (portFlag d.ready 1).toNat * 2 + d.masterEn.toNat * 4
          s.nodeSend { f with payload := [BitVec.ofNat 32 w] }
        else s
      else s
    s.trkDrain h (s.half h).trk.queue.length))

/-- PUB_LEN in words. -/
def State.pubWords (s : State) (h : Half) : Nat :=
  let n := s.fd (Trk.pubCfg h) 13 0
  (if 16368 < n then 16368 else n) / 4
/-- At SLOT_OFS, once a cycle, the node sends its CYCLIC frame (R425, R426). -/
def execCyclicSlot (h : Half) (s : State) : Host.Outcome State Fault Refusal :=
  .next (s.onHalf h (fun s =>
    if s.owns h 124 ∧ s.deckHears h ∧ s.deck.trunk.inserts ∧ (s.half h).trk.slotSent = false
        ∧ min 4000 (s.fd (Trk.slotCfg h) 12 0) * 10 ≤ s.now h % 50000 then
      let s := s.modTrk h (fun x => { x with slotSent := true })
      let a := h.base + s.fd (Trk.pubBase h) 29 0 * 64
      let f := s.newFrame h 2 0xFF
      let x := s.fresh
      let st := setBit (Config.nodeStatus x.1) 0 false
      let data := (List.range (x.2.pubWords h)).map (fun i => BitVec.ofNat 32 (x.2.memNat (a + 4 * i) 4))
      x.2.nodeSend { f with payload := st :: data }
    else s))

/-- An eligible node that has seen no CYCLE_START in 2 cycles sends one at 0.5 us x its address and is master (R434). -/
def execMasterElection (h : Half) (s : State) : Host.Outcome State Fault Refusal :=
  .next (s.onHalf h (fun s =>
    let d := s.deck.trunk
    if s.owns h 124 ∧ s.deckHears h ∧ d.inserts ∧ d.masterEn ∧ d.master = false ∧ d.sawCs = false ∧ 2 ≤ d.noCs
        ∧ 500 * s.node ≤ s.now h % 50000 then
      ((s.setNode (fun d => { d with master := true })).masterIs s.node).sendCycleStart h
    else s))

/-! ### Stations (R436-R438) -/

/-- The words of a station's data that routes of half `h` name (R438, R608). -/
def State.trunkWords (s : State) (h : Half) (st : Nat) (valid : Bool) (data : List Word) : State :=
  let es := ((s.half h).route).filter (fun e => decide (e.1 < 0x40000) && decide (e.1 % 8 = 0)
    && decide (bits e.2 3 0 = 4) && decide (bits e.2 15 4 = st))
  let ws := es.filterMap (fun e =>
    (data[bits (Map.get (fun _ => 0) (s.half h).route (e.1 + 4)) 11 0]?).map (fun w => (e.1 / 64, e.1 / 8 % 8, w)))
  s.modHalf h (fun x => { x with measTx := x.measTx ++ ws.map (fun w => ⟨w.1, w.2.1, valid, w.2.2⟩) })
/-- A CYCLIC frame of a station reaches both halves (R436, R437, R438). -/
def execCyclicReceive (f : TrkFrame) (s : State) : Host.Outcome State Fault Refusal :=
  .next (s.onDeck (fun s => 
    if f.crcOk = false ∨ f.kind ≠ 2 ∨ s.deck.trunk.en = false ∨ f.src = s.node ∨ 64 ≤ f.src then s
    else s.eachHalf (fun t h =>
      let c := t.rn (Trk.cycleNum h)
      if f.cycle ≠ c % 65536 ∧ (f.cycle + 1) % 65536 ≠ c % 65536 then t
      else
        let st := f.src
        let status := f.payload.headD 0
        let data := f.payload.drop 1
        let t := t.modTrk h (fun x => { x with seen := if x.seen.contains st then x.seen else x.seen ++ [st] })
        let t := t.fw (Trk.stnStatus h st) 15 8 0
        let t := if bit status 0 then t.stnDown h st 2 else t.stnUp h st
        let t := if t.bt (Trk.stnCfg h st) 1 then
            t.imageTo h (0x10000 + 0x4000 * st)
              ([t.rn (Trk.stnStatus h st), c, t.now h % 2 ^ 32, status.toNat] ++ (data.take 4092).map BitVec.toNat)
          else t
        t.trunkWords h st (decide (t.fd (Trk.stnStatus h st) 2 0 = 1)) data)))
/-- STN_TIMEOUT cycles in a row without a frame (R436). -/
def execStationTimeout (h : Half) (st : Nat) (s : State) : Host.Outcome State Fault Refusal :=
  .next (s.onHalf h (fun s =>
    if s.stnLive h st ∧ s.stnTimeout h ≤ s.fd (Trk.stnStatus h st) 15 8 then (s.stnDown h st 1).stnWord h st else s))

/-! ### Posted writes and tagged reads (R439-R445) -/

/-- PDESC.COUNT or RDESC.COUNT, station and group of a posting port's descriptor. -/
def State.postDesc (s : State) (a : Nat) : Nat × Nat × Nat := (s.fd a 5 0, s.fd a 10 8, s.fd a 23 16 + 1)
/-- A write of PGO (R439-R441). DEDUCED: note 98. -/
def execPgo (h : Half) (c : Nat) (val : Word) (s : State) : Host.Outcome State Fault Refusal :=
  .next (s.onHalf h (fun s =>
    if bit val 0 = false then s
    else
      let d := s.postDesc (Trk.pdesc h c)
      let ws := (List.range d.2.2).map (fun k => s.rg (Trk.pdata h c k))
      let r := s.trkIssue h false c d.1 d.2.1 (s.rn (Trk.paddr h c)) d.2.2 ws
      r.2.2.wn (Trk.pstatus h c) (r.2.1 + r.1 * 4096)))
/-- A write of RGO (R445, R451): RDESC.COUNT above 63 is BAD_DESC. -/
def execRgo (h : Half) (c : Nat) (val : Word) (s : State) : Host.Outcome State Fault Refusal :=
  .next (s.onHalf h (fun s =>
    if bit val 0 = false then s
    else
      let d := s.postDesc (Trk.rdesc h c)
      if 64 < d.2.2 then s.wn (Trk.rstatus h c) (5 * 4096)
      else
        let r := s.trkIssue h true c d.1 d.2.1 (s.rn (Trk.raddr h c)) d.2.2 []
        r.2.2.wn (Trk.rstatus h c) (r.2.1 + r.1 * 4096)))

/-- The half that an answer is for (R425). -/
def TrkHalf (f : TrkFrame) : Half := if f.flags % 2 = 0 then .a else .b
/-- The open transaction that an answer names. -/
def State.opOf (s : State) (h : Half) (read : Bool) (f : TrkFrame) : Option TrkOp :=
  (s.half h).trk.ops.find? (fun o => (o.read == read) && decide (o.tag = f.tag % 4096) && decide (o.station = f.src)
    && decide (o.seq = f.seq))
/-- A station's STATUS as a cause (R442): an unlisted one counts and is REFUSED_STATE. -/
def State.stationCause (s : State) (h : Half) (status : Nat) : Nat × State :=
  if status ≤ 5 then (status, s) else (3, s.sat (Trk.kindErrCnt h))
/-- Whether the 2.000 ms of an open transaction have passed in full (R441, R445). -/
def State.opLate (s : State) (h : Half) (o : TrkOp) : Bool := decide (o.made + 500000 < (s.half h).time.ticks)
/-- An ACK frame (R441, R442); one after the 2.000 ms counts as late. -/
def execAckReceive (f : TrkFrame) (s : State) : Host.Outcome State Fault Refusal :=
  .next (s.onDeck (fun s => 
    let h := TrkHalf f
    if f.crcOk = false ∨ f.kind ≠ 0x11 ∨ f.dst ≠ s.node ∨ s.deck.trunk.en = false ∨ s.deckHears h = false then s
    else match s.opOf h false f with
      | none => s.sat (Trk.lateAckCnt h)
      | some o =>
        if s.opLate h o then s.sat (Trk.lateAckCnt h) else
        let c := s.stationCause h ((f.payload.getD 0 0).toNat % 256)
        let s := (c.2.opDone h o.tag).tally h 0x0A13
        if c.1 = 0 then s else s.postFail h o c.1 true))
/-- An RDATA frame (R445). -/
def execRdataReceive (f : TrkFrame) (s : State) : Host.Outcome State Fault Refusal :=
  .next (s.onDeck (fun s => 
    let h := TrkHalf f
    if f.crcOk = false ∨ f.kind ≠ 0x13 ∨ f.dst ≠ s.node ∨ s.deck.trunk.en = false ∨ s.deckHears h = false then s
    else match s.opOf h true f with
      | none => s
      | some o =>
        let c := s.stationCause h ((f.payload.getD 0 0).toNat % 256)
        (c.2.opDone h o.tag).readEnd h o c.1 ((f.payload.drop 1).take o.count)))
/-- A POST or READ addressed to this node (R442): answered REFUSED_ADDR by the half that owns the trunk. -/
def execPostReceive (f : TrkFrame) (s : State) : Host.Outcome State Fault Refusal :=
  .next (s.onDeck (fun s => 
    if f.crcOk = false ∨ (f.kind ≠ 0x10 ∧ f.kind ≠ 0x12) ∨ f.dst ≠ s.node ∨ s.deck.trunk.en = false then s
    else match s.owner 124 with
      | none => s
      | some h =>
        if s.deckHears h = false then s
        else
          let g := s.newFrame h (f.kind + 1) f.src
          s.trkQueue h { g with flags := f.flags % 2, seq := f.seq, tag := f.tag, payload := [1] }))

/-- 2.000 ms after PGO without an ACK (R441). -/
def execPostTimeout (h : Half) (tag : Nat) (s : State) : Host.Outcome State Fault Refusal :=
  .next (s.onHalf h (fun s =>
    match (s.half h).trk.ops.find? (fun o => !o.read && decide (o.tag = tag)) with
    | none => s
    | some o => if o.made + 500000 ≤ (s.half h).time.ticks then (s.opDone h tag).postFail h o 0x10 true else s))
/-- 2.000 ms after RGO without an answer (R445). -/
def execReadTimeout (h : Half) (tag : Nat) (s : State) : Host.Outcome State Fault Refusal :=
  .next (s.onHalf h (fun s =>
    match (s.half h).trk.ops.find? (fun o => o.read && decide (o.tag = tag)) with
    | none => s
    | some o => if o.made + 500000 ≤ (s.half h).time.ticks then (s.opDone h tag).readEnd h o 0x10 [] else s))
/-- A write of FENCE_CLR (R443): the next frame to the group carries RESYNC. -/
def execFenceClr (h : Half) (val : Word) (s : State) : Host.Outcome State Fault Refusal :=
  .next (s.onHalf h (fun s =>
    let g := bits val 8 0
    if s.fenced h g = false then s
    else
      let s := s.setMapBit (Trk.fenceMap h 0) g false
      (s.modTrk h (fun x => { x with known := x.known.filter (· != g) })).report h 0x0E08 0x12 g [g]))

/-- TRK_CMD.CLEAR_COUNTS (R451): the counters, the DOWN_CNT fields and the LANE_MARGIN timers. -/
def execTrkClearCounts (h : Half) (s : State) : Host.Outcome State Fault Refusal :=
  .next (s.onHalf h (fun s =>
    let s := (s.modTrk h (fun x => { x with eyeLow := [] }))
    let s := [Trk.crcErrCnt h, Trk.kindErrCnt h, Trk.wrapCnt h, Trk.postSentCnt h, Trk.postFailCnt h, Trk.lateAckCnt h,
      Trk.postfailLost h].foldl (fun (t : State) (a : Nat) => t.wr a 0) s
    let s := (List.range 2).foldl (fun (t : State) (p : Nat) => t.fw (Trk.portStatus h p) 31 16 0) s
    (List.range 64).foldl (fun (t : State) (st : Nat) => t.fw (Trk.stnStatus h st) 31 16 0) s))

end Sys2Proof.Machine
end

