-- ==== Sys2Proof/Machine/Loader.lean ====
section
/-! DEFINITION. The image loader's commands (R83-R101, R580, R608): checks, stores, partner copies, the start image,
marking, pairing and the commit of every kind of region. -/
namespace Sys2Proof.Machine

/-! ### IMG_CMD (R83, R92, R99, R100) -/

/-- A command or a staging write is ignored: group 17 is pending, or a check or copy runs (R92). -/
def State.imgBusy (s : State) (h : Half) : Bool :=
  let st := s.fd (Mod.imgStatus h) 2 0
  s.pend h 17 || decide (st = 1) || decide (st = 6)
/-- A command of the loader: refused under a condition with CMD_REFUSED, which an accepted one clears. -/
def State.imgCmd (s : State) (h : Half) (bad : Bool) (f : State → State) : State :=
  if bad then s.sb (Mod.imgStatus h) 10 true else f (s.sb (Mod.imgStatus h) 10 false)
/-- IMG_CMD.CHECK. -/
def execImageCheck (h : Half) (s : State) : Host.Outcome State Fault Refusal :=
  .next (s.onHalf h (fun s => s.imgCmd h (s.imgBusy h) (fun s =>
    (s.modImg h (fun x => { x with copying := none, auto := false })).imgBegin h)))
/-- The partner's active image, as a full image. DEDUCED: note 63. -/
def State.partnerImage (s : State) (h : Half) : Option StoredImg :=
  if s.mirrorUp ∧ s.runs h.other ∧ s.hasImage h.other then some ⟨s.activeId h.other, (s.half h.other).img.active⟩ else none
/-- The copy of the partner's image begins: COPYING; `auto` says that the half itself copies, and will strobe it (R100). -/
def State.copyBegin (s : State) (h : Half) (x : StoredImg) (auto : Bool) : State :=
  (s.modImg h (fun y => { y with copying := some x, auto := auto })).fw (Mod.imgStatus h) 2 0 6
/-- IMG_CMD.PARTNER_COPY. -/
def execImagePartnerCopy (h : Half) (s : State) : Host.Outcome State Fault Refusal :=
  .next (s.onHalf h (fun s =>
    match s.partnerImage h with
    | some x => s.imgCmd h (s.imgBusy h) (fun s => s.copyBegin h x false)
    | none => s.imgCmd h true id))
/-- The copy has arrived whole in the raw staging area: its check starts. -/
def execPartnerCopyDone (h : Half) (s : State) : Host.Outcome State Fault Refusal :=
  .next (s.onHalf h (fun s =>
    if s.fd (Mod.imgStatus h) 2 0 ≠ 6 ∨ s.mirrorUp = false ∨ s.runs h.other = false then s
    else match (s.half h).img.copying with
      | some x => (s.putImage h x).imgBegin h
      | none => s))
/-- IMG_CMD.STORE: the former ACTIVE image becomes PREVIOUS, and the active image is written (R99).
DEDUCED: notes 63, 64. -/
def execImageStore (h : Half) (s : State) : Host.Outcome State Fault Refusal :=
  .next (s.onHalf h (fun s =>
    let bad := s.imgBusy h || decide (s.fd (Mod.imgStatus h) 13 12 = 1) || !s.hasImage h
    s.imgCmd h bad (fun s =>
      let id := s.activeId h
      (s.modImg h (fun x => { x with
        slotP := if x.slotA.isSome then x.slotA else x.slotP
        slotA := none
        storing := some ⟨id, x.active⟩ })).fw (Mod.imgStatus h) 13 12 1)))
/-- The store ends. DEDUCED: note 64. -/
def execImageStoreDone (h : Half) (ok : Bool) (s : State) : Host.Outcome State Fault Refusal :=
  .next (s.onHalf h (fun s => match (s.half h).img.storing with
    | none => s
    | some x =>
      let s := s.modImg h (fun y => { y with
        storing := none
        slotA := if ok then some x else none })
      (s.fw (Mod.imgStatus h) 13 12 (if ok then 2 else 3)).raise h 11))

/-! ### Marking and pairing (R51, R93, R96) -/

/-- A region that waits is abandoned, with a cause (R93). -/
def State.regionDrop (s : State) (h : Half) (r cause used : Nat) : State :=
  match s.readyCopy h r with
  | none => s
  | some c =>
    let s := s.imgReport h cause r (regionOf r).1 c.pos 0 0 used c.sid
    let s := (s.regionUnmark h r).modImg h (fun x => { x with actBad := true })
    let s := if 2 ≤ r ∧ r < 4098 then s.planDrop h (r - 2) else s
    (s.raise h 10).imgSettle h
/-- CRC of the section under which half `h` has marked region `r`. DEDUCED: note 67. -/
def State.markCrc (s : State) (h : Half) (r : Nat) : Option Nat :=
  if s.regionMarked h r then (s.readyCopy h r).map (fun c => c.crc) else none
/-- Half `h` learns of its partner's mark of region `r` (R93): paired, or both abandon it, but for a half whose
regions need no pairing. DEDUCED: note 67. -/
def State.pairMark (s : State) (h : Half) (r : Nat) : State :=
  match s.markCrc h r, s.markCrc h.other r with
  | some a, some b =>
    if (s.half h).img.actFree then s
    else if a = b then s.modImg h (fun x => { x with paired := if x.paired.contains r then x.paired else x.paired ++ [r] })
    else
      let s := s.regionDrop h r 0x16 0
      if (s.half h.other).img.actFree then s else s.regionDrop h.other r 0x16 0
  | none, some b => s.modImg h (fun x => { x with partnerMark := Map.ins x.partnerMark r b })
  | _, none => s
/-- A strobe of group 17 (R51, R93, R96, R169, R173). -/
def State.imgStrobe (s : State) (h : Half) : State :=
  if s.pend h 17 then s.strobeGroup h 17
  else
    let s := s.strobeGroup h 17
    let now := s.now h
    let s := s.modHalf h (fun x => { x with strobeT := Map.set (fun _ => 0) x.strobeT 17 now })
    let s := s.modImg h (fun x => { x with
      actId := x.newId
      actBad := x.newBad
      actAny := x.newMod.isSome
      actFree := x.newFree
      active := match x.newMod with
        | some c => x.active.map (fun e => if e.1 = 0 then (0, { e.2 with sid := x.newId, crc := c }) else e)
        | none => x.active
      newMod := none })
    let s := s.fw (Mod.imgStatus h) 2 0 3
    let rs := (s.marked.filter (fun u => decide (u.grp = 17) && u.half == some h)).map (fun u => u.idx)
    let s := if (s.half h).img.newFull then s.planPlaces h rs else s
    rs.foldl (fun (t : State) (r : Nat) =>
      let t := if 2 ≤ r ∧ r < 4098 then t.loopReserve h r else t
      if ((t.half h).img.partnerMark.any (fun e => decide (e.1 = r))) then t.pairMark h r else t) s
/-- The partner's mark of a region arrives over the mirror link. -/
def execRegionPairMark (h : Half) (r : Nat) (s : State) : Host.Outcome State Fault Refusal :=
  .next (s.onHalf h (fun s => if s.mirrorUp ∧ s.runs h.other then s.pairMark h r else s))
/-- IMG_PAIR_TIMEOUT ms have passed since the strobe without the partner's mark (R93). -/
def execPairTimeout (h : Half) (r : Nat) (s : State) : Host.Outcome State Fault Refusal :=
  .next (s.onHalf h (fun s =>
    let ms := clampNat 1 10000 (s.fd (Mod.imgPairTimeout h) 13 0)
    if s.regionMarked h r ∧ s.pairOk h r = false ∧ Map.get (fun _ => 0) (s.half h).strobeT 17 + ms * 1000000 ≤ s.now h then
      s.regionDrop h r 0x12 0
    else s))

/-! ### The commit of a region (R78, R82, R94, R95) -/

/-- The resource group whose owner writes a field-deck region (R27, R95). -/
def regionRes (ty idx : Nat) : Option Nat :=
  match regionAddr ty idx 0 with
  | some a => if isDeckBlock a then some (resGroup a) else none
  | none => none
/-- The units of a region's target (R50). -/
def regionUnits (h : Half) (ty idx : Nat) : List CUnit :=
  match ty with
  | 0x01 => [⟨0, some h, 0⟩, ⟨6, some h, 0⟩]
  | 0x02 => [⟨1, some h, 0⟩]
  | 0x20 => [⟨9, none, idx⟩]
  | 0x21 => (List.range 32).map (fun k => ⟨10, none, 32 * idx + k⟩)
  | 0x22 => [⟨11, none, idx⟩]
  | 0x23 => [⟨13, none, idx⟩]
  | 0x24 => [⟨12, none, idx⟩]
  | 0x40 => [⟨5, none, 0⟩]
  | 0x50 => [⟨8, some h, idx⟩]
  | 0x60 => [⟨16, some h, idx⟩]
  | 0x70 => [⟨14, some h, 0⟩]
  | 0x80 => [⟨7, some h, 0⟩]
  | 0x90 => [⟨15, none, 0⟩]
  | _ => []
/-- The registers of a region's target take its words, and dirty marks of software are overridden (R94). -/
def State.regionWrite (s : State) (h : Half) (r : Nat) (c : RegCopy) : State :=
  let x := regionOf r
  ((regionUnits h x.1 x.2).foldl (fun (t : State) (u : CUnit) => t.overrode h r c u) s).regionRegs h r c
/-- The route table of the half takes a new region 0 (R608): changed entries wait for their loop's boundary.
DEDUCED: note 66. -/
def State.routeHalf (s : State) (h : Half) (c : RegCopy) : State :=
  let new : Map Word := if c.remove then [] else c.words
  let old := (s.half h).route
  let offs := ((new ++ old).map (·.1)).filter (fun o => Map.get (fun _ => 0) new o != Map.get (fun _ => 0) old o)
  let loops := (offs.map (fun o => if o < 0x40000 then o / 64 else (o - 0x40000) / 32)).eraseDups
  s.modHalf h (fun x => { x with routeNew := new, routeDue := loops })
/-- The deck I/O fabric's table takes a new region 1 (R608): an entry that names a loop before or after waits for that loop's
boundary, any other switches at once. DEDUCED: note 66. -/
def State.routeDeck (s : State) (c : RegCopy) : State :=
  let new : Map Word := if c.remove then [] else c.words
  let old := s.deck.route
  let g (m : Map Word) (o : Nat) : Word := Map.get (fun _ => 0) m o
  let offs := (((new ++ old).map (·.1)).filter (fun o => g new o != g old o)).eraseDups
  let due := offs.flatMap (fun o =>
    (if bit (g old o) 31 then [(o, bits (g old o) 11 0)] else []) ++ (if bit (g new o) 31 then [(o, bits (g new o) 11 0)] else []))
  let free := offs.filter (fun o => !bit (g old o) 31 && !bit (g new o) 31)
  s.modDeck (fun d => { d with
    routeNew := new
    routeDue := due
    route := free.foldl (fun (m : Map Word) (o : Nat) => Map.set (fun _ => 0) m o (g new o)) d.route })
/-- CONFIG_CRC of the newest change-log entry of kind COMMIT or IMAGE_COMMIT (R580). -/
def State.chgCrc (s : State) : Option Nat :=
  let n := s.deck.lid.entries
  let e (q w : Nat) : Word := s.rg (Lid.chgLog (q % 4096) w)
  ((((List.range (if n < 4096 then n else 4096)).map (fun i => n - 1 - i)).find? (fun q =>
    decide (bits (e q 4) 23 16 = 1) || decide (bits (e q 4) 23 16 = 2)))).map (fun q => (e q 5).toNat)
/-- A LID region is refused at its commit point (R87). DEDUCED: note 69. -/
def State.lidRegionOut (s : State) (h : Half) (r reason : Nat) : State := (s.regionDrop h r 0x15 reason).chgEntry h 9 0 0
/-- A LID region commits into Lid, with the change-log entry (R313, R315). DEDUCED: note 69. -/
def State.lidRegionIn (s : State) (h : Half) (r : Nat) (c : RegCopy) : State :=
  let o := s
  let s := (s.regionWrite h r c).lidApply o
  (s.chgEntry h 2 0 c.sid).regionFinish h r c
/-- CONFIG_CRC that a LID region would produce (R316). -/
def State.regionCrc (s : State) (c : RegCopy) : Nat :=
  (configCrcOf (if c.remove then fun a => (resetWord s.deck.straps a).toNat else lidWord c)).toNat
/-- Whether a LID region of a start image commits without a token (R580). -/
def State.startFree (s : State) (c : RegCopy) : Bool := !s.bt Lid.lidStatus 0 && decide (s.chgCrc = some (s.regionCrc c))
/-- A LID region at its commit point (R87, R313, R580). DEDUCED: note 69. -/
def State.lidRegion (s : State) (h : Half) (r : Nat) (c : RegCopy) : State :=
  if s.owns h 125 = false ∨ (s.bt Lid.lidStatus 0 ∧ s.regionCrc c = s.rn Lid.configCrc) then s.regionFinish h r c
  else if s.locked h 5 then s.lidRegionOut h r 2
  else if s.lidCanCommit = false then s
  else if (s.half h).img.starting ∧ s.startFree c then s.lidRegionIn h r c
  else
    let t := s.tokenCheck h Lid.tokenLo Lid.tokenHi 1
    if t.1 then t.2.lidRegionIn h r c else t.2.lidRegionOut h r 1
/-- The Lid start commit of a half that becomes LEAD (R578, R580): the LID region that its start image recorded goes into Lid,
or is refused and undefined. DEDUCED: note 169. -/
def State.startLid (s : State) (h : Half) (c : RegCopy) : State :=
  let out (t : State) (reason : Nat) : State :=
    let t := (t.imgReport h 0x15 4476 0x40 c.pos 0 0 reason c.sid).modImg h (fun x => { x with active := Map.del x.active 4476 })
    ((t.sb (Mod.imgStatus h) 11 true).raise h 10).chgEntry h 9 0 0
  let in_ (t : State) : State := ((t.regionWrite h 4476 c).lidApply t).chgEntry h 2 0 c.sid
  if s.bt Lid.lidStatus 0 ∧ s.regionCrc c = s.rn Lid.configCrc then s
  else if s.locked h 5 then out s 2
  else if s.lidCanCommit = false then out s 5
  else if s.startFree c then in_ s
  else
    let t := s.tokenCheck h Lid.tokenLo Lid.tokenHi 1
    if t.1 then in_ t.2 else out t.2 1
/-- The CAN objects of a port take their image values (R490). -/
def State.canRegion (s : State) (h : Half) (p : Nat) (c : RegCopy) : State :=
  let c' : RegCopy := if c.remove then { c with words := [] } else c
  (List.range 2048).foldl (fun (t : State) (k : Nat) => t.canObjImage h p k (fun o => c'.raw (0x10000 + 0x60 * k + o))) s
/-- The effect of a region's commit on its target. -/
def State.regionApply (s : State) (h : Half) (r : Nat) (c : RegCopy) : State :=
  let x := regionOf r
  let o := s
  match x.1 with
  | 0x02 => (s.regionWrite h r c).commitTime h
  | 0x20 => (s.regionWrite h r c).commitAnc o x.2
  | 0x21 => (List.range 32).foldl (fun (t : State) (k : Nat) => t.commitDin o (32 * x.2 + k)) (s.regionWrite h r c)
  | 0x22 => (s.regionWrite h r c).commitDo x.2
  | 0x23 => (s.regionWrite h r c).commitDrv o x.2
  | 0x24 => (s.regionWrite h r c).commitMot o x.2
  | 0x30 => if x.2 = 0 then s.routeHalf h c else s.routeDeck c
  | 0x50 => ((s.regionWrite h r c).commitCan h x.2).canRegion h x.2 c
  | 0x80 => let t := s.regionWrite h r c; if t.owns h 124 then t.trkFollow else t
  | _ => s.regionWrite h r c
/-- A region of the start image whose resource group has no owner yet waits for the half's lead (R94, R98, R578).
DEDUCED: note 169. -/
def State.deckWait (s : State) (h : Half) (r g : Nat) : State :=
  if (s.half h).img.starting ∧ s.owner g = none then
    s.modImg h (fun x => { x with deckDue := if x.deckDue.contains r then x.deckDue else x.deckDue ++ [r] })
  else s
/-- At its start a half becomes LEAD: the field-deck regions that its start image recorded go into the field deck that it now
owns (R98, R578). DEDUCED: note 169. -/
def State.startDeck (s : State) (h : Half) : State :=
  let due := (s.half h).img.deckDue
  due.foldl (fun (t : State) (r : Nat) => match t.activeCopy h r with
    | some c => if r = 4476 then t.startLid h c else t.regionApply h r c
    | none => t) (s.modImg h (fun x => { x with deckDue := [] }))
/-- A marked region reaches its commit point (R94): it waits for its pairing, for a commit of its target's own group, and a LOOP
region also for the end of a snapshot (R95). -/
def State.regionCommit (s : State) (h : Half) (r : Nat) : State :=
  let x := regionOf r
  match s.readyCopy h r with
  | none => s
  | some c =>
    if s.regionMarked h r = false ∨ s.pairOk h r = false ∨ (regionUnits h x.1 x.2).any (fun u => s.marked.contains u) then s
    else if x.1 = 0x10 then
      (if (s.half h).snap.reached then s
       else match s.slotOf h (r - 2) with
        | some q => if s.slotMarked h q then s else s.loopCommit h (r - 2) c
        | none => s.loopCommit h (r - 2) c)
    else if x.1 = 0x60 then
      (if (s.task h x.2).prep = 3 ∧ (s.task h x.2).phase = 0 then s.taskSwitch h x.2 else s)
    else if x.1 = 0x40 then (s.deckWait h r 125).lidRegion h r c
    else match regionRes x.1 x.2 with
      | some g =>
        if s.owns h g then (s.regionApply h r c).regionFinish h r c
        else (s.deckWait h r g).regionFinish h r c
      | none => (s.regionApply h r c).regionFinish h r c
/-- A paired region reaches its commit point. The first active image decides the half's role (R98, R393). -/
def execRegionCommit (h : Half) (r : Nat) (s : State) : Host.Outcome State Fault Refusal :=
  .next (s.onHalf h (fun s => ((s.regionCommit h r).startRole h).joinCheck h))
/-- 60 s without a commit point for a commit of group 5, or for a LID region that is marked (R87, R313). -/
def execAbandonedTripped (s : State) : Host.Outcome State Fault Refusal :=
  .next (
    let s := if s.marked.contains lidUnit ∧ s.deck.lid.waitT + 15000000000 ≤ s.deck.ticks then
        (((s.abandonUnit lidUnit).settle .a 5)).lidCommitOut s.deck.lid.waitH 3
      else s
    let f (s : State) (h : Half) : State :=
      if s.regionMarked h 4476 ∧ s.lidCanCommit = false
          ∧ Map.get (fun _ => 0) (s.half h).strobeT 17 + 60000000000 ≤ s.now h then s.lidRegionOut h 4476 5
      else s
    f (f s .a) .b)

/-! ### Start image and image comparison (R98, R100) -/

/-- The halves compare their active image IDs (R100): the half that must copy starts a partner copy. -/
def State.imageCompare (s : State) : State :=
  if s.mirrorUp = false ∨ s.runs .a = false ∨ s.runs .b = false ∨ s.activeId .a = s.activeId .b then s
  else
    let h : Half := if s.hstate .a = 4 then .b
      else if s.hstate .b = 4 then .a
      else if s.hasImage .a = false then .a
      else if s.hasImage .b = false then .b
      else if s.preferred .a then .b else .a
    match s.partnerImage h with
    | some x => if s.imgBusy h then s else s.copyBegin h x true
    | none => s
/-- The mirror link comes up (R26, R100). -/
def execMirrorLinkUp (s : State) : Host.Outcome State Fault Refusal :=
  .next (
    let f (t : State) (h : Half) : State := (t.modHalf h (fun x => { x with link := { x.link with mirror := 255 } })).linkAlarm h
    (({ f (f s .a) .b with mirrorUp := true }).imageCompare))
/-- The check ends (R83, R84). An accepted copy that the half itself asked for is strobed by it (R100).
DEDUCED: note 70. -/
def execImageCheckDone (h : Half) (s : State) : Host.Outcome State Fault Refusal :=
  .next (s.onHalf h (fun s =>
    if s.fd (Mod.imgStatus h) 2 0 ≠ 1 then s
    else
      let x := (s.half h).img
      let s := (s.modImg h (fun y => { y with copying := none, auto := false })).checkRaw h x.chkLen x.copying.isSome
      if x.auto = false ∨ s.fd (Mod.imgStatus h) 2 0 = 4 then s else s.imgStrobe h))
/-- The sources of the start image in order of trial (R98): 1 flash ACTIVE, 2 flash PREVIOUS, 3 partner or network.
DEDUCED: note 65. -/
def startSources (strap : Nat) : List Nat := if strap = 1 then [3, 1, 2] else if strap = 2 then [3] else [1, 2]
/-- One source is tried: its image goes into the raw staging area, is checked there, and strobed where the check accepts it (R98). DEDUCED: note 65. -/
def State.trySource (s : State) (h : Half) (strap src len : Nat) : State :=
  let x := (s.half h).img
  let img := if src = 1 then x.slotA else if src = 2 then x.slotP else if strap = 1 then s.partnerImage h else none
  let check (t : State) : State :=
    let t := t.imgBegin h
    t.checkRaw h (t.half h).img.chkLen true
  let s := if src = 3 ∧ strap = 2 then (if len = 0 then s else check (s.fw (Mod.imgLen h) 29 0 len))
    else match img with
      | some y => check (s.putImage h y)
      | none => s
  if s.fd (Mod.imgStatus h) 2 0 = 2 then
    ((s.modImg h (fun y => { y with starting := true })).fw (Mod.imgSource h) 5 4 src).imgStrobe h
  else s
/-- The start image is read, checked and strobed by the half, source after source (R98); `len` is the length of an image that the
management port has downloaded (NET). When every source has failed the half enters NO_IMAGE. DEDUCED: note 65. -/
def execStartImageLoaded (h : Half) (len : Nat) (s : State) : Host.Outcome State Fault Refusal :=
  .next (s.onHalf h (fun s =>
    if s.pend h 17 then s
    else if s.hasImage h then
      (((s.modImg h (fun x => { x with starting := false })).imageCompare).startRole h)
    else
      let strap := s.fd (Mod.straps h) 10 9
      let s := (s.fw (Mod.imgSource h) 1 0 strap).sb (Mod.imgSource h) 2 (decide (strap = 3))
      let s := (startSources strap).foldl (fun (t : State) (src : Nat) =>
        let n := (t.half h).img.trial
        let pos := ((startSources strap).takeWhile (fun k => decide (k ≠ src))).length
        if t.pend h 17 ∨ pos < n ∨ (strap = 2 ∧ len = 0) then t
        else (t.modImg h (fun x => { x with trial := pos + 1 })).trySource h strap src len) s
      if s.pend h 17 ∨ (strap = 2 ∧ len = 0) then s
      else
        let s := ((s.modImg h (fun x => { x with starting := false })).fw (Mod.imgSource h) 5 4 0).fw (Mod.imgStatus h) 2 0 5
        (s.setHState h 1).imageCompare))

end Sys2Proof.Machine
end

