-- ==== Sys2Proof/Machine/Time.lean ====
section
/-! DEFINITION. The commands of the time base (chapter 17). -/
namespace Sys2Proof.Machine

/-- A read of NOW_LO: the value goes to the core, bits [63:32] to its latch (R508). -/
def execTimeNowLoRead (h : Half) (core : Nat) (s : State) : Host.Outcome State Fault Refusal :=
  .next (s.onHalf h (fun s => s.modHalf h (fun x => { x with
    readData := Map.set (fun _ => 0) x.readData core (BitVec.ofNat 32 (s.now h))
    time := { x.time with latchTime := Map.set (fun _ => 0) x.time.latchTime core (BitVec.ofNat 32 (s.now h / 2 ^ 32)) } })))

/-- OFFSET_REPORT: accepted only with SRC PTP and SERVO EXTERNAL in the time leader (R509, R523). DEDUCED: note 139. -/
def execOffsetReport (h : Half) (ns : Int) (s : State) : Host.Outcome State Fault Refusal :=
  .next (s.onHalf h (fun s =>
    if s.fd (Time.timeCfg h) 1 0 = 1 ∧ s.bt (Time.timeCfg h) 2 then s.timeReport h ns else s))

/-- A PTP event message: the record in Tray 3, the port state, UTC offset of an Announce, and with SRC PTP and SERVO
FIRMWARE the derived offset (kind 7) as a report (R512, R526). A message of another domain is not processed. -/
def execPtpMessage (h : Half) (kind seq domain stamp : Nat) (value : Int) (port : Nat) (utc : Option Nat) (s : State) :
    Host.Outcome State Fault Refusal :=
  .next (s.onHalf h (fun s =>
    let s := s.fw (Time.timeStatus h) 23 16 port
    if domain ≠ s.fd (Time.ptpCfg h) 6 0 then s
    else
      let t := if s.timeState h = 0 then 0 else stamp % 2 ^ 63
      let s := s.trayRecord h 3 [BitVec.ofNat 64 (kind + seq * 2 ^ 8 + domain * 2 ^ 24), BitVec.ofNat 64 t,
        BitVec.ofNat 64 (patOf 63 value), BitVec.ofNat 64 (port % 16)]
      let s := match utc with
        | some u => s.fw (Time.utcOffset h) 15 0 u
        | none => s
      if kind = 7 ∧ s.fd (Time.timeCfg h) 1 0 = 1 ∧ s.bt (Time.timeCfg h) 2 = false then s.timeReport h value else s))

/-- No report for LOSS x 100 ms: HOLDOVER (R509, R522). With no source (SRC NONE) the state stays. -/
def execTimeSourceLoss (h : Half) (s : State) : Host.Outcome State Fault Refusal :=
  .next (s.onHalf h (fun s =>
    let src := s.fd (Time.timeCfg h) 1 0
    let st := s.timeState h
    let t := (s.half h).time
    if (st = 1 ∨ st = 2) ∧ (src = 1 ∨ src = 2)
        ∧ t.lastRep + clampNat 1 31 (s.fd (Time.timeCfg h) 7 3) * 25000000 ≤ t.ticks then (s.enterHoldover h).report h 0x1106 1 h.num [src] else s))

/-- HOLD_MIN minutes of holdover have passed: UNSYNC, the frozen addend staying in force (R509). -/
def execHoldoverExpire (h : Half) (s : State) : Host.Outcome State Fault Refusal :=
  .next (s.onHalf h (fun s =>
    let t := (s.half h).time
    if s.timeState h = 3 ∧ t.holdT + max 1 (s.fd (Time.timeCfg h) 15 8) * 15000000000 ≤ t.ticks then s.setTimeState h 4 else s))

/-- A follower adopts its leader's time by a step (R511), its timers with it (R335), and its sample clocks wait as R517 says. -/
def State.peerStepAll (s : State) (h : Half) (offset : Int) : State :=
  ((s.peerStep h offset).stepTimers h (-offset)).modTime h (fun x => { x with
    peerBad := none
    sclkStepped := x.sclkLast.map (·.1) })
/-- The leader's ship time arrives, `offset` ns being own minus partner after the latency correction (R510, R511).
DESIGN CHOICE: notes 14, 43. -/
def execPeerTimeMessage (h : Half) (offset : Int) (s : State) : Host.Outcome State Fault Refusal :=
  .next (s.onHalf h (fun s =>
    let lead := s.timeState h.other
    let s := s.wr (Time.peerOffset h) (satNs offset)
    if s.shouldFollow h = false then s.becomeTimeLeader h (s.half h).time.partnerState
    else
      let s := if (s.half h).time.following then s
        else ((s.modTime h (fun x => { x with following := true })).setTimeState h 5).report h 0x1104 1 h.num [0]
      let s := s.modTime h (fun x => { x with
        partnerState := lead
        peerT := x.ticks
        everSet := x.everSet || decide (lead ≠ 0) })
      if 1000 < offset.natAbs then
        (if s.hstate h ≤ 1 then s.peerStepAll h offset
         else s.modTime h (fun x => { x with peerBad := some (x.peerBad.getD x.ticks) }))
      else
        let s := (s.sb (Time.timeStatus h) 6 false).modTime h (fun x => { x with peerBad := none })
        let (n, s) := s.fresh
        let a := s.addend h
        let lim : Int := (a / 10000 : Nat)
        s.modTime h (fun x => { x with eff := ((a : Int) + clampInt (-lim) lim (Config.slew n)).toNat })))

/-- The partner's time stops for 10 us: a follower leads, in HOLDOVER, or in UNSET if never set (R510). -/
def execPeerTimeLoss (h : Half) (s : State) : Host.Outcome State Fault Refusal :=
  .next (s.onHalf h (fun s =>
    let t := (s.half h).time
    if t.following ∧ t.ticks < t.peerT + 2500 then s
    else (s.wr (Time.peerOffset h) 0x80000000).becomeTimeLeader h (if t.everSet then 3 else 0)))

/-- TIME_CMD.SET: accepted only in UNSET; ship time takes STEP_HI:STEP_LO and the source is sought (R509, R515). -/
def execTimeSet (h : Half) (s : State) : Host.Outcome State Fault Refusal :=
  .next (s.onHalf h (fun s =>
    if s.timeState h = 0 then
      let v := s.rd64 (Time.stepLo h)
      let s := s.modTime h (fun x => { x with acc := v * 2 ^ 32, everSet := true, lastRep := x.ticks })
      (s.fw (Time.timeStatus h) 13 12 0).setTimeState h 1
    else s.fw (Time.timeStatus h) 13 12 1))

/-- TIME_CMD.STEP: accepted only in the time leader with no step planned; P is the first whole millisecond at least
100 us ahead (R515). -/
def execTimeStep (h : Half) (s : State) : Host.Outcome State Fault Refusal :=
  .next (s.onHalf h (fun s =>
    if (s.half h).time.following ∨ s.bt (Time.timeStatus h) 5 then s.fw (Time.timeStatus h) 13 12 1
    else
      let p := (s.now h + 100000 + 999999) / 1000000 * 1000000
      let d := signedOf 64 (s.rd64 (Time.stepLo h))
      let s := s.modTime h (fun x => { x with stepDelta := d, stepConfirmed := false, stepMade := x.ticks })
      ((s.wr64 (Time.stepTLo h) p).sb (Time.timeStatus h) 5 true).fw (Time.timeStatus h) 13 12 0))

/-- The follower of half `h` confirms the planned step within 10 us of the write: it holds delta and P too (R515). -/
def execStepConfirm (h : Half) (s : State) : Host.Outcome State Fault Refusal :=
  .next (s.onHalf h (fun s =>
    if s.bt (Time.timeStatus h) 5 ∧ (s.half h.other).time.following ∧ s.mirrorUp
        ∧ (s.half h).time.ticks ≤ (s.half h).time.stepMade + 2500 then
      let d := (s.half h).time.stepDelta
      let s := s.modTime h (fun x => { x with stepConfirmed := true })
      let s := s.modTime h.other (fun x => { x with stepDelta := d, stepConfirmed := true })
      (s.wr64 (Time.stepTLo h.other) (s.rd64 (Time.stepTLo h))).sb (Time.timeStatus h.other) 5 true
    else s))

/-- Compare unit `k` across a step of `d` (R521): disarmed by a large step, fired LATE when jumped over. -/
def State.cmpStep (s : State) (h : Half) (d : Int) (pre : Nat) (k : Nat) : State :=
  if s.bt (Time.cmpCtrl h k) 16 = false then s
  else if 2 ^ 38 ≤ d.natAbs then
    (s.sb (Time.cmpCtrl h k) 16 false).sb (Time.cmpStatus h k) 2 true
  else
    let before := signedOf 40 (patOf 40 ((pre : Int) - (s.cmpTarget h k : Int)))
    if before < 0 ∧ 0 ≤ s.cmpDiff h k then s.cmpFire h k true else s

/-- Ship time reaches P and delta is applied, with sample clocks, timers and compare units (R515-R517, R521). -/
def execTimeStepped (h : Half) (s : State) : Host.Outcome State Fault Refusal :=
  .next (s.onHalf h (fun s =>
    if s.bt (Time.timeStatus h) 5 = false ∨ s.now h < s.rd64 (Time.stepTLo h) then s
    else
      let t := (s.half h).time
      let d := t.stepDelta
      let pre := s.now h
      let s := s.setNow h ((pre : Int) + d)
      let s := s.modTime h (fun x => { x with sclkStepped := x.sclkLast.map (·.1), stepDelta := 0, stepConfirmed := false })
      let s := (s.sb (Time.timeStatus h) 5 false).satF (Time.stepCnt h) 15 0 1
      let s := (s.raise h 26).report h 0x1102 1 h.num
        [patOf 32 d, patOf 64 d / 2 ^ 32, s.rn (Time.stepTLo h), s.rn (Time.stepTHi h)]
      let s := if s.timeState h = 0 then (s.modTime h (fun x => { x with everSet := true, lastRep := x.ticks })).setTimeState h 1 else s
      let s := s.stepTimers h d
      let s := (List.range 64).foldl (fun u k => u.cmpStep h d pre k) s
      if s.deck.timeState = 1 ∧ s.deck.timeSrc = h.num then s.modDeck (fun x => { x with timeCopy := s.now h }) else s))

/-- TIME_CMD.CLEAR_COUNTS: STEP_CNT and every MISSED (R523). -/
def execTimeClearCounts (h : Half) (s : State) : Host.Outcome State Fault Refusal :=
  .next (s.onHalf h (fun s => (List.range 64).foldl (fun u k => u.fw (Time.cmpStatus h k) 31 16 0)
    ((s.wr (Time.stepCnt h) 0).fw (Time.timeStatus h) 13 12 0)))

/-- A write of CMP_CTRL; with EN it arms the unit, LATE and DISARMED clearing (R521). A target already passed is noted
and fires with LATE at the next CMP_FIRE. -/
def execCmpArm (h : Half) (k : Nat) (val : Word) (s : State) : Host.Outcome State Fault Refusal :=
  .next (s.onHalf h (fun s =>
    let s := s.wr (Time.cmpCtrl h k) (val &&& 0x000700FF)
    if bit val 16 then
      let s := (s.sb (Time.cmpStatus h k) 1 false).sb (Time.cmpStatus h k) 2 false
      let late := decide (0 < s.cmpDiff h k)
      s.modTime h (fun x => { x with cmpLate := if late then k :: x.cmpLate.filter (· != k) else x.cmpLate.filter (· != k) })
    else s))

/-- Ship time reaches the target of an armed unit: it fires (R521). -/
def execCmpFire (h : Half) (k : Nat) (s : State) : Host.Outcome State Fault Refusal :=
  .next (s.onHalf h (fun s =>
    if s.bt (Time.cmpCtrl h k) 16 ∧ 0 ≤ s.cmpDiff h k then
      let late := (s.half h).time.cmpLate.contains k
      (s.cmpFire h k late).modTime h (fun x => { x with cmpLate := x.cmpLate.filter (· != k) })
    else s))

/-- The source of the field deck's time copy changes (R519): the owner of group 125 while its link is up, else HOLDOVER
once the copy was set; `jump` is the step of the copy in ns. -/
def execDeckTimeSourceChanged (jump : Int) (s : State) : Host.Outcome State Fault Refusal :=
  .next (match s.owner 125 with
    | some h =>
      if (s.half h).linkUp then
        let s := s.modDeck (fun d => { d with
          timeState := 1
          timeSrc := h.num
          timeCopy := s.now h
          timeFrac := (s.half h).time.acc % 2 ^ 32
          timeRate := (s.half h).time.eff })
        ((s.wr (Time.deckOffset .a) 0).wr (Time.deckOffset .b) 0).reportDeck 0x1105 1 h.num [h.num, patOf 32 jump]
      else s.modDeck (fun d => { d with timeState := if d.timeState = 0 then 0 else 2 })
    | none => s.modDeck (fun d => { d with timeState := if d.timeState = 0 then 0 else 2 }))

end Sys2Proof.Machine
end

