-- ==== Sys2Proof/Machine/Commit.lean ====
section
/-! DEFINITION. Strobes, abandons and the commits of commit units (R50-R56). -/
namespace Sys2Proof.Machine

/-! ### Abandon (R54, R55) -/

/-- CMT_ABANDON of group 17 discards the ready copies (R84). -/
def State.imgAbandon (s : State) (h : Half) : State :=
  if s.pend h 17 then s
  else
    let s := s.modImg h (fun x => { x with ready := [], newMod := none })
    if s.fd (Mod.imgStatus h) 2 0 = 2 then s.imgIdle h else s
/-- A write of CMT_ABANDON. -/
def execCmtAbandon (h : Half) (groups : Word) (s : State) : Host.Outcome State Fault Refusal :=
  .next (s.onHalf h (fun s => (namedGroups groups).foldl (fun (t : State) (g : Nat) =>
    let t := t.abandonGroup h g
    if g = 17 then t.imgAbandon h else t) s))

/-! ### Strobe (R51-R53, R314, R477) -/

/-- The comparator registers of a channel (R314). -/
def cmpRegs (c : Nat) : List Nat := [Anc.cmpCfg c, Anc.cmpLo c, Anc.cmpHi c, Anc.cmpHyst c]
/-- Whether a used term references a comparator of channel `c`. -/
def State.cmpUsed (s : State) (c : Nat) : Bool :=
  s.usedTerms.any (fun t => (s.termRefs t).any (fun r => decide (r = 2 * c) || decide (r = 2 * c + 1)))
/-- Whether a commit of channel `c` changes a comparator that a used term references. DEDUCED: note 47. -/
def State.cmpGuarded (s : State) (c : Nat) : Bool :=
  (cmpRegs c).any (fun a => s.sh a != s.rg a) && s.cmpUsed c
/-- The token check of a group-9 strobe (R314): without a token that passes, the guarded channels are abandoned.
DEDUCED: note 47. -/
def State.ancGuard (s : State) (h : Half) : State :=
  let us := s.dirty.filter (fun u => s.actable h 9 u && s.cmpGuarded u.idx)
  if us = [] then s
  else
    let r := s.tokenCheck h Lid.tokenLo Lid.tokenHi 1
    if r.1 then r.2 else us.foldl State.abandonUnit r.2
/-- A strobe of group 14 by the owner of the power management is forwarded to the partner (R477). -/
def State.pwrForward (s : State) (h : Half) : State :=
  let u : CUnit := ⟨14, some h, 0⟩
  if s.owns h 127 = false ∨ s.marked.contains u = false ∨ s.mirrorUp = false ∨ s.runs h.other = false then s
  else
    let ws := ((s.unitKeys u).eraseDups).map (fun a => (lowAddr a, s.sh a))
    (s.modPwr h (fun x => { x with tx := x.tx ++ [.inr ws] })).tally h 0x0A03
/-- The instant of the newest strobe of group `g` is noted. -/
def State.strobeAt (s : State) (h : Half) (g : Nat) : State :=
  let now := s.now h
  s.modHalf h (fun x => { x with strobeT := Map.set (fun _ => 0) x.strobeT g now })
/-- One named group of a strobe. -/
def State.strobeOne (s : State) (h : Half) (g : Nat) : State :=
  if g = 5 then s.lidStrobe h
  else if g = 17 then s.imgStrobe h
  else if g = 9 ∧ s.pend h 9 = false then (s.ancGuard h).strobeGroup h 9
  else if g = 14 ∧ s.pend h 14 = false then ((s.strobeGroup h 14).pwrForward h).strobeAt h 14
  else
    (s.strobeGroup h g).strobeAt h g
/-- A write of CMT_STROBE. Reserved bits are ignored; a strobe of reserved bits alone is refused (R53). -/
def execCmtStrobe (h : Half) (groups : Word) (s : State) : Host.Outcome State Fault Refusal :=
  .next (s.onHalf h (fun s =>
    if groups ≠ 0 ∧ namedGroups groups = [] then s.cmtFlag h (Cmt.cmtStrobeRefused h) 31
    else (namedGroups groups).foldl (fun (t : State) (g : Nat) => t.strobeOne h g) s))

/-! ### Commit of a unit (R50, R51) -/

/-- A commit of the MOD unit: the balancer's INTERVAL is clamped (R175). -/
def State.commitMod (s : State) (h : Half) : State :=
  s.fw (Mod.plcBalCfg h) 31 8 (clampNat 100 100000 (s.fd (Mod.plcBalCfg h) 31 8))
/-- A commit of channel `c` (R314, R315): a comparator change of a used term is entered in the change log. -/
def State.commitChannel (s : State) (c : Nat) : State :=
  let o := s
  let s := (s.copyUnit ⟨9, none, c⟩).commitAnc o c
  if o.cmpGuarded c then
    match s.owner (c / 16) with
    | some h => s.chgEntry h 3 0 c
    | none => s
  else s
/-- The commit of a unit of an engine group: a slot, or the engine's registers, which raises COMMIT_DONE too (R61); none
while a snapshot holds the commit points of groups 18-21 (R65). -/
def State.commitEng (s : State) (h : Half) (u : CUnit) : State :=
  if (s.half h).snap.reached then s
  else if 4096 ≤ u.idx then
    let e := u.idx - 4096
    let s := s.copyUnit u
    ((s.engStop h e (s.bt (Eng.engCtrl h e) 16)).raiseEng h e 5).settle h u.grp
  else s.commitSlot h u.idx
/-- A marked unit at its commit point: shadows to live values, and what the commit brings in its block. -/
def State.commitUnit (s : State) (h : Half) (u : CUnit) : State :=
  let o := s
  let c := s.copyUnit u
  match u.grp with
  | 0 => (c.commitMod h).settle h 0
  | 1 => (c.commitTime h).settle h 1
  | 2 => (c.commitTally h).settle h 2
  | 3 => (c.commitTray o h u.idx).settle h 3
  | 5 => s
  | 7 => s.commitTrk h
  | 8 => (c.commitCan h u.idx).settle h 8
  | 9 => (s.commitChannel u.idx).settle h 9
  | 10 => (c.commitDin o u.idx).settle h 10
  | 11 => (c.commitDo u.idx).settle h 11
  | 12 => (c.commitMot o u.idx).settle h 12
  | 13 => (c.commitDrv o u.idx).settle h 13
  | 14 => if s.pwrLate h h then s else c.settle h 14
  | 16 => if (s.task h u.idx).phase = 0 then s.softSwitch h u.idx else s
  | 17 => s
  | g => if 18 ≤ g then s.commitEng h u else c.settle h g
/-- A unit of group `g` reaches its commit point. Where the strobe marked no unit, the pending bit clears (R51, R97). Group 5
commits by LID_COMMIT, and group 17 by REGION_COMMIT. DEDUCED: note 47. -/
def execUnitCommit (h : Half) (g idx : Nat) (s : State) : Host.Outcome State Fault Refusal :=
  .next (
    let u : CUnit := ⟨g, if isDeckGroup g then none else some h, idx⟩
    let run (s : State) : State :=
      if s.waiting h g = false then
        (if s.pend h g then (if g = 17 then s.imgSettled h else s.setPend h g false) else s)
      else if s.marked.contains u then s.commitUnit h u else s
    if isDeckGroup g then s.onDeck run else s.onHalf h run)

end Sys2Proof.Machine
end

