-- ==== Sys2Proof/Machine/Halves.lean ====
section
/-! DEFINITION. The commands of the halves (chapter 13) and of the links between the parts (R26). DEDUCED: note 124.
An exchanged cartridge (R414, R588) goes through these rows and those of Boot.lean. -/
namespace Sys2Proof.Machine

/-! ### Links (R26) and Whistles (R386, R387) -/

/-- A lane fails its training and is taken out of service (R26): a field-deck link with fewer than two working lanes in a
direction counts as lost; the mirror link is down without a lane in a direction. The degraded-link alarm is raised.
DEDUCED: notes 130, 162. -/
def execLaneTrainingFail (h : Half) (deck fromDeck : Bool) (lane : Nat) (s : State) : Host.Outcome State Fault Refusal :=
  .next (
    let off (m : Nat) : Nat := if m.testBit lane then m - 2 ^ lane else m
    if deck then
      (s.modHalf h (fun x => { x with link := { x.link with
        deckTo := if fromDeck then x.link.deckTo else off x.link.deckTo
        deckFrom := if fromDeck then off x.link.deckFrom else x.link.deckFrom } })).onDeck (fun s => s.deckLinkShow h)
    else
      let s := (s.modHalf h (fun x => { x with link := { x.link with mirror := off x.link.mirror } })).linkAlarm h
      if s.a.link.mirror = 0 ∨ s.b.link.mirror = 0 then { s with mirrorUp := false } else s)
/-- A half's field-deck link trains anew and comes up (R26). -/
def execDeckLinkUp (h : Half) (s : State) : Host.Outcome State Fault Refusal :=
  .next (s.onHalf h (fun s => s.onDeck (fun s =>
    (s.modHalf h (fun x => { x with link := { x.link with deckTo := 15, deckFrom := 15 } })).deckLinkShow h)))
/-- Whether 5 us have passed since the half's last Whistle (R386). -/
def State.whistleDue (s : State) (h : Half) : Bool := match (s.half h).ctl.whT with
  | some t => decide (t + 1250 ≤ (s.half h).time.ticks)
  | none => true
/-- Whether no valid Whistle has come to half `h` on a path for 40 us (R387). -/
def State.pathQuiet (s : State) (h : Half) (path : Nat) : Bool :=
  let c := (s.half h).ctl
  decide ((if path = 0 then c.mirT else c.trivT) + 10000 ≤ (s.half h).time.ticks)
/-- Whether Trivet has heard no Whistle of half `h` for 40 us, and whether its claim vector is more than 10 us old (R389). -/
def State.trivetQuiet (s : State) (h : Half) : Bool :=
  decide (Map.get (fun _ => 0) s.deck.trivet.hearT h.num + 10000 ≤ s.deck.ticks)
def State.claimOld (s : State) (h : Half) : Bool :=
  decide (Map.get (fun _ => 0) s.deck.trivet.claimT h.num + 2500 < s.deck.ticks)
/-- Trivet hears a Whistle of half `h`, or no longer hears it. -/
def Trivet.hear (t : Trivet) (h : Half) (on : Bool) (now : Nat) : Trivet :=
  let t := if on then { t with hearT := Map.set (fun _ => 0) t.hearT h.num now } else t
  match h with
  | .a => { t with heardA := on }
  | .b => { t with heardB := on }
/-- The claim vector of half `h` arrives at Trivet. -/
def Trivet.claim (t : Trivet) (h : Half) (v now : Nat) : Trivet :=
  let t := { t with claimT := Map.set (fun _ => 0) t.claimT h.num now }
  match h with
  | .a => { t with vecA := v, freshA := true }
  | .b => { t with vecB := v, freshB := true }
/-- The claim vector of half `h` has grown old. -/
def Trivet.stale (t : Trivet) (h : Half) : Trivet := match h with
  | .a => { t with freshA := false }
  | .b => { t with freshB := false }
/-- Every 5 us the HALF block sends its Whistle, if its checks pass (R386); `reach` says whether Trivet hears it.
DEDUCED: note 122. -/
def execWhistleSend (h : Half) (timeOk routerOk reach : Bool) (s : State) : Host.Outcome State Fault Refusal :=
  .next (s.onHalf h (fun s =>
    if timeOk && routerOk && s.whistleDue h then
      let t := (s.half h).time.ticks
      let s := s.modCtl h (fun c => { c with whSeq := (c.whSeq + 1) % 256, whT := some t })
      let w := s.whistle h
      let s := s.modCtl h (fun c => { c with whSent := w })
      if reach then s.onDeck (fun s => (s.modTrivet (fun t => t.hear h true s.deck.ticks)).redecide)
      else s
    else s))
/-- A Whistle frame arrives at half `h` on a path: 0 mirror, 1 Trivet (R387, R405, R410). -/
def execWhistleReceive (h : Half) (path : Nat) (frame : Word) (s : State) : Host.Outcome State Fault Refusal :=
  .next (s.onHalf h (fun s =>
    let last := if path = 0 then (s.half h).ctl.rxMirror else (s.half h).ctl.rxTrivet
    let seq := bits frame 7 0
    let inOrder : Bool := match last with
      | some n => decide (seq = (n + 1) % 256)
      | none => true
    if whistleCrc frame = false ∨ inOrder = false then
      (if path = 0 then s.satF (HalfR.whistleStatus h) 15 8 1 else s.satF (HalfR.whistleStatus h) 23 16 1)
    else
      let now := (s.half h).time.ticks
      let s := s.modCtl h (fun c => { c with
        rxMirror := if path = 0 then some seq else c.rxMirror
        rxTrivet := if path = 0 then c.rxTrivet else some seq
        mirT := if path = 0 then now else c.mirT
        trivT := if path = 0 then c.trivT else now
        partnerWh := frame
        everHeard := true })
      let s := s.pathShow h path true
      let s := (s.fw (HalfR.halfStatus h) 7 5 (bits frame 10 8)).redundantShow h
      let s := if s.hstate h = 5 then s.goJoining h else s
      let s := if bit frame 11 && !bit frame 12 && decide (s.hstate h = 3) then (s.abandonPlan h 1).failover h 1 else s
      let snap := s.bt (Mod.snapStatus h) 0 || s.bt (Mod.snapStatus h.other) 0
      let s := if bit frame 13 && s.canHandover h && !snap then s.planStart h 3 false false else s
      (s.startRole h).joinCheck h))
/-- No valid Whistle for 40 us on a path (R387): with both paths silent the partner is dead. -/
def execWhistlePathSilent (h : Half) (path : Nat) (s : State) : Host.Outcome State Fault Refusal :=
  .next (s.onHalf h (fun s =>
    if s.bt (HalfR.whistleStatus h) path = false ∨ s.pathQuiet h path = false then s
    else
      let s := s.modCtl h (fun c => { c with
        rxMirror := if path = 0 then none else c.rxMirror
        rxTrivet := if path = 0 then c.rxTrivet else none })
      let s := (s.pathShow h path false).abandonPlan h 0
      if s.hears h then s
      else
        let s := (s.fw (HalfR.halfStatus h) 7 5 7).redundantShow h
        let st := s.hstate h
        if st = 2 ∨ st = 3 then s.failover h 0
        else if st = 4 then s.judgeOwners h
        else s.startRole h))

/-! ### Trivet (R389-R391, R394) -/

/-- Trivet hears no valid Whistle of a half for 40 us (R389). -/
def execTrivetPathSilent (h : Half) (s : State) : Host.Outcome State Fault Refusal :=
  .next (s.onDeck (fun s =>
    if s.trivetQuiet h = false then s else (s.modTrivet (fun t => t.hear h false 0)).redecide))
/-- A half's claim vector arrives at Trivet and the rails decide (R390); `differ` names a group on which a fault of one rail
makes them differ (R391). -/
def execClaimVector (h : Half) (differ : Option Nat) (s : State) : Host.Outcome State Fault Refusal :=
  .next (s.onHalf h (fun s => s.onDeck (fun s =>
    if (s.half h).linkUp = false then s
    else
      let v := if (s.half h).ctl.claims then 2 ^ 128 - 1 else 0
      let s := s.modTrivet (fun t => t.claim h v s.deck.ticks)
      let s := match differ with
        | some g => if g < 128 then s.freeze g else s
        | none => s
      s.redecide)))
/-- A half's latest claim vector is more than 10 us old (R389). -/
def execClaimStale (h : Half) (s : State) : Host.Outcome State Fault Refusal :=
  .next (s.onDeck (fun s => if s.claimOld h = false then s else (s.modTrivet (fun t => t.stale h)).redecide))
/-- The rails decide a frozen group afresh (R391): the first decision on which they agree applies. -/
def execFrozenRedecide (g : Nat) (agree : Bool) (s : State) : Host.Outcome State Fault Refusal :=
  .next (s.onDeck (fun s =>
    if agree && s.deck.trivet.frozen.contains g then
      let s := s.modTrivet (fun t => { t with frozen := t.frozen.filter (· != g) })
      s.setOwner g (s.decideOf g)
    else s))
/-- A half learns the owners (R390, R393, R394). -/
def execOwnerReport (h : Half) (s : State) : Host.Outcome State Fault Refusal :=
  .next (s.onHalf h (fun s => s.onDeck (fun s =>
    if (s.half h).linkUp then (s.showOwners h).judgeOwners h else s)))

/-! ### The mirror (R396-R400) -/

/-- The oldest mirrored block of the partner arrives (R397): compared with the copy's own block of the same sample, and held
for the next boundary; a block that comes after that boundary is discarded. -/
def execMirrorBlockArrive (h : Half) (s : State) : Host.Outcome State Fault Refusal :=
  .next (match (s.half h.other).ctl.mirrorTx with
  | [] => s
  | b :: rest =>
    let s := s.modCtl h.other (fun c => { c with mirrorTx := rest })
    s.onHalf h (fun s =>
      let s := s.tally h 0x0A01
      match s.slotOf h b.loop with
      | none => s
      | some q =>
        let own := s.rg (stateBase h q + 0x64)
        let busy := decide ((s.run h q).phase ≠ 0)
        if s.standby h q = false ∨ s.bt (slotBase h q) 12 = false ∨ (busy ∧ b.sample = own) then s
        else
          let s := if busy = false ∧ b.sample = own ∧ s.slotState h q = 1 then s.mirrorCompare h q b.words else s
          s.modCtl h (fun c => { c with held := Map.ins c.held b.loop b.words })))
/-- The oldest forwarded commit of the partner arrives (R398): its words go into the copy's shadows, table words act at once. -/
def execCommitForwardArrive (h : Half) (s : State) : Host.Outcome State Fault Refusal :=
  .next (match (s.half h.other).ctl.fwdTx with
  | [] => s
  | f :: rest =>
    let s := s.modCtl h.other (fun c => { c with fwdTx := rest })
    s.onHalf h (fun s => match s.slotOf h f.loop with
      | none => s
      | some q =>
        let s := f.words.foldl (fun (t : State) (e : Nat × Nat × Word) =>
          if e.1 = 0 then t.wrSh (slotBase h q + e.2.1) e.2.2
          else if e.1 = 1 then t.wrSh (coefBase h q + e.2.1) e.2.2
          else t.wr (tableBase h q + e.2.1) e.2.2) s
        if f.words.any (fun e => decide (e.1 < 2)) then
          s.modCtl h (fun c => { c with
            fwdWait := c.fwdWait.filter (fun e => decide (e.1 ≠ f.loop)) ++ [(f.loop, f.lag)] })
        else s))
/-- The oldest cycle set of the partner has arrived whole and is applied in one step (R400, R412). DEDUCED: note 128. -/
def execCycleSetArrive (h : Half) (s : State) : Host.Outcome State Fault Refusal :=
  .next (match (s.half h.other).ctl.setTx with
  | [] => s
  | c :: rest =>
    let s := s.modCtl h.other (fun x => { x with setTx := rest })
    s.onHalf h (fun s =>
      let t := c.task
      if s.taskState h t = 0 ∨ (s.hstate h = 4 ∧ (s.task h t).waitSet.isNone) then s
      else
        let s := s.modTask h t (fun x => { x with
          data := c.lines.foldl (fun (m : Map Byte) (e : Nat × List Byte) => putBytes m (64 * e.1) e.2) x.data
          last := c.last
          waitSet := none })
        let s := c.timers.foldl (fun (u : State) (e : Nat × List Word) =>
          ((e.2.zip (List.range 6)).foldl (fun (v : State) (w : Word × Nat) => v.wr (Apc.timer h e.1 w.2) w.1) u).tmMark h e.1
            (decide (e.2.getD 6 0 ≠ 0))) s
        let s := (s.wr (Apc.cycleCnt h t) c.cycle).wr64 (Apc.releaseLo h t) c.release
        let s := s.tally h 0x0A04
        let s := s.writebackBegin h t
        let s := if (s.half h).ctl.tasksCopied.contains t then s.sb (HalfR.alignStatus h) (16 + t) true else s
        s.joinCheck h))

/-! ### Self-faults and the role switch (R403-R408) -/

/-- A self-fault cause arises or ends (R403): 0 LOOP, 1 DECK_LINK, 2 TIME, 3 SUPPLY. LOOP follows the lost copies, and
DECK_LINK does not end while the link is down. -/
def execSelfFault (h : Half) (cause : Nat) (on : Bool) (s : State) : Host.Outcome State Fault Refusal :=
  .next (s.onHalf h (fun s =>
    if cause = 0 then s.selfLostShow h
    else if cause = 1 ∧ on = false ∧ (s.half h).linkUp = false then s
    else s.selfFaultSet h cause on))
/-- A sample tick is still not issued 2 us after it was due (R403, R518). -/
def execSampleTickLate (h : Half) (s : State) : Host.Outcome State Fault Refusal :=
  .next (s.onHalf h (fun s => s.selfFaultSet h 2 true))
/-- T (R404): half `h`, granted every group, becomes LEAD; a former LEAD leaves at the same instant. -/
def execRoleSwitch (h : Half) (s : State) : Host.Outcome State Fault Refusal :=
  .next (s.onHalf h (fun s =>
    let c := (s.half h).ctl
    let st := s.hstate h
    let planned : Option SwitchPlan := match c.plan with
      | some p => if p.atT && !p.leaver then some p else none
      | none => none
    let kind := if st < 2 then 1 else match planned with
      | some p => p.kind
      | none => if c.failover.isSome then 2 else 0
    if 4 ≤ st ∨ kind = 0 ∨ c.claims = false ∨ s.shownAll h h = false then s
    else
      let o := h.other
      let s := if 2 ≤ kind then s.passRoles o h else s
      let s := if s.runs o ∧ s.hstate o = 4 then
          (if 3 ≤ kind then s.leaveLead o 3 else if s.hears o then s.leaveLead o 2 else s.isolate o) else s
      let s := if kind = 1 then s.startDeck h else s
      let latch : Bool := match planned with
        | some p => p.byLatch
        | none => false
      s.becomeLead h kind c.failCause latch))
/-- 10 us after its claims, the fail-over of a half that hears its partner is not granted (R405). -/
def execFailoverClaimTimeout (h : Half) (s : State) : Host.Outcome State Fault Refusal :=
  .next (s.onHalf h (fun s =>
    let due : Bool := match (s.half h).ctl.failover with
      | some t => decide (t + 2500 ≤ (s.half h).time.ticks)
      | none => false
    if due ∧ s.hstate h = 3 ∧ s.hears h ∧ s.shownAll h h = false then
      (s.switchAborted h 4).modCtl h (fun c => { c with failover := none })
    else s))

/-! ### Take-back and hand-over (R409-R411) -/

/-- Every condition of R409 has held for TAKEBACK_DELAY seconds, 0 acting as 1: TAKEBACK_REQ is set in the Whistles.
DEDUCED: note 125. -/
def execTakebackReq (h : Half) (s : State) : Host.Outcome State Fault Refusal :=
  .next (s.onHalf h (fun s =>
    let n := max 1 (s.fd (HalfR.halfCfg h) 15 8)
    let c := (s.half h).ctl
    let held : Bool := match c.takeFrom with
      | some t => decide (t + n * 250000000 ≤ (s.half h).time.ticks) && (c.takeMis == s.rg (HalfR.mirrorMismatchCnt h))
      | none => false
    if s.takebackOk h && held then
      s.modCtl h (fun c => { c with takebackReq := true })
    else s))
/-- The LEAD's message with T arrives at half `h`, which confirms and claims (R410). DEDUCED: note 125. -/
def execSwitchPlan (h : Half) (s : State) : Host.Outcome State Fault Refusal :=
  .next (s.onHalf h (fun s => match (s.half h.other).ctl.plan with
    | some p =>
      if p.leaver && !p.atT && decide (s.hstate h = 3) && s.mirrorUp && (s.half h).ctl.plan.isNone then
        ((s.modCtl h (fun c => { c with plan := some { p with leaver := false, confirmed := true } })).sb
          (HalfR.halfStatus h) 8 true).setClaims h true
      else s
    | none => s))
/-- The partner's confirmation arrives at the LEAD (R410). -/
def execSwitchConfirm (h : Half) (s : State) : Host.Outcome State Fault Refusal :=
  .next (s.onHalf h (fun s => match (s.half h).ctl.plan with
    | some p =>
      if p.leaver && !p.confirmed && (s.half h.other).ctl.plan.isSome && s.mirrorUp then
        (s.modCtl h (fun c => { c with plan := some { p with confirmed := true } })).sb (HalfR.halfStatus h) 8 true
      else s
    | none => s))
/-- No confirmation within 1 ms (R410). -/
def execSwitchConfirmTimeout (h : Half) (s : State) : Host.Outcome State Fault Refusal :=
  .next (s.onHalf h (fun s => match (s.half h).ctl.plan with
    | some p =>
      if p.leaver && !p.confirmed && decide (p.made + 250000 ≤ (s.half h).time.ticks) then s.abandonPlan h 3 else s
    | none => s))
/-- The partner's abandonment arrives before T (R410). -/
def execSwitchAbandon (h : Half) (s : State) : Host.Outcome State Fault Refusal :=
  .next (s.onHalf h (fun s => if (s.half h.other).ctl.plan.isNone then s.abandonPlan h 5 else s))
/-- Half `h` comes to T of a planned switch: the LEAD withdraws its claims (R410). -/
def execPlannedSwitchT (h : Half) (s : State) : Host.Outcome State Fault Refusal :=
  .next (s.onHalf h (fun s => match (s.half h).ctl.plan with
    | some p =>
      if p.confirmed && !p.atT && decide (p.t ≤ s.now h) then
        let s := s.modCtl h (fun c => { c with plan := some { p with atT := true } })
        if p.leaver then s.setClaims h false else s
      else s
    | none => s))
/-- T + 1 us (R410): a former LEAD that still owns claims again; a partner that was not granted withdraws. -/
def execPlannedSwitchCheck (h : Half) (s : State) : Host.Outcome State Fault Refusal :=
  .next (s.onHalf h (fun s => match (s.half h).ctl.plan with
    | some p =>
      if p.atT && decide (p.t + 1000 ≤ s.now h) then
        (if p.leaver then
          (if s.shownAny h h then (s.setClaims h true).switchAborted h 6 else s)
        else if s.shownAll h h then s else s.switchAborted h 6)
      else s
    | none => s))
/-- HALF_CMD.HANDOVER (R411). -/
def execHandover (h : Half) (s : State) : Host.Outcome State Fault Refusal :=
  .next (s.onHalf h (fun s =>
    if s.canHandover h then (s.planStart h 4 false false).fw (HalfR.halfStatus h) 11 10 0
    else s.fw (HalfR.halfStatus h) 11 10 1))
/-- HALF_CMD.CANCEL (R410). -/
def execCancel (h : Half) (s : State) : Host.Outcome State Fault Refusal :=
  .next (s.onHalf h (fun s => (s.abandonPlan h 2).fw (HalfR.halfStatus h) 11 10 0))
/-- HALF_CMD.CLEAR_COUNTS (R417). -/
def execHalfClearCounts (h : Half) (s : State) : Host.Outcome State Fault Refusal :=
  .next (s.onHalf h (fun s =>
    let s := (s.wr (HalfR.switchCnt h) 0).wr (HalfR.mirrorLateCnt h) 0
    let s := ((s.wr (HalfR.mirrorMismatchCnt h) 0).wr (HalfR.pairLagCnt h) 0).wr (HalfR.stbyWriteCnt h) 0
    (s.fw (HalfR.whistleStatus h) 23 8 0).fw (HalfR.halfStatus h) 11 10 0))
/-- |PEER_OFFSET| above 1 us for 100 us: PEER_FAULT; a STANDBY half becomes JOINING, releases its copies, which then stand in
their slots as placed anew, and steps (R511, R412). DEDUCED: note 139. -/
def execPeerFault (h : Half) (s : State) : Host.Outcome State Fault Refusal :=
  .next (s.onHalf h (fun s =>
    let t := (s.half h).time
    let due : Bool := match t.peerBad with
      | some b => decide (b + 25000 ≤ t.ticks)
      | none => false
    if t.following = false ∨ due = false then s
    else
      let s := s.sb (Time.timeStatus h) 6 true
      if s.hstate h = 3 then
        let off := (s.rg (Time.peerOffset h)).toInt
        let s := (s.protectedSlots h).foldl (fun (u : State) (q : Nat) =>
          if u.standby h q then u.modRun h q (fun r => { packets := r.packets }) else u) (s.goJoining h)
        s.peerStepAll h off
      else s))
/-- HALF_CMD.REALIGN (R412): the alignment starts again. -/
def execRealign (h : Half) (s : State) : Host.Outcome State Fault Refusal :=
  .next (s.onHalf h (fun s =>
    if s.hstate h = 2 ∨ s.hstate h = 3 then ((s.abandonPlan h 5).goJoining h).fw (HalfR.halfStatus h) 11 10 0
    else s.fw (HalfR.halfStatus h) 11 10 1))
/-- An alignment copy of a loop or a task ends (R412). -/
def execAlignCopyDone (h : Half) (task : Bool) (n : Nat) (s : State) : Host.Outcome State Fault Refusal :=
  .next (s.onHalf h (fun s =>
    let o := h.other
    if s.mayAlign h = false then s
    else if task then
      (if s.taskState h n = 0 ∨ 16 ≤ n then s
      else
        let x := s.task o n
        let s := s.modTask h n (fun y => { y with data := x.data, last := x.last })
        let s := (s.taskTimers o n).foldl (fun (u : State) (k : Nat) =>
          ((List.range 6).foldl (fun (v : State) (w : Nat) => v.wr (Apc.timer h k w) (s.rg (Apc.timer o k w))) u).tmMark h k
            (s.tmRan o k)) s
        (s.modCtl h (fun c => { c with
          tasksCopied := if c.tasksCopied.contains n then c.tasksCopied else c.tasksCopied ++ [n] })).joinCheck h)
    else match s.slotOf o n, s.slotOf h n with
      | some p, some q =>
        if s.standby h q then
          ((s.copyPartner o p h q).modCtl h (fun c => { c with
            copied := if c.copied.contains n then c.copied else c.copied ++ [n] })).joinCheck h
        else s
      | _, _ => s))

/-! ### The bay latch (R413) -/

/-- A bay's latch contact opens (R413, R459): a LEAD half hands over, or shows the warning. -/
def execBayLatchOpen (h : Half) (s : State) : Host.Outcome State Fault Refusal :=
  .next (
    let now := s.deck.ticks
    let s := s.modDeck (fun d => { d with pwr := { d.pwr with
      latchOpen := portSet d.pwr.latchOpen h.num true
      latchT := if portFlag d.pwr.latchOpen h.num then d.pwr.latchT else Map.set (fun _ => 0) d.pwr.latchT h.num now } })
    s.onHalf h (fun s =>
      let s := s.sb (HalfR.halfStatus h) 9 true
      if s.bt (HalfR.halfCfg h) 1 && s.canHandover h then s.planStart h 4 true false else s))

end Sys2Proof.Machine
end

