-- ==== Sys2Proof/Machine/Log.lean ====
section
/-! DEFINITION. The commands of the Trays, the logbook and the Pantry (chapter 18).
The cases of R545 and R552 and the sources of R555 follow from these. -/
namespace Sys2Proof.Machine

/-! ### Trays -/

/-- A write of TRAY_RP (R528, R533): taken within [RP, WP], otherwise RP_BAD; ignored while a stream consumes Tray 8. -/
def execTrayRpWrite (h : Half) (t : Nat) (val : Word) (s : State) : Host.Outcome State Fault Refusal :=
  .next (s.onHalf h (fun s =>
    if trayExists t = false ∨ s.bt (Tray.trayStatus h t) 3 then s
    else
      let rp := s.rg (Tray.trayRp h t)
      if (s.rg (Tray.trayWp h t) - rp).toNat < (val - rp).toNat then s.sb (Tray.trayStatus h t) 2 true
      else
        let s := ((s.wr (Tray.trayRp h t) val).sb (Tray.trayStatus h t) 2 false).trayFlags h t
        s.trayFlushHeld h t ((s.half h).tray.held.length)))

/-- A framed packet has stayed open longer than STALL_LIMIT: it closes TRUNCATED (R530). -/
def execTrayPacketStall (h : Half) (t slot : Nat) (s : State) : Host.Outcome State Fault Refusal :=
  .next (s.onHalf h (fun s =>
    match (s.half h).tray.packets.find? (fun p => decide (p.tray = t) && decide (p.slot = slot) && !p.closed) with
    | some p =>
      if p.openedAt + max 1 (s.fd (Tray.trayStall h t) 15 0) * 1000 ≤ s.now h then s.trayClosePkt h p true else s
    | none => s))

/-! ### Logbook -/

/-- The oldest report on its way reaches the ingest (R538). -/
def execLogReport (h : Half) (s : State) : Host.Outcome State Fault Refusal :=
  .next (s.onHalf h (fun s => match (s.half h).log.inbox with
    | [] => s
    | r :: rest => (s.modLog h (fun x => { x with inbox := rest })).logIngest h r))

/-- The oldest open record closes 1 ms after its first report (R538); a step of ship time to before that report ends it too. -/
def execLogRecordClose (h : Half) (s : State) : Host.Outcome State Fault Refusal :=
  .next (s.onHalf h (fun s => match (s.half h).log.opened with
    | [] => s
    | r :: rest =>
      if r.t0 ≤ s.now h ∧ s.now h < r.t0 + 1000000 then s
      else (s.modLog h (fun x => { x with opened := rest })).logClose h r))

/-- Flash blocks retired while a record was written (R544): BLOCK_RETIRED, and FLASH_WORN when the reserve is used up. -/
def State.flashRetire (s : State) (h : Half) (block reserve : Nat) : State :=
  let n := satAdd 65535 (s.fd (Log.flashStatus h) 31 16) 1
  let s := ((s.fw (Log.flashStatus h) 31 16 n).fw (Log.flashStatus h) 7 0 reserve).report h 0x1205 1 h.num [block, reserve]
  if reserve = 0 ∧ s.bt (Log.flashStatus h) 8 = false then
    (s.sb (Log.flashStatus h) 8 true).report h 0x1206 1 h.num [n]
  else s

/-- The flash writer writes the front record of the write queue, not while frozen (R538, R541); `retired` names a block
that failed to program, `reserve` what is left of the reserve in % (R544). A record that waited for room then enters. -/
def execLogFlashWrite (h : Half) (retired : Option Nat) (reserve : Nat) (s : State) : Host.Outcome State Fault Refusal :=
  .next (s.onHalf h (fun s =>
    if s.bt (Log.logStatus h) 0 then s
    else match (s.half h).log.queue with
      | [] => s
      | r :: rest =>
        let s := ((s.modLog h (fun x => { x with
          queue := match x.waiting with
            | w :: _ => queueIns rest w
            | [] => rest
          waiting := x.waiting.drop 1 })).flashPut h r).logLossReport h
        match retired with
        | some b => s.flashRetire h b reserve
        | none => s))

/-- Room in the pinned area of a half (R540). -/
def State.pinRoom (s : State) (h : Half) : Bool :=
  !(s.half h).fitted || decide ((s.half h).log.pinWp - (s.half h).log.pinCp < 65536)
/-- One trip record enters the pinned area of a fitted half (R540). -/
def State.pinPut (s : State) (h : Half) (r : LogRec) : State :=
  if (s.half h).fitted = false then s
  else (s.modLog h (fun x => { x with
    pinned := Map.ins (x.pinned.filter (fun e => decide (x.pinWp < e.1 + 65536) && decide (e.1 ≠ x.pinWp))) x.pinWp { r with half := h }
    pinWp := x.pinWp + 1 })).raise h 721
/-- The PIN_OVERRUN record with the count, when space returns (R540). -/
def State.pinOverrunReport (s : State) (h : Half) : State :=
  let n := (s.half h).log.pinOverrun
  if n = 0 then s else (s.modLog h (fun x => { x with pinOverrun := 0 })).report h 0x1204 1 h.num [n]

/-- Trivet's record writer writes its oldest trip record into the pinned area of each fitted half, whatever the half's
state, unless an area is full of uncopied records (R540). -/
def execTripRecordWrite (s : State) : Host.Outcome State Fault Refusal :=
  .next (match s.deck.trivet.tripQueue with
    | [] => s
    | r :: rest =>
      if s.pinRoom .a ∧ s.pinRoom .b then
        let s := s.modDeck (fun d => { d with trivet := { d.trivet with tripQueue := rest } })
        (((s.pinPut .a r).pinPut .b r).pinOverrunReport .a).pinOverrunReport .b
      else s)

/-- The ingest copies the next pinned entry into the write queue (R540); a damaged one with CODE 0x1207 (R544). It waits
while the queue is full or the logbook is frozen (R538, R541). -/
def execPinCopy (h : Half) (s : State) : Host.Outcome State Fault Refusal :=
  .next (s.onHalf h (fun s =>
    let x := (s.half h).log
    if s.bt (Log.logStatus h) 0 ∨ x.pinWp ≤ x.pinCp ∨ 8192 ≤ x.queue.length then s
    else match x.pinned.find? (fun e => decide (e.1 = x.pinCp)) with
      | none => s.modLog h (fun y => { y with pinCp := y.pinCp + 1 })
      | some e =>
        let r := if x.pinBad.contains x.pinCp then
            { e.2 with code := 0x1207, kind := 1, num := h.num, data := [BitVec.ofNat 32 x.pinCp] } else e.2
        s.modLog h (fun y => { y with queue := queueIns y.queue r, pinCp := y.pinCp + 1, pinBad := y.pinBad.filter (· != y.pinCp) })))

/-- The result of the last LOG_CMD. -/
def State.logResult (s : State) (h : Half) (n : Nat) : State := s.fw (Log.logStatus h) 6 4 n

/-- LOG_CMD.FREEZE (R541). -/
def execLogFreeze (h : Half) (s : State) : Host.Outcome State Fault Refusal :=
  .next (s.onHalf h (fun s => ((s.sb (Log.logStatus h) 0 true).logResult h 0).modLog h (fun x => { x with
    freezeT := (s.half h).time.ticks })))
/-- LOG_CMD.UNFREEZE (R541). -/
def execLogUnfreeze (h : Half) (s : State) : Host.Outcome State Fault Refusal :=
  .next (s.onHalf h (fun s => (s.sb (Log.logStatus h) 0 false).logResult h 0))
/-- FREEZE_MAX s after FREEZE (R541). -/
def execFreezeExpired (h : Half) (s : State) : Host.Outcome State Fault Refusal :=
  .next (s.onHalf h (fun s =>
    let n := clampNat 1 60 (s.fd (Log.logCfg h) 5 0)
    if s.bt (Log.logStatus h) 0 ∧ (s.half h).log.freezeT + n * 250000000 ≤ (s.half h).time.ticks then
      (s.sb (Log.logStatus h) 0 false).report h 0x1203 1 h.num [n]
    else s))

/-- LOG_CMD.READ (R542): refused while another runs or with a target outside the DDR window. -/
def execLogRead (h : Half) (s : State) : Host.Outcome State Fault Refusal :=
  .next (s.onHalf h (fun s =>
    let n := s.fd (Log.rdCount h) 16 0
    let dst := s.fd (Log.rdDst h) 29 0 * 64
    if s.bt (Log.logStatus h) 1 then s.logResult h 4
    else if inDdr dst (64 * n) = false then (s.fw (Log.logStatus h) 3 2 2).logResult h 0
    else ((s.sb (Log.logStatus h) 1 true).logResult h 0).modLog h (fun x => { x with
      readSeq := s.rn (Log.rdSeq h), readCount := n, readDst := dst, readPinned := s.bt (Log.rdCount h) 31 })))

/-- The copy of a logbook read ends (R542): absent records read as 64 zero bytes, with READ_RESULT PARTIAL. -/
def execLogReadDone (h : Half) (s : State) : Host.Outcome State Fault Refusal :=
  .next (s.onHalf h (fun s =>
    if s.bt (Log.logStatus h) 1 = false then s
    else
      let x := (s.half h).log
      let recs := (List.range x.readCount).map (fun i => s.logAt h x.readPinned (x.readSeq + i))
      let partly := recs.any (·.isNone)
      let s := s.setBytes (h.base + x.readDst) (recs.flatMap (fun r => match r with
        | some r => recBytes r
        | none => List.replicate 64 0))
      ((s.sb (Log.logStatus h) 1 false).fw (Log.logStatus h) 3 2 partly.toNat).raise h 723))

/-- LOG_CMD.CLEAR with or without CLEAR_PINNED (R543), after a token check of purpose LOG_CLEAR. -/
def execLogClear (h : Half) (pinned : Bool) (s : State) : Host.Outcome State Fault Refusal :=
  .next (s.onHalf h (fun s =>
    if s.bt (Log.logStatus h) 0 then s.logResult h 3
    else
      let blocked := s.bt Lid.lidStatus 1 && s.bt Lid.lidStatus 4
      let c := s.tokenCheck h (Log.clrTokenLo h) (Log.clrTokenHi h) 3
      let s := c.2
      if c.1 = false then s.logResult h (if blocked then 2 else 1)
      else
        let x := (s.half h).log
        let keep := if pinned then x.pinned.filter (fun e => decide (x.pinCp ≤ e.1)) else x.pinned
        let s := s.modLog h (fun y => { y with firstSeq := y.nextSeq, flash := [], pinned := keep })
        let r := s.openRec h ⟨0x1202, 1, h.num, s.now h,
          [x.firstSeq, x.nextSeq, pinned.toNat].map (BitVec.ofNat 32)⟩
        (s.modLog h (fun y => { y with queue := r :: y.queue })).logResult h 0))

/-- LOG_CMD.CLEAR_COUNTS: LOST_CNT and PIN_OVERRUN (R554). -/
def execLogClearCounts (h : Half) (s : State) : Host.Outcome State Fault Refusal :=
  .next (s.onHalf h (fun s =>
    (((List.range 32).foldl (fun t k => t.wr (Log.lostCnt h k) 0) s).wr (Log.pinOverrun h) 0).logResult h 0))

/-- Each 1 s the half, or the field deck, stores its operating time in MRAM, in whole ms (R536). -/
def execOpTimeStore (deck : Bool) (h : Half) (s : State) : Host.Outcome State Fault Refusal :=
  let due (mark ticks : Nat) : Bool := decide (mark + 250000000 ≤ ticks)
  let next (mark ticks : Nat) : Nat := ticks - (ticks - mark) % 250000
  .next (
    if deck then
      if due s.deck.opMark s.deck.ticks then
        s.modDeck (fun d => { d with opTime := s.deckOpTime, opMark := next d.opMark d.ticks })
      else s
    else s.onHalf h (fun s =>
      let t := (s.half h).time.ticks
      if due (s.half h).log.opMark t then
        s.modLog h (fun x => { x with opTime := s.opTime h, opMark := next x.opMark t })
      else s))

/-- The 24 h scrub of MRAM (R544): single-bit errors are corrected, pinned entries with double-bit errors are noted. -/
def execMramScrub (h : Half) (damagedPins : List Nat) (s : State) : Host.Outcome State Fault Refusal :=
  .next (s.onHalf h (fun s => s.modLog h (fun x => { x with
    pinBad := x.pinBad ++ damagedPins.filter (fun q => !x.pinBad.contains q && x.pinned.any (fun e => decide (e.1 = q))) })))

/-! ### Pantry -/

/-- A Pantry command that cannot start: RESULT REFUSED. DEDUCED: note 51. -/
def State.pantryRefuse (s : State) (h : Half) : State := s.fw (Tray.pantryStatus h) 3 1 2
/-- A Pantry command begins: BUSY until it is done (R553). -/
def State.pantryBegin (s : State) (h : Half) (op m : Nat) : State :=
  (s.sb (Tray.pantryStatus h) 0 true).modPantry h (fun p => { p with cmdOp := op, cmdMember := m })
/-- A member becomes FAILED with its cause (R550, R556). -/
def State.memberFail (s : State) (h : Half) (m cause : Nat) : State :=
  let s := ((s.fw (Tray.mbrStatus h m) 1 0 3).fw (Tray.mbrStatus h m) 15 12 cause).modPantry h (fun p =>
    { p with failRun := Map.set (fun _ => 0) p.failRun m 0 })
  let lost := (s.half h).pantry.writing.filter (fun w => decide (w.member = m))
  let s := s.modPantry h (fun p => { p with writing := p.writing.filter (fun w => decide (w.member ≠ m)) })
  let s := lost.foldl (fun t w => t.chunkLost h w.stream w.q m) s
  s.report h 0x1401 0x1B m [cause]

/-- PANTRY_CMD MEMBER_INIT (R550): the member initialises, to end in ONLINE or FAILED by R547. -/
def execMemberInit (h : Half) (m : Nat) (s : State) : Host.Outcome State Fault Refusal :=
  .next (s.onHalf h (fun s =>
    if s.bt (Tray.pantryStatus h) 0 then s.pantryRefuse h
    else (s.fw (Tray.mbrStatus h m) 1 0 1).pantryBegin h 1 m))
/-- PANTRY_CMD MEMBER_OFF (R553). DESIGN CHOICE: note 52. -/
def execMemberOff (h : Half) (m : Nat) (s : State) : Host.Outcome State Fault Refusal :=
  .next (s.onHalf h (fun s =>
    if s.bt (Tray.pantryStatus h) 0 then s.pantryRefuse h else s.pantryBegin h 2 m))
/-- PANTRY_CMD READ (R551). -/
def execPantryRead (h : Half) (s : State) : Host.Outcome State Fault Refusal :=
  .next (s.onHalf h (fun s =>
    if s.bt (Tray.pantryStatus h) 0 then s.pantryRefuse h
    else if inDdr (s.fd (Tray.rdDst h) 29 0 * 64) (4096 * s.fd (Tray.rdLen h) 12 0) = false then s.pantryRefuse h
    else s.pantryBegin h 3 0))

/-- The member that holds a Pantry block (R547). -/
def State.blockMember (s : State) (h : Half) (blk : Nat) : Nat :=
  blk / 256 % (let k := s.fd (Tray.pantryLayout h) 4 0; if k = 0 then 1 else k)

/-- A Pantry command ends (R547, R550, R551): for MEMBER_INIT what the member shows (its link, its format, whether it
holds its range, the trained width and generation), for READ the bytes the members answered. DESIGN CHOICE: note 52. -/
def execPantryCmdDone (h : Half) (link fmt cap : Bool) (width gen : Nat) (data : List Byte) (s : State) :
    Host.Outcome State Fault Refusal :=
  .next (s.onHalf h (fun s =>
    if s.bt (Tray.pantryStatus h) 0 = false then s
    else
      let m := (s.half h).pantry.cmdMember
      let fin (t : State) (result : Nat) : State :=
        ((t.sb (Tray.pantryStatus h) 0 false).fw (Tray.pantryStatus h) 3 1 result).raise h 739
      match (s.half h).pantry.cmdOp with
      | 1 =>
        let s := (s.fw (Tray.mbrStatus h m) 7 4 width).fw (Tray.mbrStatus h m) 10 8 gen
        if link && fmt && cap then
          let s := ((s.fw (Tray.mbrStatus h m) 1 0 2).fw (Tray.mbrStatus h m) 15 12 0).modPantry h (fun p =>
            { p with failRun := Map.set (fun _ => 0) p.failRun m 0 })
          fin (s.report h 0x1402 0x1B m [width, gen]) 0
        else fin (s.memberFail h m (if link = false then 1 else if fmt = false then 3 else 4)) 3
      | 2 => fin (s.fw (Tray.mbrStatus h m) 1 0 0) 0
      | _ =>
        let blk := s.fd (Tray.rdBlkHi h) 7 0 * 2 ^ 32 + s.rn (Tray.rdBlkLo h)
        let n := s.fd (Tray.rdLen h) 12 0
        let dst := h.base + s.fd (Tray.rdDst h) 29 0 * 64
        let bad (i : Nat) : Bool := decide (s.fd (Tray.mbrStatus h (s.blockMember h (blk + i))) 1 0 ≠ 2)
        let s' := (List.range n).foldl (fun t i => t.setBytes (dst + 4096 * i)
          (if bad i then List.replicate 4096 0 else ((data.drop (4096 * i)).take 4096))) s
        fin s' ((List.range n).any bad).toNat))

/-- STR_CMD.START (R549): ignored with CAUSE SOURCE_HELD while another running stream holds the source.
DEDUCED: note 53. -/
def execStreamStart (h : Half) (st : Nat) (s : State) : Host.Outcome State Fault Refusal :=
  .next (s.onHalf h (fun s =>
    let src := s.fd (Tray.strCfg h st) 1 0
    if s.streaming h st then s
    else if (src = 1 ∨ src = 2) ∧ (s.streamOf h src).isSome then s.fw (Tray.strStatus h st) 4 2 5
    else
      let s := (s.fw (Tray.strStatus h st) 1 0 1).fw (Tray.strStatus h st) 4 2 0
      let s := s.wr64 (Tray.strSeqLo h st) 0
      let now := s.now h
      let s := s.modStream h st (fun _ => { run := now })
      if src = 1 then (s.sb (Tray.trayStatus h 8) 3 true).streamPull h else s))
/-- STR_CMD.STOP (R549): the stream ends at its next chunk boundary. -/
def execStreamStop (h : Half) (st : Nat) (s : State) : Host.Outcome State Fault Refusal :=
  .next (s.onHalf h (fun s =>
    if s.streaming h st = false then s
    else if (s.stream h st).chunk = [] then s.streamEnd h st 1
    else s.modStream h st (fun x => { x with stopping := true })))

/-- A trigger reaches a running stream (R549): TRIG_SEQ is recorded, POST more chunks follow. DESIGN CHOICE: note 52. -/
def State.streamTrigger (s : State) (h : Half) (st trig : Nat) : State :=
  if s.fd (Tray.strStatus h st) 1 0 ≠ 1 ∨ s.fd (Tray.strCfg h st) 4 3 ≠ trig then s
  else
    let s := (s.fw (Tray.strStatus h st) 1 0 2).wr (Tray.trigSeq h st) (s.rg (Tray.strSeqLo h st))
    let post := s.rn (Tray.strPost h st)
    if post = 0 then
      let s := s.chunkClose h st
      if s.streaming h st then s.streamEnd h st 3 else s
    else s.modStream h st (fun x => { x with postLeft := some post })
/-- STR_CMD.TRIGGER with TRIG SOFTWARE, or a Lid trip with TRIG LID_TRIP (R549). -/
def execStreamTrigger (h : Half) (st : Nat) (lid : Bool) (s : State) : Host.Outcome State Fault Refusal :=
  .next (s.onHalf h (fun s => s.streamTrigger h st (if lid then 1 else 2)))
/-- 100 ms after its first word the open chunk is written (R548). -/
def execChunkTimeout (h : Half) (st : Nat) (s : State) : Host.Outcome State Fault Refusal :=
  .next (s.onHalf h (fun s =>
    if s.streaming h st && decide ((s.stream h st).chunkT + 100000000 ≤ s.now h) then s.chunkClose h st else s))

/-- The oldest chunk write ends (R550): a failure is retried once, a second one loses the chunk, eight failures in a row
fail the member. -/
def execNvmeWriteDone (h : Half) (ok : Bool) (s : State) : Host.Outcome State Fault Refusal :=
  .next (s.onHalf h (fun s => match (s.half h).pantry.writing with
    | [] => s
    | w :: rest =>
      let m := w.member
      if ok then
        let s := s.modPantry h (fun p => { p with writing := rest, failRun := Map.set (fun _ => 0) p.failRun m 0 })
        (List.range ((w.bytes.length + 4095) / 4096)).foldl (fun t _ => t.tally h (0x0A70 + m)) s
      else
        let k := Map.get (fun _ => 0) (s.half h).pantry.failRun m + 1
        let s := s.satF (Tray.mbrStatus h m) 31 16 1
        let s := s.modPantry h (fun p => { p with
          writing := if w.retry then rest else { w with retry := true } :: rest
          failRun := Map.set (fun _ => 0) p.failRun m k })
        let s := if w.retry then s.chunkLost h w.stream w.q m else s
        if 8 ≤ k then s.memberFail h m 2 else s))

/-- Each 1 s a Flush is issued on every ONLINE member (R548). -/
def execPantryFlush (h : Half) (s : State) : Host.Outcome State Fault Refusal :=
  .next (s.onHalf h (fun s =>
    let now := (s.half h).time.ticks
    if now < (s.half h).pantry.flushT + 250000000 then s
    else s.modPantry h (fun p => { p with
      flushT := now
      flushes := (List.range 16).foldl (fun f m =>
        if s.fd (Tray.mbrStatus h m) 1 0 = 2 then Map.set (fun _ => 0) f m (Map.get (fun _ => 0) f m + 1) else f) p.flushes })))

/-- A member's link is lost: it is FAILED with cause link (R550). -/
def execMemberLinkLoss (h : Half) (m : Nat) (s : State) : Host.Outcome State Fault Refusal :=
  .next (s.onHalf h (fun s =>
    let s := (s.fw (Tray.mbrStatus h m) 7 4 0).fw (Tray.mbrStatus h m) 10 8 0
    if s.fd (Tray.mbrStatus h m) 1 0 = 1 ∨ s.fd (Tray.mbrStatus h m) 1 0 = 2 then s.memberFail h m 1 else s))

/-- A PCIe AER error of a member's port is counted; a fatal one fails the member with cause AER (R546, R553). -/
def execAerError (h : Half) (m : Nat) (fatal : Bool) (s : State) : Host.Outcome State Fault Refusal :=
  .next (s.onHalf h (fun s =>
    let s := s.satF (Tray.mbrStatus h m) 31 16 1
    if fatal ∧ (s.fd (Tray.mbrStatus h m) 1 0 = 1 ∨ s.fd (Tray.mbrStatus h m) 1 0 = 2) then s.memberFail h m 5 else s))

end Sys2Proof.Machine
end

