-- ==== Sys2Proof/Machine/Panel.lean ====
section
/-! DEFINITION. The front panel's display and keys (chapter 19). Sources and records are those of R570. -/
namespace Sys2Proof.Machine

/-- Change the panel. -/
def State.modPnl (s : State) (f : PanelSt → PanelSt) : State := s.modDeck (fun d => { d with panel := f d.panel })

/-! ### What the panel shows (R560-R562) -/

/-- The SAFETY terms of group `g` that are not CLEAR. -/
def State.pnlTerms (s : State) (g : Nat) : List Nat :=
  s.usedTerms.filter (fun t => decide (s.termKind t = 1) && decide (s.fd (Lid.termCtrl t) 19 16 = g)
    && decide (s.lockState t ≠ 0))
/-- The pages present, in the order of PAGE. -/
def State.pages (s : State) : List (Nat × Nat) :=
  [(0, 0), (1, 0)] ++ ((List.range 16).filter (fun g => s.pnlTerms g ≠ [])).map (fun g => (2, g))
    ++ (if s.bt Pnl.pnlStatus 13 then [(3, 0)] else [])
/-- Where a page stands in the order. -/
def pageKey (p : Nat × Nat) : Nat := if p.1 = 2 then 2 + p.2 else if p.1 = 3 then 18 else p.1
/-- The page after another one, by the order; STATUS after the last. -/
def State.pageAfter (s : State) (p : Nat × Nat) : Nat × Nat :=
  (s.pages.find? (fun q => decide (pageKey p < pageKey q))).getD (0, 0)
/-- The page shown. -/
def State.pageNow (s : State) : Nat × Nat := (s.fd Pnl.pnlStatus 2 0, s.fd Pnl.pnlStatus 7 4)
/-- The page the next update draws: the one asked for, or the one shown, or the next one where it is no longer present. -/
def State.pageNext (s : State) : Nat × Nat :=
  let p := s.deck.panel.next.getD s.pageNow
  if s.pages.contains p then p else s.pageAfter p
/-- The warnings of R562. -/
def State.pnlWarn (s : State) : List Nat :=
  let w (h : Half) : List Nat :=
    if s.runs h && decide (s.hstate h = 4) && s.bt (HalfR.halfStatus h) 9 && decide (s.partner h ≠ 3) then [h.num] else []
  w .a ++ w .b ++ (if s.deck.pwr.phase = 1 then [2] else [])
/-- The content of a page. -/
def State.pageBody (s : State) (p : Nat × Nat) : List Nat :=
  match p.1 with
  | 0 =>
    let h := (s.owner 126).getD .a
    [s.rn (Mod.imgActiveIdLo h), s.rn (Mod.imgActiveIdHi h), s.fd Lid.lidStatus 31 16,
      (if s.runs .a then s.levelCount .a else 0), (if s.runs .b then s.levelCount .b else 0)]
  | 1 => (List.range 256).map (fun i => s.rn (Pnl.alarmText (i / 16) (i % 16)))
  | 2 => s.fd (Lid.resetGrp p.2) 2 0 ::
      (s.pnlTerms p.2).flatMap (fun t => [t, s.lockState t, s.fd (Lid.termStatus t) 6 4])
  | _ => (List.range 7500).map (fun w => s.rn (Pnl.userFrame w))
/-- Ship time to the minute, while it is synchronised. -/
def State.pnlMinute (s : State) : Option Nat := match s.owner 126 with
  | some h => if s.synced h then some (s.now h / 60000000000) else none
  | none => none
/-- A page as it would be drawn now. -/
def State.compose (s : State) (p : Nat × Nat) : PnlImage :=
  ⟨false, p.1, p.2, s.deck.straps % 64, [s.hstate .a, s.hstate .b], s.pnlMinute, s.fd Pnl.pnlCfg 2 0, s.pageBody p,
    (match s.deck.panel.stepT with
      | some t => if s.deck.ticks < t + 2500000000 then some (s.fd Lid.resetStatus 2 0) else none
      | none => none), s.pnlWarn⟩
/-- The final frame as it would be drawn now (R563): header, POWER LOST and the groups with a term not CLEAR. -/
def State.composeFinal (s : State) : PnlImage :=
  { s.compose (0, 0) with
    final := true
    body := (List.range 16).filter (fun g => s.pnlTerms g ≠ [])
    step := none
    warn := [] }

/-! ### Updates (R557, R559) -/

/-- An update starts when the page or its content has changed; partial updates start at least 1 s apart, but for a new
warning. -/
def State.pnlStart (s : State) : State :=
  let x := s.deck.panel
  let p := s.pageNext
  let img := s.compose p
  let every := clampNat 1 100 (s.fd Pnl.pnlCfg 23 16)
  let full := x.full || decide (p ≠ s.pageNow) || !x.known || decide (every ≤ x.parts)
  let warned := match x.shown with
    | some o => decide (o.warn ≠ img.warn)
    | none => true
  if x.busy ∨ s.deck.ctrlDown ∨ s.deck.pwr.phase ≠ 0 ∨ s.bt Pnl.pnlStatus 12 then s
  else if full = false ∧ x.shown = some img then s
  else if full = false ∧ warned = false ∧ s.deck.ticks < x.startT + 250000000 then s
  else
    let t := s.deck.ticks
    let s := s.modPnl (fun y => { y with busy := true, drawing := some img, next := none, full := false, startT := t })
    let s := ((s.sb Pnl.pnlStatus 8 true).sb Pnl.pnlStatus 9 full).fw Pnl.pnlStatus 2 0 p.1
    let s := s.fw Pnl.pnlStatus 7 4 p.2
    if p.1 = 2 then s.fw Lid.panelGroup 3 0 p.2 else s
/-- Below -15 degrees C no update starts and COLD is set. DEDUCED: note 121. -/
def execDisplayUpdateStart (cold : Bool) (s : State) : Host.Outcome State Fault Refusal :=
  .next (s.onDeck (fun s => (s.sb Pnl.pnlStatus 12 cold).pnlStart))
/-- An update has ended: what it drew is shown. -/
def State.pnlDone (s : State) : State :=
  let t := s.deck.ticks
  let full := s.bt Pnl.pnlStatus 9
  let s := s.modPnl (fun y => { y with
    busy := false
    shown := y.drawing
    known := true
    finals := false
    parts := if full then 0 else y.parts + 1
    fullT := if full then t else y.fullT
    full := y.finals || y.full })
  let s := (s.sb Pnl.pnlStatus 8 false).fw Pnl.pnlStatus 31 16 (s.fd Pnl.pnlStatus 31 16 + 1)
  s.raiseBoth 7
/-- An update ends, 260 ms after its start or 480 ms for a full one at the soonest (R557), and the next one starts where it is due
(R559). -/
def execDisplayUpdateEnd (s : State) : Host.Outcome State Fault Refusal :=
  .next (if s.deck.panel.busy = false then s else if s.deck.inReset then
      s.modPnl (fun y => { y with busy := false, shown := y.drawing, known := true, finals := false })
    else if s.deck.ticks < s.deck.panel.startT + (if s.bt Pnl.pnlStatus 9 then 120000000 else 65000000) then s
    else s.pnlDone.pnlStart)
/-- 10 min since the last full update (R559). -/
def execFullUpdateDue (s : State) : Host.Outcome State Fault Refusal :=
  .next (s.onDeck (fun s =>
    if s.deck.panel.fullT + 150000000000 ≤ s.deck.ticks then s.modPnl (fun y => { y with full := true }) else s))
/-- PAGE_HOLD s without a key press (R560). -/
def execPageHoldExpire (s : State) : Host.Outcome State Fault Refusal :=
  .next (s.onDeck (fun s =>
    let n := clampNat 10 255 (s.fd Pnl.pnlCfg 15 8) * 250000000
    if s.deck.panel.pressT + n ≤ s.deck.ticks ∧ s.pageNow ≠ (0, 0) then s.modPnl (fun y => { y with next := some (0, 0) })
    else s))
/-- PNL_CMD of the owner of group 126 (R569). -/
def execUserShow (h : Half) (s : State) : Host.Outcome State Fault Refusal :=
  .next (s.deckCmd h 126 (fun s => (s.sb Pnl.pnlStatus 13 true).modPnl (fun y => { y with next := some (3, 0) })))
def execUserHide (h : Half) (s : State) : Host.Outcome State Fault Refusal :=
  .next (s.deckCmd h 126 (fun s => s.sb Pnl.pnlStatus 13 false))
def execFullNow (h : Half) (s : State) : Host.Outcome State Fault Refusal :=
  .next (s.deckCmd h 126 (fun s => s.modPnl (fun y => { y with full := true })))

/-! ### Power loss (R563) -/

/-- Every 1 s the deck controller renews the prepared final frame. -/
def execFinalFrameRenew (s : State) : Host.Outcome State Fault Refusal :=
  .next (s.onDeck (fun s =>
    let now := s.deck.ticks
    if s.deck.ctrlDown ∨ (s.deck.panel.prepared.isSome ∧ now < s.deck.panel.renewT + 250000000) then s
    else
      let img := s.composeFinal
      s.modPnl (fun y => { y with prepared := some img, renewT := now })))
/-- The rule for abrupt loss: an update with at most 40 % of its frames left is finished, another one abandoned. -/
def State.pnlAbrupt (s : State) (left : Nat) : State :=
  if s.deck.panel.busy = false then s
  else if left ≤ 40 then s.pnlDone
  else (s.modPnl (fun y => { y with busy := false, known := false, finals := false })).sb Pnl.pnlStatus 8 false
/-- Whether the final frame stands on the panel. -/
def State.finalShown (s : State) : Bool := match s.deck.panel.shown with
  | some i => i.final
  | none => false
/-- RIDE begins, with `left` % of a running update's frames to go: the final frame is drawn, full where the image on the panel
is not known. -/
def execFinalFrame (left : Nat) (s : State) : Host.Outcome State Fault Refusal :=
  .next (
    if s.deck.pwr.phase ≠ 1 ∨ s.deck.panel.finals ∨ s.finalShown then s
    else
      let s := s.pnlAbrupt left
      if s.bt Pnl.pnlStatus 12 then s
      else
        let full := !s.deck.panel.known
        let t := s.deck.ticks
        let s := s.modPnl (fun y => { y with busy := true, finals := true, drawing := y.prepared, startT := t })
        (s.sb Pnl.pnlStatus 8 true).sb Pnl.pnlStatus 9 full)
/-- The deck rail falls during an update, without RIDE. -/
def execAbruptRailLoss (left : Nat) (s : State) : Host.Outcome State Fault Refusal :=
  .next (s.pnlAbrupt left)
/-- The electrodes go to common and the drivers discharge, when no update runs: cause 0 final frame, which then stands on the
panel, 1 update finished, 2 abandoned, 3 none. -/
def execPanelDischarged (cause : Nat) (s : State) : Host.Outcome State Fault Refusal :=
  .next (if s.deck.panel.busy ∨ (cause = 0 ∧ s.finalShown = false) then s
    else (s.reportAt .a s.deckNow 0x1504 1 0 [cause]).reportAt .b s.deckNow 0x1504 1 1 [cause])

/-! ### Keys (R564-R568) -/

/-- KEY_STATUS.STATE of key `k` (0 ACK, 1 ARM, 2 CONFIRM, 3 PAGE): 0 IDLE, 1 TOUCHED, 2 HELD_AT_START, 3 STUCK. -/
def State.keySt (s : State) (k : Nat) : Nat := s.fd (Pnl.keyStatus k) 1 0
/-- A key's state and last DELTA. -/
def State.keyGo (s : State) (k n : Nat) (delta : Int) : State :=
  let t := s.deck.ticks
  ((s.fw (Pnl.keyStatus k) 1 0 n).fw (Pnl.keyStatus k) 15 4 (patOf 12 delta)).modPnl (fun y => { y with
    since := Map.set (fun _ => 0) y.since k t })
/-- THRESH, and the DELTA below which a key is released: THRESH less HYST, which acts as half of THRESH where it is not below it
(R564, R569). -/
def State.keyOn (s : State) : Int := ((clampNat 50 1000 (s.fd Pnl.keyCfg 9 0) : Nat) : Int)
def State.keyOff (s : State) : Int :=
  let hy : Int := ((clampNat 10 500 (s.fd Pnl.keyCfg 19 10) : Nat) : Int)
  s.keyOn - (if s.keyOn ≤ hy then s.keyOn / 2 else hy)
/-- A press of key `k`, whose DELTA has reached THRESH; it acts by `f` unless another key is touched. -/
def State.keyPress (s : State) (k : Nat) (delta : Int) (f : State → State) : State :=
  s.onDeck (fun s =>
    if s.keySt k ≠ 0 ∨ delta < s.keyOn then s
    else
      let alone := (List.range 4).all (fun j => decide (j = k) || decide (s.keySt j ≠ 1))
      let t := s.deck.ticks
      let s := ((s.keyGo k 1 delta).fw (Pnl.keyStatus k) 31 16 (s.fd (Pnl.keyStatus k) 31 16 + 1)).modPnl (fun y => { y with
        pressT := t })
      if alone then f s else s)
/-- A panel step passes to Lid while a LOCKOUT page is shown (R561); its result is shown with the page. -/
def State.pnlStep (s : State) (confirm : Bool) : State :=
  if s.fd Pnl.pnlStatus 2 0 ≠ 2 then s
  else
    let s := s.lidStep 1 .a 0 true (fun u h src g now => if confirm then u.lidConfirm h src g now else u.lidArm h src g now)
    let t := s.deck.ticks
    s.modPnl (fun y => { y with stepT := some t })
/-- ACK raises source 5 in both halves (R567). -/
def execKeyAckPress (delta : Int) (s : State) : Host.Outcome State Fault Refusal :=
  .next (s.keyPress 0 delta (fun s => s.raiseBoth 5))
/-- ARM acts at its release. -/
def execKeyArmPress (delta : Int) (s : State) : Host.Outcome State Fault Refusal :=
  .next (s.keyPress 1 delta (fun s => s))
/-- CONFIRM is step 2. -/
def execKeyConfirmPress (delta : Int) (s : State) : Host.Outcome State Fault Refusal :=
  .next (s.keyPress 2 delta (fun s => s.pnlStep true))
/-- PAGE moves to the next page. -/
def execKeyPagePress (delta : Int) (s : State) : Host.Outcome State Fault Refusal :=
  .next (s.keyPress 3 delta (fun s =>
    let p := s.pageAfter s.pageNext
    s.modPnl (fun y => { y with next := some p })))
/-- A key is released: from TOUCHED the ARM key makes step 1; from the two other states KEY_RELEASED is written. -/
def State.keyRelease (s : State) (k : Nat) (delta : Int) : State :=
  let st := s.keySt k
  if st = 0 ∨ s.keyOff ≤ delta then s
  else
    let sec := (s.deck.ticks - Map.get (fun _ => 0) s.deck.panel.since k) / 250000000
    let s := s.keyGo k 0 delta
    if st ≠ 1 then s.reportDeck 0x1503 0x1E k [st, sec]
    else if k = 1 then s.pnlStep false
    else s
def execKeyReleased (k : Nat) (delta : Int) (s : State) : Host.Outcome State Fault Refusal :=
  .next (s.onDeck (fun s => s.keyRelease k delta))
/-- A release of ARM (R567). -/
def execKeyArmRelease (delta : Int) (s : State) : Host.Outcome State Fault Refusal :=
  .next (s.onDeck (fun s => if s.keySt 1 = 1 then s.keyRelease 1 delta else s))
/-- A key's first judgement finds it touched (R566). -/
def execKeyHeldAtStart (k : Nat) (delta : Int) (s : State) : Host.Outcome State Fault Refusal :=
  .next (s.onDeck (fun s =>
    if s.keySt k ≠ 0 ∨ delta < s.keyOn ∨ Map.get (fun _ => 0) s.deck.panel.since k ≠ 0
        ∨ Map.get (fun _ => 0) s.deck.panel.baseT k ≠ 0 then s
    else (s.keyGo k 2 delta).reportDeck 0x1501 0x1E k [patOf 32 delta]))
/-- A key has been TOUCHED for 60 s (R566). -/
def execKeyStuck (k : Nat) (delta : Int) (s : State) : Host.Outcome State Fault Refusal :=
  .next (s.onDeck (fun s =>
    if s.keySt k = 1 ∧ Map.get (fun _ => 0) s.deck.panel.since k + 15000000000 ≤ s.deck.ticks then
      (s.keyGo k 3 delta).reportDeck 0x1502 0x1E k [patOf 32 delta]
    else s))
/-- Every 100 ms the baseline of an IDLE key moves by (raw - baseline) / 256, rounded toward zero (R565). -/
def execBaselineUpdate (k : Nat) (delta : Int) (s : State) : Host.Outcome State Fault Refusal :=
  .next (s.onDeck (fun s =>
    let now := s.deck.ticks
    if s.keySt k ≠ 0 ∨ now < Map.get (fun _ => 0) s.deck.panel.baseT k + 25000000 then s
    else (s.fw (Pnl.keyStatus k) 15 4 (patOf 12 delta)).modPnl (fun y => { y with
      baseT := Map.set (fun _ => 0) y.baseT k now
      base := Map.set (fun _ => 0) y.base k (Map.get (fun _ => 0) y.base k + delta.tdiv 256) })))

end Sys2Proof.Machine
end

