-- ==== Sys2Proof/Machine/Read.lean ====
section
/-! DEFINITION. Reads of the station address space (R13, R29, R43, R47): registers that are computed on reading, the
region directory, the active-copy index and the copy area (R91), and plain registers, RAM words and memory. -/
namespace Sys2Proof.Machine

/-! ### The loader's part of the staging window (R80, R91) -/

/-- A word of the copy area, at staging-window offset `o`: of the copy that lies there, if one does. DESIGN CHOICE: note 12. -/
def State.copyArea (s : State) (h : Half) (o : Nat) : Word :=
  let x := (s.half h).img
  match (x.active ++ x.ready).find? (fun e => decide (e.2.place ≤ o) && decide (o < e.2.place + copyLen e.1 e.2)) with
  | some e => (copyWord s.deck.straps e.1 e.2 (o - e.2.place)).getD (Config.copyFill o)
  | none => Config.copyFill o
/-- A word of region `r`'s directory entry. -/
def State.dirWord (s : State) (h : Half) (r w : Nat) : Word :=
  match w with
  | 0 => BitVec.ofNat 32 (match s.activeCopy h r with
    | some c => c.sid
    | none => 0)
  | 1 => BitVec.ofNat 32 (match s.activeCopy h r with
    | some c => c.sid / 2 ^ 32
    | none => 0)
  | 2 => BitVec.ofNat 32 (match s.activeCopy h r with
    | some c => c.crc
    | none => 0)
  | _ =>
    let refused := ((s.half h).img.refused.contains r).toNat * 4
    BitVec.ofNat 32 (match s.readyCopy h r with
    | some c => 1 + (s.regionMarked h r).toNat * 2 + refused + c.remove.toNat * 8 + c.place / 16 * 16
    | none => refused)
/-- A word of the image staging window, at its byte offset `o`: the raw area is memory. -/
def State.stagingWord (s : State) (h : Half) (o : Nat) : Word :=
  if o < 0x20000000 then BitVec.ofNat 32 (s.memNat (h.base + 0x40000000 + o) 4)
  else if o < 0x20011A00 then s.dirWord h ((o - 0x20000000) / 16) (o % 16 / 4)
  else if o < 0x20016080 then
    (match s.activeCopy h ((o - 0x20011A00) / 4) with
    | some c => BitVec.ofNat 32 (1 + c.place / 16 * 16)
    | none => 0)
  else s.copyArea h o

/-! ### Registers computed on reading -/

/-- The dirty units of a group, as half `h` shows them (R55). -/
def State.dirtyOf (s : State) (h : Half) (g : Nat) : Nat :=
  (s.dirty.filter (fun u => decide (u.grp = g) && (isDeckGroup g || u.half == some h))).length
/-- CMT (R50, R55). -/
def State.readCmt (s : State) (h : Half) (o : Nat) : Option Word :=
  if o = 8 then some (BitVec.ofNat 32 ((List.range 22).foldl (fun (v g : Nat) => v + (decide (0 < s.dirtyOf h g)).toNat * 2 ^ g) 0))
  else if 0x100 ≤ o ∧ o < 0x158 then some (BitVec.ofNat 32 (s.dirtyOf h ((o - 0x100) / 4)))
  else none
/-- A map of 32 sources as one word. -/
def sourceWord (k : Nat) (f : Nat → Bool) : Word :=
  BitVec.ofNat 32 ((List.range 32).foldl (fun (v i : Nat) => v + (f (32 * k + i)).toNat * 2 ^ i) 0)
/-- EVC (R61-R63). RAW of an edge source reads 0: its assertion is over at once. DEDUCED: note 39. -/
def State.readEvc (s : State) (h : Half) (o : Nat) : Option Word :=
  if o < 0x1000 then
    let n := o / 4
    some (setBit (s.rg (Evc.srcCfg h n)) 9 (isLevel n))
  else if o < 0x1080 then some (sourceWord ((o - 0x1000) / 4) (s.pendOf h))
  else if 0x1100 ≤ o ∧ o < 0x1180 then some (sourceWord ((o - 0x1100) / 4) (fun n => isLevel n && s.levelCond h n))
  else if 0x3000 ≤ o ∧ o < 0x3200 ∧ o % 0x40 = 0 then some (s.claimOf h ((o - 0x3000) / 0x40))
  else if 0x4000 ≤ o ∧ o < 0x4400 then some (BitVec.ofNat 32 (s.engWhoOf h ((o - 0x4000) / 4)))
  else none
/-- TALLY: a counter's low bits, and the reading core's latch (R71). -/
def State.readTally (s : State) (h : Half) (core o : Nat) : Option Word :=
  if 0x1000 ≤ o ∧ o < 0x1800 then
    let n := (o - 0x1000) / 8
    some (if o % 8 = 0 then BitVec.ofNat 32 (Map.get (fun _ => 0) (s.half h).ctr n)
      else Map.get (fun _ => 0) (s.half h).time.latchTally core)
  else none
/-- The sample clocks in use (R518): the distinct pairs of period and phase of the half's loops, in rising order.
DEDUCED: note 41. -/
def State.sclkPairs (s : State) (h : Half) : List (Nat × Nat) :=
  let ps := ((List.range 4096).filter (fun q => decide (s.slotState h q ≠ 0))).map (fun q =>
    (s.fd (slotBase h q + 8) 9 0, s.fd (slotBase h q + 8) 25 16))
  (ps.foldl (fun (m : Map Nat) (e : Nat × Nat) => Map.ins m (e.1 * 1024 + e.2) 0) []).map (fun e => (e.1 / 1024, e.1 % 1024))
/-- Whether half `h` is the time leader (R510). DEDUCED: note 42. -/
def State.isTimeLeader (s : State) (h : Half) : Bool :=
  decide (s.hstate h = 4) || (decide (s.hstate h.other ≠ 4) && s.preferred h)
/-- TIME (R507-R510, R518, R519). DEDUCED: note 41. -/
def State.readTime (s : State) (h : Half) (core o : Nat) : Option Word :=
  if o = 0x110 then some (BitVec.ofNat 32 (s.now h))
  else if o = 0x114 then some (Map.get (fun _ => 0) (s.half h).time.latchTime core)
  else if o = 0x138 then some (BitVec.ofNat 32 (s.half h).time.eff)
  else if o = 0x13C then some (BitVec.ofNat 32 ((s.half h).time.eff / 2 ^ 32))
  else if o = 0x118 then
    let w := setBit (setBit (s.rg (Time.timeStatus h)) 3 (s.synced h)) 4 (s.isTimeLeader h)
    some (setBits (setBits w 9 8 s.deck.timeState) 10 10 s.deck.timeSrc)
  else if 0x800 ≤ o ∧ o < 0x1800 then
    some (match (s.sclkPairs h).drop ((o - 0x800) / 8) with
    | (p, f) :: _ =>
      if o % 8 = 0 then BitVec.ofNat 32 (p + f * 2 ^ 16 + 2 ^ 31)
      else BitVec.ofNat 32 (Map.get (fun _ => 0) (s.half h).time.sclkLast (p * 1024 + f))
    | [] => 0)
  else none
/-- LOG (R536, R538, R540, R542). -/
def State.readLog (s : State) (h : Half) (o : Nat) : Option Word :=
  let x := (s.half h).log
  match o with
  | 0x0C => some (BitVec.ofNat 32 x.firstSeq)
  | 0x10 => some (BitVec.ofNat 32 x.nextSeq)
  | 0x14 => some (BitVec.ofNat 32 (x.queue.length + x.opened.length * 2 ^ 16))
  | 0x18 => some (BitVec.ofNat 32 x.pinWp)
  | 0x1C => some (BitVec.ofNat 32 x.pinCp)
  | 0x24 => some (BitVec.ofNat 32 (s.opTime h))
  | 0x28 => some (BitVec.ofNat 32 (s.opTime h / 2 ^ 32 % 65536))
  | 0x2C => some (BitVec.ofNat 32 x.cycles)
  | _ => none
/-- TRAY: the word at RP, or an invalid HEAD when the Tray is empty (R528). -/
def State.readTray (s : State) (h : Half) (o : Nat) : Option Word :=
  let t := o / 0x40
  if 0x1000 ≤ o ∨ trayExists t = false then none
  else if o % 0x40 = 0x20 ∨ o % 0x40 = 0x24 then
    let v := if s.rg (Tray.trayWp h t) = s.rg (Tray.trayRp h t) then 2 ^ 63
      else s.memNat (h.base + s.traySlot h t (s.rn (Tray.trayRp h t))) 8
    some (BitVec.ofNat 32 (if o % 0x40 = 0x20 then v else v / 2 ^ 32))
  else none
/-- Set bits of a bit map of `n` words. -/
def State.mapCount (s : State) (a n : Nat) : Nat := ((List.range (32 * n)).filter (s.mapBit a)).length
/-- PLC_STATUS (field map in chapter 6). -/
def State.readMod (s : State) (h : Half) (o : Nat) : Option Word :=
  if o = 0x2010 then
    let inService := ((List.range 512).filter (fun e => !s.mapBit (Mod.plcOos h 0) e && !s.mapBit (Mod.plcExcluded h 0) e)).length
    let risk := s.mapCount (Mod.plcPrepRisk h 0) 128
    some (BitVec.ofNat 32 (inService + s.mapCount (Mod.plcDisplaced h 0) 128 * 2 ^ 10 + (if risk < 511 then risk else 511) * 2 ^ 23))
  else none
/-- ALIGN_STATUS (R410): the aligned copies counted, and the tasks aligned or undefined. -/
def State.readHalf (s : State) (h : Half) (o : Nat) : Option Word :=
  if o = 0x58 then
    some (BitVec.ofNat 32 (s.mapCount (HalfR.alignedMap h 0) 128 + (List.range 16).foldl (fun (v t : Nat) =>
      v + (s.bt (HalfR.alignStatus h) (16 + t) || decide (s.taskState h t = 0)).toNat * 2 ^ (16 + t)) 0))
  else none
/-- LID: the inputs that demand on either rail (R291). -/
def State.readLid (s : State) (o : Nat) : Option Word :=
  if 0x92000 ≤ o ∧ o < 0x920A0 then
    some (BitVec.ofNat 32 ((List.range 32).foldl (fun (v b : Nat) =>
      let i := 32 * ((o - 0x92000) / 4) + b
      v + (s.lidInput false i || s.lidInput true i).toNat * 2 ^ b) 0))
  else none
/-- MOT: STEP_POS counts the steps that the present tick has issued by now (R215). -/
def State.readMot (s : State) (o : Nat) : Option Word :=
  if o % 0x4000 = 0xC4 then
    some (BitVec.ofInt 32 (s.stepPosAt (o / 0x4000) (s.fieldNow (104 + o / 0x4000 / 8) + 1)))
  else none
/-- DOUT: the time left of an armed watchdog in us (R286). -/
def State.readDout (s : State) (o : Nat) : Option Word :=
  if 0x10000 ≤ o ∧ o < 0x10800 ∧ o % 0x100 = 0x2C then
    let n := (o - 0x10000) / 0x100
    let gone := (s.deck.ticks - Map.get (fun _ => 0) s.deck.wdFed n) / 250
    let left := s.wdMs n * 1000 - gone
    some (if s.fd (Dout.grpStatus n) 1 0 = 1 then BitVec.ofNat 32 (if left < 1048575 then left else 1048575) else 0)
  else none
/-- APC: a timer's Q and ELAPSED as core `c` reads them, and CORE_LOAD (R334, R352). DESIGN CHOICE: note 22. -/
def State.readApc (s : State) (h : Half) (c o : Nat) : Option Word :=
  if 0x20000 ≤ o ∧ o < 0x40000 then
    let k := (o - 0x20000) / 0x20
    let now := s.tmTime h c k
    if o % 0x20 = 0 then some (setBit (s.rg (Apc.timer h k 0)) 3 (s.tmQ h k now))
    else if o % 0x20 = 8 then some (BitVec.ofNat 32 (s.tmElapsed h k now))
    else none
  else if 0x20 ≤ o ∧ o < 0x40 then some (BitVec.ofNat 32 (Config.coreLoad (s.now h) ((o - 0x20) / 4) % 65536))
  else none
/-- CAN: RECOV_COUNT while RECOVERING (R503). DESIGN CHOICE: note 19. -/
def State.readCan (s : State) (h : Half) (o : Nat) : Option Word :=
  if o < 0x10000 ∧ o % 0x1000 = 0x100 then
    let p := o / 0x1000
    some (setBits (s.rg (Can.canStatus h p)) 15 9
      (if s.fd (Can.canStatus h p) 2 0 = 6 then Config.recovCount (s.now h) p % 128 else 0))
  else none
/-- PWR: the meters, SHARING and STORE_READY (R454, R455). DESIGN CHOICE: note 20. -/
def State.readPwr (s : State) (h : Half) (o : Nat) : Option Word :=
  let now := s.now h
  if 0x1004 ≤ o ∧ o < 0x1020 then some (Config.pwrMeter now ((o - 0x1004) / 4))
  else if o = 0x1000 then
    some (setBit (setBit (s.rg (Pwr.pwrStatus h)) 2 (bit (Config.pwrMeter now 7) 0)) 4 (bit (Config.pwrMeter now 8) 0))
  else none
/-- PNL: STORE_OK (R563), the baseline in force and the factory baseline of a key (R565). DESIGN CHOICE: notes 20, 21. -/
def State.readPnl (s : State) (o : Nat) : Option Word :=
  if o = 0x100 then some (setBit (s.rg Pnl.pnlStatus) 10 (bit (Config.pwrMeter s.deckNow 9) 0)) else
  if 0x120 ≤ o ∧ o < 0x130 then
    let k := (o - 0x120) / 4
    let f := Config.keyFactory k % 4096
    some (BitVec.ofNat 32 (((f : Int) + Map.get (fun _ => 0) s.deck.panel.base k).toNat % 4096 + f * 2 ^ 16))
  else none
/-- TRK: TAGS_IN_USE (R439). -/
def State.readTrk (s : State) (h : Half) (o : Nat) : Option Word :=
  if o = 0x109C then some (BitVec.ofNat 32 (s.tagsInUse h)) else none
/-- ENG: the scratch words of a slot's state area, which no rule gives a content (R109). DESIGN CHOICE: note 13. -/
def engScratch (a : Nat) : Option Word :=
  let r := lowAddr a % 0x40000
  if 0x2000 ≤ r ∧ r < 0x4000 ∧ 0x130 ≤ r % 0x400 then some (Config.scratch a) else none
/-- A register that is computed on reading, at base offset `o` of half `h`; `core` is the reading core. -/
def State.readDerived (s : State) (h : Half) (core o : Nat) : Option Word :=
  match windowOf o with
  | none => none
  | some (b, _, _) =>
    if b = 0 then s.readMod h o
    else if b = 0x10000 then s.readCmt h (o - b)
    else if b = 0x20000 then s.readTime h core (o - b)
    else if b = 0x40000 then s.readTally h core (o - b)
    else if b = 0x80000 then s.readLog h (o - b)
    else if b = 0x100000 then s.readTray h (o - b)
    else if b = 0x200000 then s.readHalf h (o - b)
    else if b = 0x400000 then s.readLid (o - b)
    else if b = 0x800000 then s.readTrk h (o - b)
    else if b = 0xC00000 then s.readCan h (o - b)
    else if b = 0x1180000 then s.readDout (o - b)
    else if b = 0x1200000 then s.readMot (o - b)
    else if b = 0x1400000 then s.readPwr h (o - b)
    else if b = 0x1500000 then s.readPnl (o - b)
    else if b = 0x1600000 then s.readEvc h (o - b)
    else if b = 0x2000000 then s.readApc h core (o - b)
    else if b = 0x10000000 then engScratch (h.base + o)
    else none
/-- The word that a read by `core` of the register, RAM word or memory word at station address `a` returns; the address
lies in a window (R43, R45, R47). DEDUCED: note 31. -/
def State.readWord (s : State) (core a : Nat) : Word :=
  let o := lowAddr a
  let h := halfOf a
  if isStaging o then s.stagingWord h ((o - 0x40000000) / 4 * 4)
  else match s.readDerived h core ((liveAlias o).getD o) with
    | some w => w
    | none => s.readPlain a
/-- Each master has its own HI latches (R47): those of a core of half `h` that reads the other half's registers are no
core's of that half. DESIGN CHOICE: note 151. -/
def latchKey (h : Half) (core a : Nat) : Nat := if halfOf a = h then core else 64 + core
/-- The one effect of a read (R47): CTR_LO and NOW_LO load the reading core's latch. -/
def State.readLatch (s : State) (core a : Nat) : State :=
  let o := lowAddr a
  let h := halfOf a
  if o = 0x20110 then
    let hi := BitVec.ofNat 32 (s.now h / 2 ^ 32)
    s.modHalf h (fun x => { x with time := { x.time with latchTime := Map.set (fun _ => 0) x.time.latchTime core hi } })
  else if 0x41000 ≤ o ∧ o < 0x41800 ∧ o % 8 = 0 then
    let hi := BitVec.ofNat 32 (Map.get (fun _ => 0) (s.half h).ctr ((o - 0x41000) / 8) / 2 ^ 32)
    s.modHalf h (fun x => { x with time := { x.time with latchTally := Map.set (fun _ => 0) x.time.latchTally core hi } })
  else s

end Sys2Proof.Machine
end

