-- ==== Sys2Proof/Machine/Access.lean ====
section
/-! DEFINITION. Writes of the station address space as a master of a half issues them, the field-deck link's items, and
reads of the other half (R28, R43-R58, R92, R399). Masters 0-7 are application cores, 8-15 other fabric masters, and
16 + t the output path of task t. A register whose write has a row of its own is written by that row's meaning. -/
namespace Sys2Proof.Machine

/-- The state after a row's meaning. -/
def State.after (s : State) (r : Host.Outcome State Fault Refusal) : State := match r with
  | .next t => t
  | _ => s
/-- Run a row's meaning. DEDUCED: note 8. -/
def State.run1 (s : State) (f : State → Host.Outcome State Fault Refusal) : State := s.after (f s)

/-! ### Bus errors and refused writes (R43) -/

/-- A write to an engine out of service is ignored and reported as refused. DEDUCED: note 32. -/
def State.oosRefuse (s : State) (h : Half) (a : Nat) : State := s.modHalf h (fun x => { x with refusedAddr := some a })
/-- The engine that an engine window or table area address belongs to. -/
def engOfAddr (o : Nat) : Option Nat :=
  if 0x10000000 ≤ o ∧ o < 0x18000000 then some ((o - 0x10000000) / 0x40000)
  else if isTable o then some ((o - 0x20000000) / 0x200000 * 16 + (o - 0x20000000) % 0x200000 / 0x4000 / 8)
  else none

/-! ### Registers whose writes are commands -/

/-- Exactly one of the low `n` bits is set; which. DEDUCED: note 34. -/
def oneBit (v : Word) (n : Nat) : Option Nat := match (List.range n).filter (bit v) with
  | [i] => some i
  | _ => none
/-- One of a list of meanings, by the one bit set; nothing on any other combination. DEDUCED: note 34. -/
def State.pick (s : State) (v : Word) (fs : List (State → Host.Outcome State Fault Refusal)) : State :=
  match oneBit v fs.length with
  | some i => match fs.drop i with
    | f :: _ => s.run1 f
    | [] => s
  | none => s

/-- MOD (R64, R83, R174, R292, R575, R576, R583). A write of 0 to IMG_CMD is no command. DEDUCED: note 37.
DESIGN CHOICE: note 170. -/
def State.cmdMod (s : State) (h : Half) (o : Nat) (v : Word) : Option State :=
  if o = 0x204 then some (s.run1 (execSnapStart h v))
  else if o = 0xC000 then
    some (if v = 0 then s
      else match oneBit v 32 with
      | some 0 => s.run1 (execImageCheck h)
      | some 1 => s.run1 (execImageStore h)
      | some 2 => s.run1 (execImagePartnerCopy h)
      | some _ => s
      | none => s.imgCmd h true id)
  else if o = 0x2008 then
    some (match bits v 29 28 with
      | 1 => s.run1 (execPlcMove h (bits v 11 0) (bits v 24 16))
      | 2 => s.run1 (execPlcEvacuate h (bits v 24 16))
      | 3 => s.run1 (execPlcInclude h (bits v 24 16))
      | _ => s)
  else if 0xC100 ≤ o ∧ o < 0xC120 then some (s.run1 (execLidDemandWrite h ((o - 0xC100) / 4) v))
  else if o = 0x14 then some (s.run1 (execHalfResetCmd h v))
  else if o = 0x1C then some (s.run1 (execHalfWdFeed h false))
  else if o = 0x30 then
    some (if s.fd (Mod.fwStatus h) 1 0 = 1 then s else s.pick v [execFwStore h, execFwDeckStore h, execFwRollback h])
  else none
/-- CMT (R51, R54, R57). -/
def State.cmdCmt (s : State) (h : Half) (o : Nat) (v : Word) : Option State :=
  if o = 0 then some (s.run1 (execCmtStrobe h v))
  else if o = 0x1C then some (s.run1 (execCmtAbandon h v))
  else if o = 0x14 then some (s.run1 (execCmtLock h v))
  else if o = 0xC then some (s.run1 (execCmtFaultFlagClear h 0 v))
  else if o = 0x10 then some (s.run1 (execCmtFaultFlagClear h 1 v))
  else if o = 0x18 then some (s.run1 (execCmtFaultFlagClear h 2 v))
  else none
/-- TIME (R509, R515, R521). -/
def State.cmdTime (s : State) (h : Half) (o : Nat) (v : Word) : Option State :=
  if o = 0x100 then some (s.pick v [execTimeSet h, execTimeStep h, execTimeClearCounts h])
  else if o = 0x10C then some (s.run1 (execOffsetReport h v.toInt))
  else if 0x200 ≤ o ∧ o < 0x600 ∧ o % 0x10 = 4 then some (s.run1 (execCmpArm h ((o - 0x200) / 0x10) v))
  else none
/-- TALLY (R71, R73). -/
def State.cmdTally (s : State) (h : Half) (o : Nat) (v : Word) : Option State :=
  if 0x1000 ≤ o ∧ o < 0x1800 ∧ o % 8 = 0 then some (s.run1 (execTallyCtrLoWrite h ((o - 0x1000) / 8) v))
  else if o = 0x2014 then some (if bit v 0 then s.wr (Tally.dumpLost h) 0 else s)
  else none
/-- LOG (R541-R543). -/
def State.cmdLog (s : State) (h : Half) (o : Nat) (v : Word) : Option State :=
  if o = 4 then
    some (match v.toNat with
      | 0x01 => s.run1 (execLogFreeze h)
      | 0x02 => s.run1 (execLogUnfreeze h)
      | 0x04 => s.run1 (execLogRead h)
      | 0x08 => s.run1 (execLogClear h false)
      | 0x18 => s.run1 (execLogClear h true)
      | 0x20 => s.run1 (execLogClearCounts h)
      | _ => s)
  else none
/-- TRAY and the Pantry (R528, R547-R551, R553). DEDUCED: notes 50, 51. -/
def State.cmdTray (s : State) (h : Half) (o : Nat) (v : Word) : Option State :=
  if o < 0x1000 then
    (if o % 0x40 = 0x18 then some (s.run1 (execTrayRpWrite h (o / 0x40) v))
     else if 0x800 ≤ o ∧ o % 0x40 < 0xC then some s
     else none)
  else if o = 0x1000 then
    some (if bit v 0 then (List.range 64).foldl (fun (t : State) (k : Nat) =>
      ((t.wr (Tray.trayCnt h k) 0).wr (Tray.discardCnt h k) 0).wr (Tray.fullCnt h k) 0) s else s)
  else if o = 0x40410 then
    some (match bits v 3 0 with
      | 1 => s.run1 (execMemberInit h (bits v 11 8))
      | 2 => s.run1 (execMemberOff h (bits v 11 8))
      | 3 => s.run1 (execPantryRead h)
      | _ => s)
  else if (o = 0x40400 ∨ o = 0x40404 ∨ (0x40000 ≤ o ∧ o < 0x40200)) ∧ (List.range 4).any (s.streaming h) then
    some (s.pantryRefuse h)
  else if 0x41000 ≤ o ∧ o < 0x41100 then
    let st := (o - 0x41000) / 0x40
    if o % 0x40 = 0x10 then some (s.pick v [execStreamStart h st, execStreamStop h st, fun t => execStreamTrigger h st false t])
    else if o % 0x40 < 0xC ∧ s.streaming h st then some s
    else none
  else none
/-- HALF (R411, R412). -/
def State.cmdHalf (s : State) (h : Half) (o : Nat) (v : Word) : Option State :=
  if o = 4 then some (s.pick v [execHandover h, execCancel h, execHalfClearCounts h, execRealign h]) else none
/-- TRK (R439-R445, R451); only core `c` can write posting port `c`. DEDUCED: note 35. -/
def State.cmdTrk (s : State) (h : Half) (master o : Nat) (v : Word) : Option State :=
  if o = 0x1240 then some (s.run1 (execFenceClr h v))
  else if o = 0x1244 then some (if bit v 0 then s.run1 (execTrkClearCounts h) else s)
  else if 0x10000 ≤ o ∧ o < 0x18000 then
    let c := (o - 0x10000) / 0x1000
    let r := o % 0x1000
    if c ≠ master then some s
    else if r = 8 then some (s.run1 (execPgo h c v))
    else if r = 0x18 then some (s.run1 (execRgo h c v))
    else none
  else none
/-- CAN (R489-R494, R498). -/
def State.cmdCan (s : State) (h : Half) (o : Nat) (v : Word) : Option State :=
  if o < 0x10000 then
    (if o % 0x1000 = 0x108 then some (s.pick (v &&& 3) [execRecover h (o / 0x1000), execCanClearCounts h (o / 0x1000)]) else none)
  else if 0x100000 ≤ o ∧ o < 0x400000 then
    let p := (o - 0x100000) / 0x30000
    let k := (o - 0x100000) % 0x30000 / 0x60
    let r := (o - 0x100000) % 0x30000 % 0x60
    if r = 0 then some (s.run1 (execObjCfgWrite h p k v))
    else if r = 4 ∧ s.bt (Can.objCfg h p k) 0 then some s
    else if r = 8 then some (s.canObjAck h p k v)
    else if r = 0xC then some (s.pick (v &&& 3) [execTxReq h p k, execCanObjAbort h p k])
    else none
  else none
/-- PWR (R459, R460, R470, R477): the shadows are written only from the half that owns group 127. DEDUCED: note 118. -/
def State.cmdPwr (s : State) (h : Half) (o : Nat) (v : Word) : Option State :=
  if o = 0x1030 then
    some (if v &&& 15 = 0 then s
      else match oneBit v 4 with
      | some 0 => s.run1 (execGenReset h (bits v 10 8))
      | some 1 => s.run1 (execCardRetry h (bits v 21 16))
      | some 2 => s.run1 (execBayCycle h)
      | some _ => s.run1 (execPwrClearCounts h)
      | none => s.pwrResult h 1)
  else if o < 0x1000 ∧ s.owns h 127 = false then some s
  else none
/-- EVC (R62). -/
def State.cmdEvc (s : State) (h : Half) (o : Nat) (v : Word) : Option State :=
  if 0x1000 ≤ o ∧ o < 0x1080 then some (s.run1 (execEvcPendClear h ((o - 0x1000) / 4) v 0)) else none
/-- APC (R334, R340, R345). A second task of kind ERROR is not made (R324). DEDUCED: note 36. -/
def State.cmdApc (s : State) (h : Half) (master o : Nat) (v : Word) : Option State :=
  if o = 0 then
    some (match bits v 1 0 with
      | 1 => s.run1 (execRestartWarm h)
      | 2 => s.run1 (execRestartCold h)
      | 3 => s.run1 (execStopAll h)
      | _ => s)
  else if o = 0x10 then some (if bit v 0 then s.wr (Apc.errqLost h) 0 else s)
  else if 0x1000 ≤ o ∧ o < 0x1400 ∧ o % 0x40 = 0 then
    let t := (o - 0x1000) / 0x40
    if bits v 1 0 = 2 ∧ (List.range 16).any (fun u => decide (u ≠ t) && decide (bits (s.sh (Apc.taskCfg h u)) 1 0 = 2)) then
      some s
    else none
  else if 0x2000 ≤ o ∧ o < 0x2400 ∧ o % 0x40 = 0x3C then
    let t := (o - 0x2000) / 0x40
    some (s.pick (v &&& 15) [execTaskStop h t, execStartWarm h t, execStartCold h t, execTaskClearCounts h t])
  else if 0x20000 ≤ o ∧ o < 0x40000 then
    let k := (o - 0x20000) / 0x20
    some (match o % 0x20 with
      | 0 => s.tmIn h k (s.tmTime h master k) (bit v 2)
      | 4 => s.tmPreset h k v
      | _ => s)
  else none
/-- ENG (R112, R130): SLOT_CMD. -/
def State.cmdEng (s : State) (h : Half) (o : Nat) (v : Word) : Option State :=
  if o % 0x40000 = 4 then
    let q := o / 0x40000 * 8 + bits v 2 0
    let s := if bit v 8 then s.run1 (execSlotRestart h q) else s
    let s := if bit v 9 then s.run1 (execSlotClearCounts h q) else s
    some (if bit v 10 then s.run1 (execClearLat h q) else s)
  else none
/-- The field-deck blocks' commands (R221, R242, R259, R274, R281-R286, R311-R313, R569). Each checks ownership itself.
DESIGN CHOICE: note 23. -/
def State.cmdDeck (s : State) (h : Half) (o : Nat) (v : Word) : Option State :=
  if o < 0x800000 then
    let r := o - 0x400000
    if r = 0x80004 then
      let s := if bit v 0 then s.run1 (execPwSet h) else s
      some (if bit v 1 then s.run1 (execLidClearCounts h) else s)
    else if r = 0x80100 then
      let g := bits v 15 0
      some (match bit v 16, bit v 17 with
        | true, false => s.run1 (execLidResetArm 2 h g)
        | false, true => s.run1 (execLidResetConfirm 2 h g)
        | true, true => s.deckCmd h 125 (fun s => s.resetResult 2 3)
        | false, false => s)
    else none
  else if o < 0x1100000 then
    let c := (o - 0x1000000) / 0x400
    if 256 ≤ c then none
    else if o % 0x400 = 0x100 then some (s.run1 (execOutValueWrite h c v))
    else if o % 0x400 = 0x104 then
      some (if v &&& 63 = 0 then s
        else match oneBit v 6 with
        | some 0 => s.run1 (execCalOffline h c)
        | some 1 => s.run1 (execCalPointLo h c)
        | some 2 => s.run1 (execCalPointHi h c)
        | some 3 => s.run1 (execCalApply h c)
        | some 4 => s.run1 (execCalOnline h c)
        | some _ => s.run1 (execCalResetUser h c)
        | none => s.calCmd h c (fun _ => false) id)
    else none
  else if o < 0x1180000 then
    let i := (o - 0x1100000) / 0x40
    if i < 512 ∧ o % 0x40 = 0x38 then some (s.pick (v &&& 3) [execDiClearCount h i, execDiClearCounts h i]) else none
  else if o < 0x1200000 then
    let r := o - 0x1180000
    if r < 0x4000 then
      (if r % 0x40 = 0x28 then
        let f := s.fresh
        some (f.2.pick (v &&& 3) [execDoRetry h (r / 0x40) (Config.cooled f.1), execDoClearCounts h (r / 0x40)])
       else none)
    else if 0x10000 ≤ r ∧ r < 0x10800 then
      let n := (r - 0x10000) / 0x100
      if r % 0x100 = 0x10 then some (s.run1 (execDoOutWrite h n false v))
      else if r % 0x100 = 0x14 then some (s.run1 (execDoOutWrite h n true v))
      else if r % 0x100 = 0x18 then some (s.pick (v &&& 3) [execWdKick h n, execWdRestart h n])
      else none
    else none
  else if o < 0x1300000 then
    let p := (o - 0x1200000) / 0x4000
    if p < 32 ∧ o % 0x4000 = 0x80 then
      some (if v &&& 15 = 0 then s
        else match oneBit v 4 with
        | some 0 => s.run1 (execPortStart h p)
        | some 1 => s.run1 (execPortAbort h p)
        | some 2 => s.run1 (execPosSet h p)
        | some _ => s.run1 (execPortClearCounts h p)
        | none => s.portCmd h p 4)
    else none
  else if o < 0x1400000 then
    let l := (o - 0x1300000) / 0x1000
    if l < 64 ∧ o % 0x1000 = 0xF0 then
      let s := if bit v 0 then s.run1 (execLinkClearCounts h l) else s
      some (if bit v 1 then s.run1 (execRetrain h l) else s)
    else none
  else if o = 0x1500104 then some (s.pick (v &&& 7) [execUserShow h, execUserHide h, execFullNow h])
  else none

/-! ### Plain registers and RAM -/

/-- A write to the raw staging area (R91, R92); the rest of the window is read-only. -/
def State.writeStaging (s : State) (h : Half) (o : Nat) (v : Word) : State :=
  if 0x60000000 ≤ o then s
  else if s.imgBusy h then s.cmtFlag h (Cmt.cmtLateWrite h) 17
  else s.setMemNat (h.base + o / 4 * 4) 4 v.toNat
/-- The slot that a descriptor, coefficient or table address belongs to. -/
def slotOfAddr (o : Nat) : Option Nat :=
  let r := o % 0x40000
  if isTable o then some ((o - 0x20000000) / 0x200000 * 128 + (o - 0x20000000) % 0x200000 / 0x4000)
  else if o < 0x10000000 ∨ 0x18000000 ≤ o then none
  else if 0x1000 ≤ r ∧ r < 0x2000 then some ((o - 0x10000000) / 0x40000 * 8 + (r - 0x1000) / 0x200)
  else if 0x10000 ≤ r ∧ r < 0x20000 then some ((o - 0x10000000) / 0x40000 * 8 + (r - 0x10000) % 0x8000 / 0x1000)
  else none
/-- A software write to an ACTIVE protected copy's table area goes to the partner as well (R398). -/
def State.tableForward (s : State) (h : Half) (q o : Nat) (v : Word) : State :=
  let loop := s.slotLoop h q
  if s.slotState h q = 0 ∨ s.bt (slotBase h q) 12 = false ∨ s.hstate h ≠ 4 ∨ s.mirrorUp = false then s
  else s.modHalf h (fun x => { x with ctl := { x.ctl with fwdTx := x.ctl.fwdTx ++ [⟨loop, false, [(2, (o - 0x20000000) % 0x4000, v)]⟩] } })
/-- A write to an engine's window or table area. -/
def State.writeEng (s : State) (h : Half) (e o : Nat) (v : Word) : State :=
  let a := h.base + o
  let r := o % 0x40000
  if s.mapBit (Mod.plcOos h 0) e then s.oosRefuse h a
  else match slotOfAddr o with
  | some q =>
    if s.slotState h q ≠ 0 ∧ s.standby h q then s.sat (HalfR.stbyWriteCnt h)
    else if isTable o then ((s.wr a v).tableForward h q o v).moveSync h q
    else
      let s := if 0x70 ≤ r % 0x200 ∧ r % 0x200 < 0x80 ∧ r < 0x2000 ∧ s.pend h (18 + e / 128) = false then
          s.modRun h q (fun x => { x with compWr := x.compWr ||| 2 ^ (r % 0x200 / 4 % 4) })
        else s
      (match descOf o with
      | some d => s.writeListed h a d v
      | none => s).moveSync h q
  | none =>
    if 0x2000 ≤ r ∧ r < 0x4000 then (if s.bt (Eng.engStatus h e) 0 then s.wr a v else s)
    else if 0x4000 ≤ r then s
    else match descOf o with
      | some d => s.writeListed h a d v
      | none => s
/-- A write to a register of half `h`'s own blocks, at base offset `o`. DEDUCED: note 8. -/
def State.writeOwn (s : State) (h : Half) (master o : Nat) (v : Word) : State :=
  let cmd : Option State := match windowOf o with
    | none => none
    | some (b, _, _) =>
      if b = 0 then s.cmdMod h o v
      else if b = 0x10000 then s.cmdCmt h (o - b) v
      else if b = 0x20000 then s.cmdTime h (o - b) v
      else if b = 0x40000 then s.cmdTally h (o - b) v
      else if b = 0x80000 then s.cmdLog h (o - b) v
      else if b = 0x100000 then s.cmdTray h (o - b) v
      else if b = 0x200000 then s.cmdHalf h (o - b) v
      else if b = 0x800000 then s.cmdTrk h master (o - b) v
      else if b = 0xC00000 then s.cmdCan h (o - b) v
      else if b = 0x1400000 then s.cmdPwr h (o - b) v
      else if b = 0x1600000 then s.cmdEvc h (o - b) v
      else if b = 0x2000000 then s.cmdApc h master (o - b) v
      else if b = 0x10000000 then s.cmdEng h (o - b) v
      else none
  match engOfAddr o with
  | some e =>
    if s.mapBit (Mod.plcOos h 0) e then s.oosRefuse h (h.base + o)
    else match cmd with
      | some t => t
      | none => s.writeEng h e o v
  | none => match cmd with
    | some t => t
    | none => match descOf o with
      | some d => s.writeListed h (h.base + o) d v
      | none => s

/-- A write by a master of half `h` to a station address (R43, R45): a field-deck item goes onto the link; a core's
write to the other half is refused with a bus error; an unlisted offset or a live view ignores it.
DEDUCED: notes 29, 30. -/
def State.writeReg (s : State) (h : Half) (master a : Nat) (v : Word) : State :=
  let o := lowAddr a / 4 * 4
  if inWindow o = false then s.busError h master a
  else if isDeckBlock o then
    (if (s.half h).linkUp then s.modHalf h (fun x => { x with deckTx := x.deckTx ++ [⟨master, o, v⟩] }) else s)
  else if halfOf a ≠ h then (if master < 8 then s.busError h master a else s)
  else if isDdr o then s.setMemNat (h.base + o) 4 v.toNat
  else if isStaging o then s.writeStaging h o v
  else if (liveAlias o).isSome then s
  else s.writeOwn h master o v

/-- A write arrives at the field deck (R28): the owner of its resource group alone is heard, and a refused word of a task's
output image is recorded (R331). -/
def State.deckItem (s : State) (h : Half) (i : DeckItem) : State :=
  let g := resGroup i.addr
  if s.owns h g = false then (if 16 ≤ i.master then s.deckRefuse h |>.outputRefused h (i.master - 16) g else s.deckRefuse h)
  else if (liveAlias i.addr).isSome then s
  else match s.cmdDeck h i.addr i.val with
    | some t => t
    | none => match descOf i.addr with
      | some d => s.writeListed h i.addr d i.val
      | none => s

/-- REGISTER_WRITE: a master of half `h` writes a word (R44, R49: in command order). DEDUCED: note 29. -/
def execRegisterWrite (h : Half) (master addr : Nat) (val : Word) (s : State) : Host.Outcome State Fault Refusal :=
  .next (s.onHalf h (fun s => s.writeReg h master addr val))
/-- The oldest write on the field-deck link of half `h` arrives (R28). DEDUCED: note 30. -/
def execDeckItemArrive (h : Half) (s : State) : Host.Outcome State Fault Refusal :=
  .next (match (s.half h).deckTx with
  | [] => s
  | i :: l =>
    let s := s.modHalf h (fun x => { x with deckTx := l })
    if (s.half h).linkUp then s.onDeck (fun s => s.deckItem h i) else s)
/-- A core of half `h` reads an address of the other half over the mirror link, or gets a bus error and 0 (R43).
DEDUCED: note 31. -/
def execCrossHalfRead (h : Half) (core addr : Nat) (s : State) : Host.Outcome State Fault Refusal :=
  .next (s.onHalf h (fun s =>
    let put (s : State) (w : Word) : State :=
      s.modHalf h (fun x => { x with readData := Map.set (fun _ => 0) x.readData core w })
    let o := lowAddr addr
    let a := o + h.other.base
    if isDeckBlock o then put s (s.readWord core a)
    else if inWindow o = false ∨ s.mirrorUp = false ∨ s.runs h.other = false then put (s.busError h core a) 0
    else (put s (s.readWord (latchKey h core a) a)).readLatch (latchKey h core a) a))

end Sys2Proof.Machine
end

