-- ==== Sys2Proof/Machine/FpOps.lean ====
section
/-! DEFINITION. Floating arithmetic of station code (R363, R368): results with the exceptions they raise, in the rounding
direction of FCTL. Flags are a number: 1 NV, 2 DZ, 4 OF, 8 UF, 16 NX. PRESUMED: note 28. -/
namespace Sys2Proof.Machine

/-- A pattern and the exceptions raised. -/
structure FRes where
  bits : Nat
  flags : Nat
  deriving DecidableEq, Repr

/-- FCTL.RM (R368). -/
def rmOf (n : Nat) : RMode := match n with
  | 0 => .rne
  | 1 => .rtz
  | 2 => .rdn
  | _ => .rup
/-- Whether a pattern is a signaling NaN. -/
def Fmt.isSnan (f : Fmt) (a : Nat) : Bool := f.isNan a && decide (a / 2 ^ (f.p - 2) % 2 = 0)
/-- The invalid flag if an operand is a signaling NaN. -/
def Fmt.snanFlag (f : Fmt) (l : List Nat) : Nat := (l.any f.isSnan).toNat

/-- An exact number rounded, with OF, UF and NX. -/
def Fmt.roundF (f : Fmt) (r : RMode) (neg : Bool) (m : Nat) (e : Int) (sticky : Bool) : FRes :=
  let b := f.round r neg m e sticky
  let wide : Fmt := ⟨f.p, f.eb + 3⟩
  let top (m : Nat) (e : Int) : Int := e + (bitLen m : Int) - 1
  let minExp : Int := f.emin + (f.p : Int) - 1
  let maxExp : Int := minExp + 2 ^ f.eb - 3
  let nonzero := decide (m ≠ 0) || sticky
  let inexact := match f.val b with
    | .num _ m' e' => sticky || decide (exactAdd false m e true m' e' ≠ (0, if e < e' then e else e'))
    | _ => true
  match wide.val (wide.round r neg m e sticky) with
  | .num _ m' e' =>
    let ovr := decide (m' ≠ 0) && decide (maxExp < top m' e')
    let tiny := nonzero && (if Config.tinyBefore then decide (top m e < minExp) else decide (m' = 0) || decide (top m' e' < minExp))
    ⟨b, ovr.toNat * 4 + (tiny && inexact).toNat * 8 + (ovr || inexact).toNat * 16⟩
  | _ => ⟨b, 20⟩
/-- The sum of two exact numbers, rounded; an exact zero sum of unlike signs is -0 toward -infinity, else +0. -/
def Fmt.sumF (f : Fmt) (r : RMode) (n1 : Bool) (m1 : Nat) (e1 : Int) (n2 : Bool) (m2 : Nat) (e2 : Int) : FRes :=
  let s := exactAdd n1 m1 e1 n2 m2 e2
  if s.1 = 0 then
    ⟨f.withSign (if n1 = n2 ∧ m1 = 0 ∧ m2 = 0 then n1 else r == .rdn) 0, 0⟩
  else f.roundF r (decide (s.1 < 0)) s.1.natAbs s.2 false
/-- FADD. -/
def Fmt.addF (f : Fmt) (r : RMode) (a b : Nat) : FRes :=
  match f.val a, f.val b with
  | .num s m e, .num t k g => f.sumF r s m e t k g
  | .inf s, .inf t => if s = t then ⟨f.withSign s f.inf, 0⟩ else ⟨f.qnan, 1⟩
  | _, _ => ⟨f.add a b, f.snanFlag [a, b]⟩
/-- FSUB. -/
def Fmt.subF (f : Fmt) (r : RMode) (a b : Nat) : FRes :=
  if f.isNan b then ⟨f.qnan, f.snanFlag [a, b]⟩ else f.addF r a (f.neg b)
/-- FMUL. -/
def Fmt.mulF (f : Fmt) (r : RMode) (a b : Nat) : FRes :=
  match f.val a, f.val b with
  | .num s m e, .num t k g => f.roundF r (s != t) (m * k) (e + g) false
  | .inf _, .num _ k _ => ⟨f.mul a b, (decide (k = 0)).toNat⟩
  | .num _ m _, .inf _ => ⟨f.mul a b, (decide (m = 0)).toNat⟩
  | _, _ => ⟨f.mul a b, f.snanFlag [a, b]⟩
/-- FDIV. -/
def Fmt.divF (f : Fmt) (r : RMode) (a b : Nat) : FRes :=
  match f.val a, f.val b with
  | .num s m e, .num t k g =>
    if k = 0 then (if m = 0 then ⟨f.qnan, 1⟩ else ⟨f.withSign (s != t) f.inf, 2⟩)
    else
      let n := m * 2 ^ (2 * f.p + 4)
      if m = 0 then ⟨f.withSign (s != t) 0, 0⟩
      else f.roundF r (s != t) (n / k) (e - g - (2 * f.p + 4 : Nat)) (decide (n % k ≠ 0))
  | .inf _, .inf _ => ⟨f.qnan, 1⟩
  | _, _ => ⟨f.div a b, f.snanFlag [a, b]⟩
/-- FSQRT. -/
def Fmt.sqrtF (f : Fmt) (r : RMode) (a : Nat) : FRes :=
  match f.val a with
  | .num s m e =>
    if m = 0 then ⟨f.withSign s 0, 0⟩
    else if s then ⟨f.qnan, 1⟩
    else
      let k := 2 * f.p + 4 + (e % 2).toNat
      let v := m * 2 ^ k
      let q := isqrt v
      f.roundF r false q ((e - (k : Int)) / 2) (decide (q * q ≠ v))
  | .inf s => if s then ⟨f.qnan, 1⟩ else ⟨f.inf, 0⟩
  | .nan => ⟨f.qnan, f.snanFlag [a]⟩
/-- FMA: one rounding. -/
def Fmt.fmaF (f : Fmt) (r : RMode) (a b c : Nat) : FRes :=
  match f.val a, f.val b, f.val c with
  | .num s m e, .num t k g, .num u n i => f.sumF r (s != t) (m * k) (e + g) u n i
  | .inf _, .num _ 0 _, .nan => ⟨f.qnan, (Config.fmaNanInvalid || f.isSnan c).toNat⟩
  | .num _ 0 _, .inf _, .nan => ⟨f.qnan, (Config.fmaNanInvalid || f.isSnan c).toNat⟩
  | .nan, _, _ => ⟨f.qnan, f.snanFlag [a, b, c]⟩
  | _, .nan, _ => ⟨f.qnan, f.snanFlag [a, b, c]⟩
  | _, _, .nan => ⟨f.qnan, f.snanFlag [a, b, c]⟩
  | _, _, _ =>
    let v := f.fma a b c
    ⟨v, (f.isNan v).toNat⟩
/-- FMIN and FMAX: a NaN operand yields the other operand; -0.0 counts below +0.0. DEDUCED: note 106. -/
def Fmt.minF (f : Fmt) (max : Bool) (a b : Nat) : FRes :=
  let fl := f.snanFlag [a, b]
  if f.isNan a then ⟨if f.isNan b then f.qnan else b, fl⟩
  else if f.isNan b then ⟨a, fl⟩
  else
    let less := decide (f.key a < f.key b) || (decide (f.key a = f.key b) && decide (f.sgn ≤ a % (2 * f.sgn)))
    ⟨if less = max then b else a, fl⟩
/-- FEQ (0), FLT (1), FLE (2), FUN (3). DEDUCED: note 106. -/
def Fmt.cmpF (f : Fmt) (k a b : Nat) : FRes :=
  let un := f.isNan a || f.isNan b
  let sn := f.snanFlag [a, b]
  match k with
  | 0 => ⟨(f.eq a b).toNat, sn⟩
  | 1 => ⟨(f.lt a b).toNat, if un && Config.cmpSignals then 1 else sn⟩
  | 2 => ⟨(f.le a b).toNat, if un && Config.cmpSignals then 1 else sn⟩
  | _ => ⟨un.toNat, sn⟩
/-- FNEG, FABS and FMOV: exact, no exception. DEDUCED: note 106. -/
def Fmt.absBits (f : Fmt) (a : Nat) : Nat := a % f.sgn
/-- CVTSD and CVTDS. -/
def Fmt.cvtF (f g : Fmt) (r : RMode) (a : Nat) : FRes :=
  match f.val a with
  | .num s m e => if m = 0 then ⟨g.withSign s 0, 0⟩ else g.roundF r s m e false
  | .inf s => ⟨g.withSign s g.inf, 0⟩
  | .nan => ⟨g.qnan, f.snanFlag [a]⟩
/-- CVTSG and CVTDG: a signed 64-bit integer. -/
def Fmt.ofIntF (f : Fmt) (r : RMode) (i : Int) : FRes :=
  if i = 0 then ⟨0, 0⟩ else f.roundF r (decide (i < 0)) i.natAbs 0 false
/-- A conversion to a signed 64-bit integer: a NaN gives 0, a value beyond the range the nearer bound, both with NV. -/
def Fmt.toIntF (f : Fmt) (r : RMode) (a : Nat) : FRes :=
  match f.val a with
  | .nan => ⟨0, 1⟩
  | .inf s => ⟨if s then 2 ^ 63 else 2 ^ 63 - 1, 1⟩
  | .num s m e =>
    let i := roundInt r s m e
    if i < -(2 ^ 63) then ⟨2 ^ 63, 1⟩
    else if 2 ^ 63 ≤ i then ⟨2 ^ 63 - 1, 1⟩
    else
      let inexact := decide (e < 0) && decide (m % 2 ^ (-e).toNat ≠ 0)
      ⟨patOf 64 i, if inexact && Config.cvtInexact then 16 else 0⟩

end Sys2Proof.Machine
end

