-- ==== Sys2Proof/Machine/NatOps.lean ====
section
/-! DEFINITION. Shared operations of native station code: the running context, the core's memory map and its access check,
the instruction words, and the run of one instruction (R355-R368, R371). -/
namespace Sys2Proof.Machine

/-! ### Instruction words (R360) -/

/-- Format A: OP, D, S1, S2, FN. -/
def encA (op d s1 s2 fn : Nat) : Nat := op * 2 ^ 26 + d * 2 ^ 21 + s1 * 2 ^ 16 + s2 * 2 ^ 11 + fn
/-- Format F: OP, D, S1, S2, S3, FN. -/
def encF (op d s1 s2 s3 fn : Nat) : Nat := op * 2 ^ 26 + d * 2 ^ 21 + s1 * 2 ^ 16 + s2 * 2 ^ 11 + s3 * 2 ^ 6 + fn
/-- Format I (and B, with S1 and S2 in the places of D and S1): OP, two registers, 16 bits. -/
def encI (op d s1 imm : Nat) : Nat := op * 2 ^ 26 + d * 2 ^ 21 + s1 * 2 ^ 16 + imm
/-- Format J: OP, 26 bits. -/
def encJ (op off : Nat) : Nat := op * 2 ^ 26 + off
/-- Format U: OP, D, 21 bits. -/
def encU (op d imm : Nat) : Nat := op * 2 ^ 26 + d * 2 ^ 21 + imm
/-- The FN values of ALU (R362). -/
def aluFns : List Nat := [0x000, 0x001, 0x002, 0x003, 0x004, 0x005, 0x008, 0x009, 0x00A, 0x010, 0x011, 0x012, 0x014, 0x015,
  0x016, 0x017, 0x018, 0x019, 0x01A, 0x01B, 0x01C, 0x01D, 0x020, 0x021, 0x028, 0x029, 0x02A, 0x030, 0x034, 0x036]
/-- The FN values of STN (R364). -/
def stnFns : List Nat := [0x001, 0x002, 0x003, 0x004, 0x010, 0x011, 0x012, 0x020, 0x021, 0x022, 0x030, 0x031, 0x032, 0x033,
  0x040, 0x050, 0x051, 0x060, 0x061, 0x070]
/-- Whether a word is an instruction of R361-R364. SHI of kind 3, LCH with S1 not 0 and JRL with FN not 0 are undefined. -/
def definedWord (w : Nat) : Bool :=
  let op := w / 2 ^ 26
  let fn := w % 2 ^ 11
  if op = 0 then aluFns.contains fn
  else if op = 7 then decide (w / 2 ^ 6 % 4 ≠ 3)
  else if op = 9 then decide (w / 2 ^ 16 % 32 = 0)
  else if op = 0x28 then decide (fn = 0)
  else if op = 0x30 then decide (w % 32 ≤ 0x0A) || (decide (0x10 ≤ w % 32) && decide (w % 32 ≤ 0x13))
  else if op = 0x31 then decide (fn ≤ 9)
  else if op = 0x3E then stnFns.contains fn
  else decide (op ≤ 0x0A) || (decide (0x10 ≤ op) && decide (op ≤ 0x1E)) || (decide (0x20 ≤ op) && decide (op ≤ 0x27))

/-! ### The context (R355, R357) -/

/-- EXIT_LINK. DEDUCED: note 104. -/
def exitLink : Nat := 0xFFFFFFFFFFFFFFF0
/-- Register G n; G0 reads 0. -/
def Ctx.gr (x : Ctx) (n : Nat) : Dword := if n = 0 then 0 else Map.get (fun _ => 0) x.g n
/-- Write register G n; G0 discards it. -/
def Ctx.setG (x : Ctx) (n : Nat) (v : Dword) : Ctx := if n = 0 then x else { x with g := Map.set (fun _ => 0) x.g n v }
/-- Register F n. -/
def Ctx.fr (x : Ctx) (n : Nat) : Dword := Map.get (fun _ => 0) x.f n
/-- Write register F n. -/
def Ctx.setF (x : Ctx) (n : Nat) (v : Dword) : Ctx := { x with f := Map.set (fun _ => 0) x.f n v }
/-- The run that core `c` executes: the task on top, or background code where no task holds the core (R326, R370).
DEDUCED: note 103. -/
def State.running (s : State) (h : Half) (c : Nat) : Option Ctx :=
  let k := s.core h c
  if (s.half h).coreStopped.contains c then none
  else match k.stack with
  | t :: _ => let x := s.task h t; if x.phase = 2 ∨ x.phase = 6 then some x.ctx else none
  | [] => k.bg
/-- The context of core `c`'s run becomes `x`. -/
def State.putCtx (s : State) (h : Half) (c : Nat) (x : Ctx) : State :=
  if x.kind = 4 then s.modCore h c (fun k => { k with bg := some x })
  else s.modTask h x.task (fun y => { y with ctx := x })

/-! ### Memory (R356, R366) -/

/-- The regions of the core's map. -/
inductive Region where
  | code | data | stack | guard | none
  deriving DecidableEq, Repr

/-- The region that an access of `n` bytes at `a` lies in wholly, with the byte offset in it; a background run has its own
stack and meets both guards, a task phase only its own (R356). DEDUCED: note 105. -/
def State.region (s : State) (h : Half) (x : Ctx) (a n : Nat) : Region × Nat :=
  let bg := decide (x.kind = 4)
  let stk := if bg then 0x400001000 else 0x300001000
  let len := if bg then 0x10000 else s.hdr h x.task 0x1C
  if (0x300000000 ≤ a ∧ a < 0x300001000) ∨ (bg ∧ 0x400000000 ≤ a ∧ a < 0x400001000) then (.guard, 0)
  else if 0x100000000 ≤ a ∧ a + n ≤ 0x100000000 + s.rn (Apc.codeLen h x.task) then (.code, a - 0x100000000)
  else if 0x200000000 ≤ a ∧ a + n ≤ 0x200000000 + s.rn (Apc.dataLen h x.task) then (.data, a - 0x200000000)
  else if stk ≤ a ∧ a + n ≤ stk + len then (.stack, a - stk)
  else (.none, 0)
/-- The code fault of a load or store, if it has one (R366). DEDUCED: note 105. -/
def State.accessFault (s : State) (h : Half) (x : Ctx) (a n : Nat) (store : Bool) : Option Nat :=
  if a % n ≠ 0 then some 2
  else match (s.region h x a n).1 with
  | .guard => some 5
  | .code => if store then some 3 else none
  | .data => if store ∧ x.kind = 4 then some 3 else none
  | .stack => none
  | .none => some 3
/-- `n` bytes as the run of core `c` loads them. -/
def State.loadNat (s : State) (h : Half) (c : Nat) (x : Ctx) (a n : Nat) : Nat :=
  match s.region h x a n with
  | (.code, o) => s.codeNat h x.task o n
  | (.data, o) => s.dataNat h x.task o n
  | (.stack, o) =>
    let m := if x.kind = 4 then (s.core h c).bgStack else (s.task h x.task).stack
    leNat ((List.range n).map (fun i => Map.get (fun _ => 0) m (o + i)))
  | _ => 0
/-- The low `n` bytes of `v` stored by the run of core `c`. -/
def State.storeNat (s : State) (h : Half) (c : Nat) (x : Ctx) (a n v : Nat) : State :=
  match s.region h x a n with
  | (.data, o) => s.dataPut h x.task o n v
  | (.stack, o) =>
    if x.kind = 4 then s.modCore h c (fun k => { k with bgStack := putBytes k.bgStack o (leBytes n v) })
    else s.modTask h x.task (fun y => { y with stack := putBytes y.stack o (leBytes n v) })
  | _ => s

/-! ### One instruction -/

/-- What an instruction does: a code fault with its code and address, or the context after it and an effect on the rest. -/
inductive Eff where
  | fault (code addr : Nat)
  | ok (x : Ctx) (act : State → State)

/-- The context is stored, the effect follows, and a run that has transferred to EXIT_LINK ends (R357).
DEDUCED: note 104. -/
def State.takeEff (s : State) (h : Half) (c pc : Nat) (x : Ctx) : Eff → State
  | .fault code addr => s.codeFault h c x code pc addr
  | .ok y act =>
    let s := act (s.putCtx h c y)
    if y.pc = exitLink then s.runEnd h c y else s
/-- Byte offset in the code of an address, as FAULT_PC shows it. -/
def codeOff (pc : Nat) : Nat := (pc + 2 ^ 64 - 0x100000000) % 2 ^ 32
/-- Core `c` of half `h` executes the native instruction with word `w`: its fetch is checked (R366), a word that is no
instruction faults ILLEGAL_OP, and where another instruction stands at PC nothing happens. `f` gives its effect; PC has
already advanced in the context it receives. DEDUCED: note 103. -/
def State.native (s : State) (h : Half) (c w : Nat) (f : State → Ctx → Eff) : State :=
  s.onHalf h (fun s => match s.running h c with
  | none => s
  | some x =>
    let pc := codeOff x.pc
    if x.kind ≠ 4 ∧ s.taskIc h x.task then s
    else if x.pc = exitLink then s.runEnd h c x
    else if x.pc % 4 ≠ 0 then s.codeFault h c x 2 pc x.pc
    else match s.region h x x.pc 4 with
    | (.guard, _) => s.codeFault h c x 5 pc x.pc
    | (.code, o) =>
      let v := s.codeNat h x.task o 4
      if definedWord v = false then s.codeFault h c x 1 pc 0
      else if v ≠ w then s
      else s.takeEff h c pc x (f s { x with pc := (x.pc + 4) % 2 ^ 64 })
    | _ => s.codeFault h c x 4 pc x.pc)
/-- No effect beside the context. -/
def done (x : Ctx) : Eff := .ok x id

/-! ### Shapes of instructions -/

/-- The sign-extended low `n` bits. -/
def sx (n v : Nat) : Dword := BitVec.ofInt 64 (signedOf n v)
/-- An instruction of ALU (R362). -/
def State.alu (s : State) (h : Half) (c d s1 s2 fn : Nat) (f : Dword → Dword → Dword) : State :=
  s.native h c (encA 0 d s1 s2 fn) (fun _ x => done (x.setG d (f (x.gr s1) (x.gr s2))))
/-- A division or remainder (R365): DIV_ZERO where the divisor is 0. -/
def State.aluDiv (s : State) (h : Half) (c d s1 s2 fn : Nat) (f : Dword → Dword → Option Dword) : State :=
  s.native h c (encA 0 d s1 s2 fn) (fun _ x => match f (x.gr s1) (x.gr s2) with
    | some v => done (x.setG d v)
    | none => .fault 6 0)
/-- A 32-bit result, sign-extended. -/
def res32 (v : BitVec 32) : Dword := v.signExtend 64
/-- Bits [31:0] of a register. -/
def lo32 (v : Dword) : BitVec 32 := v.truncate 32
/-- Truth as a register value. -/
def flag64 (b : Bool) : Dword := if b then 1 else 0
/-- An immediate instruction. -/
def State.imm (s : State) (h : Half) (c op d s1 imm : Nat) (f : Ctx → Dword → Dword) : State :=
  s.native h c (encI op d s1 imm) (fun _ x => done (x.setG d (f x (x.gr s1))))
/-- A load of `n` bytes at S1 + IMM16 (R366). -/
def State.load (s : State) (h : Half) (c op d s1 imm n : Nat) (put : Ctx → Nat → Ctx) : State :=
  s.native h c (encI op d s1 imm) (fun s x =>
    let a := (x.gr s1 + sx 16 imm).toNat
    match s.accessFault h x a n false with
    | some code => .fault code a
    | none => done (put x (s.loadNat h c x a n)))
/-- A store of the low `n` bytes of `v` at S1 + IMM16 (R366). -/
def State.store (s : State) (h : Half) (c op d s1 imm n : Nat) (v : Ctx → Dword) : State :=
  s.native h c (encI op d s1 imm) (fun s x =>
    let a := (x.gr s1 + sx 16 imm).toNat
    match s.accessFault h x a n true with
    | some code => .fault code a
    | none => .ok x (fun s => s.storeNat h c x a n (v x).toNat))
/-- PC plus 4 times a sign-extended offset, PC being that of the instruction (R367). -/
def target (x : Ctx) (n off : Nat) : Nat := (BitVec.ofNat 64 (x.pc - 4) + sx n off * 4).toNat
/-- A branch. -/
def State.branch (s : State) (h : Half) (c op s1 s2 off : Nat) (cond : Dword → Dword → Bool) : State :=
  s.native h c (encI op s1 s2 off) (fun _ x =>
    done (if cond (x.gr s1) (x.gr s2) then { x with pc := target x 16 off } else x))
/-- The format that FN [5] of FOP names. -/
def fmtOf (dbl : Bool) : Fmt := if dbl then f64 else f32
/-- An operand of that format. -/
def Ctx.fop (x : Ctx) (dbl : Bool) (n : Nat) : Nat := (x.fr n).toNat % (if dbl then 2 ^ 64 else 2 ^ 32)
/-- The flags of a floating result: FP_TRAP where an enabled exception is raised, else sticky (R368).
DEDUCED: note 106. -/
def fpDone (x : Ctx) (r : FRes) (put : Ctx → Dword → Ctx) : Eff :=
  if bits x.fctl 20 16 &&& r.flags ≠ 0 then .fault 7 0
  else done (put { x with fctl := x.fctl ||| BitVec.ofNat 32 (r.flags * 16) } (BitVec.ofNat 64 r.bits))
/-- FCTL.RM of a context. -/
def Ctx.rm (x : Ctx) : RMode := rmOf (bits x.fctl 1 0)
/-- A FOP instruction with a floating result (R363). -/
def State.fop (s : State) (h : Half) (c : Nat) (dbl : Bool) (d s1 s2 s3 fn : Nat)
    (f : Fmt → RMode → Nat → Nat → Nat → FRes) : State :=
  s.native h c (encF 0x30 d s1 s2 s3 (fn + 32 * dbl.toNat)) (fun _ x =>
    fpDone x (f (fmtOf dbl) x.rm (x.fop dbl s1) (x.fop dbl s2) (x.fop dbl s3)) (fun y v => y.setF d v))
/-- A FOP comparison: a G result. -/
def State.fcmp (s : State) (h : Half) (c : Nat) (dbl : Bool) (d s1 s2 s3 fn : Nat) : State :=
  s.native h c (encF 0x30 d s1 s2 s3 (fn + 32 * dbl.toNat)) (fun _ x =>
    fpDone x ((fmtOf dbl).cmpF (fn - 0x10) (x.fop dbl s1) (x.fop dbl s2)) (fun y v => y.setG d v))
/-- A FCV instruction (R363). -/
def State.fcv (s : State) (h : Half) (c d s1 s2 fn : Nat) (f : Ctx → FRes) (put : Ctx → Dword → Ctx) : State :=
  s.native h c (encA 0x31 d s1 s2 fn) (fun _ x => fpDone x (f x) put)
/-- A STN instruction (R364). -/
def State.stn (s : State) (h : Half) (c d s1 s2 fn : Nat) (f : State → Ctx → Eff) : State :=
  s.native h c (encA 0x3E d s1 s2 fn) f

/-! ### Station accesses (R369) -/

/-- The code fault of a station access by core `c`, before it acts: OPERAND, MISALIGNED. -/
def stationFault (v : Dword) (n : Nat) : Option Nat :=
  let a := v.toNat
  if 2 ^ 36 ≤ a then some 0xA
  else if a % n ≠ 0 then some 2
  else if n = 8 ∧ isDdr (lowAddr a) = false then some 0xA
  else none
/-- Whether a read or write of a station address by a core of half `h` ends in a bus error (R43). -/
def State.busBad (s : State) (h : Half) (a : Nat) (write : Bool) : Bool :=
  let o := lowAddr a
  if inWindow o = false then true
  else if isDeckBlock o ∨ halfOf a = h then false
  else write || !s.mirrorUp || !s.runs h.other
/-- A bus error that faults the run. -/
def State.busFault (s : State) (h : Half) (c pc : Nat) (x : Ctx) (a : Nat) : State :=
  (s.busError h c a).codeFault h c x 8 pc a
/-- LDS, LDS64: `put` takes the data. -/
def State.lds (s : State) (h : Half) (c d s1 s2 fn n : Nat) : State :=
  s.stn h c d s1 s2 fn (fun s x =>
    let v := x.gr s1
    let a := v.toNat
    match stationFault v n with
    | some code => .fault code a
    | none =>
      if s.busBad h a false then .ok x (fun s => s.busFault h c (codeOff (x.pc - 4)) x a)
      else
        let k := latchKey h c a
        let lo := (s.readWord k a).toNat
        let hi := if n = 8 then (s.readWord k (a + 4)).toNat else 0
        .ok (x.setG d (BitVec.ofNat 64 (lo + hi * 2 ^ 32))) (fun s => s.readLatch k a))
/-- STS, STS64. -/
def State.sts (s : State) (h : Half) (c d s1 s2 fn n : Nat) : State :=
  s.stn h c d s1 s2 fn (fun s x =>
    let v := x.gr s1
    let a := v.toNat
    match stationFault v n with
    | some code => .fault code a
    | none =>
      if s.busBad h a true then .ok x (fun s => s.busFault h c (codeOff (x.pc - 4)) x a)
      else .ok x (fun s =>
        let w := (x.gr s2).toNat
        let s := s.writeReg h c a (BitVec.ofNat 32 w)
        if n = 8 then s.writeReg h c (a + 4) (BitVec.ofNat 32 (w / 2 ^ 32)) else s))
/-- A timer instruction on timer S1 [11:0]: OPERAND where the timer is not the running task's; the instant is the release
instant in a cycle, else that of the access (R334). DEDUCED: note 107. -/
def State.stnTimer (s : State) (h : Half) (c d s1 s2 fn : Nat) (f : State → Ctx → Nat → Nat → Eff) : State :=
  s.stn h c d s1 s2 fn (fun s x =>
    let k := (x.gr s1).toNat % 4096
    if s.tmOwned h k x.task = false then .fault 0xA 0
    else f s x k (if x.kind = 0 then x.rel else s.now h))
/-- A word that LQW holds (R369): a later word for the same place replaces an earlier one; a 257th is dropped with
LOOP_WR_LOST. In background code it enters the queue at once. DEDUCED: note 107. -/
def lqwPut (h : Half) (x : Ctx) (loop off : Nat) (w : Word) : Eff :=
  if x.kind = 4 then
    .ok x (fun s => if (s.copySlotOf h loop).isNone then s.loopAbsent h x.task loop
      else s.queueWord h ⟨false, loop, off, w, 16⟩)
  else
    let same (e : Nat × Nat × Word) : Bool := decide (e.1 = loop) && decide (e.2.1 = off)
    if x.lqw.any same then
      done { x with lqw := x.lqw.map (fun (e : Nat × Nat × Word) => if same e then (loop, off, w) else e) }
    else if 256 ≤ x.lqw.length then .ok x (fun s => s.loopWrLost h x.task loop off)
    else done { x with lqw := x.lqw ++ [(loop, off, w)] }

end Sys2Proof.Machine
end

