-- ==== Sys2Proof/Machine/IcOps.lean ====
section
/-! DEFINITION. Shared operations of the interpreter of intermediate code: the instruction under interpretation, its stacks,
the K7 maps and REAL arithmetic (R375-R379). -/
namespace Sys2Proof.Machine

/-- The run of core `c` carries out the intermediate instruction whose bytes are `bytes`; where another instruction stands at
its offset, or none, nothing happens. `f` gives the effect; the offset has already advanced in the context it receives.
DEPTH_MAX follows the evaluation stack (R373, R375). DEDUCED: note 108. -/
def State.ic (s : State) (h : Half) (c : Nat) (bytes : List Nat) (f : State → Ctx → Eff) : State :=
  s.onHalf h (fun s => match s.running h c with
  | none => s
  | some x =>
    let n := bytes.length
    if x.kind = 4 ∨ s.taskIc h x.task = false ∨ x.off < s.hdr h x.task 0x34 ∨ s.hdr h x.task 0x38 < x.off + n
      ∨ s.codeNat h x.task x.off n ≠ leNat (bytes.map (BitVec.ofNat 8)) then s
    else match f s { x with off := x.off + n } with
    | .fault code addr => s.codeFault h c x code x.off addr
    | .ok y act =>
      let s := s.putCtx h c y
      let s := if s.fd (Apc.icStatus h x.task) 16 8 < y.stk.length then s.fw (Apc.icStatus h x.task) 16 8 y.stk.length else s
      act s)
/-- The bytes of a little-endian operand of `n` bytes. -/
def operand (n v : Nat) : List Nat := (List.range n).map (fun i => v / 2 ^ (8 * i) % 256)
/-- Cells go on the evaluation stack, the first on top; IC_STACK where it holds more than 256. -/
def Ctx.push (x : Ctx) (r : List Word) (act : State → State := id) : Eff :=
  if 256 < r.length + x.stk.length then .fault 0x10 0 else .ok { x with stk := r ++ x.stk } act
/-- An instruction that takes `n` cells, the first of which was on top; IC_STACK where there are fewer. -/
def State.icTake (s : State) (h : Half) (c : Nat) (bytes : List Nat) (n : Nat) (f : State → Ctx → List Word → Eff) : State :=
  s.ic h c bytes (fun s x =>
    if x.stk.length < n then .fault 0x10 0 else f s { x with stk := x.stk.drop n } (x.stk.take n))
/-- An instruction that pushes one cell. DEDUCED: note 109. -/
def State.icPush (s : State) (h : Half) (c : Nat) (bytes : List Nat) (f : State → Ctx → Word) : State :=
  s.ic h c bytes (fun s x => x.push [f s x])
/-- An instruction that takes one cell and pushes one. -/
def State.ic1 (s : State) (h : Half) (c : Nat) (bytes : List Nat) (f : Word → Word) : State :=
  s.icTake h c bytes 1 (fun _ x l => x.push (l.map f))
/-- An instruction that takes two cells, `b` on top of `a`, and pushes one. -/
def State.ic2 (s : State) (h : Half) (c : Nat) (bytes : List Nat) (f : Word → Word → Word) : State :=
  s.icTake h c bytes 2 (fun _ x l => match l with
    | [b, a] => x.push [f a b]
    | _ => .fault 0x10 0)
/-- An instruction that takes x, lo and hi, hi on top, and pushes one cell. -/
def State.ic3 (s : State) (h : Half) (c : Nat) (bytes : List Nat) (f : Word → Word → Word → Word) : State :=
  s.icTake h c bytes 3 (fun _ x l => match l with
    | [hi, lo, v] => x.push [f v lo hi]
    | _ => .fault 0x10 0)
/-- A store: takes one cell and changes the state. -/
def State.icStore (s : State) (h : Half) (c : Nat) (bytes : List Nat) (f : State → Ctx → Word → State) : State :=
  s.icTake h c bytes 1 (fun _ x l => .ok x (fun s => f s x (l.headD 0)))
/-- Truth as a cell. -/
def flagCell (b : Bool) : Word := if b then 1 else 0

/-! ### Division (R379) -/

/-- DIV or MOD: 0 on a divisor of 0, with DIV0 and its count. -/
def State.icDivide (s : State) (h : Half) (c : Nat) (bytes : List Nat) (f : Word → Word → Word) : State :=
  s.icTake h c bytes 2 (fun _ x l => match l with
    | [b, a] =>
      if b = 0 then Ctx.push { x with div0 := true } [0] (fun s => s.satF (Apc.icStatus h x.task) 31 20 1)
      else x.push [f a b]
    | _ => .fault 0x10 0)

/-! ### REAL (R379) -/

/-- A REAL operation on patterns: subnormal operands and results are zero of their sign. DEDUCED: note 110. -/
def real1 (f : Nat → Nat) (a : Word) : Word := BitVec.ofNat 32 (flush32 (f (flush32 a.toNat)))
/-- DEDUCED: note 110. -/
def real2 (f : Nat → Nat → Nat) (a b : Word) : Word := BitVec.ofNat 32 (flush32 (f (flush32 a.toNat) (flush32 b.toNat)))
/-- A REAL comparison. -/
def realTest (f : Nat → Nat → Bool) (a b : Word) : Word := flagCell (f (flush32 a.toNat) (flush32 b.toNat))
/-- RLIMIT: min(max(x, lo), hi). With a NaN, or where zeros of unlike sign meet, R378 gives no value: a free one.
DESIGN CHOICE: note 26. -/
def realLimit (x lo hi : Word) : Word :=
  let a := flush32 x.toNat
  let b := flush32 lo.toNat
  let c := flush32 hi.toNat
  let odd (u v : Nat) : Bool := f32.eq u v && decide (u ≠ v)
  if f32.isNan a || f32.isNan b || f32.isNan c || odd a b || odd a c || odd b c then Config.rlimitOpen x lo hi
  else
    let m := if f32.lt a b then b else a
    BitVec.ofNat 32 (if f32.lt c m then c else m)
/-- REAL to DINT: NaN gives 0, values beyond the range the nearer bound. -/
def realToInt (r : RMode) (a : Word) : Word := BitVec.ofInt 32 (f32.toInt r (-2 ^ 31) (2 ^ 31 - 1) 0 (flush32 a.toNat))

/-! ### Data, jumps and maps -/

/-- The byte offset of an indexed cell, its index a DINT; `none`: past DATA_LEN or 16 MiB (R371, R378).
DEDUCED: note 109. -/
def State.icIndex (s : State) (h : Half) (x : Ctx) (a : Nat) (i : Word) : Int × Bool :=
  let o : Int := (a : Int) + 4 * i.toInt
  let lim := min (s.rn (Apc.dataLen h x.task)) (2 ^ 24)
  (o, decide (0 ≤ o) && decide (o + 4 ≤ (lim : Int)))
/-- IC_DATA at a data offset, shown as its address in the core's map. DEDUCED: note 109. -/
def icDataFault (o : Int) : Eff := .fault 0x11 (((0x200000000 : Int) + o) % 2 ^ 64).toNat
/-- The offset a jump leads to, from the byte after it. -/
def icTarget (x : Ctx) (off : Nat) : Nat := ((x.off : Int) + signedOf 16 off).toNat
/-- The 16-bit or 32-bit entry of the maps at a map offset (R376). -/
def State.icMap (s : State) (h : Half) (x : Ctx) (o n : Nat) : Nat := s.codeNat h x.task (s.hdr h x.task 0x30 + o) n
/-- Data-area offset of the image word that IO_MAP names, in the image whose offset stands at `field` of the header. -/
def State.icIo (s : State) (h : Half) (x : Ctx) (k field : Nat) : Nat :=
  s.hdr h x.task field + 4 * (s.icMap h x (4 * k) 4 % 2 ^ 20)
/-- The loop that LOOP_MAP names. -/
def State.icLoop (s : State) (h : Half) (x : Ctx) (n : Nat) : Nat := s.icMap h x (0x4200 + 2 * n) 2
/-- The timer that TIMER_MAP names. -/
def State.icTimer (s : State) (h : Half) (x : Ctx) (n : Nat) : Nat := s.icMap h x (0x4000 + 2 * n) 2
/-- The instant a timer instruction uses: the release instant in a cycle, else that of the access (R334, R369). -/
def State.icNow (s : State) (h : Half) (x : Ctx) : Nat := if x.kind = 0 then x.rel else s.now h

end Sys2Proof.Machine
end

