-- ==== Sys2Proof/Machine/Ic.lean ====
section
/-! DEFINITION. Intermediate code: one meaning per instruction of R378.
What R381 says of the K7 follows; the operations are those of R380, whose path lengths are timing. -/
namespace Sys2Proof.Machine

/-- IC_NOP (R378): no effect. DEDUCED: note 108. -/
def execIcNop (h : Half) (core : Nat) (s : State) : Host.Outcome State Fault Refusal :=
  .next (s.ic h core [0x00] (fun _ x => done x))
/-- IC_PUSHB (R378): a sign-extended 8-bit constant. -/
def execIcPushb (h : Half) (core v : Nat) (s : State) : Host.Outcome State Fault Refusal :=
  .next (s.icPush h core (0x01 :: operand 1 v) (fun _ _ => BitVec.ofInt 32 (signedOf 8 v)))
/-- IC_PUSHW (R378): a sign-extended 16-bit constant. -/
def execIcPushw (h : Half) (core v : Nat) (s : State) : Host.Outcome State Fault Refusal :=
  .next (s.icPush h core (0x02 :: operand 2 v) (fun _ _ => BitVec.ofInt 32 (signedOf 16 v)))
/-- IC_PUSHL (R378): a 32-bit constant. -/
def execIcPushl (h : Half) (core v : Nat) (s : State) : Host.Outcome State Fault Refusal :=
  .next (s.icPush h core (0x03 :: operand 4 v) (fun _ _ => BitVec.ofNat 32 v))
/-- IC_DUP (R378): a -> a a. -/
def execIcDup (h : Half) (core : Nat) (s : State) : Host.Outcome State Fault Refusal :=
  .next (s.icTake h core [0x04] 1 (fun _ x l => x.push (l ++ l)))
/-- IC_DROP (R378): a ->. -/
def execIcDrop (h : Half) (core : Nat) (s : State) : Host.Outcome State Fault Refusal :=
  .next (s.icTake h core [0x05] 1 (fun _ x _ => done x))
/-- IC_SWAP (R378): a b -> b a. -/
def execIcSwap (h : Half) (core : Nat) (s : State) : Host.Outcome State Fault Refusal :=
  .next (s.icTake h core [0x06] 2 (fun _ x l => x.push l.reverse))
/-- IC_OVER (R378): a b -> a b a. -/
def execIcOver (h : Half) (core : Nat) (s : State) : Host.Outcome State Fault Refusal :=
  .next (s.icTake h core [0x07] 2 (fun _ x l => x.push (l.getLastD 0 :: l)))
/-- IC_LDB (R378): a BOOL byte as 0 or 1. -/
def execIcLdb (h : Half) (core a : Nat) (s : State) : Host.Outcome State Fault Refusal :=
  .next (s.icPush h core (0x10 :: operand 3 a) (fun s x => flagCell (s.dataNat h x.task a 1 != 0)))
/-- IC_LDI (R378): an INT, sign-extended. -/
def execIcLdi (h : Half) (core a : Nat) (s : State) : Host.Outcome State Fault Refusal :=
  .next (s.icPush h core (0x11 :: operand 3 a) (fun s x => BitVec.ofInt 32 (signedOf 16 (s.dataNat h x.task a 2))))
/-- IC_LDD (R378): a cell. -/
def execIcLdd (h : Half) (core a : Nat) (s : State) : Host.Outcome State Fault Refusal :=
  .next (s.icPush h core (0x12 :: operand 3 a) (fun s x => BitVec.ofNat 32 (s.dataNat h x.task a 4)))
/-- IC_LDXD (R378): i -> the cell at a24 + 4 i; IC_DATA past the data. -/
def execIcLdxd (h : Half) (core a : Nat) (s : State) : Host.Outcome State Fault Refusal :=
  .next (s.icTake h core (0x13 :: operand 3 a) 1 (fun s x l =>
    let p := s.icIndex h x a (l.headD 0)
    if p.2 then x.push [BitVec.ofNat 32 (s.dataNat h x.task p.1.toNat 4)] else icDataFault p.1))
/-- IC_STB (R378): 1 if v is not 0, else 0. -/
def execIcStb (h : Half) (core a : Nat) (s : State) : Host.Outcome State Fault Refusal :=
  .next (s.icStore h core (0x18 :: operand 3 a) (fun s x v => s.dataPut h x.task a 1 (v != 0).toNat))
/-- IC_STI (R378): the low 16 bits. -/
def execIcSti (h : Half) (core a : Nat) (s : State) : Host.Outcome State Fault Refusal :=
  .next (s.icStore h core (0x19 :: operand 3 a) (fun s x v => s.dataPut h x.task a 2 (v.toNat % 65536)))
/-- IC_STD (R378): the cell. -/
def execIcStd (h : Half) (core a : Nat) (s : State) : Host.Outcome State Fault Refusal :=
  .next (s.icStore h core (0x1A :: operand 3 a) (fun s x v => s.dataPut h x.task a 4 v.toNat))
/-- IC_STXD (R378): i v ->: v to a24 + 4 i; IC_DATA past the data. -/
def execIcStxd (h : Half) (core a : Nat) (s : State) : Host.Outcome State Fault Refusal :=
  .next (s.icTake h core (0x1B :: operand 3 a) 2 (fun s x l =>
    let p := s.icIndex h x a (l.getLastD 0)
    if p.2 then .ok x (fun s => s.dataPut h x.task p.1.toNat 4 (l.headD 0).toNat) else icDataFault p.1))
/-- IC_ADD (R378, R379): DINT, wrapping. -/
def execIcAdd (h : Half) (core : Nat) (s : State) : Host.Outcome State Fault Refusal :=
  .next (s.ic2 h core [0x20] (fun a b => a + b))
/-- IC_SUB (R378, R379): DINT, wrapping. -/
def execIcSub (h : Half) (core : Nat) (s : State) : Host.Outcome State Fault Refusal :=
  .next (s.ic2 h core [0x21] (fun a b => a - b))
/-- IC_MUL (R378, R379): DINT, wrapping. -/
def execIcMul (h : Half) (core : Nat) (s : State) : Host.Outcome State Fault Refusal :=
  .next (s.ic2 h core [0x22] (fun a b => a * b))
/-- IC_DIV (R378, R379): DINT, toward zero; 0 on a divisor of 0. -/
def execIcDiv (h : Half) (core : Nat) (s : State) : Host.Outcome State Fault Refusal :=
  .next (s.icDivide h core [0x23] (fun a b => a.sdiv b))
/-- IC_MOD (R378, R379): DINT, sign of the dividend; 0 on a divisor of 0. -/
def execIcMod (h : Half) (core : Nat) (s : State) : Host.Outcome State Fault Refusal :=
  .next (s.icDivide h core [0x24] (fun a b => a.srem b))
/-- IC_NEG (R378): DINT. -/
def execIcNeg (h : Half) (core : Nat) (s : State) : Host.Outcome State Fault Refusal :=
  .next (s.ic1 h core [0x25] (fun a => -a))
/-- IC_ABS (R378): DINT, wrapping. -/
def execIcAbs (h : Half) (core : Nat) (s : State) : Host.Outcome State Fault Refusal :=
  .next (s.ic1 h core [0x26] (fun a => if a.slt 0 then -a else a))
/-- IC_MIN (R378): DINT. -/
def execIcMin (h : Half) (core : Nat) (s : State) : Host.Outcome State Fault Refusal :=
  .next (s.ic2 h core [0x27] (fun a b => if a.slt b then a else b))
/-- IC_MAX (R378): DINT. -/
def execIcMax (h : Half) (core : Nat) (s : State) : Host.Outcome State Fault Refusal :=
  .next (s.ic2 h core [0x28] (fun a b => if a.slt b then b else a))
/-- IC_LIMIT (R378): x lo hi -> min(max(x, lo), hi), DINT. -/
def execIcLimit (h : Half) (core : Nat) (s : State) : Host.Outcome State Fault Refusal :=
  .next (s.ic3 h core [0x29] (fun v lo hi =>
    let m := if v.slt lo then lo else v
    if m.slt hi then m else hi))
/-- IC_RADD (R378, R379): REAL. -/
def execIcRadd (h : Half) (core : Nat) (s : State) : Host.Outcome State Fault Refusal :=
  .next (s.ic2 h core [0x30] (real2 (fun a b => (f32.addF .rne a b).bits)))
/-- IC_RSUB (R378, R379): REAL. -/
def execIcRsub (h : Half) (core : Nat) (s : State) : Host.Outcome State Fault Refusal :=
  .next (s.ic2 h core [0x31] (real2 (fun a b => (f32.subF .rne a b).bits)))
/-- IC_RMUL (R378, R379): REAL. -/
def execIcRmul (h : Half) (core : Nat) (s : State) : Host.Outcome State Fault Refusal :=
  .next (s.ic2 h core [0x32] (real2 (fun a b => (f32.mulF .rne a b).bits)))
/-- IC_RDIV (R378, R379): REAL. -/
def execIcRdiv (h : Half) (core : Nat) (s : State) : Host.Outcome State Fault Refusal :=
  .next (s.ic2 h core [0x33] (real2 (fun a b => (f32.divF .rne a b).bits)))
/-- IC_RNEG (R378, R379): REAL. DEDUCED: note 110. -/
def execIcRneg (h : Half) (core : Nat) (s : State) : Host.Outcome State Fault Refusal :=
  .next (s.ic1 h core [0x34] (real1 f32.neg))
/-- IC_RABS (R378, R379): REAL. -/
def execIcRabs (h : Half) (core : Nat) (s : State) : Host.Outcome State Fault Refusal :=
  .next (s.ic1 h core [0x35] (real1 f32.absBits))
/-- IC_RSQRT (R378, R379): REAL square root. -/
def execIcRsqrt (h : Half) (core : Nat) (s : State) : Host.Outcome State Fault Refusal :=
  .next (s.ic1 h core [0x36] (real1 (fun a => (f32.sqrtF .rne a).bits)))
/-- IC_RLIMIT (R378, R379): x lo hi -> min(max(x, lo), hi), REAL. -/
def execIcRlimit (h : Half) (core : Nat) (s : State) : Host.Outcome State Fault Refusal :=
  .next (s.ic3 h core [0x37] realLimit)
/-- IC_EQ (R378): 1 if a = b, DINT, else 0. -/
def execIcEq (h : Half) (core : Nat) (s : State) : Host.Outcome State Fault Refusal :=
  .next (s.ic2 h core [0x40] (fun a b => flagCell (a == b)))
/-- IC_NE (R378): 1 if a differs from b, DINT, else 0. -/
def execIcNe (h : Half) (core : Nat) (s : State) : Host.Outcome State Fault Refusal :=
  .next (s.ic2 h core [0x41] (fun a b => flagCell (a != b)))
/-- IC_LT (R378): 1 if a < b, DINT, else 0. -/
def execIcLt (h : Half) (core : Nat) (s : State) : Host.Outcome State Fault Refusal :=
  .next (s.ic2 h core [0x42] (fun a b => flagCell (a.slt b)))
/-- IC_LE (R378): 1 if a <= b, DINT, else 0. -/
def execIcLe (h : Half) (core : Nat) (s : State) : Host.Outcome State Fault Refusal :=
  .next (s.ic2 h core [0x43] (fun a b => flagCell (!b.slt a)))
/-- IC_GT (R378): 1 if a > b, DINT, else 0. -/
def execIcGt (h : Half) (core : Nat) (s : State) : Host.Outcome State Fault Refusal :=
  .next (s.ic2 h core [0x44] (fun a b => flagCell (b.slt a)))
/-- IC_GE (R378): 1 if a >= b, DINT, else 0. -/
def execIcGe (h : Half) (core : Nat) (s : State) : Host.Outcome State Fault Refusal :=
  .next (s.ic2 h core [0x45] (fun a b => flagCell (!a.slt b)))
/-- IC_REQ (R378, R379): 1 if a = b, REAL, else 0; a NaN gives 0. -/
def execIcReq (h : Half) (core : Nat) (s : State) : Host.Outcome State Fault Refusal :=
  .next (s.ic2 h core [0x48] (realTest (fun a b => f32.eq a b)))
/-- IC_RNE (R378, R379): 1 if a differs from b, REAL, else 0; a NaN gives 1. -/
def execIcRne (h : Half) (core : Nat) (s : State) : Host.Outcome State Fault Refusal :=
  .next (s.ic2 h core [0x49] (realTest (fun a b => !f32.eq a b)))
/-- IC_RLT (R378, R379): 1 if a < b, REAL, else 0; a NaN gives 0. -/
def execIcRlt (h : Half) (core : Nat) (s : State) : Host.Outcome State Fault Refusal :=
  .next (s.ic2 h core [0x4A] (realTest (fun a b => f32.lt a b)))
/-- IC_RLE (R378, R379): 1 if a <= b, REAL, else 0; a NaN gives 0. -/
def execIcRle (h : Half) (core : Nat) (s : State) : Host.Outcome State Fault Refusal :=
  .next (s.ic2 h core [0x4B] (realTest (fun a b => f32.le a b)))
/-- IC_RGT (R378, R379): 1 if a > b, REAL, else 0; a NaN gives 0. -/
def execIcRgt (h : Half) (core : Nat) (s : State) : Host.Outcome State Fault Refusal :=
  .next (s.ic2 h core [0x4C] (realTest (fun a b => f32.lt b a)))
/-- IC_RGE (R378, R379): 1 if a >= b, REAL, else 0; a NaN gives 0. -/
def execIcRge (h : Half) (core : Nat) (s : State) : Host.Outcome State Fault Refusal :=
  .next (s.ic2 h core [0x4D] (realTest (fun a b => f32.le b a)))
/-- IC_AND (R378): bitwise. -/
def execIcAnd (h : Half) (core : Nat) (s : State) : Host.Outcome State Fault Refusal :=
  .next (s.ic2 h core [0x50] (fun a b => a &&& b))
/-- IC_OR (R378): bitwise. -/
def execIcOr (h : Half) (core : Nat) (s : State) : Host.Outcome State Fault Refusal :=
  .next (s.ic2 h core [0x51] (fun a b => a ||| b))
/-- IC_XOR (R378): bitwise. -/
def execIcXor (h : Half) (core : Nat) (s : State) : Host.Outcome State Fault Refusal :=
  .next (s.ic2 h core [0x52] (fun a b => a ^^^ b))
/-- IC_NOT (R378): bitwise. -/
def execIcNot (h : Half) (core : Nat) (s : State) : Host.Outcome State Fault Refusal :=
  .next (s.ic1 h core [0x53] (fun a => ~~~ a))
/-- IC_SHL (R378): shifted left; an amount of 32 or more gives 0. -/
def execIcShl (h : Half) (core n : Nat) (s : State) : Host.Outcome State Fault Refusal :=
  .next (s.ic1 h core (0x54 :: operand 1 n) (fun a => if 32 ≤ n then 0 else a <<< n))
/-- IC_SHR (R378): shifted right logically; an amount of 32 or more gives 0. -/
def execIcShr (h : Half) (core n : Nat) (s : State) : Host.Outcome State Fault Refusal :=
  .next (s.ic1 h core (0x55 :: operand 1 n) (fun a => if 32 ≤ n then 0 else a >>> n))
/-- IC_BNOT (R378): 1 if a = 0, else 0. -/
def execIcBnot (h : Half) (core : Nat) (s : State) : Host.Outcome State Fault Refusal :=
  .next (s.ic1 h core [0x56] (fun a => flagCell (a == 0)))
/-- IC_JMP (R378): jump. -/
def execIcJmp (h : Half) (core off : Nat) (s : State) : Host.Outcome State Fault Refusal :=
  .next (s.ic h core (0x60 :: operand 2 off) (fun _ x => done { x with off := icTarget x off }))
/-- IC_JZ (R378): jump if c = 0. -/
def execIcJz (h : Half) (core off : Nat) (s : State) : Host.Outcome State Fault Refusal :=
  .next (s.icTake h core (0x61 :: operand 2 off) 1 (fun _ x l => done (if l.headD 0 = 0 then { x with off := icTarget x off } else x)))
/-- IC_JNZ (R378): jump if c is not 0. -/
def execIcJnz (h : Half) (core off : Nat) (s : State) : Host.Outcome State Fault Refusal :=
  .next (s.icTake h core (0x62 :: operand 2 off) 1 (fun _ x l => done (if l.headD 0 = 0 then x else { x with off := icTarget x off })))
/-- IC_CALL (R378): push the return offset; IC_STACK past 32 calls (R371). -/
def execIcCall (h : Half) (core a : Nat) (s : State) : Host.Outcome State Fault Refusal :=
  .next (s.ic h core (0x63 :: operand 3 a) (fun _ x =>
    if 32 ≤ x.calls.length then .fault 0x10 0 else done { x with calls := x.off :: x.calls, off := a }))
/-- IC_RET (R378): pop a return offset; IC_STACK without one (R371). -/
def execIcRet (h : Half) (core : Nat) (s : State) : Host.Outcome State Fault Refusal :=
  .next (s.ic h core [0x64] (fun _ x => match x.calls with
    | o :: r => done { x with calls := r, off := o }
    | [] => .fault 0x10 0))
/-- IC_END (R378): ends the run. -/
def execIcEnd (h : Half) (core : Nat) (s : State) : Host.Outcome State Fault Refusal :=
  .next (s.ic h core [0x65] (fun _ x => .ok x (fun s => s.runEnd h core x)))
/-- IC_ITOR (R378): DINT to REAL. -/
def execIcItor (h : Half) (core : Nat) (s : State) : Host.Outcome State Fault Refusal :=
  .next (s.ic1 h core [0x70] (fun a => BitVec.ofNat 32 (f32.ofInt a.toInt)))
/-- IC_RTOI (R378, R379): REAL to DINT, to nearest even. -/
def execIcRtoi (h : Half) (core : Nat) (s : State) : Host.Outcome State Fault Refusal :=
  .next (s.ic1 h core [0x71] (realToInt .rne))
/-- IC_RTOIT (R378, R379): REAL to DINT, toward zero. -/
def execIcRtoit (h : Half) (core : Nat) (s : State) : Host.Outcome State Fault Refusal :=
  .next (s.ic1 h core [0x72] (realToInt .rtz))
/-- IC_IOIN (R378): the input-image word that IO_MAP names. -/
def execIcIoin (h : Half) (core k : Nat) (s : State) : Host.Outcome State Fault Refusal :=
  .next (s.icPush h core (0x80 :: operand 2 k) (fun s x => BitVec.ofNat 32 (s.dataNat h x.task (s.icIo h x k 0x20) 4)))
/-- IC_IOOUT (R378): v to the output-image word that IO_MAP names. -/
def execIcIoout (h : Half) (core k : Nat) (s : State) : Host.Outcome State Fault Refusal :=
  .next (s.icStore h core (0x81 :: operand 2 k) (fun s x v => s.dataPut h x.task (s.icIo h x k 0x28) 4 v.toNat))
/-- IC_TMR (R378, R379): in preset -> Q: PRESET := preset times 10, IN, then Q. DEDUCED: note 111. -/
def execIcTmr (h : Half) (core n : Nat) (s : State) : Host.Outcome State Fault Refusal :=
  .next (s.icTake h core (0x90 :: operand 1 n) 2 (fun s x l => match l with
    | [preset, v] =>
      let k := s.icTimer h x n
      if s.tmOwned h k x.task = false then .fault 0xA 0
      else
        let act (s : State) : State := (s.tmPreset h k (preset * 10)).tmIn h k (s.icNow h x) (v != 0)
        x.push [flagCell ((act s).tmQ h k (s.icNow h x))] act
    | _ => .fault 0x10 0))
/-- IC_TMRE (R378, R379): ELAPSED in 10 ms ticks, rounded down. -/
def execIcTmre (h : Half) (core n : Nat) (s : State) : Host.Outcome State Fault Refusal :=
  .next (s.ic h core (0x91 :: operand 1 n) (fun s x =>
    let k := s.icTimer h x n
    if s.tmOwned h k x.task = false then .fault 0xA 0
    else x.push [BitVec.ofNat 32 (s.tmElapsed h k (s.icNow h x) / 10)]))
/-- IC_LPSP (R378, R379): queues REF[0], word 8, of the mapped loop. -/
def execIcLpsp (h : Half) (core n : Nat) (s : State) : Host.Outcome State Fault Refusal :=
  .next (s.icTake h core (0xA0 :: operand 1 n) 1 (fun s x l => lqwPut h x (s.icLoop h x n) 8 (l.headD 0)))
/-- IC_LPMD (R378, R379): queues MODE_CTRL, word 3, as 0x0003_0000 OR (m AND 3). -/
def execIcLpmd (h : Half) (core n : Nat) (s : State) : Host.Outcome State Fault Refusal :=
  .next (s.icTake h core (0xA1 :: operand 1 n) 1 (fun s x l => lqwPut h x (s.icLoop h x n) 3 (0x00030000 ||| (l.headD 0 &&& 3))))
/-- IC_LPOUT (R378, R379): U_OUT[0], word 56, of this half's copy, read as LRD does. -/
def execIcLpout (h : Half) (core n : Nat) (s : State) : Host.Outcome State Fault Refusal :=
  .next (s.ic h core (0xA2 :: operand 1 n) (fun s x =>
    let j := s.icLoop h x n
    x.push [(s.loopWord h x.task j 0 56).1] (fun s => (s.loopWord h x.task j 0 56).2)))
/-- IC_TIME (R378): the release instant in ms, bits [31:0]. -/
def execIcTime (h : Half) (core : Nat) (s : State) : Host.Outcome State Fault Refusal :=
  .next (s.icPush h core [0xF0] (fun _ x => BitVec.ofNat 32 (x.rel / 1000000)))
/-- IC_CYCN (R378): CYCLE_CNT as it stood at the release. -/
def execIcCycn (h : Half) (core : Nat) (s : State) : Host.Outcome State Fault Refusal :=
  .next (s.icPush h core [0xF1] (fun _ x => x.cyc))
/-- IC_UERR (R378): a user logbook record. DEDUCED: note 111. -/
def execIcUerr (h : Half) (core : Nat) (s : State) : Host.Outcome State Fault Refusal :=
  .next (s.icStore h core [0xF2] (fun s x v => s.report h (0x0C00 + v.toNat % 256) 0x10 x.task [0, 0]))
/-- IC_HALT (R378): ends the run; the task stops after the output phase, or at once after a start routine.
DEDUCED: note 111. -/
def execIcHalt (h : Half) (core : Nat) (s : State) : Host.Outcome State Fault Refusal :=
  .next (s.ic h core [0xFF] (fun _ x => .ok x (fun s =>
    let y : Ctx := { x with halted := true, off := x.off - 1 }
    let t := x.task
    let s := s.runEnd h core y
    if x.kind = 0 then s else (s.taskStop h t 0).report h 0x0B11 0x10 t [y.off])))

end Sys2Proof.Machine
end

