-- ==== Sys2Proof/Machine/Native.lean ====
section
/-! DEFINITION. Native station code: one meaning for each instruction of R361-R364 (R355-R371). Core `core` of half `h`
executes the instruction if it stands at PC. -/
namespace Sys2Proof.Machine

/-- ADD (R362): D := S1 + S2. DEDUCED: note 103. -/
def execAdd (h : Half) (core d s1 s2 : Nat) (s : State) : Host.Outcome State Fault Refusal :=
  .next (s.alu h core d s1 s2 0x0 (fun a b => a + b))
/-- SUB (R362): D := S1 - S2. -/
def execSub (h : Half) (core d s1 s2 : Nat) (s : State) : Host.Outcome State Fault Refusal :=
  .next (s.alu h core d s1 s2 0x1 (fun a b => a - b))
/-- AND (R362): D := S1 AND S2. -/
def execAnd (h : Half) (core d s1 s2 : Nat) (s : State) : Host.Outcome State Fault Refusal :=
  .next (s.alu h core d s1 s2 0x2 (fun a b => a &&& b))
/-- OR (R362): D := S1 OR S2. -/
def execOr (h : Half) (core d s1 s2 : Nat) (s : State) : Host.Outcome State Fault Refusal :=
  .next (s.alu h core d s1 s2 0x3 (fun a b => a ||| b))
/-- XOR (R362): D := S1 XOR S2. -/
def execXor (h : Half) (core d s1 s2 : Nat) (s : State) : Host.Outcome State Fault Refusal :=
  .next (s.alu h core d s1 s2 0x4 (fun a b => a ^^^ b))
/-- ANDN (R362): D := S1 AND NOT S2. -/
def execAndn (h : Half) (core d s1 s2 : Nat) (s : State) : Host.Outcome State Fault Refusal :=
  .next (s.alu h core d s1 s2 0x5 (fun a b => a &&& ~~~ b))
/-- SLL (R362): D := S1 shifted left by S2 [5:0]. -/
def execSll (h : Half) (core d s1 s2 : Nat) (s : State) : Host.Outcome State Fault Refusal :=
  .next (s.alu h core d s1 s2 0x8 (fun a b => a <<< (b.toNat % 64)))
/-- SRL (R362): D := S1 shifted right logically by S2 [5:0]. -/
def execSrl (h : Half) (core d s1 s2 : Nat) (s : State) : Host.Outcome State Fault Refusal :=
  .next (s.alu h core d s1 s2 0x9 (fun a b => a >>> (b.toNat % 64)))
/-- SRA (R362): D := S1 shifted right arithmetically by S2 [5:0]. -/
def execSra (h : Half) (core d s1 s2 : Nat) (s : State) : Host.Outcome State Fault Refusal :=
  .next (s.alu h core d s1 s2 0xA (fun a b => a.sshiftRight (b.toNat % 64)))
/-- MUL (R362): D := the low 64 bits of the product. -/
def execMul (h : Half) (core d s1 s2 : Nat) (s : State) : Host.Outcome State Fault Refusal :=
  .next (s.alu h core d s1 s2 0x10 (fun a b => a * b))
/-- MULHS (R362): D := the high 64 bits of the signed product. -/
def execMulhs (h : Half) (core d s1 s2 : Nat) (s : State) : Host.Outcome State Fault Refusal :=
  .next (s.alu h core d s1 s2 0x11 (fun a b => BitVec.ofInt 64 (a.toInt * b.toInt / 2 ^ 64)))
/-- MULHU (R362): D := the high 64 bits of the unsigned product. -/
def execMulhu (h : Half) (core d s1 s2 : Nat) (s : State) : Host.Outcome State Fault Refusal :=
  .next (s.alu h core d s1 s2 0x12 (fun a b => BitVec.ofNat 64 (a.toNat * b.toNat / 2 ^ 64)))
/-- SLT (R362): D := 1 if S1 < S2 signed, else 0. -/
def execSlt (h : Half) (core d s1 s2 : Nat) (s : State) : Host.Outcome State Fault Refusal :=
  .next (s.alu h core d s1 s2 0x18 (fun a b => flag64 (a.slt b)))
/-- SLTU (R362): D := 1 if S1 < S2 unsigned, else 0. -/
def execSltu (h : Half) (core d s1 s2 : Nat) (s : State) : Host.Outcome State Fault Refusal :=
  .next (s.alu h core d s1 s2 0x19 (fun a b => flag64 (a.ult b)))
/-- MIN (R362): D := the signed minimum. -/
def execMin (h : Half) (core d s1 s2 : Nat) (s : State) : Host.Outcome State Fault Refusal :=
  .next (s.alu h core d s1 s2 0x1A (fun a b => if a.slt b then a else b))
/-- MAX (R362): D := the signed maximum. -/
def execMax (h : Half) (core d s1 s2 : Nat) (s : State) : Host.Outcome State Fault Refusal :=
  .next (s.alu h core d s1 s2 0x1B (fun a b => if a.slt b then b else a))
/-- MINU (R362): D := the unsigned minimum. -/
def execMinu (h : Half) (core d s1 s2 : Nat) (s : State) : Host.Outcome State Fault Refusal :=
  .next (s.alu h core d s1 s2 0x1C (fun a b => if a.ult b then a else b))
/-- MAXU (R362): D := the unsigned maximum. -/
def execMaxu (h : Half) (core d s1 s2 : Nat) (s : State) : Host.Outcome State Fault Refusal :=
  .next (s.alu h core d s1 s2 0x1D (fun a b => if a.ult b then b else a))
/-- ADD32 (R362): ADD on bits [31:0], sign-extended. -/
def execAdd32 (h : Half) (core d s1 s2 : Nat) (s : State) : Host.Outcome State Fault Refusal :=
  .next (s.alu h core d s1 s2 0x20 (fun a b => res32 (lo32 a + lo32 b)))
/-- SUB32 (R362): SUB on bits [31:0], sign-extended. -/
def execSub32 (h : Half) (core d s1 s2 : Nat) (s : State) : Host.Outcome State Fault Refusal :=
  .next (s.alu h core d s1 s2 0x21 (fun a b => res32 (lo32 a - lo32 b)))
/-- SLL32 (R362): SLL on bits [31:0] by S2 [4:0], sign-extended. -/
def execSll32 (h : Half) (core d s1 s2 : Nat) (s : State) : Host.Outcome State Fault Refusal :=
  .next (s.alu h core d s1 s2 0x28 (fun a b => res32 (lo32 a <<< (b.toNat % 32))))
/-- SRL32 (R362): SRL on bits [31:0] by S2 [4:0], sign-extended. -/
def execSrl32 (h : Half) (core d s1 s2 : Nat) (s : State) : Host.Outcome State Fault Refusal :=
  .next (s.alu h core d s1 s2 0x29 (fun a b => res32 (lo32 a >>> (b.toNat % 32))))
/-- SRA32 (R362): SRA on bits [31:0] by S2 [4:0], sign-extended. -/
def execSra32 (h : Half) (core d s1 s2 : Nat) (s : State) : Host.Outcome State Fault Refusal :=
  .next (s.alu h core d s1 s2 0x2A (fun a b => res32 ((lo32 a).sshiftRight (b.toNat % 32))))
/-- MUL32 (R362): MUL on bits [31:0], sign-extended. -/
def execMul32 (h : Half) (core d s1 s2 : Nat) (s : State) : Host.Outcome State Fault Refusal :=
  .next (s.alu h core d s1 s2 0x30 (fun a b => res32 (lo32 a * lo32 b)))
/-- DIV (R365): signed division, rounded toward zero; DIV_ZERO on 0. -/
def execDiv (h : Half) (core d s1 s2 : Nat) (s : State) : Host.Outcome State Fault Refusal :=
  .next (s.aluDiv h core d s1 s2 0x14 (fun a b => if b = 0 then none else some (a.sdiv b)))
/-- DIVU (R365): unsigned division; DIV_ZERO on 0. -/
def execDivu (h : Half) (core d s1 s2 : Nat) (s : State) : Host.Outcome State Fault Refusal :=
  .next (s.aluDiv h core d s1 s2 0x15 (fun a b => if b = 0 then none else some (a / b)))
/-- REM (R365): signed remainder with the sign of S1; DIV_ZERO on 0. -/
def execRem (h : Half) (core d s1 s2 : Nat) (s : State) : Host.Outcome State Fault Refusal :=
  .next (s.aluDiv h core d s1 s2 0x16 (fun a b => if b = 0 then none else some (a.srem b)))
/-- REMU (R365): unsigned remainder; DIV_ZERO on 0. -/
def execRemu (h : Half) (core d s1 s2 : Nat) (s : State) : Host.Outcome State Fault Refusal :=
  .next (s.aluDiv h core d s1 s2 0x17 (fun a b => if b = 0 then none else some (a % b)))
/-- DIV32 (R365): DIV on bits [31:0], sign-extended; DIV_ZERO on 0. -/
def execDiv32 (h : Half) (core d s1 s2 : Nat) (s : State) : Host.Outcome State Fault Refusal :=
  .next (s.aluDiv h core d s1 s2 0x34 (fun a b => if lo32 b = 0 then none else some (res32 ((lo32 a).sdiv (lo32 b)))))
/-- REM32 (R365): REM on bits [31:0], sign-extended; DIV_ZERO on 0. -/
def execRem32 (h : Half) (core d s1 s2 : Nat) (s : State) : Host.Outcome State Fault Refusal :=
  .next (s.aluDiv h core d s1 s2 0x36 (fun a b => if lo32 b = 0 then none else some (res32 ((lo32 a).srem (lo32 b)))))
/-- ADDI (R361): D := S1 + IMM16. -/
def execAddi (h : Half) (core d s1 imm : Nat) (s : State) : Host.Outcome State Fault Refusal :=
  .next (s.imm h core 0x1 d s1 imm (fun _ a => a + sx 16 imm))
/-- ANDI (R361): D := S1 AND IMM16, zero-extended. -/
def execAndi (h : Half) (core d s1 imm : Nat) (s : State) : Host.Outcome State Fault Refusal :=
  .next (s.imm h core 0x2 d s1 imm (fun _ a => a &&& BitVec.ofNat 64 imm))
/-- ORI (R361): D := S1 OR IMM16, zero-extended. -/
def execOri (h : Half) (core d s1 imm : Nat) (s : State) : Host.Outcome State Fault Refusal :=
  .next (s.imm h core 0x3 d s1 imm (fun _ a => a ||| BitVec.ofNat 64 imm))
/-- XORI (R361): D := S1 XOR IMM16, zero-extended. -/
def execXori (h : Half) (core d s1 imm : Nat) (s : State) : Host.Outcome State Fault Refusal :=
  .next (s.imm h core 0x4 d s1 imm (fun _ a => a ^^^ BitVec.ofNat 64 imm))
/-- SLTI (R361): D := 1 if S1 < IMM16 signed, else 0. -/
def execSlti (h : Half) (core d s1 imm : Nat) (s : State) : Host.Outcome State Fault Refusal :=
  .next (s.imm h core 0x5 d s1 imm (fun _ a => flag64 (a.slt (sx 16 imm))))
/-- SLTIU (R361): D := 1 if S1 < IMM16 unsigned, sign-extended first, else 0. -/
def execSltiu (h : Half) (core d s1 imm : Nat) (s : State) : Host.Outcome State Fault Refusal :=
  .next (s.imm h core 0x6 d s1 imm (fun _ a => flag64 (a.ult (sx 16 imm))))
/-- SHI (R361): shift by IMM16 [5:0], kind [7:6]: 0 SLL, 1 SRL, 2 SRA; kind 3 faults as an undefined word. -/
def execShi (h : Half) (core d s1 imm : Nat) (s : State) : Host.Outcome State Fault Refusal :=
  .next (s.imm h core 0x7 d s1 imm (fun _ a => if imm / 64 % 4 = 0 then a <<< (imm % 64) else if imm / 64 % 4 = 1 then a >>> (imm % 64)
    else a.sshiftRight (imm % 64)))
/-- ADDI32 (R361): D := bits [31:0] of S1 + IMM16, sign-extended. -/
def execAddi32 (h : Half) (core d s1 imm : Nat) (s : State) : Host.Outcome State Fault Refusal :=
  .next (s.imm h core 0xA d s1 imm (fun _ a => res32 (lo32 (a + sx 16 imm))))
/-- LCH (R361): D := (D shifted left 16) OR IMM16, zero-extended; S1 not 0 faults as an undefined word. -/
def execLch (h : Half) (core d s1 imm : Nat) (s : State) : Host.Outcome State Fault Refusal :=
  .next (s.imm h core 0x9 d s1 imm (fun x _ => (x.gr d <<< 16) ||| BitVec.ofNat 64 imm))
/-- LCN (R361): D := IMM21. -/
def execLcn (h : Half) (core d imm : Nat) (s : State) : Host.Outcome State Fault Refusal :=
  .next (s.native h core (encU 0x8 d imm) (fun _ x => done (x.setG d (sx 21 imm))))
/-- LB (R361, R366): 1 byte into G register D, sign-extended. -/
def execLb (h : Half) (core d s1 imm : Nat) (s : State) : Host.Outcome State Fault Refusal :=
  .next (s.load h core 0x10 d s1 imm 1 (fun y v => y.setG d (sx 8 v)))
/-- LBU (R361, R366): 1 byte into G register D, zero-extended. -/
def execLbu (h : Half) (core d s1 imm : Nat) (s : State) : Host.Outcome State Fault Refusal :=
  .next (s.load h core 0x11 d s1 imm 1 (fun y v => y.setG d (BitVec.ofNat 64 v)))
/-- LH (R361, R366): 2 bytes into G register D, sign-extended. -/
def execLh (h : Half) (core d s1 imm : Nat) (s : State) : Host.Outcome State Fault Refusal :=
  .next (s.load h core 0x12 d s1 imm 2 (fun y v => y.setG d (sx 16 v)))
/-- LHU (R361, R366): 2 bytes into G register D, zero-extended. -/
def execLhu (h : Half) (core d s1 imm : Nat) (s : State) : Host.Outcome State Fault Refusal :=
  .next (s.load h core 0x13 d s1 imm 2 (fun y v => y.setG d (BitVec.ofNat 64 v)))
/-- LW (R361, R366): 4 bytes into G register D, sign-extended. -/
def execLw (h : Half) (core d s1 imm : Nat) (s : State) : Host.Outcome State Fault Refusal :=
  .next (s.load h core 0x14 d s1 imm 4 (fun y v => y.setG d (sx 32 v)))
/-- LWU (R361, R366): 4 bytes into G register D, zero-extended. -/
def execLwu (h : Half) (core d s1 imm : Nat) (s : State) : Host.Outcome State Fault Refusal :=
  .next (s.load h core 0x15 d s1 imm 4 (fun y v => y.setG d (BitVec.ofNat 64 v)))
/-- LD (R361, R366): 8 bytes into G register D. -/
def execLd (h : Half) (core d s1 imm : Nat) (s : State) : Host.Outcome State Fault Refusal :=
  .next (s.load h core 0x16 d s1 imm 8 (fun y v => y.setG d (BitVec.ofNat 64 v)))
/-- FLW (R361, R366): 4 bytes into F register D, zero-extended. -/
def execFlw (h : Half) (core d s1 imm : Nat) (s : State) : Host.Outcome State Fault Refusal :=
  .next (s.load h core 0x17 d s1 imm 4 (fun y v => y.setF d (BitVec.ofNat 64 v)))
/-- FLD (R361, R366): 8 bytes into F register D. -/
def execFld (h : Half) (core d s1 imm : Nat) (s : State) : Host.Outcome State Fault Refusal :=
  .next (s.load h core 0x18 d s1 imm 8 (fun y v => y.setF d (BitVec.ofNat 64 v)))
/-- SB (R361, R366): the low 1 byte of G register D. -/
def execSb (h : Half) (core d s1 imm : Nat) (s : State) : Host.Outcome State Fault Refusal :=
  .next (s.store h core 0x19 d s1 imm 1 (fun x => x.gr d))
/-- SH (R361, R366): the low 2 bytes of G register D. -/
def execSh (h : Half) (core d s1 imm : Nat) (s : State) : Host.Outcome State Fault Refusal :=
  .next (s.store h core 0x1A d s1 imm 2 (fun x => x.gr d))
/-- SW (R361, R366): the low 4 bytes of G register D. -/
def execSw (h : Half) (core d s1 imm : Nat) (s : State) : Host.Outcome State Fault Refusal :=
  .next (s.store h core 0x1B d s1 imm 4 (fun x => x.gr d))
/-- SD (R361, R366): the low 8 bytes of G register D. -/
def execSd (h : Half) (core d s1 imm : Nat) (s : State) : Host.Outcome State Fault Refusal :=
  .next (s.store h core 0x1C d s1 imm 8 (fun x => x.gr d))
/-- FSW (R361, R366): the low 4 bytes of F register D. -/
def execFsw (h : Half) (core d s1 imm : Nat) (s : State) : Host.Outcome State Fault Refusal :=
  .next (s.store h core 0x1D d s1 imm 4 (fun x => x.fr d))
/-- FSD (R361, R366): the low 8 bytes of F register D. -/
def execFsd (h : Half) (core d s1 imm : Nat) (s : State) : Host.Outcome State Fault Refusal :=
  .next (s.store h core 0x1E d s1 imm 8 (fun x => x.fr d))
/-- BEQ (R361, R367): branch when S1 = S2. -/
def execBeq (h : Half) (core s1 s2 off : Nat) (s : State) : Host.Outcome State Fault Refusal :=
  .next (s.branch h core 0x20 s1 s2 off (fun a b => a == b))
/-- BNE (R361, R367): branch when S1 differs from S2. -/
def execBne (h : Half) (core s1 s2 off : Nat) (s : State) : Host.Outcome State Fault Refusal :=
  .next (s.branch h core 0x21 s1 s2 off (fun a b => a != b))
/-- BLT (R361, R367): branch when S1 < S2 signed. -/
def execBlt (h : Half) (core s1 s2 off : Nat) (s : State) : Host.Outcome State Fault Refusal :=
  .next (s.branch h core 0x22 s1 s2 off (fun a b => a.slt b))
/-- BGE (R361, R367): branch when S1 >= S2 signed. -/
def execBge (h : Half) (core s1 s2 off : Nat) (s : State) : Host.Outcome State Fault Refusal :=
  .next (s.branch h core 0x23 s1 s2 off (fun a b => !a.slt b))
/-- BLTU (R361, R367): branch when S1 < S2 unsigned. -/
def execBltu (h : Half) (core s1 s2 off : Nat) (s : State) : Host.Outcome State Fault Refusal :=
  .next (s.branch h core 0x24 s1 s2 off (fun a b => a.ult b))
/-- BGEU (R361, R367): branch when S1 >= S2 unsigned. -/
def execBgeu (h : Half) (core s1 s2 off : Nat) (s : State) : Host.Outcome State Fault Refusal :=
  .next (s.branch h core 0x25 s1 s2 off (fun a b => !a.ult b))
/-- JMP (R361, R367). -/
def execJmp (h : Half) (core off : Nat) (s : State) : Host.Outcome State Fault Refusal :=
  .next (s.native h core (encJ 0x26 off) (fun _ x => done { x with pc := target x 26 off }))
/-- CALL (R361, R367): G31 := PC + 4. -/
def execCall (h : Half) (core off : Nat) (s : State) : Host.Outcome State Fault Refusal :=
  .next (s.native h core (encJ 0x27 off) (fun _ x =>
    done { x.setG 31 (BitVec.ofNat 64 x.pc) with pc := target x 26 off }))
/-- JRL (R361): t := S1; D := PC + 4; PC := t. FN not 0 faults as an undefined word. -/
def execJrl (h : Half) (core d s1 s2 fn : Nat) (s : State) : Host.Outcome State Fault Refusal :=
  .next (s.native h core (encA 0x28 d s1 s2 fn) (fun _ x =>
    done { x.setG d (BitVec.ofNat 64 x.pc) with pc := (x.gr s1).toNat }))
/-- FADD (R363, R368): F D := S1 + S2. -/
def execFadd (h : Half) (core : Nat) (dbl : Bool) (d s1 s2 s3 : Nat) (s : State) : Host.Outcome State Fault Refusal :=
  .next (s.fop h core dbl d s1 s2 s3 0x0 (fun f r a b _ => f.addF r a b))
/-- FSUB (R363, R368): F D := S1 - S2. -/
def execFsub (h : Half) (core : Nat) (dbl : Bool) (d s1 s2 s3 : Nat) (s : State) : Host.Outcome State Fault Refusal :=
  .next (s.fop h core dbl d s1 s2 s3 0x1 (fun f r a b _ => f.subF r a b))
/-- FMUL (R363, R368): F D := S1 times S2. -/
def execFmul (h : Half) (core : Nat) (dbl : Bool) (d s1 s2 s3 : Nat) (s : State) : Host.Outcome State Fault Refusal :=
  .next (s.fop h core dbl d s1 s2 s3 0x2 (fun f r a b _ => f.mulF r a b))
/-- FDIV (R363, R368): F D := S1 divided by S2. -/
def execFdiv (h : Half) (core : Nat) (dbl : Bool) (d s1 s2 s3 : Nat) (s : State) : Host.Outcome State Fault Refusal :=
  .next (s.fop h core dbl d s1 s2 s3 0x3 (fun f r a b _ => f.divF r a b))
/-- FSQRT (R363, R368): F D := the square root of S1. -/
def execFsqrt (h : Half) (core : Nat) (dbl : Bool) (d s1 s2 s3 : Nat) (s : State) : Host.Outcome State Fault Refusal :=
  .next (s.fop h core dbl d s1 s2 s3 0x4 (fun f r a _ _ => f.sqrtF r a))
/-- FMA (R363, R368): F D := S1 times S2 plus S3, rounded once. -/
def execFma (h : Half) (core : Nat) (dbl : Bool) (d s1 s2 s3 : Nat) (s : State) : Host.Outcome State Fault Refusal :=
  .next (s.fop h core dbl d s1 s2 s3 0x5 (fun f r a b c => f.fmaF r a b c))
/-- FMIN (R363, R368): F D := the minimum. -/
def execFmin (h : Half) (core : Nat) (dbl : Bool) (d s1 s2 s3 : Nat) (s : State) : Host.Outcome State Fault Refusal :=
  .next (s.fop h core dbl d s1 s2 s3 0x6 (fun f _ a b _ => f.minF false a b))
/-- FMAX (R363, R368): F D := the maximum. -/
def execFmax (h : Half) (core : Nat) (dbl : Bool) (d s1 s2 s3 : Nat) (s : State) : Host.Outcome State Fault Refusal :=
  .next (s.fop h core dbl d s1 s2 s3 0x7 (fun f _ a b _ => f.minF true a b))
/-- FNEG (R363, R368): F D := -S1, exact. -/
def execFneg (h : Half) (core : Nat) (dbl : Bool) (d s1 s2 s3 : Nat) (s : State) : Host.Outcome State Fault Refusal :=
  .next (s.fop h core dbl d s1 s2 s3 0x8 (fun f _ a _ _ => ⟨f.neg a, 0⟩))
/-- FABS (R363, R368): F D := abs(S1), exact. -/
def execFabs (h : Half) (core : Nat) (dbl : Bool) (d s1 s2 s3 : Nat) (s : State) : Host.Outcome State Fault Refusal :=
  .next (s.fop h core dbl d s1 s2 s3 0x9 (fun f _ a _ _ => ⟨f.absBits a, 0⟩))
/-- FMOV (R363, R368): F D := S1. -/
def execFmov (h : Half) (core : Nat) (dbl : Bool) (d s1 s2 s3 : Nat) (s : State) : Host.Outcome State Fault Refusal :=
  .next (s.fop h core dbl d s1 s2 s3 0xA (fun _ _ a _ _ => ⟨a, 0⟩))
/-- FEQ (R363, R368): G D := 1 if S1 = S2, else 0. -/
def execFeq (h : Half) (core : Nat) (dbl : Bool) (d s1 s2 s3 : Nat) (s : State) : Host.Outcome State Fault Refusal :=
  .next (s.fcmp h core dbl d s1 s2 s3 0x10)
/-- FLT (R363, R368): G D := 1 if S1 < S2, else 0. -/
def execFlt (h : Half) (core : Nat) (dbl : Bool) (d s1 s2 s3 : Nat) (s : State) : Host.Outcome State Fault Refusal :=
  .next (s.fcmp h core dbl d s1 s2 s3 0x11)
/-- FLE (R363, R368): G D := 1 if S1 <= S2, else 0. -/
def execFle (h : Half) (core : Nat) (dbl : Bool) (d s1 s2 s3 : Nat) (s : State) : Host.Outcome State Fault Refusal :=
  .next (s.fcmp h core dbl d s1 s2 s3 0x12)
/-- FUN (R363, R368): G D := 1 if S1 or S2 is a NaN, else 0. -/
def execFunord (h : Half) (core : Nat) (dbl : Bool) (d s1 s2 s3 : Nat) (s : State) : Host.Outcome State Fault Refusal :=
  .next (s.fcmp h core dbl d s1 s2 s3 0x13)
/-- CVTSD (R363, R368): F D := F S1 from binary64 to binary32. -/
def execCvtsd (h : Half) (core d s1 s2 : Nat) (s : State) : Host.Outcome State Fault Refusal :=
  .next (s.fcv h core d s1 s2 0x0 (fun x => f64.cvtF f32 x.rm (x.fop true s1)) (fun y v => y.setF d v))
/-- CVTDS (R363, R368): F D := F S1 from binary32 to binary64. -/
def execCvtds (h : Half) (core d s1 s2 : Nat) (s : State) : Host.Outcome State Fault Refusal :=
  .next (s.fcv h core d s1 s2 0x1 (fun x => f32.cvtF f64 x.rm (x.fop false s1)) (fun y v => y.setF d v))
/-- CVTSG (R363, R368): F D := G S1, signed, to binary32. -/
def execCvtsg (h : Half) (core d s1 s2 : Nat) (s : State) : Host.Outcome State Fault Refusal :=
  .next (s.fcv h core d s1 s2 0x2 (fun x => f32.ofIntF x.rm (x.gr s1).toInt) (fun y v => y.setF d v))
/-- CVTDG (R363, R368): F D := G S1, signed, to binary64. -/
def execCvtdg (h : Half) (core d s1 s2 : Nat) (s : State) : Host.Outcome State Fault Refusal :=
  .next (s.fcv h core d s1 s2 0x3 (fun x => f64.ofIntF x.rm (x.gr s1).toInt) (fun y v => y.setF d v))
/-- CVTGS (R363, R368): G D := F S1, binary32, to an integer by FCTL.RM. -/
def execCvtgs (h : Half) (core d s1 s2 : Nat) (s : State) : Host.Outcome State Fault Refusal :=
  .next (s.fcv h core d s1 s2 0x4 (fun x => f32.toIntF x.rm (x.fop false s1)) (fun y v => y.setG d v))
/-- CVTGD (R363, R368): G D := F S1, binary64, to an integer by FCTL.RM. -/
def execCvtgd (h : Half) (core d s1 s2 : Nat) (s : State) : Host.Outcome State Fault Refusal :=
  .next (s.fcv h core d s1 s2 0x5 (fun x => f64.toIntF x.rm (x.fop true s1)) (fun y v => y.setG d v))
/-- TRNGS (R363, R368): G D := F S1, binary32, toward zero. -/
def execTrngs (h : Half) (core d s1 s2 : Nat) (s : State) : Host.Outcome State Fault Refusal :=
  .next (s.fcv h core d s1 s2 0x6 (fun x => f32.toIntF .rtz (x.fop false s1)) (fun y v => y.setG d v))
/-- TRNGD (R363, R368): G D := F S1, binary64, toward zero. -/
def execTrngd (h : Half) (core d s1 s2 : Nat) (s : State) : Host.Outcome State Fault Refusal :=
  .next (s.fcv h core d s1 s2 0x7 (fun x => f64.toIntF .rtz (x.fop true s1)) (fun y v => y.setG d v))
/-- MVFG (R363, R368): G D := the 64 bits of F S1. -/
def execMvfg (h : Half) (core d s1 s2 : Nat) (s : State) : Host.Outcome State Fault Refusal :=
  .next (s.fcv h core d s1 s2 0x8 (fun x => ⟨(x.fr s1).toNat, 0⟩) (fun y v => y.setG d v))
/-- MVGF (R363, R368): F D := the 64 bits of G S1. -/
def execMvgf (h : Half) (core d s1 s2 : Nat) (s : State) : Host.Outcome State Fault Refusal :=
  .next (s.fcv h core d s1 s2 0x9 (fun x => ⟨(x.gr s1).toNat, 0⟩) (fun y v => y.setF d v))
/-- RELT (R364, R369): the release instant of the run, ship time in ns; as NOW in background code. -/
def execRelt (h : Half) (core d s1 s2 : Nat) (s : State) : Host.Outcome State Fault Refusal :=
  .next (s.stn h core d s1 s2 0x1 (fun s x =>
    done (x.setG d (BitVec.ofNat 64 (if x.kind = 4 then s.now h else x.rel)))))
/-- NOW (R364, R369): ship time in ns. -/
def execNow (h : Half) (core d s1 s2 : Nat) (s : State) : Host.Outcome State Fault Refusal :=
  .next (s.stn h core d s1 s2 0x2 (fun s x => done (x.setG d (BitVec.ofNat 64 (s.now h)))))
/-- TINFO (R364, R369): task, core, entry kind, and whether this half is LEAD without a STANDBY partner. -/
def execTinfo (h : Half) (core d s1 s2 : Nat) (s : State) : Host.Outcome State Fault Refusal :=
  .next (s.stn h core d s1 s2 0x3 (fun s x =>
    let alone := decide (s.hstate h = 4) && !s.bt (HalfR.halfStatus h) 4
    done (x.setG d (BitVec.ofNat 64 (x.task + core * 16 + x.kind * 256 + alone.toNat * 65536)))))
/-- CYCN (R364, R369): the task's CYCLE_CNT at the release. -/
def execCycn (h : Half) (core d s1 s2 : Nat) (s : State) : Host.Outcome State Fault Refusal :=
  .next (s.stn h core d s1 s2 0x4 (fun _ x => done (x.setG d (x.cyc.zeroExtend 64))))
/-- TSET (R364, R369): IN := S2 [0]. DEDUCED: note 107. -/
def execTset (h : Half) (core d s1 s2 : Nat) (s : State) : Host.Outcome State Fault Refusal :=
  .next (s.stnTimer h core d s1 s2 0x10 (fun _ x k t => .ok x (fun s => s.tmIn h k t (bit (lo32 (x.gr s2)) 0))))
/-- TGET (R364, R369): Q in [0], ELAPSED in [63:32]. -/
def execTget (h : Half) (core d s1 s2 : Nat) (s : State) : Host.Outcome State Fault Refusal :=
  .next (s.stnTimer h core d s1 s2 0x11 (fun s x k t =>
    done (x.setG d (BitVec.ofNat 64 ((s.tmQ h k t).toNat + s.tmElapsed h k t * 2 ^ 32)))))
/-- TPRE (R364, R369): PRESET := S2 [31:0]. -/
def execTpre (h : Half) (core d s1 s2 : Nat) (s : State) : Host.Outcome State Fault Refusal :=
  .next (s.stnTimer h core d s1 s2 0x12 (fun _ x k _ => .ok x (fun s => s.tmPreset h k (lo32 (x.gr s2)))))
/-- LRD (R364, R369): a word of this half's copy of a loop, addressed as in LOOP_RD; 0 with LOOP_ABSENT where there is no copy. -/
def execLrd (h : Half) (core d s1 s2 : Nat) (s : State) : Host.Outcome State Fault Refusal :=
  .next (s.stn h core d s1 s2 0x20 (fun s x =>
    let w := lo32 (x.gr s1)
    let area := bits w 12 12
    let off := bits w 21 16
    if area = 1 ∧ 32 ≤ off then .fault 0xA 0
    else
      let r := s.loopWord h x.task (bits w 11 0) area off
      .ok (x.setG d (r.1.zeroExtend 64)) (fun s => (s.loopWord h x.task (bits w 11 0) area off).2)))
/-- LQW (R364, R369): queues S2 [31:0] for the loop and descriptor word that S1 addresses as in LOOP_WR; an offset outside 3-35 faults OPERAND. -/
def execLqw (h : Half) (core d s1 s2 : Nat) (s : State) : Host.Outcome State Fault Refusal :=
  .next (s.stn h core d s1 s2 0x21 (fun _ x =>
    let w := lo32 (x.gr s1)
    let off := bits w 21 16
    if off < 3 ∨ 35 < off then .fault 0xA 0 else lqwPut h x (bits w 11 0) off (lo32 (x.gr s2))))
/-- LMAP (R364, R369): this half's loop-map entry of loop S1 [11:0]. -/
def execLmap (h : Half) (core d s1 s2 : Nat) (s : State) : Host.Outcome State Fault Refusal :=
  .next (s.stn h core d s1 s2 0x22 (fun s x => done (x.setG d ((s.rg (loopMapAt h ((x.gr s1).toNat % 4096))).zeroExtend 64))))
/-- LDS (R364, R369): the word at station address S1, zero-extended. -/
def execLds (h : Half) (core d s1 s2 : Nat) (s : State) : Host.Outcome State Fault Refusal :=
  .next (s.lds h core d s1 s2 0x30 4)
/-- LDS64 (R364, R369): 8 bytes at station address S1 in the DDR window. -/
def execLds64 (h : Half) (core d s1 s2 : Nat) (s : State) : Host.Outcome State Fault Refusal :=
  .next (s.lds h core d s1 s2 0x32 8)
/-- STS (R364, R369): S2 [31:0] to station address S1. -/
def execSts (h : Half) (core d s1 s2 : Nat) (s : State) : Host.Outcome State Fault Refusal :=
  .next (s.sts h core d s1 s2 0x31 4)
/-- STS64 (R364, R369): S2 to station address S1 in the DDR window. -/
def execSts64 (h : Half) (core d s1 s2 : Nat) (s : State) : Host.Outcome State Fault Refusal :=
  .next (s.sts h core d s1 s2 0x33 8)
/-- LOGR (R364, R369): a logbook record with code 0x0C00 + S1 [7:0] and data S2. DEDUCED: note 107. -/
def execLogr (h : Half) (core d s1 s2 : Nat) (s : State) : Host.Outcome State Fault Refusal :=
  .next (s.stn h core d s1 s2 0x40 (fun _ x => .ok x (fun s =>
    s.report h (0x0C00 + (x.gr s1).toNat % 256) 0x10 x.task [(x.gr s2).toNat % 2 ^ 32, (x.gr s2).toNat / 2 ^ 32])))
/-- FCTLR (R364, R369): G D := FCTL. -/
def execFctlr (h : Half) (core d s1 s2 : Nat) (s : State) : Host.Outcome State Fault Refusal :=
  .next (s.stn h core d s1 s2 0x50 (fun _ x => done (x.setG d (x.fctl.zeroExtend 64))))
/-- FCTLW (R364, R369): FCTL := S1 [31:0], reserved bits reading 0. -/
def execFctlw (h : Half) (core d s1 s2 : Nat) (s : State) : Host.Outcome State Fault Refusal :=
  .next (s.stn h core d s1 s2 0x51 (fun _ x => done { x with fctl := lo32 (x.gr s1) &&& 0x1F01F3 }))
/-- CHK (R364, R369): fault BOUND when S1 >= S2 unsigned. -/
def execChk (h : Half) (core d s1 s2 : Nat) (s : State) : Host.Outcome State Fault Refusal :=
  .next (s.stn h core d s1 s2 0x60 (fun _ x => if (x.gr s1).ult (x.gr s2) then done x else .fault 9 0))
/-- ABORT (R364, R369): fault USER with S1 as its address. -/
def execAbort (h : Half) (core d s1 s2 : Nat) (s : State) : Host.Outcome State Fault Refusal :=
  .next (s.stn h core d s1 s2 0x61 (fun _ x => .fault 0xB (x.gr s1).toNat))
/-- EXIT (R364, R369): ends the run (R357). -/
def execExit (h : Half) (core d s1 s2 : Nat) (s : State) : Host.Outcome State Fault Refusal :=
  .next (s.stn h core d s1 s2 0x70 (fun _ x => done { x with pc := exitLink }))

end Sys2Proof.Machine
end

