-- ==== Sys2Proof/Machine/Dispatch.lean ====
section
/-! DEFINITION. One arm for each command: a direct call of its meaning. -/
namespace Sys2Proof.Machine

/-- The effect of a command on everything but the queue. -/
def exec (i : Instr) (s : State) : Host.Outcome State Fault Refusal :=
  match i with
  | .registerWrite h master addr val => Sys2Proof.Machine.execRegisterWrite h master addr val s
  | .deckItemArrive h => Sys2Proof.Machine.execDeckItemArrive h s
  | .crossHalfRead h core addr => Sys2Proof.Machine.execCrossHalfRead h core addr s
  | .laneTrainingFail h deck from_deck lane => Sys2Proof.Machine.execLaneTrainingFail h deck from_deck lane s
  | .eccDoubleError h e table clean => Sys2Proof.Machine.execEccDoubleError h e table clean s
  | .scrubberPass h slab corrected => Sys2Proof.Machine.execScrubberPass h slab corrected s
  | .coreParity h core => Sys2Proof.Machine.execCoreParity h core s
  | .cmtStrobe h groups => Sys2Proof.Machine.execCmtStrobe h groups s
  | .unitCommit h g idx => Sys2Proof.Machine.execUnitCommit h g idx s
  | .cmtAbandon h groups => Sys2Proof.Machine.execCmtAbandon h groups s
  | .cmtLock h groups => Sys2Proof.Machine.execCmtLock h groups s
  | .cmtFaultFlagClear h reg val => Sys2Proof.Machine.execCmtFaultFlagClear h reg val s
  | .evcPendClear h k val again => Sys2Proof.Machine.execEvcPendClear h k val again s
  | .snapStart h cmd => Sys2Proof.Machine.execSnapStart h cmd s
  | .snapshotT h => Sys2Proof.Machine.execSnapshotT h s
  | .snapshotDone h => Sys2Proof.Machine.execSnapshotDone h s
  | .tallyCtrLoRead h core n => Sys2Proof.Machine.execTallyCtrLoRead h core n s
  | .tallyCtrLoWrite h n val => Sys2Proof.Machine.execTallyCtrLoWrite h n val s
  | .tallyWrap h n => Sys2Proof.Machine.execTallyWrap h n s
  | .tallyDump d => Sys2Proof.Machine.execTallyDump d s
  | .timeNowLoRead h core => Sys2Proof.Machine.execTimeNowLoRead h core s
  | .imageCheck h => Sys2Proof.Machine.execImageCheck h s
  | .imageCheckDone h => Sys2Proof.Machine.execImageCheckDone h s
  | .imageStore h => Sys2Proof.Machine.execImageStore h s
  | .imageStoreDone h ok => Sys2Proof.Machine.execImageStoreDone h ok s
  | .imagePartnerCopy h => Sys2Proof.Machine.execImagePartnerCopy h s
  | .partnerCopyDone h => Sys2Proof.Machine.execPartnerCopyDone h s
  | .mirrorLinkUp => Sys2Proof.Machine.execMirrorLinkUp s
  | .regionPairMark h r => Sys2Proof.Machine.execRegionPairMark h r s
  | .pairTimeout h r => Sys2Proof.Machine.execPairTimeout h r s
  | .regionCommit h r => Sys2Proof.Machine.execRegionCommit h r s
  | .startImageLoaded h len => Sys2Proof.Machine.execStartImageLoaded h len s
  | .sampleTick h q => Sys2Proof.Machine.execSampleTick h q s
  | .overrunFault h q => Sys2Proof.Machine.execOverrunFault h q s
  | .measWordArrive h => Sys2Proof.Machine.execMeasWordArrive h s
  | .inWaitExpire h q => Sys2Proof.Machine.execInWaitExpire h q s
  | .preparePhaseEnd h q => Sys2Proof.Machine.execPreparePhaseEnd h q s
  | .criticalPhaseEnd h q lat queue => Sys2Proof.Machine.execCriticalPhaseEnd h q lat queue s
  | .finishPhaseEnd h q => Sys2Proof.Machine.execFinishPhaseEnd h q s
  | .missLimitReached h q => Sys2Proof.Machine.execMissLimitReached h q s
  | .slotRestart h q => Sys2Proof.Machine.execSlotRestart h q s
  | .slotClearCounts h q => Sys2Proof.Machine.execSlotClearCounts h q s
  | .clearLat h q => Sys2Proof.Machine.execClearLat h q s
  | .engStop h e stop => Sys2Proof.Machine.execEngStop h e stop s
  | .lossDeclared h q => Sys2Proof.Machine.execLossDeclared h q s
  | .reacquired h q => Sys2Proof.Machine.execReacquired h q s
  | .catchExpired h q => Sys2Proof.Machine.execCatchExpired h q s
  | .fadeComplete h q => Sys2Proof.Machine.execFadeComplete h q s
  | .tracePacketAge h q => Sys2Proof.Machine.execTracePacketAge h q s
  | .traceHalfBufferDrained h q => Sys2Proof.Machine.execTraceHalfBufferDrained h q s
  | .balancerRun h => Sys2Proof.Machine.execBalancerRun h s
  | .plcMove h loop e => Sys2Proof.Machine.execPlcMove h loop e s
  | .plcEvacuate h e => Sys2Proof.Machine.execPlcEvacuate h e s
  | .plcInclude h e => Sys2Proof.Machine.execPlcInclude h e s
  | .precopyDone h loop => Sys2Proof.Machine.execPrecopyDone h loop s
  | .migrationBoundary h loop => Sys2Proof.Machine.execMigrationBoundary h loop s
  | .migrationAbandoned h loop => Sys2Proof.Machine.execMigrationAbandoned h loop s
  | .slabStep h slab up m => Sys2Proof.Machine.execSlabStep h slab up m s
  | .slabLowSlack h slab slack volt => Sys2Proof.Machine.execSlabLowSlack h slab slack volt s
  | .monitorAtFloor h slab => Sys2Proof.Machine.execMonitorAtFloor h slab s
  | .engineFault h e cause clean => Sys2Proof.Machine.execEngineFault h e cause clean s
  | .clusterFault h cluster => Sys2Proof.Machine.execClusterFault h cluster s
  | .slabFault h slab cause => Sys2Proof.Machine.execSlabFault h slab cause s
  | .copyResume h loop => Sys2Proof.Machine.execCopyResume h loop s
  | .driveLinkSync b => Sys2Proof.Machine.execDriveLinkSync b s
  | .driveCmdWord h => Sys2Proof.Machine.execDriveCmdWord h s
  | .cmdDeadline l => Sys2Proof.Machine.execCmdDeadline l s
  | .returnFrame l f => Sys2Proof.Machine.execReturnFrame l f s
  | .linkUp l => Sys2Proof.Machine.execLinkUp l s
  | .linkDown l cause => Sys2Proof.Machine.execLinkDown l cause s
  | .gateOpen l on current => Sys2Proof.Machine.execGateOpen l on current s
  | .gateForeign l on current => Sys2Proof.Machine.execGateForeign l on current s
  | .linkClearCounts h l => Sys2Proof.Machine.execLinkClearCounts h l s
  | .retrain h l => Sys2Proof.Machine.execRetrain h l s
  | .motionTick p isenA isenB => Sys2Proof.Machine.execMotionTick p isenA isenB s
  | .motionCmdWord h => Sys2Proof.Machine.execMotionCmdWord h s
  | .portCmdMissing p => Sys2Proof.Machine.execPortCmdMissing p s
  | .portStandstill p => Sys2Proof.Machine.execPortStandstill p s
  | .portStalled p => Sys2Proof.Machine.execPortStalled p s
  | .portStart h p => Sys2Proof.Machine.execPortStart h p s
  | .portAbort h p => Sys2Proof.Machine.execPortAbort h p s
  | .posSet h p => Sys2Proof.Machine.execPosSet h p s
  | .portClearCounts h p => Sys2Proof.Machine.execPortClearCounts h p s
  | .precisionConversion c raw isl lead cjc ovr hold ok t => Sys2Proof.Machine.execPrecisionConversion c raw isl lead cjc ovr hold ok t s
  | .fastConversion c raw isl ok t => Sys2Proof.Machine.execFastConversion c raw isl ok t s
  | .analogOutCmd h => Sys2Proof.Machine.execAnalogOutCmd h s
  | .outValueWrite h c val => Sys2Proof.Machine.execOutValueWrite h c val s
  | .analogCmdMissing c => Sys2Proof.Machine.execAnalogCmdMissing c s
  | .outputReadback c raw isl volt ok t => Sys2Proof.Machine.execOutputReadback c raw isl volt ok t s
  | .openLoop c on => Sys2Proof.Machine.execOpenLoop c on s
  | .compliance c on => Sys2Proof.Machine.execCompliance c on s
  | .passiveIslandUpdate c => Sys2Proof.Machine.execPassiveIslandUpdate c s
  | .islandFrameLoss c => Sys2Proof.Machine.execIslandFrameLoss c s
  | .loopUnpowered c => Sys2Proof.Machine.execLoopUnpowered c s
  | .overload c kind on => Sys2Proof.Machine.execOverload c kind on s
  | .shuntRetest c current => Sys2Proof.Machine.execShuntRetest c current s
  | .tcOpenWireTest c ohm => Sys2Proof.Machine.execTcOpenWireTest c ohm s
  | .settlingEnd c => Sys2Proof.Machine.execSettlingEnd c s
  | .cardRemoved kind n => Sys2Proof.Machine.execCardRemoved kind n s
  | .cardInserted kind n refused issue bad cal => Sys2Proof.Machine.execCardInserted kind n refused issue bad cal s
  | .cardReady kind n => Sys2Proof.Machine.execCardReady kind n s
  | .calOffline h c => Sys2Proof.Machine.execCalOffline h c s
  | .calPointLo h c => Sys2Proof.Machine.execCalPointLo h c s
  | .calPointHi h c => Sys2Proof.Machine.execCalPointHi h c s
  | .calPointTaken c hi => Sys2Proof.Machine.execCalPointTaken c hi s
  | .calApply h c => Sys2Proof.Machine.execCalApply h c s
  | .calStoreDone c ok => Sys2Proof.Machine.execCalStoreDone c ok s
  | .calOnline h c => Sys2Proof.Machine.execCalOnline h c s
  | .calResetUser h c => Sys2Proof.Machine.execCalResetUser h c s
  | .calTimeout c => Sys2Proof.Machine.execCalTimeout c s
  | .diWindow n p0 p1 t => Sys2Proof.Machine.execDiWindow n p0 p1 t s
  | .diEdge n level other t => Sys2Proof.Machine.execDiEdge n level other t s
  | .unresolvedLong n => Sys2Proof.Machine.execUnresolvedLong n s
  | .diCountWrap n => Sys2Proof.Machine.execDiCountWrap n s
  | .freqGateEnd n => Sys2Proof.Machine.execFreqGateEnd n s
  | .diClearCount h n => Sys2Proof.Machine.execDiClearCount h n s
  | .diClearCounts h n => Sys2Proof.Machine.execDiClearCounts h n s
  | .testPulseSlotStart g => Sys2Proof.Machine.execTestPulseSlotStart g s
  | .testPulseHoldEnd g => Sys2Proof.Machine.execTestPulseHoldEnd g s
  | .tpSupplyFault g on => Sys2Proof.Machine.execTpSupplyFault g on s
  | .doOutWrite h n hi val => Sys2Proof.Machine.execDoOutWrite h n hi val s
  | .wdKick h n => Sys2Proof.Machine.execWdKick h n s
  | .wdRestart h n => Sys2Proof.Machine.execWdRestart h n s
  | .wdExpired n => Sys2Proof.Machine.execWdExpired n s
  | .thermalOff o => Sys2Proof.Machine.execThermalOff o s
  | .thermalAutoRetry o => Sys2Proof.Machine.execThermalAutoRetry o s
  | .doRetry h o cool => Sys2Proof.Machine.execDoRetry h o cool s
  | .doClearCounts h o => Sys2Proof.Machine.execDoClearCounts h o s
  | .supplyLow n sec on volt => Sys2Proof.Machine.execSupplyLow n sec on volt s
  | .openLoad o on => Sys2Proof.Machine.execOpenLoad o on s
  | .shortToSupply o phase volt => Sys2Proof.Machine.execShortToSupply o phase volt s
  | .limitLong o phase => Sys2Proof.Machine.execLimitLong o phase s
  | .lidInputChange n => Sys2Proof.Machine.execLidInputChange n s
  | .termDelayExpire t => Sys2Proof.Machine.execTermDelayExpire t s
  | .halfDemandVector h => Sys2Proof.Machine.execHalfDemandVector h s
  | .lidDemandWrite h w val => Sys2Proof.Machine.execLidDemandWrite h w val s
  | .halfDemandRelease h => Sys2Proof.Machine.execHalfDemandRelease h s
  | .termRailFault t => Sys2Proof.Machine.execTermRailFault t s
  | .railFaultClear t => Sys2Proof.Machine.execRailFaultClear t s
  | .configCrcCompare c0 c1 => Sys2Proof.Machine.execConfigCrcCompare c0 c1 s
  | .targetFault k r0 r1 => Sys2Proof.Machine.execTargetFault k r0 r1 s
  | .lidResetArm src h groups => Sys2Proof.Machine.execLidResetArm src h groups s
  | .lidResetConfirm src h groups => Sys2Proof.Machine.execLidResetConfirm src h groups s
  | .armWindowExpire t => Sys2Proof.Machine.execArmWindowExpire t s
  | .pwSet h => Sys2Proof.Machine.execPwSet h s
  | .lidClearCounts h => Sys2Proof.Machine.execLidClearCounts h s
  | .lidCommit => Sys2Proof.Machine.execLidCommit s
  | .abandonedTripped => Sys2Proof.Machine.execAbandonedTripped s
  | .tokenBlockEnd => Sys2Proof.Machine.execTokenBlockEnd s
  | .taskRelease h t => Sys2Proof.Machine.execTaskRelease h t s
  | .inputPhase h t => Sys2Proof.Machine.execInputPhase h t s
  | .taskCycleEnd h t => Sys2Proof.Machine.execTaskCycleEnd h t s
  | .retainedWritebackDone h t => Sys2Proof.Machine.execRetainedWritebackDone h t s
  | .taskHung h t => Sys2Proof.Machine.execTaskHung h t s
  | .loopQueueWrite h g => Sys2Proof.Machine.execLoopQueueWrite h g s
  | .timerInWrite h k val cyc => Sys2Proof.Machine.execTimerInWrite h k val cyc s
  | .errorTaskRelease h => Sys2Proof.Machine.execErrorTaskRelease h s
  | .restartWarm h => Sys2Proof.Machine.execRestartWarm h s
  | .restartCold h => Sys2Proof.Machine.execRestartCold h s
  | .stopAll h => Sys2Proof.Machine.execStopAll h s
  | .taskStop h t => Sys2Proof.Machine.execTaskStop h t s
  | .startWarm h t => Sys2Proof.Machine.execStartWarm h t s
  | .startCold h t => Sys2Proof.Machine.execStartCold h t s
  | .taskClearCounts h t => Sys2Proof.Machine.execTaskClearCounts h t s
  | .restartBuildDone h t => Sys2Proof.Machine.execRestartBuildDone h t s
  | .taskPrepareDone h t => Sys2Proof.Machine.execTaskPrepareDone h t s
  | .taskCarry h t us => Sys2Proof.Machine.execTaskCarry h t us s
  | .backgroundRestart h c => Sys2Proof.Machine.execBackgroundRestart h c s
  | .add h core d s1 s2 => Sys2Proof.Machine.execAdd h core d s1 s2 s
  | .sub h core d s1 s2 => Sys2Proof.Machine.execSub h core d s1 s2 s
  | .and h core d s1 s2 => Sys2Proof.Machine.execAnd h core d s1 s2 s
  | .or h core d s1 s2 => Sys2Proof.Machine.execOr h core d s1 s2 s
  | .xor h core d s1 s2 => Sys2Proof.Machine.execXor h core d s1 s2 s
  | .andn h core d s1 s2 => Sys2Proof.Machine.execAndn h core d s1 s2 s
  | .sll h core d s1 s2 => Sys2Proof.Machine.execSll h core d s1 s2 s
  | .srl h core d s1 s2 => Sys2Proof.Machine.execSrl h core d s1 s2 s
  | .sra h core d s1 s2 => Sys2Proof.Machine.execSra h core d s1 s2 s
  | .mul h core d s1 s2 => Sys2Proof.Machine.execMul h core d s1 s2 s
  | .mulhs h core d s1 s2 => Sys2Proof.Machine.execMulhs h core d s1 s2 s
  | .mulhu h core d s1 s2 => Sys2Proof.Machine.execMulhu h core d s1 s2 s
  | .div h core d s1 s2 => Sys2Proof.Machine.execDiv h core d s1 s2 s
  | .divu h core d s1 s2 => Sys2Proof.Machine.execDivu h core d s1 s2 s
  | .rem h core d s1 s2 => Sys2Proof.Machine.execRem h core d s1 s2 s
  | .remu h core d s1 s2 => Sys2Proof.Machine.execRemu h core d s1 s2 s
  | .slt h core d s1 s2 => Sys2Proof.Machine.execSlt h core d s1 s2 s
  | .sltu h core d s1 s2 => Sys2Proof.Machine.execSltu h core d s1 s2 s
  | .min h core d s1 s2 => Sys2Proof.Machine.execMin h core d s1 s2 s
  | .max h core d s1 s2 => Sys2Proof.Machine.execMax h core d s1 s2 s
  | .minu h core d s1 s2 => Sys2Proof.Machine.execMinu h core d s1 s2 s
  | .maxu h core d s1 s2 => Sys2Proof.Machine.execMaxu h core d s1 s2 s
  | .add32 h core d s1 s2 => Sys2Proof.Machine.execAdd32 h core d s1 s2 s
  | .sub32 h core d s1 s2 => Sys2Proof.Machine.execSub32 h core d s1 s2 s
  | .sll32 h core d s1 s2 => Sys2Proof.Machine.execSll32 h core d s1 s2 s
  | .srl32 h core d s1 s2 => Sys2Proof.Machine.execSrl32 h core d s1 s2 s
  | .sra32 h core d s1 s2 => Sys2Proof.Machine.execSra32 h core d s1 s2 s
  | .mul32 h core d s1 s2 => Sys2Proof.Machine.execMul32 h core d s1 s2 s
  | .div32 h core d s1 s2 => Sys2Proof.Machine.execDiv32 h core d s1 s2 s
  | .rem32 h core d s1 s2 => Sys2Proof.Machine.execRem32 h core d s1 s2 s
  | .addi h core d s1 imm => Sys2Proof.Machine.execAddi h core d s1 imm s
  | .andi h core d s1 imm => Sys2Proof.Machine.execAndi h core d s1 imm s
  | .ori h core d s1 imm => Sys2Proof.Machine.execOri h core d s1 imm s
  | .xori h core d s1 imm => Sys2Proof.Machine.execXori h core d s1 imm s
  | .slti h core d s1 imm => Sys2Proof.Machine.execSlti h core d s1 imm s
  | .sltiu h core d s1 imm => Sys2Proof.Machine.execSltiu h core d s1 imm s
  | .shi h core d s1 imm => Sys2Proof.Machine.execShi h core d s1 imm s
  | .lcn h core d imm => Sys2Proof.Machine.execLcn h core d imm s
  | .lch h core d s1 imm => Sys2Proof.Machine.execLch h core d s1 imm s
  | .addi32 h core d s1 imm => Sys2Proof.Machine.execAddi32 h core d s1 imm s
  | .lb h core d s1 imm => Sys2Proof.Machine.execLb h core d s1 imm s
  | .lbu h core d s1 imm => Sys2Proof.Machine.execLbu h core d s1 imm s
  | .lh h core d s1 imm => Sys2Proof.Machine.execLh h core d s1 imm s
  | .lhu h core d s1 imm => Sys2Proof.Machine.execLhu h core d s1 imm s
  | .lw h core d s1 imm => Sys2Proof.Machine.execLw h core d s1 imm s
  | .lwu h core d s1 imm => Sys2Proof.Machine.execLwu h core d s1 imm s
  | .ld h core d s1 imm => Sys2Proof.Machine.execLd h core d s1 imm s
  | .flw h core d s1 imm => Sys2Proof.Machine.execFlw h core d s1 imm s
  | .fld h core d s1 imm => Sys2Proof.Machine.execFld h core d s1 imm s
  | .sb h core d s1 imm => Sys2Proof.Machine.execSb h core d s1 imm s
  | .sh h core d s1 imm => Sys2Proof.Machine.execSh h core d s1 imm s
  | .sw h core d s1 imm => Sys2Proof.Machine.execSw h core d s1 imm s
  | .sd h core d s1 imm => Sys2Proof.Machine.execSd h core d s1 imm s
  | .fsw h core d s1 imm => Sys2Proof.Machine.execFsw h core d s1 imm s
  | .fsd h core d s1 imm => Sys2Proof.Machine.execFsd h core d s1 imm s
  | .beq h core s1 s2 off => Sys2Proof.Machine.execBeq h core s1 s2 off s
  | .bne h core s1 s2 off => Sys2Proof.Machine.execBne h core s1 s2 off s
  | .blt h core s1 s2 off => Sys2Proof.Machine.execBlt h core s1 s2 off s
  | .bge h core s1 s2 off => Sys2Proof.Machine.execBge h core s1 s2 off s
  | .bltu h core s1 s2 off => Sys2Proof.Machine.execBltu h core s1 s2 off s
  | .bgeu h core s1 s2 off => Sys2Proof.Machine.execBgeu h core s1 s2 off s
  | .jmp h core off => Sys2Proof.Machine.execJmp h core off s
  | .call h core off => Sys2Proof.Machine.execCall h core off s
  | .jrl h core d s1 s2 fn => Sys2Proof.Machine.execJrl h core d s1 s2 fn s
  | .fadd h core dbl d s1 s2 s3 => Sys2Proof.Machine.execFadd h core dbl d s1 s2 s3 s
  | .fsub h core dbl d s1 s2 s3 => Sys2Proof.Machine.execFsub h core dbl d s1 s2 s3 s
  | .fmul h core dbl d s1 s2 s3 => Sys2Proof.Machine.execFmul h core dbl d s1 s2 s3 s
  | .fdiv h core dbl d s1 s2 s3 => Sys2Proof.Machine.execFdiv h core dbl d s1 s2 s3 s
  | .fsqrt h core dbl d s1 s2 s3 => Sys2Proof.Machine.execFsqrt h core dbl d s1 s2 s3 s
  | .fma h core dbl d s1 s2 s3 => Sys2Proof.Machine.execFma h core dbl d s1 s2 s3 s
  | .fmin h core dbl d s1 s2 s3 => Sys2Proof.Machine.execFmin h core dbl d s1 s2 s3 s
  | .fmax h core dbl d s1 s2 s3 => Sys2Proof.Machine.execFmax h core dbl d s1 s2 s3 s
  | .fneg h core dbl d s1 s2 s3 => Sys2Proof.Machine.execFneg h core dbl d s1 s2 s3 s
  | .fabs h core dbl d s1 s2 s3 => Sys2Proof.Machine.execFabs h core dbl d s1 s2 s3 s
  | .fmov h core dbl d s1 s2 s3 => Sys2Proof.Machine.execFmov h core dbl d s1 s2 s3 s
  | .feq h core dbl d s1 s2 s3 => Sys2Proof.Machine.execFeq h core dbl d s1 s2 s3 s
  | .flt h core dbl d s1 s2 s3 => Sys2Proof.Machine.execFlt h core dbl d s1 s2 s3 s
  | .fle h core dbl d s1 s2 s3 => Sys2Proof.Machine.execFle h core dbl d s1 s2 s3 s
  | .funord h core dbl d s1 s2 s3 => Sys2Proof.Machine.execFunord h core dbl d s1 s2 s3 s
  | .cvtsd h core d s1 s2 => Sys2Proof.Machine.execCvtsd h core d s1 s2 s
  | .cvtds h core d s1 s2 => Sys2Proof.Machine.execCvtds h core d s1 s2 s
  | .cvtsg h core d s1 s2 => Sys2Proof.Machine.execCvtsg h core d s1 s2 s
  | .cvtdg h core d s1 s2 => Sys2Proof.Machine.execCvtdg h core d s1 s2 s
  | .cvtgs h core d s1 s2 => Sys2Proof.Machine.execCvtgs h core d s1 s2 s
  | .cvtgd h core d s1 s2 => Sys2Proof.Machine.execCvtgd h core d s1 s2 s
  | .trngs h core d s1 s2 => Sys2Proof.Machine.execTrngs h core d s1 s2 s
  | .trngd h core d s1 s2 => Sys2Proof.Machine.execTrngd h core d s1 s2 s
  | .mvfg h core d s1 s2 => Sys2Proof.Machine.execMvfg h core d s1 s2 s
  | .mvgf h core d s1 s2 => Sys2Proof.Machine.execMvgf h core d s1 s2 s
  | .relt h core d s1 s2 => Sys2Proof.Machine.execRelt h core d s1 s2 s
  | .now h core d s1 s2 => Sys2Proof.Machine.execNow h core d s1 s2 s
  | .tinfo h core d s1 s2 => Sys2Proof.Machine.execTinfo h core d s1 s2 s
  | .cycn h core d s1 s2 => Sys2Proof.Machine.execCycn h core d s1 s2 s
  | .tset h core d s1 s2 => Sys2Proof.Machine.execTset h core d s1 s2 s
  | .tget h core d s1 s2 => Sys2Proof.Machine.execTget h core d s1 s2 s
  | .tpre h core d s1 s2 => Sys2Proof.Machine.execTpre h core d s1 s2 s
  | .lrd h core d s1 s2 => Sys2Proof.Machine.execLrd h core d s1 s2 s
  | .lqw h core d s1 s2 => Sys2Proof.Machine.execLqw h core d s1 s2 s
  | .lmap h core d s1 s2 => Sys2Proof.Machine.execLmap h core d s1 s2 s
  | .lds h core d s1 s2 => Sys2Proof.Machine.execLds h core d s1 s2 s
  | .sts h core d s1 s2 => Sys2Proof.Machine.execSts h core d s1 s2 s
  | .lds64 h core d s1 s2 => Sys2Proof.Machine.execLds64 h core d s1 s2 s
  | .sts64 h core d s1 s2 => Sys2Proof.Machine.execSts64 h core d s1 s2 s
  | .logr h core d s1 s2 => Sys2Proof.Machine.execLogr h core d s1 s2 s
  | .fctlr h core d s1 s2 => Sys2Proof.Machine.execFctlr h core d s1 s2 s
  | .fctlw h core d s1 s2 => Sys2Proof.Machine.execFctlw h core d s1 s2 s
  | .chk h core d s1 s2 => Sys2Proof.Machine.execChk h core d s1 s2 s
  | .abort h core d s1 s2 => Sys2Proof.Machine.execAbort h core d s1 s2 s
  | .exit h core d s1 s2 => Sys2Proof.Machine.execExit h core d s1 s2 s
  | .icNop h core => Sys2Proof.Machine.execIcNop h core s
  | .icPushb h core v => Sys2Proof.Machine.execIcPushb h core v s
  | .icPushw h core v => Sys2Proof.Machine.execIcPushw h core v s
  | .icPushl h core v => Sys2Proof.Machine.execIcPushl h core v s
  | .icDup h core => Sys2Proof.Machine.execIcDup h core s
  | .icDrop h core => Sys2Proof.Machine.execIcDrop h core s
  | .icSwap h core => Sys2Proof.Machine.execIcSwap h core s
  | .icOver h core => Sys2Proof.Machine.execIcOver h core s
  | .icLdb h core a => Sys2Proof.Machine.execIcLdb h core a s
  | .icLdi h core a => Sys2Proof.Machine.execIcLdi h core a s
  | .icLdd h core a => Sys2Proof.Machine.execIcLdd h core a s
  | .icLdxd h core a => Sys2Proof.Machine.execIcLdxd h core a s
  | .icStb h core a => Sys2Proof.Machine.execIcStb h core a s
  | .icSti h core a => Sys2Proof.Machine.execIcSti h core a s
  | .icStd h core a => Sys2Proof.Machine.execIcStd h core a s
  | .icStxd h core a => Sys2Proof.Machine.execIcStxd h core a s
  | .icAdd h core => Sys2Proof.Machine.execIcAdd h core s
  | .icSub h core => Sys2Proof.Machine.execIcSub h core s
  | .icMul h core => Sys2Proof.Machine.execIcMul h core s
  | .icDiv h core => Sys2Proof.Machine.execIcDiv h core s
  | .icMod h core => Sys2Proof.Machine.execIcMod h core s
  | .icNeg h core => Sys2Proof.Machine.execIcNeg h core s
  | .icAbs h core => Sys2Proof.Machine.execIcAbs h core s
  | .icMin h core => Sys2Proof.Machine.execIcMin h core s
  | .icMax h core => Sys2Proof.Machine.execIcMax h core s
  | .icLimit h core => Sys2Proof.Machine.execIcLimit h core s
  | .icRadd h core => Sys2Proof.Machine.execIcRadd h core s
  | .icRsub h core => Sys2Proof.Machine.execIcRsub h core s
  | .icRmul h core => Sys2Proof.Machine.execIcRmul h core s
  | .icRdiv h core => Sys2Proof.Machine.execIcRdiv h core s
  | .icRneg h core => Sys2Proof.Machine.execIcRneg h core s
  | .icRabs h core => Sys2Proof.Machine.execIcRabs h core s
  | .icRsqrt h core => Sys2Proof.Machine.execIcRsqrt h core s
  | .icRlimit h core => Sys2Proof.Machine.execIcRlimit h core s
  | .icEq h core => Sys2Proof.Machine.execIcEq h core s
  | .icNe h core => Sys2Proof.Machine.execIcNe h core s
  | .icLt h core => Sys2Proof.Machine.execIcLt h core s
  | .icLe h core => Sys2Proof.Machine.execIcLe h core s
  | .icGt h core => Sys2Proof.Machine.execIcGt h core s
  | .icGe h core => Sys2Proof.Machine.execIcGe h core s
  | .icReq h core => Sys2Proof.Machine.execIcReq h core s
  | .icRne h core => Sys2Proof.Machine.execIcRne h core s
  | .icRlt h core => Sys2Proof.Machine.execIcRlt h core s
  | .icRle h core => Sys2Proof.Machine.execIcRle h core s
  | .icRgt h core => Sys2Proof.Machine.execIcRgt h core s
  | .icRge h core => Sys2Proof.Machine.execIcRge h core s
  | .icAnd h core => Sys2Proof.Machine.execIcAnd h core s
  | .icOr h core => Sys2Proof.Machine.execIcOr h core s
  | .icXor h core => Sys2Proof.Machine.execIcXor h core s
  | .icNot h core => Sys2Proof.Machine.execIcNot h core s
  | .icShl h core n => Sys2Proof.Machine.execIcShl h core n s
  | .icShr h core n => Sys2Proof.Machine.execIcShr h core n s
  | .icBnot h core => Sys2Proof.Machine.execIcBnot h core s
  | .icJmp h core off => Sys2Proof.Machine.execIcJmp h core off s
  | .icJz h core off => Sys2Proof.Machine.execIcJz h core off s
  | .icJnz h core off => Sys2Proof.Machine.execIcJnz h core off s
  | .icCall h core a => Sys2Proof.Machine.execIcCall h core a s
  | .icRet h core => Sys2Proof.Machine.execIcRet h core s
  | .icEnd h core => Sys2Proof.Machine.execIcEnd h core s
  | .icItor h core => Sys2Proof.Machine.execIcItor h core s
  | .icRtoi h core => Sys2Proof.Machine.execIcRtoi h core s
  | .icRtoit h core => Sys2Proof.Machine.execIcRtoit h core s
  | .icIoin h core k => Sys2Proof.Machine.execIcIoin h core k s
  | .icIoout h core k => Sys2Proof.Machine.execIcIoout h core k s
  | .icTmr h core n => Sys2Proof.Machine.execIcTmr h core n s
  | .icTmre h core n => Sys2Proof.Machine.execIcTmre h core n s
  | .icLpsp h core n => Sys2Proof.Machine.execIcLpsp h core n s
  | .icLpmd h core n => Sys2Proof.Machine.execIcLpmd h core n s
  | .icLpout h core n => Sys2Proof.Machine.execIcLpout h core n s
  | .icTime h core => Sys2Proof.Machine.execIcTime h core s
  | .icCycn h core => Sys2Proof.Machine.execIcCycn h core s
  | .icUerr h core => Sys2Proof.Machine.execIcUerr h core s
  | .icHalt h core => Sys2Proof.Machine.execIcHalt h core s
  | .whistleSend h time_ok router_ok reach => Sys2Proof.Machine.execWhistleSend h time_ok router_ok reach s
  | .whistleReceive h path frame => Sys2Proof.Machine.execWhistleReceive h path frame s
  | .whistlePathSilent h path => Sys2Proof.Machine.execWhistlePathSilent h path s
  | .trivetPathSilent h => Sys2Proof.Machine.execTrivetPathSilent h s
  | .claimVector h differ => Sys2Proof.Machine.execClaimVector h differ s
  | .claimStale h => Sys2Proof.Machine.execClaimStale h s
  | .frozenRedecide g agree => Sys2Proof.Machine.execFrozenRedecide g agree s
  | .ownerReport h => Sys2Proof.Machine.execOwnerReport h s
  | .mirrorBlockArrive h => Sys2Proof.Machine.execMirrorBlockArrive h s
  | .commitForwardArrive h => Sys2Proof.Machine.execCommitForwardArrive h s
  | .cycleSetArrive h => Sys2Proof.Machine.execCycleSetArrive h s
  | .selfFault h cause on => Sys2Proof.Machine.execSelfFault h cause on s
  | .roleSwitch h => Sys2Proof.Machine.execRoleSwitch h s
  | .failoverClaimTimeout h => Sys2Proof.Machine.execFailoverClaimTimeout h s
  | .takebackReq h => Sys2Proof.Machine.execTakebackReq h s
  | .switchPlan h => Sys2Proof.Machine.execSwitchPlan h s
  | .switchConfirm h => Sys2Proof.Machine.execSwitchConfirm h s
  | .switchConfirmTimeout h => Sys2Proof.Machine.execSwitchConfirmTimeout h s
  | .switchAbandon h => Sys2Proof.Machine.execSwitchAbandon h s
  | .plannedSwitchT h => Sys2Proof.Machine.execPlannedSwitchT h s
  | .plannedSwitchCheck h => Sys2Proof.Machine.execPlannedSwitchCheck h s
  | .handover h => Sys2Proof.Machine.execHandover h s
  | .cancel h => Sys2Proof.Machine.execCancel h s
  | .halfClearCounts h => Sys2Proof.Machine.execHalfClearCounts h s
  | .realign h => Sys2Proof.Machine.execRealign h s
  | .alignCopyDone h task n => Sys2Proof.Machine.execAlignCopyDone h task n s
  | .bayLatchOpen h => Sys2Proof.Machine.execBayLatchOpen h s
  | .bayLatchClose h moved => Sys2Proof.Machine.execBayLatchClose h moved s
  | .bayOff h => Sys2Proof.Machine.execBayOff h s
  | .bayOn h => Sys2Proof.Machine.execBayOn h s
  | .portDown p cause lanes => Sys2Proof.Machine.execPortDown p cause lanes s
  | .portUp p => Sys2Proof.Machine.execPortUp p s
  | .laneMargin p l eq => Sys2Proof.Machine.execLaneMargin p l eq s
  | .trunkFrameReceive p f res => Sys2Proof.Machine.execTrunkFrameReceive p f res s
  | .cycleStartReceive p f => Sys2Proof.Machine.execCycleStartReceive p f s
  | .cyclicReceive f => Sys2Proof.Machine.execCyclicReceive f s
  | .ringReceive f east west => Sys2Proof.Machine.execRingReceive f east west s
  | .ackReceive f => Sys2Proof.Machine.execAckReceive f s
  | .rdataReceive f => Sys2Proof.Machine.execRdataReceive f s
  | .postReceive f => Sys2Proof.Machine.execPostReceive f s
  | .trunkCycle h => Sys2Proof.Machine.execTrunkCycle h s
  | .cyclicSlot h => Sys2Proof.Machine.execCyclicSlot h s
  | .stationTimeout h st => Sys2Proof.Machine.execStationTimeout h st s
  | .unwrapReady p => Sys2Proof.Machine.execUnwrapReady p s
  | .unwrap p => Sys2Proof.Machine.execUnwrap p s
  | .masterElection h => Sys2Proof.Machine.execMasterElection h s
  | .pgo h c val => Sys2Proof.Machine.execPgo h c val s
  | .rgo h c val => Sys2Proof.Machine.execRgo h c val s
  | .postTimeout h tag => Sys2Proof.Machine.execPostTimeout h tag s
  | .readTimeout h tag => Sys2Proof.Machine.execReadTimeout h tag s
  | .fenceClr h val => Sys2Proof.Machine.execFenceClr h val s
  | .trkClearCounts h => Sys2Proof.Machine.execTrkClearCounts h s
  | .baseBypassSense p closed => Sys2Proof.Machine.execBaseBypassSense p closed s
  | .bypassSwitched p => Sys2Proof.Machine.execBypassSwitched p s
  | .spanProbe p ns => Sys2Proof.Machine.execSpanProbe p ns s
  | .feedOk f => Sys2Proof.Machine.execFeedOk f s
  | .feedLost f volts store => Sys2Proof.Machine.execFeedLost f volts store s
  | .rideEnd => Sys2Proof.Machine.execRideEnd s
  | .halvesOffEnd full => Sys2Proof.Machine.execHalvesOffEnd full s
  | .powerUp uniform => Sys2Proof.Machine.execPowerUp uniform s
  | .halfSupplyRange h ok => Sys2Proof.Machine.execHalfSupplyRange h ok s
  | .halfSupplyReset h => Sys2Proof.Machine.execHalfSupplyReset h s
  | .bayFault h => Sys2Proof.Machine.execBayFault h s
  | .genReset h g => Sys2Proof.Machine.execGenReset h g s
  | .cardRetry h card => Sys2Proof.Machine.execCardRetry h card s
  | .bayCycle h => Sys2Proof.Machine.execBayCycle h s
  | .pwrClearCounts h => Sys2Proof.Machine.execPwrClearCounts h s
  | .cardSlotSwitchClose kind n => Sys2Proof.Machine.execCardSlotSwitchClose kind n s
  | .cardPwrFault kind n draw => Sys2Proof.Machine.execCardPwrFault kind n draw s
  | .pwrBoundary h => Sys2Proof.Machine.execPwrBoundary h s
  | .genTimeout h g => Sys2Proof.Machine.execGenTimeout h g s
  | .islandHoldExpire h b => Sys2Proof.Machine.execIslandHoldExpire h b s
  | .blackout h b => Sys2Proof.Machine.execBlackout h b s
  | .busLive h b => Sys2Proof.Machine.execBusLive h b s
  | .restartIssued h r => Sys2Proof.Machine.execRestartIssued h r s
  | .requestPulseEnd h kind num => Sys2Proof.Machine.execRequestPulseEnd h kind num s
  | .requestRewrite h can => Sys2Proof.Machine.execRequestRewrite h can s
  | .shedBitsClear h => Sys2Proof.Machine.execShedBitsClear h s
  | .pwrForwardArrive h => Sys2Proof.Machine.execPwrForwardArrive h s
  | .canFrameReceive p f ago => Sys2Proof.Machine.execCanFrameReceive p f ago s
  | .txReq h p k => Sys2Proof.Machine.execTxReq h p k s
  | .canObjAbort h p k => Sys2Proof.Machine.execCanObjAbort h p k s
  | .canArbitration p => Sys2Proof.Machine.execCanArbitration p s
  | .canTxEnd h p outcome tecKept delay ago => Sys2Proof.Machine.execCanTxEnd h p outcome tecKept delay ago s
  | .canPeriodic h p k => Sys2Proof.Machine.execCanPeriodic h p k s
  | .recover h p => Sys2Proof.Machine.execRecover h p s
  | .canClearCounts h p => Sys2Proof.Machine.execCanClearCounts h p s
  | .canAutoRecover h p => Sys2Proof.Machine.execCanAutoRecover h p s
  | .canRecovered h p => Sys2Proof.Machine.execCanRecovered h p s
  | .canIntegrated h p => Sys2Proof.Machine.execCanIntegrated h p s
  | .canTimingApply h p => Sys2Proof.Machine.execCanTimingApply h p s
  | .txdTimeout h p => Sys2Proof.Machine.execTxdTimeout h p s
  | .canStateForward p => Sys2Proof.Machine.execCanStateForward p s
  | .objCfgWrite h p k val => Sys2Proof.Machine.execObjCfgWrite h p k val s
  | .offsetReport h ns => Sys2Proof.Machine.execOffsetReport h ns s
  | .ptpMessage h kind seq domain stamp value port utc => Sys2Proof.Machine.execPtpMessage h kind seq domain stamp value port utc s
  | .timeSourceLoss h => Sys2Proof.Machine.execTimeSourceLoss h s
  | .holdoverExpire h => Sys2Proof.Machine.execHoldoverExpire h s
  | .peerTimeMessage h offset => Sys2Proof.Machine.execPeerTimeMessage h offset s
  | .peerTimeLoss h => Sys2Proof.Machine.execPeerTimeLoss h s
  | .peerFault h => Sys2Proof.Machine.execPeerFault h s
  | .timeSet h => Sys2Proof.Machine.execTimeSet h s
  | .timeStep h => Sys2Proof.Machine.execTimeStep h s
  | .timeClearCounts h => Sys2Proof.Machine.execTimeClearCounts h s
  | .stepConfirm h => Sys2Proof.Machine.execStepConfirm h s
  | .timeStepped h => Sys2Proof.Machine.execTimeStepped h s
  | .cmpArm h k val => Sys2Proof.Machine.execCmpArm h k val s
  | .cmpFire h k => Sys2Proof.Machine.execCmpFire h k s
  | .sampleTickLate h => Sys2Proof.Machine.execSampleTickLate h s
  | .deckTimeSourceChanged jump => Sys2Proof.Machine.execDeckTimeSourceChanged jump s
  | .trayRpWrite h t val => Sys2Proof.Machine.execTrayRpWrite h t val s
  | .trayPacketStall h t slot => Sys2Proof.Machine.execTrayPacketStall h t slot s
  | .engineBurstGrant h => Sys2Proof.Machine.execEngineBurstGrant h s
  | .logReport h => Sys2Proof.Machine.execLogReport h s
  | .logRecordClose h => Sys2Proof.Machine.execLogRecordClose h s
  | .logFlashWrite h retired reserve => Sys2Proof.Machine.execLogFlashWrite h retired reserve s
  | .tripRecordWrite => Sys2Proof.Machine.execTripRecordWrite s
  | .pinCopy h => Sys2Proof.Machine.execPinCopy h s
  | .logFreeze h => Sys2Proof.Machine.execLogFreeze h s
  | .logUnfreeze h => Sys2Proof.Machine.execLogUnfreeze h s
  | .freezeExpired h => Sys2Proof.Machine.execFreezeExpired h s
  | .logRead h => Sys2Proof.Machine.execLogRead h s
  | .logReadDone h => Sys2Proof.Machine.execLogReadDone h s
  | .logClear h pinned => Sys2Proof.Machine.execLogClear h pinned s
  | .logClearCounts h => Sys2Proof.Machine.execLogClearCounts h s
  | .memberInit h m => Sys2Proof.Machine.execMemberInit h m s
  | .memberOff h m => Sys2Proof.Machine.execMemberOff h m s
  | .pantryRead h => Sys2Proof.Machine.execPantryRead h s
  | .pantryCmdDone h link fmt cap width gen data => Sys2Proof.Machine.execPantryCmdDone h link fmt cap width gen data s
  | .streamStart h st => Sys2Proof.Machine.execStreamStart h st s
  | .streamStop h st => Sys2Proof.Machine.execStreamStop h st s
  | .streamTrigger h st lid => Sys2Proof.Machine.execStreamTrigger h st lid s
  | .chunkTimeout h st => Sys2Proof.Machine.execChunkTimeout h st s
  | .nvmeWriteDone h ok => Sys2Proof.Machine.execNvmeWriteDone h ok s
  | .pantryFlush h => Sys2Proof.Machine.execPantryFlush h s
  | .memberLinkLoss h m => Sys2Proof.Machine.execMemberLinkLoss h m s
  | .keyAckPress delta => Sys2Proof.Machine.execKeyAckPress delta s
  | .keyArmRelease delta => Sys2Proof.Machine.execKeyArmRelease delta s
  | .keyConfirmPress delta => Sys2Proof.Machine.execKeyConfirmPress delta s
  | .keyPagePress delta => Sys2Proof.Machine.execKeyPagePress delta s
  | .keyReleased k delta => Sys2Proof.Machine.execKeyReleased k delta s
  | .keyHeldAtStart k delta => Sys2Proof.Machine.execKeyHeldAtStart k delta s
  | .keyStuck k delta => Sys2Proof.Machine.execKeyStuck k delta s
  | .baselineUpdate k delta => Sys2Proof.Machine.execBaselineUpdate k delta s
  | .displayUpdateEnd => Sys2Proof.Machine.execDisplayUpdateEnd s
  | .fullUpdateDue => Sys2Proof.Machine.execFullUpdateDue s
  | .pageHoldExpire => Sys2Proof.Machine.execPageHoldExpire s
  | .userShow h => Sys2Proof.Machine.execUserShow h s
  | .userHide h => Sys2Proof.Machine.execUserHide h s
  | .fullNow h => Sys2Proof.Machine.execFullNow h s
  | .finalFrameRenew => Sys2Proof.Machine.execFinalFrameRenew s
  | .finalFrame left => Sys2Proof.Machine.execFinalFrame left s
  | .abruptRailLoss left => Sys2Proof.Machine.execAbruptRailLoss left s
  | .panelDischarged cause => Sys2Proof.Machine.execPanelDischarged cause s
  | .halfWdFeed h firmware => Sys2Proof.Machine.execHalfWdFeed h firmware s
  | .halfWdExpire h => Sys2Proof.Machine.execHalfWdExpire h s
  | .halfResetCmd h val => Sys2Proof.Machine.execHalfResetCmd h val s
  | .halfResetEnd h debug => Sys2Proof.Machine.execHalfResetEnd h debug s
  | .selftestDone h fails => Sys2Proof.Machine.execSelftestDone h fails s
  | .deckRailFault => Sys2Proof.Machine.execDeckRailFault s
  | .fwStore h => Sys2Proof.Machine.execFwStore h s
  | .fwDeckStore h => Sys2Proof.Machine.execFwDeckStore h s
  | .fwRollback h => Sys2Proof.Machine.execFwRollback h s
  | .fwStoreDone h ok => Sys2Proof.Machine.execFwStoreDone h ok s
  | .deckCtrlRestart up => Sys2Proof.Machine.execDeckCtrlRestart up s
  | .tempSample h k t => Sys2Proof.Machine.execTempSample h k t s
  | .tempHigh h => Sys2Proof.Machine.execTempHigh h s
  | .tempNormal h => Sys2Proof.Machine.execTempNormal h s
  | .keyArmPress delta => Sys2Proof.Machine.execKeyArmPress delta s
  | .canRxError h p eight => Sys2Proof.Machine.execCanRxError h p eight s
  | .protocolException h p => Sys2Proof.Machine.execProtocolException h p s
  | .islandLoopPowerUp c => Sys2Proof.Machine.execIslandLoopPowerUp c s
  | .startClaimDelayExpire h => Sys2Proof.Machine.execStartClaimDelayExpire h s
  | .handoverReset h => Sys2Proof.Machine.execHandoverReset h s
  | .bayCycleOn h => Sys2Proof.Machine.execBayCycleOn h s
  | .deckLinkUp h => Sys2Proof.Machine.execDeckLinkUp h s
  | .strapLevelChange n tru comp => Sys2Proof.Machine.execStrapLevelChange n tru comp s
  | .displayUpdateStart cold => Sys2Proof.Machine.execDisplayUpdateStart cold s
  | .opTimeStore deck h => Sys2Proof.Machine.execOpTimeStore deck h s
  | .mramScrub h damagedPins => Sys2Proof.Machine.execMramScrub h damagedPins s
  | .aerError h m fatal => Sys2Proof.Machine.execAerError h m fatal s

end Sys2Proof.Machine
end

