-- ==== Sys2Proof/Machine/Step.lean ====
section
/-! DEFINITION. One step of the block. -/
namespace Sys2Proof.Machine

/-- One step: the command at the front of the queue is carried out on the state with the rest of the queue; with no
command waiting, one tick of the 250 MHz clock passes. DESIGN CHOICE: note 5. -/
def step (s : State) : Host.Outcome State Fault Refusal :=
  match s.pending with
  | [] => .next s.idle
  | c :: rest => exec c { s with pending := rest }

/-- The state with the command that a word spells put at the front of its queue. DESIGN CHOICE: note 140. -/
def State.withFetchWord (s : State) (nbits w : Nat) : State :=
  match decodeTableWord nbits w with
  | some c => { s with pending := c :: s.pending }
  | none => s

end Sys2Proof.Machine
end

