-- ==== Sys2Proof/Safety.lean ====
section
/-! DEFINITION. What the statements are written in: what a command gives, what it leaves, and which states are in the
canonical form of their sparse maps. A safe run is one in which every step answers a next state. -/
namespace Sys2Proof.Machine

/-- Command `c` completes in state `s`: `exec` answers a next state, and `P` holds of it. -/
def Gives (c : Instr) (s : State) (P : State → Prop) : Prop := ∃ t, exec c s = .next t ∧ P t
/-- Every byte of DDR and staging reads as before. -/
def SameMem (s t : State) : Prop := ∀ a, t.byte a = s.byte a
/-- Every live register and RAM word reads as before but those that `ex` names. -/
def SameRegs (s t : State) (ex : Nat → Prop) : Prop := ∀ a, ¬ ex a → t.rg a = s.rg a
/-- Every shadow reads as before. -/
def SameShadows (s t : State) : Prop := ∀ a, t.sh a = s.sh a
/-- Event source `src` is pending in half `h` (R62). -/
def Pends (t : State) (h : Half) (src : Nat) : Prop := t.mapBit (Evc.pend h 0) src = true
/-- A report of half `h` is on its way to the logbook (R538): its code, source kind and number. -/
def Reported (t : State) (h : Half) (code kind num : Nat) : Prop :=
  ∃ r ∈ (t.half h).log.inbox, r.code = code ∧ r.kind = kind ∧ r.num = num
/-- Half `h` may command field-deck group `g` (R28): it runs, its link is up and it owns the group. -/
def MayCmd (s : State) (h : Half) (g : Nat) : Prop :=
  s.runs h = true ∧ (s.half h).linkUp = true ∧ s.owns h g = true
/-- The registers of half `h` that asserting event sources, reporting and counting Tally events may change: PEND, SRC_CNT
and CTR_CFG. -/
def EventReg (h : Half) (a : Nat) : Prop :=
  (h.base + 0x40000 ≤ a ∧ a < h.base + 0x40400) ∨ (h.base + 0x1601000 ≤ a ∧ a < h.base + 0x1603000)

/-- Trivet decided afresh with the inputs of `u` (R390): each of the 128 groups that is not frozen has in both rails the owner
that the rails decide from its owner and the counted claims of `u`; a frozen group keeps its owners (R391). -/
def Redecided (u t : State) : Prop :=
  let own (x : State) (g : Nat) : Nat × Nat :=
    (Map.get (fun _ => 0) x.deck.trivet.rail0 g, Map.get (fun _ => 0) x.deck.trivet.rail1 g)
  t = u.redecide ∧ t.deck.trivet.frozen = u.deck.trivet.frozen ∧ ∀ g, g < 128 →
    own t g = if u.deck.trivet.frozen.contains g then own u g else (u.decideOf g, u.decideOf g)

/-- Context `x` is the run that core `c` of half `h` executes: that of the task on top of the core, or background code on a
core that no task holds (R326, R370). -/
def IsRun (s : State) (h : Half) (c : Nat) (x : Ctx) : Prop :=
  s.runs h = true ∧ s.running h c = some x
    ∧ if x.kind = 4 then (s.core h c).stack = [] else ∃ l, (s.core h c).stack = x.task :: l
/-- The run `x` of core `c` has native instruction word `w` at its PC (R355, R366). -/
def NatAt (s : State) (h : Half) (c : Nat) (x : Ctx) (w : Nat) : Prop :=
  IsRun s h c x ∧ (x.kind = 4 ∨ s.taskIc h x.task = false) ∧ x.pc % 4 = 0
    ∧ ∃ o, s.region h x x.pc 4 = (.code, o) ∧ s.codeNat h x.task o 4 = w
/-- Command `i` completes and changes nothing but the context of core `c`'s run, which is `y` afterwards. -/
def RunIs (i : Instr) (s : State) (h : Half) (c : Nat) (y : Ctx) : Prop :=
  exec i s = .next (s.putCtx h c y) ∧ (s.putCtx h c y).running h c = some y
/-- The context with PC at the next native instruction. -/
def Ctx.step (x : Ctx) : Ctx := { x with pc := x.pc + 4 }
/-- The run `x` of core `c` interprets intermediate code and has the bytes `bs` at its offset, within the code that
IC_START and IC_END bound (R371, R375); its evaluation stack holds at most the 256 cells it has. -/
def IcAt (s : State) (h : Half) (c : Nat) (x : Ctx) (bs : List Nat) : Prop :=
  IsRun s h c x ∧ x.kind ≠ 4 ∧ s.taskIc h x.task = true ∧ s.hdr h x.task 0x34 ≤ x.off
    ∧ x.off + bs.length ≤ s.hdr h x.task 0x38 ∧ x.stk.length ≤ 256
    ∧ s.codeNat h x.task x.off bs.length = leNat (bs.map (BitVec.ofNat 8))
/-- Command `i` completes with `y` as the context of core `c`'s run; DEPTH_MAX of its task is at least the depth of the
evaluation stack, and no other register changes (R373, R375). -/
def IcIs (i : Instr) (s : State) (h : Half) (c : Nat) (y : Ctx) : Prop :=
  Gives i s (fun t => t.running h c = some y ∧ y.stk.length ≤ t.fd (Apc.icStatus h y.task) 16 8 ∧ SameMem s t
    ∧ SameShadows s t ∧ SameRegs s t (fun a => a = Apc.icStatus h y.task))
/-- A code fault of task `k` shows: its code, its program counter and its address (R373). -/
def Faulted (t : State) (h : Half) (k code pc addr : Nat) : Prop :=
  t.fd (Apc.codeFault h k) 7 0 = code ∧ t.rn (Apc.faultPc h k) = pc ∧ t.rd64 (Apc.faultAddrLo h k) = addr

/-- Whether a command is an instruction of intermediate code (R378). -/
def isIc : Instr → Bool
  | .icNop .. | .icPushb .. | .icPushw .. | .icPushl .. | .icDup .. | .icDrop .. | .icSwap .. | .icOver ..
  | .icLdb .. | .icLdi .. | .icLdd .. | .icLdxd .. | .icStb .. | .icSti .. | .icStd .. | .icStxd .. | .icAdd ..
  | .icSub .. | .icMul .. | .icDiv .. | .icMod .. | .icNeg .. | .icAbs .. | .icMin .. | .icMax .. | .icLimit ..
  | .icRadd .. | .icRsub .. | .icRmul .. | .icRdiv .. | .icRneg .. | .icRabs .. | .icRsqrt .. | .icRlimit ..
  | .icEq .. | .icNe .. | .icLt .. | .icLe .. | .icGt .. | .icGe .. | .icReq .. | .icRne .. | .icRlt .. | .icRle ..
  | .icRgt .. | .icRge .. | .icAnd .. | .icOr .. | .icXor .. | .icNot .. | .icShl .. | .icShr .. | .icBnot ..
  | .icJmp .. | .icJz .. | .icJnz .. | .icCall .. | .icRet .. | .icEnd .. | .icItor .. | .icRtoi .. | .icRtoit ..
  | .icIoin .. | .icIoout .. | .icTmr .. | .icTmre .. | .icLpsp .. | .icLpmd .. | .icLpout .. | .icTime ..
  | .icCycn .. | .icUerr .. | .icHalt .. => true
  | _ => false
/-- The evaluation stack holds at most 256 cells and the call stack at most 32 offsets (R371). -/
def Ctx.bounded (x : Ctx) : Prop := x.stk.length ≤ 256 ∧ x.calls.length ≤ 32
/-- Every task's context, and every core's background context, keeps these bounds. -/
def StacksBounded (s : State) : Prop :=
  ∀ h k, (s.task h k).ctx.bounded ∧ ∀ b, (s.core h k).bg = some b → b.bounded
/-- `k` steps from `s` lead to `t`. -/
def RunsTo (k : Nat) (s t : State) : Prop := Host.Core.run Sys2Proof.core k s = .next t

/-- The canonical form of a state's sparse maps: registers, shadows and bytes. -/
def State.wf (s : State) : Bool :=
  Map.wf (resetWord s.deck.straps) s.live && Map.wf (resetWord s.deck.straps) s.shadow && Memory.wf s.mem
/-- `k` steps from `s` all answer a next state. -/
def SafeFor (k : Nat) (s : State) : Prop := ∃ t, Host.Core.run Sys2Proof.core k s = .next t

end Sys2Proof.Machine
end

