-- ==== Sys2Proof/Certificates/Slice0/Obligations.lean ====
section
/-! DEFINITION. The statements for the provers: what each command of the block does, and what the machine keeps. -/
open Sys2Proof Sys2Proof.Machine

/-- CORE_PARITY stops the core and raises source 4; CMT_LOCK locks every group it names; CMT_FAULT_FLAG_CLEAR clears exactly
the written bits of its register; EVC_PEND_CLEAR clears every named pending edge source that is not asserted again;
SNAP_START.START sets T to the first whole microsecond of ship time at least 2 us ahead and sets RUNNING. -/
def Obligations.CommitEventAndCoreCommandsComplete : Prop :=
  (∀ h c s, s.runs h = true →
    Gives (.coreParity h c) s (fun t => c ∈ (t.half h).coreStopped ∧ Pends t h 4 ∧ SameMem s t ∧ SameShadows s t
      ∧ SameRegs s t (EventReg h))) ∧
  (∀ h groups s, s.runs h = true →
    Gives (.cmtLock h groups) s (fun t => ∀ g, g < 22 → bit groups g = true → t.locked h g = true)) ∧
  (∀ h val s reg a, s.runs h = true →
    [Cmt.cmtLateWrite h, Cmt.cmtStrobeRefused h, Cmt.cmtLockedWrite h][reg]? = some a →
    Gives (.cmtFaultFlagClear h reg val) s (fun t => t.rg a = s.rg a &&& ~~~ val ∧ SameMem s t
      ∧ SameRegs s t (fun x => x = a ∨ EventReg h x))) ∧
  (∀ h k val again s, s.runs h = true → k < 32 →
    Gives (.evcPendClear h k val again) s (fun t => SameMem s t ∧
      ∀ i, i < 32 → bit val i = true → isLevel (32 * k + i) = false → bit again i = false →
        t.mapBit (Evc.pend h 0) (32 * k + i) = false)) ∧
  (∀ h cmd s, s.runs h = true → bit cmd 0 = true → s.bt (Mod.snapStatus h) 0 = false → s.snapFits h = true →
    Gives (.snapStart h cmd) s (fun t => t.bt (Mod.snapStatus h) 0 = true ∧ SameMem s t ∧
      ∃ T, (t.half h).snap.t = some T ∧ T % 1000 = 0 ∧ s.now h + 2000 ≤ T ∧ T < s.now h + 3000))

/-- R71: TALLY_CTR_LO_READ returns bits [31:0] of counter n to the core and copies bits [47:32] into that core's latch,
which CTR_HI then returns to it, and which no later read by another core, of any counter, changes; TALLY_CTR_LO_WRITE sets bits [31:0] to the written word and
bits [47:32] to CTR_HI_WR in one command. Registers, memory and every other counter stay. -/
def Obligations.TallyCounterReadAndWriteAreOneCycle : Prop :=
  (∀ h c n s, s.runs h = true →
    Gives (.tallyCtrLoRead h c n) s (fun t =>
      let v := Map.get (fun _ => 0) (s.half h).ctr n
      Map.get (fun _ => 0) (t.half h).readData c = BitVec.ofNat 32 v
      ∧ Map.get (fun _ => 0) (t.half h).time.latchTally c = BitVec.ofNat 32 (v / 2 ^ 32)
      ∧ (t.half h).ctr = (s.half h).ctr ∧ SameMem s t ∧ SameShadows s t ∧ SameRegs s t (fun _ => False)
      ∧ (∀ m, m < 256 → t.readWord c (Tally.ctrHi h m) = BitVec.ofNat 32 (v / 2 ^ 32))
      ∧ ∀ d m, d ≠ c → Gives (.tallyCtrLoRead h d m) t (fun u =>
          Map.get (fun _ => 0) (u.half h).time.latchTally c = BitVec.ofNat 32 (v / 2 ^ 32)))) ∧
  (∀ h n val s, s.runs h = true →
    Gives (.tallyCtrLoWrite h n val) s (fun t =>
      Map.get (fun _ => 0) (t.half h).ctr n = (s.rg (Tally.ctrHiWr h)).toNat % 2 ^ 16 * 2 ^ 32 + val.toNat
      ∧ (∀ m, m ≠ n → Map.get (fun _ => 0) (t.half h).ctr m = Map.get (fun _ => 0) (s.half h).ctr m)
      ∧ SameMem s t ∧ SameShadows s t ∧ SameRegs s t (fun _ => False)))

/-- An enabled counter at 2^48 - 1 wraps to 0 with OVF set. A dump with room and no stream reading the ring advances
DUMP_SEQ by one and DUMP_WP to the next slot of the ring; a ring slot outside the DDR window is a bus error and writes
nothing; a full ring that may not overwrite counts the dump as lost, as does a dump that falls while one is being written. -/
def Obligations.TallyWrapAndDumpComplete : Prop :=
  (∀ h n s, s.runs h = true → n < 256 → Map.get (fun _ => 0) (s.half h).ctr n = 2 ^ 48 - 1 →
    s.bt (Tally.ctrCfg h n) 17 = true →
    Gives (.tallyWrap h n) s (fun t => Map.get (fun _ => 0) (t.half h).ctr n = 0 ∧ t.bt (Tally.ctrCfg h n) 24 = true
      ∧ SameMem s t ∧ SameRegs s t (fun a => a = Tally.ctrCfg h n))) ∧
  (∀ h s, s.runs h = true → s.bt (Tally.dumpCtrl h) 0 = true → (s.half h).dumpK ≠ some (s.dumpPer h) → s.streamOf h 2 = none →
    (s.bt (Tally.dumpCtrl h) 1 = true ∨ (s.rn (Tally.dumpWp h) + 1) % s.dumpLen h ≠ s.rn (Tally.dumpRp h)) →
    inDdr (s.fd (Tally.dumpBase h) 29 0 * 64 + s.rn (Tally.dumpWp h) * 2112) 2112 = true →
    Gives (.tallyDump ⟨h, false⟩) s (fun t => t.rn (Tally.dumpSeq h) = (s.rn (Tally.dumpSeq h) + 1) % 2 ^ 32
      ∧ t.rn (Tally.dumpWp h) = (s.rn (Tally.dumpWp h) + 1) % s.dumpLen h
      ∧ SameRegs s t (fun a => a = Tally.dumpSeq h ∨ a = Tally.dumpWp h))) ∧
  (∀ h s, s.runs h = true → s.bt (Tally.dumpCtrl h) 0 = true → (s.half h).dumpK ≠ some (s.dumpPer h) → s.bt (Tally.dumpCtrl h) 1 = false →
    (s.rn (Tally.dumpWp h) + 1) % s.dumpLen h = s.rn (Tally.dumpRp h) → s.rn (Tally.dumpLost h) < 2 ^ 32 - 1 →
    Gives (.tallyDump ⟨h, false⟩) s (fun t => t.rn (Tally.dumpLost h) = s.rn (Tally.dumpLost h) + 1 ∧ Pends t h 761
      ∧ SameMem s t)) ∧
  (∀ h s, s.runs h = true → s.bt (Tally.dumpCtrl h) 0 = true → (s.half h).dumpK ≠ some (s.dumpPer h) → s.rn (Tally.dumpLost h) < 2 ^ 32 - 1 →
    Gives (.tallyDump ⟨h, true⟩) s (fun t => t.rn (Tally.dumpLost h) = s.rn (Tally.dumpLost h) + 1
      ∧ SameMem s t ∧ SameRegs s t (fun a => a = Tally.dumpLost h))) ∧
  (∀ h s, s.runs h = true → s.bt (Tally.dumpCtrl h) 0 = true → (s.half h).dumpK ≠ some (s.dumpPer h) →
    (s.bt (Tally.dumpCtrl h) 1 = true ∨ (s.rn (Tally.dumpWp h) + 1) % s.dumpLen h ≠ s.rn (Tally.dumpRp h)) →
    inDdr (s.fd (Tally.dumpBase h) 29 0 * 64 + s.rn (Tally.dumpWp h) * 2112) 2112 = false →
    Gives (.tallyDump ⟨h, false⟩) s (fun t => Pends t h 0 ∧ SameMem s t ∧ SameRegs s t (EventReg h)
      ∧ (t.half h).busErrAddr = h.base + (s.fd (Tally.dumpBase h) 29 0 * 64 + s.rn (Tally.dumpWp h) * 2112)))

/-- TIME_NOW_LO_READ answers ship time [31:0] and latches [63:32] for the core. OFFSET_REPORT (SRC PTP, SERVO EXTERNAL, not
following) shows the report in OFFSET_LAST. PTP_MESSAGE shows the port state. TIME_SOURCE_LOSS takes ACQUIRING or LOCKED to
HOLDOVER and reports it; HOLDOVER_EXPIRE takes HOLDOVER to UNSYNC. PEER_TIME_MESSAGE shows PEER_OFFSET in a leader, and in a
follower within 1 us slews by at most 100 ppm of the addend. PEER_TIME_LOSS makes a follower lead. PEER_FAULT sets the flag. -/
def Obligations.TimeBaseSourceCommandsComplete : Prop :=
  (∀ h c s, s.runs h = true →
    Gives (.timeNowLoRead h c) s (fun t =>
      Map.get (fun _ => 0) (t.half h).readData c = BitVec.ofNat 32 (s.now h)
      ∧ Map.get (fun _ => 0) (t.half h).time.latchTime c = BitVec.ofNat 32 (s.now h / 2 ^ 32)
      ∧ SameMem s t ∧ SameRegs s t (fun _ => False))) ∧
  (∀ h ns s, s.runs h = true → s.fd (Time.timeCfg h) 1 0 = 1 → s.bt (Time.timeCfg h) 2 = true →
    (s.half h).time.following = false →
    Gives (.offsetReport h ns) s (fun t =>
      (t.rg (Time.offsetLast h)).toInt = max (-2147483647) (min 2147483647 ns) ∧ SameMem s t)) ∧
  (∀ h kind seq dom stamp value port utc s, s.runs h = true →
    Gives (.ptpMessage h kind seq dom stamp value port utc) s (fun t =>
      t.fd (Time.timeStatus h) 23 16 = port % 256)) ∧
  (∀ h s, s.runs h = true → (s.timeState h = 1 ∨ s.timeState h = 2) →
    (s.fd (Time.timeCfg h) 1 0 = 1 ∨ s.fd (Time.timeCfg h) 1 0 = 2) →
    (s.half h).time.lastRep + clampNat 1 31 (s.fd (Time.timeCfg h) 7 3) * 25000000 ≤ (s.half h).time.ticks →
    Gives (.timeSourceLoss h) s (fun t => t.timeState h = 3 ∧ Reported t h 0x1106 1 h.num ∧ SameMem s t
      ∧ SameRegs s t (fun a => a = Time.timeStatus h ∨ EventReg h a))) ∧
  (∀ h s, s.runs h = true → s.timeState h = 3 →
    (s.half h).time.holdT + max 1 (s.fd (Time.timeCfg h) 15 8) * 15000000000 ≤ (s.half h).time.ticks →
    Gives (.holdoverExpire h) s (fun t => t.timeState h = 4 ∧ (t.half h).time.eff = (s.half h).time.eff ∧ SameMem s t
      ∧ SameRegs s t (fun a => a = Time.timeStatus h ∨ EventReg h a))) ∧
  (∀ h off s, s.runs h = true → s.shouldFollow h = false → (s.half h).time.following = false →
    Gives (.peerTimeMessage h off) s (fun t =>
      (t.rg (Time.peerOffset h)).toInt = max (-2147483647) (min 2147483647 off) ∧ SameMem s t
      ∧ SameRegs s t (fun a => a = Time.peerOffset h))) ∧
  (∀ h off s, s.runs h = true → s.shouldFollow h = true → off.natAbs ≤ 1000 →
    Gives (.peerTimeMessage h off) s (fun t => (t.half h).time.following = true
      ∧ s.addend h - s.addend h / 10000 ≤ (t.half h).time.eff
      ∧ (t.half h).time.eff ≤ s.addend h + s.addend h / 10000 ∧ SameMem s t)) ∧
  (∀ h s, s.runs h = true → (s.half h).time.following = true →
    (s.half h).time.peerT + 2500 ≤ (s.half h).time.ticks →
    Gives (.peerTimeLoss h) s (fun t => (t.half h).time.following = false
      ∧ t.timeState h = (if (s.half h).time.everSet then 3 else 0)
      ∧ t.rg (Time.peerOffset h) = 0x80000000 ∧ SameMem s t)) ∧
  (∀ h b s, s.runs h = true → (s.half h).time.following = true → (s.half h).time.peerBad = some b →
    b + 25000 ≤ (s.half h).time.ticks →
    Gives (.peerFault h) s (fun t => t.bt (Time.timeStatus h) 6 = true ∧ SameMem s t
      ∧ (s.hstate h = 3 → t.hstate h = 2)))

/-- TIME_SET in UNSET loads STEP_HI:STEP_LO and goes to ACQUIRING. TIME_STEP plans P, the first whole millisecond at least
100 us ahead, and delta. STEP_CONFIRM gives the follower delta and P. TIME_STEPPED ends the plan, adds delta to ship time
modulo 2^64 and raises source 26. TIME_CLEAR_COUNTS clears STEP_CNT and every MISSED. CMP_ARM writes CMP_CTRL and clears
LATE and DISARMED. CMP_FIRE sets FIRED, and disarms a one-shot unit. DECK_TIME_SOURCE_CHANGED takes the owner of group 125
as the source, or goes to HOLDOVER. -/
def Obligations.TimeStepAndCompareCommandsComplete : Prop :=
  (∀ h s, s.runs h = true → s.timeState h = 0 →
    Gives (.timeSet h) s (fun t => t.now h = s.rd64 (Time.stepLo h) ∧ t.timeState h = 1 ∧ SameMem s t)) ∧
  (∀ h s, s.runs h = true → (s.half h).time.following = false → s.bt (Time.timeStatus h) 5 = false →
    Gives (.timeStep h) s (fun t => t.bt (Time.timeStatus h) 5 = true ∧ SameMem s t
      ∧ (t.half h).time.stepDelta = signedOf 64 (s.rd64 (Time.stepLo h))
      ∧ ∃ p, p % 1000000 = 0 ∧ s.now h + 100000 ≤ p ∧ p < s.now h + 1100000
        ∧ t.rd64 (Time.stepTLo h) = p % 2 ^ 64)) ∧
  (∀ h s, s.runs h = true → s.bt (Time.timeStatus h) 5 = true → (s.half h.other).time.following = true →
    s.mirrorUp = true → (s.half h).time.ticks ≤ (s.half h).time.stepMade + 2500 →
    Gives (.stepConfirm h) s (fun t => (t.half h).time.stepConfirmed = true
      ∧ (t.half h.other).time.stepConfirmed = true ∧ (t.half h.other).time.stepDelta = (s.half h).time.stepDelta
      ∧ t.bt (Time.timeStatus h.other) 5 = true ∧ t.rd64 (Time.stepTLo h.other) = s.rd64 (Time.stepTLo h)
      ∧ SameMem s t)) ∧
  (∀ h s, s.runs h = true → s.bt (Time.timeStatus h) 5 = true → s.rd64 (Time.stepTLo h) ≤ s.now h →
    Gives (.timeStepped h) s (fun t => t.bt (Time.timeStatus h) 5 = false
      ∧ (t.now h : Int) = ((s.now h : Int) + (s.half h).time.stepDelta) % 2 ^ 64 ∧ SameMem s t)) ∧
  (∀ h s, s.runs h = true →
    Gives (.timeClearCounts h) s (fun t => t.rg (Time.stepCnt h) = 0 ∧ SameMem s t
      ∧ ∀ k, k < 64 → t.fd (Time.cmpStatus h k) 31 16 = 0)) ∧
  (∀ h k val s, s.runs h = true → k < 64 →
    Gives (.cmpArm h k val) s (fun t => t.rg (Time.cmpCtrl h k) = val &&& 0x000700FF ∧ SameMem s t
      ∧ (bit val 16 = true → t.bt (Time.cmpStatus h k) 1 = false ∧ t.bt (Time.cmpStatus h k) 2 = false)
      ∧ SameRegs s t (fun a => a = Time.cmpCtrl h k ∨ a = Time.cmpStatus h k))) ∧
  (∀ h k s, s.runs h = true → k < 64 → s.bt (Time.cmpCtrl h k) 16 = true → 0 ≤ s.cmpDiff h k →
    Gives (.cmpFire h k) s (fun t => t.bt (Time.cmpStatus h k) 0 = true ∧ SameMem s t
      ∧ (s.bt (Time.cmpCtrl h k) 17 = false → t.bt (Time.cmpCtrl h k) 16 = false))) ∧
  (∀ j h s, s.owner 125 = some h → (s.half h).linkUp = true →
    Gives (.deckTimeSourceChanged j) s (fun t => t.deck.timeState = 1 ∧ t.deck.timeSrc = h.num
      ∧ t.deck.timeCopy = s.now h ∧ SameMem s t)) ∧
  (∀ j s, (∀ h, s.owner 125 = some h → (s.half h).linkUp = false) → s.deck.timeState ≠ 0 →
    Gives (.deckTimeSourceChanged j) s (fun t => t.deck.timeState = 2 ∧ SameMem s t))

/-- TRAY_RP_WRITE within [RP, WP] moves RP, otherwise sets RP_BAD and leaves RP. TRAY_PACKET_STALL closes the packet, with
source 740 and PACKET_STALL. LOG_REPORT takes the oldest report from the inbox; with no record open and a code outside
0x12xx it opens one with REP 1. LOG_RECORD_CLOSE moves the oldest open record into the write queue. LOG_FLASH_WRITE writes
the front record with the next SEQ. TRIP_RECORD_WRITE enters the record in each fitted half's pinned area. PIN_COPY advances
the copy pointer. OP_TIME_STORE stores the operating time. MRAM_SCRUB notes the damaged pinned entries. -/
def Obligations.TrayAndLogbookCommandsComplete : Prop :=
  (∀ h k val s, s.runs h = true → trayExists k = true → s.bt (Tray.trayStatus h k) 3 = false →
    Gives (.trayRpWrite h k val) s (fun t =>
      if (s.rg (Tray.trayWp h k) - s.rg (Tray.trayRp h k)).toNat < (val - s.rg (Tray.trayRp h k)).toNat then
        t.bt (Tray.trayStatus h k) 2 = true ∧ t.rg (Tray.trayRp h k) = s.rg (Tray.trayRp h k) ∧ SameMem s t
      else t.rg (Tray.trayRp h k) = val ∧ t.bt (Tray.trayStatus h k) 2 = false)) ∧
  (∀ h k slot p s, s.runs h = true → trayExists k = true → s.streamOf h 1 = none →
    (s.half h).tray.packets.find? (fun p => decide (p.tray = k) && decide (p.slot = slot) && !p.closed) = some p →
    p.openedAt + max 1 (s.fd (Tray.trayStall h k) 15 0) * 1000 ≤ s.now h →
    Gives (.trayPacketStall h k slot) s (fun t => Pends t h 740 ∧ Reported t h 0x1301 0x1A k)) ∧
  (∀ h r rest s, s.runs h = true → (s.half h).log.inbox = r :: rest →
    Gives (.logReport h) s (fun t => (t.half h).log.inbox = rest ∧ SameMem s t
      ∧ ((s.half h).log.opened = [] → r.code / 256 ≠ 0x12 →
          ∃ o, (t.half h).log.opened = [o] ∧ o.code = r.code ∧ o.kind = r.kind ∧ o.num = r.num ∧ o.rep = 1
            ∧ o.data = r.data))) ∧
  (∀ h r rest s, s.runs h = true → (s.half h).log.opened = r :: rest → (s.half h).log.queue.length < 8192 →
    r.t0 + 1000000 ≤ s.now h →
    Gives (.logRecordClose h) s (fun t => (t.half h).log.opened = rest ∧ r ∈ (t.half h).log.queue ∧ SameMem s t
      ∧ SameRegs s t (fun _ => False))) ∧
  (∀ h retired reserve r rest s, s.runs h = true → s.bt (Log.logStatus h) 0 = false →
    (s.half h).log.queue = r :: rest →
    Gives (.logFlashWrite h retired reserve) s (fun t => SameMem s t
      ∧ (t.half h).log.nextSeq = (s.half h).log.nextSeq + 1
      ∧ { r with seq := (s.half h).log.nextSeq } ∈ (t.half h).log.flash)) ∧
  (∀ r rest s, s.deck.trivet.tripQueue = r :: rest → s.pinRoom .a = true → s.pinRoom .b = true →
    Gives .tripRecordWrite s (fun t => t.deck.trivet.tripQueue = rest ∧ SameMem s t
      ∧ ∀ h, (s.half h).fitted = true → (t.half h).log.pinWp = (s.half h).log.pinWp + 1)) ∧
  (∀ h s, s.runs h = true → s.bt (Log.logStatus h) 0 = false → (s.half h).log.pinCp < (s.half h).log.pinWp →
    (s.half h).log.queue.length < 8192 →
    Gives (.pinCopy h) s (fun t => (t.half h).log.pinCp = (s.half h).log.pinCp + 1 ∧ SameMem s t
      ∧ SameRegs s t (fun _ => False))) ∧
  (∀ h s, s.runs h = true → (s.half h).log.opMark + 250000000 ≤ (s.half h).time.ticks →
    Gives (.opTimeStore false h) s (fun t => (t.half h).log.opTime = s.opTime h ∧ t.opTime h = s.opTime h ∧ SameMem s t ∧ SameRegs s t (fun _ => False))) ∧
  (∀ h s, s.deck.opMark + 250000000 ≤ s.deck.ticks →
    Gives (.opTimeStore true h) s (fun t => t.deck.opTime = s.deckOpTime ∧ t.deckOpTime = s.deckOpTime
      ∧ SameMem s t ∧ SameRegs s t (fun _ => False))) ∧
  (∀ h damaged s, s.runs h = true →
    Gives (.mramScrub h damaged) s (fun t => SameMem s t ∧ SameRegs s t (fun _ => False)
      ∧ ∀ q e, q ∈ damaged → e ∈ (s.half h).log.pinned → e.1 = q → q ∈ (t.half h).log.pinBad))

/-- LOG_FREEZE sets FROZEN, LOG_UNFREEZE and FREEZE_EXPIRED clear it, the last with a record. LOG_READ into the DDR window
sets READING and takes RD_SEQ; LOG_READ_DONE clears it and raises source 723. LOG_CLEAR with a token that passes leaves an
empty ring whose first record is the next one. LOG_CLEAR_COUNTS clears LOST_CNT and PIN_OVERRUN. -/
def Obligations.LogCommandRegisterCommandsComplete : Prop :=
  (∀ h s, s.runs h = true →
    Gives (.logFreeze h) s (fun t => t.bt (Log.logStatus h) 0 = true ∧ SameMem s t
      ∧ SameRegs s t (fun a => a = Log.logStatus h))) ∧
  (∀ h s, s.runs h = true →
    Gives (.logUnfreeze h) s (fun t => t.bt (Log.logStatus h) 0 = false ∧ SameMem s t
      ∧ SameRegs s t (fun a => a = Log.logStatus h))) ∧
  (∀ h s, s.runs h = true → s.bt (Log.logStatus h) 0 = true →
    (s.half h).log.freezeT + clampNat 1 60 (s.fd (Log.logCfg h) 5 0) * 250000000 ≤ (s.half h).time.ticks →
    Gives (.freezeExpired h) s (fun t => t.bt (Log.logStatus h) 0 = false ∧ Reported t h 0x1203 1 h.num ∧ SameMem s t
      ∧ SameRegs s t (fun a => a = Log.logStatus h))) ∧
  (∀ h s, s.runs h = true → s.bt (Log.logStatus h) 1 = false →
    inDdr (s.fd (Log.rdDst h) 29 0 * 64) (64 * s.fd (Log.rdCount h) 16 0) = true →
    Gives (.logRead h) s (fun t => t.bt (Log.logStatus h) 1 = true
      ∧ (t.half h).log.readSeq = s.rn (Log.rdSeq h) ∧ (t.half h).log.readCount = s.fd (Log.rdCount h) 16 0
      ∧ SameMem s t ∧ SameRegs s t (fun a => a = Log.logStatus h))) ∧
  (∀ h s, s.runs h = true → s.bt (Log.logStatus h) 1 = true →
    Gives (.logReadDone h) s (fun t => t.bt (Log.logStatus h) 1 = false ∧ Pends t h 723
      ∧ t.fd (Log.logStatus h) 3 2 = (((List.range (s.half h).log.readCount).map
          (fun i => s.logAt h (s.half h).log.readPinned ((s.half h).log.readSeq + i))).any (·.isNone)).toNat)) ∧
  (∀ h pinned s, s.runs h = true → s.bt (Log.logStatus h) 0 = false →
    (s.tokenCheck h (Log.clrTokenLo h) (Log.clrTokenHi h) 3).1 = true →
    Gives (.logClear h pinned) s (fun t => (t.half h).log.firstSeq = (t.half h).log.nextSeq
      ∧ (t.half h).log.flash = [] ∧ t.fd (Log.logStatus h) 6 4 = 0)) ∧
  (∀ h s, s.runs h = true →
    Gives (.logClearCounts h) s (fun t => (∀ k, k < 32 → t.rg (Log.lostCnt h k) = 0) ∧ t.rg (Log.pinOverrun h) = 0
      ∧ SameMem s t))

/-- With no Pantry command running MEMBER_INIT, MEMBER_OFF and PANTRY_READ begin (BUSY); PANTRY_CMD_DONE ends the command with
the member's state and source 739. STREAM_START makes the stream RUNNING; STREAM_STOP stops it, or at the chunk's end;
STREAM_TRIGGER records TRIG_SEQ; CHUNK_TIMEOUT writes the open chunk and advances SEQ. NVME_WRITE_DONE ends the oldest
write, or retries it once. PANTRY_FLUSH flushes every ONLINE member. MEMBER_LINK_LOSS fails the member with cause link;
AER_ERROR counts. -/
def Obligations.PantryCommandsComplete : Prop :=
  (∀ h m s, s.runs h = true → m < 16 → s.bt (Tray.pantryStatus h) 0 = false →
    Gives (.memberInit h m) s (fun t => t.fd (Tray.mbrStatus h m) 1 0 = 1 ∧ t.bt (Tray.pantryStatus h) 0 = true
      ∧ (t.half h).pantry.cmdOp = 1 ∧ (t.half h).pantry.cmdMember = m ∧ SameMem s t)) ∧
  (∀ h m s, s.runs h = true → m < 16 → s.bt (Tray.pantryStatus h) 0 = false →
    Gives (.memberOff h m) s (fun t => t.bt (Tray.pantryStatus h) 0 = true
      ∧ (t.half h).pantry.cmdOp = 2 ∧ (t.half h).pantry.cmdMember = m ∧ SameMem s t)) ∧
  (∀ h s, s.runs h = true → s.bt (Tray.pantryStatus h) 0 = false →
    inDdr (s.fd (Tray.rdDst h) 29 0 * 64) (4096 * s.fd (Tray.rdLen h) 12 0) = true →
    Gives (.pantryRead h) s (fun t => t.bt (Tray.pantryStatus h) 0 = true ∧ (t.half h).pantry.cmdOp = 3
      ∧ SameMem s t)) ∧
  (∀ h width gen data s, s.runs h = true → s.bt (Tray.pantryStatus h) 0 = true → (s.half h).pantry.cmdOp = 1 →
    (s.half h).pantry.cmdMember < 16 →
    Gives (.pantryCmdDone h true true true width gen data) s (fun t =>
      t.fd (Tray.mbrStatus h (s.half h).pantry.cmdMember) 1 0 = 2 ∧ t.bt (Tray.pantryStatus h) 0 = false
      ∧ t.fd (Tray.pantryStatus h) 3 1 = 0 ∧ Pends t h 739 ∧ SameMem s t)) ∧
  (∀ h l f c width gen data s, s.runs h = true → s.bt (Tray.pantryStatus h) 0 = true → (s.half h).pantry.cmdOp = 2 →
    (s.half h).pantry.cmdMember < 16 →
    Gives (.pantryCmdDone h l f c width gen data) s (fun t =>
      t.fd (Tray.mbrStatus h (s.half h).pantry.cmdMember) 1 0 = 0 ∧ t.bt (Tray.pantryStatus h) 0 = false
      ∧ Pends t h 739 ∧ SameMem s t)) ∧
  (∀ h st s, s.runs h = true → st < 4 → s.streaming h st = false → s.fd (Tray.strCfg h st) 1 0 = 2 →
    s.streamOf h 2 = none →
    Gives (.streamStart h st) s (fun t => t.fd (Tray.strStatus h st) 1 0 = 1 ∧ t.rd64 (Tray.strSeqLo h st) = 0
      ∧ (t.stream h st).run = s.now h ∧ (t.stream h st).chunk = [] ∧ SameMem s t)) ∧
  (∀ h st s, s.runs h = true → st < 4 → s.streaming h st = true →
    Gives (.streamStop h st) s (fun t => SameMem s t
      ∧ if (s.stream h st).chunk = [] then t.fd (Tray.strStatus h st) 1 0 = 3 ∧ Pends t h 738
        else (t.stream h st).stopping = true)) ∧
  (∀ h st lid s, s.runs h = true → st < 4 → s.fd (Tray.strStatus h st) 1 0 = 1 →
    s.fd (Tray.strCfg h st) 4 3 = (if lid then 1 else 2) → s.rn (Tray.strPost h st) ≠ 0 →
    Gives (.streamTrigger h st lid) s (fun t => t.fd (Tray.strStatus h st) 1 0 = 2
      ∧ t.rg (Tray.trigSeq h st) = s.rg (Tray.strSeqLo h st)
      ∧ (t.stream h st).postLeft = some (s.rn (Tray.strPost h st)) ∧ SameMem s t)) ∧
  (∀ h st s, s.runs h = true → st < 4 → s.streaming h st = true → (s.stream h st).chunk ≠ [] →
    (s.stream h st).chunkT + 100000000 ≤ s.now h → (s.stream h st).stopping = false →
    (s.stream h st).postLeft = none → s.bt (Tray.strCfg h st) 2 = false →
    Gives (.chunkTimeout h st) s (fun t => (t.stream h st).chunk = []
      ∧ t.rd64 (Tray.strSeqLo h st) = (s.rd64 (Tray.strSeqLo h st) + 1) % 2 ^ 64 ∧ SameMem s t)) ∧
  (∀ h w rest s, s.runs h = true → (s.half h).pantry.writing = w :: rest →
    Gives (.nvmeWriteDone h true) s (fun t => (t.half h).pantry.writing = rest ∧ SameMem s t)) ∧
  (∀ h w rest s, s.runs h = true → (s.half h).pantry.writing = w :: rest → w.retry = false →
    Map.get (fun _ => 0) (s.half h).pantry.failRun w.member < 7 →
    Gives (.nvmeWriteDone h false) s (fun t => (t.half h).pantry.writing = { w with retry := true } :: rest
      ∧ SameMem s t)) ∧
  (∀ h s, s.runs h = true → (s.half h).pantry.flushT + 250000000 ≤ (s.half h).time.ticks →
    Gives (.pantryFlush h) s (fun t => SameMem s t ∧ SameRegs s t (fun _ => False)
      ∧ ∀ m, m < 16 → s.fd (Tray.mbrStatus h m) 1 0 = 2 →
        Map.get (fun _ => 0) (t.half h).pantry.flushes m = Map.get (fun _ => 0) (s.half h).pantry.flushes m + 1)) ∧
  (∀ h m s, s.runs h = true → m < 16 → (s.fd (Tray.mbrStatus h m) 1 0 = 1 ∨ s.fd (Tray.mbrStatus h m) 1 0 = 2) →
    (∀ w ∈ (s.half h).pantry.writing, w.stream < 4) →
    Gives (.memberLinkLoss h m) s (fun t => t.fd (Tray.mbrStatus h m) 1 0 = 3 ∧ t.fd (Tray.mbrStatus h m) 15 12 = 1
      ∧ Reported t h 0x1401 0x1B m ∧ SameMem s t)) ∧
  (∀ h m s, s.runs h = true → m < 16 → s.fd (Tray.mbrStatus h m) 31 16 < 65535 →
    Gives (.aerError h m false) s (fun t => t.fd (Tray.mbrStatus h m) 31 16 = s.fd (Tray.mbrStatus h m) 31 16 + 1
      ∧ SameMem s t ∧ SameRegs s t (fun a => a = Tray.mbrStatus h m)))

/-- LANE_TRAINING_FAIL takes exactly its lane out of service and holds the alarm of a link that lacks a lane; a mirror link of
which one end has no lane left goes down, and a field-deck link with fewer than 2 lanes in a direction is shown down.
DECK_LINK_UP restores all lanes. A Whistle is sent only if both checks pass; it carries the next sequence number, the half's
state and claims and a right CRC. A received Whistle with a wrong CRC or sequence number only counts, up to 255; a valid one
shows its path live, the partner's state and the frame. A live path that falls silent is shown silent; where the other path is
live the half still hears its partner, else the partner is shown dead (7). WHISTLE_SEND reaching Trivet, TRIVET_PATH_SILENT,
CLAIM_STALE, CLAIM_VECTOR, DECK_LINK_UP and a failed field-deck lane give Trivet its new input, and each group not frozen gets
the owner that both rails decide from the counted claims (`Redecided`); a claim that the rails heard differently first freezes
its group. FROZEN_REDECIDE with agreeing rails unfreezes its group and decides it alone. OWNER_REPORT shows the owners and
judges them. A half that does not run and a field deck in reset take nothing; nor does Trivet over a link that is down. -/
def Obligations.LinkWhistleAndTrivetCommandsComplete : Prop :=
  let lanes (m : Nat) : Nat := ((List.range 4).filter (fun i => m.testBit i)).length
  let shown (s t : State) (h : Half) (l : LinkSt) : Prop :=
    (t.half h).link = { l with
      alarmDeck := decide (l.deckTo ≠ 15) || decide (l.deckFrom ≠ 15), alarmMirror := decide (l.mirror ≠ 255) }
    ∧ (t.half h).linkUp = (decide (2 ≤ lanes l.deckTo) && decide (2 ≤ lanes l.deckFrom))
    ∧ (t.half h).lostT = (if (s.half h).linkUp && !(t.half h).linkUp then s.deck.ticks else (s.half h).lostT)
    ∧ ∃ u : State, u.half h = { s.half h with link := (t.half h).link, linkUp := (t.half h).linkUp, lostT := (t.half h).lostT }
      ∧ u.half h.other = s.half h.other ∧ u.deck = s.deck ∧ u.live = s.live ∧ u.mem = s.mem ∧ Redecided u t
  (∀ h fd lane s, Gives (.laneTrainingFail h false fd lane) s (fun t => SameMem s t ∧ SameRegs s t (fun _ => False)
      ∧ (∀ i, (t.half h).link.mirror.testBit i = (decide (i ≠ lane) && (s.half h).link.mirror.testBit i))
      ∧ (t.half h).link.alarmMirror = decide ((t.half h).link.mirror ≠ 255)
      ∧ t.mirrorUp = (s.mirrorUp && decide (t.a.link.mirror ≠ 0) && decide (t.b.link.mirror ≠ 0)))) ∧
  (∀ h fd lane (s : State), ∃ l : LinkSt, l.mirror = (s.half h).link.mirror
    ∧ (∀ i, l.deckTo.testBit i = ((decide (i ≠ lane) || fd) && (s.half h).link.deckTo.testBit i))
    ∧ (∀ i, l.deckFrom.testBit i = ((decide (i ≠ lane) || !fd) && (s.half h).link.deckFrom.testBit i))
    ∧ (if s.deck.inReset then
        exec (.laneTrainingFail h true fd lane) s = .next (s.modHalf h (fun x => { x with link := l }))
       else Gives (.laneTrainingFail h true fd lane) s (fun t => shown s t h l))) ∧
  (∀ h (s : State), if s.runs h = false ∨ s.deck.inReset = true then exec (.deckLinkUp h) s = .next s
    else Gives (.deckLinkUp h) s (fun t => shown s t h { (s.half h).link with deckTo := 15, deckFrom := 15 })) ∧
  (∀ h timeOk routerOk reach (s : State), (s.runs h && timeOk && routerOk && s.whistleDue h) = false →
    exec (.whistleSend h timeOk routerOk reach) s = .next s) ∧
  (∀ h s, s.runs h = true → s.whistleDue h = true → ∃ u,
    exec (.whistleSend h true true false) s = .next u
    ∧ whistleCrc (u.half h).ctl.whSent = true
    ∧ bits (u.half h).ctl.whSent 7 0 = ((s.half h).ctl.whSeq + 1) % 256
    ∧ bits (u.half h).ctl.whSent 10 8 = s.hstate h ∧ bit (u.half h).ctl.whSent 12 = (s.half h).ctl.claims
    ∧ (u.half h).ctl.whSeq = ((s.half h).ctl.whSeq + 1) % 256 ∧ SameMem s u ∧ SameRegs s u (fun _ => False)
    ∧ (if s.deck.inReset then exec (.whistleSend h true true true) s = .next u
       else Gives (.whistleSend h true true true) s (fun t => Redecided (u.modTrivet (fun x => x.hear h true u.deck.ticks)) t))) ∧
  (∀ h path frame (s : State), path < 2 →
    let last := if path = 0 then (s.half h).ctl.rxMirror else (s.half h).ctl.rxTrivet
    let good := whistleCrc frame = true ∧ ∀ n, last = some n → bits frame 7 0 = (n + 1) % 256
    let cnt (t : State) := t.fd (HalfR.whistleStatus h) (15 + 8 * path) (8 + 8 * path)
    (s.runs h = false → exec (.whistleReceive h path frame) s = .next s)
    ∧ (s.runs h = true → ¬ good → Gives (.whistleReceive h path frame) s (fun t => SameMem s t
        ∧ cnt t = min 255 (cnt s + 1) ∧ SameRegs s t (fun a => a = HalfR.whistleStatus h)))
    ∧ (s.runs h = true → good → Gives (.whistleReceive h path frame) s (fun t =>
        t.bt (HalfR.whistleStatus h) path = true ∧ t.partner h = bits frame 10 8
        ∧ (t.half h).ctl.partnerWh = frame ∧ (t.half h).ctl.everHeard = true
        ∧ (if path = 0 then (t.half h).ctl.rxMirror else (t.half h).ctl.rxTrivet) = some (bits frame 7 0)
        ∧ cnt t = cnt s ∧ SameMem s t))) ∧
  (∀ h path (s : State), path < 2 →
    (s.runs h = false ∨ s.bt (HalfR.whistleStatus h) path = false ∨ s.pathQuiet h path = false → exec (.whistlePathSilent h path) s = .next s)
    ∧ (s.runs h = true → s.bt (HalfR.whistleStatus h) path = true → s.pathQuiet h path = true → Gives (.whistlePathSilent h path) s (fun t =>
        t.bt (HalfR.whistleStatus h) path = false
        ∧ (if path = 0 then (t.half h).ctl.rxMirror else (t.half h).ctl.rxTrivet) = none
        ∧ (if s.bt (HalfR.whistleStatus h) (1 - path) = true then
            t.hears h = true ∧ t.bt (HalfR.whistleStatus h) 2 = true ∧ SameMem s t
           else t.hears h = false ∧ t.bt (HalfR.whistleStatus h) 2 = false ∧ t.partner h = 7)))) ∧
  (∀ h (s : State), if s.deck.inReset ∨ s.trivetQuiet h = false then exec (.trivetPathSilent h) s = .next s
    else Gives (.trivetPathSilent h) s (fun t => Redecided (s.modTrivet (fun x => x.hear h false 0)) t)) ∧
  (∀ h (s : State), if s.deck.inReset ∨ s.claimOld h = false then exec (.claimStale h) s = .next s
    else Gives (.claimStale h) s (fun t => Redecided (s.modTrivet (fun x => x.stale h)) t)) ∧
  (∀ h differ (s : State), if s.runs h = false ∨ s.deck.inReset = true ∨ (s.half h).linkUp = false then
      exec (.claimVector h differ) s = .next s
    else Gives (.claimVector h differ) s (fun t =>
      let v := if (s.half h).ctl.claims then 2 ^ 128 - 1 else 0
      let u := s.modTrivet (fun x => x.claim h v s.deck.ticks)
      match differ with
      | some g => Redecided (if g < 128 then u.freeze g else u) t
      | none => Redecided u t)) ∧
  (∀ g agree (s : State), if s.deck.inReset = true ∨ agree = false ∨ s.deck.trivet.frozen.contains g = false then
      exec (.frozenRedecide g agree) s = .next s
    else Gives (.frozenRedecide g agree) s (fun t =>
      let u := s.modTrivet (fun x => { x with frozen := x.frozen.filter (· != g) })
      t = u.setOwner g (u.decideOf g) ∧ t.deck.trivet.frozen.contains g = false
      ∧ (∀ k, Map.get (fun _ => 0) t.deck.trivet.rail0 k
        = if k = g then s.decideOf g else Map.get (fun _ => 0) s.deck.trivet.rail0 k))) ∧
  (∀ h (s : State), exec (.ownerReport h) s = .next (if s.runs h = true ∧ s.deck.inReset = false ∧ (s.half h).linkUp = true then
    (s.showOwners h).judgeOwners h else s))

/-- The oldest mirrored block of the partner leaves the link and, for an idle STANDBY copy at another sample, is held for the
next boundary. A forwarded commit's words go into the copy's shadows. A cycle set gives the task its cycle count and release
instant. SELF_FAULT sets or clears its cause and records it; SAMPLE_TICK_LATE sets the time cause. ROLE_SWITCH makes a half
that holds every group LEAD. FAILOVER_CLAIM_TIMEOUT withdraws the claims. ALIGN_COPY_DONE counts the loop as copied.
BAY_LATCH_OPEN shows the open latch. -/
def Obligations.MirrorSelfFaultAndRoleCommandsComplete : Prop :=
  (∀ h b rest q s, (s.half h.other).ctl.mirrorTx = b :: rest → s.runs h = true → s.slotOf h b.loop = some q →
    s.standby h q = true → s.bt (slotBase h q) 12 = true → (s.run h q).phase = 0 →
    b.sample ≠ s.rg (stateBase h q + 0x64) →
    Gives (.mirrorBlockArrive h) s (fun t => (t.half h.other).ctl.mirrorTx = rest
      ∧ (b.loop, b.words) ∈ (t.half h).ctl.held ∧ SameMem s t ∧ SameRegs s t (EventReg h))) ∧
  (∀ h loop lag off w rest q s, (s.half h.other).ctl.fwdTx = ⟨loop, lag, [(0, off, w)]⟩ :: rest → s.runs h = true →
    s.slotOf h loop = some q →
    Gives (.commitForwardArrive h) s (fun t => (t.half h.other).ctl.fwdTx = rest ∧ t.sh (slotBase h q + off) = w
      ∧ (loop, lag) ∈ (t.half h).ctl.fwdWait ∧ SameMem s t ∧ SameRegs s t (fun _ => False))) ∧
  (∀ h c rest s, (s.half h.other).ctl.setTx = c :: rest → s.runs h = true → c.task < 16 → s.taskState h c.task ≠ 0 →
    s.hstate h ≠ 4 →
    Gives (.cycleSetArrive h) s (fun t => (t.half h.other).ctl.setTx = rest ∧ t.rg (Apc.cycleCnt h c.task) = c.cycle
      ∧ t.rd64 (Apc.releaseLo h c.task) = c.release % 2 ^ 64 ∧ SameMem s t)) ∧
  (∀ h cause s, s.runs h = true → 1 ≤ cause → cause < 4 → s.bt (HalfR.selfFault h) cause = false →
    Gives (.selfFault h cause true) s (fun t => t.bt (HalfR.selfFault h) cause = true ∧ Reported t h 0x0D0B 1 h.num
      ∧ SameMem s t)) ∧
  (∀ h cause s, s.runs h = true → 1 ≤ cause → cause < 4 → (cause = 1 → (s.half h).linkUp = true) →
    Gives (.selfFault h cause false) s (fun t => t.bt (HalfR.selfFault h) cause = false ∧ SameMem s t
      ∧ SameRegs s t (fun a => a = HalfR.selfFault h))) ∧
  (∀ h s, s.runs h = true → s.bt (HalfR.selfFault h) 2 = false →
    Gives (.sampleTickLate h) s (fun t => t.bt (HalfR.selfFault h) 2 = true ∧ Reported t h 0x0D0B 1 h.num
      ∧ SameMem s t)) ∧
  (∀ h s, s.runs h = true → (s.hstate h = 2 ∨ s.hstate h = 3) → (s.half h).ctl.plan = none →
    (s.half h).ctl.failover.isSome = true → (s.half h).ctl.claims = true → s.shownAll h h = true →
    s.hstate h.other ≠ 4 →
    exec (.roleSwitch h) s = .next ((s.passRoles h.other h).becomeLead h 2 (s.half h).ctl.failCause false)) ∧
  (∀ h x s, s.runs h = true → s.hstate h = 3 → (s.half h).ctl.failover = some x →
    x + 2500 ≤ (s.half h).time.ticks → s.hears h = true → s.shownAll h h = false →
    Gives (.failoverClaimTimeout h) s (fun t => (t.half h).ctl.failover = none ∧ (t.half h).ctl.claims = false
      ∧ (t.half h).ctl.plan = none ∧ Pends t h 70 ∧ Reported t h 0x0D04 1 h.num ∧ SameMem s t)) ∧
  (∀ h n p q s, s.runs h = true → s.mayAlign h = true → s.slotOf h.other n = some p → s.slotOf h n = some q →
    s.standby h q = true →
    Gives (.alignCopyDone h false n) s (fun t => n ∈ (t.half h).ctl.copied ∧ SameMem s t)) ∧
  (∀ h s, s.runs h = true →
    Gives (.bayLatchOpen h) s (fun t => portFlag t.deck.pwr.latchOpen h.num = true
      ∧ t.bt (HalfR.halfStatus h) 9 = true ∧ SameMem s t ∧ SameRegs s t (fun a => a = HalfR.halfStatus h)))

/-- HANDOVER in a LEAD half with a STANDBY partner and no switch under way plans T, the first whole millisecond at least 2 ms
ahead, and answers DONE; otherwise REFUSED. SWITCH_PLAN gives the partner the plan and its claims; SWITCH_CONFIRM confirms
it; a missing confirmation, an abandonment and CANCEL end a plan before T with ABORTED; at T the leaver withdraws its claims;
1 us later a leaver that still owns takes them again. CLEAR_COUNTS zeroes the counters. REALIGN starts the alignment again.
TAKEBACK_REQ is set when every condition of R409 has held for TAKEBACK_DELAY seconds, 0 acting as 1. -/
def Obligations.PlannedSwitchAndHalfCommandsComplete : Prop :=
  (∀ h s, s.runs h = true → s.canHandover h = true →
    Gives (.handover h) s (fun t => t.fd (HalfR.halfStatus h) 11 10 = 0 ∧ SameMem s t ∧
      ∃ p, (t.half h).ctl.plan = some p ∧ p.kind = 4 ∧ p.leaver = true ∧ p.confirmed = false
        ∧ p.t % 1000000 = 0 ∧ s.now h + 2000000 ≤ p.t ∧ p.t < s.now h + 3000000)) ∧
  (∀ h s, s.runs h = true → s.canHandover h = false →
    Gives (.handover h) s (fun t => t.fd (HalfR.halfStatus h) 11 10 = 1 ∧ SameMem s t
      ∧ SameRegs s t (fun a => a = HalfR.halfStatus h))) ∧
  (∀ h p s, s.runs h = true → (s.half h.other).ctl.plan = some p → p.leaver = true → p.atT = false →
    s.hstate h = 3 → s.mirrorUp = true → (s.half h).ctl.plan = none →
    Gives (.switchPlan h) s (fun t => (t.half h).ctl.plan = some { p with leaver := false, confirmed := true }
      ∧ (t.half h).ctl.claims = true ∧ t.bt (HalfR.halfStatus h) 8 = true ∧ SameMem s t)) ∧
  (∀ h p s, s.runs h = true → (s.half h).ctl.plan = some p → p.leaver = true → p.confirmed = false →
    (s.half h.other).ctl.plan.isSome = true → s.mirrorUp = true →
    Gives (.switchConfirm h) s (fun t => (t.half h).ctl.plan = some { p with confirmed := true }
      ∧ t.bt (HalfR.halfStatus h) 8 = true ∧ SameMem s t ∧ SameRegs s t (fun a => a = HalfR.halfStatus h))) ∧
  (∀ h p s, s.runs h = true → (s.half h).ctl.plan = some p → p.leaver = true → p.confirmed = false → p.atT = false →
    p.made + 250000 ≤ (s.half h).time.ticks →
    Gives (.switchConfirmTimeout h) s (fun t => (t.half h).ctl.plan = none ∧ Pends t h 70
      ∧ Reported t h 0x0D04 1 h.num ∧ SameMem s t)) ∧
  (∀ h p s, s.runs h = true → (s.half h).ctl.plan = some p → p.atT = false → (s.half h.other).ctl.plan = none →
    Gives (.switchAbandon h) s (fun t => (t.half h).ctl.plan = none ∧ Pends t h 70 ∧ Reported t h 0x0D04 1 h.num
      ∧ SameMem s t)) ∧
  (∀ h p s, s.runs h = true → (s.half h).ctl.plan = some p → p.confirmed = true → p.atT = false → p.t ≤ s.now h →
    Gives (.plannedSwitchT h) s (fun t => (t.half h).ctl.plan = some { p with atT := true } ∧ SameMem s t
      ∧ (p.leaver = true → (t.half h).ctl.claims = false))) ∧
  (∀ h p s, s.runs h = true → (s.half h).ctl.plan = some p → p.atT = true → p.leaver = true →
    p.t + 1000 ≤ s.now h → s.shownAny h h = true → s.hstate h = 4 →
    Gives (.plannedSwitchCheck h) s (fun t => (t.half h).ctl.plan = none ∧ (t.half h).ctl.claims = true ∧ Pends t h 70
      ∧ SameMem s t)) ∧
  (∀ h p s, s.runs h = true → (s.half h).ctl.plan = some p → p.atT = false →
    Gives (.cancel h) s (fun t => (t.half h).ctl.plan = none ∧ t.fd (HalfR.halfStatus h) 11 10 = 0 ∧ Pends t h 70
      ∧ SameMem s t)) ∧
  (∀ h s, s.runs h = true →
    Gives (.halfClearCounts h) s (fun t => SameMem s t ∧ t.rg (HalfR.switchCnt h) = 0 ∧ t.rg (HalfR.mirrorLateCnt h) = 0
      ∧ t.rg (HalfR.mirrorMismatchCnt h) = 0 ∧ t.rg (HalfR.pairLagCnt h) = 0 ∧ t.rg (HalfR.stbyWriteCnt h) = 0
      ∧ t.fd (HalfR.whistleStatus h) 23 8 = 0 ∧ t.fd (HalfR.halfStatus h) 11 10 = 0)) ∧
  (∀ h s, s.runs h = true → (s.hstate h = 2 ∨ s.hstate h = 3) → (s.half h).ctl.plan = none →
    Gives (.realign h) s (fun t => t.hstate h = 2 ∧ (t.half h).ctl.copied = [] ∧ t.fd (HalfR.halfStatus h) 11 10 = 0
      ∧ SameMem s t)) ∧
  (∀ h x s, s.runs h = true → s.preferred h = true → s.hstate h = 3 → s.bt (HalfR.halfCfg h) 0 = true →
    (∀ k, s.bt (HalfR.whistleStatus k) 0 = true ∧ s.bt (HalfR.whistleStatus k) 1 = true ∧ s.rg (HalfR.selfFault k) = 0
      ∧ s.pend k 17 = false) →
    (∀ i, i < 128 → s.rg (Mod.plcDisplaced h 0 + 4 * i) = 0) → s.deck.trivet.frozen = [] →
    s.bt Lid.lidStatus 3 = false → (s.half h).ctl.takeFrom = some x →
    x + max 1 (s.fd (HalfR.halfCfg h) 15 8) * 250000000 ≤ (s.half h).time.ticks →
    (s.half h).ctl.takeMis = s.rg (HalfR.mirrorMismatchCnt h) →
    Gives (.takebackReq h) s (fun t => (t.half h).ctl.takebackReq = true ∧ SameMem s t
      ∧ SameRegs s t (fun _ => False)))

/-- POWER_UP ends the field deck's reset. DECK_RAIL_FAULT resets the deck and both halves. HALF_WD_FEED by the firmware feeds;
HALF_WD_EXPIRE after the limit, RESET_CMD with its key in a half that is not LEAD, and HANDOVER_RESET reset the half with
causes 5 and 4. HALF_RESET_END of a fitted half with a good firmware slot ends its reset. SELFTEST_DONE, START_CLAIM_DELAY_EXPIRE
and STRAP_LEVEL_CHANGE have their effect. The firmware commands store, roll back and finish; the controller restarts; a
temperature reading is shown, and TEMP_HIGH and TEMP_NORMAL are recorded. -/
def Obligations.ResetAndServiceCommandsComplete : Prop :=
  (∀ u f s, s.deck.inReset = true → f < 2 → portFlag s.deck.pwr.feed f = true →
    s.deck.pwr.feedT + 25000000 ≤ s.deck.ticks →
    Gives (.powerUp u) s (fun t => t.deck.inReset = false ∧ t.deck.pwr.phase = 0
      ∧ (u = false → t.bt Pnl.pnlStatus 11 = true))) ∧
  (∀ s, Gives .deckRailFault s (fun t => t.deck.inReset = true ∧ (∀ h, t.runs h = false) ∧ t.dirty = [] ∧ t.marked = []
      ∧ (∀ a, t.byte a = 0))) ∧
  (∀ h s, s.runs h = true → Gives (.halfWdFeed h true) s (fun t => (t.half h).boot.wdFed = (s.half h).time.ticks
      ∧ SameMem s t ∧ SameRegs s t (fun _ => False))) ∧
  (∀ h s, s.runs h = true → (s.half h).boot.wdFed + 24500000 ≤ (s.half h).time.ticks →
    Gives (.halfWdExpire h) s (fun t => (t.half h).ctl.inReset = true ∧ (t.half h).ctl.resetCause = 5
      ∧ t.runs h = false ∧ t.half h.other = s.half h.other ∧ t.deck = s.deck)) ∧
  (∀ h val s, s.runs h = true → bits val 15 0 = 0x5A3C → bit val 16 = true → s.fd (Mod.fwStatus h) 1 0 ≠ 1 →
    s.hstate h ≠ 4 →
    Gives (.halfResetCmd h val) s (fun t => (t.half h).ctl.inReset = true ∧ (t.half h).ctl.resetCause = 4
      ∧ t.half h.other = s.half h.other ∧ t.deck = s.deck)) ∧
  (∀ h s, s.runs h = true → (s.half h).ctl.resetAfterSwitch = true → (s.half h).ctl.plan = none → s.hstate h ≠ 4 →
    (s.half h).ctl.switchT + 250000 ≤ (s.half h).time.ticks →
    Gives (.handoverReset h) s (fun t => (t.half h).ctl.inReset = true ∧ (t.half h).ctl.resetCause = 4
      ∧ t.half h.other = s.half h.other)) ∧
  (∀ h d s f, (s.half h).fitted = true → (s.half h).ctl.inReset = true → s.deck.inReset = false →
    portFlag s.deck.pwr.bayOff h.num = false → s.deck.pwr.phase < 2 → (s.half h).boot.active = some f → f.good = true →
    (s.half h).boot.failedBoots < 3 → (s.half h).boot.rolled = false → s.resetOver h = true →
    Gives (.halfResetEnd h d) s (fun t => t.runs h = true ∧ Reported t h 0x1601 1 h.num
      ∧ t.fd (Mod.idFw h) 15 0 = f.release % 65536)) ∧
  (∀ h s, s.runs h = true → (s.half h).boot.tested = false →
    Gives (.selftestDone h []) s (fun t => (t.half h).boot.tested = true ∧ (t.half h).boot.failedBoots = 0
      ∧ t.fd (Mod.selftest h) 9 0
        = ((List.range 512).filter (fun e => !s.mapBit (Mod.plcOos h 0) e)).length % 1024)) ∧
  (∀ h s, s.runs h = true → s.hstate h < 2 → s.hasImage h = true → s.pend h 17 = false →
    ¬(s.hears h = true ∧ s.partner h = 4) → 750000000 ≤ (s.half h).time.ticks →
    Gives (.startClaimDelayExpire h) s (fun t => (t.half h).ctl.startDelay = false ∧ (t.half h).ctl.claims = true
      ∧ SameMem s t)) ∧
  (∀ n tru comp s, n < 17 → Gives (.strapLevelChange n tru comp) s (fun t => t.deck.strapTrue.testBit n = tru
      ∧ t.deck.strapComp.testBit n = comp ∧ t.deck.straps = s.deck.straps ∧ SameMem s t)) ∧
  (∀ h s, s.runs h = true → s.fd (Mod.fwStatus h) 1 0 ≠ 1 →
    inDdr (s.fd (Mod.fwSrc h) 29 0 * 64) 128 = false → s.fd (Mod.fwLen h) 27 0 < 128 →
    Gives (.fwStore h) s (fun t => t.fd (Mod.fwStatus h) 1 0 = 3 ∧ t.fd (Mod.fwStatus h) 5 2 = 5 ∧ SameMem s t)
    ∧ Gives (.fwDeckStore h) s (fun t => t.fd (Mod.fwStatus h) 1 0 = 3 ∧ t.fd (Mod.fwStatus h) 5 2 = 5 ∧ SameMem s t)) ∧
  (∀ h bs s, s.runs h = true → s.fd (Mod.fwStatus h) 1 0 ≠ 1 → 128 ≤ s.fd (Mod.fwLen h) 27 0 →
    inDdr (s.fd (Mod.fwSrc h) 29 0 * 64) (s.fd (Mod.fwLen h) 27 0) = true →
    bs = s.bytes (h.base + s.fd (Mod.fwSrc h) 29 0 * 64) (s.fd (Mod.fwLen h) 27 0) →
    (fwCheck bs (s.fd (Mod.fwLen h) 27 0) 1 (s.fd h.base 7 0) = 0 →
      Gives (.fwStore h) s (fun t => t.fd (Mod.fwStatus h) 1 0 = 1
        ∧ (t.half h).boot.storing = some (false, leNat ((bs.drop 6).take 2)) ∧ (t.half h).boot.active = none
        ∧ (t.half h).boot.previous = (s.half h).boot.active ∧ SameMem s t))
    ∧ (fwCheck bs (s.fd (Mod.fwLen h) 27 0) 2 (s.fd h.base 15 8) = 0 →
      Gives (.fwDeckStore h) s (fun t => t.fd (Mod.fwStatus h) 1 0 = 1
        ∧ (t.half h).boot.storing = some (true, leNat ((bs.drop 6).take 2)) ∧ t.deck.fwActive = none
        ∧ t.deck.fwPrevious = s.deck.fwActive ∧ SameMem s t))) ∧
  (∀ h s, s.runs h = true → s.fd (Mod.fwStatus h) 1 0 ≠ 1 →
    Gives (.fwRollback h) s (fun t => (t.half h).boot.active = (s.half h).boot.previous
      ∧ (t.half h).boot.previous = (s.half h).boot.active ∧ SameMem s t ∧ SameRegs s t (fun _ => False))) ∧
  (∀ h rel s, s.runs h = true → (s.half h).boot.storing = some (false, rel) →
    Gives (.fwStoreDone h true) s (fun t => t.fd (Mod.fwStatus h) 1 0 = 2 ∧ (t.half h).boot.storing = none
      ∧ (t.half h).boot.active = some ⟨rel, true⟩ ∧ Reported t h 0x1605 1 h.num ∧ SameMem s t)) ∧
  (∀ up s, s.deck.inReset = false → Gives (.deckCtrlRestart up) s (fun t => t.deck.ctrlDown = !up ∧ SameMem s t
      ∧ SameRegs s t (fun _ => False))) ∧
  (∀ h k w s, k < 9 → s.runs h = true →
    Gives (.tempSample h k w) s (fun t => t.fd (Mod.temp h k) 15 0 = bits w 15 0 ∧ SameMem s t
      ∧ signedOf 16 (t.fd (Mod.temp h k) 31 16)
        = max (signedOf 16 (s.fd (Mod.temp h k) 31 16)) (signedOf 16 (bits w 15 0)))) ∧
  (∀ h b s, s.runs h = true → (s.half h).boot.hot = false → (s.half h).boot.hotFrom = some b →
    b + 2500000000 ≤ (s.half h).time.ticks →
    Gives (.tempHigh h) s (fun t => (t.half h).boot.hot = true ∧ Reported t h 0x1701 1 h.num ∧ SameMem s t
      ∧ SameRegs s t (fun _ => False))) ∧
  (∀ h b s, s.runs h = true → (s.half h).boot.hot = true → (s.half h).boot.coolFrom = some b →
    b + 2500000000 ≤ (s.half h).time.ticks →
    Gives (.tempNormal h) s (fun t => (t.half h).boot.hot = false ∧ Reported t h 0x1702 1 h.num ∧ SameMem s t
      ∧ SameRegs s t (fun _ => False)))

/-- A feed that returns is OK, shown and recorded in each half that runs, and RIDE returns to NORMAL; one that is lost is OUT,
and with both OUT RIDE begins with source 33. The end of RIDE opens both bays and holds both halves in reset; the end of
HALVES_OFF resets the deck. HALF_SUPPLY_RANGE sets or clears the SUPPLY self-fault; HALF_SUPPLY_RESET resets with cause 6. A
latch, a bay switched off by its latch, by a fault or by BAY_CYCLE, and a bay switched on have their effect. A card's switch
closes; CARD_PWR_FAULT opens it and is recorded; CARD_RETRY closes it again and answers DONE. -/
def Obligations.PowerEntryCommandsComplete : Prop :=
  (∀ f s, f < 2 → portFlag s.deck.pwr.feed f = false →
    Gives (.feedOk f) s (fun t => portFlag t.deck.pwr.feed f = true
      ∧ portFlag t.deck.pwr.feed (1 - f) = portFlag s.deck.pwr.feed (1 - f)
      ∧ t.deck.pwr.phase = (if s.deck.pwr.phase = 1 then 0 else s.deck.pwr.phase) ∧ SameMem s t ∧ SameShadows s t
      ∧ ∀ h, s.runs h = true → t.bt (Pwr.pwrStatus h) f = true ∧ Reported t h 0x0F02 0x14 f)) ∧
  (∀ f volts store s, f < 2 → portFlag s.deck.pwr.feed f = true →
    Gives (.feedLost f volts store) s (fun t => portFlag t.deck.pwr.feed f = false ∧ SameMem s t ∧ SameShadows s t
      ∧ (∀ h, s.runs h = true → t.bt (Pwr.pwrStatus h) f = false ∧ Reported t h 0x0F01 0x14 f)
      ∧ (s.deck.pwr.phase = 0 → portFlag s.deck.pwr.feed (1 - f) = false → t.deck.pwr.phase = 1
          ∧ ∀ h, s.runs h = true → Pends t h 33 ∧ t.bt (Pwr.pwrStatus h) 3 = true ∧ Reported t h 0x0F03 0x14 f))) ∧
  (∀ s, s.deck.pwr.phase = 1 →
    s.deck.pwr.rideT + clampNat 1 15 (s.fd (Pwr.pwrCfg ((s.owner 127).getD .a)) 19 16) * 250000 ≤ s.deck.ticks →
    Gives .rideEnd s (fun t => t.deck.pwr.phase = 2
      ∧ ∀ h : Half, portFlag t.deck.pwr.bayOff h.num = true ∧ t.runs h = false ∧ (t.half h).ctl.resetCause = 3)) ∧
  (∀ full s, s.deck.pwr.phase = 2 → (full = true → s.deck.pwr.offT + 5000000 ≤ s.deck.ticks) → Gives (.halvesOffEnd full) s (fun t => t.deck.pwr.phase = 3
      ∧ t.deck.pwr.retained = full ∧ t.deck.inReset = true ∧ ∀ h, t.runs h = false)) ∧
  (∀ h ok s, s.runs h = true → Gives (.halfSupplyRange h ok) s (fun t => t.bt (HalfR.selfFault h) 3 = !ok ∧ SameMem s t)) ∧
  (∀ h s, s.runs h = true → Gives (.halfSupplyReset h) s (fun t => t.runs h = false ∧ (t.half h).ctl.resetCause = 6
      ∧ t.half h.other = s.half h.other ∧ t.deck = s.deck)) ∧
  (∀ h moved s, Gives (.bayLatchClose h moved) s (fun t => portFlag t.deck.pwr.latchOpen h.num = false
      ∧ (t.half h).fitted = true
      ∧ (moved ≠ 0 → portFlag t.deck.pwr.bayOff h.num = true ∧ portFlag t.deck.pwr.bayFault h.num = false
          ∧ t.runs h = false))) ∧
  (∀ h s, portFlag s.deck.pwr.latchOpen h.num = true → portFlag s.deck.pwr.bayOff h.num = false →
    s.latchFor h 125000000 = true →
    Gives (.bayOff h) s (fun t => portFlag t.deck.pwr.bayOff h.num = true ∧ t.runs h = false
      ∧ (s.runs h.other = true → Reported t h.other 0x0F06 0x1D h.num))) ∧
  (∀ h s, portFlag s.deck.pwr.bayOff h.num = false →
    Gives (.bayFault h) s (fun t => portFlag t.deck.pwr.bayOff h.num = true
      ∧ portFlag t.deck.pwr.bayFault h.num = true ∧ t.runs h = false
      ∧ (s.runs h.other = true → t.bt (Pwr.pwrStatus h.other) 8 = true ∧ Reported t h.other 0x0F06 0x1D h.num))) ∧
  (∀ h s, portFlag s.deck.pwr.latchOpen h.num = false → portFlag s.deck.pwr.bayOff h.num = true →
    portFlag s.deck.pwr.bayFault h.num = false → portFlag s.deck.pwr.bayCycle h.num = false → s.deck.pwr.phase < 2 →
    s.latchFor h 50000000 = true →
    Gives (.bayOn h) s (fun t => portFlag t.deck.pwr.bayOff h.num = false ∧ (t.half h).ctl.inReset = true
      ∧ (t.half h).ctl.resetCause = 1 ∧ SameMem s t ∧ SameRegs s t (fun _ => False))) ∧
  (∀ h s, s.runs h = true → s.hstate h = 4 → s.partner h ≠ 4 → s.partner h ≠ 2 →
    Gives (.bayCycle h) s (fun t => portFlag t.deck.pwr.bayOff h.other.num = true
      ∧ portFlag t.deck.pwr.bayCycle h.other.num = true ∧ portFlag t.deck.pwr.bayFault h.other.num = false
      ∧ t.runs h.other = false ∧ t.fd (Pwr.pwrCmdStatus h) 1 0 = 0 ∧ Reported t h 0x0F06 0x1D h.other.num)) ∧
  (∀ h s, portFlag s.deck.pwr.bayCycle h.num = true → portFlag s.deck.pwr.latchOpen h.num = false →
    Map.get (fun _ => 0) s.deck.pwr.cycleT h.num + 250000000 ≤ s.deck.ticks →
    Gives (.bayCycleOn h) s (fun t => portFlag t.deck.pwr.bayOff h.num = false
      ∧ portFlag t.deck.pwr.bayCycle h.num = false ∧ (t.half h).ctl.inReset = true ∧ (t.half h).ctl.resetCause = 2
      ∧ SameMem s t ∧ SameRegs s t (fun _ => False))) ∧
  (∀ kind n s, s.deck.inReset = false → cardNo kind n < 40 → s.deck.pwr.cardFault.contains (cardNo kind n) = false →
    s.deck.pwr.slotOn.contains (cardNo kind n) = false →
    Gives (.cardSlotSwitchClose kind n) s (fun t => t.deck.pwr.slotOn = s.deck.pwr.slotOn ++ [cardNo kind n]
      ∧ SameMem s t ∧ SameRegs s t (fun _ => False))) ∧
  (∀ kind n draw s, s.deck.inReset = false → cardNo kind n < 40 → s.cardPresent kind n = false →
    Gives (.cardPwrFault kind n draw) s (fun t => t.deck.pwr.cardFault.contains (cardNo kind n) = true
      ∧ t.deck.pwr.slotOn.contains (cardNo kind n) = false ∧ SameMem s t
      ∧ ∀ h, s.runs h = true → Reported t h 0x0F05 (if kind = 0 then 5 else if kind = 1 then 7 else 9) n)) ∧
  (∀ h card s, s.runs h = true → card < 40 → s.deck.pwr.cardFault.contains card = true →
    Gives (.cardRetry h card) s (fun t => t.deck.pwr.cardFault.contains card = false
      ∧ t.deck.pwr.slotOn.contains card = true ∧ t.fd (Pwr.pwrCmdStatus h) 1 0 = 0 ∧ SameMem s t))

/-- In the half that owns group 127 GEN_RESET and CLEAR_COUNTS answer DONE and wait for the boundary; what the partner
forwarded arrives. A boundary runs the sequencer, each instant once; with PM_EN 0 it stands still. With the sequencer running a start that
times out fails with cause 1, an island's holds act, a dead island enters BLACKOUT, a live one RECOVERY, and a restart entry
is issued; the end of a pulse ends the request; requests are written again; a half that is not LEAD clears its shed bits. -/
def Obligations.PowerSequencerCommandsComplete : Prop :=
  (∀ h g s, s.runs h = true → s.owns h 127 = true →
    Gives (.genReset h g) s (fun t => (t.half h).pwr.cmds = (s.half h).pwr.cmds ++ [g]
      ∧ t.fd (Pwr.pwrCmdStatus h) 1 0 = 0 ∧ SameMem s t ∧ SameRegs s t (fun a => a = Pwr.pwrCmdStatus h))) ∧
  (∀ h s, s.runs h = true → s.owns h 127 = true →
    Gives (.pwrClearCounts h) s (fun t => (t.half h).pwr.cmds = (s.half h).pwr.cmds ++ [8]
      ∧ t.fd (Pwr.pwrCmdStatus h) 1 0 = 0 ∧ SameMem s t ∧ SameRegs s t (fun a => a = Pwr.pwrCmdStatus h))) ∧
  (∀ h c rest s, s.runs h = true → s.mirrorUp = true → (s.half h.other).pwr.tx = .inl c :: rest →
    Gives (.pwrForwardArrive h) s (fun t => (t.half h).pwr.cmds = (s.half h).pwr.cmds ++ [c]
      ∧ (t.half h.other).pwr.tx = rest ∧ SameMem s t ∧ SameRegs s t (fun _ => False))) ∧
  (∀ h ws rest s, s.runs h = true → s.mirrorUp = true → (s.half h.other).pwr.tx = .inr ws :: rest →
    Gives (.pwrForwardArrive h) s (fun t => (t.half h).pwr.next = ws
      ∧ (t.half h.other).pwr.tx = rest ∧ SameMem s t ∧ SameRegs s t (fun _ => False))) ∧
  (∀ h s, s.runs h = true → (s.half h).pwr.bound.all (fun t => decide (t < s.pwrInstant h)) = true →
    exec (.pwrBoundary h) s = .next ((s.modPwr h (fun x => { x with bound := some (s.pwrInstant h) })).pwrBoundary h)) ∧
  (∀ h s, s.runs h = true → (s.half h).pwr.bound = none → (s.half h).pwr.next = [] → s.hstate h ≠ 2 → s.bt (Pwr.pwrCfg h) 0 = false →
    Gives (.pwrBoundary h) s (fun t => (t.half h).pwr.steps = [] ∧ (t.half h).pwr.reqs = []
      ∧ (t.half h).pwr.shedBits = [] ∧ t.bt (Pwr.pwrStatus h) 5 = false ∧ SameMem s t)) ∧
  (∀ h g s, g < 8 → s.runs h = true → s.bt (Pwr.pwrCfg h) 0 = true → s.genState h g = 2 →
    clampNat 1 255 (s.fd (Pwr.genCtrl h g) 15 8) * 1000000000 ≤ s.now h - (s.gen h g).since →
    (s.half h).pwr.reqs = [] →
    Gives (.genTimeout h g) s (fun t => t.genState h g = 6 ∧ t.fd (Pwr.genStatus h g) 14 12 = 1 ∧ Pends t h 37
      ∧ SameMem s t ∧ SameRegs s t (fun a => a = Pwr.genStatus h g ∨ EventReg h a))) ∧
  (∀ h b s, s.runs h = true → s.bt (Pwr.pwrCfg h) 0 = true → (s.islands h).contains b = true → (s.isl h b).phase ≠ 2 →
    exec (.islandHoldExpire h b) s = .next ((s.islActs h b false).shedWrite h)) ∧
  (∀ h b s, s.runs h = true → s.bt (Pwr.pwrCfg h) 0 = true → (s.islands h).contains b = true → (s.isl h b).phase ≠ 2 →
    s.islDead h b = true → heldFor (s.isl h b).dead (s.now h) (s.blkNs h b) = true →
    exec (.blackout h b) s = .next (((s.blackout h b).islShow h b).shedWrite h)
      ∧ Gives (.blackout h b) s (fun t => (t.isl h b).phase = 2 ∧ (t.isl h b).blackT = s.now h)) ∧
  (∀ h b s, s.runs h = true → s.bt (Pwr.pwrCfg h) 0 = true → (s.islands h).contains b = true → (s.isl h b).phase = 2 →
    (s.islF h b).1 = true → heldFor (s.isl h b).alive (s.now h) 500000000 = true →
    Gives (.busLive h b) s (fun t => (t.isl h b).phase = 3 ∧ (t.isl h b).liveT = s.now h
      ∧ (t.isl h b).issued = [])) ∧
  (∀ h r s, s.runs h = true → s.bt (Pwr.pwrCfg h) 0 = true →
    (s.isl h (s.islandOf h (s.fd (Pwr.restartCtrl h r) 17 16))).phase = 3 →
    (s.isl h (s.islandOf h (s.fd (Pwr.restartCtrl h r) 17 16))).issued.contains r = false →
    (s.islRestarts h (s.islandOf h (s.fd (Pwr.restartCtrl h r) 17 16))).contains r = true →
    (s.isl h (s.islandOf h (s.fd (Pwr.restartCtrl h r) 17 16))).liveT + s.fd (Pwr.restartCtrl h r) 15 0 * 100000000
      ≤ s.now h →
    Gives (.restartIssued h r) s (fun t =>
      (t.isl h (s.islandOf h (s.fd (Pwr.restartCtrl h r) 17 16))).issued.contains r = true)) ∧
  (∀ h kind num s, s.runs h = true →
    Gives (.requestPulseEnd h kind num) s (fun t => ∀ r ∈ (t.half h).pwr.reqs, r ∈ (s.half h).pwr.reqs
      ∧ ¬(r.kind = kind ∧ r.num = num ∧ ∃ e, r.ends = some e ∧ e ≤ s.now h))) ∧
  (∀ h s, s.runs h = true → exec (.requestRewrite h false) s
      = .next ((List.range 8).foldl (fun (t : State) (n : Nat) => t.reqCard h n) s)
    ∧ ((s.half h).pwr.reqs = [] → exec (.requestRewrite h true) s = exec (.requestRewrite h false) s)) ∧
  (∀ h s, s.runs h = true → s.hstate h ≠ 4 → (s.half h).pwr.leftT + 25000 ≤ (s.half h).time.ticks →
    Gives (.shedBitsClear h) s (fun t => (t.half h).pwr.shedBits = [] ∧ SameMem s t
      ∧ ∀ d, d < 256 → d ∈ (s.half h).pwr.shedBits → t.mapBit (Mod.lidDemand h 0) d = false)) ∧
  (∀ h t s, s.runs h = true → (s.half h).pwr.bound = some t → s.pwrInstant h ≤ t → exec (.pwrBoundary h) s = .next s)

/-- With the deck out of reset and the node enabled: a port that goes down while the other is up is wrapped, shown and
recorded; one that comes up is joined; a lane's margin is shown. A good frame of another node goes on at the other port with
one hop more; this node's own is removed; one with its address and another NONCE makes it DUP. CYCLE_START names the master;
RING keeps the sender's flags and the master plans an unwrap; UNWRAP_READY and UNWRAP follow. The bypass, the base contacts
and the span are noted. A trunk cycle shows its number; the cyclic slot publishes PUB_LEN bytes; the election makes this node
master and sends CYCLE_START. -/
def Obligations.TrunkRingCommandsComplete : Prop :=
  (∀ p cause lanes s, p < 2 → s.deck.inReset = false → s.deck.trunk.en = true → portFlag s.deck.trunk.down p = false →
    portFlag s.deck.trunk.up (1 - p) = true → (cause = 2 → 2 ≤ Map.get (fun _ => 0) s.deck.trunk.crcRun p) →
    Gives (.portDown p cause lanes) s (fun t => portFlag t.deck.trunk.up p = false
      ∧ portFlag t.deck.trunk.down p = true ∧ portFlag t.deck.trunk.wrapped p = true ∧ SameMem s t
      ∧ (∀ h, s.deckHears h = true → t.bt (Trk.portStatus h p) 4 = false
          ∧ t.fd (Trk.portStatus h p) 3 0 = lanes % 16 ∧ t.bt (Trk.portStatus h p) 5 = decide (cause = 1))
      ∧ ∀ h, s.runs h = true → Reported t h 0x0E01 0x13 p)) ∧
  (∀ p s, p < 2 → s.deck.inReset = false → s.deck.trunk.en = true → portFlag s.deck.trunk.up p = false →
    portFlag s.deck.trunk.up (1 - p) = true → portFlag s.deck.trunk.opened p = true →
    Map.get (fun _ => 0) s.deck.trunk.downT p + 250000000 ≤ s.deck.ticks →
    Gives (.portUp p) s (fun t => portFlag t.deck.trunk.up p = true ∧ portFlag t.deck.trunk.down p = false
      ∧ t.deck.trunk.wrapped = s.deck.trunk.wrapped ∧ t.deck.trunk.joined = true ∧ SameMem s t
      ∧ ∀ h, s.deckHears h = true → t.bt (Trk.portStatus h p) 4 = true ∧ t.fd (Trk.portStatus h p) 3 0 = 15)) ∧
  (∀ p l eq s, p < 2 → l < 4 → Gives (.laneMargin p l eq) s (fun t => SameMem s t
      ∧ ∀ h, s.deckHears h = true → t.rg (Trk.laneEq h p l) = eq
          ∧ (bits eq 23 16 < 16 → Map.get (fun _ => 0) (s.half h).trk.eyeLow (4 * p + l) ≠ 0 →
              Map.get (fun _ => 0) (s.half h).trk.eyeLow (4 * p + l) + 250000000 ≤ (s.half h).time.ticks + 1 →
              t.bt (Trk.portStatus h p) 8 = true))) ∧
  (∀ p f res s, s.deck.inReset = false → s.deck.trunk.en = true → portFlag s.deck.trunk.opened p = true →
    f.crcOk = true → frameKinds.contains f.kind = true → f.kind ≠ 1 → f.src ≠ s.node → f.flags / 2 % 2 = 0 → f.hops < 128 →
    portFlag s.deck.trunk.wrapped (1 - p) = false →
    Gives (.trunkFrameReceive p f res) s (fun t => SameMem s t
      ∧ t.deck.trunk.out = s.deck.trunk.out ++ [(1 - p, TrkFrame.sealed { f with hops := f.hops + 1 })])) ∧
  (∀ p f res s, s.deck.inReset = false → s.deck.trunk.en = true → portFlag s.deck.trunk.opened p = true →
    f.crcOk = true → frameKinds.contains f.kind = true → f.src = s.node → f.flags / 2 % 2 = 0 →
    Gives (.trunkFrameReceive p f res) s (fun t => SameMem s t
      ∧ (f.nonce = s.nonce → t.deck = s.deck)
      ∧ (f.nonce ≠ s.nonce → s.deck.trunk.dup = false → t.deck.trunk.dup = true ∧ t.deck.trunk.ring = 7
          ∧ ∀ h, s.runs h = true → Reported t h 0x0E05 0x11 s.node))) ∧
  (∀ p f s, s.deck.inReset = false → s.deck.trunk.en = true → f.crcOk = true → f.kind = 1 → f.src ≠ s.node →
    Gives (.cycleStartReceive p f) s (fun t => t.deck.trunk.masterNode = f.src ∧ t.deck.trunk.sawCs = true ∧ SameMem s t)) ∧
  (∀ f east west s, s.deck.inReset = false → s.deck.trunk.en = true → f.crcOk = true → f.kind = 3 →
    Gives (.ringReceive f east west) s (fun t => SameMem s t ∧ SameRegs s t (fun _ => False)
      ∧ Map.get (fun _ => 0) t.deck.trunk.flags f.src = (f.payload.getD 0 0).toNat % 8
      ∧ ∀ h, s.owner 124 = some h → s.deck.trunk.master = true → s.deck.trunk.plan = none → east ≠ f.src →
          (f.payload.getD 0 0).toNat % 2 = 1 → Map.get (fun _ => 0) s.deck.trunk.flags east / 2 % 2 = 1 →
          t.deck.trunk.plan = some (f.src, east, (s.rn (Trk.cycleNum h) + 4) % 65536))) ∧
  (∀ p s, s.deck.inReset = false → portFlag s.deck.trunk.up p = true → portFlag s.deck.trunk.wrapped p = true →
    Map.get (fun _ => 0) s.deck.trunk.upT p + s.deck.trunk.hold * 250000000 ≤ s.deck.ticks →
    Gives (.unwrapReady p) s (fun t => portFlag t.deck.trunk.ready p = true ∧ SameMem s t
      ∧ SameRegs s t (fun _ => False))) ∧
  (∀ p a b c s, s.deck.inReset = false → s.deck.trunk.plan = some (a, b, c) → a = s.node ∨ b = s.node →
    portFlag s.deck.trunk.up p = true → portFlag s.deck.trunk.wrapped p = true →
    s.nodeNow / 50000 % 65536 = c → 48000 ≤ s.nodeNow % 50000 →
    Gives (.unwrap p) s (fun t => portFlag t.deck.trunk.wrapped p = false ∧ t.deck.trunk.plan = none ∧ SameMem s t
      ∧ ∀ h, s.runs h = true → Reported t h 0x0E02 0x13 p)) ∧
  (∀ p s, portFlag s.deck.trunk.opened p ≠ s.deck.trunk.en →
    Gives (.bypassSwitched p) s (fun t => portFlag t.deck.trunk.opened p = s.deck.trunk.en ∧ SameMem s t
      ∧ ∀ h, s.runs h = true → Reported t h 0x0E0A 0x13 p)) ∧
  (∀ p closed s, p < 2 → Gives (.baseBypassSense p closed) s (fun t => SameMem s t
      ∧ portFlag t.deck.trunk.baseBad p = (closed && portFlag s.deck.trunk.opened p)
      ∧ ∀ h, s.deckHears h = true → t.bt (Trk.portStatus h p) 7 = !closed)) ∧
  (∀ p ns s, s.deck.inReset = false → Gives (.spanProbe p ns) s (fun t => Map.get (fun _ => 0) t.deck.trunk.span p = ns
      ∧ SameMem s t ∧ SameRegs s t (fun _ => False))) ∧
  (∀ h s, s.runs h = true → s.waiting h 7 = false → s.rg (Trk.cycleNum h) ≠ BitVec.ofNat 32 (s.now h / 50000) →
    Gives (.trunkCycle h) s (fun t => t.rg (Trk.cycleNum h) = BitVec.ofNat 32 (s.now h / 50000)
      ∧ (t.half h).trk.seen = [])) ∧
  (∀ h s, s.runs h = true → s.owns h 124 = true → s.deckHears h = true → s.deck.trunk.inserts = true →
    (s.half h).trk.slotSent = false → min 4000 (s.fd (Trk.slotCfg h) 12 0) * 10 ≤ s.now h % 50000 →
    Gives (.cyclicSlot h) s (fun t => SameMem s t ∧ SameRegs s t (fun _ => False)
      ∧ ∃ e, t.deck.trunk.out = s.deck.trunk.out ++ [e] ∧ e.2.kind = 2 ∧ e.2.src = s.node
        ∧ e.2.payload.drop 1 = (List.range (s.pubWords h)).map (fun i =>
            BitVec.ofNat 32 (s.memNat (h.base + s.fd (Trk.pubBase h) 29 0 * 64 + 4 * i) 4)))) ∧
  (∀ h s, s.runs h = true → s.owns h 124 = true → s.deckHears h = true → s.deck.trunk.inserts = true →
    s.deck.trunk.masterEn = true → s.deck.trunk.master = false → s.deck.trunk.sawCs = false → 2 ≤ s.deck.trunk.noCs →
    500 * s.node ≤ s.now h % 50000 →
    Gives (.masterElection h) s (fun t => t.deck.trunk.master = true ∧ t.deck.trunk.masterNode = s.node ∧ SameMem s t
      ∧ ∃ e ∈ t.deck.trunk.out, e.2.kind = 1 ∧ e.2.src = s.node))

/-- A CYCLIC frame of this cycle makes its station UP in each half that hears the deck; STN_TIMEOUT takes it DOWN with cause 1
and a record. PGO and RGO to a live station of an unfenced group, in the half that owns the trunk, open one transaction with
the next free tag and answer it; a misaligned address is BAD_DESC. A good ACK ends its transaction; one with a cause 1 to 5
is reported and fences the group; an ACK of nothing counts. RDATA and the timeouts end theirs. A POST to this node is
answered REFUSED_ADDR. FENCE_CLR opens the group; CLEAR_COUNTS clears. -/
def Obligations.TrunkStationCommandsComplete : Prop :=
  (∀ f s, s.deck.inReset = false → s.deck.trunk.en = true → f.crcOk = true → f.kind = 2 → f.src ≠ s.node → f.src < 64 →
    bit (f.payload.headD 0) 0 = false →
    Gives (.cyclicReceive f) s (fun t => ∀ h, s.deckHears h = true → f.cycle = s.rn (Trk.cycleNum h) % 65536 →
      t.fd (Trk.stnStatus h f.src) 2 0 = 1 ∧ t.fd (Trk.stnStatus h f.src) 15 8 = 0
        ∧ (t.half h).trk.seen.contains f.src = true)) ∧
  (∀ h st s, st < 64 → s.runs h = true → s.stnLive h st = true → s.stnTimeout h ≤ s.fd (Trk.stnStatus h st) 15 8 →
    Gives (.stationTimeout h st) s (fun t => t.fd (Trk.stnStatus h st) 2 0 = 3 ∧ t.fd (Trk.stnStatus h st) 6 4 = 1
      ∧ Reported t h 0x0E03 0x11 st)) ∧
  (∀ h c val tag s, s.runs h = true → bit val 0 = true → s.rn (Trk.paddr h c) % 4 = 0 → s.nextTag h = some tag →
    s.fenced h (s.fd (Trk.pdesc h c) 5 0 * 8 + s.fd (Trk.pdesc h c) 10 8) = false →
    s.stnLive h (s.fd (Trk.pdesc h c) 5 0) = true → s.owns h 124 = true →
    Gives (.pgo h c val) s (fun t => t.rn (Trk.pstatus h c) = tag ∧ SameMem s t
      ∧ ∃ o, (t.half h).trk.ops = (s.half h).trk.ops ++ [o] ∧ o.tag = tag ∧ o.read = false ∧ o.core = c
        ∧ o.station = s.fd (Trk.pdesc h c) 5 0 ∧ o.group = s.fd (Trk.pdesc h c) 10 8
        ∧ o.addr = s.rn (Trk.paddr h c) ∧ o.count = s.fd (Trk.pdesc h c) 23 16 + 1)) ∧
  (∀ h c val s, s.runs h = true → bit val 0 = true → s.rn (Trk.paddr h c) % 4 ≠ 0 →
    Gives (.pgo h c val) s (fun t => t.rn (Trk.pstatus h c) = 5 * 4096 ∧ SameMem s t
      ∧ SameRegs s t (fun a => a = Trk.pstatus h c) ∧ t.half h = s.half h)) ∧
  (∀ h c val tag s, s.runs h = true → bit val 0 = true → s.rn (Trk.raddr h c) % 4 = 0 → s.nextTag h = some tag →
    s.fd (Trk.rdesc h c) 23 16 < 64 →
    s.fenced h (s.fd (Trk.rdesc h c) 5 0 * 8 + s.fd (Trk.rdesc h c) 10 8) = false →
    s.stnLive h (s.fd (Trk.rdesc h c) 5 0) = true → s.owns h 124 = true →
    Gives (.rgo h c val) s (fun t => t.rn (Trk.rstatus h c) = tag ∧ SameMem s t
      ∧ ∃ o, (t.half h).trk.ops = (s.half h).trk.ops ++ [o] ∧ o.tag = tag ∧ o.read = true ∧ o.core = c
        ∧ o.addr = s.rn (Trk.raddr h c) ∧ o.count = s.fd (Trk.rdesc h c) 23 16 + 1)) ∧
  (∀ f o s, s.deck.inReset = false → s.deck.trunk.en = true → f.crcOk = true → f.kind = 0x11 → f.dst = s.node →
    s.deckHears (TrkHalf f) = true → s.opOf (TrkHalf f) false f = some o →
    s.opLate (TrkHalf f) o = false →
    Gives (.ackReceive f) s (fun t =>
      (t.half (TrkHalf f)).trk.ops = (s.half (TrkHalf f)).trk.ops.filter (fun x => decide (x.tag ≠ o.tag))
      ∧ ((f.payload.getD 0 0).toNat % 256 = 0 → SameMem s t ∧ SameRegs s t (EventReg (TrkHalf f)))
      ∧ (1 ≤ (f.payload.getD 0 0).toNat % 256 → (f.payload.getD 0 0).toNat % 256 ≤ 5 →
          t.mapBit (Trk.fenceMap (TrkHalf f) 0) o.grp = true ∧ Reported t (TrkHalf f) 0x0E07 0x12 o.grp))) ∧
  (∀ f s, s.deck.inReset = false → s.deck.trunk.en = true → f.crcOk = true → f.kind = 0x11 → f.dst = s.node →
    s.deckHears (TrkHalf f) = true → s.opOf (TrkHalf f) false f = none →
    Gives (.ackReceive f) s (fun t => t.rn (Trk.lateAckCnt (TrkHalf f)) = min (s.rn (Trk.lateAckCnt (TrkHalf f)) + 1) (2 ^ 32 - 1)
      ∧ SameMem s t ∧ SameRegs s t (fun a => a = Trk.lateAckCnt (TrkHalf f)))) ∧
  (∀ f o s, s.deck.inReset = false → s.deck.trunk.en = true → f.crcOk = true → f.kind = 0x13 → f.dst = s.node →
    s.deckHears (TrkHalf f) = true → s.opOf (TrkHalf f) true f = some o → o.core < 8 →
    Gives (.rdataReceive f) s (fun t => Pends t (TrkHalf f) (208 + o.core)
      ∧ (t.half (TrkHalf f)).trk.ops = (s.half (TrkHalf f)).trk.ops.filter (fun x => decide (x.tag ≠ o.tag)))) ∧
  (∀ f h s, s.deck.inReset = false → s.deck.trunk.en = true → f.crcOk = true → f.kind = 0x10 ∨ f.kind = 0x12 →
    f.dst = s.node → s.owner 124 = some h → s.deckHears h = true → s.deck.trunk.inserts = true →
    (s.half h).trk.queue = [] → (s.half h).trk.spent < s.fd (Trk.acycCfg h) 17 0 →
    Gives (.postReceive f) s (fun t => SameMem s t ∧ SameRegs s t (fun _ => False)
      ∧ ∃ e, t.deck.trunk.out = s.deck.trunk.out ++ [e] ∧ e.2.kind = f.kind + 1 ∧ e.2.dst = f.src ∧ e.2.tag = f.tag
        ∧ e.2.seq = f.seq ∧ e.2.payload = [1])) ∧
  (∀ h tag o s, s.runs h = true → (s.half h).trk.ops.find? (fun o => !o.read && decide (o.tag = tag)) = some o →
    o.made + 500000 ≤ (s.half h).time.ticks →
    Gives (.postTimeout h tag) s (fun t => t.mapBit (Trk.fenceMap h 0) o.grp = true ∧ Reported t h 0x0E07 0x12 o.grp
      ∧ (t.half h).trk.ops = (s.half h).trk.ops.filter (fun x => decide (x.tag ≠ tag)))) ∧
  (∀ h tag o s, s.runs h = true → (s.half h).trk.ops.find? (fun o => o.read && decide (o.tag = tag)) = some o →
    o.core < 8 → o.made + 500000 ≤ (s.half h).time.ticks →
    Gives (.readTimeout h tag) s (fun t => Pends t h (208 + o.core)
      ∧ (t.half h).trk.ops = (s.half h).trk.ops.filter (fun x => decide (x.tag ≠ tag)))) ∧
  (∀ h val s, s.runs h = true → s.fenced h (bits val 8 0) = true →
    Gives (.fenceClr h val) s (fun t => t.fenced h (bits val 8 0) = false ∧ Reported t h 0x0E08 0x12 (bits val 8 0)
      ∧ (t.half h).trk.known = (s.half h).trk.known.filter (· != bits val 8 0) ∧ SameMem s t)) ∧
  (∀ h s, s.runs h = true → Gives (.trkClearCounts h) s (fun t => SameMem s t
      ∧ (∀ a ∈ [Trk.crcErrCnt h, Trk.kindErrCnt h, Trk.wrapCnt h, Trk.postSentCnt h, Trk.postFailCnt h,
          Trk.lateAckCnt h, Trk.postfailLost h], t.rg a = 0)
      ∧ (∀ p, p < 2 → t.fd (Trk.portStatus h p) 31 16 = 0)
      ∧ ∀ st, st < 64 → t.fd (Trk.stnStatus h st) 31 16 = 0))

/-- In the half that owns the card, a command word that the route lets through and an OUT_VALUE write with OUT_SRC REGISTER
give an ACTIVE output channel the limited value, divided by the user calibration. Without a command for MISS_US the channel
shows CMD_MISSING and is recorded. The end of settling is ACTIVE. CAL_CMD OFFLINE, POINT_LO, POINT_HI, APPLY, ONLINE and
RESET_USER in their states take the step that R259 and R260 give them, an input's point with its average once the conversions
it needs are counted, the card's store with the new gain and offset or code 4; RESET_USER makes an ACTIVE output drive its
command anew; 600 s without a command end the calibration with code 3. A channel that leaves OFFLINE is ACTIVE, or in FAULT
while its island is faulty. -/
def Obligations.AnalogOutputAndCalibrationCommandsComplete : Prop :=
  (∀ h w rest s, s.deck.inReset = false → MayCmd s h (w.idx / 16) → (s.half h).ancTx = w :: rest → w.idx < 256 →
    s.bt (Anc.chCfg w.idx) 19 = false →
    (if 4096 ≤ w.loop then !bit (s.deckRoute (4 * w.idx)) 31 else s.takes (4 * w.idx) w.loop w.j) = true →
    ancOutput (s.ancMode w.idx) = true → s.chState w.idx = 3 → w.coast = false → f32.finite w.word.toNat = true →
    Gives (.analogOutCmd h) s (fun t => (t.half h).ancTx = rest ∧ t.bt (Anc.chStatus w.idx) 11 = false
      ∧ (t.chan w.idx).cmd = some (b32into (b32into w.word.toNat (s.rn (Anc.outLo w.idx)) (s.rn (Anc.outHi w.idx)))
          (outRange (s.ancMode w.idx)).1 (outRange (s.ancMode w.idx)).2))) ∧
  (∀ h c val s, c < 256 → MayCmd s h (c / 16) → s.bt (Anc.chCfg c) 19 = true →
    ancOutput (s.ancMode c) = true → s.chState c = 3 → f32.finite val.toNat = true → ∃ v,
    let u := b32into val.toNat (s.rn (Anc.outLo c)) (s.rn (Anc.outHi c))
    v = b32into u (outRange (s.ancMode c)).1 (outRange (s.ancMode c)).2 ∧
    Gives (.outValueWrite h c val) s (fun t => t.rg (Anc.outValue c) = val ∧ (t.chan c).cmd = some v
      ∧ t.bt (Anc.chStatus c) 11 = false ∧ t.bt (Anc.chStatus c) 13 = (!f32.eq u val.toNat || !f32.eq v u)
      ∧ (t.chan c).target = f32.div (f32.sub v (s.rn (Anc.userOffset c))) (s.rn (Anc.userGain c))
      ∧ (s.ancMode c ≠ 8 → (t.chan c).applied = (t.chan c).target))) ∧
  (∀ h c val s, c < 256 → MayCmd s h (c / 16) → s.bt (Anc.chCfg c) 19 = false →
    Gives (.outValueWrite h c val) s (fun t => t.rg (Anc.outValue c) = val ∧ SameMem s t
      ∧ SameRegs s t (fun a => a = Anc.outValue c) ∧ t.deck = s.deck)) ∧
  (∀ c s, c < 256 → s.deck.inReset = false → ancOutput (s.ancMode c) = true → s.chState c = 3 →
    (s.chan c).cmdT + s.missNs c ≤ s.fieldNow (c / 16) → s.bt (Anc.chStatus c) 11 = false →
    Gives (.analogCmdMissing c) s (fun t => t.bt (Anc.chStatus c) 11 = true
      ∧ (s.fd (Anc.chCfg c) 21 20 ≠ 2 → t.bt (Anc.chStatus c) 12 = true)
      ∧ ∀ h, s.runs h = true → Reported t h 0x0816 6 c)) ∧
  (∀ c s, c < 256 → s.deck.inReset = false → s.chState c = 2 →
    (s.chan c).setT + s.settleFor c ≤ s.deck.ticks →
    Gives (.settlingEnd c) s (fun t => t.chState c = 3)) ∧
  (∀ h c s, c < 256 → MayCmd s h (c / 16) → s.chState c = 3 → (s.chan c).calReq = false →
    Gives (.calOffline h c) s (fun t => (t.chan c).calReq = true ∧ t.fd (Anc.calStatus c) 5 3 = 0 ∧ SameMem s t
      ∧ SameRegs s t (fun a => a = Anc.calStatus c))) ∧
  (∀ h c s, c < 256 → MayCmd s h (c / 16) → s.chState c = 4 → s.calStep c = 1 → (s.chan c).calRun = 0 →
    Gives (.calPointLo h c) s (fun t => SameMem s t ∧ SameRegs s t (fun a => a = Anc.calStatus c)
      ∧ if ancOutput (s.ancMode c) then (t.chan c).calLo = some (s.rn (Anc.calRef c), s.rn (Anc.calMeas c)) ∧ t.calStep c = 2
        else (t.chan c).calRun = 1 ∧ (t.chan c).calN = 0 ∧ t.calStep c = 1)) ∧
  (∀ h c s, c < 256 → MayCmd s h (c / 16) → s.chState c = 4 → s.calStep c = 2 → (s.chan c).calRun = 0 →
    Gives (.calPointHi h c) s (fun t => SameMem s t ∧ SameRegs s t (fun a => a = Anc.calStatus c)
      ∧ if ancOutput (s.ancMode c) then (t.chan c).calHi = some (s.rn (Anc.calRef c), s.rn (Anc.calMeas c)) ∧ t.calStep c = 3
        else (t.chan c).calRun = 2 ∧ (t.chan c).calN = 0 ∧ t.calStep c = 2)) ∧
  (∀ c hi s, c < 256 → s.deck.inReset = false → s.chState c = 4 → (s.chan c).calRun = (if hi then 2 else 1) →
    s.calNeed c ≤ (s.chan c).calN →
    Gives (.calPointTaken c hi) s (fun t => SameMem s t ∧ SameRegs s t (fun a => a = Anc.calStatus c)
      ∧ (t.chan c).calRun = 0
      ∧ if hi then (t.chan c).calHi = some (s.rn (Anc.calRef c), s.calAvg c) ∧ t.calStep c = 3
        else (t.chan c).calLo = some (s.rn (Anc.calRef c), s.calAvg c) ∧ t.calStep c = 2)) ∧
  (∀ h c rl ml rh mh gain off s, c < 256 → MayCmd s h (c / 16) → s.chState c = 4 → s.calStep c = 3 →
    (s.chan c).calLo = some (rl, ml) → (s.chan c).calHi = some (rh, mh) → f32.eq mh ml = false →
    gain = f32.div (f32.sub rh rl) (f32.sub mh ml) → off = f32.sub rl (f32.mul gain ml) →
    f32.le 0x3F7AE148 gain = true → f32.le gain 0x3F828F5C = true →
    f32.le (b32abs off) (f32.mul 0x3C23D70A (s.calSpan c)) = true →
    Gives (.calApply h c) s (fun t => t.calStep c = 4 ∧ (t.chan c).calNew = (gain, off) ∧ SameMem s t
      ∧ SameRegs s t (fun a => a = Anc.calStatus c))) ∧
  (∀ c ok s, c < 256 → s.deck.inReset = false → s.calStep c = 4 →
    Gives (.calStoreDone c ok) s (fun t => SameMem s t
      ∧ if ok then t.rg (Anc.userGain c) = BitVec.ofNat 32 (s.chan c).calNew.1
          ∧ t.rg (Anc.userOffset c) = BitVec.ofNat 32 (s.chan c).calNew.2 ∧ t.calStep c = 1
          ∧ (∀ h, s.runs h = true → Reported t h 0x0821 6 c)
        else t.calStep c = 3 ∧ t.fd (Anc.calStatus c) 5 3 = 4)) ∧
  (∀ h c s, c < 256 → MayCmd s h (c / 16) → s.chState c = 4 → s.calStep c ≠ 4 →
    Gives (.calOnline h c) s (fun t => t.chState c = (if (s.chan c).islFault then 5 else 3) ∧ t.calStep c = 0 ∧ (t.chan c).calRun = 0)) ∧
  (∀ h c s, c < 256 → MayCmd s h (c / 16) → s.chState c = 3 ∨ s.chState c = 4 → s.calStep c ≠ 4 →
    Gives (.calResetUser h c) s (fun t => t.rg (Anc.userGain c) = 0x3F800000 ∧ t.rg (Anc.userOffset c) = 0 ∧ SameMem s t
      ∧ SameRegs s t (fun a => a = Anc.userGain c ∨ a = Anc.userOffset c ∨ a = Anc.calStatus c
        ∨ (s.chState c = 3 ∧ a = Anc.chStatus c))
      ∧ ∀ v, s.chState c = 3 → ancOutput (s.ancMode c) = true → s.bt (Anc.chStatus c) 11 = false →
          (s.chan c).cmd = some v → (t.chan c).target = f32.div (f32.sub v 0) 0x3F800000)) ∧
  (∀ c s, c < 256 → s.deck.inReset = false → s.chState c = 4 → s.calStep c ≠ 0 →
    (s.chan c).calT + 600000000000 ≤ s.fieldNow (c / 16) →
    Gives (.calTimeout c) s (fun t => t.chState c = (if (s.chan c).islFault then 5 else 3) ∧ t.calStep c = 0 ∧ t.fd (Anc.calStatus c) 5 3 = 3
      ∧ ∀ h, s.runs h = true → Reported t h 0x0822 6 c))

/-- A precision window that is due and a fast conversion on the grid of an ACTIVE channel write VALUE, the reading with the user calibration, and
VALUE_T; a readback writes READBACK and VALUE. OPEN_LOOP and COMPLIANCE begin, with a record, and end. A passive island's update
follows its target, or first lowers its clock step. A lost frame gives the alarm level and SAFE; a lost loop OPEN_LOOP,
UNPOWERED and FAULT (OFFLINE first ends), until loop power settles the channel, the island at 3.5 mA and then at the alarm
level it keeps. The protections, the shunt's retest and the open-wire test set
their conditions. -/
def Obligations.AnalogConversionAndProtectionCommandsComplete : Prop :=
  (∀ c raw isl lead cjc ovr hold t0 s, c < 256 → s.deck.inReset = false → s.chState c = 3 → s.ancConverts c false = true →
    (s.chan c).calReq = false → (s.chan c).islFault = false → s.precDue c t0 = true →
    Gives (.precisionConversion c raw isl lead cjc ovr hold true t0) s (fun t =>
      t.rg (Anc.value c) = BitVec.ofNat 32
        (f32.add (f32.mul (s.rn (Anc.userGain c)) (s.ancReading c raw cjc)) (s.rn (Anc.userOffset c)))
      ∧ t.rg (Anc.valueT c) = BitVec.ofNat 32 t0
      ∧ (s.ancMode c = 6 → t.rg (Anc.cjcTemp c) = cjc))) ∧
  (∀ c raw isl t0 s, c < 256 → s.deck.inReset = false → s.chState c = 3 → s.ancConverts c true = true →
    (s.chan c).calReq = false → (s.chan c).islFault = false → t0 % 5000 = 4 * s.fd (Anc.grid c) 10 0 % 5000 →
    Gives (.fastConversion c raw isl true t0) s (fun t =>
      t.rg (Anc.value c) = BitVec.ofNat 32
        (f32.add (f32.mul (s.rn (Anc.userGain c)) raw.toNat) (s.rn (Anc.userOffset c)))
      ∧ t.rg (Anc.valueT c) = BitVec.ofNat 32 t0)) ∧
  (∀ c raw isl volt t0 s, c < 256 → s.deck.inReset = false → s.chState c = 3 → ancOutput (s.ancMode c) = true →
    (s.chan c).calReq = false → (s.chan c).islFault = false →
    Gives (.outputReadback c raw isl volt true t0) s (fun t => t.rg (Anc.readback c) = raw ∧ t.rg (Anc.value c) = raw
      ∧ t.rg (Anc.valueT c) = BitVec.ofNat 32 t0)) ∧
  (∀ c s, c < 256 → s.deck.inReset = false → s.ancMode c = 7 ∨ s.ancMode c = 8 → s.chState c ≠ 0 →
    (s.ancOpen c = true → s.bt (Anc.chStatus c) 9 = false →
      Gives (.openLoop c true) s (fun t => t.bt (Anc.chStatus c) 9 = true
        ∧ ∀ h, s.runs h = true → Reported t h 0x0814 6 c))
    ∧ (s.ancOpen c = false → s.bt (Anc.chStatus c) 18 = false →
      Gives (.openLoop c false) s (fun t => t.bt (Anc.chStatus c) 9 = false))) ∧
  (∀ c s, c < 256 → s.deck.inReset = false → s.ancMode c = 7 ∨ s.ancMode c = 8 → s.chState c ≠ 0 →
    (f32.lt (s.rn (Anc.headroom c)) 0x3FC00000 = true → s.bt (Anc.chStatus c) 10 = false →
      Gives (.compliance c true) s (fun t => t.bt (Anc.chStatus c) 10 = true
        ∧ ∀ h, s.runs h = true → Reported t h 0x0815 6 c))
    ∧ (f32.lt (s.rn (Anc.headroom c)) 0x3FC00000 = false →
      Gives (.compliance c false) s (fun t => t.bt (Anc.chStatus c) 10 = false))) ∧
  (∀ c step s, c < 256 → s.deck.inReset = false → s.ancMode c = 8 → s.chState c ≠ 0 → s.bt (Anc.chStatus c) 18 = false →
    step = (if (s.chan c).falling = false ∧ s.fd (Anc.chStatus c) 17 16 < stepOf (s.chan c).applied then
      stepOf (s.chan c).applied else s.fd (Anc.chStatus c) 17 16) →
    Gives (.passiveIslandUpdate c) s (fun t => SameMem s t ∧ (t.chan c).target = (s.chan c).target
      ∧ if 0 < step ∧ f32.lt (s.chan c).target (f32.sub (stepFloor step) 0x3E800000) = true then
          t.fd (Anc.chStatus c) 17 16 = stepOf (s.chan c).target ∧ (t.chan c).applied = (s.chan c).applied
          ∧ (t.chan c).falling = true
        else t.fd (Anc.chStatus c) 17 16 = step ∧ (t.chan c).applied = (s.chan c).target
          ∧ (t.chan c).falling = false)) ∧
  (∀ c s, c < 256 → s.deck.inReset = false → s.ancMode c = 8 → s.chState c ≠ 0 →
    Gives (.islandFrameLoss c) s (fun t => (t.chan c).frameLost = true ∧ t.bt (Anc.chStatus c) 12 = true ∧ SameMem s t
      ∧ (t.chan c).target = (if (s.chan c).islDir then 0x41AC0000 else 0x40600000))) ∧
  (∀ c s, c < 256 → s.deck.inReset = false → s.ancMode c = 8 → s.chState c ≠ 0 → s.bt (Anc.chStatus c) 18 = false →
    Gives (.loopUnpowered c) s (fun t => t.bt (Anc.chStatus c) 18 = true ∧ t.bt (Anc.chStatus c) 9 = true
      ∧ t.chState c = (if s.chState c = 4 then 4 else 5) ∧ (t.chan c).islFault = true)) ∧
  (∀ c s, c < 256 → s.deck.inReset = false → s.ancMode c = 8 → s.chState c ≠ 0 → s.bt (Anc.chStatus c) 18 = true →
    Gives (.islandLoopPowerUp c) s (fun t => t.bt (Anc.chStatus c) 18 = false ∧ t.fd (Anc.chStatus c) 17 16 = 0
      ∧ (t.chan c).applied = 0x40600000 ∧ (t.chan c).target = (if (s.chan c).islDir then 0x41AC0000 else 0x40600000)
      ∧ t.bt (Anc.chStatus c) 12 = true ∧ (t.chan c).islFault = false ∧ (s.ancCalBad c = false → t.chState c = 2))) ∧
  (∀ c on s, c < 256 → s.deck.inReset = false → s.chState c ≠ 0 →
    (s.ancMode c = 2 ∨ s.ancMode c = 3 → Gives (.overload c 0 true) s (fun t => (t.chan c).shunt = true))
    ∧ (s.ancMode c = 2 → Gives (.overload c 1 on) s (fun t => (t.chan c).exLimit = on))
    ∧ (s.ancMode c = 9 → Gives (.overload c 2 on) s (fun t => (t.chan c).exLimit = on))) ∧
  (∀ c current s, c < 256 → s.deck.inReset = false → (s.chan c).shunt = true → f32.le current.toNat 0x41C80000 = true →
    (s.chan c).shuntT + 250000000 ≤ s.deck.ticks →
    Gives (.shuntRetest c current) s (fun t => (t.chan c).shunt = false)) ∧
  (∀ c ohm s, c < 256 → s.deck.inReset = false → s.ancMode c = 6 → s.chState c ≠ 0 → s.tcDue c = true →
    Gives (.tcOpenWireTest c ohm) s (fun t => (t.chan c).openTc = f32.lt 0x461C4000 ohm.toNat))

/-- A window whose high sample completes the debounce run of a resolved or unresolved PULSED input makes both its paths high
and shows it. An edge of a CONTINUOUS input sets its paths, and where EDGE selects it, the stamp and the count. UNRESOLVED is
shown and recorded after 100 ms. The edge after 2^32 - 1 wraps the count and raises 624. A gate with edges writes the frequency, and one
long without any writes 0. The commands clear. A test-pulse slot holds its supply's inputs until that slot's hold ends, which
counts its proving frames in a row; a supply in limit is shown and recorded with its card. -/
def Obligations.DigitalInputCommandsComplete : Prop :=
  (∀ n k p0 p1 t0 s, n < 16 → k < 32 → s.deck.inReset = false → s.dinReady n = true →
    s.bt (Din.diCfg (32 * n + k)) 0 = false → s.bt (Din.diStatus (32 * n + k)) 10 = false →
    p0.getD k 0 = 2 → p1.getD k 0 = 2 →
    (∀ p : DiPath, p = (s.din (32 * n + k)).p0 ∨ p = (s.din (32 * n + k)).p1 →
      s.debounce (32 * n + k) ≤ (if p.up = true ∧ 0 < p.run then p.run + 1 else 1)) →
    Gives (.diWindow n p0 p1 t0) s (fun t => (t.din (32 * n + k)).p0.state = true ∧ (t.din (32 * n + k)).p1.state = true
      ∧ t.bt (Din.diStatus (32 * n + k)) 0 = true ∧ t.bt (Din.diStatus (32 * n + k)) 6 = false)) ∧
  (∀ i level other t0 s, i < 512 → s.deck.inReset = false → s.dinReady (i / 32) = true → s.bt (Din.diCfg i) 0 = true →
    s.bt (Din.diStatus i) 10 = false →
    Gives (.diEdge i level other t0) s (fun t => (t.din i).p0.state = level ∧ (t.din i).p1.state = other
      ∧ t.bt (Din.diStatus i) 0 = level ∧ SameMem s t
      ∧ ((s.din i).p0.state ≠ level → s.diSelects i level = true →
          t.rn (Din.diEdgeTLo i) = (t0 - 400 - s.fd (Din.diFreqCfg i) 7 0 * 40) / 4 * 4 % 2 ^ 32
          ∧ t.rg (Din.diCount i) = s.rg (Din.diCount i) + 1))) ∧
  (∀ i f s, i < 512 → s.deck.inReset = false → s.dinReady (i / 32) = true → (s.din i).first = some f →
    (s.din i).resolved = false → f + 100000000 ≤ s.fieldNow (16 + i / 32) → s.bt (Din.diStatus i) 5 = false →
    Gives (.unresolvedLong i) s (fun t => t.bt (Din.diStatus i) 5 = true ∧ SameMem s t
      ∧ ∀ h, s.runs h = true → Reported t h 0x0911 8 i)) ∧
  (∀ i s, i < 512 → s.deck.inReset = false → s.rn (Din.diCount i) = 2 ^ 32 - 1 →
    Gives (.diCountWrap i) s (fun t => t.rg (Din.diCount i) = 0 ∧ t.bt (Din.diStatus i) 9 = true
      ∧ t.mapBit (Din.diWrapMap 0) i = true ∧ SameMem s t ∧ ∀ h, s.runs h = true → Pends t h 624)) ∧
  (∀ i r s, i < 512 → s.deck.inReset = false → s.dinReady (i / 32) = true → s.bt (Din.diCfg i) 0 = true →
    (s.din i).tRef = some r → (s.din i).gateK ≠ some (s.gateOf i) →
    (0 < (s.din i).edges → Gives (.freqGateEnd i) s (fun t =>
      t.rg (Din.diFreq i) = BitVec.ofNat 32 (b32Ratio ((s.din i).edges * 1000000000) ((s.din i).tLast - r))
      ∧ t.bt (Din.diStatus i) 8 = false ∧ (t.din i).tRef = some (s.din i).tLast ∧ (t.din i).edges = 0 ∧ SameMem s t
      ∧ SameRegs s t (fun a => a = Din.diFreq i ∨ a = Din.diStatus i)))
    ∧ ((s.din i).edges = 0 → r + 2000000000 < s.fieldNow (16 + i / 32) → Gives (.freqGateEnd i) s (fun t =>
      t.rg (Din.diFreq i) = 0 ∧ t.bt (Din.diStatus i) 8 = true ∧ SameMem s t
      ∧ SameRegs s t (fun a => a = Din.diFreq i ∨ a = Din.diStatus i)))) ∧
  (∀ h i s, MayCmd s h (16 + i / 32) → Gives (.diClearCount h i) s (fun t => (t.din i).clearReq = true ∧ SameMem s t
      ∧ SameRegs s t (fun _ => False))) ∧
  (∀ h i s, MayCmd s h (16 + i / 32) → Gives (.diClearCounts h i) s (fun t => t.rg (Din.diCounts i) = 0 ∧ SameMem s t
      ∧ SameRegs s t (fun a => a = Din.diCounts i) ∧ t.deck = s.deck)) ∧
  (∀ g s, g < 128 → s.deck.inReset = false → Gives (.testPulseSlotStart g) s (fun t => SameMem s t
      ∧ ∀ i ∈ s.fedBy g, t.bt (Din.diStatus i) 10 = true ∧ (t.din i).preHigh = (s.din i).lastHigh
          ∧ (t.din i).slotOk = true ∧ (t.din i).heldBy = some g)) ∧
  (∀ g i s, g < 128 → i / 32 = g / 8 → s.deck.inReset = false → s.bt (Din.diStatus i) 10 = true →
    (s.din i).heldBy = some g → (s.din i).holdT + 62500 ≤ s.deck.ticks →
    Gives (.testPulseHoldEnd g) s (fun t => t.bt (Din.diStatus i) 10 = false ∧ SameMem s t
      ∧ (t.din i).heldBy = none ∧ (t.din i).clean = (if (s.din i).slotOk && (s.din i).preHigh then
          (if (s.din i).cleanFrame + 1 = (s.din i).frame then (s.din i).clean + 1 else 1) else 0)
      ∧ (t.din i).cross = ((s.din i).cross && decide ((t.din i).clean < 2)))) ∧
  (∀ g s, g < 128 → s.deck.inReset = false →
    (s.bt (Din.diCardStatus (g / 8)) (8 + g % 8) = false → Gives (.tpSupplyFault g true) s (fun t =>
      t.bt (Din.diCardStatus (g / 8)) (8 + g % 8) = true ∧ SameMem s t
      ∧ ∀ h, s.runs h = true → Reported t h 0x0915 7 (g / 8)))
    ∧ Gives (.tpSupplyFault g false) s (fun t => t.bt (Din.diCardStatus (g / 8)) (8 + g % 8) = false ∧ SameMem s t
        ∧ SameRegs s t (fun a => a = Din.diCardStatus (g / 8))))

/-- In the half that owns the group a write of OUT_LO or OUT_HI sets the masked bits and feeds the watchdog; WD_KICK feeds, and
WD_RESTART re-arms a tripped one. A watchdog unfed for WD_MS x 0.98 of its card's time that runs out trips, keeps the outputs' states for HOLD, counts, raises 616 + card
and is recorded. A shut-down output is hot, shown and recorded, and latched without AUTO_RETRY; it restarts by itself or by
DO_CMD.RETRY once cool. A section's supply, open load and short to supply are shown, the faults recorded; OUT_READBACK shows an
off output's terminal; LIMITING shows the limit from its start, 1 ms of it is a condition. -/
def Obligations.DigitalOutputCommandsComplete : Prop :=
  (∀ h n hi val m a s, n < 8 → s.deck.inReset = false → MayCmd s h (32 + n) → m = val.toNat / 65536 % 65536 →
    a = (if hi then Dout.outHi n else Dout.outLo n) →
    Gives (.doOutWrite h n hi val) s (fun t =>
      t.rn a = (s.rn a &&& (65535 - m)) + (val.toNat % 65536 &&& m)
      ∧ (s.bt (Dout.grpStatus n) 3 = true → Map.get (fun _ => 0) t.deck.wdFed n = s.deck.ticks
          ∧ (s.fd (Dout.grpStatus n) 1 0 = 0 → t.fd (Dout.grpStatus n) 1 0 = 1)))) ∧
  (∀ h n s, n < 8 → MayCmd s h (32 + n) → s.bt (Dout.grpStatus n) 3 = true →
    Gives (.wdKick h n) s (fun t => Map.get (fun _ => 0) t.deck.wdFed n = s.deck.ticks
      ∧ (s.fd (Dout.grpStatus n) 1 0 = 0 → t.fd (Dout.grpStatus n) 1 0 = 1))) ∧
  (∀ h n s, n < 8 → MayCmd s h (32 + n) → s.bt (Dout.grpStatus n) 3 = true → s.fd (Dout.grpStatus n) 1 0 = 2 →
    Gives (.wdRestart h n) s (fun t => t.fd (Dout.grpStatus n) 1 0 = 1
      ∧ Map.get (fun _ => 0) t.deck.wdFed n = s.deck.ticks ∧ ∀ g, s.runs g = true → Reported t g 0x0929 9 n)) ∧
  (∀ n s, n < 8 → s.deck.inReset = false → s.bt (Dout.grpStatus n) 3 = true → s.fd (Dout.grpStatus n) 1 0 = 1 →
    Map.get (fun _ => 0) s.deck.wdFed n + s.wdMs n * 245000 ≤ s.deck.ticks →
    Gives (.wdExpired n) s (fun t => t.fd (Dout.grpStatus n) 1 0 = 2
      ∧ t.fd (Dout.grpStatus n) 31 16 = (s.fd (Dout.grpStatus n) 31 16 + 1) % 65536
      ∧ (∀ k, k < 32 → (t.dout (32 * n + k)).hold = (s.rn (Dout.outApplied n)).testBit k)
      ∧ ∀ h, s.runs h = true → Pends t h (616 + n) ∧ Reported t h 0x0928 9 n)) ∧
  (∀ o s, o < 256 → s.deck.inReset = false → s.bt (Dout.grpStatus (o / 32)) 3 = true → (s.dout o).hot = false →
    Gives (.thermalOff o) s (fun t => (t.dout o).hot = true ∧ t.bt (Dout.doStatus o) 4 = true
      ∧ t.bt (Dout.doStatus o) 0 = false ∧ (s.bt (Dout.doCfg o) 2 = false → t.bt (Dout.doStatus o) 5 = true)
      ∧ ∀ h, s.runs h = true → Reported t h 0x0923 0xA o)) ∧
  (∀ o s, o < 256 → s.deck.inReset = false → s.bt (Dout.doCfg o) 2 = true → (s.dout o).hot = true →
    s.bt (Dout.doStatus o) 5 = false → (s.dout o).offs.headD 0 + 500000000 ≤ s.fieldNow (32 + o / 32) →
    Gives (.thermalAutoRetry o) s (fun t => (t.dout o).hot = false)) ∧
  (∀ h o s, o < 256 → MayCmd s h (32 + o / 32) → s.bt (Dout.doStatus o) 5 = true →
    Gives (.doRetry h o true) s (fun t => (t.dout o).hot = false ∧ t.bt (Dout.doStatus o) 5 = false
      ∧ t.fd (Dout.doStatus o) 11 10 = 0)
    ∧ Gives (.doRetry h o false) s (fun t => t.fd (Dout.doStatus o) 11 10 = 1 ∧ t.dout o = s.dout o ∧ SameMem s t
        ∧ SameRegs s t (fun a => a = Dout.doStatus o))) ∧
  (∀ h o s, o < 256 → MayCmd s h (32 + o / 32) →
    Gives (.doClearCounts h o) s (fun t => t.rg (Dout.doCounts o) = 0 ∧ t.fd (Dout.doStatus o) 11 10 = 0 ∧ SameMem s t
      ∧ SameRegs s t (fun a => a = Dout.doCounts o ∨ a = Dout.doStatus o))) ∧
  (∀ n sec on volt s, n < 8 → sec < 8 → s.deck.inReset = false →
    Gives (.supplyLow n sec on volt) s (fun t => t.bt (Dout.grpStatus n) (8 + sec) = on
      ∧ (on = true → s.bt (Dout.grpStatus n) (8 + sec) = false → ∀ h, s.runs h = true → Reported t h 0x0927 9 n))) ∧
  (∀ o s, o < 256 → s.deck.inReset = false →
    (s.bt (Dout.doCfg o) 3 = true → s.bt (Dout.doStatus o) 0 = true → s.bt (Dout.doStatus o) 7 = false →
      Gives (.openLoad o true) s (fun t => t.bt (Dout.doStatus o) 7 = true
        ∧ ∀ h, s.runs h = true → Reported t h 0x0925 0xA o))
    ∧ Gives (.openLoad o false) s (fun t => t.bt (Dout.doStatus o) 7 = false)) ∧
  (∀ o volt s, o < 256 → s.deck.inReset = false →
    (s.bt (Dout.doCfg o) 3 = true → s.bt (Dout.doStatus o) 0 = false → s.secLow o = false →
      s.bt (Dout.doStatus o) 8 = false → Gives (.shortToSupply o 2 volt) s (fun t => t.bt (Dout.doStatus o) 8 = true
        ∧ ∀ h, s.runs h = true → Reported t h 0x0926 0xA o))
    ∧ Gives (.shortToSupply o 0 volt) s (fun t => t.bt (Dout.doStatus o) 8 = false)
    ∧ ∀ k, k < 4 → Gives (.shortToSupply o k volt) s (fun t =>
        t.bt (Dout.outReadback (o / 32)) (o % 32) = (t.bt (Dout.doStatus o) 0 || decide (k = 1) || decide (k = 2)))) ∧
  (∀ o k s, o < 256 → k < 3 → s.deck.inReset = false → k = 0 ∨ s.bt (Dout.doStatus o) 0 = true →
    Gives (.limitLong o k) s (fun t => t.bt (Dout.doStatus o) 6 = decide (k ≠ 0)
      ∧ (t.dout o).limit = (decide (k = 2) || (decide (k = 1) && (s.dout o).limit))))

/-- A removed card is shown as absent with its record, an analogue card's channels are ABSENT, and its supply fault clears. An
inserted card shows its cause of refusal, or presence, issue and a further insertion, and a refusal is recorded. A card that
becomes ready is shown and recorded, an analogue card's channels leave ABSENT, an output card's watchdog is NOT_FED. -/
def Obligations.FieldCardCommandsComplete : Prop :=
  (∀ n s, n < 16 → s.deck.inReset = false → s.bt (Anc.cardStatus n) 0 = true →
    Gives (.cardRemoved 0 n) s (fun t => t.fd (Anc.cardStatus n) 5 0 = 0 ∧ (∀ k, k < 16 → t.chState (16 * n + k) = 0)
      ∧ t.deck.pwr.cardFault.contains n = false ∧ ∀ h, s.runs h = true → Reported t h 0x0801 5 n)) ∧
  (∀ n s, n < 16 → s.deck.inReset = false → s.bt (Din.diCardStatus n) 0 = true →
    Gives (.cardRemoved 1 n) s (fun t => t.fd (Din.diCardStatus n) 4 0 = 0
      ∧ t.deck.pwr.cardFault.contains (16 + n) = false ∧ ∀ h, s.runs h = true → Reported t h 0x0901 7 n)) ∧
  (∀ n s, n < 8 → s.deck.inReset = false → s.bt (Dout.grpStatus n) 2 = true →
    Gives (.cardRemoved 2 n) s (fun t => t.fd (Dout.grpStatus n) 6 2 = 0 ∧ t.fd (Dout.grpStatus n) 1 0 = 0
      ∧ t.deck.pwr.cardFault.contains (32 + n) = false ∧ ∀ h, s.runs h = true → Reported t h 0x0921 9 n)) ∧
  (∀ n refused issue bad cal s, n < 16 → refused < 8 → issue < 256 → s.deck.inReset = false →
    s.bt (Anc.cardStatus n) 0 = false →
    Gives (.cardInserted 0 n refused issue bad cal) s (fun t => t.bt (Anc.cardStatus n) 0 = true
      ∧ t.bt (Anc.cardStatus n) 1 = false ∧ t.fd (Anc.cardStatus n) 4 2 = refused ∧ t.fd (Anc.cardStatus n) 15 8 = issue
      ∧ t.fd (Anc.cardStatus n) 31 16 = (s.fd (Anc.cardStatus n) 31 16 + 1) % 65536 ∧ SameMem s t
      ∧ (refused ≠ 0 → ∀ h, s.runs h = true → Reported t h 0x0803 5 n))) ∧
  (∀ n refused issue bad cal s, n < 16 → refused < 8 → issue < 256 → s.deck.inReset = false →
    s.bt (Din.diCardStatus n) 0 = false →
    Gives (.cardInserted 1 n refused issue bad cal) s (fun t => t.bt (Din.diCardStatus n) 0 = true
      ∧ t.bt (Din.diCardStatus n) 1 = false ∧ t.fd (Din.diCardStatus n) 4 2 = refused
      ∧ t.fd (Din.diCardStatus n) 23 16 = issue ∧ SameMem s t
      ∧ (refused ≠ 0 → ∀ h, s.runs h = true → Reported t h 0x0903 7 n))) ∧
  (∀ n refused issue bad cal s, n < 8 → refused < 8 → s.deck.inReset = false → s.bt (Dout.grpStatus n) 2 = false →
    Gives (.cardInserted 2 n refused issue bad cal) s (fun t => t.bt (Dout.grpStatus n) 2 = true
      ∧ t.fd (Dout.grpStatus n) 6 4 = refused ∧ SameMem s t ∧ SameRegs s t (fun a => a = Dout.grpStatus n))) ∧
  (∀ n s, n < 16 → s.deck.inReset = false → s.fd (Anc.cardStatus n) 4 0 = 1 →
    Gives (.cardReady 0 n) s (fun t => t.bt (Anc.cardStatus n) 1 = true
      ∧ (∀ k, k < 16 → t.chState (16 * n + k) = (if s.ancMode (16 * n + k) = 0 then 1
          else if s.ancCalBad (16 * n + k) || (s.chan (16 * n + k)).islFault then 5 else 2))
      ∧ ∀ h, s.runs h = true → Reported t h 0x0802 5 n)) ∧
  (∀ n s, n < 16 → s.deck.inReset = false → s.fd (Din.diCardStatus n) 4 0 = 1 →
    Gives (.cardReady 1 n) s (fun t => t.bt (Din.diCardStatus n) 1 = true
      ∧ (∀ k, k < 32 → (t.din (32 * n + k)).resolved = false)
      ∧ ∀ h, s.runs h = true → Reported t h 0x0902 7 n)) ∧
  (∀ n s, n < 8 → s.deck.inReset = false → s.fd (Dout.grpStatus n) 6 2 = 1 →
    Gives (.cardReady 2 n) s (fun t => t.bt (Dout.grpStatus n) 3 = true ∧ t.fd (Dout.grpStatus n) 1 0 = 0
      ∧ ∀ h, s.runs h = true → Reported t h 0x0922 9 n))

/-- With the deck out of reset: a changed input trips every SAFETY term without delay that names it and whose condition holds
on a rail; the end of a delay trips its term. A rail fault is shown and recorded and clears; a difference of the rails'
configuration is CONFIG_FAULT, recorded, and trips every SAFETY term. A target fault is latched and recorded. A half's vector
is shown as sent and taken by Lid; a write of LID_DEMAND is shown as sent; a half that is gone demands nothing. -/
def Obligations.LidTermAndTargetCommandsComplete : Prop :=
  (∀ i k s, s.deck.inReset = false → k ∈ s.usedTerms → s.termKind k = 1 → (s.termRefs k).contains i = true →
    s.termDelay k = 0 → (s.termCond false k || s.termCond true k) = true →
    Gives (.lidInputChange i) s (fun t => t.lockState k = 1
      ∧ (s.lockState k ≠ 1 → ∀ h, s.runs h = true → Pends t h 128 ∧ Reported t h 0x0A01 0xE k))) ∧
  (∀ k c s, k < 512 → s.deck.inReset = false → s.termKind k = 1 → s.termCond false k = true →
    (s.term k).since0 = some c → c + s.termDelay k ≤ s.deck.ticks →
    Gives (.termDelayExpire k) s (fun t => t.lockState k = 1
      ∧ (s.lockState k ≠ 1 → ∀ h, s.runs h = true → Pends t h 128 ∧ Reported t h 0x0A01 0xE k))) ∧
  (∀ k s, k < 512 → s.deck.inReset = false → s.termCond false k ≠ s.termCond true k → s.bt (Lid.termStatus k) 3 = false →
    Gives (.termRailFault k) s (fun t => t.bt (Lid.termStatus k) 3 = true
      ∧ ∀ h, s.runs h = true → Reported t h 0x0A05 0xE k)) ∧
  (∀ k s, k < 512 → s.deck.inReset = false → s.termCond false k = s.termCond true k → s.bt (Lid.termStatus k) 3 = true →
    (s.term k).railT + 25000000 ≤ s.deck.ticks →
    Gives (.railFaultClear k) s (fun t => t.bt (Lid.termStatus k) 3 = false)) ∧
  (∀ c0 c1 s, s.deck.inReset = false → c0 ≠ c1 → s.bt Lid.lidStatus 3 = false →
    Gives (.configCrcCompare c0 c1) s (fun t => t.bt Lid.lidStatus 3 = true
      ∧ (∀ k ∈ s.usedTerms, s.termKind k = 1 → t.lockState k = 1)
      ∧ ∀ h, s.runs h = true → Reported t h 0x0A06 0xE 0)) ∧
  (∀ k r0 r1 s, k < 352 → s.deck.inReset = false → r0 ≠ s.lidOff k ∨ r1 ≠ s.lidOff k →
    s.mapBit (Lid.targetFaultMap 0) k = false →
    Gives (.targetFault k r0 r1) s (fun t => t.mapBit (Lid.targetFaultMap 0) k = true ∧ SameMem s t
      ∧ ∀ h, s.runs h = true → Reported t h 0x0A07 0xF k)) ∧
  (∀ h s, s.runs h = true → (s.half h).linkUp = true →
    Gives (.halfDemandVector h) s (fun t =>
      (match h with
        | .a => t.deck.lid.demA
        | .b => t.deck.lid.demB) = s.demandVec h
      ∧ ∀ w, w < 8 → t.rg (Mod.lidDemandSent h w) = BitVec.ofNat 32 (s.demandVec h / 2 ^ (32 * w)))) ∧
  (∀ h w val s, w < 8 → s.runs h = true →
    Gives (.lidDemandWrite h w val) s (fun t => t.rg (Mod.lidDemand h w) = val ∧ SameMem s t
      ∧ (∀ k, k < 8 → t.rg (Mod.lidDemandSent h k) = BitVec.ofNat 32 (t.demandVec h / 2 ^ (32 * k)))
      ∧ SameRegs s t (fun a => a = Mod.lidDemand h w ∨ ∃ k, k < 8 ∧ a = Mod.lidDemandSent h k))) ∧
  (∀ h s, s.deck.inReset = false → s.deckHears h = false → (s.half h).lostT + 50000 ≤ s.deck.ticks →
    Gives (.halfDemandRelease h) s (fun t =>
      (match h with
        | .a => t.deck.lid.demA
        | .b => t.deck.lid.demB) = 0))

/-- Step 1 from the panel, from an edge of the external input to 1, and from software of the owner while no password is set, arms
every LOCKED SAFETY term of the groups that its source may act on, with result 0. Step 2 in the window, with no output of an
ARMED term of those groups commanded on where the group asks it, answers 0; a term of it whose condition is gone is CLEAR, and one
without delay whose condition acts is TRIPPED. 10 s after step 1 an armed term is LOCKED again. A waiting commit of group 5
takes effect once Lid may commit: LID_STATUS 0 is set and source 133 raised. PW_SET without a password stores salt and
verifier; the counts clear; the token block ends. -/
def Obligations.LidResetAndConfigurationCommandsComplete : Prop :=
  let may (s : State) (src : Nat) (h : Half) (n : Nat) (up : Bool) : Prop :=
    src = 1 ∨ (src = 2 ∧ MayCmd s h 125 ∧ s.bt Lid.lidStatus 1 = false) ∨ (src = 3 ∧ s.extEdge n up = true)
  let grps (s : State) (src n : Nat) : Nat :=
    if src = 1 then 2 ^ s.fd Lid.panelGroup 3 0 else if src = 3 then s.extGroups n else n
  let at' (s : State) (src n : Nat) : Nat := if src = 3 then (s.din n).since else s.deck.ticks
  (∀ src h groups ts s, may s src h groups true →
    s.deck.inReset = false → ts = s.groupTerms src (grps s src groups) 2 → ts ≠ [] →
    Gives (.lidResetArm src h groups) s (fun t => t.fd Lid.resetStatus 2 0 = 0 ∧ t.fd Lid.resetStatus 5 4 = src
      ∧ (∀ k ∈ ts, t.lockState k = 3 ∧ t.fd (Lid.termStatus k) 9 8 = src ∧ (t.term k).armT = at' s src groups)
      ∧ ∀ h, s.runs h = true → Pends t h 134)) ∧
  (∀ src h groups ts s, may s src h groups false → s.deck.inReset = false →
    let gs := grps s src groups
    let now := at' s src groups
    let good (k : Nat) : Prop := s.termCond false k = false ∧ s.termCond true k = false ∧ s.bt (Lid.termStatus k) 3 = false
    ts = (s.groupTerms src gs 3).filter (fun k => decide (s.fd (Lid.termStatus k) 9 8 = src)
      && decide ((s.term k).armT + 125000000 ≤ now)
      && decide (now ≤ (s.term k).armT + (if src = 3 then 1250000000 else 2500000000))) →
    (∃ k ∈ ts, good k) → s.bt Lid.lidStatus 3 = false →
    (s.groupTerms src gs 3).any (fun k => s.bt (Lid.resetGrp (s.fd (Lid.termCtrl k) 19 16)) 3 && s.cmdOn k) = false →
    Gives (.lidResetConfirm src h groups) s (fun t => t.fd Lid.resetStatus 2 0 = 0 ∧ t.fd Lid.resetStatus 5 4 = src
      ∧ t.fd Lid.resetStatus 31 16 = (s.fd Lid.resetStatus 31 16 + 1) % 65536
      ∧ (∀ k ∈ ts, good k → t.lockState k = 0)
      ∧ (∀ k ∈ ts, s.termDelay k = 0 → (s.termCond false k || s.termCond true k) = true → t.lockState k = 1)
      ∧ ∀ h, s.runs h = true → Pends t h 134)) ∧
  (∀ k s, k < 512 → s.deck.inReset = false → s.lockState k = 3 → (s.term k).armT + 2500000000 ≤ s.deck.ticks →
    Gives (.armWindowExpire k) s (fun t => t.lockState k = 2 ∧ t.fd (Lid.termStatus k) 9 8 = 0
      ∧ ∀ h, s.runs h = true → Reported t h 0x0A02 0xE k)) ∧
  (∀ s, s.deck.inReset = false → s.marked.contains lidUnit = true → s.lidCanCommit = true →
    Gives .lidCommit s (fun t => t.marked.contains lidUnit = false ∧ t.dirty.contains lidUnit = false
      ∧ t.bt Lid.lidStatus 0 = true ∧ t.fd Lid.lidStatus 8 6 = 0
      ∧ ∀ h, s.runs h = true → Pends t h 133)) ∧
  (∀ h s, MayCmd s h 125 → s.bt Lid.lidStatus 1 = false →
    Gives (.pwSet h) s (fun t => t.bt Lid.lidStatus 1 = true ∧ SameMem s t
      ∧ (∀ w, w < 4 → t.rg (Lid.pwSalt w) = s.rg (Lid.pwNew w))
      ∧ (∀ w, w < 8 → t.rg (Lid.pwVerifier w) = s.rg (Lid.pwNew (4 + w)))
      ∧ Reported t h 0x0A0A 1 h.num)) ∧
  (∀ h s, MayCmd s h 125 →
    Gives (.lidClearCounts h) s (fun t => SameMem s t ∧ t.deck = s.deck
      ∧ (∀ k, k < 512 → t.fd (Lid.termStatus k) 31 16 = 0 ∧ t.fd (Lid.termStatus k) 15 0 = s.fd (Lid.termStatus k) 15 0)
      ∧ SameRegs s t (fun a => ∃ k, k < 512 ∧ a = Lid.termStatus k))) ∧
  (∀ s, s.deck.inReset = false → s.deck.lid.blockT + 15000000000 ≤ s.deck.ticks →
    Gives .tokenBlockEnd s (fun t => t.bt Lid.lidStatus 4 = false
      ∧ t.deck.lid.failRun = 0 ∧ SameMem s t ∧ SameRegs s t (fun a => a = Lid.lidStatus)))

/-- An update that is due draws the next page and shows it as running; below -15 degrees COLD is set. The end of an update
shows what it drew and raises source 7. The commands and timers ask for a full update or a page. The final frame is renewed,
and drawn in RIDE; an abrupt loss finishes an update with at most 40 % left and abandons another; the discharge is recorded. A
press of an idle key touches it: ACK raises source 5, PAGE asks for the next page, CONFIRM and the release of ARM make the step
on a LOCKOUT page. A key released after 60 s or held at start is recorded; an idle key's baseline follows. -/
def Obligations.PanelCommandsComplete : Prop :=
  (∀ s, s.deck.inReset = false → s.deck.panel.busy = false → s.deck.ctrlDown = false → s.deck.pwr.phase = 0 →
    s.deck.panel.full = true →
    Gives (.displayUpdateStart false) s (fun t => t.deck.panel.busy = true
      ∧ t.deck.panel.drawing = some (s.compose s.pageNext) ∧ t.bt Pnl.pnlStatus 8 = true ∧ t.bt Pnl.pnlStatus 9 = true
      ∧ t.fd Pnl.pnlStatus 2 0 = s.pageNext.1 ∧ t.fd Pnl.pnlStatus 7 4 = s.pageNext.2 ∧ SameMem s t)) ∧
  (∀ s, s.deck.inReset = false → Gives (.displayUpdateStart true) s (fun t => t.bt Pnl.pnlStatus 12 = true
      ∧ t.deck.panel = s.deck.panel ∧ SameMem s t ∧ SameRegs s t (fun a => a = Pnl.pnlStatus))) ∧
  (∀ s, s.deck.inReset = false → s.deck.panel.busy = true →
    s.deck.panel.startT + (if s.bt Pnl.pnlStatus 9 then 120000000 else 65000000) ≤ s.deck.ticks →
    Gives .displayUpdateEnd s (fun t => t.deck.panel.shown = s.deck.panel.drawing ∧ t.deck.panel.known = true
      ∧ t.fd Pnl.pnlStatus 31 16 = (s.fd Pnl.pnlStatus 31 16 + 1) % 65536 ∧ SameMem s t
      ∧ ∀ h, s.runs h = true → Pends t h 7)) ∧
  (∀ s, s.deck.inReset = false → s.deck.panel.fullT + 150000000000 ≤ s.deck.ticks →
    Gives .fullUpdateDue s (fun t => t.deck.panel.full = true ∧ SameMem s t ∧ SameRegs s t (fun _ => False))) ∧
  (∀ s, s.deck.inReset = false → s.deck.panel.pressT + clampNat 10 255 (s.fd Pnl.pnlCfg 15 8) * 250000000 ≤ s.deck.ticks →
    s.pageNow ≠ (0, 0) → Gives .pageHoldExpire s (fun t => t.deck.panel.next = some (0, 0) ∧ SameMem s t
      ∧ SameRegs s t (fun _ => False))) ∧
  (∀ h s, MayCmd s h 126 →
    Gives (.userShow h) s (fun t => t.bt Pnl.pnlStatus 13 = true ∧ t.deck.panel.next = some (3, 0) ∧ SameMem s t
      ∧ SameRegs s t (fun a => a = Pnl.pnlStatus))
    ∧ Gives (.userHide h) s (fun t => t.bt Pnl.pnlStatus 13 = false ∧ t.deck = s.deck ∧ SameMem s t
      ∧ SameRegs s t (fun a => a = Pnl.pnlStatus))
    ∧ Gives (.fullNow h) s (fun t => t.deck.panel.full = true ∧ SameMem s t ∧ SameRegs s t (fun _ => False))) ∧
  (∀ s, s.deck.inReset = false → s.deck.ctrlDown = false →
    s.deck.panel.prepared = none ∨ s.deck.panel.renewT + 250000000 ≤ s.deck.ticks →
    Gives .finalFrameRenew s (fun t => t.deck.panel.prepared = some s.composeFinal ∧ SameMem s t
      ∧ SameRegs s t (fun _ => False))) ∧
  (∀ left s, s.deck.pwr.phase = 1 → s.deck.panel.finals = false → s.deck.panel.busy = false →
    s.bt Pnl.pnlStatus 12 = false → s.finalShown = false →
    Gives (.finalFrame left) s (fun t => t.deck.panel.busy = true ∧ t.deck.panel.finals = true
      ∧ t.deck.panel.drawing = s.deck.panel.prepared ∧ t.bt Pnl.pnlStatus 8 = true
      ∧ t.bt Pnl.pnlStatus 9 = !s.deck.panel.known ∧ SameMem s t ∧ SameRegs s t (fun a => a = Pnl.pnlStatus))) ∧
  (∀ left s, s.deck.panel.busy = true →
    Gives (.abruptRailLoss left) s (fun t => t.deck.panel.busy = false ∧ t.bt Pnl.pnlStatus 8 = false ∧ SameMem s t
      ∧ if left ≤ 40 then t.deck.panel.shown = s.deck.panel.drawing ∧ t.deck.panel.known = true
        else t.deck.panel.shown = s.deck.panel.shown ∧ t.deck.panel.known = false)) ∧
  (∀ cause s, s.deck.panel.busy = false → (cause = 0 → s.finalShown = true) →
    Gives (.panelDischarged cause) s (fun t => t.deck = s.deck ∧ SameMem s t ∧ SameRegs s t (fun _ => False)
      ∧ ∀ h, s.runs h = true → Reported t h 0x1504 1 h.num)) ∧
  (∀ delta s, s.deck.inReset = false → (∀ j, j < 4 → s.keySt j = 0) → s.keyOn ≤ delta →
    Gives (.keyAckPress delta) s (fun t => t.keySt 0 = 1 ∧ SameMem s t ∧ ∀ h, s.runs h = true → Pends t h 5)
    ∧ Gives (.keyArmPress delta) s (fun t => t.keySt 1 = 1 ∧ SameMem s t
        ∧ SameRegs s t (fun a => a = Pnl.keyStatus 1))
    ∧ Gives (.keyConfirmPress delta) s (fun t => t.keySt 2 = 1
        ∧ (s.fd Pnl.pnlStatus 2 0 = 2 → t.deck.panel.stepT = some s.deck.ticks)
        ∧ (s.fd Pnl.pnlStatus 2 0 ≠ 2 → SameRegs s t (fun a => a = Pnl.keyStatus 2)))
    ∧ Gives (.keyPagePress delta) s (fun t => t.keySt 3 = 1 ∧ t.deck.panel.next = some (s.pageAfter s.pageNext)
        ∧ SameMem s t ∧ SameRegs s t (fun a => a = Pnl.keyStatus 3))) ∧
  (∀ k delta s, k < 4 → s.deck.inReset = false → s.keySt k = 2 ∨ s.keySt k = 3 → delta < s.keyOff →
    Gives (.keyReleased k delta) s (fun t => t.keySt k = 0 ∧ SameMem s t ∧ SameRegs s t (fun a => a = Pnl.keyStatus k)
      ∧ ∀ h, s.runs h = true → Reported t h 0x1503 0x1E k)) ∧
  (∀ delta s, s.deck.inReset = false → s.keySt 1 = 1 → delta < s.keyOff →
    Gives (.keyArmRelease delta) s (fun t => t.keySt 1 = 0
      ∧ (s.fd Pnl.pnlStatus 2 0 = 2 → t.deck.panel.stepT = some s.deck.ticks))) ∧
  (∀ k delta s, k < 4 → s.deck.inReset = false → s.keySt k = 0 → s.keyOn ≤ delta →
    Map.get (fun _ => 0) s.deck.panel.since k = 0 → Map.get (fun _ => 0) s.deck.panel.baseT k = 0 →
    Gives (.keyHeldAtStart k delta) s (fun t => t.keySt k = 2 ∧ SameMem s t ∧ SameRegs s t (fun a => a = Pnl.keyStatus k)
      ∧ ∀ h, s.runs h = true → Reported t h 0x1501 0x1E k)) ∧
  (∀ k delta s, k < 4 → s.deck.inReset = false → s.keySt k = 1 →
    Map.get (fun _ => 0) s.deck.panel.since k + 15000000000 ≤ s.deck.ticks →
    Gives (.keyStuck k delta) s (fun t => t.keySt k = 3 ∧ SameMem s t ∧ SameRegs s t (fun a => a = Pnl.keyStatus k)
      ∧ ∀ h, s.runs h = true → Reported t h 0x1502 0x1E k)) ∧
  (∀ k delta s, k < 4 → s.deck.inReset = false → s.keySt k = 0 →
    Map.get (fun _ => 0) s.deck.panel.baseT k + 25000000 ≤ s.deck.ticks →
    Gives (.baselineUpdate k delta) s (fun t => SameMem s t ∧ SameRegs s t (fun a => a = Pnl.keyStatus k)
      ∧ Map.get (fun _ => 0) t.deck.panel.base k = Map.get (fun _ => 0) s.deck.panel.base k + delta.tdiv 256))

/-- PLC_MOVE to a slot that takes the loop starts the move, BUSY; one that is stopped answers its RESULT with source 14.
PLC_EVACUATE of an engine without copies excludes it and PLC_INCLUDE includes it, both DONE. The pre-copy gives the target the
source's table area and marks the move; a boundary that has the time brings the copy to its target, with loop map and record, and
one that has not is a try; after 16 the move is abandoned. The balancer places what is displaced, and without its enable does no
more. A re-placed copy resumes, with the record of a move where it had a place. -/
def Obligations.PlacementAndMigrationCommandsComplete : Prop :=
  (∀ h loop e q d s, loop < 4096 → e < 512 → s.runs h = true → s.bt (Mod.plcCmdStatus h) 0 = false →
    s.moveTarget h loop e = .ok d → s.slotOf h loop = some q → (s.half h).place.lost = [] →
    Gives (.plcMove h loop e) s (fun t => t.slotState h d = 3 ∧ t.bt (Mod.plcCmdStatus h) 0 = true ∧ SameMem s t
      ∧ (t.half h).place.cmd = some (1, loop)
      ∧ (t.half h).place.moves = (s.half h).place.moves ++ [⟨loop, q, d, 2, false, 0⟩])) ∧
  (∀ h loop e r s, s.runs h = true → s.bt (Mod.plcCmdStatus h) 0 = false → s.moveTarget h loop e = .error r →
    Gives (.plcMove h loop e) s (fun t => t.fd (Mod.plcCmdStatus h) 3 1 = r % 8 ∧ t.bt (Mod.plcCmdStatus h) 0 = false
      ∧ Pends t h 14 ∧ SameMem s t ∧ SameRegs s t (fun a => a = Mod.plcCmdStatus h ∨ EventReg h a))) ∧
  (∀ h e s, e < 512 → s.runs h = true → s.bt (Mod.plcCmdStatus h) 0 = false → s.mapBit (Mod.plcOos h 0) e = false →
    (∀ i, i < 8 → s.slotState h (8 * e + i) ≠ 1 ∧ s.slotState h (8 * e + i) ≠ 2) → (s.half h).place.moves = [] →
    Gives (.plcEvacuate h e) s (fun t => t.mapBit (Mod.plcExcluded h 0) e = true ∧ t.bt (Mod.plcEngLoad h e) 30 = true
      ∧ t.fd (Mod.plcCmdStatus h) 3 1 = 0 ∧ t.bt (Mod.plcCmdStatus h) 0 = false ∧ Pends t h 14 ∧ SameMem s t)) ∧
  (∀ h e s, e < 512 → s.runs h = true → s.bt (Mod.plcCmdStatus h) 0 = false →
    Gives (.plcInclude h e) s (fun t => t.mapBit (Mod.plcExcluded h 0) e = false ∧ t.bt (Mod.plcEngLoad h e) 30 = false
      ∧ t.fd (Mod.plcCmdStatus h) 3 1 = 0 ∧ Pends t h 14 ∧ SameMem s t)) ∧
  (∀ h loop m s, s.runs h = true → s.moveOf h loop = some m → m.copied = false → m.src < 4096 → m.dst < 4096 →
    m.src ≠ m.dst → (m.cause = 1 → s.heldLoop h loop = false) →
    Gives (.precopyDone h loop) s (fun t => { m with copied := true } ∈ (t.half h).place.moves
      ∧ t.slotState h m.dst = 3 ∧ SameMem s t
      ∧ ∀ o, o < 0x4000 → t.rg (tableBase h m.dst + o) = s.rg (tableBase h m.src + o))) ∧
  (∀ h loop m s, s.runs h = true → s.moveOf h loop = some m → m.copied = true → m.tries < 16 →
    (s.half h).snap.reached = false → (m.cause = 0 → s.regionMarked h (2 + loop) = false) →
    if s.moveReady h m = false then exec (.migrationBoundary h loop) s = .next (s.modPlace h (fun p => { p with
      moves := p.moves.map (fun x => if x = m then { m with tries := m.tries + 1 } else x) }))
    else exec (.migrationBoundary h loop) s = .next (s.migrate h m)
    ∧ (loop < 4096 → m.src < 4096 → m.dst < 4096 → m.src ≠ m.dst → s.slotMarked h m.src = false →
        (s.run h m.src).packets = [] → (s.half h).place.lost = [] →
        Gives (.migrationBoundary h loop) s (fun t => t.fd (loopMapAt h loop) 12 0 = slotNum h m.dst
          ∧ t.slotState h m.src = 0 ∧ t.slotState h m.dst = s.slotState h m.src ∧ m ∉ (t.half h).place.moves
          ∧ Reported t h 0x0601 2 loop))) ∧
  (∀ h loop m s, s.runs h = true → s.moveOf h loop = some m → m.copied = true → (s.half h).place.lost = [] →
    m.dst < 4096 → s.slotState h m.dst = 3 → 16 ≤ m.tries →
    Gives (.migrationAbandoned h loop) s (fun t => t.slotState h m.dst = 0 ∧ m ∉ (t.half h).place.moves
      ∧ Reported t h 0x0602 2 loop ∧ SameMem s t)) ∧
  (∀ h u s, s.runs h = true → s.balDue h = true → u = s.balBegin h →
    (u.bt (Mod.plcBalCfg h) 0 = false ∨ (u.half h).snap.reached = true → exec (.balancerRun h) s = .next u)
    ∧ (∀ t, u.bt (Mod.plcBalCfg h) 0 = true → (u.half h).snap.reached = false → u.balRisk h = some t →
        exec (.balancerRun h) s = .next t)
    ∧ (u.bt (Mod.plcBalCfg h) 0 = true → (u.half h).snap.reached = false → u.balRisk h = none →
        let r := u.balEcc h
        exec (.balancerRun h) s = .next (if r.2 then r.1
          else ((r.1.balLevel h false).or (r.1.balLevel h true)).getD r.1))) ∧
  (∀ h loop l q s, loop < 4096 → s.runs h = true → (s.half h).place.lost = [l] → l.loop = loop → l.dst = some q →
    (l.engine = true → l.detect + 40000 ≤ s.now h) →
    exec (.copyResume h loop) s = .next (s.resume h l q)
    ∧ Gives (.copyResume h loop) s (fun t => (t.half h).place.lost = [] ∧ t.mapBit (Mod.plcDisplaced h 0) loop = false
        ∧ Reported t h 0x0604 2 loop ∧ (l.tick.isSome = true → Reported t h 0x0601 2 loop)))

/-- SLAB_STEP moves a slab by one step where its configuration, slack and power ask for the step and the last is 20 us past, with its
voltage held to 50 and never lowered before an up step; otherwise it does nothing. Low slack counts, steps down and raises the
voltage. At the floor, and at
a slab fault with its cause, the slab and its 128 engines are out of service, with the record and source 15. An engine fault
and a double-bit error take one engine out, a cluster fault its 16. A scrubber pass counts what it corrected. SNAPSHOT_T begins
the holds; SNAPSHOT_DONE ends the snapshot complete with source 3. -/
def Obligations.SlabFaultAndSnapshotCommandsComplete : Prop :=
  (∀ h slab up volt slack power s, slab < 4 → s.runs h = true →
    let a := Mod.slabVfStatus h slab
    let last := Map.get (fun _ => 0) (s.half h).place.vfT slab
    if s.stepWanted h slab up slack power = true ∧ (last = 0 ∨ last + 20000 ≤ s.now h + 1) then
      Gives (.slabStep h slab up ⟨volt, slack, power⟩) s (fun t =>
        t.fd a 4 0 = (if up then s.fd a 4 0 + 1 else s.fd a 4 0 - 1)
        ∧ t.fd a 15 8 = clampNat (if up then s.fd a 15 8 else 0) 50 volt ∧ SameMem s t
        ∧ SameRegs s t (fun x => x = a ∨ EventReg h x))
    else exec (.slabStep h slab up ⟨volt, slack, power⟩) s = .next s) ∧
  (∀ h slab slack volt s, slab < 4 → s.runs h = true →
    let a := Mod.slabVfStatus h slab
    Gives (.slabLowSlack h slab slack volt) s (fun t => t.fd a 23 16 = slack % 256
      ∧ t.fd a 4 0 = s.fd a 4 0 - 1
      ∧ t.fd a 15 8 = (if s.fd a 15 8 < volt then min 50 volt else s.fd a 15 8)
      ∧ t.fd a 31 24 = min (s.fd a 31 24 + 1) 255 ∧ SameMem s t
      ∧ SameRegs s t (fun x => x = a ∨ EventReg h x))) ∧
  (∀ h slab s, slab < 4 → s.runs h = true → s.fd (Mod.slabVfStatus h slab) 4 0 = 0 →
    s.fd (Mod.slabVfStatus h slab) 15 8 = 50 → (s.half h).place.moves = [] → (s.half h).place.lost = [] →
    Gives (.monitorAtFloor h slab) s (fun t => t.bt (Mod.slabFault h slab) 0 = true ∧ t.fd (Mod.slabFault h slab) 3 1 = 3
      ∧ (∀ i, i < 128 → t.mapBit (Mod.plcOos h 0) (128 * slab + i) = true) ∧ Pends t h 15
      ∧ Reported t h 0x0606 4 slab)) ∧
  (∀ h slab cause s, slab < 4 → 0 < cause → cause < 8 → s.runs h = true → (s.half h).place.moves = [] →
    (s.half h).place.lost = [] →
    Gives (.slabFault h slab cause) s (fun t => t.bt (Mod.slabFault h slab) 0 = true
      ∧ t.fd (Mod.slabFault h slab) 3 1 = cause ∧ t.fd (Mod.slabFault h slab) 15 8 = 0xFF
      ∧ (∀ i, i < 128 → t.mapBit (Mod.plcOos h 0) (128 * slab + i) = true) ∧ Pends t h 15
      ∧ Reported t h 0x0606 4 slab)) ∧
  (∀ h e cause clean s, e < 512 → s.runs h = true → s.mapBit (Mod.plcOos h 0) e = false → (s.half h).place.moves = [] →
    (s.half h).place.lost = [] →
    Gives (.engineFault h e cause clean) s (fun t => t.mapBit (Mod.plcOos h 0) e = true ∧ Reported t h 0x0605 3 e)) ∧
  (∀ h e table clean s, e < 512 → s.runs h = true → s.mapBit (Mod.plcOos h 0) e = false → (s.half h).place.moves = [] →
    (s.half h).place.lost = [] →
    Gives (.eccDoubleError h e table clean) s (fun t => t.mapBit (Mod.plcOos h 0) e = true ∧ Reported t h 0x0605 3 e)) ∧
  (∀ h cluster s, cluster < 32 → s.runs h = true → (s.half h).place.moves = [] → (s.half h).place.lost = [] →
    Gives (.clusterFault h cluster) s (fun t => t.fd (Mod.slabFault h (cluster / 8)) 3 1 = 6
      ∧ t.bt (Mod.slabFault h (cluster / 8)) (8 + cluster % 8) = true
      ∧ (∀ i, i < 16 → t.mapBit (Mod.plcOos h 0) (16 * cluster + i) = true) ∧ Pends t h 15
      ∧ Reported t h 0x0606 4 (cluster / 8))) ∧
  (∀ h slab e n s, e < 512 → e / 128 = slab → n ≠ 0 → s.runs h = true → s.mapBit (Mod.plcOos h 0) e = false →
    Gives (.scrubberPass h slab [(e, n)]) s (fun t => t.bt (Eng.engCond h e) 17 = true ∧ SameMem s t
      ∧ t.rn (Eng.eccCorrCnt h e) = min (s.rn (Eng.eccCorrCnt h e) + n) (2 ^ 32 - 1)
      ∧ SameRegs s t (fun a => a = Eng.engCond h e ∨ a = Eng.eccCorrCnt h e))) ∧
  (∀ h x s, s.runs h = true → (s.half h).snap.t = some x → (s.half h).snap.reached = false →
    Gives (.snapshotT h) s (fun t => (t.half h).snap.reached = true ∧ (t.half h).snap.t = some x)) ∧
  (∀ h s, s.runs h = true → (s.half h).snap.reached = true →
    Gives (.snapshotDone h) s (fun t => t.bt (Mod.snapStatus h) 0 = false ∧ t.bt (Mod.snapStatus h) 1 = true
      ∧ (t.half h).snap.reached = false ∧ (t.half h).snap.t = none ∧ Pends t h 3
      ∧ SameRegs s t (fun a => a = Mod.snapStatus h ∨ EventReg h a)))

/-- A request of an enabled transmit object of the owner with a frame it may send is PENDING with its buffer, by TX_REQ as by a
periodic instant; without ownership it ends NOT_OWNER. ABORT ends a PENDING one. A frame heard in MONITOR is stored in its
object. The first pending object is sent; its end DONE stamps it, and a lost arbitration makes it PENDING again. A receive error
counts. A protocol exception integrates; a dominant time-out is shown and recorded. RECOVER and AUTO_RECOVER leave BUS_OFF, and
the recovery ends ERROR_ACTIVE with both counters 0. Integration, timing, counts, the forwarded state and OBJ_CFG follow. -/
def Obligations.CanCommandsComplete : Prop :=
  (∀ h p k s, p < 16 → k < 2048 → s.runs h = true → s.bt (Can.objCfg h p k) 0 = true → s.bt (Can.objCfg h p k) 1 = true →
    s.canOwned h p = true → (s.can h p).mode ≠ 2 → s.bt (Can.objCfg h p k) 3 = false →
    s.fd (Can.objCfg h p k) 11 8 ≤ 8 → ¬(s.bt (Can.objCfg h p k) 5 = true ∧ (s.canState h p = 5 ∨ s.canState h p = 6)) →
    (s.can h p).sends k = false →
    Gives (.txReq h p k) s (fun t => (k, s.canBuf h p k) ∈ (t.can h p).pend ∧ t.fd (Can.objStatus h p k) 7 4 = 1 ∧ SameMem s t
      ∧ SameRegs s t (fun a => a = Can.objStatus h p k))) ∧
  (∀ h p k s, p < 16 → k < 2048 → s.runs h = true → s.bt (Can.objCfg h p k) 0 = true → s.bt (Can.objCfg h p k) 1 = true →
    s.canOwned h p = false →
    Gives (.txReq h p k) s (fun t => t.fd (Can.objStatus h p k) 7 4 = 8 ∧ t.mapBit (Can.txendMap h p 0) k = true ∧ SameMem s t
      ∧ ∀ e ∈ (t.can h p).pend, e.1 ≠ k)) ∧
  (∀ h p k n s, s.runs h = true → s.canInstant h p k = some n → Map.get (fun _ => 0) (s.can h p).perT k ≤ n →
    exec (.canPeriodic h p k) s = exec (.txReq h p k)
      (s.modCan h p (fun c => { c with perT := Map.set (fun _ => 0) c.perT k (n + 1) }))) ∧
  (∀ h p k e s, p < 16 → k < 2048 → s.runs h = true → (s.can h p).sends k = false →
    (s.can h p).pend.find? (fun e => decide (e.1 = k)) = some e →
    Gives (.canObjAbort h p k) s (fun t => t.fd (Can.objStatus h p k) 7 4 = 7 ∧ t.mapBit (Can.txendMap h p 0) k = true
      ∧ SameMem s t ∧ ∀ e ∈ (t.can h p).pend, e.1 ≠ k)) ∧
  (∀ p f ago h k s, p < 16 → s.deck.inReset = false → s.deckHears h = true → s.canState h p = 7 → f.fdf = false →
    f.rtr = false →
    (s.canObjs h p).find? (fun k => !s.bt (Can.objCfg h p k) 1 && s.canIs h p k f.ide f.id) = some k →
    Gives (.canFrameReceive p f ago) s (fun t => t.bt (Can.objStatus h p k) 0 = true
      ∧ t.mapBit (Can.newMap h p 0) k = true ∧ t.bt (Can.objStatus h p k) 1 = (s.bt (Can.objStatus h p k) 0
        || s.bt (Can.objStatus h p k) 1)
      ∧ t.fd (Can.objStatus h p k) 31 16 = (s.fd (Can.objStatus h p k) 31 16 + 2) % 65536
      ∧ t.rd64 (Can.objTimeLo h p k) = s.canStamp p ago % 2 ^ 64
      ∧ ∀ w, w < 16 → t.rn (Can.data h p k w) = (canWords f).getD w 0)) ∧
  (∀ p h k b s, p < 16 → k < 2048 → s.deck.inReset = false → s.owner (108 + p) = some h → s.deckHears h = true →
    s.canState h p = 3 ∨ s.canState h p = 4 → (s.can h p).mode = 1 → (s.can h p).sending = none →
    (s.can h.other p).sending = none → canFirst (s.can h p).pend = some (k, b) →
    Gives (.canArbitration p) s (fun t => (t.can h p).sending = some (k, b, true) ∧ t.fd (Can.objStatus h p k) 7 4 = 2
      ∧ (∀ e ∈ (t.can h p).pend, e.1 ≠ k) ∧ SameMem s t
      ∧ SameRegs s t (fun a => a = Can.objStatus h p k ∨ a = Can.canStatus h p))) ∧
  (∀ h p k b kept delay ago s, p < 16 → k < 2048 → s.runs h = true → (s.can h p).sending = some (k, b, true) →
    (s.can h p).held = none → (s.can h p).leaving = false → b.fdf = false → s.canState h p = 3 → s.tec h p = 0 →
    s.recCnt h p < 96 →
    Gives (.canTxEnd h p 0 kept delay ago) s (fun t => (t.can h p).sending = none ∧ t.fd (Can.objStatus h p k) 7 4 = 3
      ∧ t.mapBit (Can.txendMap h p 0) k = true ∧ t.rd64 (Can.objTimeLo h p k) = s.canStamp p ago % 2 ^ 64
      ∧ t.canState h p = 3 ∧ SameMem s t)
    ∧ (b.oneShot = false → s.bt (Can.objCfg h p k) 0 = true →
        Gives (.canTxEnd h p 1 kept delay ago) s (fun t => (t.can h p).sending = none ∧ (k, b) ∈ (t.can h p).pend
          ∧ t.fd (Can.objStatus h p k) 7 4 = 1 ∧ SameMem s t))) ∧
  (∀ h p eight s, p < 16 → s.runs h = true →
    (s.canState h p = 7 → Gives (.canRxError h p eight) s (fun t =>
      t.rn (Can.monErrCnt h p) = min (s.rn (Can.monErrCnt h p) + 1) (2 ^ 32 - 1) ∧ SameMem s t
      ∧ SameRegs s t (fun a => a = Can.monErrCnt h p)))
    ∧ (s.canState h p = 3 → (s.can h p).mode = 1 → s.tec h p < 96 → s.recCnt h p < 80 →
        Gives (.canRxError h p eight) s (fun t => t.recCnt h p = s.recCnt h p + (if eight then 8 else 1)
          ∧ t.canState h p = 3 ∧ SameMem s t
          ∧ t.rn (Can.errFrameCnt h p) = min (s.rn (Can.errFrameCnt h p) + 1) (2 ^ 32 - 1)))) ∧
  (∀ h p s, p < 16 → s.runs h = true → (s.can h p).fdEn = false → s.canState h p = 3 →
    Gives (.protocolException h p) s (fun t => t.canState h p = 2 ∧ SameMem s t
      ∧ t.rn (Can.protoExcCnt h p) = min (s.rn (Can.protoExcCnt h p) + 1) (2 ^ 32 - 1))) ∧
  (∀ h p s, s.runs h = true → Gives (.txdTimeout h p) s (fun t => t.bt (Can.canStatus h p) 7 = true
      ∧ Reported t h 0x1008 0x18 p ∧ SameMem s t ∧ SameRegs s t (fun a => a = Can.canStatus h p))) ∧
  (∀ h p s, s.runs h = true → s.canState h p = 5 →
    Gives (.recover h p) s (fun t => t.canState h p = 6 ∧ (t.can h p).recovering = true ∧ SameMem s t
      ∧ SameRegs s t (fun a => a = Can.canStatus h p))
    ∧ (s.bt (Can.canCfg h p) 5 = true →
        (s.can h p).offSince + min (s.fd (Can.recovCfg h p) 9 0) 1000 * 1000000 ≤ s.now h →
        exec (.canAutoRecover h p) s = exec (.recover h p) s ∧ Gives (.canAutoRecover h p) s (fun t => t.canState h p = 6))) ∧
  (∀ h p s, p < 16 → s.runs h = true → s.canState h p = 6 → s.canRecDone h p = true →
    Gives (.canRecovered h p) s (fun t => t.canState h p = 3 ∧ t.tec h p = 0 ∧ t.recCnt h p = 0
      ∧ Reported t h 0x1003 0x18 p ∧ SameMem s t)) ∧
  (∀ h p s, s.runs h = true → s.canState h p = 2 →
    Gives (.canIntegrated h p) s (fun t => t.canState h p = (if s.canOwned h p then s.canResume h p else 7) ∧ SameMem s t
      ∧ SameRegs s t (fun a => a = Can.canStatus h p))) ∧
  (∀ h p s, p < 16 → s.runs h = true → s.bt (Can.canStatus h p) 5 = true →
    Gives (.canTimingApply h p) s (fun t => t.bt (Can.canStatus h p) 5 = false ∧ (t.can h p).cfg = s.rg (Can.canCfg h p)
      ∧ (t.can h p).nbt = s.rg (Can.nbt h p) ∧ SameMem s t
      ∧ t.canState h p = (if s.fd (Can.canCfg h p) 1 0 ≠ 1 ∧ s.fd (Can.canCfg h p) 1 0 ≠ 2 then 0
          else if canTimingOk (s.rg (Can.canCfg h p)) (s.rg (Can.nbt h p)) (s.rg (Can.dbt h p)) then 2 else 1))) ∧
  (∀ h p s, p < 16 → s.runs h = true →
    Gives (.canClearCounts h p) s (fun t => (∀ i, i < 9 → t.rg (Can.rxCnt h p + 4 * i) = 0)
      ∧ t.bt (Can.canStatus h p) 6 = false ∧ t.bt (Can.canStatus h p) 8 = false ∧ SameMem s t
      ∧ t.canState h p = s.canState h p)) ∧
  (∀ p h s, p < 16 → s.deck.inReset = false → s.owner (108 + p) = some h → s.mirrorUp = true → s.runs h = true →
    s.runs h.other = true →
    Gives (.canStateForward p) s (fun t => t.tec h.other p = s.tec h p ∧ t.recCnt h.other p = s.recCnt h p
      ∧ t.bt (Can.errCnt h.other p) 24 = true ∧ SameMem s t ∧ t.half h = s.half h)) ∧
  (∀ h p k val s, p < 16 → k < 2048 → s.runs h = true → s.bt (Can.objCfg h p k) 0 = false → bit val 0 = true →
    (s.canObjs h p).any (fun j => decide (j ≠ k)
      && s.canIs h p j (bit val 2) (canId (bit val 2) (s.rg (Can.objId h p k)))) = false →
    Gives (.objCfgWrite h p k val) s (fun t => t.rg (Can.objCfg h p k) = val &&& 0xF7F
      ∧ t.bt (Can.objStatus h p k) 2 = false ∧ SameMem s t
      ∧ SameRegs s t (fun a => a = Can.objCfg h p k ∨ a = Can.objStatus h p k)))

/-- At an enabled link's boundary SEQ goes up by one, SYNC carries it, and a missing return and code errors met are counted. A word of the owner is kept for the frame
that has not started, and counted as late after that. At the deadline the frame is stale and counted, and its bytes leave with their CRC. A
return frame of the right CRC, TYPE and SEQ is accepted, its fields shown; a code error or a wrong CRC only counts. LINK_UP and LINK_DOWN change the state with their record, as do the
gate conditions. The counts clear and RETRAIN acquires. -/
def Obligations.DriveLinkCommandsComplete : Prop :=
  (∀ l s, l < 64 → s.deck.inReset = false → s.bt (Drv.linkCfg l) 0 = true →
    ((s.lrun l).synced = true → (s.lrun l).syncK ≠ s.linkBoundary l) →
    ∀ errs, Gives (.driveLinkSync ⟨l, errs⟩) s (fun t => t.fd (Drv.linkStatus l) 15 8 = (s.fd (Drv.linkStatus l) 15 8 + 1) % 256
      ∧ (t.lrun l).synced = true ∧ (t.lrun l).accepted = false ∧ SameMem s t
      ∧ syncChars ((s.fd (Drv.linkStatus l) 15 8 + 1) % 256) <+: (t.lrun l).tx
      ∧ t.rn (Drv.errCodeCnt l) = min (s.rn (Drv.errCodeCnt l) + errs) (2 ^ 32 - 1)
      ∧ t.rn (Drv.retMissCnt l) = min (s.rn (Drv.retMissCnt l)
          + ((s.lrun l).synced && !(s.lrun l).accepted).toNat) (2 ^ 32 - 1))) ∧
  (∀ h c rest s, s.runs h = true → (s.half h).linkUp = true → s.owns h (40 + c.idx) = true →
    (s.half h).drvTx = c :: rest → c.idx < 64 → c.sel < 4 →
    s.bt (Drv.linkCfg c.idx) 0 = true → s.takes (0x400 + 16 * c.idx + 4 * c.sel) c.loop c.j = true →
    Gives (.driveCmdWord h) s (fun t => (t.half h).drvTx = rest ∧ SameMem s t
      ∧ if (s.lrun c.idx).started then
          t.rn (Drv.cmdLateCnt c.idx) = min (s.rn (Drv.cmdLateCnt c.idx) + 1) (2 ^ 32 - 1) ∧ t.lrun c.idx = s.lrun c.idx
        else (t.lrun c.idx).got = (s.lrun c.idx).got ||| 2 ^ c.sel
          ∧ Map.get (fun _ => 0) (t.lrun c.idx).words c.sel = c.word
          ∧ (t.lrun c.idx).coast = ((s.lrun c.idx).coast || c.coast))) ∧
  (∀ l s, l < 64 → s.deck.inReset = false → s.bt (Drv.linkCfg l) 0 = true → s.bt (Drv.linkCfg l) 1 = true →
    (s.lrun l).synced = true → (s.lrun l).started = false →
    (s.lrun l).syncT + s.fd (Drv.linkTiming l) 15 0 * 10 ≤ s.fieldNow (40 + l) →
    Gives (.cmdDeadline l) s (fun t => t.rn (Drv.cmdMissCnt l) = min (s.rn (Drv.cmdMissCnt l) + 1) (2 ^ 32 - 1)
      ∧ t.bt (Drv.linkStatus l) 5 = true ∧ (t.lrun l).started = true ∧ (t.lrun l).missRun = (s.lrun l).missRun + 1
      ∧ (t.lrun l).duty = (s.lrun l).duty ∧ SameMem s t
      ∧ ∃ ctrl, (t.lrun l).tx = (s.lrun l).tx
          ++ frameChars (cmdBytes (s.fd (Drv.linkStatus l) 15 8) (s.lrun l).duty ctrl) ∧ ctrl.testBit 2 = true)) ∧
  (∀ l f s, l < 64 → s.deck.inReset = false → s.linkState l = 2 → f.codeErr = false →
    retCrcOk f.bytes = true → leAt f.bytes 0 1 = 0x81 → leAt f.bytes 1 1 = s.fd (Drv.linkStatus l) 15 8 →
    (s.lrun l).accepted = false →
    Gives (.returnFrame l f) s (fun t => (t.lrun l).accepted = true
      ∧ t.fd (Drv.linkStatus l) 31 16 = leAt f.bytes 14 2 ∧ t.fd (Drv.retTime l) 15 0 = min f.time 65535
      ∧ t.rg (Drv.lastRet0 l) = BitVec.ofNat 32 (leAt f.bytes 2 2 + leAt f.bytes 4 2 * 65536)
      ∧ t.rg (Drv.lastRet1 l) = BitVec.ofNat 32 (leAt f.bytes 6 2 + leAt f.bytes 8 2 * 65536)
      ∧ t.rg (Drv.lastRet2 l) = BitVec.ofNat 32 (leAt f.bytes 10 4))) ∧
  (∀ l f s, l < 64 → s.deck.inReset = false → s.linkState l = 2 → f.codeErr = true →
    Gives (.returnFrame l f) s (fun t => t.rn (Drv.errCodeCnt l) = min (s.rn (Drv.errCodeCnt l) + 1) (2 ^ 32 - 1)
      ∧ t.lrun l = s.lrun l ∧ SameMem s t ∧ ∀ h, s.runs h = true → Pends t h (648 + l / 8))) ∧
  (∀ l f s, l < 64 → s.deck.inReset = false → s.linkState l = 2 → f.codeErr = false →
    (retCrcOk f.bytes = false →
      Gives (.returnFrame l f) s (fun t => t.rn (Drv.errCrcCnt l) = min (s.rn (Drv.errCrcCnt l) + 1) (2 ^ 32 - 1)
        ∧ t.lrun l = s.lrun l ∧ SameMem s t))
    ∧ (retCrcOk f.bytes = true → leAt f.bytes 0 1 ≠ 0x81 → exec (.returnFrame l f) s = .next s)) ∧
  (∀ l s, l < 64 → s.deck.inReset = false → s.linkState l = 1 →
    Gives (.linkUp l) s (fun t => t.linkState l = 2 ∧ SameMem s t ∧ ∀ h, s.runs h = true → Reported t h 0x0702 0x0C l)) ∧
  (∀ l cause s, l < 64 → s.deck.inReset = false → s.linkState l = 2 →
    Gives (.linkDown l cause) s (fun t => t.linkState l = 1 ∧ SameMem s t
      ∧ t.rn (Drv.syncLossCnt l) = min (s.rn (Drv.syncLossCnt l) + 1) (2 ^ 32 - 1)
      ∧ ∀ h, s.runs h = true → Reported t h 0x0701 0x0C l)) ∧
  (∀ l current s, l < 64 → s.deck.inReset = false →
    (s.bt (Drv.linkStatus l) 2 = true → s.bt (Drv.linkStatus l) 3 = false →
      Gives (.gateOpen l true current) s (fun t => t.bt (Drv.linkStatus l) 3 = true ∧ t.mapBit (Drv.faultMap 0) l = true
        ∧ SameMem s t ∧ ∀ h, s.runs h = true → Reported t h 0x0703 0x0C l))
    ∧ Gives (.gateOpen l false current) s (fun t => t.bt (Drv.linkStatus l) 3 = false ∧ SameMem s t)) ∧
  (∀ l current s, l < 64 → s.deck.inReset = false →
    (s.bt (Drv.linkStatus l) 2 = false → s.bt (Drv.linkStatus l) 4 = false →
      Gives (.gateForeign l true current) s (fun t => t.bt (Drv.linkStatus l) 4 = true ∧ t.mapBit (Drv.faultMap 0) l = true
        ∧ SameMem s t ∧ ∀ h, s.runs h = true → Reported t h 0x0704 0x0C l))
    ∧ Gives (.gateForeign l false current) s (fun t => t.bt (Drv.linkStatus l) 4 = false ∧ SameMem s t)) ∧
  (∀ h l s, l < 64 → MayCmd s h (40 + l) →
    Gives (.linkClearCounts h l) s (fun t => (∀ a ∈ [Drv.errCrcCnt l, Drv.errCodeCnt l, Drv.retMissCnt l, Drv.retStaleCnt l,
        Drv.echoMissCnt l, Drv.cmdMissCnt l, Drv.cmdLateCnt l, Drv.syncLossCnt l, Drv.retTimeMax l], t.rg a = 0)
      ∧ t.rg (Drv.retTime l) = 0xFFFF0000 ∧ t.deck = s.deck ∧ SameMem s t)) ∧
  (∀ h l s, l < 64 → MayCmd s h (40 + l) → s.linkState l = 2 →
    Gives (.retrain h l) s (fun t => t.linkState l = 1 ∧ t.deck = s.deck ∧ SameMem s t
      ∧ SameRegs s t (fun a => a = Drv.linkStatus l ∨ a = Drv.faultMap 0 ∨ a = Drv.faultMap 1
          ∨ ∃ h, a = Apc.errqLost h ∨ a = Apc.errqWp h ∨ ∃ n w, a = Apc.errq h n w)))

/-- A tick shows the sense inputs; CMD_VEL of a port that is OFF or DISABLED is 0, and of any other port it takes the newest
engine word and slews the speed scale within [0, 2]. A routed word of the owner waits for the next tick and clears CMD_MISSING
(one with the coast mark is none), which MISS_HOLD without a word sets. A standstill reduces the current; a stall is shown,
counted and recorded. Each PORT_CMD waits for the next tick, where START of an IDLE port runs the segments of its range, ABORT
of a running one ends it with its record, POS_SET sets the position and CLEAR_COUNTS clears; each answers its CMD_RESULT. -/
def Obligations.MotionPortCommandsComplete : Prop :=
  (∀ p isenA isenB s, p < 32 → s.deck.inReset = false →
    (s.prun p).cmds = [] →
    Gives (.motionTick p isenA isenB) s (fun t => t.rg (Mot.isenA p) = isenA ∧ t.rg (Mot.isenB p) = isenB
      ∧ (s.portState p = 0 ∨ s.portState p = 4 → t.rg (Mot.cmdVel p) = 0
          ∧ SameRegs s t (fun a => a = Mot.isenA p ∨ a = Mot.isenB p ∨ a = Mot.cmdVel p))
      ∧ (s.portState p ≠ 0 → s.portState p ≠ 4 →
          (t.prun p).word = (s.prun p).newWord.getD (s.prun p).word ∧ (t.prun p).newWord = none
          ∧ (t.prun p).sigma = slew64 (s.prun p).sigma (if s.bt (Mot.portCfg p) 4 then
              (if s.bt (Mot.portStatus p) 7 then 0
               else clamp64 0 d64two (wide ((s.prun p).newWord.getD (s.prun p).word)))
              else clamp64 0 d64two (wide (s.rn (Mot.scaleSet p)))) (f64.mul (wide (s.rn (Mot.scaleSlew p))) tickSec)))) ∧
  (∀ h c rest s, MayCmd s h (104 + c.idx / 8) → (s.half h).motTx = c :: rest → c.idx < 32 →
    s.takes (0x800 + 4 * c.idx) c.loop c.j = true →
    (c.coast = false → Gives (.motionCmdWord h) s (fun t => (t.half h).motTx = rest
      ∧ (t.prun c.idx).newWord = some c.word.toNat
      ∧ t.bt (Mot.portStatus c.idx) 7 = false ∧ SameMem s t ∧ SameRegs s t (fun a => a = Mot.portStatus c.idx)))
    ∧ (c.coast = true → Gives (.motionCmdWord h) s (fun t => (t.half h).motTx = rest ∧ t.deck = s.deck ∧ SameMem s t
        ∧ SameRegs s t (fun _ => False)))) ∧
  (∀ p s, p < 32 → s.deck.inReset = false → s.bt (Mot.portCfg p) 0 = true →
    (s.prun p).wordT + 1000 * s.fd (Mot.missHold p) 13 0 ≤ s.fieldNow (104 + p / 8) →
    Gives (.portCmdMissing p) s (fun t => t.bt (Mot.portStatus p) 7 = true ∧ t.deck = s.deck ∧ SameMem s t
      ∧ SameRegs s t (fun a => a = Mot.portStatus p))) ∧
  (∀ p s, p < 32 → s.deck.inReset = false → s.portState p ≠ 0 → s.portState p ≠ 4 →
    s.standstill p (s.fieldNow (104 + p / 8)) = true →
    Gives (.portStandstill p) s (fun t => t.bt (Mot.portStatus p) 6 = true ∧ t.deck = s.deck ∧ SameMem s t
      ∧ SameRegs s t (fun a => a = Mot.portStatus p))) ∧
  (∀ p s, p < 32 → s.deck.inReset = false → s.stallMet p = true →
    Gives (.portStalled p) s (fun t => t.bt (Mot.portStatus p) 4 = true ∧ SameMem s t
      ∧ t.fd (Mot.motCounts p) 15 0 = min (s.fd (Mot.motCounts p) 15 0 + 1) 65535
      ∧ ∀ h, s.runs h = true → Reported t h 0x0711 0x0D p)) ∧
  (∀ h p s, p < 32 → MayCmd s h (104 + p / 8) → ∀ cn ∈ [(Instr.portStart h p, 0), (Instr.portAbort h p, 1),
      (Instr.posSet h p, 2), (Instr.portClearCounts h p, 3)],
    Gives cn.1 s (fun t => (t.prun p).cmds = (s.prun p).cmds ++ [cn.2] ∧ SameMem s t ∧ SameRegs s t (fun _ => False))) ∧
  (∀ p isenA isenB s, p < 32 → s.deck.inReset = false → (s.prun p).cmds = [0] →
    (s.portState p = 1 → s.fd (Mot.segRange p) 9 0 ≤ s.fd (Mot.segRange p) 25 16 → s.bt (Mot.portStatus p) 3 = false →
      Gives (.motionTick p isenA isenB) s (fun t => t.fd (Mot.portStatus p) 11 10 = 0 ∧ (t.prun p).cmds = []
        ∧ (t.portState p = 2 ∧ (t.prun p).segs = (List.range (s.fd (Mot.segRange p) 25 16 + 1
              - s.fd (Mot.segRange p) 9 0)).map (fun i => s.segAt p (s.fd (Mot.segRange p) 9 0 + i))
            ∨ t.portState p = s.restState p ∧ (t.prun p).segs = [])))
    ∧ (s.portState p ≠ 1 → Gives (.motionTick p isenA isenB) s (fun t => t.fd (Mot.portStatus p) 11 10 = 1))) ∧
  (∀ p isenA isenB s, p < 32 → s.deck.inReset = false → (s.prun p).cmds = [1] → s.portState p = 2 →
    Gives (.motionTick p isenA isenB) s (fun t => t.portState p = s.restState p ∧ t.fd (Mot.portStatus p) 11 10 = 0
      ∧ (t.prun p).segs = [] ∧ ∀ h, s.runs h = true → Pends t h (688 + p / 8) ∧ Reported t h 0x0714 0x0D p)) ∧
  (∀ p isenA isenB s, p < 32 → s.deck.inReset = false → (s.prun p).cmds = [2] → s.moving p = false → s.portState p ≠ 4 →
    Gives (.motionTick p isenA isenB) s (fun t => t.fd (Mot.portStatus p) 11 10 = 0
      ∧ (t.prun p).newWord = (s.prun p).newWord
      ∧ (s.portState p = 0 → t.rg (Mot.stepPos p) = s.rg (Mot.posSetVal p) ∧ t.bt (Mot.portStatus p) 3 = false
          ∧ t.bt (Mot.portStatus p) 4 = false))) ∧
  (∀ p isenA isenB s, p < 32 → s.deck.inReset = false → (s.prun p).cmds = [3] →
    Gives (.motionTick p isenA isenB) s (fun t => t.fd (Mot.portStatus p) 11 10 = 0
      ∧ (s.portState p = 0 ∨ s.portState p = 4 → t.rg (Mot.motCounts p) = 0)))

/-- At the boundary of a RUNNING copy with no sample under way the prepare phase begins with the mode of MODE_CTRL; a sample
still under way is skipped. The third skip in a row faults the copy. A measurement word reaches the input port of its loop's
slot; IN_WAIT makes a waiting slot critical. The phases end: prepare waits for its measurements, or is critical at once without
any, critical leaves the outputs and the latency, finish ends the sample. MISS_LIMIT, RESTART and CLEAR_COUNTS wait for the
next boundary; CLEAR_LAT clears at once; STOP takes force in an empty engine, is refused in another, and is lifted. -/
def Obligations.EngineSampleCommandsComplete : Prop :=
  (∀ h q s, q < 4096 → s.runs h = true → s.slotState h q = 1 → s.bt (Eng.engStatus h (q / 8)) 2 = false →
    (s.run h q).phase = 0 → s.slotMarked h q = false → (s.half h).ctl.fwdWait = [] → s.standby h q = false →
    (s.run h q).restart = false → (s.run h q).clear = false → s.bt (Slot.status h q) 10 = false →
    bits (s.dw h q 0xC) 1 0 ≠ 0 → s.missHit h q = false → s.lossOf h q = 0 → s.hstate h ≠ 2 → s.sampleDue h q = true →
    Gives (.sampleTick h q) s (fun t => (t.run h q).phase = 1 ∧ (t.run h q).mode = bits (s.dw h q 0xC) 1 0
      ∧ (t.run h q).tick = s.now h ∧ (t.run h q).ready = false ∧ (t.run h q).arrived = 0
      ∧ t.fd (Slot.status h q) 3 2 = bits (s.dw h q 0xC) 1 0 ∧ t.bt (Slot.status h q) 8 = false ∧ t.slotState h q = 1)) ∧
  (∀ h q s, q < 4096 → s.runs h = true → s.slotState h q = 1 → s.bt (Eng.engStatus h (q / 8)) 2 = false →
    (s.run h q).phase ≠ 0 → (s.run h q).packets = [] → s.fd (stateBase h q + 0x60) 31 16 < 2 → s.hstate h ≠ 2 → s.sampleDue h q = true →
    Gives (.sampleTick h q) s (fun t => t.bt (Slot.status h q) 8 = true ∧ t.slotState h q = 1
      ∧ t.fd (stateBase h q + 0x60) 31 16 = s.fd (stateBase h q + 0x60) 31 16 + 1
      ∧ t.run h q = { s.run h q with cmtWait := (s.run h q).cmtWait || s.slotMarked h q })) ∧
  (∀ h q s, q < 4096 → s.runs h = true → s.slotState h q = 1 → s.bt (Eng.engStatus h (q / 8)) 2 = false →
    3 ≤ s.fd (stateBase h q + 0x60) 31 16 → (s.run h q).packets = [] → (s.run h q).cmtWait = false →
    Gives (.overrunFault h q) s (fun t => t.slotState h q = 2 ∧ t.fd (Slot.faultInfo h q) 3 0 = 2
      ∧ t.fd (loopMapAt h (s.slotLoop h q)) 17 16 = 3 ∧ t.bt (Eng.engCond h (q / 8)) (q % 8) = true
      ∧ (t.run h q).phase = 0 ∧ SameMem s t)) ∧
  (∀ h w rest q s, s.runs h = true → (s.half h).measTx = w :: rest → s.slotOf h w.loop = some q →
    (s.run h q).phase = 1 ∨ (s.run h q).phase = 2 → (s.run h q).ready = false → w.k < 8 →
    Gives (.measWordArrive h) s (fun t => (t.half h).measTx = rest ∧ Map.get (fun _ => 0) (t.run h q).raw w.k = w.word
      ∧ (t.run h q).arrived = (s.run h q).arrived ||| 2 ^ w.k ∧ SameMem s t ∧ SameRegs s t (fun _ => False))) ∧
  (∀ h q s, s.runs h = true → (s.run h q).phase = 1 ∨ (s.run h q).phase = 2 → (s.run h q).ready = false →
    s.reqMask h q ≠ 0 → (s.run h q).tick + s.fd (Slot.measReq h q) 31 16 * 10 ≤ s.now h →
    Gives (.inWaitExpire h q) s (fun t => (t.run h q).ready = true
      ∧ (t.run h q).phase = (if (s.run h q).phase = 2 then 3 else 1) ∧ SameMem s t ∧ SameRegs s t (fun _ => False))) ∧
  (∀ h q s, q < 4096 → s.runs h = true → (s.run h q).phase = 1 →
    (∀ o, s.lawPrepare h q = .ok o → (s.run h q).ready = false → Gives (.preparePhaseEnd h q) s (fun t =>
      (t.run h q).phase = (if s.reqMask h q = 0 then 3 else 2) ∧ (t.run h q).comp = toWords (o.comps.map (·.comp))
      ∧ (t.run h q).src = o.src ∧ t.bt (Slot.status h q) 7 = false ∧ SameMem s t))
    ∧ (∀ e, s.lawPrepare h q = .error e → (s.run h q).packets = [] →
        Gives (.preparePhaseEnd h q) s (fun t => t.slotState h q = 2 ∧ (t.run h q).phase = 0
          ∧ t.fd (Slot.faultInfo h q) 3 0 = 1))) ∧
  (∀ h q lat queue s, q < 4096 → s.runs h = true → (s.run h q).phase = 3 →
    (∀ o, s.lawCritical h q (s.lawMeasures h q).nu = .ok o → Gives (.criticalPhaseEnd h q lat queue) s (fun t =>
      (t.run h q).phase = 4 ∧ (t.run h q).out = toWords o.out ∧ (t.run h q).invalid = (s.lawMeasures h q).invalid
      ∧ t.fd (Slot.latency h q) 15 0 = min lat 65535 ∧ t.fd (Slot.satState h q) 11 0 = o.flags % 4096 ∧ SameMem s t))
    ∧ (∀ e, s.lawCritical h q (s.lawMeasures h q).nu = .error e → (s.run h q).packets = [] →
        Gives (.criticalPhaseEnd h q lat queue) s (fun t => t.slotState h q = 2 ∧ (t.run h q).phase = 0))) ∧
  (∀ h q s, q < 4096 → s.runs h = true → (s.run h q).phase = 4 →
    Gives (.finishPhaseEnd h q) s (fun t => (t.run h q).phase = 0 ∧ (t.run h q).ready = false
      ∧ ∀ e, s.lawFinish h q = .error e → (s.run h q).packets = [] → (s.run h q).cmtWait = false → t.slotState h q = 2)) ∧
  (∀ h q s, s.runs h = true → s.missHit h q = true →
    Gives (.missLimitReached h q) s (fun t => (t.run h q).missAct = true ∧ SameMem s t ∧ SameRegs s t (fun _ => False))) ∧
  (∀ h q s, s.runs h = true → s.slotState h q ≠ 0 → s.bt (Eng.engStatus h (q / 8)) 2 = false →
    Gives (.slotRestart h q) s (fun t => (t.run h q).restart = true ∧ SameMem s t ∧ SameRegs s t (fun _ => False))
    ∧ Gives (.slotClearCounts h q) s (fun t => (t.run h q).clear = true ∧ SameMem s t ∧ SameRegs s t (fun _ => False))
    ∧ Gives (.clearLat h q) s (fun t => t.rg (Eng.engLatMax h (q / 8)) = 0 ∧ t.rg (Eng.engLatOverCnt h (q / 8)) = 0
        ∧ t.rg (Eng.queueMax h (q / 8)) = 0 ∧ SameMem s t ∧ SameRegs s t (fun a => a = Eng.engLatMax h (q / 8)
            ∨ a = Eng.engLatOverCnt h (q / 8) ∨ a = Eng.queueMax h (q / 8)))) ∧
  (∀ h e stop s, e < 512 → s.runs h = true → s.bt (Eng.engStatus h e) 2 = false →
    Gives (.engStop h e stop) s (fun t => t.bt (Eng.engCtrl h e) 16 = stop ∧ SameMem s t
      ∧ (stop = true → if (List.range 8).all (fun i => decide (s.slotState h (8 * e + i) = 0)) then t.bt (Eng.engStatus h e) 0 = true
          else t.bt (Eng.engStatus h e) 1 = true)
      ∧ (stop = false → t.bt (Eng.engStatus h e) 0 = false ∧ t.bt (Eng.engStatus h e) 1 = false)
      ∧ SameRegs s t (fun a => a = Eng.engCtrl h e ∨ a = Eng.engStatus h e)))

/-- At the end of a sample of a RUNNING copy: RUN at INNOV_COUNT declares ESTIMATE_LOST and shows it; 16 good samples in CATCH
end the loss, and CATCH_LIMIT makes it LOST, each recorded for the active copy; a fade at 1.0 moves SRC to TABLE or RC. A
packet of 10 ms closes. A drained half-buffer is free. The arbiters grant the burst that they choose, count a full Tray 8 where
none can be served, and with no request nothing changes. -/
def Obligations.ObserverLossAndTraceCommandsComplete : Prop :=
  (∀ h q u s, q < 4096 → s.runs h = true → s.slotState h q = 1 → (s.run h q).phase = 0 → bit (s.dw h q 0x60) 0 = true →
    s.lossOf h q = 0 → s.fd (stateBase h q + 0x50) 15 8 ≠ 0 →
    bits (s.dw h q 0x60) 15 8 ≤ s.fd (stateBase h q + 0x50) 15 8 →
    s.lossDeclare h q (s.speedOf h q ((s.run h q).xh.map (·.toNat))) (s.run h q).e.toNat = .ok u →
    Gives (.lossDeclared h q) s (fun t => t = u ∧ t.lossOf h q = 1 ∧ t.bt (Slot.status h q) 6 = true ∧ SameMem s t
      ∧ (s.standby h q = false → Reported t h 0x0501 2 (s.slotLoop h q)))) ∧
  (∀ h q s, q < 4096 → s.runs h = true → s.slotState h q = 1 → (s.run h q).phase = 0 → s.lossOf h q = 2 →
    16 ≤ s.fd (stateBase h q + 0x54) 7 0 →
    Gives (.reacquired h q) s (fun t => t.lossOf h q = 0 ∧ t.bt (Slot.status h q) 6 = false ∧ SameMem s t
      ∧ (s.standby h q = false → Reported t h 0x0503 2 (s.slotLoop h q)))) ∧
  (∀ h q s, q < 4096 → s.runs h = true → s.slotState h q = 1 → (s.run h q).phase = 0 → s.lossOf h q = 2 →
    s.fd (slotBase h q + 0x64) 15 0 ≤ s.fd (stateBase h q + 0x50) 31 16 →
    Gives (.catchExpired h q) s (fun t => t.lossOf h q = 3 ∧ SameMem s t
      ∧ SameRegs s t (fun a => a = stateBase h q + 0x50)
      ∧ (s.standby h q = false → Reported t h 0x0504 2 (s.slotLoop h q)))) ∧
  (∀ h q s, q < 4096 → s.runs h = true → s.slotState h q = 1 → (s.run h q).phase = 0 → s.fadeFull h q = true →
    Gives (.fadeComplete h q) s (fun t => SameMem s t ∧ SameRegs s t (fun a => a = stateBase h q + 0x70)
      ∧ (s.fd (stateBase h q + 0x70) 2 0 = 3 ∨ s.fd (stateBase h q + 0x70) 2 0 = 6 → t.fd (stateBase h q + 0x70) 2 0 = 2)
      ∧ (s.fd (stateBase h q + 0x70) 2 0 = 4 ∨ s.fd (stateBase h q + 0x70) 2 0 = 5 →
          t.fd (stateBase h q + 0x70) 2 0 = 1))) ∧
  (∀ h q p s, s.runs h = true → (s.run h q).packets.find? (fun p => p.closed = none) = some p →
    p.time + 10000000 ≤ s.now h →
    Gives (.tracePacketAge h q) s (fun t => (∀ x ∈ (t.run h q).packets, x.closed ≠ none) ∧ SameMem s t
      ∧ (t.run h q).packets.length = (s.run h q).packets.length)) ∧
  (∀ h q s, s.runs h = true → Gives (.traceHalfBufferDrained h q) s (fun t => SameMem s t
      ∧ SameRegs s t (fun _ => False) ∧ (t.run h q).packets = (s.run h q).packets.filter
          (fun p => !(p.closed.isSome && decide (p.trayLen ≤ p.moved))))) ∧
  (∀ h pick s, s.runs h = true →
    pick = arbPick 4 (fun b => s.requesting h (128 * b) 128) (s.slabLen h) (fun b => (s.slabPick h b).isSome) 10 (s.arb h 0) →
    (pick = none → s.requesting h 0 512 = 0 → exec (.engineBurstGrant h) s = .next s)
    ∧ (pick = none → s.requesting h 0 512 ≠ 0 → exec (.engineBurstGrant h) s = .next (s.sat (Tray.fullCnt h 8)))
    ∧ (∀ b a0 i a1 j a2, pick = some (b, a0) → s.slabPick h b = some (i, a1) →
        s.clusterPick h (8 * b + i) = some (j, a2) →
        exec (.engineBurstGrant h) s
          = .next ((((s.setArb h 0 a0).setArb h (1 + b) a1).setArb h (8 + (8 * b + i)) a2).burst h (16 * (8 * b + i) + j))))

/-- Where the word of an ALU instruction (R362) stands at the run's PC, with any registers, the command completes with the result of R362 in
register D (G0 discards it), PC 4 further and every other part of the state as it was; the 32-bit forms sign-extend their result. A
division or remainder by 0 takes the code fault DIV_ZERO instead (R365). -/
def Obligations.NativeAluCommandsComplete : Prop :=
  ∀ h core d s1 s2 s x, d < 32 → s1 < 32 → s2 < 32 →
    let a := x.gr s1
    let b := x.gr s2
    let p : BitVec 32 := a.truncate 32
    let q : BitVec 32 := b.truncate 32
    let R (i : Instr) (fn : Nat) (v : Dword) : Prop :=
      NatAt s h core x (encA 0 d s1 s2 fn) → RunIs i s h core (x.step.setG d v)
    let D (i : Instr) (fn : Nat) (zero : Bool) (v : Dword) : Prop := NatAt s h core x (encA 0 d s1 s2 fn) →
      if zero then exec i s = .next (s.codeFault h core x 6 (codeOff x.pc) 0) else RunIs i s h core (x.step.setG d v)
    R (.add h core d s1 s2) 0x0 (a + b)
    ∧ R (.sub h core d s1 s2) 0x1 (a - b)
    ∧ R (.and h core d s1 s2) 0x2 (a &&& b)
    ∧ R (.or h core d s1 s2) 0x3 (a ||| b)
    ∧ R (.xor h core d s1 s2) 0x4 (a ^^^ b)
    ∧ R (.andn h core d s1 s2) 0x5 (a &&& ~~~b)
    ∧ R (.sll h core d s1 s2) 0x8 (a <<< (b.toNat % 64))
    ∧ R (.srl h core d s1 s2) 0x9 (a >>> (b.toNat % 64))
    ∧ R (.sra h core d s1 s2) 0xA (a.sshiftRight (b.toNat % 64))
    ∧ R (.mul h core d s1 s2) 0x10 (a * b)
    ∧ R (.mulhs h core d s1 s2) 0x11 (BitVec.ofInt 64 (a.toInt * b.toInt / 2 ^ 64))
    ∧ R (.mulhu h core d s1 s2) 0x12 (BitVec.ofNat 64 (a.toNat * b.toNat / 2 ^ 64))
    ∧ R (.slt h core d s1 s2) 0x18 (if a.toInt < b.toInt then 1 else 0)
    ∧ R (.sltu h core d s1 s2) 0x19 (if a.toNat < b.toNat then 1 else 0)
    ∧ R (.min h core d s1 s2) 0x1A (if a.toInt < b.toInt then a else b)
    ∧ R (.max h core d s1 s2) 0x1B (if a.toInt < b.toInt then b else a)
    ∧ R (.minu h core d s1 s2) 0x1C (if a.toNat < b.toNat then a else b)
    ∧ R (.maxu h core d s1 s2) 0x1D (if a.toNat < b.toNat then b else a)
    ∧ R (.add32 h core d s1 s2) 0x20 ((p + q).signExtend 64)
    ∧ R (.sub32 h core d s1 s2) 0x21 ((p - q).signExtend 64)
    ∧ R (.sll32 h core d s1 s2) 0x28 ((p <<< (b.toNat % 32)).signExtend 64)
    ∧ R (.srl32 h core d s1 s2) 0x29 ((p >>> (b.toNat % 32)).signExtend 64)
    ∧ R (.sra32 h core d s1 s2) 0x2A ((p.sshiftRight (b.toNat % 32)).signExtend 64)
    ∧ R (.mul32 h core d s1 s2) 0x30 ((p * q).signExtend 64)
    ∧ D (.div h core d s1 s2) 0x14 (b == 0) (a.sdiv b)
    ∧ D (.divu h core d s1 s2) 0x15 (b == 0) (a.udiv b)
    ∧ D (.rem h core d s1 s2) 0x16 (b == 0) (a.srem b)
    ∧ D (.remu h core d s1 s2) 0x17 (b == 0) (a.umod b)
    ∧ D (.div32 h core d s1 s2) 0x34 (q == 0) ((p.sdiv q).signExtend 64)
    ∧ D (.rem32 h core d s1 s2) 0x36 (q == 0) ((p.srem q).signExtend 64)

/-- ADDI, ANDI, ORI, XORI, SLTI, SLTIU, SHI, ADDI32, LCH and LCN at the run's PC complete with the result of R361 in register D and PC 4
further; nothing else changes. SHI of kind 3 and LCH with S1 not 0 are undefined words and fault ILLEGAL_OP. -/
def Obligations.NativeImmediateCommandsComplete : Prop :=
  (∀ h core d s1 imm s x, d < 32 → s1 < 32 → imm < 2 ^ 16 →
    let a := x.gr s1
    let v : Dword := BitVec.ofInt 64 (signedOf 16 imm)
    let z : Dword := BitVec.ofNat 64 imm
    let R (i : Instr) (op : Nat) (w : Dword) : Prop :=
      NatAt s h core x (encI op d s1 imm) → RunIs i s h core (x.step.setG d w)
    R (.addi h core d s1 imm) 0x1 (a + v)
    ∧ R (.andi h core d s1 imm) 0x2 (a &&& z)
    ∧ R (.ori h core d s1 imm) 0x3 (a ||| z)
    ∧ R (.xori h core d s1 imm) 0x4 (a ^^^ z)
    ∧ R (.slti h core d s1 imm) 0x5 (if a.toInt < v.toInt then 1 else 0)
    ∧ R (.sltiu h core d s1 imm) 0x6 (if a.toNat < v.toNat then 1 else 0)
    ∧ R (.addi32 h core d s1 imm) 0xA (((a + v).truncate 32 : BitVec 32).signExtend 64)
    ∧ (imm / 64 % 4 ≠ 3 → R (.shi h core d s1 imm) 0x7 (if imm / 64 % 4 = 0 then a <<< (imm % 64)
        else if imm / 64 % 4 = 1 then a >>> (imm % 64) else a.sshiftRight (imm % 64)))
    ∧ (imm / 64 % 4 = 3 → NatAt s h core x (encI 0x7 d s1 imm) →
        exec (.shi h core d s1 imm) s = .next (s.codeFault h core x 1 (codeOff x.pc) 0))
    ∧ (s1 = 0 → R (.lch h core d s1 imm) 0x9 (x.gr d <<< 16 ||| z))
    ∧ (s1 ≠ 0 → NatAt s h core x (encI 0x9 d s1 imm) →
        exec (.lch h core d s1 imm) s = .next (s.codeFault h core x 1 (codeOff x.pc) 0))) ∧
  (∀ h core d imm s x, d < 32 → imm < 2 ^ 21 → NatAt s h core x (encU 0x8 d imm) →
    RunIs (.lcn h core d imm) s h core (x.step.setG d (BitVec.ofInt 64 (signedOf 21 imm))))

/-- A load at S1 + IMM16 completes with its bytes in D, extended as R361 says, and PC 4 further. A store completes with the low bytes of its
register at the address: a load of them gives them back, and a load of any other bytes, every register, shadow and DDR byte is as before.
Where the access is misaligned it faults MISALIGNED, in the guard STACK, outside the regions, in code (stores), or a store of background
code in the data area, DATA_RANGE, each with the address. -/
def Obligations.NativeLoadAndStoreCommandsComplete : Prop :=
  (∀ h core d s1 imm s x, d < 32 → s1 < 32 → imm < 2 ^ 16 →
    let a := (x.gr s1 + BitVec.ofInt 64 (signedOf 16 imm)).toNat
    let L (i : Instr) (op n : Nat) (put : Nat → Ctx) : Prop := NatAt s h core x (encI op d s1 imm) →
      match s.accessFault h x a n false with
      | none => RunIs i s h core (put (s.loadNat h core x a n))
      | some code => exec i s = .next (s.codeFault h core x code (codeOff x.pc) a)
    let S (i : Instr) (op n : Nat) (v : Dword) : Prop := NatAt s h core x (encI op d s1 imm) →
      match s.accessFault h x a n true with
      | none => Gives i s (fun t => t.running h core = some x.step ∧ t.loadNat h core x a n = v.toNat % 2 ^ (8 * n)
          ∧ (∀ b m, b + m ≤ a ∨ a + n ≤ b → t.loadNat h core x b m = s.loadNat h core x b m)
          ∧ SameMem s t ∧ SameShadows s t ∧ SameRegs s t (fun _ => False))
      | some code => exec i s = .next (s.codeFault h core x code (codeOff x.pc) a)
    L (.lb h core d s1 imm) 0x10 1 (fun v => x.step.setG d (BitVec.ofInt 64 (signedOf 8 v)))
    ∧ L (.lbu h core d s1 imm) 0x11 1 (fun v => x.step.setG d (BitVec.ofNat 64 v))
    ∧ L (.lh h core d s1 imm) 0x12 2 (fun v => x.step.setG d (BitVec.ofInt 64 (signedOf 16 v)))
    ∧ L (.lhu h core d s1 imm) 0x13 2 (fun v => x.step.setG d (BitVec.ofNat 64 v))
    ∧ L (.lw h core d s1 imm) 0x14 4 (fun v => x.step.setG d (BitVec.ofInt 64 (signedOf 32 v)))
    ∧ L (.lwu h core d s1 imm) 0x15 4 (fun v => x.step.setG d (BitVec.ofNat 64 v))
    ∧ L (.ld h core d s1 imm) 0x16 8 (fun v => x.step.setG d (BitVec.ofNat 64 v))
    ∧ L (.flw h core d s1 imm) 0x17 4 (fun v => x.step.setF d (BitVec.ofNat 64 v))
    ∧ L (.fld h core d s1 imm) 0x18 8 (fun v => x.step.setF d (BitVec.ofNat 64 v))
    ∧ S (.sb h core d s1 imm) 0x19 1 (x.gr d)
    ∧ S (.sh h core d s1 imm) 0x1A 2 (x.gr d)
    ∧ S (.sw h core d s1 imm) 0x1B 4 (x.gr d)
    ∧ S (.sd h core d s1 imm) 0x1C 8 (x.gr d)
    ∧ S (.fsw h core d s1 imm) 0x1D 4 (x.fr d)
    ∧ S (.fsd h core d s1 imm) 0x1E 8 (x.fr d)) ∧
  (∀ (s : State) h (x : Ctx) a n, s.accessFault h x a n false = (if a % n ≠ 0 then some 2 else match (s.region h x a n).1 with
      | .guard => some 5
      | .none => some 3
      | _ => none)) ∧
  (∀ (s : State) h (x : Ctx) a n, s.accessFault h x a n true = (if a % n ≠ 0 then some 2 else match (s.region h x a n).1 with
      | .guard => some 5
      | .stack => none
      | .data => if x.kind = 4 then some 3 else none
      | _ => some 3))

/-- A branch goes to PC plus 4 times its sign-extended offset where its condition holds, else 4 further. JMP and CALL go to PC plus 4 times their
offset, CALL with the address of the next instruction in G31. JRL takes its target from S1 before D takes the address of the next
instruction; a target of EXIT_LINK ends the run (R357). JRL with FN not 0 is an undefined word. Nothing else changes. -/
def Obligations.NativeControlCommandsComplete : Prop :=
  (∀ h core s1 s2 off s x, s1 < 32 → s2 < 32 → off < 2 ^ 16 →
    let a := x.gr s1
    let b := x.gr s2
    let tgt := ((x.pc : Int) + 4 * signedOf 16 off).toNat
    let R (i : Instr) (op : Nat) (taken : Bool) : Prop := NatAt s h core x (encI op s1 s2 off) →
      RunIs i s h core (if taken then { x with pc := tgt } else x.step)
    R (.beq h core s1 s2 off) 0x20 (decide (a = b))
    ∧ R (.bne h core s1 s2 off) 0x21 (decide (a ≠ b))
    ∧ R (.blt h core s1 s2 off) 0x22 (decide (a.toInt < b.toInt))
    ∧ R (.bge h core s1 s2 off) 0x23 (decide (b.toInt ≤ a.toInt))
    ∧ R (.bltu h core s1 s2 off) 0x24 (decide (a.toNat < b.toNat))
    ∧ R (.bgeu h core s1 s2 off) 0x25 (decide (b.toNat ≤ a.toNat))) ∧
  (∀ h core off s x, off < 2 ^ 26 →
    let tgt := ((x.pc : Int) + 4 * signedOf 26 off).toNat
    (NatAt s h core x (encJ 0x26 off) → RunIs (.jmp h core off) s h core { x with pc := tgt })
    ∧ (NatAt s h core x (encJ 0x27 off) →
        RunIs (.call h core off) s h core { x.setG 31 (BitVec.ofNat 64 (x.pc + 4)) with pc := tgt })) ∧
  (∀ h core d s1 s2 s x, d < 32 → s1 < 32 → s2 < 32 → NatAt s h core x (encA 0x28 d s1 s2 0) →
    let y : Ctx := { x.setG d (BitVec.ofNat 64 (x.pc + 4)) with pc := (x.gr s1).toNat }
    if y.pc = exitLink then exec (.jrl h core d s1 s2 0) s = .next ((s.putCtx h core y).runEnd h core y)
    else RunIs (.jrl h core d s1 s2 0) s h core y) ∧
  (∀ h core d s1 s2 fn s x, d < 32 → s1 < 32 → s2 < 32 → fn ≠ 0 → fn < 2 ^ 11 → NatAt s h core x (encA 0x28 d s1 s2 fn) →
    exec (.jrl h core d s1 s2 fn) s = .next (s.codeFault h core x 1 (codeOff x.pc) 0))

/-- Where a FOP word stands at PC the command completes: its result (the format that FN [5] names, the rounding mode of FCTL) is in F register D,
or in G register D for FEQ, FLT, FLE and FUN; the flags it raises are set in FCTL [8:4]; PC is 4 further; nothing else changes. Where it
raises a flag that FCTL [20:16] enables it takes the code fault FP_TRAP instead (R368). -/
def Obligations.NativeFloatCommandsComplete : Prop :=
  ∀ h core dbl d s1 s2 s3 s x, d < 32 → s1 < 32 → s2 < 32 → s3 < 32 →
    let f : Fmt := if dbl then f64 else f32
    let w := if dbl then 2 ^ 64 else 2 ^ 32
    let a := (x.fr s1).toNat % w
    let b := (x.fr s2).toNat % w
    let c := (x.fr s3).toNat % w
    let r := x.rm
    let R (i : Instr) (fn : Nat) (v : FRes) (put : Ctx → Dword → Ctx) : Prop :=
      NatAt s h core x (encF 0x30 d s1 s2 s3 (fn + if dbl then 32 else 0)) →
      if bits x.fctl 20 16 &&& v.flags ≠ 0 then exec i s = .next (s.codeFault h core x 7 (codeOff x.pc) 0)
      else RunIs i s h core (put { x.step with fctl := x.fctl ||| BitVec.ofNat 32 (v.flags * 16) } (BitVec.ofNat 64 v.bits))
    R (.fadd h core dbl d s1 s2 s3) 0x0 (f.addF r a b) (fun y v => y.setF d v)
    ∧ R (.fsub h core dbl d s1 s2 s3) 0x1 (f.subF r a b) (fun y v => y.setF d v)
    ∧ R (.fmul h core dbl d s1 s2 s3) 0x2 (f.mulF r a b) (fun y v => y.setF d v)
    ∧ R (.fdiv h core dbl d s1 s2 s3) 0x3 (f.divF r a b) (fun y v => y.setF d v)
    ∧ R (.fsqrt h core dbl d s1 s2 s3) 0x4 (f.sqrtF r a) (fun y v => y.setF d v)
    ∧ R (.fma h core dbl d s1 s2 s3) 0x5 (f.fmaF r a b c) (fun y v => y.setF d v)
    ∧ R (.fmin h core dbl d s1 s2 s3) 0x6 (f.minF false a b) (fun y v => y.setF d v)
    ∧ R (.fmax h core dbl d s1 s2 s3) 0x7 (f.minF true a b) (fun y v => y.setF d v)
    ∧ R (.fneg h core dbl d s1 s2 s3) 0x8 (⟨f.neg a, 0⟩) (fun y v => y.setF d v)
    ∧ R (.fabs h core dbl d s1 s2 s3) 0x9 (⟨f.absBits a, 0⟩) (fun y v => y.setF d v)
    ∧ R (.fmov h core dbl d s1 s2 s3) 0xA (⟨a, 0⟩) (fun y v => y.setF d v)
    ∧ R (.feq h core dbl d s1 s2 s3) 0x10 (f.cmpF 0 a b) (fun y v => y.setG d v)
    ∧ R (.flt h core dbl d s1 s2 s3) 0x11 (f.cmpF 1 a b) (fun y v => y.setG d v)
    ∧ R (.fle h core dbl d s1 s2 s3) 0x12 (f.cmpF 2 a b) (fun y v => y.setG d v)
    ∧ R (.funord h core dbl d s1 s2 s3) 0x13 (f.cmpF 3 a b) (fun y v => y.setG d v)

/-- Where an FCV word stands at PC the command completes with the conversion of R363 in F or G register D, rounded by FCTL.RM or toward zero
(TRNGS, TRNGD); MVFG and MVGF move the 64 bits. Flags are sticky in FCTL; an enabled one faults FP_TRAP; PC is 4 further; nothing else
changes. -/
def Obligations.NativeConversionCommandsComplete : Prop :=
  ∀ h core d s1 s2 s x, d < 32 → s1 < 32 → s2 < 32 →
    let fd := (x.fr s1).toNat
    let fs := (x.fr s1).toNat % 2 ^ 32
    let r := x.rm
    let R (i : Instr) (fn : Nat) (v : FRes) (put : Ctx → Dword → Ctx) : Prop := NatAt s h core x (encA 0x31 d s1 s2 fn) →
      if bits x.fctl 20 16 &&& v.flags ≠ 0 then exec i s = .next (s.codeFault h core x 7 (codeOff x.pc) 0)
      else RunIs i s h core (put { x.step with fctl := x.fctl ||| BitVec.ofNat 32 (v.flags * 16) } (BitVec.ofNat 64 v.bits))
    R (.cvtsd h core d s1 s2) 0x0 (f64.cvtF f32 r fd) (fun y v => y.setF d v)
    ∧ R (.cvtds h core d s1 s2) 0x1 (f32.cvtF f64 r fs) (fun y v => y.setF d v)
    ∧ R (.cvtsg h core d s1 s2) 0x2 (f32.ofIntF r (x.gr s1).toInt) (fun y v => y.setF d v)
    ∧ R (.cvtdg h core d s1 s2) 0x3 (f64.ofIntF r (x.gr s1).toInt) (fun y v => y.setF d v)
    ∧ R (.cvtgs h core d s1 s2) 0x4 (f32.toIntF r fs) (fun y v => y.setG d v)
    ∧ R (.cvtgd h core d s1 s2) 0x5 (f64.toIntF r fd) (fun y v => y.setG d v)
    ∧ R (.trngs h core d s1 s2) 0x6 (f32.toIntF .rtz fs) (fun y v => y.setG d v)
    ∧ R (.trngd h core d s1 s2) 0x7 (f64.toIntF .rtz fd) (fun y v => y.setG d v)
    ∧ R (.mvfg h core d s1 s2) 0x8 (⟨fd, 0⟩) (fun y v => y.setG d v)
    ∧ R (.mvgf h core d s1 s2) 0x9 (⟨(x.gr s1).toNat, 0⟩) (fun y v => y.setF d v)

/-- RELT, NOW, TINFO and CYCN give their value in D. TSET writes IN of a timer of the task, starting a TON at the instant of R334; TGET gives Q and
ELAPSED; TPRE writes PRESET; a timer of another task faults OPERAND. LRD reads a descriptor or carried word of this half's copy, 0 where there
is none; LQW holds its word until the run ends, or queues it at once in background code; an offset outside the areas faults OPERAND.
LMAP gives the loop-map entry. PC is 4 further. -/
def Obligations.NativeTimeTimerAndLoopCommandsComplete : Prop :=
  ∀ h core d s1 s2 s x, d < 32 → s1 < 32 → s2 < 32 →
    let a := x.gr s1
    let b := x.gr s2
    let A (fn : Nat) : Prop := NatAt s h core x (encA 0x3E d s1 s2 fn)
    let G (i : Instr) (v : Nat) : Prop := RunIs i s h core (x.step.setG d (BitVec.ofNat 64 v))
    let k := a.toNat % 4096
    let at' := if x.kind = 0 then x.rel else s.now h
    let lp := a.toNat % 4096
    let off := a.toNat / 2 ^ 16 % 64
    let state := a.toNat / 2 ^ 12 % 2 = 1
    (A 0x1 → G (.relt h core d s1 s2) (if x.kind = 4 then s.now h else x.rel))
    ∧ (A 0x2 → G (.now h core d s1 s2) (s.now h))
    ∧ (A 0x3 → G (.tinfo h core d s1 s2) (x.task + core * 16 + x.kind * 256
        + if s.hstate h = 4 ∧ s.bt (HalfR.halfStatus h) 4 = false then 65536 else 0))
    ∧ (A 0x4 → G (.cycn h core d s1 s2) x.cyc.toNat)
    ∧ (A 0x10 → s.tmOwned h k x.task = true → Gives (.tset h core d s1 s2) s (fun t => t.running h core = some x.step
        ∧ t.bt (Apc.timer h k 0) 2 = b.getLsbD 0 ∧ SameMem s t
        ∧ SameRegs s t (fun u => u = Apc.timer h k 0 ∨ u = Apc.timer h k 4 ∨ u = Apc.timer h k 5)
        ∧ (s.tmKind h k = 1 → s.bt (Apc.timer h k 0) 2 = false → b.getLsbD 0 = true → at' < 2 ^ 64 →
            t.rd64 (Apc.timer h k 4) = at')))
    ∧ (A 0x11 → s.tmOwned h k x.task = true →
        G (.tget h core d s1 s2) ((if s.tmQ h k at' then 1 else 0) + s.tmElapsed h k at' * 2 ^ 32))
    ∧ (A 0x12 → s.tmOwned h k x.task = true → Gives (.tpre h core d s1 s2) s (fun t => t.running h core = some x.step
        ∧ t.rg (Apc.timer h k 1) = b.truncate 32 ∧ SameMem s t ∧ SameRegs s t (fun u => u = Apc.timer h k 1)))
    ∧ (A 0x10 → s.tmOwned h k x.task = false →
        exec (.tset h core d s1 s2) s = .next (s.codeFault h core x 0xA (codeOff x.pc) 0))
    ∧ (A 0x20 → (state → off < 32) → ∀ q, s.copySlotOf h lp = some q →
        G (.lrd h core d s1 s2) (s.rn ((if state then stateBase h q else slotBase h q) + 4 * off)))
    ∧ (A 0x20 → (state → off < 32) → s.copySlotOf h lp = none →
        Gives (.lrd h core d s1 s2) s (fun t => t.running h core = some (x.step.setG d 0)))
    ∧ (A 0x20 → state → 32 ≤ off → exec (.lrd h core d s1 s2) s = .next (s.codeFault h core x 0xA (codeOff x.pc) 0))
    ∧ (A 0x21 → x.kind ≠ 4 → 3 ≤ off → off ≤ 35 → x.lqw.length < 256 → (∀ e ∈ x.lqw, ¬ (e.1 = lp ∧ e.2.1 = off)) →
        RunIs (.lqw h core d s1 s2) s h core { x.step with lqw := x.lqw ++ [(lp, off, b.truncate 32)] })
    ∧ (A 0x21 → x.kind = 4 → 3 ≤ off → off ≤ 35 → (s.copySlotOf h lp).isSome = true → (s.half h).loopq.length < 1024 →
        (∀ e ∈ (s.half h).loopq, ¬ (e.mot = false ∧ e.loop = lp ∧ e.off = off)) →
        Gives (.lqw h core d s1 s2) s (fun t => t.running h core = some x.step
          ∧ (t.half h).loopq = (s.half h).loopq ++ [⟨false, lp, off, b.truncate 32, 16⟩]))
    ∧ (A 0x21 → off < 3 ∨ 35 < off → exec (.lqw h core d s1 s2) s = .next (s.codeFault h core x 0xA (codeOff x.pc) 0))
    ∧ (A 0x22 → G (.lmap h core d s1 s2) (s.rn (loopMapAt h lp)))

/-- LDS and LDS64 give the word or 8 bytes at a station address in D; STS and STS64 write a station address, and a store to DDR changes exactly its
bytes; an address that is misaligned or out of range faults. LOGR enters a record of code 0x0C00 + S1 [7:0] for the task. FCTLR reads FCTL, FCTLW
writes it with reserved bits 0. CHK goes on where S1 is below S2 unsigned, else faults BOUND. ABORT takes the fault USER with S1 as its
address. EXIT ends the run: a cycle waits for its output phase, background code notes its end. The mask of FCTLW and the use of S1 as fault
address of LDS are the model's reading (log entries on native code). -/
def Obligations.NativeStationCommandsComplete : Prop :=
  ∀ h core d s1 s2 s x, d < 32 → s1 < 32 → s2 < 32 →
    let a := x.gr s1
    let b := x.gr s2
    let n := a.toNat
    let A (fn : Nat) : Prop := NatAt s h core x (encA 0x3E d s1 s2 fn)
    let L (i : Instr) (fn m v : Nat) : Prop := A fn → stationFault a m = none → s.busBad h n false = false →
      Gives i s (fun t => t.running h core = some (x.step.setG d (BitVec.ofNat 64 v)) ∧ SameMem s t ∧ SameShadows s t
        ∧ SameRegs s t (fun _ => False))
    L (.lds h core d s1 s2) 0x30 4 (s.readWord (latchKey h core n) n).toNat
    ∧ L (.lds64 h core d s1 s2) 0x32 8 ((s.readWord (latchKey h core n) n).toNat
        + (s.readWord (latchKey h core n) (n + 4)).toNat * 2 ^ 32)
    ∧ (A 0x31 → stationFault a 4 = none → s.busBad h n true = false →
        exec (.sts h core d s1 s2) s = .next ((s.putCtx h core x.step).writeReg h core n (b.truncate 32)))
    ∧ (A 0x31 → stationFault a 4 = none → s.busBad h n true = false → isDdr (lowAddr n) = true →
        Gives (.sts h core d s1 s2) s (fun t => t.running h core = some x.step ∧ t.memNat n 4 = b.toNat % 2 ^ 32
          ∧ (∀ u, u < n ∨ n + 4 ≤ u → t.byte u = s.byte u) ∧ SameShadows s t ∧ SameRegs s t (fun _ => False)))
    ∧ (A 0x33 → stationFault a 8 = none → s.busBad h n true = false →
        Gives (.sts64 h core d s1 s2) s (fun t => t.running h core = some x.step ∧ t.memNat n 8 = b.toNat
          ∧ (∀ u, u < n ∨ n + 8 ≤ u → t.byte u = s.byte u) ∧ SameShadows s t ∧ SameRegs s t (fun _ => False)))
    ∧ (A 0x30 → ∀ code, stationFault a 4 = some code →
        exec (.lds h core d s1 s2) s = .next (s.codeFault h core x code (codeOff x.pc) n))
    ∧ (A 0x40 → x.task < 16 → Gives (.logr h core d s1 s2) s (fun t => t.running h core = some x.step ∧ SameMem s t
        ∧ Reported t h (0x0C00 + n % 256) 0x10 x.task))
    ∧ (A 0x50 → RunIs (.fctlr h core d s1 s2) s h core (x.step.setG d (BitVec.ofNat 64 x.fctl.toNat)))
    ∧ (A 0x51 → RunIs (.fctlw h core d s1 s2) s h core { x.step with fctl := a.truncate 32 &&& 0x1F01F3 })
    ∧ (A 0x60 → n < b.toNat → RunIs (.chk h core d s1 s2) s h core x.step)
    ∧ (A 0x60 → b.toNat ≤ n → exec (.chk h core d s1 s2) s = .next (s.codeFault h core x 9 (codeOff x.pc) 0))
    ∧ (A 0x61 → exec (.abort h core d s1 s2) s = .next (s.codeFault h core x 0xB (codeOff x.pc) n))
    ∧ (A 0x70 → x.kind = 0 → Gives (.exit h core d s1 s2) s (fun t => (t.task h x.task).phase = 3 ∧ SameMem s t
        ∧ SameShadows s t ∧ SameRegs s t (fun _ => False)))
    ∧ (A 0x70 → x.kind = 4 → Gives (.exit h core d s1 s2) s (fun t => (t.core h core).bg = none
        ∧ (t.core h core).bgEnd = some (s.now h) ∧ SameMem s t ∧ SameShadows s t ∧ SameRegs s t (fun _ => False)))
    ∧ (A 0x70 → let y : Ctx := { x with pc := exitLink }
        exec (.exit h core d s1 s2) s = .next ((s.putCtx h core y).runEnd h core y))

/-- A code fault shows in CODE_FAULT, FAULT_PC and FAULT_ADDR of its task. In background code it ends the run for good; in a cycle of a task whose
CODE_CFG asks for a stop the task becomes STOPPED with no cycle. An instruction fetch at a PC that is not a multiple of 4 faults MISALIGNED, in
the guard STACK, outside the code region CODE_RANGE, and a word that is no instruction ILLEGAL_OP. -/
def Obligations.CodeFaultsRecordAndStop : Prop :=
  (∀ (s : State) h c (x : Ctx) code pc addr, x.task < 16 → code < 256 → pc < 2 ^ 32 → addr < 2 ^ 64 → x.kind = 4 →
    let t := s.codeFault h c x code pc addr
    Faulted t h x.task code pc addr ∧ (t.core h c).bg = none ∧ (t.core h c).bgOut = some x.task) ∧
  (∀ (s : State) h c (x : Ctx) code pc addr, x.task < 16 → code < 256 → pc < 2 ^ 32 → addr < 2 ^ 64 → x.kind = 0 →
    s.bt (Apc.codeCfg h x.task) 0 = true →
    let t := s.codeFault h c x code pc addr
    Faulted t h x.task code pc addr ∧ t.taskState h x.task = 1 ∧ (t.task h x.task).phase = 0) ∧
  (∀ (s : State) h c w (x : Ctx) f, IsRun s h c x → (x.kind = 4 ∨ s.taskIc h x.task = false) → x.pc ≠ exitLink →
    (x.pc % 4 ≠ 0 → s.native h c w f = s.codeFault h c x 2 (codeOff x.pc) x.pc)
    ∧ (x.pc % 4 = 0 → (s.region h x x.pc 4).1 = .guard → s.native h c w f = s.codeFault h c x 5 (codeOff x.pc) x.pc)
    ∧ (x.pc % 4 = 0 → (s.region h x x.pc 4).1 = .data ∨ (s.region h x x.pc 4).1 = .stack
        ∨ (s.region h x x.pc 4).1 = .none → s.native h c w f = s.codeFault h c x 4 (codeOff x.pc) x.pc)
    ∧ ∀ v, v < 2 ^ 32 → NatAt s h c x v → definedWord v = false →
        s.native h c w f = s.codeFault h c x 1 (codeOff x.pc) 0)

/-- Where the bytes of the instruction stand at the run's offset: IC_NOP, the pushes, DUP, DROP, SWAP and OVER give the stack of R378; JMP, JZ and JNZ
go to the offset after them plus their signed offset; CALL pushes its return offset, RET takes it; END ends a cycle's execution. DEPTH_MAX is
at least the depth. A stack with too few cells, a push on 256 cells, a call beyond 32 or a RET without one faults IC_STACK. Nothing
else changes. -/
def Obligations.IcStackAndJumpCommandsComplete : Prop :=
  ∀ h core s x,
    let at' (k : Nat) (st : List Word) : Ctx := { x with off := x.off + k, stk := st }
    let U (i : Instr) (op : Nat) (n : Nat) : Prop := x.stk.length < n → IcAt s h core x [op] →
      exec i s = .next (s.codeFault h core x 0x10 x.off 0)
    (IcAt s h core x [0x00] → IcIs (.icNop h core) s h core (at' 1 x.stk))
    ∧ (∀ v, v < 2 ^ 8 → IcAt s h core x [0x01, v] →
        if x.stk.length < 256 then IcIs (.icPushb h core v) s h core (at' 2 (BitVec.ofInt 32 (signedOf 8 v) :: x.stk))
        else exec (.icPushb h core v) s = .next (s.codeFault h core x 0x10 x.off 0))
    ∧ (∀ v, v < 2 ^ 16 → IcAt s h core x [0x02, v % 256, v / 256] → x.stk.length < 256 →
        IcIs (.icPushw h core v) s h core (at' 3 (BitVec.ofInt 32 (signedOf 16 v) :: x.stk)))
    ∧ (∀ v, v < 2 ^ 32 → IcAt s h core x [0x03, v % 256, v / 2 ^ 8 % 256, v / 2 ^ 16 % 256, v / 2 ^ 24] → x.stk.length < 256 →
        IcIs (.icPushl h core v) s h core (at' 5 (BitVec.ofNat 32 v :: x.stk)))
    ∧ (∀ a l, x.stk = a :: l → x.stk.length < 256 → IcAt s h core x [0x04] → IcIs (.icDup h core) s h core (at' 1 (a :: a :: l)))
    ∧ (∀ a l, x.stk = a :: l → IcAt s h core x [0x05] → IcIs (.icDrop h core) s h core (at' 1 l))
    ∧ (∀ b a l, x.stk = b :: a :: l → IcAt s h core x [0x06] → IcIs (.icSwap h core) s h core (at' 1 (a :: b :: l)))
    ∧ (∀ b a l, x.stk = b :: a :: l → x.stk.length < 256 → IcAt s h core x [0x07] →
        IcIs (.icOver h core) s h core (at' 1 (a :: b :: a :: l)))
    ∧ U (.icDup h core) 0x04 1
    ∧ U (.icDrop h core) 0x05 1
    ∧ U (.icSwap h core) 0x06 2
    ∧ U (.icOver h core) 0x07 2
    ∧ (256 ≤ x.stk.length → (∀ v, v < 2 ^ 16 → IcAt s h core x [0x02, v % 256, v / 256] →
          exec (.icPushw h core v) s = .next (s.codeFault h core x 0x10 x.off 0))
        ∧ (∀ v, v < 2 ^ 32 → IcAt s h core x [0x03, v % 256, v / 2 ^ 8 % 256, v / 2 ^ 16 % 256, v / 2 ^ 24] →
          exec (.icPushl h core v) s = .next (s.codeFault h core x 0x10 x.off 0))
        ∧ (IcAt s h core x [0x04] → exec (.icDup h core) s = .next (s.codeFault h core x 0x10 x.off 0))
        ∧ (IcAt s h core x [0x07] → exec (.icOver h core) s = .next (s.codeFault h core x 0x10 x.off 0)))
    ∧ (x.stk = [] → ∀ o, o < 2 ^ 16 →
        (IcAt s h core x [0x61, o % 256, o / 256] → exec (.icJz h core o) s = .next (s.codeFault h core x 0x10 x.off 0))
        ∧ (IcAt s h core x [0x62, o % 256, o / 256] → exec (.icJnz h core o) s = .next (s.codeFault h core x 0x10 x.off 0)))
    ∧ (∀ o, o < 2 ^ 16 →
        let tgt := (((x.off + 3 : Nat) : Int) + signedOf 16 o).toNat
        (IcAt s h core x [0x60, o % 256, o / 256] → IcIs (.icJmp h core o) s h core { x with off := tgt })
        ∧ (∀ a l, x.stk = a :: l → IcAt s h core x [0x61, o % 256, o / 256] →
            IcIs (.icJz h core o) s h core { x with stk := l, off := if a = 0 then tgt else x.off + 3 })
        ∧ (∀ a l, x.stk = a :: l → IcAt s h core x [0x62, o % 256, o / 256] →
            IcIs (.icJnz h core o) s h core { x with stk := l, off := if a = 0 then x.off + 3 else tgt }))
    ∧ (∀ a, a < 2 ^ 24 → IcAt s h core x [0x63, a % 256, a / 2 ^ 8 % 256, a / 2 ^ 16] →
        if x.calls.length < 32 then IcIs (.icCall h core a) s h core { x with calls := (x.off + 4) :: x.calls, off := a }
        else exec (.icCall h core a) s = .next (s.codeFault h core x 0x10 x.off 0))
    ∧ (∀ o l, x.calls = o :: l → IcAt s h core x [0x64] → IcIs (.icRet h core) s h core { x with calls := l, off := o })
    ∧ (x.calls = [] → IcAt s h core x [0x64] → exec (.icRet h core) s = .next (s.codeFault h core x 0x10 x.off 0))
    ∧ (x.kind = 0 → IcAt s h core x [0x65] → Gives (.icEnd h core) s (fun t => (t.task h x.task).phase = 3 ∧ SameMem s t))

/-- Where the bytes of the instruction stand at the run's offset, its operands leave the stack, the result is on top, the offset is past the
instruction, DEPTH_MAX is at least the depth, and nothing else changes. ADD, SUB, MUL, NEG and ABS wrap; MIN, MAX, LIMIT and the
comparisons are signed; LIMIT gives min(max(x, lo), hi); DIV rounds toward zero and MOD has the sign of the dividend; a divisor of 0
gives 0, sets DIV0 of the run and adds 1 to DIV0_CNT, which stays at 4,095; comparisons and BNOT give 1 or 0; SHL and SHR by 32 or more
give 0. Every one of them with too few cells faults IC_STACK (0x10) at its offset. -/
def Obligations.IcIntegerCommandsComplete : Prop :=
  ∀ h core s x,
    let at' (k : Nat) (st : List Word) : Ctx := { x with off := x.off + k, stk := st }
    let U (i : Instr) (bs : List Nat) (n : Nat) : Prop := IcAt s h core x bs → x.stk.length < n →
      exec i s = .next (s.codeFault h core x 0x10 x.off 0)
    let B (i : Instr) (op : Nat) (f : Word → Word → Word) : Prop := U i [op] 2 ∧ (IcAt s h core x [op] →
      ∀ b a l, x.stk = b :: a :: l → IcIs i s h core (at' 1 (f a b :: l)))
    let M (i : Instr) (bs : List Nat) (f : Word → Word) : Prop := U i bs 1 ∧ (IcAt s h core x bs →
      ∀ a l, x.stk = a :: l → IcIs i s h core (at' bs.length (f a :: l)))
    let D (i : Instr) (op : Nat) (f : Word → Word → Word) : Prop := U i [op] 2 ∧ (IcAt s h core x [op] →
      (∀ b a l, x.stk = b :: a :: l → b ≠ 0 → IcIs i s h core (at' 1 (f a b :: l)))
      ∧ ∀ a l, x.stk = 0 :: a :: l → IcIs i s h core { at' 1 (0 :: l) with div0 := true }
        ∧ Gives i s (fun t => t.fd (Apc.icStatus h x.task) 31 20 = min 4095 (s.fd (Apc.icStatus h x.task) 31 20 + 1)))
    B (.icAdd h core) 0x20 (fun a b => a + b)
    ∧ B (.icSub h core) 0x21 (fun a b => a - b)
    ∧ B (.icMul h core) 0x22 (fun a b => a * b)
    ∧ D (.icDiv h core) 0x23 (fun a b => a.sdiv b)
    ∧ D (.icMod h core) 0x24 (fun a b => a.srem b)
    ∧ M (.icNeg h core) [0x25] (fun a => -a)
    ∧ M (.icAbs h core) [0x26] (fun a => if a.toInt < 0 then -a else a)
    ∧ B (.icMin h core) 0x27 (fun a b => if a.toInt < b.toInt then a else b)
    ∧ B (.icMax h core) 0x28 (fun a b => if a.toInt < b.toInt then b else a)
    ∧ U (.icLimit h core) [0x29] 3
    ∧ (IcAt s h core x [0x29] → ∀ hi lo v l, x.stk = hi :: lo :: v :: l → IcIs (.icLimit h core) s h core
        (at' 1 ((let m := if v.toInt < lo.toInt then lo else v; if m.toInt < hi.toInt then m else hi) :: l)))
    ∧ B (.icEq h core) 0x40 (fun a b => if a = b then 1 else 0)
    ∧ B (.icNe h core) 0x41 (fun a b => if a = b then 0 else 1)
    ∧ B (.icLt h core) 0x42 (fun a b => if a.toInt < b.toInt then 1 else 0)
    ∧ B (.icLe h core) 0x43 (fun a b => if a.toInt ≤ b.toInt then 1 else 0)
    ∧ B (.icGt h core) 0x44 (fun a b => if b.toInt < a.toInt then 1 else 0)
    ∧ B (.icGe h core) 0x45 (fun a b => if b.toInt ≤ a.toInt then 1 else 0)
    ∧ B (.icAnd h core) 0x50 (fun a b => a &&& b)
    ∧ B (.icOr h core) 0x51 (fun a b => a ||| b)
    ∧ B (.icXor h core) 0x52 (fun a b => a ^^^ b)
    ∧ M (.icNot h core) [0x53] (fun a => ~~~a)
    ∧ (∀ n, n < 256 → M (.icShl h core n) [0x54, n] (fun a => if n < 32 then a <<< n else 0))
    ∧ (∀ n, n < 256 → M (.icShr h core n) [0x55, n] (fun a => if n < 32 then a >>> n else 0))
    ∧ M (.icBnot h core) [0x56] (fun a => if a = 0 then 1 else 0)

/-- Where the bytes of the instruction stand at the run's offset, its operands leave the stack, the result is on top, the offset is past the
instruction, DEPTH_MAX is at least the depth, and nothing else changes. REAL arithmetic is binary32, rounded to nearest even; every
subnormal operand and result is taken as zero of its sign. A comparison with a NaN gives 0, RNE gives 1. ITOR rounds to nearest even; RTOI
to nearest even and RTOIT toward zero, with 0 for a NaN and the nearer bound for a value out of range. RLIMIT gives min(max(x, lo), hi)
where no operand is a NaN and no two are zeros of unlike sign; otherwise, where R378 states no result, it gives a free value (DESIGN
CHOICE, log entry on RLIMIT). Every one of them with too few cells faults IC_STACK (0x10) at its offset. -/
def Obligations.IcRealCommandsComplete : Prop :=
  ∀ h core s x,
    let at' (st : List Word) : Ctx := { x with off := x.off + 1, stk := st }
    let z (a : Word) : Nat := flush32 a.toNat
    let w (n : Nat) : Word := BitVec.ofNat 32 (flush32 n)
    let nan (a : Word) : Bool := f32.isNan (z a)
    let U (i : Instr) (op n : Nat) : Prop := IcAt s h core x [op] → x.stk.length < n →
      exec i s = .next (s.codeFault h core x 0x10 x.off 0)
    let B (i : Instr) (op : Nat) (f : Word → Word → Word) : Prop := U i op 2 ∧ (IcAt s h core x [op] →
      ∀ b a l, x.stk = b :: a :: l → IcIs i s h core (at' (f a b :: l)))
    let M (i : Instr) (op : Nat) (f : Word → Word) : Prop := U i op 1 ∧ (IcAt s h core x [op] →
      ∀ a l, x.stk = a :: l → IcIs i s h core (at' (f a :: l)))
    let C (i : Instr) (op : Nat) (onNan : Word) (f : Word → Word → Bool) : Prop :=
      B i op (fun a b => if nan a || nan b then onNan else if f a b then 1 else 0)
    B (.icRadd h core) 0x30 (fun a b => w (f32.addF .rne (z a) (z b)).bits)
    ∧ B (.icRsub h core) 0x31 (fun a b => w (f32.subF .rne (z a) (z b)).bits)
    ∧ B (.icRmul h core) 0x32 (fun a b => w (f32.mulF .rne (z a) (z b)).bits)
    ∧ B (.icRdiv h core) 0x33 (fun a b => w (f32.divF .rne (z a) (z b)).bits)
    ∧ M (.icRneg h core) 0x34 (fun a => w (f32.neg (z a)))
    ∧ M (.icRabs h core) 0x35 (fun a => w (f32.absBits (z a)))
    ∧ M (.icRsqrt h core) 0x36 (fun a => w (f32.sqrtF .rne (z a)).bits)
    ∧ U (.icRlimit h core) 0x37 3
    ∧ (IcAt s h core x [0x37] → ∀ hi lo v l, x.stk = hi :: lo :: v :: l →
        let unlike (a b : Word) : Bool := f32.eq (z a) (z b) && decide (z a ≠ z b)
        let m := if f32.lt (z v) (z lo) then z lo else z v
        IcIs (.icRlimit h core) s h core (at' ((
          if nan v || nan lo || nan hi || unlike v lo || unlike v hi || unlike lo hi then Config.rlimitOpen v lo hi
          else BitVec.ofNat 32 (if f32.lt (z hi) m then z hi else m)) :: l)))
    ∧ C (.icReq h core) 0x48 0 (fun a b => f32.eq (z a) (z b))
    ∧ C (.icRne h core) 0x49 1 (fun a b => !f32.eq (z a) (z b))
    ∧ C (.icRlt h core) 0x4A 0 (fun a b => f32.lt (z a) (z b))
    ∧ C (.icRle h core) 0x4B 0 (fun a b => f32.le (z a) (z b))
    ∧ C (.icRgt h core) 0x4C 0 (fun a b => f32.lt (z b) (z a))
    ∧ C (.icRge h core) 0x4D 0 (fun a b => f32.le (z b) (z a))
    ∧ M (.icItor h core) 0x70 (fun a => BitVec.ofNat 32 (f32.ofInt a.toInt))
    ∧ M (.icRtoi h core) 0x71 (fun a => if nan a then 0 else BitVec.ofInt 32 (f32.toInt .rne (-2 ^ 31) (2 ^ 31 - 1) 0 (z a)))
    ∧ M (.icRtoit h core) 0x72 (fun a => if nan a then 0 else BitVec.ofInt 32 (f32.toInt .rtz (-2 ^ 31) (2 ^ 31 - 1) 0 (z a)))

/-- Loads push a BOOL as 0 or 1, an INT sign-extended, or a cell, at a static offset or at a24 plus 4 times a DINT index; stores take a cell and change
exactly their bytes of the data area. IOIN and IOOUT do so with the image word that IO_MAP names. An indexed cell below 0 or past the data
faults IC_DATA; the address that fault shows is the model's reading (log entry on intermediate code). DDR and other registers stay. -/
def Obligations.IcDataAndIoCommandsComplete : Prop :=
  ∀ h core s x,
    let at' (k : Nat) (st : List Word) : Ctx := { x with off := x.off + k, stk := st }
    let o3 (a : Nat) : List Nat := [a % 256, a / 2 ^ 8 % 256, a / 2 ^ 16]
    let o2 (k : Nat) : List Nat := [k % 256, k / 256]
    let W (i : Instr) (y : Ctx) (a n v : Nat) : Prop := Gives i s (fun t => t.running h core = some y
      ∧ t.dataNat h x.task a n = v
      ∧ (∀ b, b < a ∨ a + n ≤ b → t.dataNat h x.task b 1 = s.dataNat h x.task b 1)
      ∧ SameMem s t ∧ SameShadows s t ∧ SameRegs s t (fun r => r = Apc.icStatus h x.task))
    (∀ a, a < 2 ^ 24 → x.stk.length < 256 → IcAt s h core x (0x10 :: o3 a) →
        IcIs (.icLdb h core a) s h core (at' 4 ((if s.dataNat h x.task a 1 = 0 then 0 else 1) :: x.stk)))
    ∧ (∀ a, a < 2 ^ 24 → x.stk.length < 256 → IcAt s h core x (0x11 :: o3 a) →
        IcIs (.icLdi h core a) s h core (at' 4 (BitVec.ofInt 32 (signedOf 16 (s.dataNat h x.task a 2)) :: x.stk)))
    ∧ (∀ a, a < 2 ^ 24 → x.stk.length < 256 → IcAt s h core x (0x12 :: o3 a) →
        IcIs (.icLdd h core a) s h core (at' 4 (BitVec.ofNat 32 (s.dataNat h x.task a 4) :: x.stk)))
    ∧ (∀ a j l, a < 2 ^ 24 → x.stk = j :: l → IcAt s h core x (0x13 :: o3 a) →
        let p := (a : Int) + 4 * j.toInt
        let lim : Int := min (s.rn (Apc.dataLen h x.task)) (2 ^ 24)
        if 0 ≤ p ∧ p + 4 ≤ lim then
          IcIs (.icLdxd h core a) s h core (at' 4 (BitVec.ofNat 32 (s.dataNat h x.task p.toNat 4) :: l))
        else exec (.icLdxd h core a) s = .next (s.codeFault h core x 0x11 x.off (((0x200000000 : Int) + p) % 2 ^ 64).toNat))
    ∧ (∀ a v l, a < 2 ^ 24 → x.stk = v :: l → IcAt s h core x (0x18 :: o3 a) →
        W (.icStb h core a) (at' 4 l) a 1 (if v = 0 then 0 else 1))
    ∧ (∀ a v l, a < 2 ^ 24 → x.stk = v :: l → IcAt s h core x (0x19 :: o3 a) →
        W (.icSti h core a) (at' 4 l) a 2 (v.toNat % 65536))
    ∧ (∀ a v l, a < 2 ^ 24 → x.stk = v :: l → IcAt s h core x (0x1A :: o3 a) → W (.icStd h core a) (at' 4 l) a 4 v.toNat)
    ∧ (∀ a v j l, a < 2 ^ 24 → x.stk = v :: j :: l → IcAt s h core x (0x1B :: o3 a) →
        let p := (a : Int) + 4 * j.toInt
        let lim : Int := min (s.rn (Apc.dataLen h x.task)) (2 ^ 24)
        if 0 ≤ p ∧ p + 4 ≤ lim then W (.icStxd h core a) (at' 4 l) p.toNat 4 v.toNat
        else exec (.icStxd h core a) s = .next (s.codeFault h core x 0x11 x.off (((0x200000000 : Int) + p) % 2 ^ 64).toNat))
    ∧ (∀ k, k < 2 ^ 16 → x.stk.length < 256 → IcAt s h core x (0x80 :: o2 k) →
        IcIs (.icIoin h core k) s h core (at' 3 (BitVec.ofNat 32 (s.dataNat h x.task (s.icIo h x k 0x20) 4) :: x.stk)))
    ∧ (∀ k v l, k < 2 ^ 16 → x.stk = v :: l → IcAt s h core x (0x81 :: o2 k) →
        W (.icIoout h core k) (at' 3 l) (s.icIo h x k 0x28) 4 v.toNat)

/-- Where the bytes of the instruction stand at the run's offset: TMR writes PRESET of the mapped timer as 10 times its cell and IN, and pushes Q as
it is then; TMRE pushes ELAPSED in ticks of 10 ms; both fault OPERAND (0xA) at a timer not assigned to the task. LPSP and LPMD hold word 8 or
word 3 of the mapped loop, LPMD as 0x0003_0000 OR (m AND 3), replacing a held word of that loop and offset; with 256 held words the new one is
dropped with source 22 and LOOP_WR_LOST. LPOUT pushes word 56 of this half's copy, or 0 with no copy, which is noted once a cycle. TIME pushes
the release instant in ms, CYCN the cycle number. UERR reports its record with data 0. HALT ends a cycle's execution, the task to stop
after its output phase; in a start routine the task stops at once (the model's reading, log entry on intermediate code). Too few cells, or a
push on 256, fault IC_STACK (0x10) at the instruction's offset. -/
def Obligations.IcTimerLoopAndRunCommandsComplete : Prop :=
  ∀ h core s x,
    let at' (k : Nat) (st : List Word) : Ctx := { x with off := x.off + k, stk := st }
    let now := if x.kind = 0 then x.rel else s.now h
    let F (i : Instr) (code : Nat) : Prop := exec i s = .next (s.codeFault h core x code x.off 0)
    let push (i : Instr) (k : Nat) (v : Word) : Prop :=
      if x.stk.length < 256 then IcIs i s h core (at' k (v :: x.stk)) else F i 0x10
    let hold (i : Instr) (j o : Nat) (v : Word) (l : List Word) : Prop :=
      if ∃ e ∈ x.lqw, e.1 = j ∧ e.2.1 = o then IcIs i s h core { at' 2 l with
        lqw := x.lqw.map (fun e => if e.1 = j ∧ e.2.1 = o then (j, o, v) else e) }
      else if x.lqw.length < 256 then IcIs i s h core { at' 2 l with lqw := x.lqw ++ [(j, o, v)] }
      else Gives i s (fun t => t.running h core = some (at' 2 l) ∧ Pends t h 22 ∧ Reported t h 0x0B0D 2 j ∧ SameMem s t)
    (∀ n, n < 256 → IcAt s h core x [0x90, n] → let k := s.icTimer h x n
      (x.stk.length < 2 → F (.icTmr h core n) 0x10)
      ∧ ∀ v p l, x.stk = p :: v :: l →
        if s.tmOwned h k x.task = false then F (.icTmr h core n) 0xA
        else Gives (.icTmr h core n) s (fun t =>
          let q := ((s.tmPreset h k (p * 10)).tmIn h k now (decide (v ≠ 0))).tmQ h k now
          t.running h core = some (at' 2 ((if q then 1 else 0) :: l))
          ∧ t.rg (Apc.timer h k 1) = p * 10 ∧ t.bt (Apc.timer h k 0) 2 = decide (v ≠ 0) ∧ SameMem s t ∧ SameShadows s t
          ∧ SameRegs s t (fun r => r = Apc.icStatus h x.task ∨ r = Apc.timer h k 0 ∨ r = Apc.timer h k 1
            ∨ r = Apc.timer h k 4 ∨ r = Apc.timer h k 4 + 4)))
    ∧ (∀ n, n < 256 → IcAt s h core x [0x91, n] → let k := s.icTimer h x n
        if s.tmOwned h k x.task = false then F (.icTmre h core n) 0xA
        else push (.icTmre h core n) 2 (BitVec.ofNat 32 (s.tmElapsed h k now / 10)))
    ∧ (∀ n, n < 256 → IcAt s h core x [0xA0, n] → (x.stk = [] → F (.icLpsp h core n) 0x10)
        ∧ ∀ v l, x.stk = v :: l → hold (.icLpsp h core n) (s.icLoop h x n) 8 v l)
    ∧ (∀ n, n < 256 → IcAt s h core x [0xA1, n] → (x.stk = [] → F (.icLpmd h core n) 0x10)
        ∧ ∀ v l, x.stk = v :: l → hold (.icLpmd h core n) (s.icLoop h x n) 3 (0x00030000 ||| (v &&& 3)) l)
    ∧ (∀ n, n < 256 → IcAt s h core x [0xA2, n] → let j := s.icLoop h x n
        match s.copySlotOf h j with
        | some q => push (.icLpout h core n) 2 (s.rg (slotBase h q + 4 * 56))
        | none => if x.stk.length < 256 then Gives (.icLpout h core n) s (fun t =>
              t.running h core = some (at' 2 (0 :: x.stk)) ∧ j ∈ (t.task h x.task).absent ∧ SameMem s t)
            else F (.icLpout h core n) 0x10)
    ∧ (IcAt s h core x [0xF0] → push (.icTime h core) 1 (BitVec.ofNat 32 (x.rel / 1000000)))
    ∧ (IcAt s h core x [0xF1] → push (.icCycn h core) 1 x.cyc)
    ∧ (IcAt s h core x [0xF2] → (x.stk = [] → F (.icUerr h core) 0x10)
        ∧ ∀ v l, x.stk = v :: l → IcIs (.icUerr h core) s h core (at' 1 l)
          ∧ Gives (.icUerr h core) s (fun t => (t.half h).log.inbox = (s.half h).log.inbox
            ++ [⟨0x0C00 + v.toNat % 256, 0x10, x.task, s.now h, [0, 0]⟩]))
    ∧ (x.kind = 0 → IcAt s h core x [0xFF] → Gives (.icHalt h core) s (fun t => (t.task h x.task).phase = 3
        ∧ (t.task h x.task).ctx = { x with halted := true } ∧ SameMem s t))
    ∧ (x.task < 16 → x.kind ≠ 0 → IcAt s h core x [0xFF] → Gives (.icHalt h core) s (fun t =>
        t.taskState h x.task = 1 ∧ Reported t h 0x0B11 0x10 x.task ∧ SameMem s t))

/-- A write of a DDR address of the own half changes exactly its four bytes. A write of a coefficient word of an EMPTY slot changes exactly that
word's shadow in its writable bits and marks the slot dirty; while its group is pending it is discarded with CMT_LATE_WRITE. A write to a
field-deck block goes onto the link, or is lost while the link is down. A core's write to the other half, or to no window, ends in a bus
error with source 0; a fabric master's write to the other half has no effect (model's reading). -/
def Obligations.RegisterWritesReachTheirPlace : Prop :=
  (∀ h m a v s, s.runs h = true → isDdr (lowAddr a) = true → halfOf a = h →
    Gives (.registerWrite h m a v) s (fun t => t.memNat (h.base + lowAddr a / 4 * 4) 4 = v.toNat ∧ SameShadows s t
      ∧ SameRegs s t (fun _ => False)
      ∧ ∀ b, b < h.base + lowAddr a / 4 * 4 ∨ h.base + lowAddr a / 4 * 4 + 4 ≤ b → t.byte b = s.byte b)) ∧
  (∀ h m e k w v mask s, s.runs h = true → e < 512 → k < 8 → w < 0x1000 → w % 4 = 0 → coefMask w = some mask →
    s.slotState h (8 * e + k) = 0 → s.mapBit (Mod.plcOos h 0) e = false →
    let a := h.base + 0x10000000 + 0x40000 * e + 0x10000 + 0x1000 * k + w
    let g := 18 + e / 128
    let mk : Word := BitVec.ofNat 32 mask
    if s.pend h g then Gives (.registerWrite h m a v) s (fun t => t.bt (Cmt.cmtLateWrite h) g = true ∧ SameShadows s t
      ∧ SameMem s t ∧ SameRegs s t (fun r => r = Cmt.cmtLateWrite h ∨ EventReg h r))
    else Gives (.registerWrite h m a v) s (fun t => t.sh a = (s.sh a &&& ~~~mk) ||| (v &&& mk)
      ∧ (⟨g, some h, 8 * e + k⟩ : CUnit) ∈ t.dirty ∧ (∀ b, b ≠ a → t.sh b = s.sh b) ∧ SameMem s t
      ∧ SameRegs s t (fun _ => False))) ∧
  (∀ h m a v s, s.runs h = true → isDeckBlock (lowAddr a) = true →
    exec (.registerWrite h m a v) s = .next (if (s.half h).linkUp then
      s.modHalf h (fun x => { x with deckTx := x.deckTx ++ [⟨m, lowAddr a / 4 * 4, v⟩] }) else s)) ∧
  (∀ h m a v s, s.runs h = true → inWindow (lowAddr a / 4 * 4) = false ∨
      (inWindow (lowAddr a / 4 * 4) = true ∧ isDeckBlock (lowAddr a / 4 * 4) = false ∧ halfOf a ≠ h ∧ m < 8) →
    Gives (.registerWrite h m a v) s (fun t => Pends t h 0 ∧ (t.half h).busErrAddr = a ∧ (m < 8 → m ∈ (t.half h).dataAbort)
      ∧ SameMem s t ∧ SameShadows s t ∧ SameRegs s t (EventReg h))) ∧
  (∀ h m a v s, s.runs h = true → inWindow (lowAddr a / 4 * 4) = true → isDeckBlock (lowAddr a / 4 * 4) = false →
    halfOf a ≠ h → 8 ≤ m → exec (.registerWrite h m a v) s = .next s)

/-- DECK_ITEM_ARRIVE takes the oldest write off the field-deck link; with none on it, nothing happens. While the link is down or the field deck
in reset the write is lost. A write to a group that the half does not own counts in DECK_REFUSED_CNT, which stays at 2^32 - 1, with source 1 at
the first, and a refused word of a task's output list gives its error entry besides; it has no other effect. A half that owns the group acts on
a command register, writes a listed register (the limit CMP_LO of a channel: its shadow alone, marked dirty, while group 9 is neither pending
nor locked), and changes nothing at a live view or an unlisted offset. CROSS_HALF_READ of a field-deck block reads the block; of an
address in no window, or while the other half cannot be reached, it is a bus error and reads 0; else it reads the other half's word over the
mirror link, with a latch that is the reading core's own. A half that does not run reads nothing. -/
def Obligations.LinkItemsAndCrossHalfReadsComplete : Prop :=
  (∀ h (s : State), (s.half h).deckTx = [] → exec (.deckItemArrive h) s = .next s) ∧
  (∀ h i l (s : State), (s.half h).deckTx = i :: l →
    let u := s.modHalf h (fun x => { x with deckTx := l })
    if (s.half h).linkUp = false ∨ s.deck.inReset = true then exec (.deckItemArrive h) s = .next u
    else if s.owns h (resGroup i.addr) = false then
      (16 ≤ i.master → exec (.deckItemArrive h) s
        = .next ((u.deckRefuse h).outputRefused h (i.master - 16) (resGroup i.addr)))
      ∧ (i.master < 16 → Gives (.deckItemArrive h) s (fun t => (t.half h).deckTx = l
          ∧ t.rn (Mod.deckRefusedCnt h) = min (2 ^ 32 - 1) (s.rn (Mod.deckRefusedCnt h) + 1)
          ∧ (s.runs h = true → s.rn (Mod.deckRefusedCnt h) = 0 → Pends t h 1) ∧ SameMem s t ∧ SameShadows s t
          ∧ SameRegs s t (fun r => r = Mod.deckRefusedCnt h ∨ EventReg h r)))
    else if (liveAlias i.addr).isSome then exec (.deckItemArrive h) s = .next u
    else match u.cmdDeck h i.addr i.val with
      | some t => exec (.deckItemArrive h) s = .next t
      | none => match descOf i.addr with
        | some d => exec (.deckItemArrive h) s = .next (u.writeListed h i.addr d i.val)
        | none => exec (.deckItemArrive h) s = .next u) ∧
  (∀ h i l s c, c < 256 → (s.half h).deckTx = i :: l → (s.half h).linkUp = true → s.deck.inReset = false →
    i.addr = Anc.cmpLo c → s.owns h (c / 16) = true → s.pend h 9 = false → s.locked h 9 = false →
    Gives (.deckItemArrive h) s (fun t => (t.half h).deckTx = l ∧ t.sh (Anc.cmpLo c) = i.val
      ∧ (⟨9, none, c⟩ : CUnit) ∈ t.dirty ∧ (∀ b, b ≠ Anc.cmpLo c → t.sh b = s.sh b) ∧ SameMem s t
      ∧ SameRegs s t (fun _ => False))) ∧
  (∀ h core a (s : State),
    let o := lowAddr a
    let b := o + h.other.base
    let put (t : State) (w : Word) : State :=
      t.modHalf h (fun x => { x with readData := Map.set (fun _ => 0) x.readData core w })
    if s.runs h = false then exec (.crossHalfRead h core a) s = .next s
    else if isDeckBlock o then exec (.crossHalfRead h core a) s = .next (put s (s.readWord core b))
    else if inWindow o = false ∨ s.mirrorUp = false ∨ s.runs h.other = false then
      Gives (.crossHalfRead h core a) s (fun t => Map.get (fun _ => 0) (t.half h).readData core = 0
        ∧ (t.half h).busErrAddr = b ∧ Pends t h 0 ∧ (core < 8 → core ∈ (t.half h).dataAbort)
        ∧ SameMem s t ∧ SameShadows s t ∧ SameRegs s t (EventReg h))
    else exec (.crossHalfRead h core a) s
        = .next ((put s (s.readWord (latchKey h core b) b)).readLatch (latchKey h core b) b)
      ∧ (isDdr o = true → Gives (.crossHalfRead h core a) s (fun t => Map.get (fun _ => 0) (t.half h).readData core
          = BitVec.ofNat 32 (s.memNat (h.other.base + o / 4 * 4) 4)
          ∧ SameMem s t ∧ SameShadows s t ∧ SameRegs s t (EventReg h))))

/-- R53: the reserved bits [31:22] of CMT_STROBE change nothing about a strobe that names a group. A strobe whose only set bits are reserved
changes no shadow, no mark, no memory and no register but CMT_STROBE_REFUSED, whose bit 31 it sets, and the event controller's own
registers that show its source 2. -/
def Obligations.StrobeOfReservedBitsIsRefused : Prop :=
  (∀ h (groups : Word) s, groups &&& 0x3FFFFF ≠ 0 →
    exec (.cmtStrobe h groups) s = exec (.cmtStrobe h (groups &&& 0x3FFFFF)) s) ∧
  (∀ h (groups : Word) s, s.runs h = true → groups ≠ 0 → groups &&& 0x3FFFFF = 0 →
    Gives (.cmtStrobe h groups) s (fun t => t.bt (Cmt.cmtStrobeRefused h) 31 = true ∧ t.dirty = s.dirty
      ∧ t.marked = s.marked ∧ SameMem s t ∧ SameShadows s t
      ∧ (∀ n, n < 31 → t.bt (Cmt.cmtStrobeRefused h) n = s.bt (Cmt.cmtStrobeRefused h) n)
      ∧ SameRegs s t (fun r => r = Cmt.cmtStrobeRefused h ∨ EventReg h r)))

/-- CMT_STROBE naming one group other than 5, 9, 14 and 17, which have rules of their own, while it is not pending marks for commit every dirty unit
that the half may act on, keeps the other marks, sets the group's pending bit and counts it; while it is pending it sets the group's bit in
CMT_STROBE_REFUSED and marks nothing. -/
def Obligations.StrobeMarksTheDirtyUnits : Prop :=
  ∀ h (groups : Word) g s, s.runs h = true → namedGroups groups = [g] → g ≠ 5 → g ≠ 9 → g ≠ 14 → g ≠ 17 →
    if s.pend h g then Gives (.cmtStrobe h groups) s (fun t => t.bt (Cmt.cmtStrobeRefused h) g = true
      ∧ t.marked = s.marked ∧ t.dirty = s.dirty ∧ SameMem s t ∧ SameShadows s t
      ∧ SameRegs s t (fun r => r = Cmt.cmtStrobeRefused h ∨ EventReg h r))
    else Gives (.cmtStrobe h groups) s (fun t => t.pend h g = true ∧ t.dirty = s.dirty
      ∧ (∀ u, u ∈ t.marked ↔ u ∈ s.marked ∨ (u ∈ s.dirty ∧ s.actable h g u = true))
      ∧ t.rg (Cmt.commitCnt h g) = s.rg (Cmt.commitCnt h g) + 1 ∧ SameMem s t ∧ SameShadows s t
      ∧ SameRegs s t (fun r => r = Cmt.cmtPending .a ∨ r = Cmt.cmtPending .b ∨ r = Cmt.commitCnt .a g
          ∨ r = Cmt.commitCnt .b g))

/-- R54, with R55's limit to the units that the half may act on: after CMT_ABANDON every shadow of a dirty unit of a named group that is not pending
equals its live value (bits of a register that lie outside its shadow apart), that unit is no longer dirty, every other shadow and dirty mark
is as before; a named group that is pending has its bit set in CMT_STROBE_REFUSED. -/
def Obligations.AbandonReloadsTheDirtyUnits : Prop :=
  ∀ h (groups : Word) s, s.runs h = true → Gives (.cmtAbandon h groups) s (fun t =>
    let hit (u : CUnit) : Prop := u ∈ s.dirty ∧ u.grp ∈ namedGroups groups ∧ s.pend h u.grp = false
      ∧ s.actable h u.grp u = true
    (∀ a u, unitOf a = some u → hit u → t.sh a &&& ~~~directMask a = s.rg a &&& ~~~directMask a)
    ∧ (∀ a, (∀ u, unitOf a = some u → ¬ hit u) → t.sh a = s.sh a)
    ∧ (∀ u, u ∈ t.dirty ↔ u ∈ s.dirty ∧ ¬ hit u)
    ∧ (∀ g, g ∈ namedGroups groups → s.pend h g = true → t.bt (Cmt.cmtStrobeRefused h) g = true)
    ∧ SameMem s t)

/-- No step leaves a unit half committed. The copy of a unit gives every register of the unit its shadow's value (bits outside the shadow apart)
and leaves every other live value, every shadow and all memory; the unit is no longer dirty or marked, other marks stay. UNIT_COMMIT of a
marked unit of the groups 6 and 14, not within 2 us of a strobe of group 14, is exactly that copy, with the group's pending bit cleared when no unit waits; a unit that is not marked
while another waits stays as it is; and an empty strobe's pending bit clears. -/
def Obligations.UnitCommitIsAtomic : Prop :=
  (∀ (s : State) (u : CUnit), (∀ a, (s.copyUnit u).rg a =
        if unitOf a = some u then (s.sh a &&& ~~~directMask a) ||| (s.rg a &&& directMask a) else s.rg a)
      ∧ SameShadows s (s.copyUnit u) ∧ SameMem s (s.copyUnit u)
      ∧ (∀ v, v ∈ (s.copyUnit u).dirty ↔ v ∈ s.dirty ∧ v ≠ u)
      ∧ (∀ v, v ∈ (s.copyUnit u).marked ↔ v ∈ s.marked ∧ v ≠ u)) ∧
  (∀ h g idx s, s.runs h = true → g = 6 ∨ g = 14 → (⟨g, some h, idx⟩ : CUnit) ∈ s.marked →
    (g = 14 → s.pwrLate h h = false) →
    Gives (.unitCommit h g idx) s (fun t =>
      (∀ a, a ≠ Cmt.cmtPending h → t.rg a = if unitOf a = some ⟨g, some h, idx⟩ then
          (s.sh a &&& ~~~directMask a) ||| (s.rg a &&& directMask a) else s.rg a)
      ∧ (∀ v, v ∈ t.dirty ↔ v ∈ s.dirty ∧ v ≠ ⟨g, some h, idx⟩)
      ∧ (∀ v, v ∈ t.marked ↔ v ∈ s.marked ∧ v ≠ ⟨g, some h, idx⟩)
      ∧ ((∀ v ∈ t.marked, ¬ (v.grp = g ∧ v.half = some h)) → t.pend h g = false)
      ∧ SameShadows s t ∧ SameMem s t)) ∧
  (∀ h g idx s, s.runs h = true → isDeckGroup g = false → (⟨g, some h, idx⟩ : CUnit) ∉ s.marked →
    s.waiting h g = true → exec (.unitCommit h g idx) s = .next s) ∧
  (∀ h g idx s, s.runs h = true → isDeckGroup g = false → g ≠ 17 → s.waiting h g = false → s.pend h g = true →
    Gives (.unitCommit h g idx) s (fun t => t.pend h g = false ∧ SameShadows s t ∧ SameMem s t
      ∧ SameRegs s t (fun r => r = Cmt.cmtPending h)))

/-- With the loader idle IMG_CHECK shows CHECKING and counts CHECK_SEQ with its results cleared; IMG_PARTNER_COPY shows COPYING; IMG_STORE moves ACTIVE to
PREVIOUS and starts the store; busy, each only sets CMD_REFUSED. The end of a check leaves CHECKING with source 8; a structural error shows
REFUSED with its FAULT and FAIL_OFFSET; an automatic copy that is not refused is strobed. A copy that has arrived
enters the raw staging area and is checked. The end of a store shows its result with source 11. Mirror link up
makes a half with another image than its LEAD partner copy it. A start image that checks READY is strobed; with no source left the half is
NO_IMAGE. -/
def Obligations.LoaderCommandsComplete : Prop :=
  (∀ h s, s.runs h = true → s.imgBusy h = false →
    Gives (.imageCheck h) s (fun t => t.fd (Mod.imgStatus h) 2 0 = 1 ∧ t.fd (Mod.imgStatus h) 7 4 = 0
      ∧ t.fd (Mod.imgStatus h) 31 16 = (s.fd (Mod.imgStatus h) 31 16 + 1) % 65536 ∧ t.rn (Mod.imgFailOffset h) = 0
      ∧ t.rn (Mod.imgClampCnt h) = 0 ∧ t.rn (Mod.imgReportDropped h) = 0 ∧ SameMem s t ∧ SameShadows s t
      ∧ SameRegs s t (fun r => r = Mod.imgStatus h ∨ r = Mod.imgFailOffset h ∨ r = Mod.imgClampCnt h
          ∨ r = Mod.imgReportDropped h))) ∧
  (∀ h s, s.runs h = true → s.imgBusy h = true → ∀ i ∈ [Instr.imageCheck h, .imageStore h, .imagePartnerCopy h],
    Gives i s (fun t => t.bt (Mod.imgStatus h) 10 = true ∧ SameMem s t ∧ SameShadows s t ∧ (t.half h).img = (s.half h).img
      ∧ SameRegs s t (fun r => r = Mod.imgStatus h))) ∧
  (∀ h s, s.runs h = true → s.fd (Mod.imgStatus h) 2 0 = 1 →
    let x := (s.half h).img
    let u := (s.modImg h (fun y => { y with copying := none, auto := false })).checkRaw h x.chkLen x.copying.isSome
    Pends u h 8 ∧ u.fd (Mod.imgStatus h) 2 0 ∈ [4, 2, 0, 5]
    ∧ exec (.imageCheckDone h) s = .next (if x.auto = true ∧ u.fd (Mod.imgStatus h) 2 0 ≠ 4 then u.imgStrobe h else u)) ∧
  (∀ h e s, s.runs h = true → s.fd (Mod.imgStatus h) 2 0 = 1 →
    let len := (s.half h).img.chkLen
    parseImage (s.bytes (h.base + 0x40000000) (if 0x20000000 < len then 140 else len)) len (s.fd (Mod.idHw h) 7 0)
      (s.fd (Mod.idFw h) 15 0) (if s.fd (Mod.strapFaults h) 5 0 ≠ 0 then none else some (s.fd (Mod.straps h) 5 0))
      (if s.hasImage h then some (s.activeId h) else none) = .error e →
    Gives (.imageCheckDone h) s (fun t => t.fd (Mod.imgStatus h) 2 0 = 4 ∧ t.fd (Mod.imgStatus h) 7 4 = e.fault % 16
      ∧ t.rn (Mod.imgFailOffset h) = e.off % 2 ^ 32 ∧ (t.half h).img.ready = [] ∧ Pends t h 8)) ∧
  (∀ h s, s.runs h = true → s.imgBusy h = false → s.fd (Mod.imgStatus h) 13 12 ≠ 1 → s.hasImage h = true →
    Gives (.imageStore h) s (fun t => t.fd (Mod.imgStatus h) 13 12 = 1 ∧ (t.half h).img.slotA = none
      ∧ (t.half h).img.storing = some ⟨s.activeId h, (s.half h).img.active⟩
      ∧ ((s.half h).img.slotA ≠ none → (t.half h).img.slotP = (s.half h).img.slotA) ∧ SameMem s t ∧ SameShadows s t
      ∧ SameRegs s t (fun r => r = Mod.imgStatus h))) ∧
  (∀ h ok x s, s.runs h = true → (s.half h).img.storing = some x →
    Gives (.imageStoreDone h ok) s (fun t => t.fd (Mod.imgStatus h) 13 12 = (if ok then 2 else 3) ∧ Pends t h 11
      ∧ (t.half h).img.storing = none ∧ (t.half h).img.slotA = (if ok then some x else none) ∧ SameMem s t)) ∧
  (∀ h x s, s.runs h = true → s.partnerImage h = some x → s.imgBusy h = false →
    Gives (.imagePartnerCopy h) s (fun t => t.fd (Mod.imgStatus h) 2 0 = 6 ∧ (t.half h).img.copying = some x
      ∧ SameMem s t ∧ SameShadows s t ∧ SameRegs s t (fun r => r = Mod.imgStatus h))) ∧
  (∀ h x s, s.runs h = true → s.fd (Mod.imgStatus h) 2 0 = 6 → s.mirrorUp = true → s.runs h.other = true →
    (s.half h).img.copying = some x →
    Gives (.partnerCopyDone h) s (fun t => t.fd (Mod.imgStatus h) 2 0 = 1
      ∧ t.fd (Mod.imgLen h) 29 0 = (imageBytes s.deck.straps x).length % 2 ^ 30
      ∧ (t.half h).img.chkLen = t.fd (Mod.imgLen h) 29 0
      ∧ (∀ i b, i < 0x20000000 → (imageBytes s.deck.straps x)[i]? = some b → t.byte (h.base + 0x40000000 + i) = b)
      ∧ ∀ a, a < h.base + 0x40000000 ∨ h.base + 0x60000000 ≤ a → t.byte a = s.byte a)) ∧
  (∀ s, s.runs .a = true → s.runs .b = true → s.hstate .a = 4 → s.activeId .a ≠ s.activeId .b → s.hasImage .a = true →
    s.imgBusy .b = false → Gives .mirrorLinkUp s (fun t => t.mirrorUp = true ∧ t.fd (Mod.imgStatus .b) 2 0 = 6
      ∧ (t.half .b).img.copying = some ⟨s.activeId .a, s.a.img.active⟩ ∧ SameMem s t)) ∧
  (∀ h len y s, s.runs h = true → s.pend h 17 = false → s.hasImage h = false → s.fd (Mod.straps h) 10 9 = 0 →
    (s.half h).img.slotA = some y → (s.half h).img.trial = 0 → (s.half h).img.partnerMark = [] →
    let u := (((((s.fw (Mod.imgSource h) 1 0 0).sb (Mod.imgSource h) 2 false).modImg h (fun x =>
      { x with trial := 1 })).putImage h y).imgBegin h)
    (u.checkRaw h (u.half h).img.chkLen true).fd (Mod.imgStatus h) 2 0 = 2 →
    Gives (.startImageLoaded h len) s (fun t => t.pend h 17 = true ∧ t.fd (Mod.imgSource h) 5 4 = 1
      ∧ t.fd (Mod.imgStatus h) 2 0 = 3 ∧ (t.half h).img.starting = true)) ∧
  (∀ h len s, s.runs h = true → s.pend h 17 = false → s.hasImage h = false → s.fd (Mod.straps h) 10 9 = 0 →
    (s.half h).img.slotA = none → (s.half h).img.slotP = none → (s.half h).img.trial = 0 → s.mirrorUp = false →
    s.fd (Mod.imgStatus h) 2 0 ≠ 2 →
    Gives (.startImageLoaded h len) s (fun t => t.fd (Mod.imgStatus h) 2 0 = 5 ∧ t.hstate h = 1 ∧ SameMem s t))

/-- A partner's mark with the same CRC pairs a marked region; with another it is dropped, by the partner too unless its
activation commits without pairing; of a region not marked here it is kept. A mark that stays
unpaired past IMG_PAIR_TIMEOUT is dropped with source 10. The commit of a paired region unmarks it and makes it active: every commit-group
register of the power region takes its image word, and its reset value where the region is removed; the route region becomes the table whose
changed entries wait. A commit of group 5 that has waited 60 s is abandoned: its shadows take the live values. -/
def Obligations.RegionCommandsComplete : Prop :=
  (∀ h r c s, s.runs h = true → s.mirrorUp = true → s.runs h.other = true → s.markCrc h r = some c →
    s.markCrc h.other r = some c → (s.half h).img.actFree = false →
    Gives (.regionPairMark h r) s (fun t => r ∈ (t.half h).img.paired ∧ t.marked = s.marked ∧ SameMem s t ∧ SameShadows s t
      ∧ SameRegs s t (fun _ => False))) ∧
  (∀ h r c d s, s.runs h = true → s.mirrorUp = true → s.runs h.other = true → s.markCrc h r = some c →
    s.markCrc h.other r = some d → c ≠ d → (s.half h).img.actFree = false →
    Gives (.regionPairMark h r) s (fun t => t.regionMarked h r = false ∧ t.readyCopy h r = none
      ∧ if (s.half h.other).img.actFree then t.regionMarked h.other r = true
        else t.regionMarked h.other r = false ∧ t.readyCopy h.other r = none)) ∧
  (∀ h r d s, s.runs h = true → s.mirrorUp = true → s.runs h.other = true → s.markCrc h r = none →
    s.markCrc h.other r = some d →
    Gives (.regionPairMark h r) s (fun t => (r, d) ∈ (t.half h).img.partnerMark ∧ t.marked = s.marked ∧ SameMem s t)) ∧
  (∀ h r c s, s.runs h = true → s.regionMarked h r = true → s.readyCopy h r = some c → s.pairOk h r = false →
    Map.get (fun _ => 0) (s.half h).strobeT 17 + clampNat 1 10000 (s.fd (Mod.imgPairTimeout h) 13 0) * 1000000 ≤ s.now h →
    Gives (.pairTimeout h r) s (fun t => t.regionMarked h r = false ∧ t.readyCopy h r = none ∧ Pends t h 10)) ∧
  (∀ h c s, s.runs h = true → s.regionMarked h 4509 = true → s.readyCopy h 4509 = some c → s.pairOk h 4509 = true →
    (⟨14, some h, 0⟩ : CUnit) ∉ s.marked →
    Gives (.regionCommit h 4509) s (fun t => t.regionMarked h 4509 = false
      ∧ t.activeCopy h 4509 = (if c.remove then none else some c)
      ∧ ∀ o d, o < 0x80000 → descOf (0x1400000 + o) = some d → grpOf (0x1400000 + o) d = some 14 →
          let k := h.base + 0x1400000 + o
          let w := if c.remove then resetWord s.deck.straps k else c.word s.deck.straps 4509 o
          t.rg k &&& ~~~directMask k = w &&& ~~~directMask k ∧ t.sh k &&& ~~~directMask k = w &&& ~~~directMask k)) ∧
  (∀ h c s, s.runs h = true → s.regionMarked h 4474 = true → s.readyCopy h 4474 = some c → s.pairOk h 4474 = true →
    Gives (.regionCommit h 4474) s (fun t => t.regionMarked h 4474 = false
      ∧ t.activeCopy h 4474 = (if c.remove then none else some c)
      ∧ (t.half h).routeNew = (if c.remove then [] else c.words) ∧ (t.half h).route = (s.half h).route)) ∧
  (∀ s, lidUnit ∈ s.marked → s.deck.lid.waitT + 15000000000 ≤ s.deck.ticks → s.regionMarked .a 4476 = false →
    s.regionMarked .b 4476 = false →
    Gives .abandonedTripped s (fun t => lidUnit ∉ t.marked ∧ lidUnit ∉ t.dirty ∧ t.fd Lid.lidStatus 8 6 = 3 ∧ SameMem s t
      ∧ ∀ a, unitOf a = some lidUnit → t.sh a &&& ~~~directMask a = s.rg a &&& ~~~directMask a))

/-- A release of an idle CYCLIC task in a LEAD half makes it released at its instant, shown in RELEASE; one that finds the last cycle not ended is skipped
with source 16 and its record. The input phase puts the task on its core, RUNNING, at its cycle entry. The output phase counts the cycle, ends it
and rests the task. A finished writeback becomes the newest set. A cycle that has reached its limit makes the task HUNG, and no other. The error task is released while an entry
waits. Background code starts at its entry on a free core. -/
def Obligations.TaskCycleCommandsComplete : Prop :=
  (∀ h k s, k < 16 → s.runs h = true → s.hstate h = 4 → s.taskState h k = 2 → s.taskKind h k ≠ 2 → (s.task h k).phase = 0 →
    s.switchDue h k = false →
    let r := releaseAt (s.releaseTiming h k) (s.now h)
    (∀ l, (s.task h k).lastInst = some l → l < r) → (s.task h k).notBefore ≤ r →
    Gives (.taskRelease h k) s (fun t => (t.task h k).phase = 1 ∧ (t.task h k).release = r ∧ t.rd64 (Apc.releaseLo h k) = r
      ∧ SameMem s t ∧ SameShadows s t
      ∧ SameRegs s t (fun a => a = Apc.releaseLo h k ∨ a = Apc.releaseLo h k + 4 ∨ EventReg h a))) ∧
  (∀ h k s, k < 16 → s.runs h = true → s.taskState h k = 3 → s.taskKind h k ≠ 2 → (s.task h k).phase ≠ 0 →
    let r := releaseAt (s.releaseTiming h k) (s.now h)
    (∀ l, (s.task h k).lastInst = some l → l < r) → (s.task h k).notBefore ≤ r →
    Gives (.taskRelease h k) s (fun t => (t.task h k).phase = (s.task h k).phase ∧ (t.task h k).lastInst = some r
      ∧ t.bt (Apc.taskStatus h k) 3 = true ∧ Pends t h 16 ∧ Reported t h 0x0B01 0x10 k ∧ SameMem s t)) ∧
  (∀ h k s, k < 16 → s.runs h = true → (s.task h k).phase = 1 → (s.task h k).waitSet = none → (s.task h k).held = false →
    s.canRun h k = true →
    Gives (.inputPhase h k) s (fun t => (t.task h k).phase = 2 ∧ t.taskState h k = 3
      ∧ (t.task h k).ctx.kind = 0 ∧ (t.task h k).ctx.pc = 0x100000000 + s.hdr h k 8 ∧ (t.task h k).ctx.off = s.hdr h k 8
      ∧ (t.task h k).ctx.rel = (s.task h k).release
      ∧ (t.core h (s.taskCore h k)).stack = k :: (s.core h (s.taskCore h k)).stack)) ∧
  (∀ h k s, k < 16 → s.runs h = true → (s.task h k).phase = 3 → (s.task h k).ctx.halted = false →
    Gives (.taskCycleEnd h k) s (fun t => (t.task h k).phase = 0 ∧ t.rg (Apc.cycleCnt h k) = s.rg (Apc.cycleCnt h k) + 1
      ∧ t.taskState h k = (if s.hstate h = 4 then 2 else 4))) ∧
  (∀ h k r s, s.runs h = true → (s.task h k).writing = some r →
    Gives (.retainedWritebackDone h k) s (fun t => (t.task h k).writing = none ∧ (t.task h k).newest = some r
      ∧ t.bt (Apc.taskStatus h k) 5 = false ∧ SameMem s t ∧ SameRegs s t (fun a => a = Apc.taskStatus h k))) ∧
  (∀ h k s, k < 16 → s.runs h = true → (s.task h k).phase = 1 ∨ (s.task h k).phase = 2 ∨ (s.task h k).phase = 6 →
    (s.hungAt h k ≤ s.now h →
      Gives (.taskHung h k) s (fun t => t.taskState h k = 5 ∧ (t.task h k).phase = 0 ∧ Reported t h 0x0B02 0x10 k))
    ∧ (s.now h < s.hungAt h k → exec (.taskHung h k) s = .next s)) ∧
  (∀ h k s, s.runs h = true → s.hstate h = 4 →
    (List.range 16).find? (fun n => decide (s.taskState h n ≠ 0) && decide (s.taskKind h n = 2)) = some k →
    s.fd (Apc.errqWp h) 7 0 ≠ s.fd (Apc.errqRp h) 7 0 → s.taskState h k = 2 → (s.task h k).phase = 0 →
    (s.task h k).errEnd = 0 → (s.task h k).notBefore ≤ s.now h → s.switchDue h k = false →
    Gives (.errorTaskRelease h) s (fun t => (t.task h k).phase = 1 ∧ (t.task h k).release = s.now h ∧ SameMem s t)) ∧
  (∀ h c k s, s.runs h = true → s.hstate h = 4 → s.bgTask h c = some k → (s.core h c).bg = none →
    (s.core h c).stack = [] → (s.core h c).bgEnd = none → (s.core h c).bgOut = none → (s.half h).coreStopped.contains c = false →
    Gives (.backgroundRestart h c) s (fun t => ∃ y, t.running h c = some y ∧ y.kind = 4 ∧ y.task = k
      ∧ y.pc = 0x100000000 + s.hdr h k 0x18 ∧ SameMem s t ∧ SameShadows s t ∧ SameRegs s t (fun _ => False)))

/-- RESTART_WARM and RESTART_COLD, with no switch waiting, make every defined task STARTING with its kind and show it in APC_STATUS. STOP_ALL and TASK_STOP
make their tasks STOPPED with no cycle. START_WARM and START_COLD start a STOPPED or HUNG task. CLEAR_COUNTS clears exactly the counts of R352 and
R373. The end of the build of a cold start leaves the initial data and both retained sets made from it. -/
def Obligations.TaskStartAndStopCommandsComplete : Prop :=
  (∀ h s, s.runs h = true → s.hstate h = 4 → (∀ k, k < 16 → (s.task h k).prep = 0) →
    let P (kind : Nat) (t : State) : Prop := t.fd (Apc.apcStatus h) 5 4 = kind ∧ t.fd (Apc.apcStatus h) 7 6 = 1 ∧ SameMem s t
      ∧ ∀ k, k < 16 → s.taskState h k ≠ 0 → t.taskState h k = 6 ∧ (t.task h k).phase = 4 ∧ (t.task h k).start = kind
          ∧ (t.task h k).whole = true
    Gives (.restartWarm h) s (P 2) ∧ Gives (.restartCold h) s (P 1)) ∧
  (∀ h s, s.runs h = true → s.hstate h = 4 → Gives (.stopAll h) s (fun t =>
    ∀ k, k < 16 → s.taskState h k ≠ 0 → s.taskState h k ≠ 1 → t.taskState h k = 1 ∧ (t.task h k).phase = 0)) ∧
  (∀ h k s, k < 16 → s.runs h = true → s.hstate h = 4 → s.taskState h k ≠ 0 → s.taskState h k ≠ 1 →
    Gives (.taskStop h k) s (fun t => t.taskState h k = 1 ∧ (t.task h k).phase = 0 ∧ Reported t h 0x0B03 0x10 k)) ∧
  (∀ h k s, k < 16 → s.runs h = true → s.hstate h = 4 → s.taskState h k = 1 ∨ s.taskState h k = 5 → (s.task h k).prep = 0 →
    let P (kind : Nat) (t : State) : Prop := t.taskState h k = 6 ∧ (t.task h k).phase = 4 ∧ (t.task h k).start = kind
      ∧ (t.task h k).whole = false ∧ SameMem s t
    Gives (.startWarm h k) s (P 2) ∧ Gives (.startCold h k) s (P 1)) ∧
  (∀ h k s, k < 16 → s.runs h = true → Gives (.taskClearCounts h k) s (fun t => t.rn (Apc.overrunCnt h k) = 0
    ∧ t.rn (Apc.execMax h k) = 0 ∧ t.rn (Apc.startLate h k) = 0 ∧ t.fd (Apc.codeFault h k) 31 16 = 0
    ∧ t.fd (Apc.codeFault h k) 15 0 = s.fd (Apc.codeFault h k) 15 0 ∧ t.fd (Apc.icStatus h k) 31 20 = 0
    ∧ t.fd (Apc.icStatus h k) 16 8 = 0 ∧ SameMem s t ∧ SameShadows s t
    ∧ SameRegs s t (fun a => a = Apc.overrunCnt h k ∨ a = Apc.execMax h k ∨ a = Apc.startLate h k ∨ a = Apc.codeFault h k
        ∨ a = Apc.icStatus h k))) ∧
  (∀ h k c s, k < 16 → s.runs h = true → (s.task h k).phase = 4 → (s.task h k).start = 1 →
    s.activeCopy h (taskRegion k) = some c →
    Gives (.restartBuildDone h k) s (fun t => (t.task h k).data = c.initData (s.fd (Apc.dataLen h k) 28 0)
      ∧ (t.task h k).ret0.isSome = true ∧ (t.task h k).ret1 = (t.task h k).ret0 ∧ (t.task h k).phase ≠ 4))

/-- TASK_PREPARE_DONE puts the new data beside the old. TASK_CARRY, while no cycle runs, carries a variable of unchanged type byte for byte and readies the
switch. LOOP_QUEUE_WRITE of a group that is not pending writes the queued word to its loop's shadow and strobes the group. TIMER_IN_WRITE sets IN, and
a rising IN of a TON starts it at the instant of the access. -/
def Obligations.OnlineChangeQueueAndTimerCommandsComplete : Prop :=
  (∀ h k c s, s.runs h = true → s.readyCopy h (taskRegion k) = some c → s.regionMarked h (taskRegion k) = true →
    s.pairOk h (taskRegion k) = true → (s.task h k).prep = 0 → s.taskState h k ≠ 0 → c.remove = false →
    Gives (.taskPrepareDone h k) s (fun t => (t.task h k).prep = 2
      ∧ (t.task h k).newData = c.initData (bits (c.word 0 (taskRegion k) 0x14) 28 0)
      ∧ (t.task h k).data = (s.task h k).data ∧ SameMem s t ∧ SameShadows s t ∧ SameRegs s t (fun _ => False))) ∧
  (∀ h k us c w0 w1 w2 w3 s, k < 16 → s.runs h = true → s.hstate h = 4 → s.taskState h k = 2 →
    s.readyCopy h (taskRegion k) = some c → (s.task h k).prep = 2 → (s.task h k).phase = 0 →
    c.words = [(0x200000, w0), (0x200004, w1), (0x200008, w2), (0x20000C, w3)] → bits w3 15 0 = 1 → bits w3 31 16 = 1 →
    bits w2 15 8 = bits w2 7 0 → w1 ≠ 0xFFFFFFFF →
    Gives (.taskCarry h k us) s (fun t => (t.task h k).prep = 3 ∧ (t.task h k).carryT = us ∧ t.rn (Apc.carryCnt h k) = 0
      ∧ (∀ j, j < (carryType (bits w2 7 0)).1 → Map.get (fun _ => 0) (t.task h k).newData (w0.toNat + j)
          = Map.get (fun _ => 0) (s.task h k).data (w1.toNat + j))
      ∧ (t.task h k).data = (s.task h k).data ∧ SameMem s t)) ∧
  (∀ h q d x s, s.runs h = true → q < 4096 → 3 ≤ x.off → x.off ≤ 35 → x.mot = false → (s.half h).loopq = [x] →
    s.copySlotOf h x.loop = some q → s.pend h (18 + q / 1024) = false → s.standby h q = false →
    descOf (lowAddr (slotBase h q + 4 * x.off)) = some d → d.acc = .rw → d.grp = 18 → d.cmask = 0 → d.wmask ≠ 0 →
    Gives (.loopQueueWrite h (18 + q / 1024)) s (fun t => (t.half h).loopq = []
      ∧ t.sh (slotBase h q + 4 * x.off) = (s.sh (slotBase h q + 4 * x.off) &&& ~~~BitVec.ofNat 32 d.wmask)
          ||| (x.word &&& BitVec.ofNat 32 d.wmask)
      ∧ t.pend h (18 + q / 1024) = true ∧ (⟨18 + q / 1024, some h, q⟩ : CUnit) ∈ t.marked
      ∧ (∀ a, a ≠ slotBase h q + 4 * x.off → t.sh a = s.sh a) ∧ SameMem s t)) ∧
  (∀ h k val cyc s, s.runs h = true → k < 4096 → Gives (.timerInWrite h k val cyc) s (fun t =>
    t.bt (Apc.timer h k 0) 2 = val ∧ SameMem s t ∧ SameShadows s t
    ∧ SameRegs s t (fun a => a = Apc.timer h k 0 ∨ a = Apc.timer h k 4 ∨ a = Apc.timer h k 5)
    ∧ (s.tmKind h k = 1 → s.bt (Apc.timer h k 0) 2 = false → val = true → cyc = false →
        t.rd64 (Apc.timer h k 4) = s.now h)))

/-- For every command at the front of the queue, a step is exec of it on the state with the rest of the queue, so that commands act one after another in the
order they arrive (R49). With no command waiting a step is one tick. No step faults or refuses: every command of the table has its effect in
every state. -/
def Obligations.StepRunsTheCommandAtTheFront : Prop :=
  (∀ (c : Instr) (rest : List Instr) (s : State), s.pending = c :: rest → step s = exec c { s with pending := rest }) ∧
  (∀ (s : State), s.pending = [] → step s = .next s.idle) ∧
  (∀ (c : Instr) (s : State), ∃ t, exec c s = .next t) ∧
  (∀ (s : State), ∃ t, step s = .next t)

/-- In State.reset no command waits; every live value and every shadow is the reset value that the register summaries and straps give (R46), HALF_STATUS shows
STARTING and the Lid is not CONFIGURED; nothing is pending, dirty or marked; ship time is 0; the sparse maps are canonical and the stacks of
intermediate code bounded. That both halves already run and that an unwritten byte reads 0 are the model's choices (log entries on reset and
memory). -/
def Obligations.ResetStateIsAsTheSpecGivesIt : Prop :=
  State.reset.pending = [] ∧ (∀ a, State.reset.rg a = resetWord State.reset.deck.straps a)
  ∧ (∀ a, State.reset.sh a = State.reset.rg a) ∧ (∀ a, State.reset.byte a = 0)
  ∧ (∀ h, State.reset.runs h = true ∧ State.reset.hstate h = 0 ∧ State.reset.now h = 0 ∧ (State.reset.half h).log.inbox = [])
  ∧ (∀ h g, g < 22 → State.reset.pend h g = false) ∧ State.reset.dirty = [] ∧ State.reset.marked = []
  ∧ State.reset.bt Lid.lidStatus 0 = false ∧ State.reset.wf = true ∧ StacksBounded State.reset

/-- From every state with no command waiting and ship time in its 96 bits, k steps reach a state in which the ship-time accumulator of a running half has grown by
k times its addend in force modulo 2^96 (R506), that of a half in reset has not moved, the clocks have counted k ticks, still no command waits, and
memory, shadows and every register except the overflow bits of Tally counters are as before. That one empty step is one 250 MHz tick is the
model's choice (log entry on the idle step). -/
def Obligations.IdleStepsKeepShipTime : Prop :=
  ∀ (k : Nat) (s : State), s.pending = [] → (∀ h, (s.half h).time.acc < 2 ^ 96) → ∃ t, RunsTo k s t ∧ t.pending = []
    ∧ (∀ h, (t.half h).time.acc = if s.runs h then ((s.half h).time.acc + k * (s.half h).time.eff) % 2 ^ 96
        else (s.half h).time.acc)
    ∧ (∀ h, (t.half h).time.ticks = if s.runs h then (s.half h).time.ticks + k else (s.half h).time.ticks)
    ∧ t.deck.ticks = s.deck.ticks + k ∧ SameMem s t ∧ SameShadows s t
    ∧ SameRegs s t (fun a => EventReg .a a ∨ EventReg .b a)

/-- The evaluation stack has 256 cells and the call stack 32 offsets (R371). From every state in which every task's context keeps these bounds, each of the
intermediate instructions, on any core, with any operands, whether it acts, faults, ends the run or finds other bytes at the offset, answers a next
state in which every task's context keeps them. -/
def Obligations.IntermediateCodeKeepsStacksBounded : Prop :=
  ∀ (i : Instr) (s : State), isIc i = true → StacksBounded s → Gives i s StacksBounded
end

