-- ==== Sys2Proof/Laws/Bits.lean ====
section
/-! SUPPORT. Laws of the bit-field helpers: what each bit of a word with a replaced field is, and the field read back. -/
namespace Sys2Proof.Machine

/-- The field of `w` at [hi:lo], in place, is what masking leaves. -/
theorem and_field (w k lo : Nat) : w &&& ((2 ^ k - 1) <<< lo) = ((w >>> lo) % 2 ^ k) <<< lo := by
  apply Nat.eq_of_testBit_eq
  intro i
  simp only [Nat.testBit_and, Nat.testBit_shiftLeft, Nat.testBit_mod_two_pow, Nat.testBit_shiftRight,
    Nat.testBit_two_pow_sub_one]
  by_cases h : lo ≤ i
  · have e : lo + (i - lo) = i := by omega
    simp [h, e, Bool.and_comm]
  · simp [h]

/-- A number split at a field. -/
theorem split_field (w k lo : Nat) :
    w = 2 ^ lo * (2 ^ k * (w >>> lo >>> k) + (w >>> lo) % 2 ^ k) + w % 2 ^ lo := by
  have a := Nat.div_add_mod (w >>> lo) (2 ^ k)
  have b := Nat.div_add_mod w (2 ^ lo)
  simp only [Nat.shiftRight_eq_div_pow] at a b ⊢
  rw [a, b]

/-- What the arithmetic of `setBits` gives. -/
theorem setField_eq (w k lo v : Nat) :
    w - (w &&& ((2 ^ k - 1) <<< lo)) + (v % 2 ^ k) <<< lo
      = 2 ^ lo * (2 ^ k * (w >>> lo >>> k) + v % 2 ^ k) + w % 2 ^ lo := by
  have e := split_field w k lo
  rw [and_field]
  simp only [Nat.shiftLeft_eq]
  generalize hA : w >>> lo >>> k = A at *
  generalize hF : (w >>> lo) % 2 ^ k = F at *
  generalize hB : w % 2 ^ lo = B at *
  rw [e]
  rw [Nat.mul_add, Nat.mul_add, Nat.mul_comm F, Nat.mul_comm (v % 2 ^ k)]
  omega

/-- Bit `i` of a word whose field [hi:lo] is replaced. -/
theorem setBits_getLsbD (w : Word) (hi lo v i : Nat) (hlo : lo ≤ hi) :
    (setBits w hi lo v).getLsbD i
      = (decide (i < 32) && if lo ≤ i ∧ i ≤ hi then v.testBit (i - lo) else w.getLsbD i) := by
  simp only [setBits, BitVec.getLsbD_ofNat, setField_eq]
  congr 1
  rw [Nat.testBit_two_pow_mul_add _ (Nat.mod_lt _ (by positivity)),
    Nat.testBit_two_pow_mul_add _ (Nat.mod_lt _ (by positivity))]
  simp only [Nat.testBit_mod_two_pow, Nat.testBit_shiftRight, BitVec.getLsbD]
  by_cases h1 : i < lo
  · have hc : ¬(lo ≤ i ∧ i ≤ hi) := by omega
    simp only [h1, hc, if_true, if_false]
    simp
  · by_cases h2 : i - lo < hi + 1 - lo
    · have hc : lo ≤ i ∧ i ≤ hi := by omega
      simp only [h1, h2, hc, if_true, if_false, and_self, decide_true, Bool.true_and]
    · have e : lo + (hi + 1 - lo + (i - lo - (hi + 1 - lo))) = i := by omega
      have hc : ¬(lo ≤ i ∧ i ≤ hi) := by omega
      simp only [h1, h2, hc, e, if_false]

/-- A field read back is the value written into it. -/
theorem bits_setBits (w : Word) (hi lo v : Nat) (hlo : lo ≤ hi) (hhi : hi < 32) :
    bits (setBits w hi lo v) hi lo = v % 2 ^ (hi + 1 - lo) := by
  apply Nat.eq_of_testBit_eq
  intro i
  simp only [bits, Nat.testBit_mod_two_pow, Nat.testBit_shiftRight]
  by_cases h : i < hi + 1 - lo
  · have := setBits_getLsbD w hi lo v (lo + i) hlo
    rw [BitVec.getLsbD] at this
    rw [this, if_pos (by omega)]
    have e : lo + i - lo = i := by omega
    simp [h, e]
    omega
  · simp [h]

/-- A field that does not meet the written one keeps its value. -/
theorem bits_setBits_other (w : Word) (hi lo hi' lo' v : Nat) (hlo : lo ≤ hi) (hhi : hi' < 32)
    (hd : hi' < lo ∨ hi < lo') : bits (setBits w hi lo v) hi' lo' = bits w hi' lo' := by
  apply Nat.eq_of_testBit_eq
  intro i
  simp only [bits, Nat.testBit_mod_two_pow, Nat.testBit_shiftRight]
  by_cases h : i < hi' + 1 - lo'
  · have := setBits_getLsbD w hi lo v (lo' + i) hlo
    rw [BitVec.getLsbD] at this
    rw [this, if_neg (by omega)]
    have : lo' + i < 32 := by omega
    simp [h, this, BitVec.getLsbD]
  · simp [h]

/-- A bit outside the written field keeps its value. -/
theorem bit_setBits_other (w : Word) (hi lo v n : Nat) (hlo : lo ≤ hi) (hd : n < lo ∨ hi < n) :
    bit (setBits w hi lo v) n = bit w n := by
  simp only [bit]
  rw [setBits_getLsbD _ _ _ _ _ hlo, if_neg (by omega)]
  by_cases h : n < 32
  · simp [h]
  · simp [h, BitVec.getLsbD_of_ge _ _ (by omega : 32 ≤ n)]

/-- The bit written. -/
theorem bit_setBit (w : Word) (n : Nat) (b : Bool) (hn : n < 32) : bit (setBit w n b) n = b := by
  simp only [bit, setBit]
  rw [setBits_getLsbD _ _ _ _ _ (Nat.le_refl n), if_pos ⟨Nat.le_refl n, Nat.le_refl n⟩]
  cases b <;> simp [hn]

/-- Another bit keeps its value. -/
theorem bit_setBit_other (w : Word) (n k : Nat) (b : Bool) (h : k ≠ n) : bit (setBit w n b) k = bit w k :=
  bit_setBits_other w n n b.toNat k (Nat.le_refl n) (by omega)

/-- A field that does not hold the written bit keeps its value. -/
theorem bits_setBit_other (w : Word) (n : Nat) (b : Bool) (hi lo : Nat) (hhi : hi < 32) (hd : hi < n ∨ n < lo) :
    bits (setBit w n b) hi lo = bits w hi lo :=
  bits_setBits_other w n n hi lo b.toNat (Nat.le_refl n) hhi (by omega)

/-- A field is smaller than its width allows. -/
theorem bits_lt (w : Word) (hi lo : Nat) : bits w hi lo < 2 ^ (hi + 1 - lo) := Nat.mod_lt _ (by positivity)

/-- A one-bit field is its bit. -/
theorem bits_one (w : Word) (n : Nat) : bits w n n = (bit w n).toNat := by
  simp only [bits, bit, BitVec.getLsbD, Nat.testBit]
  have : n + 1 - n = 1 := by omega
  rw [this, Nat.and_comm, Nat.and_one_is_mod]
  have h := Nat.mod_two_eq_zero_or_one (w.toNat >>> n)
  rcases h with h | h <;> simp [h]

end Sys2Proof.Machine
end

