-- ==== Sys2Proof/Laws/Map.lean ====
section
/-! SUPPORT. Laws of the sparse maps: what a key reads as after a write, and that writes keep the canonical form. -/
namespace Sys2Proof.Machine

variable {α : Type}

/-- A deleted key reads as an unlisted one. -/
theorem Map.get_del_same (d : Nat → α) (m : Map α) (k : Nat) : Map.get d (Map.del m k) k = d k := by
  induction m with
  | nil => rfl
  | cons e m ih =>
    obtain ⟨i, v⟩ := e
    by_cases h : i = k <;> simp [Map.del, Map.get, h, ih]

/-- Deleting a key leaves the others. -/
theorem Map.get_del_other (d : Nat → α) (m : Map α) (k j : Nat) (hj : j ≠ k) :
    Map.get d (Map.del m k) j = Map.get d m j := by
  induction m with
  | nil => rfl
  | cons e m ih =>
    obtain ⟨i, v⟩ := e
    by_cases h : i = k
    · subst h
      simp [Map.del, Map.get, ih, Ne.symm hj]
    · rw [Map.del, if_neg h, Map.get, Map.get, ih]

/-- A listed key reads as what was listed. -/
theorem Map.get_ins_same (d : Nat → α) (m : Map α) (k : Nat) (w : α) : Map.get d (Map.ins m k w) k = w := by
  induction m with
  | nil => simp [Map.ins, Map.get]
  | cons e m ih =>
    obtain ⟨i, v⟩ := e
    by_cases h1 : k < i
    · simp [Map.ins, Map.get, h1]
    · by_cases h2 : i = k <;> simp [Map.ins, Map.get, h1, h2, ih]

/-- Listing a key leaves the others. -/
theorem Map.get_ins_other (d : Nat → α) (m : Map α) (k j : Nat) (w : α) (hj : j ≠ k) :
    Map.get d (Map.ins m k w) j = Map.get d m j := by
  induction m with
  | nil => simp [Map.ins, Map.get, Ne.symm hj]
  | cons e m ih =>
    obtain ⟨i, v⟩ := e
    by_cases h1 : k < i
    · simp [Map.ins, Map.get, h1, Ne.symm hj]
    · by_cases h2 : i = k
      · subst h2
        simp [Map.ins, Map.get, Ne.symm hj]
      · rw [Map.ins, if_neg h1, if_neg h2, Map.get, Map.get, ih]

variable [DecidableEq α]

/-- A written key reads as what was written. -/
@[simp] theorem Map.get_set_same (d : Nat → α) (m : Map α) (k : Nat) (w : α) : Map.get d (Map.set d m k w) k = w := by
  by_cases h : w = d k
  · simp [Map.set, h, Map.get_del_same]
  · simp [Map.set, h, Map.get_ins_same]

/-- A write leaves the other keys. -/
theorem Map.get_set_other (d : Nat → α) (m : Map α) (k j : Nat) (w : α) (hj : j ≠ k) :
    Map.get d (Map.set d m k w) j = Map.get d m j := by
  by_cases h : w = d k
  · simp [Map.set, h, Map.get_del_other _ _ _ _ hj]
  · simp [Map.set, h, Map.get_ins_other _ _ _ _ _ hj]

/-- What any key reads as after a write. -/
theorem Map.get_set (d : Nat → α) (m : Map α) (k j : Nat) (w : α) :
    Map.get d (Map.set d m k w) j = if j = k then w else Map.get d m j := by
  by_cases h : j = k
  · subst h
    simp
  · simp [h, Map.get_set_other _ _ _ _ _ h]

/-- Every key of a map is at least `n`. -/
def Map.above (n : Nat) (m : Map α) : Prop := ∀ e ∈ m, n ≤ e.1

omit [DecidableEq α] in
/-- In a rising map every later key is larger. -/
theorem Map.rising_cons (i : Nat) (v : α) (m : Map α) :
    Map.rising ((i, v) :: m) = true ↔ Map.above (i + 1) m ∧ Map.rising m = true := by
  induction m generalizing i v with
  | nil => simp [Map.rising, Map.above]
  | cons e m ih =>
    obtain ⟨j, w⟩ := e
    simp only [Map.rising, Bool.and_eq_true, decide_eq_true_eq, Map.above, List.mem_cons, forall_eq_or_imp]
    constructor
    · rintro ⟨h1, h2⟩
      have := ((ih j w).1 h2).1
      exact ⟨⟨h1, fun e he => by have := this e he; omega⟩, h2⟩
    · rintro ⟨⟨h1, -⟩, h2⟩
      exact ⟨h1, h2⟩

omit [DecidableEq α] in
/-- Removing entries keeps the rising order. -/
theorem Map.rising_filter (p : Nat × α → Bool) (m : Map α) (h : Map.rising m = true) :
    Map.rising (m.filter p) = true := by
  induction m with
  | nil => rfl
  | cons e m ih =>
    obtain ⟨i, v⟩ := e
    rw [Map.rising_cons] at h
    by_cases hp : p (i, v) = true
    · rw [List.filter_cons_of_pos hp, Map.rising_cons]
      exact ⟨fun e he => h.1 e (List.mem_filter.1 he).1, ih h.2⟩
    · rw [List.filter_cons_of_neg hp]
      exact ih h.2

/-- No entry is a default: every entry. -/
theorem Map.noDefault_iff (d : Nat → α) (m : Map α) : Map.noDefault d m = true ↔ ∀ e ∈ m, e.2 ≠ d e.1 := by
  induction m with
  | nil => simp [Map.noDefault]
  | cons e m ih =>
    obtain ⟨i, v⟩ := e
    simp [Map.noDefault, ih]

omit [DecidableEq α] in
/-- Deleting a key keeps a subset of the entries. -/
theorem Map.mem_del (m : Map α) (k : Nat) (e : Nat × α) (h : e ∈ Map.del m k) : e ∈ m := by
  induction m with
  | nil => exact h
  | cons f m ih =>
    obtain ⟨i, v⟩ := f
    by_cases hi : i = k
    · simp only [Map.del, hi, if_true] at h
      exact List.mem_cons_of_mem _ (ih h)
    · simp only [Map.del, hi, if_false, List.mem_cons] at h
      rcases h with h | h
      · exact h ▸ List.mem_cons_self
      · exact List.mem_cons_of_mem _ (ih h)

omit [DecidableEq α] in
/-- Listing a key adds at most its entry. -/
theorem Map.mem_ins (m : Map α) (k : Nat) (w : α) (e : Nat × α) (h : e ∈ Map.ins m k w) : e = (k, w) ∨ e ∈ m := by
  induction m with
  | nil => simpa [Map.ins] using h
  | cons f m ih =>
    obtain ⟨i, v⟩ := f
    by_cases h1 : k < i
    · simpa [Map.ins, h1] using h
    · by_cases h2 : i = k
      · rw [Map.ins, if_neg h1, if_pos h2, List.mem_cons] at h
        rcases h with h | h
        · exact .inl h
        · exact .inr (List.mem_cons_of_mem _ h)
      · simp only [Map.ins, h1, h2, if_false, List.mem_cons] at h
        rcases h with h | h
        · exact .inr (h ▸ List.mem_cons_self)
        · rcases ih h with h | h
          · exact .inl h
          · exact .inr (List.mem_cons_of_mem _ h)

omit [DecidableEq α] in
/-- Deleting a key keeps the rising order. -/
theorem Map.rising_del (m : Map α) (k : Nat) (h : Map.rising m = true) : Map.rising (Map.del m k) = true := by
  induction m with
  | nil => rfl
  | cons e m ih =>
    obtain ⟨i, v⟩ := e
    rw [Map.rising_cons] at h
    by_cases hi : i = k
    · simp only [Map.del, hi, if_true]
      exact ih h.2
    · simp only [Map.del, hi, if_false]
      rw [Map.rising_cons]
      exact ⟨fun e he => h.1 e (Map.mem_del m k e he), ih h.2⟩

omit [DecidableEq α] in
/-- Listing a key keeps the rising order. -/
theorem Map.rising_ins (m : Map α) (k : Nat) (w : α) (h : Map.rising m = true) : Map.rising (Map.ins m k w) = true := by
  induction m with
  | nil => rfl
  | cons e m ih =>
    obtain ⟨i, v⟩ := e
    have h' := (Map.rising_cons i v m).1 h
    by_cases h1 : k < i
    · simp only [Map.ins, h1, if_true, Map.rising, decide_true, Bool.true_and]
      exact h
    · by_cases h2 : i = k
      · rw [Map.ins, if_neg h1, if_pos h2, Map.rising_cons]
        exact ⟨h2 ▸ h'.1, h'.2⟩
      · simp only [Map.ins, h1, h2, if_false]
        rw [Map.rising_cons]
        refine ⟨fun e he => ?_, ih h'.2⟩
        rcases Map.mem_ins m k w e he with he | he
        · subst he
          show i + 1 ≤ k
          omega
        · exact h'.1 e he

/-- A write keeps the canonical form. -/
theorem Map.wf_set (d : Nat → α) (m : Map α) (k : Nat) (w : α) (h : Map.wf d m = true) :
    Map.wf d (Map.set d m k w) = true := by
  simp only [Map.wf, Bool.and_eq_true] at h ⊢
  by_cases hw : w = d k
  · simp only [Map.set, hw, if_true]
    refine ⟨Map.rising_del m k h.1, (Map.noDefault_iff _ _).2 fun e he => ?_⟩
    exact (Map.noDefault_iff _ _).1 h.2 e (Map.mem_del m k e he)
  · simp only [Map.set, hw, if_false]
    refine ⟨Map.rising_ins m k w h.1, (Map.noDefault_iff _ _).2 fun e he => ?_⟩
    rcases Map.mem_ins m k w e he with he | he
    · subst he
      exact hw
    · exact (Map.noDefault_iff _ _).1 h.2 e he

/-- Clearing keys keeps the canonical form. -/
theorem Map.wf_clearIf (d : Nat → α) (p : Nat → Bool) (m : Map α) (h : Map.wf d m = true) :
    Map.wf d (Map.clearIf p m) = true := by
  simp only [Map.wf, Bool.and_eq_true] at h ⊢
  refine ⟨Map.rising_filter _ m h.1, (Map.noDefault_iff _ _).2 fun e he => ?_⟩
  exact (Map.noDefault_iff _ _).1 h.2 e (List.mem_filter.1 he).1

end Sys2Proof.Machine
end

