-- ==== Sys2Proof/Laws/State.lean ====
section
/-! SUPPORT. What each part of the state is after each primitive update, one lemma per part and update: no later proof
unfolds a record update. Every lemma holds by `rfl`; the proofs are written as `(Eq.refl _).trans rfl` so that `simp` uses
them as equations and the kernel never compares two states with large addresses in them by unfolding. -/
namespace Sys2Proof.Machine

/-! ### Halves -/

@[simp] theorem State.half_setHalf (s : State) (h : Half) (x : HalfSt) : (s.setHalf h x).half h = x := by cases h <;> rfl
@[simp] theorem State.half_setHalf_other (s : State) (h : Half) (x : HalfSt) :
    (s.setHalf h x).half h.other = s.half h.other := by cases h <;> rfl
@[simp] theorem State.half_modHalf (s : State) (h : Half) (f : HalfSt → HalfSt) :
    (s.modHalf h f).half h = f (s.half h) := by cases h <;> rfl
@[simp] theorem State.half_modHalf_other (s : State) (h : Half) (f : HalfSt → HalfSt) :
    (s.modHalf h f).half h.other = s.half h.other := by cases h <;> rfl
theorem State.half_modHalf_ne (s : State) (h k : Half) (f : HalfSt → HalfSt) (e : k ≠ h) :
    (s.modHalf h f).half k = s.half k := by cases h <;> cases k <;> first | rfl | exact absurd rfl e
@[simp] theorem Half.other_other (h : Half) : h.other.other = h := by cases h <;> rfl
@[simp] theorem Half.other_ne (h : Half) : (h.other = h) = False := by cases h <;> simp [Half.other]
@[simp] theorem Half.ne_other (h : Half) : (h = h.other) = False := by cases h <;> simp [Half.other]


/-! ### setHalf -/

@[simp] theorem State.pending_setHalf (s : State) (h : Half) (x : HalfSt) : (s.setHalf h x).pending = s.pending := by cases h <;> rfl
@[simp] theorem State.live_setHalf (s : State) (h : Half) (x : HalfSt) : (s.setHalf h x).live = s.live := by cases h <;> rfl
@[simp] theorem State.shadow_setHalf (s : State) (h : Half) (x : HalfSt) : (s.setHalf h x).shadow = s.shadow := by cases h <;> rfl
@[simp] theorem State.dirty_setHalf (s : State) (h : Half) (x : HalfSt) : (s.setHalf h x).dirty = s.dirty := by cases h <;> rfl
@[simp] theorem State.marked_setHalf (s : State) (h : Half) (x : HalfSt) : (s.setHalf h x).marked = s.marked := by cases h <;> rfl
@[simp] theorem State.mem_setHalf (s : State) (h : Half) (x : HalfSt) : (s.setHalf h x).mem = s.mem := by cases h <;> rfl
@[simp] theorem State.mirrorUp_setHalf (s : State) (h : Half) (x : HalfSt) : (s.setHalf h x).mirrorUp = s.mirrorUp := by cases h <;> rfl
@[simp] theorem State.deck_setHalf (s : State) (h : Half) (x : HalfSt) : (s.setHalf h x).deck = s.deck := by cases h <;> rfl
@[simp] theorem State.free_setHalf (s : State) (h : Half) (x : HalfSt) : (s.setHalf h x).free = s.free := by cases h <;> rfl

/-! ### modHalf -/

@[simp] theorem State.pending_modHalf (s : State) (h : Half) (f : HalfSt → HalfSt) : (s.modHalf h f).pending = s.pending := by cases h <;> rfl
@[simp] theorem State.live_modHalf (s : State) (h : Half) (f : HalfSt → HalfSt) : (s.modHalf h f).live = s.live := by cases h <;> rfl
@[simp] theorem State.shadow_modHalf (s : State) (h : Half) (f : HalfSt → HalfSt) : (s.modHalf h f).shadow = s.shadow := by cases h <;> rfl
@[simp] theorem State.dirty_modHalf (s : State) (h : Half) (f : HalfSt → HalfSt) : (s.modHalf h f).dirty = s.dirty := by cases h <;> rfl
@[simp] theorem State.marked_modHalf (s : State) (h : Half) (f : HalfSt → HalfSt) : (s.modHalf h f).marked = s.marked := by cases h <;> rfl
@[simp] theorem State.mem_modHalf (s : State) (h : Half) (f : HalfSt → HalfSt) : (s.modHalf h f).mem = s.mem := by cases h <;> rfl
@[simp] theorem State.mirrorUp_modHalf (s : State) (h : Half) (f : HalfSt → HalfSt) : (s.modHalf h f).mirrorUp = s.mirrorUp := by cases h <;> rfl
@[simp] theorem State.deck_modHalf (s : State) (h : Half) (f : HalfSt → HalfSt) : (s.modHalf h f).deck = s.deck := by cases h <;> rfl
@[simp] theorem State.free_modHalf (s : State) (h : Half) (f : HalfSt → HalfSt) : (s.modHalf h f).free = s.free := by cases h <;> rfl

/-! ### modDeck -/

@[simp] theorem State.pending_modDeck (s : State) (f : DeckSt → DeckSt) : (s.modDeck f).pending = s.pending := (Eq.refl _).trans rfl
@[simp] theorem State.live_modDeck (s : State) (f : DeckSt → DeckSt) : (s.modDeck f).live = s.live := (Eq.refl _).trans rfl
@[simp] theorem State.shadow_modDeck (s : State) (f : DeckSt → DeckSt) : (s.modDeck f).shadow = s.shadow := (Eq.refl _).trans rfl
@[simp] theorem State.dirty_modDeck (s : State) (f : DeckSt → DeckSt) : (s.modDeck f).dirty = s.dirty := (Eq.refl _).trans rfl
@[simp] theorem State.marked_modDeck (s : State) (f : DeckSt → DeckSt) : (s.modDeck f).marked = s.marked := (Eq.refl _).trans rfl
@[simp] theorem State.mem_modDeck (s : State) (f : DeckSt → DeckSt) : (s.modDeck f).mem = s.mem := (Eq.refl _).trans rfl
@[simp] theorem State.mirrorUp_modDeck (s : State) (f : DeckSt → DeckSt) : (s.modDeck f).mirrorUp = s.mirrorUp := (Eq.refl _).trans rfl
@[simp] theorem State.a_modDeck (s : State) (f : DeckSt → DeckSt) : (s.modDeck f).a = s.a := (Eq.refl _).trans rfl
@[simp] theorem State.b_modDeck (s : State) (f : DeckSt → DeckSt) : (s.modDeck f).b = s.b := (Eq.refl _).trans rfl
@[simp] theorem State.free_modDeck (s : State) (f : DeckSt → DeckSt) : (s.modDeck f).free = s.free := (Eq.refl _).trans rfl
@[simp] theorem State.half_modDeck (s : State) (f : DeckSt → DeckSt) (g : Half) : (s.modDeck f).half g = s.half g := by cases g <;> rfl

/-! ### wr -/

@[simp] theorem State.pending_wr (s : State) (k : Nat) (w : Word) : (s.wr k w).pending = s.pending := (Eq.refl _).trans rfl
@[simp] theorem State.shadow_wr (s : State) (k : Nat) (w : Word) : (s.wr k w).shadow = s.shadow := (Eq.refl _).trans rfl
@[simp] theorem State.dirty_wr (s : State) (k : Nat) (w : Word) : (s.wr k w).dirty = s.dirty := (Eq.refl _).trans rfl
@[simp] theorem State.marked_wr (s : State) (k : Nat) (w : Word) : (s.wr k w).marked = s.marked := (Eq.refl _).trans rfl
@[simp] theorem State.mem_wr (s : State) (k : Nat) (w : Word) : (s.wr k w).mem = s.mem := (Eq.refl _).trans rfl
@[simp] theorem State.mirrorUp_wr (s : State) (k : Nat) (w : Word) : (s.wr k w).mirrorUp = s.mirrorUp := (Eq.refl _).trans rfl
@[simp] theorem State.a_wr (s : State) (k : Nat) (w : Word) : (s.wr k w).a = s.a := (Eq.refl _).trans rfl
@[simp] theorem State.b_wr (s : State) (k : Nat) (w : Word) : (s.wr k w).b = s.b := (Eq.refl _).trans rfl
@[simp] theorem State.deck_wr (s : State) (k : Nat) (w : Word) : (s.wr k w).deck = s.deck := (Eq.refl _).trans rfl
@[simp] theorem State.free_wr (s : State) (k : Nat) (w : Word) : (s.wr k w).free = s.free := (Eq.refl _).trans rfl
@[simp] theorem State.half_wr (s : State) (k : Nat) (w : Word) (g : Half) : (s.wr k w).half g = s.half g := by cases g <;> rfl

/-! ### wrSh -/

@[simp] theorem State.pending_wrSh (s : State) (k : Nat) (w : Word) : (s.wrSh k w).pending = s.pending := (Eq.refl _).trans rfl
@[simp] theorem State.live_wrSh (s : State) (k : Nat) (w : Word) : (s.wrSh k w).live = s.live := (Eq.refl _).trans rfl
@[simp] theorem State.dirty_wrSh (s : State) (k : Nat) (w : Word) : (s.wrSh k w).dirty = s.dirty := (Eq.refl _).trans rfl
@[simp] theorem State.marked_wrSh (s : State) (k : Nat) (w : Word) : (s.wrSh k w).marked = s.marked := (Eq.refl _).trans rfl
@[simp] theorem State.mem_wrSh (s : State) (k : Nat) (w : Word) : (s.wrSh k w).mem = s.mem := (Eq.refl _).trans rfl
@[simp] theorem State.mirrorUp_wrSh (s : State) (k : Nat) (w : Word) : (s.wrSh k w).mirrorUp = s.mirrorUp := (Eq.refl _).trans rfl
@[simp] theorem State.a_wrSh (s : State) (k : Nat) (w : Word) : (s.wrSh k w).a = s.a := (Eq.refl _).trans rfl
@[simp] theorem State.b_wrSh (s : State) (k : Nat) (w : Word) : (s.wrSh k w).b = s.b := (Eq.refl _).trans rfl
@[simp] theorem State.deck_wrSh (s : State) (k : Nat) (w : Word) : (s.wrSh k w).deck = s.deck := (Eq.refl _).trans rfl
@[simp] theorem State.free_wrSh (s : State) (k : Nat) (w : Word) : (s.wrSh k w).free = s.free := (Eq.refl _).trans rfl
@[simp] theorem State.half_wrSh (s : State) (k : Nat) (w : Word) (g : Half) : (s.wrSh k w).half g = s.half g := by cases g <;> rfl

/-! ### setByte -/

@[simp] theorem State.pending_setByte (s : State) (k : Nat) (w : Byte) : (s.setByte k w).pending = s.pending := (Eq.refl _).trans rfl
@[simp] theorem State.live_setByte (s : State) (k : Nat) (w : Byte) : (s.setByte k w).live = s.live := (Eq.refl _).trans rfl
@[simp] theorem State.shadow_setByte (s : State) (k : Nat) (w : Byte) : (s.setByte k w).shadow = s.shadow := (Eq.refl _).trans rfl
@[simp] theorem State.dirty_setByte (s : State) (k : Nat) (w : Byte) : (s.setByte k w).dirty = s.dirty := (Eq.refl _).trans rfl
@[simp] theorem State.marked_setByte (s : State) (k : Nat) (w : Byte) : (s.setByte k w).marked = s.marked := (Eq.refl _).trans rfl
@[simp] theorem State.mirrorUp_setByte (s : State) (k : Nat) (w : Byte) : (s.setByte k w).mirrorUp = s.mirrorUp := (Eq.refl _).trans rfl
@[simp] theorem State.a_setByte (s : State) (k : Nat) (w : Byte) : (s.setByte k w).a = s.a := (Eq.refl _).trans rfl
@[simp] theorem State.b_setByte (s : State) (k : Nat) (w : Byte) : (s.setByte k w).b = s.b := (Eq.refl _).trans rfl
@[simp] theorem State.deck_setByte (s : State) (k : Nat) (w : Byte) : (s.setByte k w).deck = s.deck := (Eq.refl _).trans rfl
@[simp] theorem State.free_setByte (s : State) (k : Nat) (w : Byte) : (s.setByte k w).free = s.free := (Eq.refl _).trans rfl
@[simp] theorem State.half_setByte (s : State) (k : Nat) (w : Byte) (g : Half) : (s.setByte k w).half g = s.half g := by cases g <;> rfl
@[simp] theorem State.deck_modDeck (s : State) (f : DeckSt → DeckSt) : (s.modDeck f).deck = f s.deck := (Eq.refl _).trans rfl

/-! ### Registers, shadows and bytes after each update -/

@[simp] theorem State.rg_wr (s : State) (k : Nat) (w : Word) (a : Nat) :
    (s.wr k w).rg a = if a = k then w else s.rg a := Map.get_set _ _ _ _ _
@[simp] theorem State.sh_wr (s : State) (k : Nat) (w : Word) (a : Nat) : (s.wr k w).sh a = s.sh a := (Eq.refl _).trans rfl
@[simp] theorem State.byte_wr (s : State) (k : Nat) (w : Word) (a : Nat) : (s.wr k w).byte a = s.byte a := (Eq.refl _).trans rfl
@[simp] theorem State.rg_wrSh (s : State) (k : Nat) (w : Word) (a : Nat) : (s.wrSh k w).rg a = s.rg a := (Eq.refl _).trans rfl
@[simp] theorem State.sh_wrSh (s : State) (k : Nat) (w : Word) (a : Nat) :
    (s.wrSh k w).sh a = if a = k then w else s.sh a := Map.get_set _ _ _ _ _
@[simp] theorem State.byte_wrSh (s : State) (k : Nat) (w : Word) (a : Nat) : (s.wrSh k w).byte a = s.byte a := (Eq.refl _).trans rfl
@[simp] theorem State.rg_setByte (s : State) (k : Nat) (w : Byte) (a : Nat) : (s.setByte k w).rg a = s.rg a := (Eq.refl _).trans rfl
@[simp] theorem State.sh_setByte (s : State) (k : Nat) (w : Byte) (a : Nat) : (s.setByte k w).sh a = s.sh a := (Eq.refl _).trans rfl
@[simp] theorem State.byte_setByte (s : State) (k : Nat) (w : Byte) (a : Nat) :
    (s.setByte k w).byte a = if a = k then w else s.byte a := Map.get_set _ _ _ _ _
@[simp] theorem State.rg_modHalf (s : State) (h : Half) (f : HalfSt → HalfSt) (a : Nat) :
    (s.modHalf h f).rg a = s.rg a := by cases h <;> rfl
@[simp] theorem State.sh_modHalf (s : State) (h : Half) (f : HalfSt → HalfSt) (a : Nat) :
    (s.modHalf h f).sh a = s.sh a := by cases h <;> rfl
@[simp] theorem State.byte_modHalf (s : State) (h : Half) (f : HalfSt → HalfSt) (a : Nat) :
    (s.modHalf h f).byte a = s.byte a := by cases h <;> rfl
theorem State.rg_modDeck (s : State) (f : DeckSt → DeckSt) (a : Nat) (e : (f s.deck).straps = s.deck.straps) :
    (s.modDeck f).rg a = s.rg a := by simp only [State.rg, State.live_modDeck, State.deck_modDeck, e]
theorem State.sh_modDeck (s : State) (f : DeckSt → DeckSt) (a : Nat) (e : (f s.deck).straps = s.deck.straps) :
    (s.modDeck f).sh a = s.sh a := by simp only [State.sh, State.shadow_modDeck, State.deck_modDeck, e]
@[simp] theorem State.byte_modDeck (s : State) (f : DeckSt → DeckSt) (a : Nat) : (s.modDeck f).byte a = s.byte a := (Eq.refl _).trans rfl

/-! ### Writes by their definitions -/

theorem State.fw_eq (s : State) (a hi lo v : Nat) : s.fw a hi lo v = s.wr a (setBits (s.rg a) hi lo v) := (Eq.refl _).trans rfl
theorem State.sb_eq (s : State) (a n : Nat) (b : Bool) : s.sb a n b = s.wr a (setBit (s.rg a) n b) := (Eq.refl _).trans rfl
theorem State.wn_eq (s : State) (a v : Nat) : s.wn a v = s.wr a (BitVec.ofNat 32 v) := (Eq.refl _).trans rfl
theorem State.inc_eq (s : State) (a : Nat) : s.inc a = s.wr a (s.rg a + 1) := (Eq.refl _).trans rfl
theorem State.satF_eq (s : State) (a hi lo k : Nat) :
    s.satF a hi lo k = s.wr a (setBits (s.rg a) hi lo (satAdd (2 ^ (hi + 1 - lo) - 1) (s.fd a hi lo) k)) := (Eq.refl _).trans rfl
theorem State.setMapBit_eq (s : State) (a i : Nat) (b : Bool) :
    s.setMapBit a i b = s.wr (a + 4 * (i / 32)) (setBit (s.rg (a + 4 * (i / 32))) (i % 32) b) := (Eq.refl _).trans rfl


@[simp] theorem State.pending_fw (s : State) (k hi lo v : Nat) : (s.fw k hi lo v).pending = s.pending := (Eq.refl _).trans rfl
@[simp] theorem State.shadow_fw (s : State) (k hi lo v : Nat) : (s.fw k hi lo v).shadow = s.shadow := (Eq.refl _).trans rfl
@[simp] theorem State.dirty_fw (s : State) (k hi lo v : Nat) : (s.fw k hi lo v).dirty = s.dirty := (Eq.refl _).trans rfl
@[simp] theorem State.marked_fw (s : State) (k hi lo v : Nat) : (s.fw k hi lo v).marked = s.marked := (Eq.refl _).trans rfl
@[simp] theorem State.mem_fw (s : State) (k hi lo v : Nat) : (s.fw k hi lo v).mem = s.mem := (Eq.refl _).trans rfl
@[simp] theorem State.mirrorUp_fw (s : State) (k hi lo v : Nat) : (s.fw k hi lo v).mirrorUp = s.mirrorUp := (Eq.refl _).trans rfl
@[simp] theorem State.a_fw (s : State) (k hi lo v : Nat) : (s.fw k hi lo v).a = s.a := (Eq.refl _).trans rfl
@[simp] theorem State.b_fw (s : State) (k hi lo v : Nat) : (s.fw k hi lo v).b = s.b := (Eq.refl _).trans rfl
@[simp] theorem State.deck_fw (s : State) (k hi lo v : Nat) : (s.fw k hi lo v).deck = s.deck := (Eq.refl _).trans rfl
@[simp] theorem State.free_fw (s : State) (k hi lo v : Nat) : (s.fw k hi lo v).free = s.free := (Eq.refl _).trans rfl
@[simp] theorem State.half_fw (s : State) (k hi lo v : Nat) (g : Half) : (s.fw k hi lo v).half g = s.half g := by cases g <;> rfl
@[simp] theorem State.sh_fw (s : State) (k hi lo v : Nat) (a : Nat) : (s.fw k hi lo v).sh a = s.sh a := (Eq.refl _).trans rfl
@[simp] theorem State.byte_fw (s : State) (k hi lo v : Nat) (a : Nat) : (s.fw k hi lo v).byte a = s.byte a := (Eq.refl _).trans rfl
@[simp] theorem State.pending_sb (s : State) (k n : Nat) (b : Bool) : (s.sb k n b).pending = s.pending := (Eq.refl _).trans rfl
@[simp] theorem State.shadow_sb (s : State) (k n : Nat) (b : Bool) : (s.sb k n b).shadow = s.shadow := (Eq.refl _).trans rfl
@[simp] theorem State.dirty_sb (s : State) (k n : Nat) (b : Bool) : (s.sb k n b).dirty = s.dirty := (Eq.refl _).trans rfl
@[simp] theorem State.marked_sb (s : State) (k n : Nat) (b : Bool) : (s.sb k n b).marked = s.marked := (Eq.refl _).trans rfl
@[simp] theorem State.mem_sb (s : State) (k n : Nat) (b : Bool) : (s.sb k n b).mem = s.mem := (Eq.refl _).trans rfl
@[simp] theorem State.mirrorUp_sb (s : State) (k n : Nat) (b : Bool) : (s.sb k n b).mirrorUp = s.mirrorUp := (Eq.refl _).trans rfl
@[simp] theorem State.a_sb (s : State) (k n : Nat) (b : Bool) : (s.sb k n b).a = s.a := (Eq.refl _).trans rfl
@[simp] theorem State.b_sb (s : State) (k n : Nat) (b : Bool) : (s.sb k n b).b = s.b := (Eq.refl _).trans rfl
@[simp] theorem State.deck_sb (s : State) (k n : Nat) (b : Bool) : (s.sb k n b).deck = s.deck := (Eq.refl _).trans rfl
@[simp] theorem State.free_sb (s : State) (k n : Nat) (b : Bool) : (s.sb k n b).free = s.free := (Eq.refl _).trans rfl
@[simp] theorem State.half_sb (s : State) (k n : Nat) (b : Bool) (g : Half) : (s.sb k n b).half g = s.half g := by cases g <;> rfl
@[simp] theorem State.sh_sb (s : State) (k n : Nat) (b : Bool) (a : Nat) : (s.sb k n b).sh a = s.sh a := (Eq.refl _).trans rfl
@[simp] theorem State.byte_sb (s : State) (k n : Nat) (b : Bool) (a : Nat) : (s.sb k n b).byte a = s.byte a := (Eq.refl _).trans rfl
@[simp] theorem State.pending_wn (s : State) (k v : Nat) : (s.wn k v).pending = s.pending := (Eq.refl _).trans rfl
@[simp] theorem State.shadow_wn (s : State) (k v : Nat) : (s.wn k v).shadow = s.shadow := (Eq.refl _).trans rfl
@[simp] theorem State.dirty_wn (s : State) (k v : Nat) : (s.wn k v).dirty = s.dirty := (Eq.refl _).trans rfl
@[simp] theorem State.marked_wn (s : State) (k v : Nat) : (s.wn k v).marked = s.marked := (Eq.refl _).trans rfl
@[simp] theorem State.mem_wn (s : State) (k v : Nat) : (s.wn k v).mem = s.mem := (Eq.refl _).trans rfl
@[simp] theorem State.mirrorUp_wn (s : State) (k v : Nat) : (s.wn k v).mirrorUp = s.mirrorUp := (Eq.refl _).trans rfl
@[simp] theorem State.a_wn (s : State) (k v : Nat) : (s.wn k v).a = s.a := (Eq.refl _).trans rfl
@[simp] theorem State.b_wn (s : State) (k v : Nat) : (s.wn k v).b = s.b := (Eq.refl _).trans rfl
@[simp] theorem State.deck_wn (s : State) (k v : Nat) : (s.wn k v).deck = s.deck := (Eq.refl _).trans rfl
@[simp] theorem State.free_wn (s : State) (k v : Nat) : (s.wn k v).free = s.free := (Eq.refl _).trans rfl
@[simp] theorem State.half_wn (s : State) (k v : Nat) (g : Half) : (s.wn k v).half g = s.half g := by cases g <;> rfl
@[simp] theorem State.sh_wn (s : State) (k v : Nat) (a : Nat) : (s.wn k v).sh a = s.sh a := (Eq.refl _).trans rfl
@[simp] theorem State.byte_wn (s : State) (k v : Nat) (a : Nat) : (s.wn k v).byte a = s.byte a := (Eq.refl _).trans rfl
@[simp] theorem State.pending_inc (s : State) (k : Nat) : (s.inc k).pending = s.pending := (Eq.refl _).trans rfl
@[simp] theorem State.shadow_inc (s : State) (k : Nat) : (s.inc k).shadow = s.shadow := (Eq.refl _).trans rfl
@[simp] theorem State.dirty_inc (s : State) (k : Nat) : (s.inc k).dirty = s.dirty := (Eq.refl _).trans rfl
@[simp] theorem State.marked_inc (s : State) (k : Nat) : (s.inc k).marked = s.marked := (Eq.refl _).trans rfl
@[simp] theorem State.mem_inc (s : State) (k : Nat) : (s.inc k).mem = s.mem := (Eq.refl _).trans rfl
@[simp] theorem State.mirrorUp_inc (s : State) (k : Nat) : (s.inc k).mirrorUp = s.mirrorUp := (Eq.refl _).trans rfl
@[simp] theorem State.a_inc (s : State) (k : Nat) : (s.inc k).a = s.a := (Eq.refl _).trans rfl
@[simp] theorem State.b_inc (s : State) (k : Nat) : (s.inc k).b = s.b := (Eq.refl _).trans rfl
@[simp] theorem State.deck_inc (s : State) (k : Nat) : (s.inc k).deck = s.deck := (Eq.refl _).trans rfl
@[simp] theorem State.free_inc (s : State) (k : Nat) : (s.inc k).free = s.free := (Eq.refl _).trans rfl
@[simp] theorem State.half_inc (s : State) (k : Nat) (g : Half) : (s.inc k).half g = s.half g := by cases g <;> rfl
@[simp] theorem State.sh_inc (s : State) (k : Nat) (a : Nat) : (s.inc k).sh a = s.sh a := (Eq.refl _).trans rfl
@[simp] theorem State.byte_inc (s : State) (k : Nat) (a : Nat) : (s.inc k).byte a = s.byte a := (Eq.refl _).trans rfl
@[simp] theorem State.pending_satF (s : State) (k hi lo n : Nat) : (s.satF k hi lo n).pending = s.pending := (Eq.refl _).trans rfl
@[simp] theorem State.shadow_satF (s : State) (k hi lo n : Nat) : (s.satF k hi lo n).shadow = s.shadow := (Eq.refl _).trans rfl
@[simp] theorem State.dirty_satF (s : State) (k hi lo n : Nat) : (s.satF k hi lo n).dirty = s.dirty := (Eq.refl _).trans rfl
@[simp] theorem State.marked_satF (s : State) (k hi lo n : Nat) : (s.satF k hi lo n).marked = s.marked := (Eq.refl _).trans rfl
@[simp] theorem State.mem_satF (s : State) (k hi lo n : Nat) : (s.satF k hi lo n).mem = s.mem := (Eq.refl _).trans rfl
@[simp] theorem State.mirrorUp_satF (s : State) (k hi lo n : Nat) : (s.satF k hi lo n).mirrorUp = s.mirrorUp := (Eq.refl _).trans rfl
@[simp] theorem State.a_satF (s : State) (k hi lo n : Nat) : (s.satF k hi lo n).a = s.a := (Eq.refl _).trans rfl
@[simp] theorem State.b_satF (s : State) (k hi lo n : Nat) : (s.satF k hi lo n).b = s.b := (Eq.refl _).trans rfl
@[simp] theorem State.deck_satF (s : State) (k hi lo n : Nat) : (s.satF k hi lo n).deck = s.deck := (Eq.refl _).trans rfl
@[simp] theorem State.free_satF (s : State) (k hi lo n : Nat) : (s.satF k hi lo n).free = s.free := (Eq.refl _).trans rfl
@[simp] theorem State.half_satF (s : State) (k hi lo n : Nat) (g : Half) : (s.satF k hi lo n).half g = s.half g := by cases g <;> rfl
@[simp] theorem State.sh_satF (s : State) (k hi lo n : Nat) (a : Nat) : (s.satF k hi lo n).sh a = s.sh a := (Eq.refl _).trans rfl
@[simp] theorem State.byte_satF (s : State) (k hi lo n : Nat) (a : Nat) : (s.satF k hi lo n).byte a = s.byte a := (Eq.refl _).trans rfl
@[simp] theorem State.pending_setMapBit (s : State) (k i : Nat) (b : Bool) : (s.setMapBit k i b).pending = s.pending := (Eq.refl _).trans rfl
@[simp] theorem State.shadow_setMapBit (s : State) (k i : Nat) (b : Bool) : (s.setMapBit k i b).shadow = s.shadow := (Eq.refl _).trans rfl
@[simp] theorem State.dirty_setMapBit (s : State) (k i : Nat) (b : Bool) : (s.setMapBit k i b).dirty = s.dirty := (Eq.refl _).trans rfl
@[simp] theorem State.marked_setMapBit (s : State) (k i : Nat) (b : Bool) : (s.setMapBit k i b).marked = s.marked := (Eq.refl _).trans rfl
@[simp] theorem State.mem_setMapBit (s : State) (k i : Nat) (b : Bool) : (s.setMapBit k i b).mem = s.mem := (Eq.refl _).trans rfl
@[simp] theorem State.mirrorUp_setMapBit (s : State) (k i : Nat) (b : Bool) : (s.setMapBit k i b).mirrorUp = s.mirrorUp := (Eq.refl _).trans rfl
@[simp] theorem State.a_setMapBit (s : State) (k i : Nat) (b : Bool) : (s.setMapBit k i b).a = s.a := (Eq.refl _).trans rfl
@[simp] theorem State.b_setMapBit (s : State) (k i : Nat) (b : Bool) : (s.setMapBit k i b).b = s.b := (Eq.refl _).trans rfl
@[simp] theorem State.deck_setMapBit (s : State) (k i : Nat) (b : Bool) : (s.setMapBit k i b).deck = s.deck := (Eq.refl _).trans rfl
@[simp] theorem State.free_setMapBit (s : State) (k i : Nat) (b : Bool) : (s.setMapBit k i b).free = s.free := (Eq.refl _).trans rfl
@[simp] theorem State.half_setMapBit (s : State) (k i : Nat) (b : Bool) (g : Half) : (s.setMapBit k i b).half g = s.half g := by cases g <;> rfl
@[simp] theorem State.sh_setMapBit (s : State) (k i : Nat) (b : Bool) (a : Nat) : (s.setMapBit k i b).sh a = s.sh a := (Eq.refl _).trans rfl
@[simp] theorem State.byte_setMapBit (s : State) (k i : Nat) (b : Bool) (a : Nat) : (s.setMapBit k i b).byte a = s.byte a := (Eq.refl _).trans rfl
@[simp] theorem State.rg_fw (s : State) (k hi lo v a : Nat) :
    (s.fw k hi lo v).rg a = if a = k then setBits (s.rg k) hi lo v else s.rg a := State.rg_wr _ _ _ _
@[simp] theorem State.rg_sb (s : State) (k n : Nat) (b : Bool) (a : Nat) :
    (s.sb k n b).rg a = if a = k then setBit (s.rg k) n b else s.rg a := State.rg_wr _ _ _ _
@[simp] theorem State.rg_wn (s : State) (k v a : Nat) :
    (s.wn k v).rg a = if a = k then BitVec.ofNat 32 v else s.rg a := State.rg_wr _ _ _ _
@[simp] theorem State.rg_inc (s : State) (k a : Nat) :
    (s.inc k).rg a = if a = k then s.rg k + 1 else s.rg a := State.rg_wr _ _ _ _
@[simp] theorem State.rg_satF (s : State) (k hi lo n a : Nat) :
    (s.satF k hi lo n).rg a
      = if a = k then setBits (s.rg k) hi lo (satAdd (2 ^ (hi + 1 - lo) - 1) (s.fd k hi lo) n) else s.rg a :=
  State.rg_wr _ _ _ _
@[simp] theorem State.rg_setMapBit (s : State) (k i : Nat) (b : Bool) (a : Nat) :
    (s.setMapBit k i b).rg a
      = if a = k + 4 * (i / 32) then setBit (s.rg (k + 4 * (i / 32))) (i % 32) b else s.rg a := State.rg_wr _ _ _ _

/-- A map bit set reads back. -/
@[simp] theorem State.mapBit_setMapBit (s : State) (k i : Nat) (b : Bool) : (s.setMapBit k i b).mapBit k i = b := by
  simp [State.mapBit, State.bt, State.rg_setMapBit, bit_setBit _ _ _ (Nat.mod_lt i (by decide : 0 < 32))]

end Sys2Proof.Machine
end

