-- ==== Sys2Proof/Laws/Ops.lean ====
section
/-! SUPPORT. Laws of the shared operations: what the event controller, the Tally counters and the logbook ingest change,
and what they leave. -/
namespace Sys2Proof.Machine

/-! ### A half that runs -/

theorem State.runs_of_half (s t : State) (h : Half) (e : t.half h = s.half h) : t.runs h = s.runs h := by
  simp only [State.runs, e]
@[simp] theorem State.runs_wr (s : State) (a : Nat) (w : Word) (h : Half) : (s.wr a w).runs h = s.runs h :=
  State.runs_of_half _ _ _ (by simp)
@[simp] theorem State.runs_modDeck (s : State) (f : DeckSt → DeckSt) (h : Half) : (s.modDeck f).runs h = s.runs h :=
  State.runs_of_half _ _ _ (by simp)
@[simp] theorem State.runs_satF (s : State) (a hi lo k : Nat) (h : Half) : (s.satF a hi lo k).runs h = s.runs h :=
  State.runs_wr _ _ _ _
@[simp] theorem State.runs_fw (s : State) (a hi lo k : Nat) (h : Half) : (s.fw a hi lo k).runs h = s.runs h :=
  State.runs_wr _ _ _ _
@[simp] theorem State.runs_sb (s : State) (a n : Nat) (b : Bool) (h : Half) : (s.sb a n b).runs h = s.runs h :=
  State.runs_wr _ _ _ _
@[simp] theorem State.runs_setMapBit (s : State) (a n : Nat) (b : Bool) (h : Half) :
    (s.setMapBit a n b).runs h = s.runs h := State.runs_wr _ _ _ _
theorem State.runs_modHalf (s : State) (g : Half) (f : HalfSt → HalfSt) (h : Half)
    (e1 : (f (s.half g)).fitted = (s.half g).fitted) (e2 : (f (s.half g)).ctl.inReset = (s.half g).ctl.inReset) :
    (s.modHalf g f).runs h = s.runs h := by
  by_cases e : h = g
  · subst e
    simp [State.runs, e1, e2]
  · exact State.runs_of_half _ _ _ (State.half_modHalf_ne s g h f e)
/-- A command of a half that runs is carried out. -/
theorem State.onHalf_runs (s : State) (h : Half) (f : State → State) (e : s.runs h = true) : s.onHalf h f = f s := by
  simp [State.onHalf, e]
/-- A command of a half that does not run does nothing. -/
theorem State.onHalf_stopped (s : State) (h : Half) (f : State → State) (e : s.runs h = false) : s.onHalf h f = s := by
  simp [State.onHalf, e]

/-! ### Event controller -/

/-- Asserting a source is one register write, or none. -/
theorem State.raise_cases (s : State) (h : Half) (src : Nat) :
    s.raise h src = s ∨ s.raise h src = s.satF (Evc.srcCnt h src) 15 0 1
      ∨ s.raise h src = s.setMapBit (Evc.pend h 0) src true := by
  simp only [State.raise]
  split
  · exact .inl rfl
  · split
    · exact .inr (.inl rfl)
    · exact .inr (.inr rfl)
@[simp] theorem State.half_raise (s : State) (h : Half) (src : Nat) (g : Half) : (s.raise h src).half g = s.half g := by
  rcases s.raise_cases h src with e | e | e <;> rw [e] <;> simp
@[simp] theorem State.byte_raise (s : State) (h : Half) (src a : Nat) : (s.raise h src).byte a = s.byte a := by
  rcases s.raise_cases h src with e | e | e <;> rw [e] <;> simp
@[simp] theorem State.sh_raise (s : State) (h : Half) (src a : Nat) : (s.raise h src).sh a = s.sh a := by
  rcases s.raise_cases h src with e | e | e <;> rw [e] <;> simp
@[simp] theorem State.deck_raise (s : State) (h : Half) (src : Nat) : (s.raise h src).deck = s.deck := by
  rcases s.raise_cases h src with e | e | e <;> rw [e] <;> simp
@[simp] theorem State.pending_raise (s : State) (h : Half) (src : Nat) : (s.raise h src).pending = s.pending := by
  rcases s.raise_cases h src with e | e | e <;> rw [e] <;> simp
@[simp] theorem State.mem_raise (s : State) (h : Half) (src : Nat) : (s.raise h src).mem = s.mem := by
  rcases s.raise_cases h src with e | e | e <;> rw [e] <;> simp
@[simp] theorem State.runs_raise (s : State) (h : Half) (src : Nat) (g : Half) : (s.raise h src).runs g = s.runs g :=
  State.runs_of_half _ _ _ (by simp)
/-- A register that holds neither pending bits nor counts of that half keeps its value. -/
theorem State.rg_raise_other (s : State) (h : Half) (src a : Nat) (h1 : a ≠ Evc.srcCnt h src)
    (h2 : a ≠ Evc.pend h 0 + 4 * (src / 32)) : (s.raise h src).rg a = s.rg a := by
  rcases s.raise_cases h src with e | e | e <;> rw [e] <;> simp [h1, h2]

/-- The pending bit of an asserted source stands in a half that runs. -/
theorem State.raise_pends (s : State) (h : Half) (src : Nat) (hr : s.runs h = true) (hs : src < 16384) :
    (s.raise h src).mapBit (Evc.pend h 0) src = true := by
  simp only [State.raise, hr, Bool.true_eq_false, if_false]
  by_cases hp : s.mapBit (Evc.pend h 0) src = true
  · rw [if_pos hp]
    simp only [State.mapBit, State.bt, State.rg_satF] at hp ⊢
    rw [if_neg]
    · exact hp
    · simp only [Evc.pend, Evc.srcCnt]
      omega
  · rw [if_neg hp]
    simp
/-- A pending bit stays when another source is asserted. -/
theorem State.raise_keeps (s : State) (h g : Half) (src j : Nat) (hs : src < 16384) (hj : j < 16384)
    (hp : s.mapBit (Evc.pend g 0) j = true) : (s.raise h src).mapBit (Evc.pend g 0) j = true := by
  rcases s.raise_cases h src with e | e | e <;> rw [e]
  · exact hp
  · simp only [State.mapBit, State.bt, State.rg_satF] at hp ⊢
    rw [if_neg]
    · exact hp
    · cases h <;> cases g <;> simp only [Evc.pend, Evc.srcCnt, Half.base] <;> omega
  · simp only [State.mapBit, State.bt, State.rg_setMapBit] at hp ⊢
    split
    · rename_i h1
      rw [← h1]
      by_cases h2 : j % 32 = src % 32
      · rw [h2]
        exact bit_setBit _ _ _ (Nat.mod_lt _ (by decide))
      · rw [bit_setBit_other _ _ _ _ h2]
        exact hp
    · exact hp

/-! ### Reports -/

/-- A report leaves every register. -/
@[simp] theorem State.rg_reportAt (s : State) (h : Half) (t c k n : Nat) (d : List Nat) (a : Nat) :
    (s.reportAt h t c k n d).rg a = s.rg a := by
  simp only [State.reportAt]
  split <;> simp
@[simp] theorem State.sh_reportAt (s : State) (h : Half) (t c k n : Nat) (d : List Nat) (a : Nat) :
    (s.reportAt h t c k n d).sh a = s.sh a := by
  simp only [State.reportAt]
  split <;> simp
@[simp] theorem State.byte_reportAt (s : State) (h : Half) (t c k n : Nat) (d : List Nat) (a : Nat) :
    (s.reportAt h t c k n d).byte a = s.byte a := by
  simp only [State.reportAt]
  split <;> simp
@[simp] theorem State.deck_reportAt (s : State) (h : Half) (t c k n : Nat) (d : List Nat) :
    (s.reportAt h t c k n d).deck = s.deck := by
  simp only [State.reportAt]
  split <;> simp
@[simp] theorem State.runs_reportAt (s : State) (h : Half) (t c k n : Nat) (d : List Nat) (g : Half) :
    (s.reportAt h t c k n d).runs g = s.runs g := by
  simp only [State.reportAt]
  split
  · rfl
  · exact State.runs_modHalf _ _ _ _ (by rfl) (by rfl)
/-- A half that runs ingests the report last. -/
theorem State.inbox_reportAt (s : State) (h : Half) (t c k n : Nat) (d : List Nat) (hr : s.runs h = true) :
    ((s.reportAt h t c k n d).half h).log.inbox
      = (s.half h).log.inbox ++ [⟨c, k, n, t, d.map (BitVec.ofNat 32)⟩] := by
  simp [State.reportAt, hr]
@[simp] theorem State.rg_report (s : State) (h : Half) (c k n : Nat) (d : List Nat) (a : Nat) :
    (s.report h c k n d).rg a = s.rg a := State.rg_reportAt ..
@[simp] theorem State.sh_report (s : State) (h : Half) (c k n : Nat) (d : List Nat) (a : Nat) :
    (s.report h c k n d).sh a = s.sh a := State.sh_reportAt ..
@[simp] theorem State.byte_report (s : State) (h : Half) (c k n : Nat) (d : List Nat) (a : Nat) :
    (s.report h c k n d).byte a = s.byte a := State.byte_reportAt ..
@[simp] theorem State.deck_report (s : State) (h : Half) (c k n : Nat) (d : List Nat) :
    (s.report h c k n d).deck = s.deck := State.deck_reportAt ..
@[simp] theorem State.runs_report (s : State) (h : Half) (c k n : Nat) (d : List Nat) (g : Half) :
    (s.report h c k n d).runs g = s.runs g := State.runs_reportAt ..
theorem State.inbox_report (s : State) (h : Half) (c k n : Nat) (d : List Nat) (hr : s.runs h = true) :
    ((s.report h c k n d).half h).log.inbox
      = (s.half h).log.inbox ++ [⟨c, k, n, s.now h, d.map (BitVec.ofNat 32)⟩] := State.inbox_reportAt _ _ _ _ _ _ _ hr
@[simp] theorem State.rg_reportDeck (s : State) (c k n : Nat) (d : List Nat) (a : Nat) :
    (s.reportDeck c k n d).rg a = s.rg a := by simp [State.reportDeck]
@[simp] theorem State.sh_reportDeck (s : State) (c k n : Nat) (d : List Nat) (a : Nat) :
    (s.reportDeck c k n d).sh a = s.sh a := by simp [State.reportDeck]
@[simp] theorem State.byte_reportDeck (s : State) (c k n : Nat) (d : List Nat) (a : Nat) :
    (s.reportDeck c k n d).byte a = s.byte a := by simp [State.reportDeck]
@[simp] theorem State.deck_reportDeck (s : State) (c k n : Nat) (d : List Nat) :
    (s.reportDeck c k n d).deck = s.deck := by simp [State.reportDeck]
@[simp] theorem State.runs_reportDeck (s : State) (c k n : Nat) (d : List Nat) (g : Half) :
    (s.reportDeck c k n d).runs g = s.runs g := by simp [State.reportDeck]

/-! ### Tally -/

/-- A count changes nothing but its counter and its OVF bit. -/
theorem State.rg_tallyInc_other (s : State) (h : Half) (n a : Nat) (ha : a ≠ Tally.ctrCfg h n) :
    (s.tallyInc h n).rg a = s.rg a := by
  simp only [State.tallyInc]
  split <;> simp [ha]
@[simp] theorem State.byte_tallyInc (s : State) (h : Half) (n a : Nat) : (s.tallyInc h n).byte a = s.byte a := by
  simp only [State.tallyInc]
  split <;> simp
@[simp] theorem State.sh_tallyInc (s : State) (h : Half) (n a : Nat) : (s.tallyInc h n).sh a = s.sh a := by
  simp only [State.tallyInc]
  split <;> simp
@[simp] theorem State.deck_tallyInc (s : State) (h : Half) (n : Nat) : (s.tallyInc h n).deck = s.deck := by
  simp only [State.tallyInc]
  split <;> simp
@[simp] theorem State.runs_tallyInc (s : State) (h : Half) (n : Nat) (g : Half) :
    (s.tallyInc h n).runs g = s.runs g := by
  have e (v : Nat) : (s.modHalf h (fun x => { x with ctr := Map.set (fun _ => 0) x.ctr n v })).runs g = s.runs g :=
    State.runs_modHalf _ _ _ _ (by rfl) (by rfl)
  simp only [State.tallyInc]
  split
  · rw [State.runs_sb]
    exact e _
  · exact e _
/-- A fold of counts changes nothing but the named counters. -/
theorem State.fold_tallyInc (h : Half) (l : List (Nat × Word)) (s : State) :
    (∀ a, (∀ e ∈ l, a ≠ Tally.ctrCfg h e.1) → (l.foldl (fun t e => t.tallyInc h e.1) s).rg a = s.rg a)
      ∧ (∀ a, (l.foldl (fun t e => t.tallyInc h e.1) s).byte a = s.byte a)
      ∧ (∀ a, (l.foldl (fun t e => t.tallyInc h e.1) s).sh a = s.sh a)
      ∧ (l.foldl (fun t e => t.tallyInc h e.1) s).deck = s.deck
      ∧ ∀ g, (l.foldl (fun t e => t.tallyInc h e.1) s).runs g = s.runs g := by
  induction l generalizing s with
  | nil => simp
  | cons e l ih =>
    obtain ⟨h1, h2, h3, h4, h5⟩ := ih (s.tallyInc h e.1)
    simp only [List.foldl_cons]
    refine ⟨fun a ha => ?_, fun a => ?_, fun a => ?_, ?_, fun g => ?_⟩
    · rw [h1 a (fun f hf => ha f (List.mem_cons_of_mem _ hf)),
        State.rg_tallyInc_other _ _ _ _ (ha e List.mem_cons_self)]
    · rw [h2, State.byte_tallyInc]
    · rw [h3, State.sh_tallyInc]
    · rw [h4, State.deck_tallyInc]
    · rw [h5, State.runs_tallyInc]
/-- The counters named are 0 to 255. -/
theorem State.tallyOn_lt (s : State) (h : Half) (e : Nat × Word) (he : e ∈ s.tallyOn h) : e.1 < 256 := by
  simp only [State.tallyOn, State.tallyCfgs, List.mem_filter, List.mem_map] at he
  obtain ⟨⟨f, ⟨-, hf⟩, rfl⟩, -⟩ := he
  have h1 := of_decide_eq_true (Bool.and_eq_true_iff.1 hf).1
  have h2 := of_decide_eq_true (Bool.and_eq_true_iff.1 hf).2
  simp only [Tally.ctrCfg] at h1 h2 ⊢
  omega
/-- An event changes no register but CTR_CFG of that half. -/
theorem State.rg_tally_other (s : State) (h : Half) (ev a : Nat)
    (ha : a < Tally.ctrCfg h 0 ∨ Tally.ctrCfg h 256 ≤ a) : (s.tally h ev).rg a = s.rg a := by
  simp only [State.tally]
  split
  · rfl
  · refine (State.fold_tallyInc h _ s).1 a fun e he => ?_
    have := s.tallyOn_lt h e (List.mem_filter.1 he).1
    simp only [Tally.ctrCfg] at ha ⊢
    omega
@[simp] theorem State.byte_tally (s : State) (h : Half) (ev a : Nat) : (s.tally h ev).byte a = s.byte a := by
  simp only [State.tally]
  split
  · rfl
  · exact (State.fold_tallyInc h _ s).2.1 a
@[simp] theorem State.sh_tally (s : State) (h : Half) (ev a : Nat) : (s.tally h ev).sh a = s.sh a := by
  simp only [State.tally]
  split
  · rfl
  · exact (State.fold_tallyInc h _ s).2.2.1 a
@[simp] theorem State.deck_tally (s : State) (h : Half) (ev : Nat) : (s.tally h ev).deck = s.deck := by
  simp only [State.tally]
  split
  · rfl
  · exact (State.fold_tallyInc h _ s).2.2.2.1
@[simp] theorem State.runs_tally (s : State) (h : Half) (ev : Nat) (g : Half) : (s.tally h ev).runs g = s.runs g := by
  simp only [State.tally]
  split
  · rfl
  · exact (State.fold_tallyInc h _ s).2.2.2.2 g

end Sys2Proof.Machine
end

