-- ==== Sys2Proof/Laws/Memory.lean ====
section
/-! SUPPORT. Laws of the bytes of DDR and staging and of the canonical form: a byte reads as it was last written, a write
leaves the other bytes, and every operation that writes memory, a register or a shadow keeps the form. -/
namespace Sys2Proof.Machine

/-! ### Reading after writing -/

/-- A written byte reads as it was written. -/
@[simp] theorem State.byte_setByte_same (s : State) (k : Nat) (w : Byte) : (s.setByte k w).byte k = w := by
  simp [State.byte_setByte]
/-- Bytes outside a written block stay. -/
theorem State.byte_setBytes_outside (bs : List Byte) (s : State) (k a : Nat) (h : a < k ∨ k + bs.length ≤ a) :
    (s.setBytes k bs).byte a = s.byte a := by
  induction bs generalizing s k with
  | nil => rfl
  | cons b bs ih =>
    simp only [List.length_cons] at h
    rw [State.setBytes, ih _ _ (by omega), State.byte_setByte, if_neg (by omega)]
/-- Bytes inside a written block read as they were written. -/
theorem State.byte_setBytes_inside (bs : List Byte) (s : State) (k i : Nat) (h : i < bs.length) :
    (s.setBytes k bs).byte (k + i) = bs[i] := by
  induction bs generalizing s k i with
  | nil => exact absurd h (Nat.not_lt_zero _)
  | cons b bs ih =>
    cases i with
    | zero =>
      rw [State.setBytes, State.byte_setBytes_outside _ _ _ _ (by omega)]
      simp
    | succ i =>
      have := ih (s.setByte k b) (k + 1) i (by simpa using h)
      rw [State.setBytes, show k + (i + 1) = k + 1 + i by omega, this]
      rfl
theorem length_leBytes (n v : Nat) : (leBytes n v).length = n := by
  induction n generalizing v with
  | zero => rfl
  | succ n ih => simp [leBytes, ih]
/-- A little-endian store leaves the bytes outside it. -/
theorem State.byte_setMemNat_outside (s : State) (k n v a : Nat) (h : a < k ∨ k + n ≤ a) :
    (s.setMemNat k n v).byte a = s.byte a :=
  State.byte_setBytes_outside _ _ _ _ (by rwa [length_leBytes])

/-! ### A block write changes memory alone -/

theorem State.setBytes_mem (bs : List Byte) (s : State) (k : Nat) :
    s.setBytes k bs = { s with mem := (s.setBytes k bs).mem } := by
  induction bs generalizing s k with
  | nil => rfl
  | cons b bs ih =>
    rw [State.setBytes, ih]
    rfl
@[simp] theorem State.rg_setBytes (s : State) (k : Nat) (bs : List Byte) (a : Nat) : (s.setBytes k bs).rg a = s.rg a := by
  rw [State.setBytes_mem]
  rfl
@[simp] theorem State.sh_setBytes (s : State) (k : Nat) (bs : List Byte) (a : Nat) : (s.setBytes k bs).sh a = s.sh a := by
  rw [State.setBytes_mem]
  rfl
@[simp] theorem State.half_setBytes (s : State) (k : Nat) (bs : List Byte) (h : Half) :
    (s.setBytes k bs).half h = s.half h := by
  rw [State.setBytes_mem]
  cases h <;> rfl
@[simp] theorem State.deck_setBytes (s : State) (k : Nat) (bs : List Byte) : (s.setBytes k bs).deck = s.deck := by
  rw [State.setBytes_mem]
@[simp] theorem State.pending_setBytes (s : State) (k : Nat) (bs : List Byte) : (s.setBytes k bs).pending = s.pending := by
  rw [State.setBytes_mem]
@[simp] theorem State.rg_setMemNat (s : State) (k n v a : Nat) : (s.setMemNat k n v).rg a = s.rg a :=
  State.rg_setBytes ..
@[simp] theorem State.sh_setMemNat (s : State) (k n v a : Nat) : (s.setMemNat k n v).sh a = s.sh a :=
  State.sh_setBytes ..
@[simp] theorem State.half_setMemNat (s : State) (k n v : Nat) (h : Half) : (s.setMemNat k n v).half h = s.half h :=
  State.half_setBytes ..
@[simp] theorem State.deck_setMemNat (s : State) (k n v : Nat) : (s.setMemNat k n v).deck = s.deck :=
  State.deck_setBytes ..

/-! ### The canonical form -/

/-- One byte write keeps it. -/
theorem Memory.wf_setByte (s : State) (k : Nat) (w : Byte) (h : Memory.wf s.mem = true) :
    Memory.wf (s.setByte k w).mem = true := Map.wf_set _ _ _ _ h
/-- A block write keeps it. -/
theorem Memory.wf_setBytes (bs : List Byte) (s : State) (k : Nat) (h : Memory.wf s.mem = true) :
    Memory.wf (s.setBytes k bs).mem = true := by
  induction bs generalizing s k with
  | nil => exact h
  | cons b bs ih => exact ih _ _ (Memory.wf_setByte s k b h)
/-- A little-endian store keeps it. -/
theorem Memory.wf_setMemNat (s : State) (k n v : Nat) (h : Memory.wf s.mem = true) :
    Memory.wf (s.setMemNat k n v).mem = true := Memory.wf_setBytes _ _ _ h
/-- Dropping bytes (a half's reset) keeps it. -/
theorem Memory.wf_filter (p : Nat × Byte → Bool) (m : Map Byte) (h : Memory.wf m = true) :
    Memory.wf (m.filter p) = true := by
  simp only [Memory.wf, Map.wf, Bool.and_eq_true] at h ⊢
  refine ⟨Map.rising_filter p m h.1, (Map.noDefault_iff _ _).2 fun e he => ?_⟩
  exact (Map.noDefault_iff _ _).1 h.2 e (List.mem_filter.1 he).1
/-- Reset memory lists nothing and has the form; so have the registers and shadows. -/
theorem State.wf_reset : State.reset.wf = true := rfl
/-- Two memories in the form that read alike at every address are equal data. -/
theorem Memory.ext (m n : Map Byte) (hm : Memory.wf m = true) (hn : Memory.wf n = true)
    (h : ∀ a, Map.get (fun _ => 0) m a = Map.get (fun _ => 0) n a) : m = n := by
  have above_get (l : Map Byte) (k : Nat) (hl : Map.above (k + 1) l) : Map.get (fun _ => 0) l k = 0 := by
    induction l with
    | nil => rfl
    | cons e l ih =>
      have := hl e List.mem_cons_self
      rw [Map.get, if_neg (by omega)]
      exact ih fun f hf => hl f (List.mem_cons_of_mem _ hf)
  have le_get (l : Map Byte) (i k : Nat) (hl : Map.above (i + 1) l) (hk : k ≤ i) : Map.get (fun _ => 0) l k = 0 :=
    above_get l k fun e he => by have := hl e he; omega
  simp only [Memory.wf, Map.wf, Bool.and_eq_true] at hm hn
  induction m generalizing n with
  | nil =>
    cases n with
    | nil => rfl
    | cons e n =>
      obtain ⟨i, v⟩ := e
      have h1 := h i
      have h2 := (Map.noDefault_iff _ _).1 hn.2 (i, v) List.mem_cons_self
      simp only [Map.get, if_true] at h1
      exact absurd h1.symm h2
  | cons e m ih =>
    obtain ⟨i, v⟩ := e
    have am := (Map.rising_cons i v m).1 hm.1
    have dm := (Map.noDefault_iff _ _).1 hm.2 (i, v) List.mem_cons_self
    cases n with
    | nil =>
      have h1 := h i
      simp only [Map.get, if_true] at h1
      exact absurd h1 dm
    | cons f n =>
      obtain ⟨j, w⟩ := f
      have an := (Map.rising_cons j w n).1 hn.1
      have dn := (Map.noDefault_iff _ _).1 hn.2 (j, w) List.mem_cons_self
      have hij : i = j := by
        rcases Nat.lt_trichotomy i j with hlt | he | hgt
        · have h1 := h i
          rw [Map.get, if_pos rfl, Map.get, if_neg (by omega), le_get n j i an.1 (by omega)] at h1
          exact absurd h1 dm
        · exact he
        · have h1 := h j
          rw [Map.get, if_neg (by omega), Map.get, if_pos rfl, le_get m i j am.1 (by omega)] at h1
          exact absurd h1.symm dn
      subst hij
      have hv : v = w := by simpa [Map.get] using h i
      subst hv
      congr 1
      refine ih n (fun a => ?_) ⟨am.2, ?_⟩ ⟨an.2, ?_⟩
      · by_cases ha : a ≤ i
        · rw [le_get m i a am.1 ha, le_get n i a an.1 ha]
        · have h1 := h a
          rwa [Map.get, if_neg (by omega), Map.get, if_neg (by omega)] at h1
      · exact (Map.noDefault_iff _ _).2 fun e he => (Map.noDefault_iff _ _).1 hm.2 e (List.mem_cons_of_mem _ he)
      · exact (Map.noDefault_iff _ _).2 fun e he => (Map.noDefault_iff _ _).1 hn.2 e (List.mem_cons_of_mem _ he)
/-- A register write keeps the form of the registers. -/
theorem State.wf_wr (s : State) (k : Nat) (w : Word) (h : s.wf = true) : (s.wr k w).wf = true := by
  simp only [State.wf, Bool.and_eq_true] at h ⊢
  exact ⟨⟨Map.wf_set _ _ _ _ h.1.1, h.1.2⟩, h.2⟩
/-- A shadow write keeps the form of the shadows. -/
theorem State.wf_wrSh (s : State) (k : Nat) (w : Word) (h : s.wf = true) : (s.wrSh k w).wf = true := by
  simp only [State.wf, Bool.and_eq_true] at h ⊢
  exact ⟨⟨h.1.1, Map.wf_set _ _ _ _ h.1.2⟩, h.2⟩
/-- A byte write keeps the form of the whole state. -/
theorem State.wf_setByte (s : State) (k : Nat) (w : Byte) (h : s.wf = true) : (s.setByte k w).wf = true := by
  simp only [State.wf, Bool.and_eq_true] at h ⊢
  exact ⟨h.1, Memory.wf_setByte s k w h.2⟩
/-- Asserting a source keeps it. -/
theorem State.wf_raise (s : State) (h : Half) (src : Nat) (e : s.wf = true) : (s.raise h src).wf = true := by
  rcases s.raise_cases h src with r | r | r <;> rw [r]
  · exact e
  · exact State.wf_wr _ _ _ e
  · exact State.wf_wr _ _ _ e

end Sys2Proof.Machine
end

