-- ==== Sys2Proof/Laws/Runs.lean ====
section
/-! SUPPORT. The parts of the state that are kept in maps by number (slots, tasks, cores, drive links, ports): what each holds
after its own update, after the same update of another number, and that registers, shadows and bytes stay as they were. -/
namespace Sys2Proof.Machine

/-! ### Slots -/

@[simp] theorem State.run_modRun (s : State) (h : Half) (q : Nat) (f : SlotRun → SlotRun) :
    (s.modRun h q f).run h q = f (s.run h q) := by simp [State.run, State.modRun]
theorem State.run_modRun_other (s : State) (h : Half) (q i : Nat) (f : SlotRun → SlotRun) (e : i ≠ q) :
    (s.modRun h q f).run h i = s.run h i := by simp [State.run, State.modRun, Map.get_set_other _ _ _ _ _ e]
@[simp] theorem State.rg_modRun (s : State) (h : Half) (q a : Nat) (f : SlotRun → SlotRun) :
    (s.modRun h q f).rg a = s.rg a := by cases h <;> rfl
@[simp] theorem State.sh_modRun (s : State) (h : Half) (q a : Nat) (f : SlotRun → SlotRun) :
    (s.modRun h q f).sh a = s.sh a := by cases h <;> rfl
@[simp] theorem State.byte_modRun (s : State) (h : Half) (q a : Nat) (f : SlotRun → SlotRun) :
    (s.modRun h q f).byte a = s.byte a := by cases h <;> rfl

/-! ### Tasks -/

@[simp] theorem State.task_modTask (s : State) (h : Half) (t : Nat) (f : TaskRun → TaskRun) :
    (s.modTask h t f).task h t = f (s.task h t) := by simp [State.task, State.modTask]
theorem State.task_modTask_other (s : State) (h : Half) (t i : Nat) (f : TaskRun → TaskRun) (e : i ≠ t) :
    (s.modTask h t f).task h i = s.task h i := by simp [State.task, State.modTask, Map.get_set_other _ _ _ _ _ e]
@[simp] theorem State.rg_modTask (s : State) (h : Half) (t a : Nat) (f : TaskRun → TaskRun) :
    (s.modTask h t f).rg a = s.rg a := by cases h <;> rfl
@[simp] theorem State.sh_modTask (s : State) (h : Half) (t a : Nat) (f : TaskRun → TaskRun) :
    (s.modTask h t f).sh a = s.sh a := by cases h <;> rfl
@[simp] theorem State.byte_modTask (s : State) (h : Half) (t a : Nat) (f : TaskRun → TaskRun) :
    (s.modTask h t f).byte a = s.byte a := by cases h <;> rfl

/-! ### Cores -/

@[simp] theorem State.core_modCore (s : State) (h : Half) (c : Nat) (f : CoreRun → CoreRun) :
    (s.modCore h c f).core h c = f (s.core h c) := by simp [State.core, State.modCore]
theorem State.core_modCore_other (s : State) (h : Half) (c i : Nat) (f : CoreRun → CoreRun) (e : i ≠ c) :
    (s.modCore h c f).core h i = s.core h i := by simp [State.core, State.modCore, Map.get_set_other _ _ _ _ _ e]
@[simp] theorem State.rg_modCore (s : State) (h : Half) (c a : Nat) (f : CoreRun → CoreRun) :
    (s.modCore h c f).rg a = s.rg a := by cases h <;> rfl
@[simp] theorem State.sh_modCore (s : State) (h : Half) (c a : Nat) (f : CoreRun → CoreRun) :
    (s.modCore h c f).sh a = s.sh a := by cases h <;> rfl
@[simp] theorem State.byte_modCore (s : State) (h : Half) (c a : Nat) (f : CoreRun → CoreRun) :
    (s.modCore h c f).byte a = s.byte a := by cases h <;> rfl

/-! ### Drive links -/

@[simp] theorem State.lrun_modLink (s : State) (l : Nat) (f : LinkRun → LinkRun) :
    (s.modLink l f).lrun l = f (s.lrun l) := by simp [State.lrun, State.modLink]
theorem State.lrun_modLink_other (s : State) (l i : Nat) (f : LinkRun → LinkRun) (e : i ≠ l) :
    (s.modLink l f).lrun i = s.lrun i := by simp [State.lrun, State.modLink, Map.get_set_other _ _ _ _ _ e]
@[simp] theorem State.rg_modLink (s : State) (l a : Nat) (f : LinkRun → LinkRun) :
    (s.modLink l f).rg a = s.rg a := (Eq.refl _).trans rfl
@[simp] theorem State.sh_modLink (s : State) (l a : Nat) (f : LinkRun → LinkRun) :
    (s.modLink l f).sh a = s.sh a := (Eq.refl _).trans rfl
@[simp] theorem State.byte_modLink (s : State) (l a : Nat) (f : LinkRun → LinkRun) :
    (s.modLink l f).byte a = s.byte a := (Eq.refl _).trans rfl

/-! ### Motion ports -/

@[simp] theorem State.prun_modPort (s : State) (p : Nat) (f : MotRun → MotRun) :
    (s.modPort p f).prun p = f (s.prun p) := by simp [State.prun, State.modPort]
theorem State.prun_modPort_other (s : State) (p i : Nat) (f : MotRun → MotRun) (e : i ≠ p) :
    (s.modPort p f).prun i = s.prun i := by simp [State.prun, State.modPort, Map.get_set_other _ _ _ _ _ e]
@[simp] theorem State.rg_modPort (s : State) (p a : Nat) (f : MotRun → MotRun) :
    (s.modPort p f).rg a = s.rg a := (Eq.refl _).trans rfl
@[simp] theorem State.sh_modPort (s : State) (p a : Nat) (f : MotRun → MotRun) :
    (s.modPort p f).sh a = s.sh a := (Eq.refl _).trans rfl
@[simp] theorem State.byte_modPort (s : State) (p a : Nat) (f : MotRun → MotRun) :
    (s.modPort p f).byte a = s.byte a := (Eq.refl _).trans rfl

end Sys2Proof.Machine
end

