-- ==== Sys2Proof/WellFormed.lean ====
section
/-! DEFINITION. Which commands are well-formed: every index lies in the range the spec gives it. -/
namespace Sys2Proof

/-- Every index of the command lies in its range. -/
def Instr.wf (i : Instr) : Bool :=
  match i with
  | .registerWrite _ master addr _ => decide (master < 32) && decide (addr < 68719476736)
  | .deckItemArrive _ => true
  | .crossHalfRead _ core addr => decide (core < 8) && decide (addr < 68719476736)
  | .laneTrainingFail _ _ _ lane => decide (lane < 8)
  | .eccDoubleError _ e _ clean => decide (e < 512) && decide (clean < 65536)
  | .scrubberPass _ slab _ => decide (slab < 4)
  | .coreParity _ core => decide (core < 8)
  | .cmtStrobe _ _ => true
  | .unitCommit _ g _ => decide (g < 22)
  | .cmtAbandon _ _ => true
  | .cmtLock _ _ => true
  | .cmtFaultFlagClear _ reg _ => decide (reg < 3)
  | .evcPendClear _ k _ _ => decide (k < 32)
  | .snapStart _ _ => true
  | .snapshotT _ => true
  | .snapshotDone _ => true
  | .tallyCtrLoRead _ core n => decide (core < 8) && decide (n < 256)
  | .tallyCtrLoWrite _ n _ => decide (n < 256)
  | .tallyWrap _ n => decide (n < 256)
  | .tallyDump _ => true
  | .timeNowLoRead _ core => decide (core < 8)
  | .imageCheck _ => true
  | .imageCheckDone _ => true
  | .imageStore _ => true
  | .imageStoreDone _ _ => true
  | .imagePartnerCopy _ => true
  | .partnerCopyDone _ => true
  | .mirrorLinkUp => true
  | .regionPairMark _ r => decide (r < 4512)
  | .pairTimeout _ r => decide (r < 4512)
  | .regionCommit _ r => decide (r < 4512)
  | .startImageLoaded _ _ => true
  | .sampleTick _ q => decide (q < 4096)
  | .overrunFault _ q => decide (q < 4096)
  | .measWordArrive _ => true
  | .inWaitExpire _ q => decide (q < 4096)
  | .preparePhaseEnd _ q => decide (q < 4096)
  | .criticalPhaseEnd _ q _ queue => decide (q < 4096) && decide (queue < 9)
  | .finishPhaseEnd _ q => decide (q < 4096)
  | .missLimitReached _ q => decide (q < 4096)
  | .slotRestart _ q => decide (q < 4096)
  | .slotClearCounts _ q => decide (q < 4096)
  | .clearLat _ q => decide (q < 4096)
  | .engStop _ e _ => decide (e < 512)
  | .lossDeclared _ q => decide (q < 4096)
  | .reacquired _ q => decide (q < 4096)
  | .catchExpired _ q => decide (q < 4096)
  | .fadeComplete _ q => decide (q < 4096)
  | .tracePacketAge _ q => decide (q < 4096)
  | .traceHalfBufferDrained _ q => decide (q < 4096)
  | .balancerRun _ => true
  | .plcMove _ loop e => decide (loop < 4096) && decide (e < 512)
  | .plcEvacuate _ e => decide (e < 512)
  | .plcInclude _ e => decide (e < 512)
  | .precopyDone _ loop => decide (loop < 4096)
  | .migrationBoundary _ loop => decide (loop < 4096)
  | .migrationAbandoned _ loop => decide (loop < 4096)
  | .slabStep _ slab _ m => decide (slab < 4) && decide (m.volt < 51) && decide (m.slack < 256)
  | .slabLowSlack _ slab slack volt => decide (slab < 4) && decide (slack < 256) && decide (volt < 51)
  | .monitorAtFloor _ slab => decide (slab < 4)
  | .engineFault _ e cause clean => decide (e < 512) && decide (cause < 3) && decide (clean < 65536)
  | .clusterFault _ cluster => decide (cluster < 32)
  | .slabFault _ slab cause => decide (slab < 4) && decide (cause < 6)
  | .copyResume _ loop => decide (loop < 4096)
  | .driveLinkSync b => decide (b.link < 64)
  | .driveCmdWord _ => true
  | .cmdDeadline l => decide (l < 64)
  | .returnFrame l _ => decide (l < 64)
  | .linkUp l => decide (l < 64)
  | .linkDown l cause => decide (l < 64) && decide (cause < 2)
  | .gateOpen l _ _ => decide (l < 64)
  | .gateForeign l _ _ => decide (l < 64)
  | .linkClearCounts _ l => decide (l < 64)
  | .retrain _ l => decide (l < 64)
  | .motionTick p _ _ => decide (p < 32)
  | .motionCmdWord _ => true
  | .portCmdMissing p => decide (p < 32)
  | .portStandstill p => decide (p < 32)
  | .portStalled p => decide (p < 32)
  | .portStart _ p => decide (p < 32)
  | .portAbort _ p => decide (p < 32)
  | .posSet _ p => decide (p < 32)
  | .portClearCounts _ p => decide (p < 32)
  | .precisionConversion c _ _ _ _ _ _ _ _ => decide (c < 256)
  | .fastConversion c _ _ _ _ => decide (c < 256)
  | .analogOutCmd _ => true
  | .outValueWrite _ c _ => decide (c < 256)
  | .analogCmdMissing c => decide (c < 256)
  | .outputReadback c _ _ _ _ _ => decide (c < 256)
  | .openLoop c _ => decide (c < 256)
  | .compliance c _ => decide (c < 256)
  | .passiveIslandUpdate c => decide (c < 256)
  | .islandFrameLoss c => decide (c < 256)
  | .loopUnpowered c => decide (c < 256)
  | .overload c kind _ => decide (c < 256) && decide (kind < 3)
  | .shuntRetest c _ => decide (c < 256)
  | .tcOpenWireTest c _ => decide (c < 256)
  | .settlingEnd c => decide (c < 256)
  | .cardRemoved kind n => decide (kind < 3) && decide (n < 16)
  | .cardInserted kind n refused issue bad _ => decide (kind < 3) && decide (n < 16) && decide (refused < 4) && decide (issue < 256) && decide (bad < 1024)
  | .cardReady kind n => decide (kind < 3) && decide (n < 16)
  | .calOffline _ c => decide (c < 256)
  | .calPointLo _ c => decide (c < 256)
  | .calPointHi _ c => decide (c < 256)
  | .calPointTaken c _ => decide (c < 256)
  | .calApply _ c => decide (c < 256)
  | .calStoreDone c _ => decide (c < 256)
  | .calOnline _ c => decide (c < 256)
  | .calResetUser _ c => decide (c < 256)
  | .calTimeout c => decide (c < 256)
  | .diWindow n _ _ _ => decide (n < 16)
  | .diEdge i _ _ _ => decide (i < 512)
  | .unresolvedLong i => decide (i < 512)
  | .diCountWrap i => decide (i < 512)
  | .freqGateEnd i => decide (i < 512)
  | .diClearCount _ i => decide (i < 512)
  | .diClearCounts _ i => decide (i < 512)
  | .testPulseSlotStart g => decide (g < 128)
  | .testPulseHoldEnd g => decide (g < 128)
  | .tpSupplyFault g _ => decide (g < 128)
  | .doOutWrite _ n _ _ => decide (n < 8)
  | .wdKick _ n => decide (n < 8)
  | .wdRestart _ n => decide (n < 8)
  | .wdExpired n => decide (n < 8)
  | .thermalOff o => decide (o < 256)
  | .thermalAutoRetry o => decide (o < 256)
  | .doRetry _ o _ => decide (o < 256)
  | .doClearCounts _ o => decide (o < 256)
  | .supplyLow n sec _ _ => decide (n < 8) && decide (sec < 8)
  | .openLoad o _ => decide (o < 256)
  | .shortToSupply o phase _ => decide (o < 256) && decide (phase < 4)
  | .limitLong o phase => decide (o < 256) && decide (phase < 3)
  | .lidInputChange i => decide (i < 1280)
  | .termDelayExpire t => decide (t < 512)
  | .halfDemandVector _ => true
  | .lidDemandWrite _ w _ => decide (w < 8)
  | .halfDemandRelease _ => true
  | .termRailFault t => decide (t < 512)
  | .railFaultClear t => decide (t < 512)
  | .configCrcCompare _ _ => true
  | .targetFault k _ _ => decide (k < 352)
  | .lidResetArm src _ groups => decide (src < 4) && decide (groups < 65536)
  | .lidResetConfirm src _ groups => decide (src < 4) && decide (groups < 65536)
  | .armWindowExpire t => decide (t < 512)
  | .pwSet _ => true
  | .lidClearCounts _ => true
  | .lidCommit => true
  | .abandonedTripped => true
  | .tokenBlockEnd => true
  | .taskRelease _ t => decide (t < 16)
  | .inputPhase _ t => decide (t < 16)
  | .taskCycleEnd _ t => decide (t < 16)
  | .retainedWritebackDone _ t => decide (t < 16)
  | .taskHung _ t => decide (t < 16)
  | .loopQueueWrite _ g => decide (g < 22)
  | .timerInWrite _ k _ _ => decide (k < 4096)
  | .errorTaskRelease _ => true
  | .restartWarm _ => true
  | .restartCold _ => true
  | .stopAll _ => true
  | .taskStop _ t => decide (t < 16)
  | .startWarm _ t => decide (t < 16)
  | .startCold _ t => decide (t < 16)
  | .taskClearCounts _ t => decide (t < 16)
  | .restartBuildDone _ t => decide (t < 16)
  | .taskPrepareDone _ t => decide (t < 16)
  | .taskCarry _ t _ => decide (t < 16)
  | .backgroundRestart _ c => decide (c < 8)
  | .add _ core d s1 s2 => decide (core < 8) && decide (d < 32) && decide (s1 < 32) && decide (s2 < 32)
  | .sub _ core d s1 s2 => decide (core < 8) && decide (d < 32) && decide (s1 < 32) && decide (s2 < 32)
  | .and _ core d s1 s2 => decide (core < 8) && decide (d < 32) && decide (s1 < 32) && decide (s2 < 32)
  | .or _ core d s1 s2 => decide (core < 8) && decide (d < 32) && decide (s1 < 32) && decide (s2 < 32)
  | .xor _ core d s1 s2 => decide (core < 8) && decide (d < 32) && decide (s1 < 32) && decide (s2 < 32)
  | .andn _ core d s1 s2 => decide (core < 8) && decide (d < 32) && decide (s1 < 32) && decide (s2 < 32)
  | .sll _ core d s1 s2 => decide (core < 8) && decide (d < 32) && decide (s1 < 32) && decide (s2 < 32)
  | .srl _ core d s1 s2 => decide (core < 8) && decide (d < 32) && decide (s1 < 32) && decide (s2 < 32)
  | .sra _ core d s1 s2 => decide (core < 8) && decide (d < 32) && decide (s1 < 32) && decide (s2 < 32)
  | .mul _ core d s1 s2 => decide (core < 8) && decide (d < 32) && decide (s1 < 32) && decide (s2 < 32)
  | .mulhs _ core d s1 s2 => decide (core < 8) && decide (d < 32) && decide (s1 < 32) && decide (s2 < 32)
  | .mulhu _ core d s1 s2 => decide (core < 8) && decide (d < 32) && decide (s1 < 32) && decide (s2 < 32)
  | .div _ core d s1 s2 => decide (core < 8) && decide (d < 32) && decide (s1 < 32) && decide (s2 < 32)
  | .divu _ core d s1 s2 => decide (core < 8) && decide (d < 32) && decide (s1 < 32) && decide (s2 < 32)
  | .rem _ core d s1 s2 => decide (core < 8) && decide (d < 32) && decide (s1 < 32) && decide (s2 < 32)
  | .remu _ core d s1 s2 => decide (core < 8) && decide (d < 32) && decide (s1 < 32) && decide (s2 < 32)
  | .slt _ core d s1 s2 => decide (core < 8) && decide (d < 32) && decide (s1 < 32) && decide (s2 < 32)
  | .sltu _ core d s1 s2 => decide (core < 8) && decide (d < 32) && decide (s1 < 32) && decide (s2 < 32)
  | .min _ core d s1 s2 => decide (core < 8) && decide (d < 32) && decide (s1 < 32) && decide (s2 < 32)
  | .max _ core d s1 s2 => decide (core < 8) && decide (d < 32) && decide (s1 < 32) && decide (s2 < 32)
  | .minu _ core d s1 s2 => decide (core < 8) && decide (d < 32) && decide (s1 < 32) && decide (s2 < 32)
  | .maxu _ core d s1 s2 => decide (core < 8) && decide (d < 32) && decide (s1 < 32) && decide (s2 < 32)
  | .add32 _ core d s1 s2 => decide (core < 8) && decide (d < 32) && decide (s1 < 32) && decide (s2 < 32)
  | .sub32 _ core d s1 s2 => decide (core < 8) && decide (d < 32) && decide (s1 < 32) && decide (s2 < 32)
  | .sll32 _ core d s1 s2 => decide (core < 8) && decide (d < 32) && decide (s1 < 32) && decide (s2 < 32)
  | .srl32 _ core d s1 s2 => decide (core < 8) && decide (d < 32) && decide (s1 < 32) && decide (s2 < 32)
  | .sra32 _ core d s1 s2 => decide (core < 8) && decide (d < 32) && decide (s1 < 32) && decide (s2 < 32)
  | .mul32 _ core d s1 s2 => decide (core < 8) && decide (d < 32) && decide (s1 < 32) && decide (s2 < 32)
  | .div32 _ core d s1 s2 => decide (core < 8) && decide (d < 32) && decide (s1 < 32) && decide (s2 < 32)
  | .rem32 _ core d s1 s2 => decide (core < 8) && decide (d < 32) && decide (s1 < 32) && decide (s2 < 32)
  | .addi _ core d s1 imm => decide (core < 8) && decide (d < 32) && decide (s1 < 32) && decide (imm < 65536)
  | .andi _ core d s1 imm => decide (core < 8) && decide (d < 32) && decide (s1 < 32) && decide (imm < 65536)
  | .ori _ core d s1 imm => decide (core < 8) && decide (d < 32) && decide (s1 < 32) && decide (imm < 65536)
  | .xori _ core d s1 imm => decide (core < 8) && decide (d < 32) && decide (s1 < 32) && decide (imm < 65536)
  | .slti _ core d s1 imm => decide (core < 8) && decide (d < 32) && decide (s1 < 32) && decide (imm < 65536)
  | .sltiu _ core d s1 imm => decide (core < 8) && decide (d < 32) && decide (s1 < 32) && decide (imm < 65536)
  | .shi _ core d s1 imm => decide (core < 8) && decide (d < 32) && decide (s1 < 32) && decide (imm < 65536)
  | .lcn _ core d imm => decide (core < 8) && decide (d < 32) && decide (imm < 2097152)
  | .lch _ core d s1 imm => decide (core < 8) && decide (d < 32) && decide (s1 < 32) && decide (imm < 65536)
  | .addi32 _ core d s1 imm => decide (core < 8) && decide (d < 32) && decide (s1 < 32) && decide (imm < 65536)
  | .lb _ core d s1 imm => decide (core < 8) && decide (d < 32) && decide (s1 < 32) && decide (imm < 65536)
  | .lbu _ core d s1 imm => decide (core < 8) && decide (d < 32) && decide (s1 < 32) && decide (imm < 65536)
  | .lh _ core d s1 imm => decide (core < 8) && decide (d < 32) && decide (s1 < 32) && decide (imm < 65536)
  | .lhu _ core d s1 imm => decide (core < 8) && decide (d < 32) && decide (s1 < 32) && decide (imm < 65536)
  | .lw _ core d s1 imm => decide (core < 8) && decide (d < 32) && decide (s1 < 32) && decide (imm < 65536)
  | .lwu _ core d s1 imm => decide (core < 8) && decide (d < 32) && decide (s1 < 32) && decide (imm < 65536)
  | .ld _ core d s1 imm => decide (core < 8) && decide (d < 32) && decide (s1 < 32) && decide (imm < 65536)
  | .flw _ core d s1 imm => decide (core < 8) && decide (d < 32) && decide (s1 < 32) && decide (imm < 65536)
  | .fld _ core d s1 imm => decide (core < 8) && decide (d < 32) && decide (s1 < 32) && decide (imm < 65536)
  | .sb _ core d s1 imm => decide (core < 8) && decide (d < 32) && decide (s1 < 32) && decide (imm < 65536)
  | .sh _ core d s1 imm => decide (core < 8) && decide (d < 32) && decide (s1 < 32) && decide (imm < 65536)
  | .sw _ core d s1 imm => decide (core < 8) && decide (d < 32) && decide (s1 < 32) && decide (imm < 65536)
  | .sd _ core d s1 imm => decide (core < 8) && decide (d < 32) && decide (s1 < 32) && decide (imm < 65536)
  | .fsw _ core d s1 imm => decide (core < 8) && decide (d < 32) && decide (s1 < 32) && decide (imm < 65536)
  | .fsd _ core d s1 imm => decide (core < 8) && decide (d < 32) && decide (s1 < 32) && decide (imm < 65536)
  | .beq _ core s1 s2 off => decide (core < 8) && decide (s1 < 32) && decide (s2 < 32) && decide (off < 65536)
  | .bne _ core s1 s2 off => decide (core < 8) && decide (s1 < 32) && decide (s2 < 32) && decide (off < 65536)
  | .blt _ core s1 s2 off => decide (core < 8) && decide (s1 < 32) && decide (s2 < 32) && decide (off < 65536)
  | .bge _ core s1 s2 off => decide (core < 8) && decide (s1 < 32) && decide (s2 < 32) && decide (off < 65536)
  | .bltu _ core s1 s2 off => decide (core < 8) && decide (s1 < 32) && decide (s2 < 32) && decide (off < 65536)
  | .bgeu _ core s1 s2 off => decide (core < 8) && decide (s1 < 32) && decide (s2 < 32) && decide (off < 65536)
  | .jmp _ core off => decide (core < 8) && decide (off < 67108864)
  | .call _ core off => decide (core < 8) && decide (off < 67108864)
  | .jrl _ core d s1 s2 fn => decide (core < 8) && decide (d < 32) && decide (s1 < 32) && decide (s2 < 32) && decide (fn < 2048)
  | .fadd _ core _ d s1 s2 s3 => decide (core < 8) && decide (d < 32) && decide (s1 < 32) && decide (s2 < 32) && decide (s3 < 32)
  | .fsub _ core _ d s1 s2 s3 => decide (core < 8) && decide (d < 32) && decide (s1 < 32) && decide (s2 < 32) && decide (s3 < 32)
  | .fmul _ core _ d s1 s2 s3 => decide (core < 8) && decide (d < 32) && decide (s1 < 32) && decide (s2 < 32) && decide (s3 < 32)
  | .fdiv _ core _ d s1 s2 s3 => decide (core < 8) && decide (d < 32) && decide (s1 < 32) && decide (s2 < 32) && decide (s3 < 32)
  | .fsqrt _ core _ d s1 s2 s3 => decide (core < 8) && decide (d < 32) && decide (s1 < 32) && decide (s2 < 32) && decide (s3 < 32)
  | .fma _ core _ d s1 s2 s3 => decide (core < 8) && decide (d < 32) && decide (s1 < 32) && decide (s2 < 32) && decide (s3 < 32)
  | .fmin _ core _ d s1 s2 s3 => decide (core < 8) && decide (d < 32) && decide (s1 < 32) && decide (s2 < 32) && decide (s3 < 32)
  | .fmax _ core _ d s1 s2 s3 => decide (core < 8) && decide (d < 32) && decide (s1 < 32) && decide (s2 < 32) && decide (s3 < 32)
  | .fneg _ core _ d s1 s2 s3 => decide (core < 8) && decide (d < 32) && decide (s1 < 32) && decide (s2 < 32) && decide (s3 < 32)
  | .fabs _ core _ d s1 s2 s3 => decide (core < 8) && decide (d < 32) && decide (s1 < 32) && decide (s2 < 32) && decide (s3 < 32)
  | .fmov _ core _ d s1 s2 s3 => decide (core < 8) && decide (d < 32) && decide (s1 < 32) && decide (s2 < 32) && decide (s3 < 32)
  | .feq _ core _ d s1 s2 s3 => decide (core < 8) && decide (d < 32) && decide (s1 < 32) && decide (s2 < 32) && decide (s3 < 32)
  | .flt _ core _ d s1 s2 s3 => decide (core < 8) && decide (d < 32) && decide (s1 < 32) && decide (s2 < 32) && decide (s3 < 32)
  | .fle _ core _ d s1 s2 s3 => decide (core < 8) && decide (d < 32) && decide (s1 < 32) && decide (s2 < 32) && decide (s3 < 32)
  | .funord _ core _ d s1 s2 s3 => decide (core < 8) && decide (d < 32) && decide (s1 < 32) && decide (s2 < 32) && decide (s3 < 32)
  | .cvtsd _ core d s1 s2 => decide (core < 8) && decide (d < 32) && decide (s1 < 32) && decide (s2 < 32)
  | .cvtds _ core d s1 s2 => decide (core < 8) && decide (d < 32) && decide (s1 < 32) && decide (s2 < 32)
  | .cvtsg _ core d s1 s2 => decide (core < 8) && decide (d < 32) && decide (s1 < 32) && decide (s2 < 32)
  | .cvtdg _ core d s1 s2 => decide (core < 8) && decide (d < 32) && decide (s1 < 32) && decide (s2 < 32)
  | .cvtgs _ core d s1 s2 => decide (core < 8) && decide (d < 32) && decide (s1 < 32) && decide (s2 < 32)
  | .cvtgd _ core d s1 s2 => decide (core < 8) && decide (d < 32) && decide (s1 < 32) && decide (s2 < 32)
  | .trngs _ core d s1 s2 => decide (core < 8) && decide (d < 32) && decide (s1 < 32) && decide (s2 < 32)
  | .trngd _ core d s1 s2 => decide (core < 8) && decide (d < 32) && decide (s1 < 32) && decide (s2 < 32)
  | .mvfg _ core d s1 s2 => decide (core < 8) && decide (d < 32) && decide (s1 < 32) && decide (s2 < 32)
  | .mvgf _ core d s1 s2 => decide (core < 8) && decide (d < 32) && decide (s1 < 32) && decide (s2 < 32)
  | .relt _ core d s1 s2 => decide (core < 8) && decide (d < 32) && decide (s1 < 32) && decide (s2 < 32)
  | .now _ core d s1 s2 => decide (core < 8) && decide (d < 32) && decide (s1 < 32) && decide (s2 < 32)
  | .tinfo _ core d s1 s2 => decide (core < 8) && decide (d < 32) && decide (s1 < 32) && decide (s2 < 32)
  | .cycn _ core d s1 s2 => decide (core < 8) && decide (d < 32) && decide (s1 < 32) && decide (s2 < 32)
  | .tset _ core d s1 s2 => decide (core < 8) && decide (d < 32) && decide (s1 < 32) && decide (s2 < 32)
  | .tget _ core d s1 s2 => decide (core < 8) && decide (d < 32) && decide (s1 < 32) && decide (s2 < 32)
  | .tpre _ core d s1 s2 => decide (core < 8) && decide (d < 32) && decide (s1 < 32) && decide (s2 < 32)
  | .lrd _ core d s1 s2 => decide (core < 8) && decide (d < 32) && decide (s1 < 32) && decide (s2 < 32)
  | .lqw _ core d s1 s2 => decide (core < 8) && decide (d < 32) && decide (s1 < 32) && decide (s2 < 32)
  | .lmap _ core d s1 s2 => decide (core < 8) && decide (d < 32) && decide (s1 < 32) && decide (s2 < 32)
  | .lds _ core d s1 s2 => decide (core < 8) && decide (d < 32) && decide (s1 < 32) && decide (s2 < 32)
  | .sts _ core d s1 s2 => decide (core < 8) && decide (d < 32) && decide (s1 < 32) && decide (s2 < 32)
  | .lds64 _ core d s1 s2 => decide (core < 8) && decide (d < 32) && decide (s1 < 32) && decide (s2 < 32)
  | .sts64 _ core d s1 s2 => decide (core < 8) && decide (d < 32) && decide (s1 < 32) && decide (s2 < 32)
  | .logr _ core d s1 s2 => decide (core < 8) && decide (d < 32) && decide (s1 < 32) && decide (s2 < 32)
  | .fctlr _ core d s1 s2 => decide (core < 8) && decide (d < 32) && decide (s1 < 32) && decide (s2 < 32)
  | .fctlw _ core d s1 s2 => decide (core < 8) && decide (d < 32) && decide (s1 < 32) && decide (s2 < 32)
  | .chk _ core d s1 s2 => decide (core < 8) && decide (d < 32) && decide (s1 < 32) && decide (s2 < 32)
  | .abort _ core d s1 s2 => decide (core < 8) && decide (d < 32) && decide (s1 < 32) && decide (s2 < 32)
  | .exit _ core d s1 s2 => decide (core < 8) && decide (d < 32) && decide (s1 < 32) && decide (s2 < 32)
  | .icNop _ core => decide (core < 8)
  | .icPushb _ core v => decide (core < 8) && decide (v < 256)
  | .icPushw _ core v => decide (core < 8) && decide (v < 65536)
  | .icPushl _ core v => decide (core < 8) && decide (v < 4294967296)
  | .icDup _ core => decide (core < 8)
  | .icDrop _ core => decide (core < 8)
  | .icSwap _ core => decide (core < 8)
  | .icOver _ core => decide (core < 8)
  | .icLdb _ core a => decide (core < 8) && decide (a < 16777216)
  | .icLdi _ core a => decide (core < 8) && decide (a < 16777216)
  | .icLdd _ core a => decide (core < 8) && decide (a < 16777216)
  | .icLdxd _ core a => decide (core < 8) && decide (a < 16777216)
  | .icStb _ core a => decide (core < 8) && decide (a < 16777216)
  | .icSti _ core a => decide (core < 8) && decide (a < 16777216)
  | .icStd _ core a => decide (core < 8) && decide (a < 16777216)
  | .icStxd _ core a => decide (core < 8) && decide (a < 16777216)
  | .icAdd _ core => decide (core < 8)
  | .icSub _ core => decide (core < 8)
  | .icMul _ core => decide (core < 8)
  | .icDiv _ core => decide (core < 8)
  | .icMod _ core => decide (core < 8)
  | .icNeg _ core => decide (core < 8)
  | .icAbs _ core => decide (core < 8)
  | .icMin _ core => decide (core < 8)
  | .icMax _ core => decide (core < 8)
  | .icLimit _ core => decide (core < 8)
  | .icRadd _ core => decide (core < 8)
  | .icRsub _ core => decide (core < 8)
  | .icRmul _ core => decide (core < 8)
  | .icRdiv _ core => decide (core < 8)
  | .icRneg _ core => decide (core < 8)
  | .icRabs _ core => decide (core < 8)
  | .icRsqrt _ core => decide (core < 8)
  | .icRlimit _ core => decide (core < 8)
  | .icEq _ core => decide (core < 8)
  | .icNe _ core => decide (core < 8)
  | .icLt _ core => decide (core < 8)
  | .icLe _ core => decide (core < 8)
  | .icGt _ core => decide (core < 8)
  | .icGe _ core => decide (core < 8)
  | .icReq _ core => decide (core < 8)
  | .icRne _ core => decide (core < 8)
  | .icRlt _ core => decide (core < 8)
  | .icRle _ core => decide (core < 8)
  | .icRgt _ core => decide (core < 8)
  | .icRge _ core => decide (core < 8)
  | .icAnd _ core => decide (core < 8)
  | .icOr _ core => decide (core < 8)
  | .icXor _ core => decide (core < 8)
  | .icNot _ core => decide (core < 8)
  | .icShl _ core n => decide (core < 8) && decide (n < 256)
  | .icShr _ core n => decide (core < 8) && decide (n < 256)
  | .icBnot _ core => decide (core < 8)
  | .icJmp _ core off => decide (core < 8) && decide (off < 65536)
  | .icJz _ core off => decide (core < 8) && decide (off < 65536)
  | .icJnz _ core off => decide (core < 8) && decide (off < 65536)
  | .icCall _ core a => decide (core < 8) && decide (a < 16777216)
  | .icRet _ core => decide (core < 8)
  | .icEnd _ core => decide (core < 8)
  | .icItor _ core => decide (core < 8)
  | .icRtoi _ core => decide (core < 8)
  | .icRtoit _ core => decide (core < 8)
  | .icIoin _ core k => decide (core < 8) && decide (k < 65536)
  | .icIoout _ core k => decide (core < 8) && decide (k < 65536)
  | .icTmr _ core n => decide (core < 8) && decide (n < 256)
  | .icTmre _ core n => decide (core < 8) && decide (n < 256)
  | .icLpsp _ core n => decide (core < 8) && decide (n < 256)
  | .icLpmd _ core n => decide (core < 8) && decide (n < 256)
  | .icLpout _ core n => decide (core < 8) && decide (n < 256)
  | .icTime _ core => decide (core < 8)
  | .icCycn _ core => decide (core < 8)
  | .icUerr _ core => decide (core < 8)
  | .icHalt _ core => decide (core < 8)
  | .whistleSend _ _ _ _ => true
  | .whistleReceive _ path _ => decide (path < 2)
  | .whistlePathSilent _ path => decide (path < 2)
  | .trivetPathSilent _ => true
  | .claimVector _ _ => true
  | .claimStale _ => true
  | .frozenRedecide g _ => decide (g < 128)
  | .ownerReport _ => true
  | .mirrorBlockArrive _ => true
  | .commitForwardArrive _ => true
  | .cycleSetArrive _ => true
  | .selfFault _ cause _ => decide (cause < 4)
  | .roleSwitch _ => true
  | .failoverClaimTimeout _ => true
  | .takebackReq _ => true
  | .switchPlan _ => true
  | .switchConfirm _ => true
  | .switchConfirmTimeout _ => true
  | .switchAbandon _ => true
  | .plannedSwitchT _ => true
  | .plannedSwitchCheck _ => true
  | .handover _ => true
  | .cancel _ => true
  | .halfClearCounts _ => true
  | .realign _ => true
  | .alignCopyDone _ _ n => decide (n < 4096)
  | .bayLatchOpen _ => true
  | .bayLatchClose _ moved => decide (moved < 4)
  | .bayOff _ => true
  | .bayOn _ => true
  | .portDown p cause lanes => decide (p < 2) && decide (cause < 3) && decide (lanes < 16)
  | .portUp p => decide (p < 2)
  | .laneMargin p l _ => decide (p < 2) && decide (l < 4)
  | .trunkFrameReceive p _ _ => decide (p < 2)
  | .cycleStartReceive p _ => decide (p < 2)
  | .cyclicReceive _ => true
  | .ringReceive _ east west => decide (east < 64) && decide (west < 64)
  | .ackReceive _ => true
  | .rdataReceive _ => true
  | .postReceive _ => true
  | .trunkCycle _ => true
  | .cyclicSlot _ => true
  | .stationTimeout _ st => decide (st < 64)
  | .unwrapReady p => decide (p < 2)
  | .unwrap p => decide (p < 2)
  | .masterElection _ => true
  | .pgo _ c _ => decide (c < 8)
  | .rgo _ c _ => decide (c < 8)
  | .postTimeout _ tag => decide (tag < 4096)
  | .readTimeout _ tag => decide (tag < 4096)
  | .fenceClr _ _ => true
  | .trkClearCounts _ => true
  | .baseBypassSense p _ => decide (p < 2)
  | .bypassSwitched p => decide (p < 2)
  | .spanProbe p _ => decide (p < 2)
  | .feedOk f => decide (f < 2)
  | .feedLost f _ _ => decide (f < 2)
  | .rideEnd => true
  | .halvesOffEnd _ => true
  | .powerUp _ => true
  | .halfSupplyRange _ _ => true
  | .halfSupplyReset _ => true
  | .bayFault _ => true
  | .genReset _ g => decide (g < 8)
  | .cardRetry _ card => decide (card < 64)
  | .bayCycle _ => true
  | .pwrClearCounts _ => true
  | .cardSlotSwitchClose kind n => decide (kind < 3) && decide (n < 16)
  | .cardPwrFault kind n _ => decide (kind < 3) && decide (n < 16)
  | .pwrBoundary _ => true
  | .genTimeout _ g => decide (g < 8)
  | .islandHoldExpire _ b => decide (b < 4)
  | .blackout _ b => decide (b < 4)
  | .busLive _ b => decide (b < 4)
  | .restartIssued _ r => decide (r < 32)
  | .requestPulseEnd _ kind num => decide (kind < 4) && decide (num < 32)
  | .requestRewrite _ _ => true
  | .shedBitsClear _ => true
  | .pwrForwardArrive _ => true
  | .canFrameReceive p _ _ => decide (p < 16)
  | .txReq _ p k => decide (p < 16) && decide (k < 2048)
  | .canObjAbort _ p k => decide (p < 16) && decide (k < 2048)
  | .canArbitration p => decide (p < 16)
  | .canTxEnd _ p outcome _ _ _ => decide (p < 16) && decide (outcome < 3)
  | .canPeriodic _ p k => decide (p < 16) && decide (k < 2048)
  | .recover _ p => decide (p < 16)
  | .canClearCounts _ p => decide (p < 16)
  | .canAutoRecover _ p => decide (p < 16)
  | .canRecovered _ p => decide (p < 16)
  | .canIntegrated _ p => decide (p < 16)
  | .canTimingApply _ p => decide (p < 16)
  | .txdTimeout _ p => decide (p < 16)
  | .canStateForward p => decide (p < 16)
  | .objCfgWrite _ p k _ => decide (p < 16) && decide (k < 2048)
  | .offsetReport _ _ => true
  | .ptpMessage _ kind seq domain _ _ port _ => decide (kind < 8) && decide (seq < 65536) && decide (domain < 128) && decide (port < 256)
  | .timeSourceLoss _ => true
  | .holdoverExpire _ => true
  | .peerTimeMessage _ _ => true
  | .peerTimeLoss _ => true
  | .peerFault _ => true
  | .timeSet _ => true
  | .timeStep _ => true
  | .timeClearCounts _ => true
  | .stepConfirm _ => true
  | .timeStepped _ => true
  | .cmpArm _ k _ => decide (k < 64)
  | .cmpFire _ k => decide (k < 64)
  | .sampleTickLate _ => true
  | .deckTimeSourceChanged _ => true
  | .trayRpWrite _ t _ => decide (t < 64)
  | .trayPacketStall _ t _ => decide (t < 64)
  | .engineBurstGrant _ => true
  | .logReport _ => true
  | .logRecordClose _ => true
  | .logFlashWrite _ _ reserve => decide (reserve < 101)
  | .tripRecordWrite => true
  | .pinCopy _ => true
  | .logFreeze _ => true
  | .logUnfreeze _ => true
  | .freezeExpired _ => true
  | .logRead _ => true
  | .logReadDone _ => true
  | .logClear _ _ => true
  | .logClearCounts _ => true
  | .memberInit _ m => decide (m < 16)
  | .memberOff _ m => decide (m < 16)
  | .pantryRead _ => true
  | .pantryCmdDone _ _ _ _ width gen _ => decide (width < 16) && decide (gen < 8)
  | .streamStart _ st => decide (st < 4)
  | .streamStop _ st => decide (st < 4)
  | .streamTrigger _ st _ => decide (st < 4)
  | .chunkTimeout _ st => decide (st < 4)
  | .nvmeWriteDone _ _ => true
  | .pantryFlush _ => true
  | .memberLinkLoss _ m => decide (m < 16)
  | .keyAckPress _ => true
  | .keyArmRelease _ => true
  | .keyConfirmPress _ => true
  | .keyPagePress _ => true
  | .keyReleased k _ => decide (k < 4)
  | .keyHeldAtStart k _ => decide (k < 4)
  | .keyStuck k _ => decide (k < 4)
  | .baselineUpdate k _ => decide (k < 4)
  | .displayUpdateEnd => true
  | .fullUpdateDue => true
  | .pageHoldExpire => true
  | .userShow _ => true
  | .userHide _ => true
  | .fullNow _ => true
  | .finalFrameRenew => true
  | .finalFrame left => decide (left < 101)
  | .abruptRailLoss left => decide (left < 101)
  | .panelDischarged cause => decide (cause < 4)
  | .halfWdFeed _ _ => true
  | .halfWdExpire _ => true
  | .halfResetCmd _ _ => true
  | .halfResetEnd _ _ => true
  | .selftestDone _ _ => true
  | .deckRailFault => true
  | .fwStore _ => true
  | .fwDeckStore _ => true
  | .fwRollback _ => true
  | .fwStoreDone _ _ => true
  | .deckCtrlRestart _ => true
  | .tempSample _ k _ => decide (k < 9)
  | .tempHigh _ => true
  | .tempNormal _ => true
  | .keyArmPress _ => true
  | .canRxError _ p _ => decide (p < 16)
  | .protocolException _ p => decide (p < 16)
  | .islandLoopPowerUp c => decide (c < 256)
  | .startClaimDelayExpire _ => true
  | .handoverReset _ => true
  | .bayCycleOn _ => true
  | .deckLinkUp _ => true
  | .strapLevelChange n _ _ => decide (n < 17)
  | .displayUpdateStart _ => true
  | .opTimeStore _ _ => true
  | .mramScrub _ _ => true
  | .aerError _ m _ => decide (m < 16)

end Sys2Proof
end

