-- ==== Sys2Proof/Tests/Slice0.lean ====
section
/-! SUPPORT. The model's own tests: ill-formed commands that well-formedness refuses, worked encodings of the spec, the
state after reset, and for every statement about states with premises a state and operands that meet them. -/
namespace Sys2Proof.Tests
open Sys2Proof Sys2Proof.Machine
set_option maxRecDepth 10000
set_option Elab.async false

/-! ### Well-formedness: one command for each bound, with an operand just past it -/

theorem test_wf_refuses_0 : ([.registerWrite .a 32 0 0,
    .registerWrite .a 0 68719476736 0,
    .crossHalfRead .a 8 0,
    .eccDoubleError .a 512 false 0,
    .eccDoubleError .a 0 false 65536,
    .scrubberPass .a 4 [],
    .unitCommit .a 22 0,
    .cmtFaultFlagClear .a 3 0,
    .tallyCtrLoRead .a 0 256,
    .regionPairMark .a 4512,
    .sampleTick .a 4096,
    .criticalPhaseEnd .a 0 0 9] : List Instr).all (fun i => !i.wf) = true := by decide
theorem test_wf_refuses_1 : ([.plcMove .a 4096 0,
    .slabLowSlack .a 0 256 0,
    .slabLowSlack .a 0 0 51,
    .slabFault .a 0 6,
    .cmdDeadline 64,
    .linkDown 0 2,
    .precisionConversion 256 0 0 0 0 false false false 0,
    .cardRemoved 0 16,
    .cardInserted 0 0 0 256 0 [],
    .cardInserted 0 0 0 0 1024 [],
    .diEdge 512 false false 0,
    .testPulseSlotStart 128] : List Instr).all (fun i => !i.wf) = true := by decide
theorem test_wf_refuses_2 : ([.thermalOff 256,
    .lidInputChange 1280,
    .termDelayExpire 512,
    .targetFault 352 false false,
    .lidResetArm 0 .a 65536,
    .timerInWrite .a 4096 false false,
    .addi .a 0 0 0 65536,
    .lcn .a 0 0 2097152,
    .beq .a 0 0 0 65536,
    .jmp .a 0 67108864,
    .jrl .a 0 0 0 0 2048,
    .icPushb .a 0 256] : List Instr).all (fun i => !i.wf) = true := by decide
theorem test_wf_refuses_3 : ([.icPushw .a 0 65536,
    .icPushl .a 0 4294967296,
    .icLdb .a 0 16777216,
    .icIoin .a 0 65536,
    .alignCopyDone .a false 4096,
    .stationTimeout .a 64,
    .postTimeout .a 4096,
    .cardRetry .a 64,
    .txReq .a 0 2048,
    .cmpArm .a 64 0,
    .trayRpWrite .a 64 0,
    .finalFrame 101] : List Instr).all (fun i => !i.wf) = true := by decide
theorem test_wf_refuses_4 : ([.strapLevelChange 17 false false,
    .slabStep .a 0 false ⟨51, 0, 0⟩,
    .slabStep .a 0 false ⟨0, 256, 0⟩,
    .driveLinkSync ⟨64, 0⟩] : List Instr).all (fun i => !i.wf) = true := by decide
theorem test_wf_accepts : ([.registerWrite .a 31 68719476735 0, .coreParity .a 7, .unitCommit .a 21 0, .sampleTick .b 4095] : List Instr).all (·.wf) = true := by decide

/-! ### Words and bytes of the spec's own encodings (R360, R363, R375) -/

/-- FLE, double, D = 6, S1 = 2, S2 = 1: OP 0x30 in bits 31-26 and FN 0x32 in bits 5-0. -/
theorem test_enc_fle : encF 0x30 6 2 1 0 0x32 = 0b110000_00110_00010_00001_00000_110010 := by decide
theorem test_enc_flw : encI 0x17 1 29 48 = 0b010111_00001_11101_0000000000110000 := by decide
theorem test_enc_beq : encI 0x20 6 0 5 = 0b100000_00110_00000_0000000000000101 := by decide
theorem test_enc_lqw : encA 0x3E 0 8 7 0x21 = 0b111110_00000_01000_00111_00000100001 := by decide
theorem test_enc_exit : encA 0x3E 0 0 0 0x70 = 0b111110_00000_00000_00000_00001110000 := by decide
/-- R196's check value: the CRC-16 of "123456789". -/
theorem test_crc16_check : crc16 [0x31, 0x32, 0x33, 0x34, 0x35, 0x36, 0x37, 0x38, 0x39] = 0x29B1 := by decide
/-- R194: SEQ 5, duties 0x102, 0 and 0, PWM_EN: the ten bytes before the CRC. -/
theorem test_command_frame : (cmdBytes 5 [0x102, 0, 0] 1).take 10 = [1, 5, 2, 1, 0, 0, 0, 0, 1, 0] := by decide
/-- No word spells a command: the table gives its rows no bits. -/
theorem test_no_word (n w : Nat) : decodeTableWord n w = none := rfl

/-! ### The state after reset -/

theorem test_reset_runs : State.reset.runs .a = true ∧ State.reset.runs .b = true := by decide
theorem test_reset_half_boot : State.reset.hstate .a = 0 ∧ State.reset.timeState .a = 0 ∧ State.reset.pending = [] := by decide +kernel
theorem test_reset_wf : State.reset.wf = true := by decide

/-! ### States that meet the premises of the statements -/

theorem exOk {x : Except Nat Nat} {d : Nat} (h : x.toOption = some d) : x = .ok d := by
  cases x <;> simp_all [Except.toOption]
theorem exErr {x : Except Nat Nat} {d : Nat} (h : (match x with | .error e => some e | .ok _ => none) = some d) :
    x = .error d := by
  cases x <;> simp_all
theorem riskNone {s : State} {h : Half}
    (H1 : (List.range 128).all (fun w => s.rg (Mod.plcPrepRisk h 0 + 4 * w) == 0) = true)
    (H2 : ((List.range 512).filter (fun e => s.bt (Mod.plcEngLoad h e) 31 && s.engUsable h e)) = []) :
    s.balRisk h = none := by
  have H3 : (List.range 4096).filter (fun n => s.mapBit (Mod.plcPrepRisk h 0) n) = [] := by
    rw [List.filter_eq_nil_iff]
    intro n hn
    simp only [List.all_eq_true, List.mem_range, beq_iff_eq] at H1 hn
    have := H1 (n / 32) (by omega)
    simp [State.mapBit, State.bt, this, bit]
  unfold State.balRisk
  dsimp only
  rw [H3, H2]
  rfl
/-! O1: CommitEventAndCoreCommandsComplete -/
def w1_4 : State := { State.reset with live := [(Mod.snapBase Half.a, 0x80000)] }
theorem wit_CommitEventAndCoreCommandsComplete :
    (State.reset.runs Half.a = true)
    ∧ (State.reset.runs Half.a = true)
    ∧ (State.reset.runs Half.a = true ∧ [Cmt.cmtLateWrite Half.a, Cmt.cmtStrobeRefused Half.a, Cmt.cmtLockedWrite Half.a][0]? = some (Cmt.cmtLateWrite Half.a))
    ∧ (State.reset.runs Half.a = true ∧ 0 < 32)
    ∧ (w1_4.runs Half.a = true ∧ bit 1 0 = true ∧ w1_4.bt (Mod.snapStatus Half.a) 0 = false ∧ w1_4.snapFits Half.a = true) := by
  refine ⟨?_, ?_, ?_, ?_, ?_⟩ <;> decide +kernel
/-! O2: TallyCounterReadAndWriteAreOneCycle -/
theorem wit_TallyCounterReadAndWriteAreOneCycle :
    (State.reset.runs Half.a = true)
    ∧ (State.reset.runs Half.a = true) := by
  refine ⟨?_, ?_⟩ <;> decide +kernel
/-! O3: TallyWrapAndDumpComplete -/
def w3_0 : State := { State.reset with live := [(Tally.ctrCfg Half.a 2, 0x20000)], a.ctr := [(2, 0xFFFFFFFFFFFF)] }
def w3_1 : State := { State.reset with live := [(Tally.dumpCtrl Half.a, 1), (Tally.dumpBase Half.a, 0x2000000)] }
def w3_2 : State := { State.reset with live := [(Tally.dumpCtrl Half.a, 1), (Tally.dumpRp Half.a, 1)] }
def w3_3 : State := { State.reset with live := [(Tally.dumpCtrl Half.a, 0x1)] }
def w3_4 : State := { State.reset with live := [(Tally.dumpCtrl Half.a, 1)] }
theorem wit_TallyWrapAndDumpComplete :
    (w3_0.runs Half.a = true ∧ 2 < 256 ∧ (Map.get (fun _ => 0) (w3_0.half Half.a).ctr 2 = 2 ^ 48 - 1) ∧ w3_0.bt (Tally.ctrCfg Half.a 2) 17 = true)
    ∧ (w3_1.runs Half.a = true ∧ w3_1.bt (Tally.dumpCtrl Half.a) 0 = true ∧ (w3_1.half Half.a).dumpK ≠ some (w3_1.dumpPer Half.a) ∧ w3_1.streamOf Half.a 2 = none ∧ (w3_1.bt (Tally.dumpCtrl Half.a) 1 = true ∨ (w3_1.rn (Tally.dumpWp Half.a) + 1) % w3_1.dumpLen Half.a ≠ w3_1.rn (Tally.dumpRp Half.a)) ∧ inDdr (w3_1.fd (Tally.dumpBase Half.a) 29 0 * 64 + w3_1.rn (Tally.dumpWp Half.a) * 2112) 2112 = true)
    ∧ (w3_2.runs Half.a = true ∧ w3_2.bt (Tally.dumpCtrl Half.a) 0 = true ∧ (w3_2.half Half.a).dumpK ≠ some (w3_2.dumpPer Half.a) ∧ w3_2.bt (Tally.dumpCtrl Half.a) 1 = false ∧ (w3_2.rn (Tally.dumpWp Half.a) + 1) % w3_2.dumpLen Half.a = w3_2.rn (Tally.dumpRp Half.a) ∧ w3_2.rn (Tally.dumpLost Half.a) < 2 ^ 32 - 1)
    ∧ (w3_3.runs Half.a = true ∧ w3_3.bt (Tally.dumpCtrl Half.a) 0 = true ∧ (w3_3.half Half.a).dumpK ≠ some (w3_3.dumpPer Half.a) ∧ w3_3.rn (Tally.dumpLost Half.a) < 2 ^ 32 - 1)
    ∧ (w3_4.runs Half.a = true ∧ w3_4.bt (Tally.dumpCtrl Half.a) 0 = true ∧ (w3_4.half Half.a).dumpK ≠ some (w3_4.dumpPer Half.a) ∧ (w3_4.bt (Tally.dumpCtrl Half.a) 1 = true ∨ (w3_4.rn (Tally.dumpWp Half.a) + 1) % w3_4.dumpLen Half.a ≠ w3_4.rn (Tally.dumpRp Half.a)) ∧ inDdr (w3_4.fd (Tally.dumpBase Half.a) 29 0 * 64 + w3_4.rn (Tally.dumpWp Half.a) * 2112) 2112 = false) := by
  refine ⟨?_, ?_, ?_, ?_, ?_⟩ <;> decide +kernel
/-! O4: TimeBaseSourceCommandsComplete -/
def w4_1 : State := { State.reset with live := [(Time.timeCfg Half.a, 0x5)], a.time.following := false }
def w4_3 : State := { State.reset with live := [(Time.timeStatus Half.a, 0x1), (Time.timeCfg Half.a, 0x1)], a.time.ticks := 20000000000 }
def w4_4 : State := { State.reset with live := [(Time.timeStatus Half.a, 0x3)], a.time.ticks := 20000000000000 }
def w4_5 : State := { State.reset with a.time.following := false }
def w4_6 : State := { State.reset with live := [(HalfR.halfStatus Half.b, 4)], mirrorUp := true }
def w4_7 : State := { State.reset with a.time.following := true, a.time.ticks := 2500 }
def w4_8 : State := { State.reset with a.time.following := true, a.time.peerBad := some 0, a.time.ticks := 25000 }
theorem wit_TimeBaseSourceCommandsComplete :
    (State.reset.runs Half.a = true)
    ∧ (w4_1.runs Half.a = true ∧ w4_1.fd (Time.timeCfg Half.a) 1 0 = 1 ∧ w4_1.bt (Time.timeCfg Half.a) 2 = true ∧ (w4_1.half Half.a).time.following = false)
    ∧ (State.reset.runs Half.a = true)
    ∧ (w4_3.runs Half.a = true ∧ (w4_3.timeState Half.a = 1 ∨ w4_3.timeState Half.a = 2) ∧ (w4_3.fd (Time.timeCfg Half.a) 1 0 = 1 ∨ w4_3.fd (Time.timeCfg Half.a) 1 0 = 2) ∧ (w4_3.half Half.a).time.lastRep + clampNat 1 31 (w4_3.fd (Time.timeCfg Half.a) 7 3) * 25000000 ≤ (w4_3.half Half.a).time.ticks)
    ∧ (w4_4.runs Half.a = true ∧ w4_4.timeState Half.a = 3 ∧ (w4_4.half Half.a).time.holdT + max 1 (w4_4.fd (Time.timeCfg Half.a) 15 8) * 15000000000 ≤ (w4_4.half Half.a).time.ticks)
    ∧ (w4_5.runs Half.a = true ∧ w4_5.shouldFollow Half.a = false ∧ (w4_5.half Half.a).time.following = false)
    ∧ (w4_6.runs Half.a = true ∧ w4_6.shouldFollow Half.a = true ∧ (5 : Int).natAbs ≤ 1000)
    ∧ (w4_7.runs Half.a = true ∧ (w4_7.half Half.a).time.following = true ∧ (w4_7.half Half.a).time.peerT + 2500 ≤ (w4_7.half Half.a).time.ticks)
    ∧ (w4_8.runs Half.a = true ∧ (w4_8.half Half.a).time.following = true ∧ (w4_8.half Half.a).time.peerBad = some 0 ∧ 0 + 25000 ≤ (w4_8.half Half.a).time.ticks) := by
  refine ⟨?_, ?_, ?_, ?_, ?_, ?_, ?_, ?_, ?_⟩ <;> decide +kernel
/-! O5: TimeStepAndCompareCommandsComplete -/
def w5_0 : State := { State.reset with live := [(Time.timeStatus Half.a, 0x0)] }
def w5_1 : State := { State.reset with a.time.following := false }
def w5_2 : State := { State.reset with live := [(Time.timeStatus Half.a, 0x20)], b.time.following := true, mirrorUp := true }
def w5_3 : State := { State.reset with live := [(Time.timeStatus Half.a, 0x20)] }
def w5_6 : State := { State.reset with live := [(Time.cmpCtrl Half.a 1, 0x10000)] }
def w5_7 : State := { State.reset with a.linkUp := true, deck.trivet.rail0 := [(125, 1)] }
def w5_8 : State := { State.reset with deck.timeState := 1 }
theorem wit_TimeStepAndCompareCommandsComplete :
    (w5_0.runs Half.a = true ∧ w5_0.timeState Half.a = 0)
    ∧ (w5_1.runs Half.a = true ∧ (w5_1.half Half.a).time.following = false ∧ w5_1.bt (Time.timeStatus Half.a) 5 = false)
    ∧ (w5_2.runs Half.a = true ∧ w5_2.bt (Time.timeStatus Half.a) 5 = true ∧ (w5_2.half Half.a.other).time.following = true ∧ w5_2.mirrorUp = true ∧ (w5_2.half Half.a).time.ticks ≤ (w5_2.half Half.a).time.stepMade + 2500)
    ∧ (w5_3.runs Half.a = true ∧ w5_3.bt (Time.timeStatus Half.a) 5 = true ∧ w5_3.rd64 (Time.stepTLo Half.a) ≤ w5_3.now Half.a)
    ∧ (State.reset.runs Half.a = true)
    ∧ (State.reset.runs Half.a = true ∧ 0 < 64)
    ∧ (w5_6.runs Half.a = true ∧ 1 < 64 ∧ w5_6.bt (Time.cmpCtrl Half.a 1) 16 = true ∧ 0 ≤ w5_6.cmpDiff Half.a 1)
    ∧ (w5_7.owner 125 = some Half.a ∧ (w5_7.half Half.a).linkUp = true)
    ∧ ((∀ h, w5_8.owner 125 = some h → (w5_8.half h).linkUp = false) ∧ w5_8.deck.timeState ≠ 0) := by
  refine ⟨?_, ?_, ?_, ?_, ?_, ?_, ?_, ?_, ?_⟩ <;> decide +kernel
/-! O6: TrayAndLogbookCommandsComplete -/
def w6_1 : State := { State.reset with a.tray.packets := [(⟨0, 0, 1, [], 0, 0, false, false, false, false⟩ : Packet)], a.time.acc := 0x10000000000000000 }
def w6_2 : State := { State.reset with a.log.inbox := [⟨0x0101, 1, 0, 0, []⟩] }
def w6_3 : State := { State.reset with a.log.opened := [(⟨0, 0, 0, true, false, false, .a, false, 0x0101, 1, 0, 1, 0, 0, 0, []⟩ : LogRec)], a.time.acc := 0x10000000000000000 }
def w6_4 : State := { State.reset with a.log.queue := [(⟨0, 0, 0, true, false, false, .a, false, 0x0101, 1, 0, 1, 0, 0, 0, []⟩ : LogRec)] }
def w6_5 : State := { State.reset with deck.trivet.tripQueue := [(⟨0, 0, 0, true, false, false, .a, false, 0x0101, 1, 0, 1, 0, 0, 0, []⟩ : LogRec)] }
def w6_6 : State := { State.reset with a.log.pinWp := 1 }
def w6_7 : State := { State.reset with a.time.ticks := 250000000 }
def w6_8 : State := { State.reset with deck.ticks := 250000000 }
theorem wit_TrayAndLogbookCommandsComplete :
    ((State.reset.runs Half.a = true ∧ trayExists 0 = true ∧ State.reset.bt (Tray.trayStatus Half.a 0) 3 = false)
    ∧ (w6_1.runs Half.a = true ∧ trayExists 0 = true ∧ w6_1.streamOf Half.a 1 = none ∧ ((w6_1.half Half.a).tray.packets.find? (fun PP => decide (PP.tray = 0) && decide (PP.slot = 0) && !PP.closed) = some (⟨0, 0, 1, [], 0, 0, false, false, false, false⟩ : Packet)) ∧ 0 + max 1 (w6_1.fd (Tray.trayStall Half.a 0) 15 0) * 1000 ≤ w6_1.now Half.a)
    ∧ (w6_2.runs Half.a = true ∧ (w6_2.half Half.a).log.inbox = (⟨0x0101, 1, 0, 0, []⟩ : Report) :: ([] : List Report))
    ∧ (w6_3.runs Half.a = true ∧ (w6_3.half Half.a).log.opened = (⟨0, 0, 0, true, false, false, .a, false, 0x0101, 1, 0, 1, 0, 0, 0, []⟩ : LogRec) :: ([] : List LogRec) ∧ (w6_3.half Half.a).log.queue.length < 8192 ∧ (⟨0, 0, 0, true, false, false, .a, false, 0x0101, 1, 0, 1, 0, 0, 0, []⟩ : LogRec).t0 + 1000000 ≤ w6_3.now Half.a)
    ∧ (w6_4.runs Half.a = true ∧ w6_4.bt (Log.logStatus Half.a) 0 = false ∧ (w6_4.half Half.a).log.queue = (⟨0, 0, 0, true, false, false, .a, false, 0x0101, 1, 0, 1, 0, 0, 0, []⟩ : LogRec) :: ([] : List LogRec))
    ∧ (w6_5.deck.trivet.tripQueue = (⟨0, 0, 0, true, false, false, .a, false, 0x0101, 1, 0, 1, 0, 0, 0, []⟩ : LogRec) :: ([] : List LogRec) ∧ w6_5.pinRoom .a = true ∧ w6_5.pinRoom .b = true)
    ∧ (w6_6.runs Half.a = true ∧ w6_6.bt (Log.logStatus Half.a) 0 = false ∧ (w6_6.half Half.a).log.pinCp < (w6_6.half Half.a).log.pinWp ∧ (w6_6.half Half.a).log.queue.length < 8192)
    ∧ (w6_7.runs Half.a = true ∧ (w6_7.half Half.a).log.opMark + 250000000 ≤ (w6_7.half Half.a).time.ticks))
    ∧ ((w6_8.deck.opMark + 250000000 ≤ w6_8.deck.ticks)
    ∧ (State.reset.runs Half.a = true)) := by
  refine ⟨⟨?_, ?_, ?_, ?_, ?_, ?_, ?_, ?_⟩, ⟨?_, ?_⟩⟩ <;> decide +kernel
/-! O7: LogCommandRegisterCommandsComplete -/
def w7_2 : State := { State.reset with live := [(Log.logStatus Half.a, 1)], a.time.ticks := 20000000000 }
def w7_3 : State := { State.reset with live := [(Log.rdDst Half.a, 0x2000000), (Log.rdCount Half.a, 1)] }
def w7_4 : State := { State.reset with live := [(Log.logStatus Half.a, 0x2)] }
theorem wit_LogCommandRegisterCommandsComplete :
    (State.reset.runs Half.a = true)
    ∧ (State.reset.runs Half.a = true)
    ∧ (w7_2.runs Half.a = true ∧ w7_2.bt (Log.logStatus Half.a) 0 = true ∧ (w7_2.half Half.a).log.freezeT + clampNat 1 60 (w7_2.fd (Log.logCfg Half.a) 5 0) * 250000000 ≤ (w7_2.half Half.a).time.ticks)
    ∧ (w7_3.runs Half.a = true ∧ w7_3.bt (Log.logStatus Half.a) 1 = false ∧ inDdr (w7_3.fd (Log.rdDst Half.a) 29 0 * 64) (64 * w7_3.fd (Log.rdCount Half.a) 16 0) = true)
    ∧ (w7_4.runs Half.a = true ∧ w7_4.bt (Log.logStatus Half.a) 1 = true)
    ∧ (State.reset.runs Half.a = true ∧ State.reset.bt (Log.logStatus Half.a) 0 = false ∧ (State.reset.tokenCheck Half.a (Log.clrTokenLo Half.a) (Log.clrTokenHi Half.a) 3).1 = true)
    ∧ (State.reset.runs Half.a = true) := by
  refine ⟨?_, ?_, ?_, ?_, ?_, ?_, ?_⟩ <;> decide +kernel
/-! O8: PantryCommandsComplete -/
def w8_2 : State := { State.reset with live := [(Tray.rdDst Half.a, 0x2000000), (Tray.rdLen Half.a, 1)] }
def w8_3 : State := { State.reset with live := [(Tray.pantryStatus Half.a, 0x1)], a.pantry.cmdOp := 1 }
def w8_4 : State := { State.reset with live := [(Tray.pantryStatus Half.a, 0x1)], a.pantry.cmdOp := 2 }
def w8_5 : State := { State.reset with live := [(Tray.strCfg Half.a 0, 0x2)] }
def w8_6 : State := { State.reset with live := [(Tray.strStatus Half.a 0, 1)] }
def w8_7 : State := { State.reset with live := [(Tray.strStatus Half.a 0, 1), (Tray.strCfg Half.a 0, 8), (Tray.strPost Half.a 0, 3)] }
def w8_8 : State := { State.reset with live := [(Tray.strStatus Half.a 0, 1)], a.pantry.streams := [(0, { chunk := [0] })], a.time.acc := 0x100000000000000000 }
def w8_9 : State := { State.reset with a.pantry.writing := [(⟨0, 0, 0, 0, [], false⟩ : ChunkWrite)] }
def w8_10 : State := { State.reset with a.pantry.writing := [(⟨0, 0, 0, 0, [], false⟩ : ChunkWrite)] }
def w8_11 : State := { State.reset with a.time.ticks := 250000000 }
def w8_12 : State := { State.reset with live := [(Tray.mbrStatus Half.a 0, 1)] }
theorem wit_PantryCommandsComplete :
    ((State.reset.runs Half.a = true ∧ 0 < 16 ∧ State.reset.bt (Tray.pantryStatus Half.a) 0 = false)
    ∧ (State.reset.runs Half.a = true ∧ 0 < 16 ∧ State.reset.bt (Tray.pantryStatus Half.a) 0 = false)
    ∧ (w8_2.runs Half.a = true ∧ w8_2.bt (Tray.pantryStatus Half.a) 0 = false ∧ inDdr (w8_2.fd (Tray.rdDst Half.a) 29 0 * 64) (4096 * w8_2.fd (Tray.rdLen Half.a) 12 0) = true)
    ∧ (w8_3.runs Half.a = true ∧ w8_3.bt (Tray.pantryStatus Half.a) 0 = true ∧ (w8_3.half Half.a).pantry.cmdOp = 1 ∧ (w8_3.half Half.a).pantry.cmdMember < 16)
    ∧ (w8_4.runs Half.a = true ∧ w8_4.bt (Tray.pantryStatus Half.a) 0 = true ∧ (w8_4.half Half.a).pantry.cmdOp = 2 ∧ (w8_4.half Half.a).pantry.cmdMember < 16)
    ∧ (w8_5.runs Half.a = true ∧ 0 < 4 ∧ w8_5.streaming Half.a 0 = false ∧ w8_5.fd (Tray.strCfg Half.a 0) 1 0 = 2 ∧ w8_5.streamOf Half.a 2 = none)
    ∧ (w8_6.runs Half.a = true ∧ 0 < 4 ∧ w8_6.streaming Half.a 0 = true)
    ∧ (w8_7.runs Half.a = true ∧ 0 < 4 ∧ w8_7.fd (Tray.strStatus Half.a 0) 1 0 = 1 ∧ w8_7.fd (Tray.strCfg Half.a 0) 4 3 = (if true then 1 else 2) ∧ w8_7.rn (Tray.strPost Half.a 0) ≠ 0))
    ∧ ((w8_8.runs Half.a = true ∧ 0 < 4 ∧ w8_8.streaming Half.a 0 = true ∧ (w8_8.stream Half.a 0).chunk ≠ [] ∧ (w8_8.stream Half.a 0).chunkT + 100000000 ≤ w8_8.now Half.a ∧ (w8_8.stream Half.a 0).stopping = false ∧ (w8_8.stream Half.a 0).postLeft = none ∧ w8_8.bt (Tray.strCfg Half.a 0) 2 = false)
    ∧ (w8_9.runs Half.a = true ∧ (w8_9.half Half.a).pantry.writing = (⟨0, 0, 0, 0, [], false⟩ : ChunkWrite) :: ([] : List ChunkWrite))
    ∧ (w8_10.runs Half.a = true ∧ (w8_10.half Half.a).pantry.writing = (⟨0, 0, 0, 0, [], false⟩ : ChunkWrite) :: ([] : List ChunkWrite) ∧ (⟨0, 0, 0, 0, [], false⟩ : ChunkWrite).retry = false ∧ (Map.get (fun _ => 0) (w8_10.half Half.a).pantry.failRun (⟨0, 0, 0, 0, [], false⟩ : ChunkWrite).member < 7))
    ∧ (w8_11.runs Half.a = true ∧ (w8_11.half Half.a).pantry.flushT + 250000000 ≤ (w8_11.half Half.a).time.ticks)
    ∧ (w8_12.runs Half.a = true ∧ 0 < 16 ∧ (w8_12.fd (Tray.mbrStatus Half.a 0) 1 0 = 1 ∨ w8_12.fd (Tray.mbrStatus Half.a 0) 1 0 = 2) ∧ (∀ w ∈ (w8_12.half Half.a).pantry.writing, w.stream < 4))
    ∧ (State.reset.runs Half.a = true ∧ 0 < 16 ∧ State.reset.fd (Tray.mbrStatus Half.a 0) 31 16 < 65535)) := by
  refine ⟨⟨?_, ?_, ?_, ?_, ?_, ?_, ?_, ?_⟩, ⟨?_, ?_, ?_, ?_, ?_, ?_⟩⟩ <;> decide +kernel
/-! O9: LinkWhistleAndTrivetCommandsComplete -/
def w9_13n1 : State := { State.reset with a.ctl.rxMirror := none }
def w9_14n1 : State := { State.reset with live := [(HalfR.whistleStatus Half.a, 0x1)], a.time.ticks := 10000 }
def w9_15 : State := { State.reset with deck.inReset := false, deck.ticks := 1000000000000 }
def w9_16 : State := { State.reset with deck.inReset := false, deck.ticks := 1000000000000 }
def w9_18 : State := { State.reset with deck.inReset := false, deck.trivet.frozen := [3] }
theorem wit_LinkWhistleAndTrivetCommandsComplete :
    (((State.reset.runs Half.a && false && true && State.reset.whistleDue Half.a) = false)
    ∧ (State.reset.runs Half.a = true ∧ State.reset.whistleDue Half.a = true)
    ∧ (State.reset.runs Half.a = true ∧ whistleCrc 1 = false)
    ∧ (w9_13n1.runs Half.a = true ∧ whistleCrc (w9_13n1.whistle Half.a) = true ∧ (w9_13n1.half Half.a).ctl.rxMirror = none)
    ∧ (0 < 2)
    ∧ (0 < 2 ∧ (State.reset.runs Half.a = false ∨ State.reset.bt (HalfR.whistleStatus Half.a) 0 = false ∨ State.reset.pathQuiet Half.a 0 = false))
    ∧ (0 < 2 ∧ w9_14n1.runs Half.a = true ∧ w9_14n1.bt (HalfR.whistleStatus Half.a) 0 = true ∧ w9_14n1.pathQuiet Half.a 0 = true)
    ∧ (w9_15.deck.inReset = false ∧ w9_15.trivetQuiet Half.a = true))
    ∧ ((w9_16.deck.inReset = false ∧ w9_16.claimOld Half.a = true)
    ∧ (w9_18.deck.inReset = false ∧ w9_18.deck.trivet.frozen.contains 3 = true)) := by
  refine ⟨⟨?_, ?_, ?_, ?_, ?_, ?_, ?_, ?_⟩, ⟨?_, ?_⟩⟩ <;> decide +kernel
/-! O10: MirrorSelfFaultAndRoleCommandsComplete -/
def w10_0 : State := { State.reset with live := [(loopMapAt Half.a 0, 0x20000), (Eng.engStatus Half.a 0, 0x10000), (slotBase Half.a 0, 0x1000)], b.ctl.mirrorTx := [⟨0, 1, []⟩] }
def w10_1 : State := { State.reset with live := [(loopMapAt Half.a 0, 0x20000)], b.ctl.fwdTx := [⟨0, false, [(0, 0, 0)]⟩] }
def w10_2 : State := { State.reset with live := [(Apc.taskStatus Half.a 0, 4)], b.ctl.setTx := [(⟨0, 0, 0, [], [], []⟩ : CycleSet)] }
def w10_4 : State := { State.reset with a.linkUp := true }
def w10_6 : State := { State.reset with live := [(HalfR.halfStatus Half.a, 3), (ownReg Half.a Half.a 0, 0xFFFFFFFF), (ownReg Half.a Half.a 1, 0xFFFFFFFF), (ownReg Half.a Half.a 2, 0xFFFFFFFF), (ownReg Half.a Half.a 3, 0xFFFFFFFF)], a.ctl.plan := none, a.ctl.failover := some 0, a.ctl.claims := true }
def w10_7 : State := { State.reset with live := [(HalfR.halfStatus Half.a, 3), (HalfR.whistleStatus Half.a, 1)], a.ctl.failover := some 0, a.time.ticks := 2500 }
def w10_8 : State := { State.reset with live := [(HalfR.halfStatus Half.a, 0x82), (Mod.imgActiveIdLo Half.a, 1), (Mod.imgActiveIdLo Half.b, 1), (loopMapAt Half.a 0, 0x20000), (loopMapAt Half.b 0, 0x11000), (Eng.engStatus Half.a 0, 0x10000)], mirrorUp := true }
theorem wit_MirrorSelfFaultAndRoleCommandsComplete :
    (((w10_0.half Half.a.other).ctl.mirrorTx = (⟨0, 1, []⟩ : MirrorBlock) :: ([] : List MirrorBlock) ∧ w10_0.runs Half.a = true ∧ w10_0.slotOf Half.a (⟨0, 1, []⟩ : MirrorBlock).loop = some 0 ∧ w10_0.standby Half.a 0 = true ∧ w10_0.bt (slotBase Half.a 0) 12 = true ∧ (w10_0.run Half.a 0).phase = 0 ∧ (⟨0, 1, []⟩ : MirrorBlock).sample ≠ w10_0.rg (stateBase Half.a 0 + 0x64))
    ∧ ((w10_1.half Half.a.other).ctl.fwdTx = ⟨0, false, [(0, 0, 0)]⟩ :: [] ∧ w10_1.runs Half.a = true ∧ w10_1.slotOf Half.a 0 = some 0)
    ∧ ((w10_2.half Half.a.other).ctl.setTx = (⟨0, 0, 0, [], [], []⟩ : CycleSet) :: ([] : List CycleSet) ∧ w10_2.runs Half.a = true ∧ (⟨0, 0, 0, [], [], []⟩ : CycleSet).task < 16 ∧ w10_2.taskState Half.a (⟨0, 0, 0, [], [], []⟩ : CycleSet).task ≠ 0 ∧ w10_2.hstate Half.a ≠ 4)
    ∧ (State.reset.runs Half.a = true ∧ 1 ≤ 1 ∧ 1 < 4 ∧ State.reset.bt (HalfR.selfFault Half.a) 1 = false)
    ∧ (w10_4.runs Half.a = true ∧ 1 ≤ 1 ∧ 1 < 4 ∧ (1 = 1 → (w10_4.half Half.a).linkUp = true))
    ∧ (State.reset.runs Half.a = true ∧ State.reset.bt (HalfR.selfFault Half.a) 2 = false)
    ∧ (w10_6.runs Half.a = true ∧ (w10_6.hstate Half.a = 2 ∨ w10_6.hstate Half.a = 3) ∧ (w10_6.half Half.a).ctl.plan = none ∧ (w10_6.half Half.a).ctl.failover.isSome = true ∧ (w10_6.half Half.a).ctl.claims = true ∧ w10_6.shownAll Half.a Half.a = true ∧ w10_6.hstate Half.a.other ≠ 4)
    ∧ (w10_7.runs Half.a = true ∧ w10_7.hstate Half.a = 3 ∧ (w10_7.half Half.a).ctl.failover = some 0 ∧ 0 + 2500 ≤ (w10_7.half Half.a).time.ticks ∧ w10_7.hears Half.a = true ∧ w10_7.shownAll Half.a Half.a = false))
    ∧ ((w10_8.runs Half.a = true ∧ w10_8.mayAlign Half.a = true ∧ w10_8.slotOf Half.a.other 0 = some 0 ∧ w10_8.slotOf Half.a 0 = some 0 ∧ w10_8.standby Half.a 0 = true)
    ∧ (State.reset.runs Half.a = true)) := by
  refine ⟨⟨?_, ?_, ?_, ?_, ?_, ?_, ?_, ?_⟩, ⟨?_, ?_⟩⟩ <;> decide +kernel
/-! O11: PlannedSwitchAndHalfCommandsComplete -/
def w11_0 : State := { State.reset with live := [(HalfR.halfStatus Half.a, 0x64)] }
def w11_2 : State := { State.reset with live := [(HalfR.halfStatus Half.a, 3)], a.ctl.plan := none, mirrorUp := true, b.ctl.plan := some (⟨0, 4, true, false, false, false, false, 0⟩ : SwitchPlan) }
def w11_3 : State := { State.reset with mirrorUp := true, a.ctl.plan := some (⟨0, 4, true, false, false, false, false, 0⟩ : SwitchPlan), b.ctl.plan := some (⟨0, 4, false, false, false, false, false, 0⟩ : SwitchPlan) }
def w11_4 : State := { State.reset with a.time.ticks := 250000, a.ctl.plan := some (⟨0, 4, true, false, false, false, false, 0⟩ : SwitchPlan) }
def w11_5 : State := { State.reset with b.ctl.plan := none, a.ctl.plan := some (⟨0, 4, true, false, false, false, false, 0⟩ : SwitchPlan) }
def w11_6 : State := { State.reset with a.ctl.plan := some (⟨0, 4, true, true, false, false, false, 0⟩ : SwitchPlan) }
def w11_7 : State := { State.reset with live := [(HalfR.halfStatus Half.a, 4), (ownReg Half.a Half.a 0, 1)], a.time.acc := 0x100000000000000, a.ctl.plan := some (⟨0, 4, true, true, false, false, true, 0⟩ : SwitchPlan) }
def w11_8 : State := { State.reset with a.ctl.plan := some (⟨0, 4, true, true, false, false, false, 0⟩ : SwitchPlan) }
def w11_10 : State := { State.reset with live := [(HalfR.halfStatus Half.a, 3)], a.ctl.plan := none }
def w11_11 : State := { State.reset with live := [(HalfR.halfStatus Half.a, 3), (HalfR.halfCfg Half.a, 1), (HalfR.whistleStatus Half.a, 3), (HalfR.whistleStatus Half.b, 3)], deck.trivet.frozen := [], a.ctl.takeFrom := some 0, a.time.ticks := 250000000 }
theorem w11_11_ok : w11_11.runs Half.a = true ∧ w11_11.preferred Half.a = true ∧ w11_11.hstate Half.a = 3 ∧ w11_11.bt (HalfR.halfCfg Half.a) 0 = true ∧ (∀ k, w11_11.bt (HalfR.whistleStatus k) 0 = true ∧ w11_11.bt (HalfR.whistleStatus k) 1 = true ∧ w11_11.rg (HalfR.selfFault k) = 0 ∧ w11_11.pend k 17 = false) ∧ (∀ i, i < 128 → w11_11.rg (Mod.plcDisplaced Half.a 0 + 4 * i) = 0) ∧ w11_11.deck.trivet.frozen = [] ∧ w11_11.bt Lid.lidStatus 3 = false ∧ (w11_11.half Half.a).ctl.takeFrom = some 0 ∧ 0 + max 1 (w11_11.fd (HalfR.halfCfg Half.a) 15 8) * 250000000 ≤ (w11_11.half Half.a).time.ticks ∧ (w11_11.half Half.a).ctl.takeMis = w11_11.rg (HalfR.mirrorMismatchCnt Half.a) := by
  refine ⟨?_, ?_, ?_, ?_, (by intro k; cases k <;> decide +kernel), ?_, ?_, ?_, ?_, ?_, ?_⟩ <;> decide +kernel
theorem wit_PlannedSwitchAndHalfCommandsComplete :
    ((w11_0.runs Half.a = true ∧ w11_0.canHandover Half.a = true)
    ∧ (State.reset.runs Half.a = true ∧ State.reset.canHandover Half.a = false)
    ∧ (w11_2.runs Half.a = true ∧ (w11_2.half Half.a.other).ctl.plan = some (⟨0, 4, true, false, false, false, false, 0⟩ : SwitchPlan) ∧ (⟨0, 4, true, false, false, false, false, 0⟩ : SwitchPlan).leaver = true ∧ (⟨0, 4, true, false, false, false, false, 0⟩ : SwitchPlan).atT = false ∧ w11_2.hstate Half.a = 3 ∧ w11_2.mirrorUp = true ∧ (w11_2.half Half.a).ctl.plan = none)
    ∧ (w11_3.runs Half.a = true ∧ (w11_3.half Half.a).ctl.plan = some (⟨0, 4, true, false, false, false, false, 0⟩ : SwitchPlan) ∧ (⟨0, 4, true, false, false, false, false, 0⟩ : SwitchPlan).leaver = true ∧ (⟨0, 4, true, false, false, false, false, 0⟩ : SwitchPlan).confirmed = false ∧ (w11_3.half Half.a.other).ctl.plan.isSome = true ∧ w11_3.mirrorUp = true)
    ∧ (w11_4.runs Half.a = true ∧ (w11_4.half Half.a).ctl.plan = some (⟨0, 4, true, false, false, false, false, 0⟩ : SwitchPlan) ∧ (⟨0, 4, true, false, false, false, false, 0⟩ : SwitchPlan).leaver = true ∧ (⟨0, 4, true, false, false, false, false, 0⟩ : SwitchPlan).confirmed = false ∧ (⟨0, 4, true, false, false, false, false, 0⟩ : SwitchPlan).atT = false ∧ (⟨0, 4, true, false, false, false, false, 0⟩ : SwitchPlan).made + 250000 ≤ (w11_4.half Half.a).time.ticks)
    ∧ (w11_5.runs Half.a = true ∧ (w11_5.half Half.a).ctl.plan = some (⟨0, 4, true, false, false, false, false, 0⟩ : SwitchPlan) ∧ (⟨0, 4, true, false, false, false, false, 0⟩ : SwitchPlan).atT = false ∧ (w11_5.half Half.a.other).ctl.plan = none)
    ∧ (w11_6.runs Half.a = true ∧ (w11_6.half Half.a).ctl.plan = some (⟨0, 4, true, true, false, false, false, 0⟩ : SwitchPlan) ∧ (⟨0, 4, true, true, false, false, false, 0⟩ : SwitchPlan).confirmed = true ∧ (⟨0, 4, true, true, false, false, false, 0⟩ : SwitchPlan).atT = false ∧ (⟨0, 4, true, true, false, false, false, 0⟩ : SwitchPlan).t ≤ w11_6.now Half.a)
    ∧ (w11_7.runs Half.a = true ∧ (w11_7.half Half.a).ctl.plan = some (⟨0, 4, true, true, false, false, true, 0⟩ : SwitchPlan) ∧ (⟨0, 4, true, true, false, false, true, 0⟩ : SwitchPlan).atT = true ∧ (⟨0, 4, true, true, false, false, true, 0⟩ : SwitchPlan).leaver = true ∧ (⟨0, 4, true, true, false, false, true, 0⟩ : SwitchPlan).t + 1000 ≤ w11_7.now Half.a ∧ w11_7.shownAny Half.a Half.a = true ∧ w11_7.hstate Half.a = 4))
    ∧ ((w11_8.runs Half.a = true ∧ (w11_8.half Half.a).ctl.plan = some (⟨0, 4, true, true, false, false, false, 0⟩ : SwitchPlan) ∧ (⟨0, 4, true, true, false, false, false, 0⟩ : SwitchPlan).atT = false)
    ∧ (State.reset.runs Half.a = true)
    ∧ (w11_10.runs Half.a = true ∧ (w11_10.hstate Half.a = 2 ∨ w11_10.hstate Half.a = 3) ∧ (w11_10.half Half.a).ctl.plan = none)
    ∧ (w11_11.runs Half.a = true ∧ w11_11.preferred Half.a = true ∧ w11_11.hstate Half.a = 3 ∧ w11_11.bt (HalfR.halfCfg Half.a) 0 = true ∧ (∀ k, w11_11.bt (HalfR.whistleStatus k) 0 = true ∧ w11_11.bt (HalfR.whistleStatus k) 1 = true ∧ w11_11.rg (HalfR.selfFault k) = 0 ∧ w11_11.pend k 17 = false) ∧ (∀ i, i < 128 → w11_11.rg (Mod.plcDisplaced Half.a 0 + 4 * i) = 0) ∧ w11_11.deck.trivet.frozen = [] ∧ w11_11.bt Lid.lidStatus 3 = false ∧ (w11_11.half Half.a).ctl.takeFrom = some 0 ∧ 0 + max 1 (w11_11.fd (HalfR.halfCfg Half.a) 15 8) * 250000000 ≤ (w11_11.half Half.a).time.ticks ∧ (w11_11.half Half.a).ctl.takeMis = w11_11.rg (HalfR.mirrorMismatchCnt Half.a))) := by
  refine ⟨⟨?_, ?_, ?_, ?_, ?_, ?_, ?_, ?_⟩, ⟨?_, ?_, ?_, w11_11_ok⟩⟩ <;> decide +kernel
/-! O12: ResetAndServiceCommandsComplete -/
def w12_0 : State := { State.reset with deck.inReset := true, deck.pwr.feed := [(0, true)], deck.ticks := 25000000 }
def w12_3 : State := { State.reset with a.time.ticks := 24500000 }
def w12_5 : State := { State.reset with a.ctl.plan := none, a.ctl.resetAfterSwitch := true, a.time.ticks := 250000 }
def w12_6 : State := { State.reset with a.fitted := true, deck.inReset := false, a.boot.rolled := false, a.ctl.inReset := true, a.boot.active := some ⟨0, true⟩, deck.ticks := 5250000 }
def w12_7 : State := { State.reset with a.boot.tested := false }
def w12_8 : State := { State.reset with live := [(Mod.imgActiveIdLo Half.a, 1)], a.time.ticks := 750000000 }
def w12_11 : State := { State.reset with live := [(Mod.fwLen Half.a, 128), (Mod.fwSrc Half.a, 0x2000000)] }
def w12_11n0 : State := { State.reset with live := [(Mod.fwLen Half.a, 128), (Mod.fwSrc Half.a, 0x2000000)], mem := [(0x80000000, 71), (0x80000001, 89), (0x80000002, 70), (0x80000003, 87), (0x80000004, 1), (0x80000010, 227), (0x80000011, 176), (0x80000012, 196), (0x80000013, 66), (0x80000014, 152), (0x80000015, 252), (0x80000016, 28), (0x80000017, 20), (0x80000018, 154), (0x80000019, 251), (0x8000001A, 244), (0x8000001B, 200), (0x8000001C, 153), (0x8000001D, 111), (0x8000001E, 185), (0x8000001F, 36), (0x80000020, 39), (0x80000021, 174), (0x80000022, 65), (0x80000023, 228), (0x80000024, 100), (0x80000025, 155), (0x80000026, 147), (0x80000027, 76), (0x80000028, 164), (0x80000029, 149), (0x8000002A, 153), (0x8000002B, 27), (0x8000002C, 120), (0x8000002D, 82), (0x8000002E, 184), (0x8000002F, 85), (0x8000007C, 57), (0x8000007D, 99), (0x8000007E, 190), (0x8000007F, 104)] }
def w12_11n1 : State := { State.reset with live := [(Mod.fwLen Half.a, 128), (Mod.fwSrc Half.a, 0x2000000)], mem := [(0x80000000, 71), (0x80000001, 89), (0x80000002, 70), (0x80000003, 87), (0x80000004, 2), (0x80000010, 227), (0x80000011, 176), (0x80000012, 196), (0x80000013, 66), (0x80000014, 152), (0x80000015, 252), (0x80000016, 28), (0x80000017, 20), (0x80000018, 154), (0x80000019, 251), (0x8000001A, 244), (0x8000001B, 200), (0x8000001C, 153), (0x8000001D, 111), (0x8000001E, 185), (0x8000001F, 36), (0x80000020, 39), (0x80000021, 174), (0x80000022, 65), (0x80000023, 228), (0x80000024, 100), (0x80000025, 155), (0x80000026, 147), (0x80000027, 76), (0x80000028, 164), (0x80000029, 149), (0x8000002A, 153), (0x8000002B, 27), (0x8000002C, 120), (0x8000002D, 82), (0x8000002E, 184), (0x8000002F, 85), (0x8000007C, 59), (0x8000007D, 86), (0x8000007E, 220)] }
def w12_13 : State := { State.reset with a.boot.storing := some (false, 0) }
def w12_14 : State := { State.reset with deck.inReset := false }
def w12_16 : State := { State.reset with a.boot.hot := false, a.boot.hotFrom := some 0, a.time.ticks := 2500000000 }
def w12_17 : State := { State.reset with a.boot.hot := true, a.boot.coolFrom := some 0, a.time.ticks := 2500000000 }
theorem wit_ResetAndServiceCommandsComplete :
    ((w12_0.deck.inReset = true ∧ 0 < 2 ∧ portFlag w12_0.deck.pwr.feed 0 = true ∧ w12_0.deck.pwr.feedT + 25000000 ≤ w12_0.deck.ticks)
    ∧ (State.reset.runs Half.a = true)
    ∧ (w12_3.runs Half.a = true ∧ (w12_3.half Half.a).boot.wdFed + 24500000 ≤ (w12_3.half Half.a).time.ticks)
    ∧ (State.reset.runs Half.a = true ∧ bits 0x15A3C 15 0 = 0x5A3C ∧ bit 0x15A3C 16 = true ∧ State.reset.fd (Mod.fwStatus Half.a) 1 0 ≠ 1 ∧ State.reset.hstate Half.a ≠ 4)
    ∧ (w12_5.runs Half.a = true ∧ (w12_5.half Half.a).ctl.resetAfterSwitch = true ∧ (w12_5.half Half.a).ctl.plan = none ∧ w12_5.hstate Half.a ≠ 4 ∧ (w12_5.half Half.a).ctl.switchT + 250000 ≤ (w12_5.half Half.a).time.ticks)
    ∧ ((w12_6.half Half.a).fitted = true ∧ (w12_6.half Half.a).ctl.inReset = true ∧ w12_6.deck.inReset = false ∧ portFlag w12_6.deck.pwr.bayOff Half.a.num = false ∧ w12_6.deck.pwr.phase < 2 ∧ (w12_6.half Half.a).boot.active = some (⟨0, true⟩ : FwSlot) ∧ (⟨0, true⟩ : FwSlot).good = true ∧ (w12_6.half Half.a).boot.failedBoots < 3 ∧ (w12_6.half Half.a).boot.rolled = false ∧ w12_6.resetOver Half.a = true)
    ∧ (w12_7.runs Half.a = true ∧ (w12_7.half Half.a).boot.tested = false)
    ∧ (w12_8.runs Half.a = true ∧ w12_8.hstate Half.a < 2 ∧ w12_8.hasImage Half.a = true ∧ w12_8.pend Half.a 17 = false ∧ (¬(w12_8.hears Half.a = true ∧ w12_8.partner Half.a = 4)) ∧ 750000000 ≤ (w12_8.half Half.a).time.ticks))
    ∧ ((0 < 17)
    ∧ (State.reset.runs Half.a = true ∧ State.reset.fd (Mod.fwStatus Half.a) 1 0 ≠ 1 ∧ inDdr (State.reset.fd (Mod.fwSrc Half.a) 29 0 * 64) 128 = false ∧ State.reset.fd (Mod.fwLen Half.a) 27 0 < 128)
    ∧ (w12_11.runs Half.a = true ∧ w12_11.fd (Mod.fwStatus Half.a) 1 0 ≠ 1 ∧ 128 ≤ w12_11.fd (Mod.fwLen Half.a) 27 0 ∧ inDdr (w12_11.fd (Mod.fwSrc Half.a) 29 0 * 64) (w12_11.fd (Mod.fwLen Half.a) 27 0) = true ∧ (w12_11.bytes (Half.a.base + w12_11.fd (Mod.fwSrc Half.a) 29 0 * 64) (w12_11.fd (Mod.fwLen Half.a) 27 0)) = w12_11.bytes (Half.a.base + w12_11.fd (Mod.fwSrc Half.a) 29 0 * 64) (w12_11.fd (Mod.fwLen Half.a) 27 0))
    ∧ (w12_11n0.runs Half.a = true ∧ w12_11n0.fd (Mod.fwStatus Half.a) 1 0 ≠ 1 ∧ 128 ≤ w12_11n0.fd (Mod.fwLen Half.a) 27 0 ∧ inDdr (w12_11n0.fd (Mod.fwSrc Half.a) 29 0 * 64) (w12_11n0.fd (Mod.fwLen Half.a) 27 0) = true ∧ (w12_11n0.bytes (Half.a.base + w12_11n0.fd (Mod.fwSrc Half.a) 29 0 * 64) (w12_11n0.fd (Mod.fwLen Half.a) 27 0)) = w12_11n0.bytes (Half.a.base + w12_11n0.fd (Mod.fwSrc Half.a) 29 0 * 64) (w12_11n0.fd (Mod.fwLen Half.a) 27 0) ∧ fwCheck (w12_11n0.bytes (Half.a.base + w12_11n0.fd (Mod.fwSrc Half.a) 29 0 * 64) (w12_11n0.fd (Mod.fwLen Half.a) 27 0)) (w12_11n0.fd (Mod.fwLen Half.a) 27 0) 1 (w12_11n0.fd Half.a.base 7 0) = 0)
    ∧ (w12_11n1.runs Half.a = true ∧ w12_11n1.fd (Mod.fwStatus Half.a) 1 0 ≠ 1 ∧ 128 ≤ w12_11n1.fd (Mod.fwLen Half.a) 27 0 ∧ inDdr (w12_11n1.fd (Mod.fwSrc Half.a) 29 0 * 64) (w12_11n1.fd (Mod.fwLen Half.a) 27 0) = true ∧ (w12_11n1.bytes (Half.a.base + w12_11n1.fd (Mod.fwSrc Half.a) 29 0 * 64) (w12_11n1.fd (Mod.fwLen Half.a) 27 0)) = w12_11n1.bytes (Half.a.base + w12_11n1.fd (Mod.fwSrc Half.a) 29 0 * 64) (w12_11n1.fd (Mod.fwLen Half.a) 27 0) ∧ fwCheck (w12_11n1.bytes (Half.a.base + w12_11n1.fd (Mod.fwSrc Half.a) 29 0 * 64) (w12_11n1.fd (Mod.fwLen Half.a) 27 0)) (w12_11n1.fd (Mod.fwLen Half.a) 27 0) 2 (w12_11n1.fd Half.a.base 15 8) = 0)
    ∧ (State.reset.runs Half.a = true ∧ State.reset.fd (Mod.fwStatus Half.a) 1 0 ≠ 1))
    ∧ ((w12_13.runs Half.a = true ∧ (w12_13.half Half.a).boot.storing = some (false, 0))
    ∧ (w12_14.deck.inReset = false)
    ∧ (0 < 9 ∧ State.reset.runs Half.a = true)
    ∧ (w12_16.runs Half.a = true ∧ (w12_16.half Half.a).boot.hot = false ∧ (w12_16.half Half.a).boot.hotFrom = some 0 ∧ 0 + 2500000000 ≤ (w12_16.half Half.a).time.ticks)
    ∧ (w12_17.runs Half.a = true ∧ (w12_17.half Half.a).boot.hot = true ∧ (w12_17.half Half.a).boot.coolFrom = some 0 ∧ 0 + 2500000000 ≤ (w12_17.half Half.a).time.ticks)) := by
  refine ⟨⟨?_, ?_, ?_, ?_, ?_, ?_, ?_, ?_⟩, ⟨?_, ?_, ?_, ?_, ?_, ?_⟩, ⟨?_, ?_, ?_, ?_, ?_⟩⟩ <;> decide +kernel
/-! O13: PowerEntryCommandsComplete -/
def w13_1 : State := { State.reset with deck.pwr.feed := [(0, true)] }
def w13_2 : State := { State.reset with deck.pwr.phase := 1, deck.ticks := 2500000 }
def w13_3 : State := { State.reset with deck.pwr.phase := 2, deck.ticks := 5000000 }
def w13_7 : State := { State.reset with deck.pwr.latchOpen := [(0, true)], deck.ticks := 125000000 }
def w13_9 : State := { State.reset with deck.pwr.bayOff := [(0, true)], deck.ticks := 50000000 }
def w13_10 : State := { State.reset with live := [(HalfR.halfStatus Half.a, 0x4)] }
def w13_11 : State := { State.reset with deck.pwr.bayCycle := [(0, true)], deck.ticks := 250000000 }
def w13_12 : State := { State.reset with deck.inReset := false }
def w13_13 : State := { State.reset with deck.inReset := false }
def w13_14 : State := { State.reset with deck.pwr.cardFault := [0] }
theorem wit_PowerEntryCommandsComplete :
    ((0 < 2 ∧ portFlag State.reset.deck.pwr.feed 0 = false)
    ∧ (0 < 2 ∧ portFlag w13_1.deck.pwr.feed 0 = true)
    ∧ (w13_2.deck.pwr.phase = 1 ∧ w13_2.deck.pwr.rideT + clampNat 1 15 (w13_2.fd (Pwr.pwrCfg ((w13_2.owner 127).getD .a)) 19 16) * 250000 ≤ w13_2.deck.ticks)
    ∧ (w13_3.deck.pwr.phase = 2 ∧ (true = true → w13_3.deck.pwr.offT + 5000000 ≤ w13_3.deck.ticks))
    ∧ (State.reset.runs Half.a = true)
    ∧ (State.reset.runs Half.a = true)
    ∧ (portFlag w13_7.deck.pwr.latchOpen Half.a.num = true ∧ portFlag w13_7.deck.pwr.bayOff Half.a.num = false ∧ w13_7.latchFor Half.a 125000000 = true)
    ∧ (portFlag State.reset.deck.pwr.bayOff Half.a.num = false))
    ∧ ((portFlag w13_9.deck.pwr.latchOpen Half.a.num = false ∧ portFlag w13_9.deck.pwr.bayOff Half.a.num = true ∧ portFlag w13_9.deck.pwr.bayFault Half.a.num = false ∧ portFlag w13_9.deck.pwr.bayCycle Half.a.num = false ∧ w13_9.deck.pwr.phase < 2 ∧ w13_9.latchFor Half.a 50000000 = true)
    ∧ (w13_10.runs Half.a = true ∧ w13_10.hstate Half.a = 4 ∧ w13_10.partner Half.a ≠ 4 ∧ w13_10.partner Half.a ≠ 2)
    ∧ (portFlag w13_11.deck.pwr.bayCycle Half.a.num = true ∧ portFlag w13_11.deck.pwr.latchOpen Half.a.num = false ∧ (Map.get (fun _ => 0) w13_11.deck.pwr.cycleT Half.a.num + 250000000 ≤ w13_11.deck.ticks))
    ∧ (w13_12.deck.inReset = false ∧ cardNo 0 0 < 40 ∧ w13_12.deck.pwr.cardFault.contains (cardNo 0 0) = false ∧ w13_12.deck.pwr.slotOn.contains (cardNo 0 0) = false)
    ∧ (w13_13.deck.inReset = false ∧ cardNo 0 0 < 40 ∧ w13_13.cardPresent 0 0 = false)
    ∧ (w13_14.runs Half.a = true ∧ 0 < 40 ∧ w13_14.deck.pwr.cardFault.contains 0 = true)) := by
  refine ⟨⟨?_, ?_, ?_, ?_, ?_, ?_, ?_, ?_⟩, ⟨?_, ?_, ?_, ?_, ?_, ?_⟩⟩ <;> decide +kernel
/-! O14: PowerSequencerCommandsComplete -/
def w14_0 : State := { State.reset with deck.trivet.rail0 := [(127, 1)] }
def w14_1 : State := { State.reset with deck.trivet.rail0 := [(127, 1)] }
def w14_2 : State := { State.reset with mirrorUp := true, b.pwr.tx := .inl 0 :: [] }
def w14_3 : State := { State.reset with mirrorUp := true, b.pwr.tx := .inr [] :: [] }
def w14_5 : State := { State.reset with a.pwr.bound := none, a.pwr.next := [] }
def w14_6 : State := { State.reset with live := [(Pwr.genStatus Half.a 0, 2), (Pwr.pwrCfg Half.a, 0x1)], a.pwr.reqs := [], a.time.acc := 0x100000000000000000, deck.trivet.rail0 := [(127, 1)] }
def w14_7 : State := { State.reset with live := [(Pwr.busCtrl Half.a 0, 1), (Pwr.pwrCfg Half.a, 0x1)] }
def w14_8 : State := { State.reset with live := [(Pwr.busCtrl Half.a 0, 1), (Pwr.pwrCfg Half.a, 0x1)], a.time.acc := 0x100000000000000000, a.pwr.isls := [(0, { dead := some 0 })] }
def w14_9 : State := { State.reset with live := [(Pwr.busCtrl Half.a 0, 1), (Pwr.busFSrc Half.a 0, 1), (Anc.chStatus 0, 0x100), (Pwr.pwrCfg Half.a, 0x1)], a.time.acc := 0x100000000000000000, a.pwr.isls := [(0, { phase := 2, alive := some 0 })] }
def w14_10 : State := { State.reset with live := [(Pwr.busCtrl Half.a 0, 1), (Pwr.restartCtrl Half.a 0, 0x80000000), (Pwr.pwrCfg Half.a, 0x1)], a.time.acc := 0x100000000000000000, a.pwr.isls := [(0, { phase := 3 })] }
def w14_12n0 : State := { State.reset with a.pwr.reqs := [] }
def w14_13 : State := { State.reset with a.time.ticks := 25000 }
def w14_14 : State := { State.reset with a.pwr.bound := some 0 }
theorem wit_PowerSequencerCommandsComplete :
    ((w14_0.runs Half.a = true ∧ w14_0.owns Half.a 127 = true)
    ∧ (w14_1.runs Half.a = true ∧ w14_1.owns Half.a 127 = true)
    ∧ (w14_2.runs Half.a = true ∧ w14_2.mirrorUp = true ∧ (w14_2.half Half.a.other).pwr.tx = .inl 0 :: [])
    ∧ (w14_3.runs Half.a = true ∧ w14_3.mirrorUp = true ∧ (w14_3.half Half.a.other).pwr.tx = .inr [] :: [])
    ∧ (State.reset.runs Half.a = true ∧ ((State.reset.half Half.a).pwr.bound.all (fun t => decide (t < State.reset.pwrInstant Half.a)) = true))
    ∧ (w14_5.runs Half.a = true ∧ (w14_5.half Half.a).pwr.bound = none ∧ (w14_5.half Half.a).pwr.next = [] ∧ w14_5.hstate Half.a ≠ 2 ∧ w14_5.bt (Pwr.pwrCfg Half.a) 0 = false)
    ∧ (0 < 8 ∧ w14_6.runs Half.a = true ∧ w14_6.bt (Pwr.pwrCfg Half.a) 0 = true ∧ w14_6.genState Half.a 0 = 2 ∧ clampNat 1 255 (w14_6.fd (Pwr.genCtrl Half.a 0) 15 8) * 1000000000 ≤ w14_6.now Half.a - (w14_6.gen Half.a 0).since ∧ (w14_6.half Half.a).pwr.reqs = [])
    ∧ (w14_7.runs Half.a = true ∧ w14_7.bt (Pwr.pwrCfg Half.a) 0 = true ∧ (w14_7.islands Half.a).contains 0 = true ∧ (w14_7.isl Half.a 0).phase ≠ 2))
    ∧ ((w14_8.runs Half.a = true ∧ w14_8.bt (Pwr.pwrCfg Half.a) 0 = true ∧ (w14_8.islands Half.a).contains 0 = true ∧ (w14_8.isl Half.a 0).phase ≠ 2 ∧ w14_8.islDead Half.a 0 = true ∧ heldFor (w14_8.isl Half.a 0).dead (w14_8.now Half.a) (w14_8.blkNs Half.a 0) = true)
    ∧ (w14_9.runs Half.a = true ∧ w14_9.bt (Pwr.pwrCfg Half.a) 0 = true ∧ (w14_9.islands Half.a).contains 0 = true ∧ (w14_9.isl Half.a 0).phase = 2 ∧ (w14_9.islF Half.a 0).1 = true ∧ heldFor (w14_9.isl Half.a 0).alive (w14_9.now Half.a) 500000000 = true)
    ∧ (w14_10.runs Half.a = true ∧ w14_10.bt (Pwr.pwrCfg Half.a) 0 = true ∧ (w14_10.isl Half.a (w14_10.islandOf Half.a (w14_10.fd (Pwr.restartCtrl Half.a 0) 17 16))).phase = 3 ∧ (w14_10.isl Half.a (w14_10.islandOf Half.a (w14_10.fd (Pwr.restartCtrl Half.a 0) 17 16))).issued.contains 0 = false ∧ (w14_10.islRestarts Half.a (w14_10.islandOf Half.a (w14_10.fd (Pwr.restartCtrl Half.a 0) 17 16))).contains 0 = true ∧ (w14_10.isl Half.a (w14_10.islandOf Half.a (w14_10.fd (Pwr.restartCtrl Half.a 0) 17 16))).liveT + w14_10.fd (Pwr.restartCtrl Half.a 0) 15 0 * 100000000 ≤ w14_10.now Half.a)
    ∧ (State.reset.runs Half.a = true)
    ∧ (State.reset.runs Half.a = true)
    ∧ (w14_12n0.runs Half.a = true ∧ (w14_12n0.half Half.a).pwr.reqs = []))
    ∧ ((w14_13.runs Half.a = true ∧ w14_13.hstate Half.a ≠ 4 ∧ (w14_13.half Half.a).pwr.leftT + 25000 ≤ (w14_13.half Half.a).time.ticks)
    ∧ (w14_14.runs Half.a = true ∧ (w14_14.half Half.a).pwr.bound = some 0 ∧ w14_14.pwrInstant Half.a ≤ 0)) := by
  refine ⟨⟨?_, ?_, ?_, ?_, ?_, ?_, ?_, ?_⟩, ⟨?_, ?_, ?_, ?_, ?_, ?_⟩, ⟨?_, ?_⟩⟩ <;> decide +kernel
/-! O15: TrunkRingCommandsComplete -/
def w15_0 : State := { State.reset with deck.inReset := false, deck.trunk.en := true, deck.trunk.up := [(1, true)] }
def w15_1 : State := { State.reset with deck.inReset := false, deck.trunk.en := true, deck.trunk.up := [(1, true)], deck.trunk.opened := [(0, true)], deck.ticks := 250000000 }
def w15_3 : State := { State.reset with deck.inReset := false, deck.trunk.en := true, deck.trunk.opened := [(0, true)] }
def w15_4 : State := { State.reset with deck.inReset := false, deck.trunk.en := true, deck.trunk.opened := [(0, true)] }
def w15_5 : State := { State.reset with deck.inReset := false, deck.trunk.en := true }
def w15_6 : State := { State.reset with deck.inReset := false, deck.trunk.en := true }
def w15_7 : State := { State.reset with deck.inReset := false, deck.trunk.up := [(0, true)], deck.trunk.wrapped := [(0, true)], deck.ticks := 250000000 }
def w15_8 : State := { State.reset with deck.inReset := false, deck.trunk.plan := some (0, 0, 0), deck.trunk.up := [(0, true)], deck.trunk.wrapped := [(0, true)], deck.timeCopy := 48000 }
def w15_9 : State := { State.reset with deck.trunk.en := true }
def w15_11 : State := { State.reset with deck.inReset := false }
def w15_12 : State := { State.reset with a.time.acc := 0xC35000000000 }
def w15_13 : State := { State.reset with deck.trivet.rail0 := [(124, 1)], a.trk.slotSent := false, deck.trunk.en := true, deck.trunk.up := [(0, true)] }
def w15_14 : State := { State.reset with deck.trivet.rail0 := [(124, 1)], deck.trunk.masterEn := true, deck.trunk.master := false, deck.trunk.sawCs := false, deck.trunk.noCs := 2, deck.trunk.en := true, deck.trunk.up := [(0, true)] }
theorem wit_TrunkRingCommandsComplete :
    ((0 < 2 ∧ w15_0.deck.inReset = false ∧ w15_0.deck.trunk.en = true ∧ portFlag w15_0.deck.trunk.down 0 = false ∧ portFlag w15_0.deck.trunk.up (1 - 0) = true ∧ (0 = 2 → 2 ≤ Map.get (fun _ => 0) w15_0.deck.trunk.crcRun 0))
    ∧ (0 < 2 ∧ w15_1.deck.inReset = false ∧ w15_1.deck.trunk.en = true ∧ portFlag w15_1.deck.trunk.up 0 = false ∧ portFlag w15_1.deck.trunk.up (1 - 0) = true ∧ portFlag w15_1.deck.trunk.opened 0 = true ∧ (Map.get (fun _ => 0) w15_1.deck.trunk.downT 0 + 250000000 ≤ w15_1.deck.ticks))
    ∧ (0 < 2 ∧ 0 < 4)
    ∧ (w15_3.deck.inReset = false ∧ w15_3.deck.trunk.en = true ∧ portFlag w15_3.deck.trunk.opened 0 = true ∧ (TrkFrame.sealed ⟨0, 16, 1, 0, 0, 0, 0, 0, 0, 0, []⟩).crcOk = true ∧ frameKinds.contains (TrkFrame.sealed ⟨0, 16, 1, 0, 0, 0, 0, 0, 0, 0, []⟩).kind = true ∧ (TrkFrame.sealed ⟨0, 16, 1, 0, 0, 0, 0, 0, 0, 0, []⟩).kind ≠ 1 ∧ (TrkFrame.sealed ⟨0, 16, 1, 0, 0, 0, 0, 0, 0, 0, []⟩).src ≠ w15_3.node ∧ (TrkFrame.sealed ⟨0, 16, 1, 0, 0, 0, 0, 0, 0, 0, []⟩).flags / 2 % 2 = 0 ∧ (TrkFrame.sealed ⟨0, 16, 1, 0, 0, 0, 0, 0, 0, 0, []⟩).hops < 128 ∧ portFlag w15_3.deck.trunk.wrapped (1 - 0) = false)
    ∧ (w15_4.deck.inReset = false ∧ w15_4.deck.trunk.en = true ∧ portFlag w15_4.deck.trunk.opened 0 = true ∧ (TrkFrame.sealed ⟨0, 16, 0, 0, 0, 0, 0, 0, 0, 0, []⟩).crcOk = true ∧ frameKinds.contains (TrkFrame.sealed ⟨0, 16, 0, 0, 0, 0, 0, 0, 0, 0, []⟩).kind = true ∧ (TrkFrame.sealed ⟨0, 16, 0, 0, 0, 0, 0, 0, 0, 0, []⟩).src = w15_4.node ∧ (TrkFrame.sealed ⟨0, 16, 0, 0, 0, 0, 0, 0, 0, 0, []⟩).flags / 2 % 2 = 0)
    ∧ (w15_5.deck.inReset = false ∧ w15_5.deck.trunk.en = true ∧ (TrkFrame.sealed ⟨0, 1, 1, 0, 0, 0, 0, 0, 0, 0, []⟩).crcOk = true ∧ (TrkFrame.sealed ⟨0, 1, 1, 0, 0, 0, 0, 0, 0, 0, []⟩).kind = 1 ∧ (TrkFrame.sealed ⟨0, 1, 1, 0, 0, 0, 0, 0, 0, 0, []⟩).src ≠ w15_5.node)
    ∧ (w15_6.deck.inReset = false ∧ w15_6.deck.trunk.en = true ∧ (TrkFrame.sealed ⟨0, 3, 1, 0, 0, 0, 0, 0, 0, 0, []⟩).crcOk = true ∧ (TrkFrame.sealed ⟨0, 3, 1, 0, 0, 0, 0, 0, 0, 0, []⟩).kind = 3)
    ∧ (w15_7.deck.inReset = false ∧ portFlag w15_7.deck.trunk.up 0 = true ∧ portFlag w15_7.deck.trunk.wrapped 0 = true ∧ (Map.get (fun _ => 0) w15_7.deck.trunk.upT 0 + w15_7.deck.trunk.hold * 250000000 ≤ w15_7.deck.ticks)))
    ∧ ((w15_8.deck.inReset = false ∧ w15_8.deck.trunk.plan = some (0, 0, 0) ∧ (0 = w15_8.node ∨ 0 = w15_8.node) ∧ portFlag w15_8.deck.trunk.up 0 = true ∧ portFlag w15_8.deck.trunk.wrapped 0 = true ∧ w15_8.nodeNow / 50000 % 65536 = 0 ∧ 48000 ≤ w15_8.nodeNow % 50000)
    ∧ (portFlag w15_9.deck.trunk.opened 0 ≠ w15_9.deck.trunk.en)
    ∧ (0 < 2)
    ∧ (w15_11.deck.inReset = false)
    ∧ (w15_12.runs Half.a = true ∧ w15_12.waiting Half.a 7 = false ∧ w15_12.rg (Trk.cycleNum Half.a) ≠ BitVec.ofNat 32 (w15_12.now Half.a / 50000))
    ∧ (w15_13.runs Half.a = true ∧ w15_13.owns Half.a 124 = true ∧ w15_13.deckHears Half.a = true ∧ w15_13.deck.trunk.inserts = true ∧ (w15_13.half Half.a).trk.slotSent = false ∧ min 4000 (w15_13.fd (Trk.slotCfg Half.a) 12 0) * 10 ≤ w15_13.now Half.a % 50000)
    ∧ (w15_14.runs Half.a = true ∧ w15_14.owns Half.a 124 = true ∧ w15_14.deckHears Half.a = true ∧ w15_14.deck.trunk.inserts = true ∧ w15_14.deck.trunk.masterEn = true ∧ w15_14.deck.trunk.master = false ∧ w15_14.deck.trunk.sawCs = false ∧ 2 ≤ w15_14.deck.trunk.noCs ∧ 500 * w15_14.node ≤ w15_14.now Half.a % 50000)) := by
  refine ⟨⟨?_, ?_, ?_, ?_, ?_, ?_, ?_, ?_⟩, ⟨?_, ?_, ?_, ?_, ?_, ?_, ?_⟩⟩ <;> decide +kernel
/-! O16: TrunkStationCommandsComplete -/
def w16_0 : State := { State.reset with deck.inReset := false, deck.trunk.en := true }
def w16_1 : State := { State.reset with live := [(Trk.stnStatus Half.a 0, 0xF01)] }
def w16_2 : State := { State.reset with live := [(Trk.stnStatus Half.a 0, 1)], deck.trivet.rail0 := [(124, 1)] }
def w16_3 : State := { State.reset with live := [(Trk.paddr Half.a 0, 1)] }
def w16_4 : State := { State.reset with live := [(Trk.stnStatus Half.a 0, 1)], deck.trivet.rail0 := [(124, 1)] }
def w16_5 : State := { State.reset with deck.inReset := false, deck.trunk.en := true, a.trk.ops := [(⟨0, false, 1, 0, 0, 1, 0, 0, 0, 0⟩ : TrkOp)] }
def w16_6 : State := { State.reset with deck.inReset := false, deck.trunk.en := true }
def w16_7 : State := { State.reset with deck.inReset := false, deck.trunk.en := true, a.trk.ops := [(⟨0, true, 1, 0, 0, 1, 0, 0, 0, 0⟩ : TrkOp)] }
def w16_8 : State := { State.reset with live := [(Trk.acycCfg Half.a, 1000)], deck.inReset := false, deck.trivet.rail0 := [(124, 1)], a.trk.queue := [], deck.trunk.en := true, deck.trunk.up := [(0, true)] }
def w16_9 : State := { State.reset with a.time.ticks := 500000, a.trk.ops := [(⟨0, false, 1, 0, 0, 1, 0, 0, 0, 0⟩ : TrkOp)] }
def w16_10 : State := { State.reset with a.time.ticks := 500000, a.trk.ops := [(⟨0, true, 1, 0, 0, 1, 0, 0, 0, 0⟩ : TrkOp)] }
def w16_11 : State := { State.reset with live := [(Trk.fenceMap Half.a 0, 1)] }
theorem wit_TrunkStationCommandsComplete :
    ((w16_0.deck.inReset = false ∧ w16_0.deck.trunk.en = true ∧ (TrkFrame.sealed ⟨0, 2, 1, 0, 0, 0, 0, 0, 0, 0, []⟩).crcOk = true ∧ (TrkFrame.sealed ⟨0, 2, 1, 0, 0, 0, 0, 0, 0, 0, []⟩).kind = 2 ∧ (TrkFrame.sealed ⟨0, 2, 1, 0, 0, 0, 0, 0, 0, 0, []⟩).src ≠ w16_0.node ∧ (TrkFrame.sealed ⟨0, 2, 1, 0, 0, 0, 0, 0, 0, 0, []⟩).src < 64 ∧ bit ((TrkFrame.sealed ⟨0, 2, 1, 0, 0, 0, 0, 0, 0, 0, []⟩).payload.headD 0) 0 = false)
    ∧ (0 < 64 ∧ w16_1.runs Half.a = true ∧ w16_1.stnLive Half.a 0 = true ∧ w16_1.stnTimeout Half.a ≤ w16_1.fd (Trk.stnStatus Half.a 0) 15 8)
    ∧ (w16_2.runs Half.a = true ∧ bit 1 0 = true ∧ w16_2.rn (Trk.paddr Half.a 0) % 4 = 0 ∧ w16_2.nextTag Half.a = some 0 ∧ w16_2.fenced Half.a (w16_2.fd (Trk.pdesc Half.a 0) 5 0 * 8 + w16_2.fd (Trk.pdesc Half.a 0) 10 8) = false ∧ w16_2.stnLive Half.a (w16_2.fd (Trk.pdesc Half.a 0) 5 0) = true ∧ w16_2.owns Half.a 124 = true)
    ∧ (w16_3.runs Half.a = true ∧ bit 1 0 = true ∧ w16_3.rn (Trk.paddr Half.a 0) % 4 ≠ 0)
    ∧ (w16_4.runs Half.a = true ∧ bit 1 0 = true ∧ w16_4.rn (Trk.raddr Half.a 0) % 4 = 0 ∧ w16_4.nextTag Half.a = some 0 ∧ w16_4.fd (Trk.rdesc Half.a 0) 23 16 < 64 ∧ w16_4.fenced Half.a (w16_4.fd (Trk.rdesc Half.a 0) 5 0 * 8 + w16_4.fd (Trk.rdesc Half.a 0) 10 8) = false ∧ w16_4.stnLive Half.a (w16_4.fd (Trk.rdesc Half.a 0) 5 0) = true ∧ w16_4.owns Half.a 124 = true)
    ∧ (w16_5.deck.inReset = false ∧ w16_5.deck.trunk.en = true ∧ (TrkFrame.sealed ⟨0, 17, 1, 0, 0, 0, 0, 0, 0, 0, []⟩).crcOk = true ∧ (TrkFrame.sealed ⟨0, 17, 1, 0, 0, 0, 0, 0, 0, 0, []⟩).kind = 0x11 ∧ (TrkFrame.sealed ⟨0, 17, 1, 0, 0, 0, 0, 0, 0, 0, []⟩).dst = w16_5.node ∧ w16_5.deckHears (TrkHalf (TrkFrame.sealed ⟨0, 17, 1, 0, 0, 0, 0, 0, 0, 0, []⟩)) = true ∧ w16_5.opOf (TrkHalf (TrkFrame.sealed ⟨0, 17, 1, 0, 0, 0, 0, 0, 0, 0, []⟩)) false (TrkFrame.sealed ⟨0, 17, 1, 0, 0, 0, 0, 0, 0, 0, []⟩) = some (⟨0, false, 1, 0, 0, 1, 0, 0, 0, 0⟩ : TrkOp) ∧ w16_5.opLate (TrkHalf (TrkFrame.sealed ⟨0, 17, 1, 0, 0, 0, 0, 0, 0, 0, []⟩)) (⟨0, false, 1, 0, 0, 1, 0, 0, 0, 0⟩ : TrkOp) = false)
    ∧ (w16_6.deck.inReset = false ∧ w16_6.deck.trunk.en = true ∧ (TrkFrame.sealed ⟨0, 17, 1, 0, 0, 0, 0, 0, 0, 0, []⟩).crcOk = true ∧ (TrkFrame.sealed ⟨0, 17, 1, 0, 0, 0, 0, 0, 0, 0, []⟩).kind = 0x11 ∧ (TrkFrame.sealed ⟨0, 17, 1, 0, 0, 0, 0, 0, 0, 0, []⟩).dst = w16_6.node ∧ w16_6.deckHears (TrkHalf (TrkFrame.sealed ⟨0, 17, 1, 0, 0, 0, 0, 0, 0, 0, []⟩)) = true ∧ w16_6.opOf (TrkHalf (TrkFrame.sealed ⟨0, 17, 1, 0, 0, 0, 0, 0, 0, 0, []⟩)) false (TrkFrame.sealed ⟨0, 17, 1, 0, 0, 0, 0, 0, 0, 0, []⟩) = none)
    ∧ (w16_7.deck.inReset = false ∧ w16_7.deck.trunk.en = true ∧ (TrkFrame.sealed ⟨0, 19, 1, 0, 0, 0, 0, 0, 0, 0, []⟩).crcOk = true ∧ (TrkFrame.sealed ⟨0, 19, 1, 0, 0, 0, 0, 0, 0, 0, []⟩).kind = 0x13 ∧ (TrkFrame.sealed ⟨0, 19, 1, 0, 0, 0, 0, 0, 0, 0, []⟩).dst = w16_7.node ∧ w16_7.deckHears (TrkHalf (TrkFrame.sealed ⟨0, 19, 1, 0, 0, 0, 0, 0, 0, 0, []⟩)) = true ∧ w16_7.opOf (TrkHalf (TrkFrame.sealed ⟨0, 19, 1, 0, 0, 0, 0, 0, 0, 0, []⟩)) true (TrkFrame.sealed ⟨0, 19, 1, 0, 0, 0, 0, 0, 0, 0, []⟩) = some (⟨0, true, 1, 0, 0, 1, 0, 0, 0, 0⟩ : TrkOp) ∧ (⟨0, true, 1, 0, 0, 1, 0, 0, 0, 0⟩ : TrkOp).core < 8))
    ∧ ((w16_8.deck.inReset = false ∧ w16_8.deck.trunk.en = true ∧ (TrkFrame.sealed ⟨0, 16, 1, 0, 0, 0, 0, 0, 0, 0, []⟩).crcOk = true ∧ ((TrkFrame.sealed ⟨0, 16, 1, 0, 0, 0, 0, 0, 0, 0, []⟩).kind = 0x10 ∨ (TrkFrame.sealed ⟨0, 16, 1, 0, 0, 0, 0, 0, 0, 0, []⟩).kind = 0x12) ∧ (TrkFrame.sealed ⟨0, 16, 1, 0, 0, 0, 0, 0, 0, 0, []⟩).dst = w16_8.node ∧ w16_8.owner 124 = some Half.a ∧ w16_8.deckHears Half.a = true ∧ w16_8.deck.trunk.inserts = true ∧ (w16_8.half Half.a).trk.queue = [] ∧ (w16_8.half Half.a).trk.spent < w16_8.fd (Trk.acycCfg Half.a) 17 0)
    ∧ (w16_9.runs Half.a = true ∧ ((w16_9.half Half.a).trk.ops.find? (fun x => !x.read && decide (x.tag = 0)) = some (⟨0, false, 1, 0, 0, 1, 0, 0, 0, 0⟩ : TrkOp)) ∧ (⟨0, false, 1, 0, 0, 1, 0, 0, 0, 0⟩ : TrkOp).made + 500000 ≤ (w16_9.half Half.a).time.ticks)
    ∧ (w16_10.runs Half.a = true ∧ ((w16_10.half Half.a).trk.ops.find? (fun x => x.read && decide (x.tag = 0)) = some (⟨0, true, 1, 0, 0, 1, 0, 0, 0, 0⟩ : TrkOp)) ∧ (⟨0, true, 1, 0, 0, 1, 0, 0, 0, 0⟩ : TrkOp).core < 8 ∧ (⟨0, true, 1, 0, 0, 1, 0, 0, 0, 0⟩ : TrkOp).made + 500000 ≤ (w16_10.half Half.a).time.ticks)
    ∧ (w16_11.runs Half.a = true ∧ w16_11.fenced Half.a (bits 0 8 0) = true)
    ∧ (State.reset.runs Half.a = true)) := by
  refine ⟨⟨?_, ?_, ?_, ?_, ?_, ?_, ?_, ?_⟩, ⟨?_, ?_, ?_, ?_, ?_⟩⟩ <;> decide +kernel
/-! O17: AnalogOutputAndCalibrationCommandsComplete -/
def w17_0 : State := { State.reset with live := [(Anc.chCfg 0, 7), (Anc.chStatus 0, 3)], deck.inReset := false, deck.trivet.rail0 := [(((⟨4096, 0, 0, 0, 0, false⟩ : CmdWord).idx / 16), 1)], a.ancTx := (⟨4096, 0, 0, 0, 0, false⟩ : CmdWord) :: [] }
def w17_1 : State := { State.reset with live := [(Anc.chCfg 0, 0x80007), (Anc.chStatus 0, 0x3)], deck.trivet.rail0 := [(0, 1)] }
def w17_2 : State := { State.reset with deck.trivet.rail0 := [(0, 1)] }
def w17_3 : State := { State.reset with live := [(Anc.chCfg 0, 0x7), (Anc.chStatus 0, 0x3)], deck.inReset := false, deck.timeState := 1, deck.timeCopy := 1000000000000 }
def w17_4 : State := { State.reset with live := [(Anc.chStatus 0, 0x2)], deck.inReset := false, deck.ticks := 1000000000000 }
def w17_5 : State := { State.reset with live := [(Anc.chStatus 0, 0x3)], deck.trivet.rail0 := [(0, 1)], deck.chans := [(0, { calReq := false })] }
def w17_6 : State := { State.reset with live := [(Anc.chStatus 0, 0x4), (Anc.calStatus 0, 0x1)], deck.trivet.rail0 := [(0, 1)], deck.chans := [(0, { calRun := 0 })] }
def w17_7 : State := { State.reset with live := [(Anc.chStatus 0, 0x4), (Anc.calStatus 0, 0x2)], deck.trivet.rail0 := [(0, 1)], deck.chans := [(0, { calRun := 0 })] }
def w17_8 : State := { State.reset with live := [(Anc.chStatus 0, 0x4)], deck.inReset := false, deck.chans := [(0, { calRun := 1, calN := 1024 })] }
def w17_9 : State := { State.reset with live := [(Anc.chStatus 0, 0x4), (Anc.calStatus 0, 0x3)], deck.trivet.rail0 := [(0, 1)], deck.chans := [(0, { calLo := some (0, 0), calHi := some (0x41A00000, 0x41A00000) })] }
def w17_10 : State := { State.reset with live := [(Anc.calStatus 0, 0x4)], deck.inReset := false }
def w17_11 : State := { State.reset with live := [(Anc.chStatus 0, 0x4)], deck.trivet.rail0 := [(0, 1)] }
def w17_12 : State := { State.reset with live := [(Anc.chStatus 0, 0x3)], deck.trivet.rail0 := [(0, 1)] }
def w17_13 : State := { State.reset with live := [(Anc.chStatus 0, 0x4), (Anc.calStatus 0, 0x1)], deck.inReset := false, deck.timeState := 1, deck.timeCopy := 1000000000000 }
theorem w17_0_ok : w17_0.deck.inReset = false ∧ MayCmd w17_0 Half.a ((⟨4096, 0, 0, 0, 0, false⟩ : CmdWord).idx / 16) ∧ (w17_0.half Half.a).ancTx = (⟨4096, 0, 0, 0, 0, false⟩ : CmdWord) :: [] ∧ (⟨4096, 0, 0, 0, 0, false⟩ : CmdWord).idx < 256 ∧ w17_0.bt (Anc.chCfg (⟨4096, 0, 0, 0, 0, false⟩ : CmdWord).idx) 19 = false ∧ (if 4096 ≤ (⟨4096, 0, 0, 0, 0, false⟩ : CmdWord).loop then !bit (w17_0.deckRoute (4 * (⟨4096, 0, 0, 0, 0, false⟩ : CmdWord).idx)) 31 else w17_0.takes (4 * (⟨4096, 0, 0, 0, 0, false⟩ : CmdWord).idx) (⟨4096, 0, 0, 0, 0, false⟩ : CmdWord).loop (⟨4096, 0, 0, 0, 0, false⟩ : CmdWord).j) = true ∧ ancOutput (w17_0.ancMode (⟨4096, 0, 0, 0, 0, false⟩ : CmdWord).idx) = true ∧ w17_0.chState (⟨4096, 0, 0, 0, 0, false⟩ : CmdWord).idx = 3 ∧ (⟨4096, 0, 0, 0, 0, false⟩ : CmdWord).coast = false ∧ f32.finite (⟨4096, 0, 0, 0, 0, false⟩ : CmdWord).word.toNat = true := by
  refine ⟨?_, (by refine ⟨?_, ?_, ?_⟩ <;> decide +kernel), ?_, ?_, ?_, ?_, ?_, ?_, ?_, ?_⟩ <;> decide +kernel
theorem w17_1_ok : 0 < 256 ∧ MayCmd w17_1 Half.a (0 / 16) ∧ w17_1.bt (Anc.chCfg 0) 19 = true ∧ ancOutput (w17_1.ancMode 0) = true ∧ w17_1.chState 0 = 3 ∧ f32.finite (0 : Word).toNat = true := by
  refine ⟨?_, (by refine ⟨?_, ?_, ?_⟩ <;> decide +kernel), ?_, ?_, ?_, ?_⟩ <;> decide +kernel
theorem w17_2_ok : 0 < 256 ∧ MayCmd w17_2 Half.a (0 / 16) ∧ w17_2.bt (Anc.chCfg 0) 19 = false := by
  refine ⟨?_, (by refine ⟨?_, ?_, ?_⟩ <;> decide +kernel), ?_⟩ <;> decide +kernel
theorem w17_5_ok : 0 < 256 ∧ MayCmd w17_5 Half.a (0 / 16) ∧ w17_5.chState 0 = 3 ∧ (w17_5.chan 0).calReq = false := by
  refine ⟨?_, (by refine ⟨?_, ?_, ?_⟩ <;> decide +kernel), ?_, ?_⟩ <;> decide +kernel
theorem w17_6_ok : 0 < 256 ∧ MayCmd w17_6 Half.a (0 / 16) ∧ w17_6.chState 0 = 4 ∧ w17_6.calStep 0 = 1 ∧ (w17_6.chan 0).calRun = 0 := by
  refine ⟨?_, (by refine ⟨?_, ?_, ?_⟩ <;> decide +kernel), ?_, ?_, ?_⟩ <;> decide +kernel
theorem w17_7_ok : 0 < 256 ∧ MayCmd w17_7 Half.a (0 / 16) ∧ w17_7.chState 0 = 4 ∧ w17_7.calStep 0 = 2 ∧ (w17_7.chan 0).calRun = 0 := by
  refine ⟨?_, (by refine ⟨?_, ?_, ?_⟩ <;> decide +kernel), ?_, ?_, ?_⟩ <;> decide +kernel
theorem w17_9_ok : 0 < 256 ∧ MayCmd w17_9 Half.a (0 / 16) ∧ w17_9.chState 0 = 4 ∧ w17_9.calStep 0 = 3 ∧ (w17_9.chan 0).calLo = some (0, 0) ∧ (w17_9.chan 0).calHi = some (0x41A00000, 0x41A00000) ∧ f32.eq 0x41A00000 0 = false ∧ 0x3F800000 = f32.div (f32.sub 0x41A00000 0) (f32.sub 0x41A00000 0) ∧ 0 = f32.sub 0 (f32.mul 0x3F800000 0) ∧ f32.le 0x3F7AE148 0x3F800000 = true ∧ f32.le 0x3F800000 0x3F828F5C = true ∧ f32.le (b32abs 0) (f32.mul 0x3C23D70A (w17_9.calSpan 0)) = true := by
  refine ⟨?_, (by refine ⟨?_, ?_, ?_⟩ <;> decide +kernel), ?_, ?_, ?_, ?_, ?_, ?_, ?_, ?_, ?_, ?_⟩ <;> decide +kernel
theorem w17_11_ok : 0 < 256 ∧ MayCmd w17_11 Half.a (0 / 16) ∧ w17_11.chState 0 = 4 ∧ w17_11.calStep 0 ≠ 4 := by
  refine ⟨?_, (by refine ⟨?_, ?_, ?_⟩ <;> decide +kernel), ?_, ?_⟩ <;> decide +kernel
theorem w17_12_ok : 0 < 256 ∧ MayCmd w17_12 Half.a (0 / 16) ∧ (w17_12.chState 0 = 3 ∨ w17_12.chState 0 = 4) ∧ w17_12.calStep 0 ≠ 4 := by
  refine ⟨?_, (by refine ⟨?_, ?_, ?_⟩ <;> decide +kernel), ?_, ?_⟩ <;> decide +kernel
theorem wit_AnalogOutputAndCalibrationCommandsComplete :
    ((w17_0.deck.inReset = false ∧ MayCmd w17_0 Half.a ((⟨4096, 0, 0, 0, 0, false⟩ : CmdWord).idx / 16) ∧ (w17_0.half Half.a).ancTx = (⟨4096, 0, 0, 0, 0, false⟩ : CmdWord) :: [] ∧ (⟨4096, 0, 0, 0, 0, false⟩ : CmdWord).idx < 256 ∧ w17_0.bt (Anc.chCfg (⟨4096, 0, 0, 0, 0, false⟩ : CmdWord).idx) 19 = false ∧ (if 4096 ≤ (⟨4096, 0, 0, 0, 0, false⟩ : CmdWord).loop then !bit (w17_0.deckRoute (4 * (⟨4096, 0, 0, 0, 0, false⟩ : CmdWord).idx)) 31 else w17_0.takes (4 * (⟨4096, 0, 0, 0, 0, false⟩ : CmdWord).idx) (⟨4096, 0, 0, 0, 0, false⟩ : CmdWord).loop (⟨4096, 0, 0, 0, 0, false⟩ : CmdWord).j) = true ∧ ancOutput (w17_0.ancMode (⟨4096, 0, 0, 0, 0, false⟩ : CmdWord).idx) = true ∧ w17_0.chState (⟨4096, 0, 0, 0, 0, false⟩ : CmdWord).idx = 3 ∧ (⟨4096, 0, 0, 0, 0, false⟩ : CmdWord).coast = false ∧ f32.finite (⟨4096, 0, 0, 0, 0, false⟩ : CmdWord).word.toNat = true)
    ∧ (0 < 256 ∧ MayCmd w17_1 Half.a (0 / 16) ∧ w17_1.bt (Anc.chCfg 0) 19 = true ∧ ancOutput (w17_1.ancMode 0) = true ∧ w17_1.chState 0 = 3 ∧ f32.finite (0 : Word).toNat = true)
    ∧ (0 < 256 ∧ MayCmd w17_2 Half.a (0 / 16) ∧ w17_2.bt (Anc.chCfg 0) 19 = false)
    ∧ (0 < 256 ∧ w17_3.deck.inReset = false ∧ ancOutput (w17_3.ancMode 0) = true ∧ w17_3.chState 0 = 3 ∧ (w17_3.chan 0).cmdT + w17_3.missNs 0 ≤ w17_3.fieldNow (0 / 16) ∧ w17_3.bt (Anc.chStatus 0) 11 = false)
    ∧ (0 < 256 ∧ w17_4.deck.inReset = false ∧ w17_4.chState 0 = 2 ∧ (w17_4.chan 0).setT + w17_4.settleFor 0 ≤ w17_4.deck.ticks)
    ∧ (0 < 256 ∧ MayCmd w17_5 Half.a (0 / 16) ∧ w17_5.chState 0 = 3 ∧ (w17_5.chan 0).calReq = false)
    ∧ (0 < 256 ∧ MayCmd w17_6 Half.a (0 / 16) ∧ w17_6.chState 0 = 4 ∧ w17_6.calStep 0 = 1 ∧ (w17_6.chan 0).calRun = 0)
    ∧ (0 < 256 ∧ MayCmd w17_7 Half.a (0 / 16) ∧ w17_7.chState 0 = 4 ∧ w17_7.calStep 0 = 2 ∧ (w17_7.chan 0).calRun = 0))
    ∧ ((0 < 256 ∧ w17_8.deck.inReset = false ∧ w17_8.chState 0 = 4 ∧ (w17_8.chan 0).calRun = (if false then 2 else 1) ∧ w17_8.calNeed 0 ≤ (w17_8.chan 0).calN)
    ∧ (0 < 256 ∧ MayCmd w17_9 Half.a (0 / 16) ∧ w17_9.chState 0 = 4 ∧ w17_9.calStep 0 = 3 ∧ (w17_9.chan 0).calLo = some (0, 0) ∧ (w17_9.chan 0).calHi = some (0x41A00000, 0x41A00000) ∧ f32.eq 0x41A00000 0 = false ∧ 0x3F800000 = f32.div (f32.sub 0x41A00000 0) (f32.sub 0x41A00000 0) ∧ 0 = f32.sub 0 (f32.mul 0x3F800000 0) ∧ f32.le 0x3F7AE148 0x3F800000 = true ∧ f32.le 0x3F800000 0x3F828F5C = true ∧ f32.le (b32abs 0) (f32.mul 0x3C23D70A (w17_9.calSpan 0)) = true)
    ∧ (0 < 256 ∧ w17_10.deck.inReset = false ∧ w17_10.calStep 0 = 4)
    ∧ (0 < 256 ∧ MayCmd w17_11 Half.a (0 / 16) ∧ w17_11.chState 0 = 4 ∧ w17_11.calStep 0 ≠ 4)
    ∧ (0 < 256 ∧ MayCmd w17_12 Half.a (0 / 16) ∧ (w17_12.chState 0 = 3 ∨ w17_12.chState 0 = 4) ∧ w17_12.calStep 0 ≠ 4)
    ∧ (0 < 256 ∧ w17_13.deck.inReset = false ∧ w17_13.chState 0 = 4 ∧ w17_13.calStep 0 ≠ 0 ∧ (w17_13.chan 0).calT + 600000000000 ≤ w17_13.fieldNow (0 / 16))) := by
  refine ⟨⟨w17_0_ok, w17_1_ok, w17_2_ok, ?_, ?_, w17_5_ok, w17_6_ok, w17_7_ok⟩, ⟨?_, w17_9_ok, ?_, w17_11_ok, w17_12_ok, ?_⟩⟩ <;> decide +kernel
/-! O18: AnalogConversionAndProtectionCommandsComplete -/
def w18_0 : State := { State.reset with live := [(Anc.chStatus 0, 0x3), (Anc.chCfg 0, 0x1)], deck.inReset := false, deck.chans := [(0, { calReq := false, islFault := false })] }
def w18_1 : State := { State.reset with live := [(Anc.chStatus 0, 0x3), (Anc.chCfg 0, 0x1001)], deck.inReset := false, deck.chans := [(0, { calReq := false, islFault := false })] }
def w18_2 : State := { State.reset with live := [(Anc.chStatus 0, 0x3), (Anc.chCfg 0, 0x7)], deck.inReset := false, deck.chans := [(0, { calReq := false, islFault := false })] }
def w18_3 : State := { State.reset with live := [(Anc.chCfg 0, 0x7), (Anc.chStatus 0, 0x3)], deck.inReset := false }
def w18_3n0 : State := { State.reset with live := [(Anc.chCfg 0, 0x7), (Anc.chStatus 0, 0x3)], deck.inReset := false, deck.chans := [(0, { applied := 0x41A00000 })] }
def w18_3n1 : State := { State.reset with live := [(Anc.chCfg 0, 0x7), (Anc.chStatus 0, 0x3)], deck.inReset := false }
def w18_4 : State := { State.reset with live := [(Anc.chCfg 0, 0x7), (Anc.chStatus 0, 0x3)], deck.inReset := false }
def w18_4n0 : State := { State.reset with live := [(Anc.chCfg 0, 0x7), (Anc.chStatus 0, 0x3)], deck.inReset := false }
def w18_4n1 : State := { State.reset with live := [(Anc.headroom 0, 0x40000000), (Anc.chCfg 0, 0x7), (Anc.chStatus 0, 0x3)], deck.inReset := false }
def w18_5 : State := { State.reset with live := [(Anc.chCfg 0, 0x8), (Anc.chStatus 0, 0x3)], deck.inReset := false }
def w18_6 : State := { State.reset with live := [(Anc.chCfg 0, 0x8), (Anc.chStatus 0, 0x3)], deck.inReset := false }
def w18_7 : State := { State.reset with live := [(Anc.chCfg 0, 0x8), (Anc.chStatus 0, 0x3)], deck.inReset := false }
def w18_8 : State := { State.reset with live := [(Anc.chCfg 0, 0x8), (Anc.chStatus 0, 0x40003)], deck.inReset := false }
def w18_9 : State := { State.reset with live := [(Anc.chStatus 0, 0x3)], deck.inReset := false }
def w18_9n0 : State := { State.reset with live := [(Anc.chStatus 0, 0x3), (Anc.chCfg 0, 0x2)], deck.inReset := false }
def w18_9n1 : State := { State.reset with live := [(Anc.chStatus 0, 0x3), (Anc.chCfg 0, 0x2)], deck.inReset := false }
def w18_9n2 : State := { State.reset with live := [(Anc.chStatus 0, 0x3), (Anc.chCfg 0, 0x9)], deck.inReset := false }
def w18_10 : State := { State.reset with deck.inReset := false, deck.chans := [(0, { shunt := true })], deck.ticks := 1000000000000 }
def w18_11 : State := { State.reset with live := [(Anc.chCfg 0, 0x6), (Anc.chStatus 0, 0x3)], deck.inReset := false }
theorem wit_AnalogConversionAndProtectionCommandsComplete :
    ((0 < 256 ∧ w18_0.deck.inReset = false ∧ w18_0.chState 0 = 3 ∧ w18_0.ancConverts 0 false = true ∧ (w18_0.chan 0).calReq = false ∧ (w18_0.chan 0).islFault = false ∧ w18_0.precDue 0 0 = true)
    ∧ (0 < 256 ∧ w18_1.deck.inReset = false ∧ w18_1.chState 0 = 3 ∧ w18_1.ancConverts 0 true = true ∧ (w18_1.chan 0).calReq = false ∧ (w18_1.chan 0).islFault = false ∧ 0 % 5000 = 4 * w18_1.fd (Anc.grid 0) 10 0 % 5000)
    ∧ (0 < 256 ∧ w18_2.deck.inReset = false ∧ w18_2.chState 0 = 3 ∧ ancOutput (w18_2.ancMode 0) = true ∧ (w18_2.chan 0).calReq = false ∧ (w18_2.chan 0).islFault = false)
    ∧ (0 < 256 ∧ w18_3.deck.inReset = false ∧ (w18_3.ancMode 0 = 7 ∨ w18_3.ancMode 0 = 8) ∧ w18_3.chState 0 ≠ 0)
    ∧ (0 < 256 ∧ w18_3n0.deck.inReset = false ∧ (w18_3n0.ancMode 0 = 7 ∨ w18_3n0.ancMode 0 = 8) ∧ w18_3n0.chState 0 ≠ 0 ∧ w18_3n0.ancOpen 0 = true ∧ w18_3n0.bt (Anc.chStatus 0) 9 = false)
    ∧ (0 < 256 ∧ w18_3n1.deck.inReset = false ∧ (w18_3n1.ancMode 0 = 7 ∨ w18_3n1.ancMode 0 = 8) ∧ w18_3n1.chState 0 ≠ 0 ∧ w18_3n1.ancOpen 0 = false ∧ w18_3n1.bt (Anc.chStatus 0) 18 = false)
    ∧ (0 < 256 ∧ w18_4.deck.inReset = false ∧ (w18_4.ancMode 0 = 7 ∨ w18_4.ancMode 0 = 8) ∧ w18_4.chState 0 ≠ 0)
    ∧ (0 < 256 ∧ w18_4n0.deck.inReset = false ∧ (w18_4n0.ancMode 0 = 7 ∨ w18_4n0.ancMode 0 = 8) ∧ w18_4n0.chState 0 ≠ 0 ∧ f32.lt (w18_4n0.rn (Anc.headroom 0)) 0x3FC00000 = true ∧ w18_4n0.bt (Anc.chStatus 0) 10 = false))
    ∧ ((0 < 256 ∧ w18_4n1.deck.inReset = false ∧ (w18_4n1.ancMode 0 = 7 ∨ w18_4n1.ancMode 0 = 8) ∧ w18_4n1.chState 0 ≠ 0 ∧ f32.lt (w18_4n1.rn (Anc.headroom 0)) 0x3FC00000 = false)
    ∧ (0 < 256 ∧ w18_5.deck.inReset = false ∧ w18_5.ancMode 0 = 8 ∧ w18_5.chState 0 ≠ 0 ∧ w18_5.bt (Anc.chStatus 0) 18 = false ∧ (0 = (if (w18_5.chan 0).falling = false ∧ w18_5.fd (Anc.chStatus 0) 17 16 < stepOf (w18_5.chan 0).applied then stepOf (w18_5.chan 0).applied else w18_5.fd (Anc.chStatus 0) 17 16)))
    ∧ (0 < 256 ∧ w18_6.deck.inReset = false ∧ w18_6.ancMode 0 = 8 ∧ w18_6.chState 0 ≠ 0)
    ∧ (0 < 256 ∧ w18_7.deck.inReset = false ∧ w18_7.ancMode 0 = 8 ∧ w18_7.chState 0 ≠ 0 ∧ w18_7.bt (Anc.chStatus 0) 18 = false)
    ∧ (0 < 256 ∧ w18_8.deck.inReset = false ∧ w18_8.ancMode 0 = 8 ∧ w18_8.chState 0 ≠ 0 ∧ w18_8.bt (Anc.chStatus 0) 18 = true)
    ∧ (0 < 256 ∧ w18_9.deck.inReset = false ∧ w18_9.chState 0 ≠ 0))
    ∧ ((0 < 256 ∧ w18_9n0.deck.inReset = false ∧ w18_9n0.chState 0 ≠ 0 ∧ (w18_9n0.ancMode 0 = 2 ∨ w18_9n0.ancMode 0 = 3))
    ∧ (0 < 256 ∧ w18_9n1.deck.inReset = false ∧ w18_9n1.chState 0 ≠ 0 ∧ w18_9n1.ancMode 0 = 2)
    ∧ (0 < 256 ∧ w18_9n2.deck.inReset = false ∧ w18_9n2.chState 0 ≠ 0 ∧ w18_9n2.ancMode 0 = 9)
    ∧ (0 < 256 ∧ w18_10.deck.inReset = false ∧ (w18_10.chan 0).shunt = true ∧ f32.le (0 : Word).toNat 0x41C80000 = true ∧ (w18_10.chan 0).shuntT + 250000000 ≤ w18_10.deck.ticks)
    ∧ (0 < 256 ∧ w18_11.deck.inReset = false ∧ w18_11.ancMode 0 = 6 ∧ w18_11.chState 0 ≠ 0 ∧ w18_11.tcDue 0 = true)) := by
  refine ⟨⟨?_, ?_, ?_, ?_, ?_, ?_, ?_, ?_⟩, ⟨?_, ?_, ?_, ?_, ?_, ?_⟩, ⟨?_, ?_, ?_, ?_, ?_⟩⟩ <;> decide +kernel
/-! O19: DigitalInputCommandsComplete -/
def w19_0 : State := { State.reset with live := [(Din.diCardStatus 0, 0x2)], deck.inReset := false }
def w19_1 : State := { State.reset with live := [(Din.diCardStatus 0, 0x2), (Din.diCfg 0, 0x1)], deck.inReset := false }
def w19_2 : State := { State.reset with live := [(Din.diCardStatus 0, 0x2)], deck.inReset := false, deck.dins := [(0, { first := some 0, resolved := false })], a.time.acc := 0x100000000000000000, deck.trivet.rail0 := [(16, 1)] }
def w19_3 : State := { State.reset with live := [(Din.diCount 0, 0xFFFFFFFF)], deck.inReset := false }
def w19_4 : State := { State.reset with live := [(Din.diCardStatus 0, 0x2), (Din.diCfg 0, 0x1)], deck.inReset := false, deck.dins := [(0, { tRef := some 0 })] }
def w19_4n0 : State := { State.reset with live := [(Din.diCardStatus 0, 0x2), (Din.diCfg 0, 0x1)], deck.inReset := false, deck.dins := [(0, { tRef := some 0, edges := 1 })] }
def w19_4n1 : State := { State.reset with live := [(Din.diCardStatus 0, 0x2), (Din.diCfg 0, 0x1)], deck.inReset := false, deck.dins := [(0, { tRef := some 0, edges := 0 })], deck.timeState := 1, deck.timeCopy := 1000000000000 }
def w19_5 : State := { State.reset with deck.trivet.rail0 := [(16, 1)] }
def w19_6 : State := { State.reset with deck.trivet.rail0 := [(16, 1)] }
def w19_7 : State := { State.reset with deck.inReset := false }
def w19_8 : State := { State.reset with live := [(Din.diCfg 0, 0), (Din.diStatus 0, 0x400)], deck.inReset := false, deck.dins := [(0, { heldBy := some 0 })], deck.ticks := 1000000000000 }
def w19_9 : State := { State.reset with deck.inReset := false }
def w19_9n0 : State := { State.reset with deck.inReset := false }
theorem w19_0_ok : 0 < 16 ∧ 0 < 32 ∧ w19_0.deck.inReset = false ∧ w19_0.dinReady 0 = true ∧ w19_0.bt (Din.diCfg (32 * 0 + 0)) 0 = false ∧ w19_0.bt (Din.diStatus (32 * 0 + 0)) 10 = false ∧ [2].getD 0 0 = 2 ∧ (∀ p : DiPath, p = (w19_0.din (32 * 0 + 0)).p0 ∨ p = (w19_0.din (32 * 0 + 0)).p1 → w19_0.debounce (32 * 0 + 0) ≤ (if p.up = true ∧ 0 < p.run then p.run + 1 else 1)) := by
  refine ⟨?_, ?_, ?_, ?_, ?_, ?_, ?_, (by intro p hp; rcases hp with hp | hp <;> subst hp <;> decide +kernel)⟩ <;> decide +kernel
theorem w19_5_ok : MayCmd w19_5 Half.a (16 + 0 / 32) := by
  exact (by refine ⟨?_, ?_, ?_⟩ <;> decide +kernel)
theorem w19_6_ok : MayCmd w19_6 Half.a (16 + 0 / 32) := by
  exact (by refine ⟨?_, ?_, ?_⟩ <;> decide +kernel)
theorem wit_DigitalInputCommandsComplete :
    ((0 < 16 ∧ 0 < 32 ∧ w19_0.deck.inReset = false ∧ w19_0.dinReady 0 = true ∧ w19_0.bt (Din.diCfg (32 * 0 + 0)) 0 = false ∧ w19_0.bt (Din.diStatus (32 * 0 + 0)) 10 = false ∧ [2].getD 0 0 = 2 ∧ (∀ p : DiPath, p = (w19_0.din (32 * 0 + 0)).p0 ∨ p = (w19_0.din (32 * 0 + 0)).p1 → w19_0.debounce (32 * 0 + 0) ≤ (if p.up = true ∧ 0 < p.run then p.run + 1 else 1)))
    ∧ (0 < 512 ∧ w19_1.deck.inReset = false ∧ w19_1.dinReady (0 / 32) = true ∧ w19_1.bt (Din.diCfg 0) 0 = true ∧ w19_1.bt (Din.diStatus 0) 10 = false)
    ∧ (0 < 512 ∧ w19_2.deck.inReset = false ∧ w19_2.dinReady (0 / 32) = true ∧ (w19_2.din 0).first = some 0 ∧ (w19_2.din 0).resolved = false ∧ 0 + 100000000 ≤ w19_2.fieldNow (16 + 0 / 32) ∧ w19_2.bt (Din.diStatus 0) 5 = false)
    ∧ (0 < 512 ∧ w19_3.deck.inReset = false ∧ w19_3.rn (Din.diCount 0) = 2 ^ 32 - 1)
    ∧ (0 < 512 ∧ w19_4.deck.inReset = false ∧ w19_4.dinReady (0 / 32) = true ∧ w19_4.bt (Din.diCfg 0) 0 = true ∧ (w19_4.din 0).tRef = some 0 ∧ (w19_4.din 0).gateK ≠ some (w19_4.gateOf 0))
    ∧ (0 < 512 ∧ w19_4n0.deck.inReset = false ∧ w19_4n0.dinReady (0 / 32) = true ∧ w19_4n0.bt (Din.diCfg 0) 0 = true ∧ (w19_4n0.din 0).tRef = some 0 ∧ (w19_4n0.din 0).gateK ≠ some (w19_4n0.gateOf 0) ∧ 0 < (w19_4n0.din 0).edges)
    ∧ (0 < 512 ∧ w19_4n1.deck.inReset = false ∧ w19_4n1.dinReady (0 / 32) = true ∧ w19_4n1.bt (Din.diCfg 0) 0 = true ∧ (w19_4n1.din 0).tRef = some 0 ∧ (w19_4n1.din 0).gateK ≠ some (w19_4n1.gateOf 0) ∧ (w19_4n1.din 0).edges = 0 ∧ 0 + 2000000000 < w19_4n1.fieldNow (16 + 0 / 32))
    ∧ (MayCmd w19_5 Half.a (16 + 0 / 32)))
    ∧ ((MayCmd w19_6 Half.a (16 + 0 / 32))
    ∧ (0 < 128 ∧ w19_7.deck.inReset = false)
    ∧ (0 < 128 ∧ 0 / 32 = 0 / 8 ∧ w19_8.deck.inReset = false ∧ w19_8.bt (Din.diStatus 0) 10 = true ∧ (w19_8.din 0).heldBy = some 0 ∧ (w19_8.din 0).holdT + 62500 ≤ w19_8.deck.ticks)
    ∧ (0 < 128 ∧ w19_9.deck.inReset = false)
    ∧ (0 < 128 ∧ w19_9n0.deck.inReset = false ∧ w19_9n0.bt (Din.diCardStatus (0 / 8)) (8 + 0 % 8) = false)) := by
  refine ⟨⟨w19_0_ok, ?_, ?_, ?_, ?_, ?_, ?_, w19_5_ok⟩, ⟨w19_6_ok, ?_, ?_, ?_, ?_⟩⟩ <;> decide +kernel
/-! O20: DigitalOutputCommandsComplete -/
def w20_0 : State := { State.reset with deck.inReset := false, deck.trivet.rail0 := [(32, 1)] }
def w20_1 : State := { State.reset with live := [(Dout.grpStatus 0, 0x8)], deck.trivet.rail0 := [(32, 1)] }
def w20_2 : State := { State.reset with live := [(Dout.grpStatus 0, 0xA)], deck.trivet.rail0 := [(32, 1)] }
def w20_3 : State := { State.reset with live := [(Dout.grpStatus 0, 0x9)], deck.inReset := false, deck.ticks := 1000000000000 }
def w20_4 : State := { State.reset with live := [(Dout.grpStatus 0, 0x8)], deck.inReset := false, deck.douts := [(0, { hot := false })] }
def w20_5 : State := { State.reset with live := [(Dout.doCfg 0, 0x4)], deck.inReset := false, deck.douts := [(0, { hot := true })], deck.timeState := 1, deck.timeCopy := 1000000000000 }
def w20_6 : State := { State.reset with live := [(Dout.doStatus 0, 0x20)], deck.trivet.rail0 := [(32, 1)] }
def w20_7 : State := { State.reset with deck.trivet.rail0 := [(32, 1)] }
def w20_8 : State := { State.reset with deck.inReset := false }
def w20_9 : State := { State.reset with deck.inReset := false }
def w20_9n0 : State := { State.reset with live := [(Dout.doCfg 0, 0x8), (Dout.doStatus 0, 0x1)], deck.inReset := false }
def w20_10 : State := { State.reset with live := [(Dout.doCfg 0, 8)], deck.inReset := false }
def w20_11 : State := { State.reset with deck.inReset := false }
theorem w20_0_ok : 0 < 8 ∧ w20_0.deck.inReset = false ∧ MayCmd w20_0 Half.a (32 + 0) ∧ 0 = (0 : Word).toNat / 65536 % 65536 ∧ (Dout.outHi 0) = (if true then Dout.outHi 0 else Dout.outLo 0) := by
  refine ⟨?_, ?_, (by refine ⟨?_, ?_, ?_⟩ <;> decide +kernel), ?_, ?_⟩ <;> decide +kernel
theorem w20_1_ok : 0 < 8 ∧ MayCmd w20_1 Half.a (32 + 0) ∧ w20_1.bt (Dout.grpStatus 0) 3 = true := by
  refine ⟨?_, (by refine ⟨?_, ?_, ?_⟩ <;> decide +kernel), ?_⟩ <;> decide +kernel
theorem w20_2_ok : 0 < 8 ∧ MayCmd w20_2 Half.a (32 + 0) ∧ w20_2.bt (Dout.grpStatus 0) 3 = true ∧ w20_2.fd (Dout.grpStatus 0) 1 0 = 2 := by
  refine ⟨?_, (by refine ⟨?_, ?_, ?_⟩ <;> decide +kernel), ?_, ?_⟩ <;> decide +kernel
theorem w20_6_ok : 0 < 256 ∧ MayCmd w20_6 Half.a (32 + 0 / 32) ∧ w20_6.bt (Dout.doStatus 0) 5 = true := by
  refine ⟨?_, (by refine ⟨?_, ?_, ?_⟩ <;> decide +kernel), ?_⟩ <;> decide +kernel
theorem w20_7_ok : 0 < 256 ∧ MayCmd w20_7 Half.a (32 + 0 / 32) := by
  refine ⟨?_, (by refine ⟨?_, ?_, ?_⟩ <;> decide +kernel)⟩ <;> decide +kernel
theorem wit_DigitalOutputCommandsComplete :
    ((0 < 8 ∧ w20_0.deck.inReset = false ∧ MayCmd w20_0 Half.a (32 + 0) ∧ 0 = (0 : Word).toNat / 65536 % 65536 ∧ (Dout.outHi 0) = (if true then Dout.outHi 0 else Dout.outLo 0))
    ∧ (0 < 8 ∧ MayCmd w20_1 Half.a (32 + 0) ∧ w20_1.bt (Dout.grpStatus 0) 3 = true)
    ∧ (0 < 8 ∧ MayCmd w20_2 Half.a (32 + 0) ∧ w20_2.bt (Dout.grpStatus 0) 3 = true ∧ w20_2.fd (Dout.grpStatus 0) 1 0 = 2)
    ∧ (0 < 8 ∧ w20_3.deck.inReset = false ∧ w20_3.bt (Dout.grpStatus 0) 3 = true ∧ w20_3.fd (Dout.grpStatus 0) 1 0 = 1 ∧ (Map.get (fun _ => 0) w20_3.deck.wdFed 0 + w20_3.wdMs 0 * 245000 ≤ w20_3.deck.ticks))
    ∧ (0 < 256 ∧ w20_4.deck.inReset = false ∧ w20_4.bt (Dout.grpStatus (0 / 32)) 3 = true ∧ (w20_4.dout 0).hot = false)
    ∧ (0 < 256 ∧ w20_5.deck.inReset = false ∧ w20_5.bt (Dout.doCfg 0) 2 = true ∧ (w20_5.dout 0).hot = true ∧ w20_5.bt (Dout.doStatus 0) 5 = false ∧ (w20_5.dout 0).offs.headD 0 + 500000000 ≤ w20_5.fieldNow (32 + 0 / 32))
    ∧ (0 < 256 ∧ MayCmd w20_6 Half.a (32 + 0 / 32) ∧ w20_6.bt (Dout.doStatus 0) 5 = true)
    ∧ (0 < 256 ∧ MayCmd w20_7 Half.a (32 + 0 / 32)))
    ∧ ((0 < 8 ∧ w20_8.deck.inReset = false)
    ∧ (0 < 256 ∧ w20_9.deck.inReset = false)
    ∧ (0 < 256 ∧ w20_9n0.deck.inReset = false ∧ w20_9n0.bt (Dout.doCfg 0) 3 = true ∧ w20_9n0.bt (Dout.doStatus 0) 0 = true ∧ w20_9n0.bt (Dout.doStatus 0) 7 = false)
    ∧ (w20_10.deck.inReset = false ∧ w20_10.bt (Dout.doCfg 0) 3 = true ∧ w20_10.bt (Dout.doStatus 0) 0 = false ∧ w20_10.secLow 0 = false ∧ w20_10.bt (Dout.doStatus 0) 8 = false)
    ∧ (0 < 256 ∧ 0 < 3 ∧ w20_11.deck.inReset = false ∧ (0 = 0 ∨ w20_11.bt (Dout.doStatus 0) 0 = true))) := by
  refine ⟨⟨w20_0_ok, w20_1_ok, w20_2_ok, ?_, ?_, ?_, w20_6_ok, w20_7_ok⟩, ⟨?_, ?_, ?_, ?_, ?_⟩⟩ <;> decide +kernel
/-! O21: FieldCardCommandsComplete -/
def w21_0 : State := { State.reset with live := [(Anc.cardStatus 0, 0x1)], deck.inReset := false }
def w21_1 : State := { State.reset with live := [(Din.diCardStatus 0, 0x1)], deck.inReset := false }
def w21_2 : State := { State.reset with live := [(Dout.grpStatus 0, 0x4)], deck.inReset := false }
def w21_3 : State := { State.reset with deck.inReset := false }
def w21_4 : State := { State.reset with deck.inReset := false }
def w21_5 : State := { State.reset with deck.inReset := false }
def w21_6 : State := { State.reset with live := [(Anc.cardStatus 0, 0x1)], deck.inReset := false }
def w21_7 : State := { State.reset with live := [(Din.diCardStatus 0, 0x1)], deck.inReset := false }
def w21_8 : State := { State.reset with live := [(Dout.grpStatus 0, 0x4)], deck.inReset := false }
theorem wit_FieldCardCommandsComplete :
    (0 < 16 ∧ w21_0.deck.inReset = false ∧ w21_0.bt (Anc.cardStatus 0) 0 = true)
    ∧ (0 < 16 ∧ w21_1.deck.inReset = false ∧ w21_1.bt (Din.diCardStatus 0) 0 = true)
    ∧ (0 < 8 ∧ w21_2.deck.inReset = false ∧ w21_2.bt (Dout.grpStatus 0) 2 = true)
    ∧ (0 < 16 ∧ 0 < 8 ∧ 0 < 256 ∧ w21_3.deck.inReset = false ∧ w21_3.bt (Anc.cardStatus 0) 0 = false)
    ∧ (0 < 16 ∧ 0 < 8 ∧ 0 < 256 ∧ w21_4.deck.inReset = false ∧ w21_4.bt (Din.diCardStatus 0) 0 = false)
    ∧ (0 < 8 ∧ w21_5.deck.inReset = false ∧ w21_5.bt (Dout.grpStatus 0) 2 = false)
    ∧ (0 < 16 ∧ w21_6.deck.inReset = false ∧ w21_6.fd (Anc.cardStatus 0) 4 0 = 1)
    ∧ (0 < 16 ∧ w21_7.deck.inReset = false ∧ w21_7.fd (Din.diCardStatus 0) 4 0 = 1)
    ∧ (0 < 8 ∧ w21_8.deck.inReset = false ∧ w21_8.fd (Dout.grpStatus 0) 6 2 = 1) := by
  refine ⟨?_, ?_, ?_, ?_, ?_, ?_, ?_, ?_, ?_⟩ <;> decide +kernel
/-! O22: LidTermAndTargetCommandsComplete -/
def w22_0 : State := { State.reset with live := [(Lid.termCtrl 0, 1), (Lid.termRef 0 0, 0x0)], deck.inReset := false }
def w22_1 : State := { State.reset with live := [(Lid.termCtrl 0, 1), (Lid.termRef 0 0, 0)], deck.inReset := false, deck.lid.terms := [(0, { since0 := some 0 })], deck.ticks := 100000 }
def w22_2 : State := { State.reset with live := [(Lid.termCtrl 0, 1), (Lid.termRef 0 0, 0x7FF0000), (Lid.termRef 0 1, 0x7FF07FF), (Lid.termRef 0 2, 0x7FF07FF), (Lid.termRef 0 3, 0x7FF07FF), (Anc.cardStatus 0, 2)], deck.inReset := false, deck.chans := [(0, { lo := { isl := true } })] }
def w22_3 : State := { State.reset with live := [(Lid.termStatus 0, 0x8)], deck.inReset := false, deck.ticks := 1000000000000 }
def w22_4 : State := { State.reset with deck.inReset := false }
def w22_5 : State := { State.reset with deck.inReset := false }
def w22_6 : State := { State.reset with a.linkUp := true }
def w22_8 : State := { State.reset with deck.inReset := false, a.linkUp := false, deck.ticks := 50000 }
theorem wit_LidTermAndTargetCommandsComplete :
    (w22_0.deck.inReset = false ∧ 0 ∈ w22_0.usedTerms ∧ w22_0.termKind 0 = 1 ∧ (w22_0.termRefs 0).contains 0 = true ∧ w22_0.termDelay 0 = 0 ∧ (w22_0.termCond false 0 || w22_0.termCond true 0) = true)
    ∧ (0 < 512 ∧ w22_1.deck.inReset = false ∧ w22_1.termKind 0 = 1 ∧ w22_1.termCond false 0 = true ∧ (w22_1.term 0).since0 = some 0 ∧ 0 + w22_1.termDelay 0 ≤ w22_1.deck.ticks)
    ∧ (0 < 512 ∧ w22_2.deck.inReset = false ∧ w22_2.termCond false 0 ≠ w22_2.termCond true 0 ∧ w22_2.bt (Lid.termStatus 0) 3 = false)
    ∧ (0 < 512 ∧ w22_3.deck.inReset = false ∧ w22_3.termCond false 0 = w22_3.termCond true 0 ∧ w22_3.bt (Lid.termStatus 0) 3 = true ∧ (w22_3.term 0).railT + 25000000 ≤ w22_3.deck.ticks)
    ∧ (w22_4.deck.inReset = false ∧ 0 ≠ 1 ∧ w22_4.bt Lid.lidStatus 3 = false)
    ∧ (0 < 352 ∧ w22_5.deck.inReset = false ∧ (false ≠ w22_5.lidOff 0 ∨ false ≠ w22_5.lidOff 0) ∧ w22_5.mapBit (Lid.targetFaultMap 0) 0 = false)
    ∧ (w22_6.runs Half.a = true ∧ (w22_6.half Half.a).linkUp = true)
    ∧ (0 < 8 ∧ State.reset.runs Half.a = true)
    ∧ (w22_8.deck.inReset = false ∧ w22_8.deckHears Half.a = false ∧ (w22_8.half Half.a).lostT + 50000 ≤ w22_8.deck.ticks) := by
  refine ⟨?_, ?_, ?_, ?_, ?_, ?_, ?_, ?_, ?_⟩ <;> decide +kernel
/-! O23: LidResetAndConfigurationCommandsComplete -/
def w23_0 : State := { State.reset with live := [(Lid.termCtrl 0, 1), (Lid.termStatus 0, 2)], deck.inReset := false }
def w23_1 : State := { State.reset with live := [(Lid.termCtrl 0, 1), (Lid.termStatus 0, 0x103), (Lid.termRef 0 0, 0x7FF07FF), (Lid.termRef 0 1, 0x7FF07FF), (Lid.termRef 0 2, 0x7FF07FF), (Lid.termRef 0 3, 0x7FF07FF)], deck.inReset := false, deck.ticks := 130000000 }
def w23_2 : State := { State.reset with live := [(Lid.termCtrl 0, 1), (Lid.termStatus 0, 3)], deck.inReset := false, deck.ticks := 2500000000 }
def w23_3 : State := { State.reset with deck.inReset := false, marked := [lidUnit] }
def w23_4 : State := { State.reset with deck.trivet.rail0 := [(125, 1)] }
def w23_5 : State := { State.reset with deck.trivet.rail0 := [(125, 1)] }
def w23_6 : State := { State.reset with deck.inReset := false, deck.ticks := 1000000000000 }
theorem w23_4_ok : MayCmd w23_4 Half.a 125 ∧ w23_4.bt Lid.lidStatus 1 = false := by
  refine ⟨(by refine ⟨?_, ?_, ?_⟩ <;> decide +kernel), ?_⟩ <;> decide +kernel
theorem w23_5_ok : MayCmd w23_5 Half.a 125 := by
  exact (by refine ⟨?_, ?_, ?_⟩ <;> decide +kernel)
theorem wit_LidResetAndConfigurationCommandsComplete :
    (w23_0.deck.inReset = false ∧ w23_0.groupTerms 1 (2 ^ w23_0.fd Lid.panelGroup 3 0) 2 ≠ [])
    ∧ (w23_1.deck.inReset = false ∧ (((w23_1.groupTerms 1 (2 ^ w23_1.fd Lid.panelGroup 3 0) 3).filter (fun k => decide (w23_1.fd (Lid.termStatus k) 9 8 = 1) && decide ((w23_1.term k).armT + 125000000 ≤ w23_1.deck.ticks) && decide (w23_1.deck.ticks ≤ (w23_1.term k).armT + 2500000000))).any (fun k => !w23_1.termCond false k && !w23_1.termCond true k && !w23_1.bt (Lid.termStatus k) 3) = true) ∧ w23_1.bt Lid.lidStatus 3 = false ∧ ((w23_1.groupTerms 1 (2 ^ w23_1.fd Lid.panelGroup 3 0) 3).any (fun k => w23_1.bt (Lid.resetGrp (w23_1.fd (Lid.termCtrl k) 19 16)) 3 && w23_1.cmdOn k) = false))
    ∧ (0 < 512 ∧ w23_2.deck.inReset = false ∧ w23_2.lockState 0 = 3 ∧ (w23_2.term 0).armT + 2500000000 ≤ w23_2.deck.ticks)
    ∧ (w23_3.deck.inReset = false ∧ w23_3.marked.contains lidUnit = true ∧ w23_3.lidCanCommit = true)
    ∧ (MayCmd w23_4 Half.a 125 ∧ w23_4.bt Lid.lidStatus 1 = false)
    ∧ (MayCmd w23_5 Half.a 125)
    ∧ (w23_6.deck.inReset = false ∧ w23_6.deck.lid.blockT + 15000000000 ≤ w23_6.deck.ticks) := by
  refine ⟨?_, ?_, ?_, ?_, w23_4_ok, w23_5_ok, ?_⟩ <;> decide +kernel
/-! O24: PanelCommandsComplete -/
def w24_0 : State := { State.reset with deck.inReset := false, deck.panel.busy := false, deck.ctrlDown := false, deck.pwr.phase := 0, deck.panel.full := true }
def w24_1 : State := { State.reset with deck.inReset := false }
def w24_2 : State := { State.reset with deck.inReset := false, deck.panel.busy := true, deck.ticks := 1000000000000 }
def w24_3 : State := { State.reset with deck.inReset := false, deck.ticks := 1000000000000 }
def w24_4 : State := { State.reset with live := [(Pnl.pnlStatus, 1)], deck.inReset := false, deck.ticks := 1000000000000 }
def w24_5 : State := { State.reset with deck.trivet.rail0 := [(126, 1)] }
def w24_6 : State := { State.reset with deck.inReset := false, deck.ctrlDown := false }
def w24_7 : State := { State.reset with deck.pwr.phase := 1, deck.panel.finals := false, deck.panel.busy := false }
def w24_8 : State := { State.reset with deck.panel.busy := true }
def w24_9 : State := { State.reset with deck.panel.busy := false }
def w24_10 : State := { State.reset with deck.inReset := false }
def w24_11 : State := { State.reset with live := [(Pnl.keyStatus 0, 2)], deck.inReset := false }
def w24_12 : State := { State.reset with live := [(Pnl.keyStatus 1, 1)], deck.inReset := false }
def w24_13 : State := { State.reset with deck.inReset := false }
def w24_14 : State := { State.reset with live := [(Pnl.keyStatus 0, 1)], deck.inReset := false, deck.ticks := 1000000000000 }
def w24_15 : State := { State.reset with deck.inReset := false, deck.ticks := 1000000000000 }
theorem w24_5_ok : MayCmd w24_5 Half.a 126 := by
  exact (by refine ⟨?_, ?_, ?_⟩ <;> decide +kernel)
theorem wit_PanelCommandsComplete :
    ((w24_0.deck.inReset = false ∧ w24_0.deck.panel.busy = false ∧ w24_0.deck.ctrlDown = false ∧ w24_0.deck.pwr.phase = 0 ∧ w24_0.deck.panel.full = true)
    ∧ (w24_1.deck.inReset = false)
    ∧ (w24_2.deck.inReset = false ∧ w24_2.deck.panel.busy = true ∧ w24_2.deck.panel.startT + (if w24_2.bt Pnl.pnlStatus 9 then 120000000 else 65000000) ≤ w24_2.deck.ticks)
    ∧ (w24_3.deck.inReset = false ∧ w24_3.deck.panel.fullT + 150000000000 ≤ w24_3.deck.ticks)
    ∧ (w24_4.deck.inReset = false ∧ w24_4.deck.panel.pressT + clampNat 10 255 (w24_4.fd Pnl.pnlCfg 15 8) * 250000000 ≤ w24_4.deck.ticks ∧ w24_4.pageNow ≠ (0, 0))
    ∧ (MayCmd w24_5 Half.a 126)
    ∧ (w24_6.deck.inReset = false ∧ w24_6.deck.ctrlDown = false ∧ (w24_6.deck.panel.prepared = none ∨ w24_6.deck.panel.renewT + 250000000 ≤ w24_6.deck.ticks))
    ∧ (w24_7.deck.pwr.phase = 1 ∧ w24_7.deck.panel.finals = false ∧ w24_7.deck.panel.busy = false ∧ w24_7.bt Pnl.pnlStatus 12 = false ∧ w24_7.finalShown = false))
    ∧ ((w24_8.deck.panel.busy = true)
    ∧ (w24_9.deck.panel.busy = false ∧ (3 = 0 → w24_9.finalShown = true))
    ∧ (w24_10.deck.inReset = false ∧ (∀ j, j < 4 → w24_10.keySt j = 0) ∧ w24_10.keyOn ≤ (200 : Int))
    ∧ (0 < 4 ∧ w24_11.deck.inReset = false ∧ (w24_11.keySt 0 = 2 ∨ w24_11.keySt 0 = 3) ∧ 0 < w24_11.keyOff)
    ∧ (w24_12.deck.inReset = false ∧ w24_12.keySt 1 = 1 ∧ 0 < w24_12.keyOff)
    ∧ (0 < 4 ∧ w24_13.deck.inReset = false ∧ w24_13.keySt 0 = 0 ∧ w24_13.keyOn ≤ (200 : Int) ∧ (Map.get (fun _ => 0) w24_13.deck.panel.since 0 = 0) ∧ (Map.get (fun _ => 0) w24_13.deck.panel.baseT 0 = 0)))
    ∧ ((0 < 4 ∧ w24_14.deck.inReset = false ∧ w24_14.keySt 0 = 1 ∧ (Map.get (fun _ => 0) w24_14.deck.panel.since 0 + 15000000000 ≤ w24_14.deck.ticks))
    ∧ (0 < 4 ∧ w24_15.deck.inReset = false ∧ w24_15.keySt 0 = 0 ∧ (Map.get (fun _ => 0) w24_15.deck.panel.baseT 0 + 25000000 ≤ w24_15.deck.ticks))) := by
  refine ⟨⟨?_, ?_, ?_, ?_, ?_, w24_5_ok, ?_, ?_⟩, ⟨?_, ?_, ?_, ?_, ?_, ?_⟩, ⟨?_, ?_⟩⟩ <;> decide +kernel
/-! O25: PlacementAndMigrationCommandsComplete -/
def w25_0 : State := { State.reset with live := [(loopMapAt Half.a 0, 0x20000), (loopMapAt Half.a 1, 0x20001), (slotBase Half.a 1, 1), (Slot.status Half.a 0, 1), (Slot.status Half.a 1, 1), (Mod.plcBalCfg Half.a, 1)], a.place.lost := [] }
def w25_2 : State := { State.reset with a.place.moves := [] }
def w25_4 : State := { State.reset with a.place.moves := [(⟨0, 0, 8, 2, false, 0⟩ : Move)] }
def w25_5 : State := { State.reset with a.snap.reached := false, a.place.moves := [(⟨0, 0, 8, 2, true, 0⟩ : Move)] }
def w25_5n0 : State := { State.reset with a.snap.reached := false, a.place.lost := [], a.place.moves := [(⟨0, 0, 8, 2, true, 0⟩ : Move)] }
def w25_6 : State := { State.reset with live := [(Slot.status Half.a 8, 3)], a.place.lost := [], a.place.moves := [(⟨0, 0, 8, 2, true, 16⟩ : Move)] }
def w25_7n0 : State := { State.reset with live := [(Mod.plcBalCfg Half.a, 0)] }
def w25_7n1 : State := { State.reset with live := [(loopMapAt Half.a 0, 0x20000), (loopMapAt Half.a 1, 0x20001), (slotBase Half.a 1, 1), (Slot.status Half.a 0, 1), (Slot.status Half.a 1, 1), (Mod.plcBalCfg Half.a, 1), (Mod.plcPrepRisk Half.a 0, 1), (Mod.plcOos Half.a 0, 0xFFFFFFFC), (Mod.plcOos Half.a 1, 0xFFFFFFFF), (Mod.plcOos Half.a 2, 0xFFFFFFFF), (Mod.plcOos Half.a 3, 0xFFFFFFFF), (Mod.plcOos Half.a 4, 0xFFFFFFFF), (Mod.plcOos Half.a 5, 0xFFFFFFFF), (Mod.plcOos Half.a 6, 0xFFFFFFFF), (Mod.plcOos Half.a 7, 0xFFFFFFFF), (Mod.plcOos Half.a 8, 0xFFFFFFFF), (Mod.plcOos Half.a 9, 0xFFFFFFFF), (Mod.plcOos Half.a 10, 0xFFFFFFFF), (Mod.plcOos Half.a 11, 0xFFFFFFFF), (Mod.plcOos Half.a 12, 0xFFFFFFFF), (Mod.plcOos Half.a 13, 0xFFFFFFFF), (Mod.plcOos Half.a 14, 0xFFFFFFFF), (Mod.plcOos Half.a 15, 0xFFFFFFFF)] }
def w25_7n2 : State := { State.reset with live := [(loopMapAt Half.a 0, 0x20000), (loopMapAt Half.a 1, 0x20001), (slotBase Half.a 1, 1), (Slot.status Half.a 0, 1), (Slot.status Half.a 1, 1), (Mod.plcBalCfg Half.a, 1), (Mod.plcBalLevels Half.a, 0x10003), (slotBase Half.a 0 + 8, 100), (slotBase Half.a 1 + 8, 100), (Mod.plcOos Half.a 0, 0xFFFFFFFC), (Mod.plcOos Half.a 1, 0xFFFFFFFF), (Mod.plcOos Half.a 2, 0xFFFFFFFF), (Mod.plcOos Half.a 3, 0xFFFFFFFF), (Mod.plcOos Half.a 4, 0xFFFFFFFF), (Mod.plcOos Half.a 5, 0xFFFFFFFF), (Mod.plcOos Half.a 6, 0xFFFFFFFF), (Mod.plcOos Half.a 7, 0xFFFFFFFF), (Mod.plcOos Half.a 8, 0xFFFFFFFF), (Mod.plcOos Half.a 9, 0xFFFFFFFF), (Mod.plcOos Half.a 10, 0xFFFFFFFF), (Mod.plcOos Half.a 11, 0xFFFFFFFF), (Mod.plcOos Half.a 12, 0xFFFFFFFF), (Mod.plcOos Half.a 13, 0xFFFFFFFF), (Mod.plcOos Half.a 14, 0xFFFFFFFF), (Mod.plcOos Half.a 15, 0xFFFFFFFF)] }
def w25_8 : State := { State.reset with a.place.lost := [(⟨0, 0, some 8, true, 1, false, true, true, none, false, 0, none, false, false, none⟩ : LostCopy)] }
theorem w25_0_ok : 0 < 4096 ∧ 1 < 512 ∧ w25_0.runs Half.a = true ∧ w25_0.bt (Mod.plcCmdStatus Half.a) 0 = false ∧ w25_0.moveTarget Half.a 0 1 = .ok 8 ∧ w25_0.slotOf Half.a 0 = some 0 ∧ (w25_0.half Half.a).place.lost = [] := by
  refine ⟨?_, ?_, ?_, ?_, exOk (by decide +kernel), ?_, ?_⟩ <;> decide +kernel
theorem w25_1_ok : State.reset.runs Half.a = true ∧ State.reset.bt (Mod.plcCmdStatus Half.a) 0 = false ∧ State.reset.moveTarget Half.a 0 0 = .error 6 := by
  refine ⟨?_, ?_, exErr (by decide +kernel)⟩ <;> decide +kernel
theorem w25_7n2_ok : w25_7n2.runs Half.a = true ∧ (w25_7n2.balBegin Half.a).bt (Mod.plcBalCfg Half.a) 0 = true ∧ ((w25_7n2.balBegin Half.a).half Half.a).snap.reached = false ∧ (w25_7n2.balBegin Half.a).balRisk Half.a = none ∧ ((w25_7n2.balBegin Half.a).balEcc Half.a).2 = false ∧ (((w25_7n2.balBegin Half.a).balEcc Half.a).1.balLevel Half.a false).isSome = true := by
  refine ⟨?_, ?_, ?_, riskNone (by decide +kernel) (by decide +kernel), ?_, ?_⟩ <;> decide +kernel
theorem wit_PlacementAndMigrationCommandsComplete :
    ((0 < 4096 ∧ 1 < 512 ∧ w25_0.runs Half.a = true ∧ w25_0.bt (Mod.plcCmdStatus Half.a) 0 = false ∧ w25_0.moveTarget Half.a 0 1 = .ok 8 ∧ w25_0.slotOf Half.a 0 = some 0 ∧ (w25_0.half Half.a).place.lost = [])
    ∧ (State.reset.runs Half.a = true ∧ State.reset.bt (Mod.plcCmdStatus Half.a) 0 = false ∧ State.reset.moveTarget Half.a 0 0 = .error 6)
    ∧ (0 < 512 ∧ w25_2.runs Half.a = true ∧ w25_2.bt (Mod.plcCmdStatus Half.a) 0 = false ∧ w25_2.mapBit (Mod.plcOos Half.a 0) 0 = false ∧ (∀ i, i < 8 → w25_2.slotState Half.a (8 * 0 + i) ≠ 1 ∧ w25_2.slotState Half.a (8 * 0 + i) ≠ 2) ∧ (w25_2.half Half.a).place.moves = [])
    ∧ (0 < 512 ∧ State.reset.runs Half.a = true ∧ State.reset.bt (Mod.plcCmdStatus Half.a) 0 = false)
    ∧ (w25_4.runs Half.a = true ∧ w25_4.moveOf Half.a 0 = some (⟨0, 0, 8, 2, false, 0⟩ : Move) ∧ (⟨0, 0, 8, 2, false, 0⟩ : Move).copied = false ∧ (⟨0, 0, 8, 2, false, 0⟩ : Move).src < 4096 ∧ (⟨0, 0, 8, 2, false, 0⟩ : Move).dst < 4096 ∧ (⟨0, 0, 8, 2, false, 0⟩ : Move).src ≠ (⟨0, 0, 8, 2, false, 0⟩ : Move).dst ∧ ((⟨0, 0, 8, 2, false, 0⟩ : Move).cause = 1 → w25_4.heldLoop Half.a 0 = false))
    ∧ (w25_5.runs Half.a = true ∧ w25_5.moveOf Half.a 0 = some (⟨0, 0, 8, 2, true, 0⟩ : Move) ∧ (⟨0, 0, 8, 2, true, 0⟩ : Move).copied = true ∧ (⟨0, 0, 8, 2, true, 0⟩ : Move).tries < 16 ∧ (w25_5.half Half.a).snap.reached = false ∧ ((⟨0, 0, 8, 2, true, 0⟩ : Move).cause = 0 → w25_5.regionMarked Half.a (2 + 0) = false))
    ∧ (w25_5n0.runs Half.a = true ∧ w25_5n0.moveOf Half.a 0 = some (⟨0, 0, 8, 2, true, 0⟩ : Move) ∧ (⟨0, 0, 8, 2, true, 0⟩ : Move).copied = true ∧ (⟨0, 0, 8, 2, true, 0⟩ : Move).tries < 16 ∧ (w25_5n0.half Half.a).snap.reached = false ∧ ((⟨0, 0, 8, 2, true, 0⟩ : Move).cause = 0 → w25_5n0.regionMarked Half.a (2 + 0) = false) ∧ 0 < 4096 ∧ (⟨0, 0, 8, 2, true, 0⟩ : Move).src < 4096 ∧ (⟨0, 0, 8, 2, true, 0⟩ : Move).dst < 4096 ∧ (⟨0, 0, 8, 2, true, 0⟩ : Move).src ≠ (⟨0, 0, 8, 2, true, 0⟩ : Move).dst ∧ w25_5n0.slotMarked Half.a (⟨0, 0, 8, 2, true, 0⟩ : Move).src = false ∧ (w25_5n0.run Half.a (⟨0, 0, 8, 2, true, 0⟩ : Move).src).packets = [] ∧ (w25_5n0.half Half.a).place.lost = [])
    ∧ (w25_6.runs Half.a = true ∧ w25_6.moveOf Half.a 0 = some (⟨0, 0, 8, 2, true, 16⟩ : Move) ∧ (⟨0, 0, 8, 2, true, 16⟩ : Move).copied = true ∧ (w25_6.half Half.a).place.lost = [] ∧ (⟨0, 0, 8, 2, true, 16⟩ : Move).dst < 4096 ∧ w25_6.slotState Half.a (⟨0, 0, 8, 2, true, 16⟩ : Move).dst = 3 ∧ 16 ≤ (⟨0, 0, 8, 2, true, 16⟩ : Move).tries))
    ∧ ((State.reset.runs Half.a = true ∧ State.reset.balDue Half.a = true ∧ (State.reset.balBegin Half.a) = State.reset.balBegin Half.a)
    ∧ (w25_7n0.runs Half.a = true ∧ w25_7n0.balDue Half.a = true ∧ (w25_7n0.balBegin Half.a) = w25_7n0.balBegin Half.a ∧ ((w25_7n0.balBegin Half.a).bt (Mod.plcBalCfg Half.a) 0 = false ∨ ((w25_7n0.balBegin Half.a).half Half.a).snap.reached = true))
    ∧ (w25_7n1.runs Half.a = true ∧ (w25_7n1.balBegin Half.a).bt (Mod.plcBalCfg Half.a) 0 = true ∧ ((w25_7n1.balBegin Half.a).half Half.a).snap.reached = false ∧ ((w25_7n1.balBegin Half.a).balRisk Half.a).isSome = true)
    ∧ (w25_7n2.runs Half.a = true ∧ (w25_7n2.balBegin Half.a).bt (Mod.plcBalCfg Half.a) 0 = true ∧ ((w25_7n2.balBegin Half.a).half Half.a).snap.reached = false ∧ (w25_7n2.balBegin Half.a).balRisk Half.a = none ∧ ((w25_7n2.balBegin Half.a).balEcc Half.a).2 = false ∧ (((w25_7n2.balBegin Half.a).balEcc Half.a).1.balLevel Half.a false).isSome = true)
    ∧ (0 < 4096 ∧ w25_8.runs Half.a = true ∧ (w25_8.half Half.a).place.lost = [(⟨0, 0, some 8, true, 1, false, true, true, none, false, 0, none, false, false, none⟩ : LostCopy)] ∧ (⟨0, 0, some 8, true, 1, false, true, true, none, false, 0, none, false, false, none⟩ : LostCopy).loop = 0 ∧ (⟨0, 0, some 8, true, 1, false, true, true, none, false, 0, none, false, false, none⟩ : LostCopy).dst = some 8 ∧ ((⟨0, 0, some 8, true, 1, false, true, true, none, false, 0, none, false, false, none⟩ : LostCopy).engine = true → (⟨0, 0, some 8, true, 1, false, true, true, none, false, 0, none, false, false, none⟩ : LostCopy).detect + 40000 ≤ w25_8.now Half.a))) := by
  refine ⟨⟨w25_0_ok, w25_1_ok, ?_, ?_, ?_, ?_, ?_, ?_⟩, ⟨?_, ?_, ?_, w25_7n2_ok, ?_⟩⟩ <;> decide +kernel
/-! O26: SlabFaultAndSnapshotCommandsComplete -/
def w26_2 : State := { State.reset with live := [(Mod.slabVfStatus Half.a 0, 0x3200)], a.place.moves := [], a.place.lost := [] }
def w26_3 : State := { State.reset with a.place.moves := [], a.place.lost := [] }
def w26_4 : State := { State.reset with a.place.moves := [], a.place.lost := [] }
def w26_5 : State := { State.reset with a.place.moves := [], a.place.lost := [] }
def w26_6 : State := { State.reset with a.place.moves := [], a.place.lost := [] }
def w26_8 : State := { State.reset with a.snap.t := some 0, a.snap.reached := false }
def w26_9 : State := { State.reset with a.snap.reached := true }
theorem wit_SlabFaultAndSnapshotCommandsComplete :
    ((0 < 4 ∧ State.reset.runs Half.a = true)
    ∧ (0 < 4 ∧ State.reset.runs Half.a = true)
    ∧ (0 < 4 ∧ w26_2.runs Half.a = true ∧ w26_2.fd (Mod.slabVfStatus Half.a 0) 4 0 = 0 ∧ w26_2.fd (Mod.slabVfStatus Half.a 0) 15 8 = 50 ∧ (w26_2.half Half.a).place.moves = [] ∧ (w26_2.half Half.a).place.lost = [])
    ∧ (0 < 4 ∧ 0 < 1 ∧ 1 < 8 ∧ w26_3.runs Half.a = true ∧ (w26_3.half Half.a).place.moves = [] ∧ (w26_3.half Half.a).place.lost = [])
    ∧ (0 < 512 ∧ w26_4.runs Half.a = true ∧ w26_4.mapBit (Mod.plcOos Half.a 0) 0 = false ∧ (w26_4.half Half.a).place.moves = [] ∧ (w26_4.half Half.a).place.lost = [])
    ∧ (0 < 512 ∧ w26_5.runs Half.a = true ∧ w26_5.mapBit (Mod.plcOos Half.a 0) 0 = false ∧ (w26_5.half Half.a).place.moves = [] ∧ (w26_5.half Half.a).place.lost = [])
    ∧ (0 < 32 ∧ w26_6.runs Half.a = true ∧ (w26_6.half Half.a).place.moves = [] ∧ (w26_6.half Half.a).place.lost = [])
    ∧ (0 < 512 ∧ 0 / 128 = 0 ∧ 1 ≠ 0 ∧ State.reset.runs Half.a = true ∧ State.reset.mapBit (Mod.plcOos Half.a 0) 0 = false))
    ∧ ((w26_8.runs Half.a = true ∧ (w26_8.half Half.a).snap.t = some 0 ∧ (w26_8.half Half.a).snap.reached = false)
    ∧ (w26_9.runs Half.a = true ∧ (w26_9.half Half.a).snap.reached = true)) := by
  refine ⟨⟨?_, ?_, ?_, ?_, ?_, ?_, ?_, ?_⟩, ⟨?_, ?_⟩⟩ <;> decide +kernel
/-! O27: CanCommandsComplete -/
def w27_0 : State := { State.reset with live := [(Can.objCfg Half.a 0 0, 0x3)], deck.trivet.rail0 := [(108, 1)] }
def w27_1 : State := { State.reset with live := [(Can.objCfg Half.a 0 0, 0x3)] }
def w27_2 : State := { State.reset with live := [(Can.objPeriod Half.a 0 0, 10)] }
def w27_3 : State := { State.reset with a.can := [(0, { pend := [(0, (⟨0, false, false, 0, false, false, []⟩ : CanBuf))] })] }
def w27_4 : State := { State.reset with live := [(Can.objCfg Half.a 0 0, 1), (Can.canStatus Half.a 0, 7)], deck.inReset := false }
def w27_5 : State := { State.reset with live := [(Can.canStatus Half.a 0, 0x3)], deck.inReset := false, deck.trivet.rail0 := [(108, 1)], a.can := [(0, { cfg := 1, pend := [(0, (⟨0, false, false, 0, false, false, []⟩ : CanBuf))] })] }
def w27_6 : State := { State.reset with live := [(Can.canStatus Half.a 0, 0x3)], a.can := [(0, { sending := some (0, (⟨0, false, false, 0, false, false, []⟩ : CanBuf), true) })] }
def w27_6n0 : State := { State.reset with live := [(Can.canStatus Half.a 0, 0x3), (Can.objCfg Half.a 0 0, 0x1)], a.can := [(0, { sending := some (0, (⟨0, false, false, 0, false, false, []⟩ : CanBuf), true) })] }
def w27_7n0 : State := { State.reset with live := [(Can.canStatus Half.a 0, 0x7)] }
def w27_7n1 : State := { State.reset with live := [(Can.canStatus Half.a 0, 0x3)], a.can := [(0, { cfg := 1 })] }
def w27_8 : State := { State.reset with live := [(Can.canStatus Half.a 0, 0x3)] }
def w27_10 : State := { State.reset with live := [(Can.canStatus Half.a 0, 0x5)] }
def w27_10n0 : State := { State.reset with live := [(Can.canStatus Half.a 0, 0x5), (Can.canCfg Half.a 0, 0x20)] }
def w27_11 : State := { State.reset with live := [(Can.canStatus Half.a 0, 0x6)], a.time.acc := 1408000 * 2 ^ 32 }
def w27_12 : State := { State.reset with live := [(Can.canStatus Half.a 0, 0x2)] }
def w27_13 : State := { State.reset with live := [(Can.canStatus Half.a 0, 0x20)] }
def w27_15 : State := { State.reset with deck.inReset := false, deck.trivet.rail0 := [(108, 1)], mirrorUp := true }
theorem wit_CanCommandsComplete :
    ((0 < 16 ∧ 0 < 2048 ∧ w27_0.runs Half.a = true ∧ w27_0.bt (Can.objCfg Half.a 0 0) 0 = true ∧ w27_0.bt (Can.objCfg Half.a 0 0) 1 = true ∧ w27_0.canOwned Half.a 0 = true ∧ (w27_0.can Half.a 0).mode ≠ 2 ∧ w27_0.bt (Can.objCfg Half.a 0 0) 3 = false ∧ w27_0.fd (Can.objCfg Half.a 0 0) 11 8 ≤ 8 ∧ (¬(w27_0.bt (Can.objCfg Half.a 0 0) 5 = true ∧ (w27_0.canState Half.a 0 = 5 ∨ w27_0.canState Half.a 0 = 6))) ∧ (w27_0.can Half.a 0).sends 0 = false)
    ∧ (0 < 16 ∧ 0 < 2048 ∧ w27_1.runs Half.a = true ∧ w27_1.bt (Can.objCfg Half.a 0 0) 0 = true ∧ w27_1.bt (Can.objCfg Half.a 0 0) 1 = true ∧ w27_1.canOwned Half.a 0 = false)
    ∧ (w27_2.runs Half.a = true ∧ w27_2.canInstant Half.a 0 0 = some 0 ∧ (Map.get (fun _ => 0) (w27_2.can Half.a 0).perT 0 ≤ 0))
    ∧ (w27_3.runs Half.a = true ∧ (w27_3.can Half.a 0).sends 0 = false ∧ ((w27_3.can Half.a 0).pend.find? (fun x => decide (x.1 = 0)) = some (0, (⟨0, false, false, 0, false, false, []⟩ : CanBuf))))
    ∧ (w27_4.deck.inReset = false ∧ w27_4.deckHears Half.a = true ∧ w27_4.canState Half.a 0 = 7 ∧ (⟨false, false, 0, false, false, false, 0, []⟩ : CanFrame).fdf = false ∧ (⟨false, false, 0, false, false, false, 0, []⟩ : CanFrame).rtr = false ∧ ((w27_4.canObjs Half.a 0).find? (fun j => !w27_4.bt (Can.objCfg Half.a 0 j) 1 && w27_4.canIs Half.a 0 j (⟨false, false, 0, false, false, false, 0, []⟩ : CanFrame).ide (⟨false, false, 0, false, false, false, 0, []⟩ : CanFrame).id) = some 0))
    ∧ (0 < 16 ∧ 0 < 2048 ∧ w27_5.deck.inReset = false ∧ w27_5.owner (108 + 0) = some Half.a ∧ w27_5.deckHears Half.a = true ∧ (w27_5.canState Half.a 0 = 3 ∨ w27_5.canState Half.a 0 = 4) ∧ (w27_5.can Half.a 0).mode = 1 ∧ (w27_5.can Half.a 0).sending = none ∧ (w27_5.can Half.a.other 0).sending = none ∧ canFirst (w27_5.can Half.a 0).pend = some (0, (⟨0, false, false, 0, false, false, []⟩ : CanBuf)))
    ∧ (0 < 16 ∧ 0 < 2048 ∧ w27_6.runs Half.a = true ∧ (w27_6.can Half.a 0).sending = some (0, (⟨0, false, false, 0, false, false, []⟩ : CanBuf), true) ∧ (w27_6.can Half.a 0).held = none ∧ (w27_6.can Half.a 0).leaving = false ∧ (⟨0, false, false, 0, false, false, []⟩ : CanBuf).fdf = false ∧ w27_6.canState Half.a 0 = 3 ∧ w27_6.tec Half.a 0 = 0 ∧ w27_6.recCnt Half.a 0 < 96)
    ∧ (0 < 16 ∧ 0 < 2048 ∧ w27_6n0.runs Half.a = true ∧ (w27_6n0.can Half.a 0).sending = some (0, (⟨0, false, false, 0, false, false, []⟩ : CanBuf), true) ∧ (w27_6n0.can Half.a 0).held = none ∧ (w27_6n0.can Half.a 0).leaving = false ∧ (⟨0, false, false, 0, false, false, []⟩ : CanBuf).fdf = false ∧ w27_6n0.canState Half.a 0 = 3 ∧ w27_6n0.tec Half.a 0 = 0 ∧ w27_6n0.recCnt Half.a 0 < 96 ∧ (⟨0, false, false, 0, false, false, []⟩ : CanBuf).oneShot = false ∧ w27_6n0.bt (Can.objCfg Half.a 0 0) 0 = true))
    ∧ ((0 < 16 ∧ State.reset.runs Half.a = true)
    ∧ (0 < 16 ∧ w27_7n0.runs Half.a = true ∧ w27_7n0.canState Half.a 0 = 7)
    ∧ (0 < 16 ∧ w27_7n1.runs Half.a = true ∧ w27_7n1.canState Half.a 0 = 3 ∧ (w27_7n1.can Half.a 0).mode = 1 ∧ w27_7n1.tec Half.a 0 < 96 ∧ w27_7n1.recCnt Half.a 0 < 80)
    ∧ (0 < 16 ∧ w27_8.runs Half.a = true ∧ (w27_8.can Half.a 0).fdEn = false ∧ w27_8.canState Half.a 0 = 3)
    ∧ (State.reset.runs Half.a = true)
    ∧ (w27_10.runs Half.a = true ∧ w27_10.canState Half.a 0 = 5))
    ∧ ((w27_10n0.runs Half.a = true ∧ w27_10n0.canState Half.a 0 = 5 ∧ w27_10n0.bt (Can.canCfg Half.a 0) 5 = true ∧ (w27_10n0.can Half.a 0).offSince + min (w27_10n0.fd (Can.recovCfg Half.a 0) 9 0) 1000 * 1000000 ≤ w27_10n0.now Half.a)
    ∧ (0 < 16 ∧ w27_11.runs Half.a = true ∧ w27_11.canState Half.a 0 = 6 ∧ w27_11.canRecDone Half.a 0 = true)
    ∧ (w27_12.runs Half.a = true ∧ w27_12.canState Half.a 0 = 2)
    ∧ (0 < 16 ∧ w27_13.runs Half.a = true ∧ w27_13.bt (Can.canStatus Half.a 0) 5 = true)
    ∧ (0 < 16 ∧ State.reset.runs Half.a = true)
    ∧ (0 < 16 ∧ w27_15.deck.inReset = false ∧ w27_15.owner (108 + 0) = some Half.a ∧ w27_15.mirrorUp = true ∧ w27_15.runs Half.a = true ∧ w27_15.runs Half.a.other = true)
    ∧ (0 < 16 ∧ 0 < 2048 ∧ State.reset.runs Half.a = true ∧ State.reset.bt (Can.objCfg Half.a 0 0) 0 = false ∧ bit (1 : Word) 0 = true ∧ ((State.reset.canObjs Half.a 0).any (fun j => decide (j ≠ 0) && State.reset.canIs Half.a 0 j (bit (1 : Word) 2) (canId (bit (1 : Word) 2) (State.reset.rg (Can.objId Half.a 0 0)))) = false))) := by
  refine ⟨⟨?_, ?_, ?_, ?_, ?_, ?_, ?_, ?_⟩, ⟨?_, ?_, ?_, ?_, ?_, ?_⟩, ⟨?_, ?_, ?_, ?_, ?_, ?_, ?_⟩⟩ <;> decide +kernel
/-! O28: DriveLinkCommandsComplete -/
def w28_0 : State := { State.reset with live := [(Drv.linkCfg 0, 0x1)], deck.inReset := false }
def w28_1 : State := { State.reset with live := [(Drv.linkCfg 0, 1)], a.linkUp := true, a.drvTx := (⟨0, 0, 0, 0, 0, false⟩ : CmdWord) :: [], deck.trivet.rail0 := [(40, 1)], deck.route := [(0x400, 0x80000000)] }
def w28_2 : State := { State.reset with live := [(Drv.linkCfg 0, 0x3)], deck.inReset := false, deck.links := [(0, { synced := true })], deck.timeState := 1, deck.timeCopy := 1000000 }
def w28_3 : State := { State.reset with live := [(Drv.linkStatus 0, 0x2)], deck.inReset := false }
def w28_4 : State := { State.reset with live := [(Drv.linkStatus 0, 0x2)], deck.inReset := false }
def w28_5 : State := { State.reset with live := [(Drv.linkStatus 0, 0x2)], deck.inReset := false }
def w28_5n0 : State := { State.reset with live := [(Drv.linkStatus 0, 0x2)], deck.inReset := false }
def w28_5n1 : State := { State.reset with live := [(Drv.linkStatus 0, 0x2)], deck.inReset := false }
def w28_6 : State := { State.reset with live := [(Drv.linkStatus 0, 0x1)], deck.inReset := false }
def w28_7 : State := { State.reset with live := [(Drv.linkStatus 0, 0x2)], deck.inReset := false }
def w28_8 : State := { State.reset with deck.inReset := false }
def w28_8n0 : State := { State.reset with live := [(Drv.linkStatus 0, 0x4)], deck.inReset := false }
def w28_9 : State := { State.reset with deck.inReset := false }
def w28_9n0 : State := { State.reset with deck.inReset := false }
def w28_10 : State := { State.reset with deck.trivet.rail0 := [(40, 1)] }
def w28_11 : State := { State.reset with live := [(Drv.linkStatus 0, 0x2)], deck.trivet.rail0 := [(40, 1)] }
theorem w28_10_ok : 0 < 64 ∧ MayCmd w28_10 Half.a (40 + 0) := by
  refine ⟨?_, (by refine ⟨?_, ?_, ?_⟩ <;> decide +kernel)⟩ <;> decide +kernel
theorem w28_11_ok : 0 < 64 ∧ MayCmd w28_11 Half.a (40 + 0) ∧ w28_11.linkState 0 = 2 := by
  refine ⟨?_, (by refine ⟨?_, ?_, ?_⟩ <;> decide +kernel), ?_⟩ <;> decide +kernel
theorem wit_DriveLinkCommandsComplete :
    ((0 < 64 ∧ w28_0.deck.inReset = false ∧ w28_0.bt (Drv.linkCfg 0) 0 = true ∧ ((w28_0.lrun 0).synced = true → (w28_0.lrun 0).syncK ≠ w28_0.linkBoundary 0))
    ∧ (w28_1.runs Half.a = true ∧ (w28_1.half Half.a).linkUp = true ∧ w28_1.owns Half.a (40 + (⟨0, 0, 0, 0, 0, false⟩ : CmdWord).idx) = true ∧ (w28_1.half Half.a).drvTx = (⟨0, 0, 0, 0, 0, false⟩ : CmdWord) :: [] ∧ (⟨0, 0, 0, 0, 0, false⟩ : CmdWord).idx < 64 ∧ (⟨0, 0, 0, 0, 0, false⟩ : CmdWord).sel < 4 ∧ w28_1.bt (Drv.linkCfg (⟨0, 0, 0, 0, 0, false⟩ : CmdWord).idx) 0 = true ∧ w28_1.takes (0x400 + 16 * (⟨0, 0, 0, 0, 0, false⟩ : CmdWord).idx + 4 * (⟨0, 0, 0, 0, 0, false⟩ : CmdWord).sel) (⟨0, 0, 0, 0, 0, false⟩ : CmdWord).loop (⟨0, 0, 0, 0, 0, false⟩ : CmdWord).j = true)
    ∧ (0 < 64 ∧ w28_2.deck.inReset = false ∧ w28_2.bt (Drv.linkCfg 0) 0 = true ∧ w28_2.bt (Drv.linkCfg 0) 1 = true ∧ (w28_2.lrun 0).synced = true ∧ (w28_2.lrun 0).started = false ∧ (w28_2.lrun 0).syncT + w28_2.fd (Drv.linkTiming 0) 15 0 * 10 ≤ w28_2.fieldNow (40 + 0))
    ∧ (0 < 64 ∧ w28_3.deck.inReset = false ∧ w28_3.linkState 0 = 2 ∧ (⟨withCrc16 (0x81 :: List.replicate 17 0), false, 0⟩ : RetFrame).codeErr = false ∧ retCrcOk (⟨withCrc16 (0x81 :: List.replicate 17 0), false, 0⟩ : RetFrame).bytes = true ∧ leAt (⟨withCrc16 (0x81 :: List.replicate 17 0), false, 0⟩ : RetFrame).bytes 0 1 = 0x81 ∧ leAt (⟨withCrc16 (0x81 :: List.replicate 17 0), false, 0⟩ : RetFrame).bytes 1 1 = w28_3.fd (Drv.linkStatus 0) 15 8 ∧ (w28_3.lrun 0).accepted = false)
    ∧ (0 < 64 ∧ w28_4.deck.inReset = false ∧ w28_4.linkState 0 = 2 ∧ (⟨[], true, 0⟩ : RetFrame).codeErr = true)
    ∧ (0 < 64 ∧ w28_5.deck.inReset = false ∧ w28_5.linkState 0 = 2 ∧ (⟨[], false, 0⟩ : RetFrame).codeErr = false)
    ∧ (0 < 64 ∧ w28_5n0.deck.inReset = false ∧ w28_5n0.linkState 0 = 2 ∧ (⟨[], false, 0⟩ : RetFrame).codeErr = false ∧ retCrcOk (⟨[], false, 0⟩ : RetFrame).bytes = false)
    ∧ (0 < 64 ∧ w28_5n1.deck.inReset = false ∧ w28_5n1.linkState 0 = 2 ∧ (⟨withCrc16 (List.replicate 18 0), false, 0⟩ : RetFrame).codeErr = false ∧ retCrcOk (⟨withCrc16 (List.replicate 18 0), false, 0⟩ : RetFrame).bytes = true ∧ leAt (⟨withCrc16 (List.replicate 18 0), false, 0⟩ : RetFrame).bytes 0 1 ≠ 0x81))
    ∧ ((0 < 64 ∧ w28_6.deck.inReset = false ∧ w28_6.linkState 0 = 1)
    ∧ (0 < 64 ∧ w28_7.deck.inReset = false ∧ w28_7.linkState 0 = 2)
    ∧ (0 < 64 ∧ w28_8.deck.inReset = false)
    ∧ (0 < 64 ∧ w28_8n0.deck.inReset = false ∧ w28_8n0.bt (Drv.linkStatus 0) 2 = true ∧ w28_8n0.bt (Drv.linkStatus 0) 3 = false)
    ∧ (0 < 64 ∧ w28_9.deck.inReset = false)
    ∧ (0 < 64 ∧ w28_9n0.deck.inReset = false ∧ w28_9n0.bt (Drv.linkStatus 0) 2 = false ∧ w28_9n0.bt (Drv.linkStatus 0) 4 = false))
    ∧ ((0 < 64 ∧ MayCmd w28_10 Half.a (40 + 0))
    ∧ (0 < 64 ∧ MayCmd w28_11 Half.a (40 + 0) ∧ w28_11.linkState 0 = 2)) := by
  refine ⟨⟨?_, ?_, ?_, ?_, ?_, ?_, ?_, ?_⟩, ⟨?_, ?_, ?_, ?_, ?_, ?_⟩, ⟨w28_10_ok, w28_11_ok⟩⟩ <;> decide +kernel
/-! O29: MotionPortCommandsComplete -/
def w29_0 : State := { State.reset with deck.inReset := false }
def w29_1 : State := { State.reset with a.motTx := (⟨0, 0, 0, 0, 0, false⟩ : CmdWord) :: [], deck.trivet.rail0 := [(104, 1)], deck.route := [(0x800, 0x80000000)] }
def w29_1n0 : State := { State.reset with a.motTx := (⟨0, 0, 0, 0, 0, false⟩ : CmdWord) :: [], deck.trivet.rail0 := [(104, 1)], deck.route := [(0x800, 0x80000000)] }
def w29_1n1 : State := { State.reset with deck.trivet.rail0 := [(104, 1)], deck.route := [(0x800, 0x80000000)], a.motTx := [⟨0, 0, 0, 0, 0, true⟩] }
def w29_2 : State := { State.reset with live := [(Mot.portCfg 0, 0x1)], deck.inReset := false, deck.timeState := 1, deck.timeCopy := 1000000000000 }
def w29_3 : State := { State.reset with live := [(Mot.portStatus 0, 1)], deck.inReset := false, deck.timeState := 1, deck.timeCopy := 1000000000000 }
def w29_4 : State := { State.reset with deck.inReset := false, deck.ports := [(0, { v := 1, ovr := 255 })] }
def w29_5 : State := { State.reset with live := [(Mot.portStatus 0, 1)], deck.trivet.rail0 := [(104, 1)] }
def w29_6 : State := { State.reset with live := [(Mot.portStatus 0, 1)], deck.inReset := false, deck.ports := [(0, { cmds := [0] })] }
def w29_6n0 : State := { State.reset with live := [(Mot.portStatus 0, 1)], deck.inReset := false, deck.ports := [(0, { cmds := [0] })] }
def w29_6n1 : State := { State.reset with live := [(Mot.portStatus 0, 3)], deck.inReset := false, deck.ports := [(0, { cmds := [0] })] }
def w29_7 : State := { State.reset with live := [(Mot.portStatus 0, 2)], deck.inReset := false, deck.ports := [(0, { cmds := [1] })] }
def w29_8 : State := { State.reset with live := [(Mot.portStatus 0, 1)], deck.inReset := false, deck.ports := [(0, { cmds := [2] })] }
def w29_9 : State := { State.reset with live := [(Mot.portStatus 0, 1)], deck.inReset := false, deck.ports := [(0, { cmds := [3] })] }
theorem w29_1_ok : MayCmd w29_1 Half.a (104 + (⟨0, 0, 0, 0, 0, false⟩ : CmdWord).idx / 8) ∧ (w29_1.half Half.a).motTx = (⟨0, 0, 0, 0, 0, false⟩ : CmdWord) :: [] ∧ (⟨0, 0, 0, 0, 0, false⟩ : CmdWord).idx < 32 ∧ w29_1.takes (0x800 + 4 * (⟨0, 0, 0, 0, 0, false⟩ : CmdWord).idx) (⟨0, 0, 0, 0, 0, false⟩ : CmdWord).loop (⟨0, 0, 0, 0, 0, false⟩ : CmdWord).j = true := by
  refine ⟨(by refine ⟨?_, ?_, ?_⟩ <;> decide +kernel), ?_, ?_, ?_⟩ <;> decide +kernel
theorem w29_1n0_ok : MayCmd w29_1n0 Half.a (104 + (⟨0, 0, 0, 0, 0, false⟩ : CmdWord).idx / 8) ∧ (w29_1n0.half Half.a).motTx = (⟨0, 0, 0, 0, 0, false⟩ : CmdWord) :: [] ∧ (⟨0, 0, 0, 0, 0, false⟩ : CmdWord).idx < 32 ∧ w29_1n0.takes (0x800 + 4 * (⟨0, 0, 0, 0, 0, false⟩ : CmdWord).idx) (⟨0, 0, 0, 0, 0, false⟩ : CmdWord).loop (⟨0, 0, 0, 0, 0, false⟩ : CmdWord).j = true ∧ (⟨0, 0, 0, 0, 0, false⟩ : CmdWord).coast = false := by
  refine ⟨(by refine ⟨?_, ?_, ?_⟩ <;> decide +kernel), ?_, ?_, ?_, ?_⟩ <;> decide +kernel
theorem w29_1n1_ok : MayCmd w29_1n1 Half.a (104 + (⟨0, 0, 0, 0, 0, true⟩ : CmdWord).idx / 8) ∧ (w29_1n1.half Half.a).motTx = (⟨0, 0, 0, 0, 0, true⟩ : CmdWord) :: [] ∧ (⟨0, 0, 0, 0, 0, true⟩ : CmdWord).idx < 32 ∧ w29_1n1.takes (0x800 + 4 * (⟨0, 0, 0, 0, 0, true⟩ : CmdWord).idx) (⟨0, 0, 0, 0, 0, true⟩ : CmdWord).loop (⟨0, 0, 0, 0, 0, true⟩ : CmdWord).j = true ∧ (⟨0, 0, 0, 0, 0, true⟩ : CmdWord).coast = true := by
  refine ⟨(by refine ⟨?_, ?_, ?_⟩ <;> decide +kernel), ?_, ?_, ?_, ?_⟩ <;> decide +kernel
theorem w29_5_ok : 0 < 32 ∧ MayCmd w29_5 Half.a (104 + 0 / 8) := by
  refine ⟨?_, (by refine ⟨?_, ?_, ?_⟩ <;> decide +kernel)⟩ <;> decide +kernel
theorem wit_MotionPortCommandsComplete :
    ((0 < 32 ∧ w29_0.deck.inReset = false ∧ (w29_0.prun 0).cmds = [])
    ∧ (MayCmd w29_1 Half.a (104 + (⟨0, 0, 0, 0, 0, false⟩ : CmdWord).idx / 8) ∧ (w29_1.half Half.a).motTx = (⟨0, 0, 0, 0, 0, false⟩ : CmdWord) :: [] ∧ (⟨0, 0, 0, 0, 0, false⟩ : CmdWord).idx < 32 ∧ w29_1.takes (0x800 + 4 * (⟨0, 0, 0, 0, 0, false⟩ : CmdWord).idx) (⟨0, 0, 0, 0, 0, false⟩ : CmdWord).loop (⟨0, 0, 0, 0, 0, false⟩ : CmdWord).j = true)
    ∧ (MayCmd w29_1n0 Half.a (104 + (⟨0, 0, 0, 0, 0, false⟩ : CmdWord).idx / 8) ∧ (w29_1n0.half Half.a).motTx = (⟨0, 0, 0, 0, 0, false⟩ : CmdWord) :: [] ∧ (⟨0, 0, 0, 0, 0, false⟩ : CmdWord).idx < 32 ∧ w29_1n0.takes (0x800 + 4 * (⟨0, 0, 0, 0, 0, false⟩ : CmdWord).idx) (⟨0, 0, 0, 0, 0, false⟩ : CmdWord).loop (⟨0, 0, 0, 0, 0, false⟩ : CmdWord).j = true ∧ (⟨0, 0, 0, 0, 0, false⟩ : CmdWord).coast = false)
    ∧ (MayCmd w29_1n1 Half.a (104 + (⟨0, 0, 0, 0, 0, true⟩ : CmdWord).idx / 8) ∧ (w29_1n1.half Half.a).motTx = (⟨0, 0, 0, 0, 0, true⟩ : CmdWord) :: [] ∧ (⟨0, 0, 0, 0, 0, true⟩ : CmdWord).idx < 32 ∧ w29_1n1.takes (0x800 + 4 * (⟨0, 0, 0, 0, 0, true⟩ : CmdWord).idx) (⟨0, 0, 0, 0, 0, true⟩ : CmdWord).loop (⟨0, 0, 0, 0, 0, true⟩ : CmdWord).j = true ∧ (⟨0, 0, 0, 0, 0, true⟩ : CmdWord).coast = true)
    ∧ (0 < 32 ∧ w29_2.deck.inReset = false ∧ w29_2.bt (Mot.portCfg 0) 0 = true ∧ (w29_2.prun 0).wordT + 1000 * w29_2.fd (Mot.missHold 0) 13 0 ≤ w29_2.fieldNow (104 + 0 / 8))
    ∧ (0 < 32 ∧ w29_3.deck.inReset = false ∧ w29_3.portState 0 ≠ 0 ∧ w29_3.portState 0 ≠ 4 ∧ w29_3.standstill 0 (w29_3.fieldNow (104 + 0 / 8)) = true)
    ∧ (0 < 32 ∧ w29_4.deck.inReset = false ∧ w29_4.stallMet 0 = true)
    ∧ (0 < 32 ∧ MayCmd w29_5 Half.a (104 + 0 / 8)))
    ∧ ((0 < 32 ∧ w29_6.deck.inReset = false ∧ (w29_6.prun 0).cmds = [0])
    ∧ (0 < 32 ∧ w29_6n0.deck.inReset = false ∧ (w29_6n0.prun 0).cmds = [0] ∧ w29_6n0.portState 0 = 1 ∧ w29_6n0.fd (Mot.segRange 0) 9 0 ≤ w29_6n0.fd (Mot.segRange 0) 25 16 ∧ w29_6n0.bt (Mot.portStatus 0) 3 = false)
    ∧ (0 < 32 ∧ w29_6n1.deck.inReset = false ∧ (w29_6n1.prun 0).cmds = [0] ∧ w29_6n1.portState 0 ≠ 1)
    ∧ (0 < 32 ∧ w29_7.deck.inReset = false ∧ (w29_7.prun 0).cmds = [1] ∧ w29_7.portState 0 = 2)
    ∧ (0 < 32 ∧ w29_8.deck.inReset = false ∧ (w29_8.prun 0).cmds = [2] ∧ w29_8.moving 0 = false ∧ w29_8.portState 0 ≠ 4)
    ∧ (0 < 32 ∧ w29_9.deck.inReset = false ∧ (w29_9.prun 0).cmds = [3])) := by
  refine ⟨⟨?_, w29_1_ok, w29_1n0_ok, w29_1n1_ok, ?_, ?_, ?_, w29_5_ok⟩, ⟨?_, ?_, ?_, ?_, ?_, ?_⟩⟩ <;> decide +kernel
/-! O30: EngineSampleCommandsComplete -/
def w30_0 : State := { State.reset with live := [(slotBase Half.a 0 + 0xC, 1), (Slot.status Half.a 0, 0x1)], a.ctl.fwdWait := [] }
def w30_1 : State := { State.reset with live := [(Slot.status Half.a 0, 0x1)], a.slots := [(0, { phase := 1 })] }
def w30_2 : State := { State.reset with live := [(stateBase Half.a 0 + 0x60, 0x30000), (Slot.status Half.a 0, 0x1)] }
def w30_3 : State := { State.reset with live := [(loopMapAt Half.a 0, 0x20000)], a.measTx := [(⟨0, 0, true, 0⟩ : MeasWord)], a.slots := [(0, { phase := 1 })] }
def w30_4 : State := { State.reset with live := [(slotBase Half.a 0 + 0x14, 1), (slotBase Half.a 0 + 4, 0x10000)], a.slots := [(0, { phase := 1 })] }
def w30_5 : State := { State.reset with a.slots := [(0, { phase := 1 })] }
def w30_5n0 : State := { State.reset with a.slots := [(0, { phase := 1 })] }
def w30_5n1 : State := { State.reset with live := [(slotBase Half.a 0 + 4, 0x1010101), (stateBase Half.a 0, 0x7F000000), (coefBase Half.a 0 + 0x500, 0x7F000000)], a.slots := [(0, { phase := 1 })] }
def w30_6 : State := { State.reset with a.slots := [(0, { phase := 3 })] }
def w30_6n0 : State := { State.reset with a.slots := [(0, { phase := 3 })] }
def w30_6n1 : State := { State.reset with live := [(slotBase Half.a 0 + 4, 0x1010101), (coefBase Half.a 0 + 0xBB0, 0x7F800000), (coefBase Half.a 0 + 0xBC0, 0x7FC00000)], a.slots := [(0, { phase := 3, arrived := 1, valid := 1, raw := [(0, 0x7F000000)] })] }
def w30_7 : State := { State.reset with a.slots := [(0, { phase := 4 })] }
def w30_8 : State := { State.reset with a.slots := [(0, { missAct := true })] }
def w30_9 : State := { State.reset with live := [(Slot.status Half.a 0, 1)] }
theorem wit_EngineSampleCommandsComplete :
    ((0 < 4096 ∧ w30_0.runs Half.a = true ∧ w30_0.slotState Half.a 0 = 1 ∧ w30_0.bt (Eng.engStatus Half.a (0 / 8)) 2 = false ∧ (w30_0.run Half.a 0).phase = 0 ∧ w30_0.slotMarked Half.a 0 = false ∧ (w30_0.half Half.a).ctl.fwdWait = [] ∧ w30_0.standby Half.a 0 = false ∧ (w30_0.run Half.a 0).restart = false ∧ (w30_0.run Half.a 0).clear = false ∧ w30_0.bt (Slot.status Half.a 0) 10 = false ∧ bits (w30_0.dw Half.a 0 0xC) 1 0 ≠ 0 ∧ w30_0.missHit Half.a 0 = false ∧ w30_0.lossOf Half.a 0 = 0 ∧ w30_0.hstate Half.a ≠ 2 ∧ w30_0.sampleDue Half.a 0 = true)
    ∧ (0 < 4096 ∧ w30_1.runs Half.a = true ∧ w30_1.slotState Half.a 0 = 1 ∧ w30_1.bt (Eng.engStatus Half.a (0 / 8)) 2 = false ∧ (w30_1.run Half.a 0).phase ≠ 0 ∧ (w30_1.run Half.a 0).packets = [] ∧ w30_1.fd (stateBase Half.a 0 + 0x60) 31 16 < 2 ∧ w30_1.hstate Half.a ≠ 2 ∧ w30_1.sampleDue Half.a 0 = true)
    ∧ (0 < 4096 ∧ w30_2.runs Half.a = true ∧ w30_2.slotState Half.a 0 = 1 ∧ w30_2.bt (Eng.engStatus Half.a (0 / 8)) 2 = false ∧ 3 ≤ w30_2.fd (stateBase Half.a 0 + 0x60) 31 16 ∧ (w30_2.run Half.a 0).packets = [] ∧ (w30_2.run Half.a 0).cmtWait = false)
    ∧ (w30_3.runs Half.a = true ∧ (w30_3.half Half.a).measTx = (⟨0, 0, true, 0⟩ : MeasWord) :: [] ∧ w30_3.slotOf Half.a (⟨0, 0, true, 0⟩ : MeasWord).loop = some 0 ∧ ((w30_3.run Half.a 0).phase = 1 ∨ (w30_3.run Half.a 0).phase = 2) ∧ (w30_3.run Half.a 0).ready = false ∧ (⟨0, 0, true, 0⟩ : MeasWord).k < 8)
    ∧ (w30_4.runs Half.a = true ∧ ((w30_4.run Half.a 0).phase = 1 ∨ (w30_4.run Half.a 0).phase = 2) ∧ (w30_4.run Half.a 0).ready = false ∧ w30_4.reqMask Half.a 0 ≠ 0 ∧ (w30_4.run Half.a 0).tick + w30_4.fd (Slot.measReq Half.a 0) 31 16 * 10 ≤ w30_4.now Half.a)
    ∧ (0 < 4096 ∧ w30_5.runs Half.a = true ∧ (w30_5.run Half.a 0).phase = 1)
    ∧ (w30_5n0.runs Half.a = true ∧ (w30_5n0.run Half.a 0).phase = 1 ∧ (match w30_5n0.lawPrepare Half.a 0 with | .ok _ => true | .error _ => false) = true)
    ∧ (w30_5n1.runs Half.a = true ∧ (w30_5n1.run Half.a 0).phase = 1 ∧ (match w30_5n1.lawPrepare Half.a 0 with | .ok _ => true | .error _ => false) = false))
    ∧ ((0 < 4096 ∧ w30_6.runs Half.a = true ∧ (w30_6.run Half.a 0).phase = 3)
    ∧ (w30_6n0.runs Half.a = true ∧ (w30_6n0.run Half.a 0).phase = 3 ∧ (match w30_6n0.lawCritical Half.a 0 (w30_6n0.lawMeasures Half.a 0).nu with | .ok _ => true | .error _ => false) = true)
    ∧ (w30_6n1.runs Half.a = true ∧ (w30_6n1.run Half.a 0).phase = 3 ∧ (match w30_6n1.lawCritical Half.a 0 (w30_6n1.lawMeasures Half.a 0).nu with | .ok _ => true | .error _ => false) = false)
    ∧ (0 < 4096 ∧ w30_7.runs Half.a = true ∧ (w30_7.run Half.a 0).phase = 4)
    ∧ (w30_8.runs Half.a = true ∧ w30_8.missHit Half.a 0 = true)
    ∧ (w30_9.runs Half.a = true ∧ w30_9.slotState Half.a 0 ≠ 0 ∧ w30_9.bt (Eng.engStatus Half.a (0 / 8)) 2 = false)
    ∧ (0 < 512 ∧ State.reset.runs Half.a = true ∧ State.reset.bt (Eng.engStatus Half.a 0) 2 = false)) := by
  refine ⟨⟨?_, ?_, ?_, ?_, ?_, ?_, ?_, ?_⟩, ⟨?_, ?_, ?_, ?_, ?_, ?_, ?_⟩⟩ <;> decide +kernel
/-! O31: ObserverLossAndTraceCommandsComplete -/
def w31_0 : State := { State.reset with live := [(slotBase Half.a 0 + 0x60, 1), (stateBase Half.a 0 + 0x50, 0xFF00), (Slot.status Half.a 0, 0x1)] }
def w31_1 : State := { State.reset with live := [(stateBase Half.a 0 + 0x50, 2), (stateBase Half.a 0 + 0x54, 16), (Slot.status Half.a 0, 0x1)] }
def w31_2 : State := { State.reset with live := [(stateBase Half.a 0 + 0x50, 0xFFFF0002), (slotBase Half.a 0 + 0x64, 1), (Slot.status Half.a 0, 0x1)] }
def w31_3 : State := { State.reset with live := [(coefBase Half.a 0 + 0xD98, 0x3F800000), (stateBase Half.a 0 + 0x74, 0x10000), (Slot.status Half.a 0, 0x1)] }
def w31_4 : State := { State.reset with a.time.acc := 0x100000000000000000, a.slots := [(0, { packets := [(⟨0, 0, false, 1, 0, 1, 0, [], 0, 0, 0, none⟩ : TracePkt)] })] }
theorem wit_ObserverLossAndTraceCommandsComplete :
    (w31_0.runs Half.a = true ∧ w31_0.slotState Half.a 0 = 1 ∧ (w31_0.run Half.a 0).phase = 0 ∧ bit (w31_0.dw Half.a 0 0x60) 0 = true ∧ w31_0.lossOf Half.a 0 = 0 ∧ w31_0.fd (stateBase Half.a 0 + 0x50) 15 8 ≠ 0 ∧ bits (w31_0.dw Half.a 0 0x60) 15 8 ≤ w31_0.fd (stateBase Half.a 0 + 0x50) 15 8 ∧ (match w31_0.lossDeclare Half.a 0 (w31_0.speedOf Half.a 0 ((w31_0.run Half.a 0).xh.map (·.toNat))) (w31_0.run Half.a 0).e.toNat with | .ok _ => true | .error _ => false) = true)
    ∧ (0 < 4096 ∧ w31_1.runs Half.a = true ∧ w31_1.slotState Half.a 0 = 1 ∧ (w31_1.run Half.a 0).phase = 0 ∧ w31_1.lossOf Half.a 0 = 2 ∧ 16 ≤ w31_1.fd (stateBase Half.a 0 + 0x54) 7 0)
    ∧ (0 < 4096 ∧ w31_2.runs Half.a = true ∧ w31_2.slotState Half.a 0 = 1 ∧ (w31_2.run Half.a 0).phase = 0 ∧ w31_2.lossOf Half.a 0 = 2 ∧ w31_2.fd (slotBase Half.a 0 + 0x64) 15 0 ≤ w31_2.fd (stateBase Half.a 0 + 0x50) 31 16)
    ∧ (0 < 4096 ∧ w31_3.runs Half.a = true ∧ w31_3.slotState Half.a 0 = 1 ∧ (w31_3.run Half.a 0).phase = 0 ∧ w31_3.fadeFull Half.a 0 = true)
    ∧ (w31_4.runs Half.a = true ∧ ((w31_4.run Half.a 0).packets.find? (fun x => decide (x.closed = none)) = some (⟨0, 0, false, 1, 0, 1, 0, [], 0, 0, 0, none⟩ : TracePkt)) ∧ (⟨0, 0, false, 1, 0, 1, 0, [], 0, 0, 0, none⟩ : TracePkt).time + 10000000 ≤ w31_4.now Half.a)
    ∧ (State.reset.runs Half.a = true) := by
  refine ⟨?_, ?_, ?_, ?_, ?_, ?_⟩ <;> decide +kernel
/-! O46: RegisterWritesReachTheirPlace -/
def w46_1 : State := { State.reset with live := [(Slot.status Half.a 0, 0x0)] }
theorem wit_RegisterWritesReachTheirPlace :
    (State.reset.runs Half.a = true ∧ isDdr (lowAddr 0x80000000) = true ∧ halfOf 0x80000000 = Half.a)
    ∧ (w46_1.runs Half.a = true ∧ 0 < 512 ∧ 0 < 8 ∧ 0 < 0x1000 ∧ 0 % 4 = 0 ∧ coefMask 0 = some 0xFFFFFFFF ∧ w46_1.slotState Half.a (8 * 0 + 0) = 0 ∧ w46_1.mapBit (Mod.plcOos Half.a 0) 0 = false)
    ∧ (State.reset.runs Half.a = true ∧ isDeckBlock (lowAddr 0x1000000) = true)
    ∧ (State.reset.runs Half.a = true ∧ (inWindow (lowAddr 0x3F000000 / 4 * 4) = false ∨ (inWindow (lowAddr 0x3F000000 / 4 * 4) = true ∧ isDeckBlock (lowAddr 0x3F000000 / 4 * 4) = false ∧ halfOf 0x3F000000 ≠ Half.a ∧ 0 < 8)))
    ∧ (State.reset.runs Half.a = true ∧ inWindow (lowAddr 0x800000000  / 4 * 4) = true ∧ isDeckBlock (lowAddr 0x800000000  / 4 * 4) = false ∧ halfOf 0x800000000  ≠ Half.a ∧ 8 ≤ 8) := by
  refine ⟨?_, ?_, ?_, ?_, ?_⟩ <;> decide +kernel
/-! O47: LinkItemsAndCrossHalfReadsComplete -/
def w47_0 : State := { State.reset with a.deckTx := [], a.linkUp := true }
def w47_1 : State := { State.reset with a.deckTx := [(⟨0, Anc.cmpLo 0, 5⟩ : DeckItem)] }
def w47_2 : State := { State.reset with a.linkUp := true, deck.inReset := false, deck.trivet.rail0 := [(0, 1)], a.deckTx := [(⟨0, Anc.cmpLo 0, 5⟩ : DeckItem)] }
def w47_3n0 : State := { State.reset with mirrorUp := true }
theorem wit_LinkItemsAndCrossHalfReadsComplete :
    ((w47_0.half Half.a).deckTx = [])
    ∧ ((w47_1.half Half.a).deckTx = (⟨0, Anc.cmpLo 0, 5⟩ : DeckItem) :: [])
    ∧ (0 < 256 ∧ (w47_2.half Half.a).deckTx = (⟨0, Anc.cmpLo 0, 5⟩ : DeckItem) :: [] ∧ (w47_2.half Half.a).linkUp = true ∧ w47_2.deck.inReset = false ∧ (⟨0, Anc.cmpLo 0, 5⟩ : DeckItem).addr = Anc.cmpLo 0 ∧ w47_2.owns Half.a (0 / 16) = true ∧ w47_2.pend Half.a 9 = false ∧ w47_2.locked Half.a 9 = false)
    ∧ (w47_3n0.runs Half.a = true ∧ w47_3n0.runs Half.a.other = true ∧ w47_3n0.mirrorUp = true ∧ isDdr (lowAddr 0xA0000000) = true ∧ isDeckBlock (lowAddr 0xA0000000) = false ∧ inWindow (lowAddr 0xA0000000) = true) := by
  refine ⟨?_, ?_, ?_, ?_⟩ <;> decide +kernel
/-! O48: StrobeOfReservedBitsIsRefused -/
theorem wit_StrobeOfReservedBitsIsRefused :
    ((1 : Word) &&& 0x3FFFFF ≠ 0)
    ∧ (State.reset.runs Half.a = true ∧ (0x400000 : Word) ≠ 0 ∧ (0x400000 : Word) &&& 0x3FFFFF = 0) := by
  refine ⟨?_, ?_⟩ <;> decide +kernel
/-! O49: StrobeMarksTheDirtyUnits -/
theorem wit_StrobeMarksTheDirtyUnits :
    State.reset.runs Half.a = true ∧ namedGroups (1 : Word) = [0] ∧ 0 ≠ 5 ∧ 0 ≠ 9 ∧ 0 ≠ 14 ∧ 0 ≠ 17 := by
  decide +kernel
/-! O50: AbandonReloadsTheDirtyUnits -/
theorem wit_AbandonReloadsTheDirtyUnits :
    State.reset.runs Half.a = true := by
  decide +kernel
/-! O51: UnitCommitIsAtomic -/
def w51_1 : State := { State.reset with marked := [⟨6, some .a, 0⟩] }
def w51_2 : State := { State.reset with marked := [⟨0, some .a, 0⟩] }
def w51_3 : State := { State.reset with live := [(Cmt.cmtPending Half.a, 0x1)] }
theorem wit_UnitCommitIsAtomic :
    (w51_1.runs Half.a = true ∧ (6 = 6 ∨ 6 = 14) ∧ (⟨6, some Half.a, 0⟩ : CUnit) ∈ w51_1.marked ∧ (6 = 14 → w51_1.pwrLate Half.a Half.a = false))
    ∧ (w51_2.runs Half.a = true ∧ isDeckGroup 0 = false ∧ (⟨0, some Half.a, 1⟩ : CUnit) ∉ w51_2.marked ∧ w51_2.waiting Half.a 0 = true)
    ∧ (w51_3.runs Half.a = true ∧ isDeckGroup 0 = false ∧ 0 ≠ 17 ∧ w51_3.waiting Half.a 0 = false ∧ w51_3.pend Half.a 0 = true) := by
  refine ⟨?_, ?_, ?_⟩ <;> decide +kernel
/-! O52: LoaderCommandsComplete -/
def w52_1 : State := { State.reset with live := [(Mod.imgStatus Half.a, 1)] }
def w52_2 : State := { State.reset with live := [(Mod.imgStatus Half.a, 0x1)] }
def w52_3 : State := { State.reset with live := [(Mod.imgStatus Half.a, 1)], a.img.chkLen := 140 }
def w52_4 : State := { State.reset with live := [(Mod.imgActiveIdLo Half.a, 1)] }
def w52_5 : State := { State.reset with a.img.storing := some (⟨1, []⟩ : StoredImg) }
def w52_6 : State := { State.reset with live := [(Mod.imgActiveIdLo Half.b, 1)] }
def w52_7 : State := { State.reset with live := [(Mod.imgStatus Half.a, 0x6)], mirrorUp := true, a.img.copying := some (⟨1, []⟩ : StoredImg) }
def w52_8 : State := { State.reset with live := [(HalfR.halfStatus Half.a, 4), (Mod.imgActiveIdLo Half.a, 1), (HalfR.halfStatus .a, 0x4)] }
def w52_9 : State := { State.reset with live := [(Mod.straps Half.a, 0)], a.img.trial := 0, a.img.partnerMark := [], a.img.slotA := some (⟨1, [(4378, ⟨false, [], 1, 0, 0, 0⟩)]⟩ : StoredImg) }
def w52_10 : State := { State.reset with live := [(Mod.straps Half.a, 0)], a.img.slotA := none, a.img.slotP := none, a.img.trial := 0, mirrorUp := false }
theorem wit_LoaderCommandsComplete :
    ((State.reset.runs Half.a = true ∧ State.reset.imgBusy Half.a = false)
    ∧ (w52_1.runs Half.a = true ∧ w52_1.imgBusy Half.a = true)
    ∧ (w52_2.runs Half.a = true ∧ w52_2.fd (Mod.imgStatus Half.a) 2 0 = 1)
    ∧ (w52_3.runs Half.a = true ∧ w52_3.fd (Mod.imgStatus Half.a) 2 0 = 1 ∧ (match parseImage (w52_3.bytes (Half.a.base + 0x40000000) (w52_3.half Half.a).img.chkLen) (w52_3.half Half.a).img.chkLen (w52_3.fd (Mod.idHw Half.a) 7 0) (w52_3.fd (Mod.idFw Half.a) 15 0) (if w52_3.fd (Mod.strapFaults Half.a) 5 0 ≠ 0 then none else some (w52_3.fd (Mod.straps Half.a) 5 0)) (if w52_3.hasImage Half.a then some (w52_3.activeId Half.a) else none) with | .ok _ => false | .error _ => true) = true ∧ (w52_3.half Half.a).img.chkLen ≤ 0x20000000)
    ∧ (w52_4.runs Half.a = true ∧ w52_4.imgBusy Half.a = false ∧ w52_4.fd (Mod.imgStatus Half.a) 13 12 ≠ 1 ∧ w52_4.hasImage Half.a = true)
    ∧ (w52_5.runs Half.a = true ∧ (w52_5.half Half.a).img.storing = some (⟨1, []⟩ : StoredImg))
    ∧ (w52_6.runs Half.a = true ∧ w52_6.partnerImage Half.a = some (⟨1, []⟩ : StoredImg) ∧ w52_6.imgBusy Half.a = false)
    ∧ (w52_7.runs Half.a = true ∧ w52_7.fd (Mod.imgStatus Half.a) 2 0 = 6 ∧ w52_7.mirrorUp = true ∧ w52_7.runs Half.a.other = true ∧ (w52_7.half Half.a).img.copying = some (⟨1, []⟩ : StoredImg)))
    ∧ ((w52_8.runs .a = true ∧ w52_8.runs .b = true ∧ w52_8.hstate .a = 4 ∧ w52_8.activeId .a ≠ w52_8.activeId .b ∧ w52_8.hasImage .a = true ∧ w52_8.imgBusy .b = false)
    ∧ (w52_9.runs Half.a = true ∧ w52_9.pend Half.a 17 = false ∧ w52_9.hasImage Half.a = false ∧ w52_9.fd (Mod.straps Half.a) 10 9 = 0 ∧ (w52_9.half Half.a).img.slotA = some (⟨1, [(4378, ⟨false, [], 1, 0, 0, 0⟩)]⟩ : StoredImg) ∧ (w52_9.half Half.a).img.trial = 0 ∧ (w52_9.half Half.a).img.partnerMark = [] ∧ ((match (((((w52_9.fw (Mod.imgSource Half.a) 1 0 0).sb (Mod.imgSource Half.a) 2 false).modImg Half.a (fun x => { x with trial := 1 })).putImage Half.a (⟨1, [(4378, ⟨false, [], 1, 0, 0, 0⟩)]⟩ : StoredImg)).imgBegin Half.a) with | u => (u.checkRaw Half.a (u.half Half.a).img.chkLen true).fd (Mod.imgStatus Half.a) 2 0) = 2))
    ∧ (w52_10.runs Half.a = true ∧ w52_10.pend Half.a 17 = false ∧ w52_10.hasImage Half.a = false ∧ w52_10.fd (Mod.straps Half.a) 10 9 = 0 ∧ (w52_10.half Half.a).img.slotA = none ∧ (w52_10.half Half.a).img.slotP = none ∧ (w52_10.half Half.a).img.trial = 0 ∧ w52_10.mirrorUp = false ∧ w52_10.fd (Mod.imgStatus Half.a) 2 0 ≠ 2)) := by
  refine ⟨⟨?_, ?_, ?_, ?_, ?_, ?_, ?_, ?_⟩, ⟨?_, ?_, ?_⟩⟩ <;> decide +kernel
/-! O53: RegionCommandsComplete -/
def w53_0 : State := { State.reset with mirrorUp := true, a.img.actFree := false, marked := [regionUnit Half.a 5, regionUnit Half.b 5], a.img.ready := [(5, (⟨false, [], 1, 7, 0, 0⟩ : RegCopy))], b.img.ready := [(5, (⟨false, [], 1, 7, 0, 0⟩ : RegCopy))] }
def w53_1 : State := { State.reset with mirrorUp := true, a.img.actFree := false, marked := [regionUnit Half.a 5, regionUnit Half.b 5], a.img.ready := [(5, (⟨false, [], 1, 7, 0, 0⟩ : RegCopy))], b.img.ready := [(5, (⟨false, [], 1, 8, 0, 0⟩ : RegCopy))] }
def w53_2 : State := { State.reset with mirrorUp := true, marked := [regionUnit Half.b 5], b.img.ready := [(5, (⟨false, [], 1, 8, 0, 0⟩ : RegCopy))] }
def w53_3 : State := { State.reset with live := [(HalfR.whistleStatus Half.a, 1), (Mod.imgActiveIdLo Half.b, 1)], a.time.acc := 0x100000000000000000, marked := [regionUnit Half.a 5], a.img.ready := [(5, (⟨false, [], 1, 0, 0, 0⟩ : RegCopy))] }
def w53_4 : State := { State.reset with marked := [regionUnit Half.a 4509], a.img.ready := [(4509, (⟨false, [], 1, 0, 0, 0⟩ : RegCopy))] }
def w53_5 : State := { State.reset with marked := [regionUnit Half.a 4474], a.img.ready := [(4474, (⟨false, [], 1, 0, 0, 0⟩ : RegCopy))] }
def w53_6 : State := { State.reset with deck.ticks := 1000000000000, marked := [lidUnit] }
theorem wit_RegionCommandsComplete :
    (w53_0.runs Half.a = true ∧ w53_0.mirrorUp = true ∧ w53_0.runs Half.a.other = true ∧ w53_0.markCrc Half.a 5 = some 7 ∧ w53_0.markCrc Half.a.other 5 = some 7 ∧ (w53_0.half Half.a).img.actFree = false)
    ∧ (w53_1.runs Half.a = true ∧ w53_1.mirrorUp = true ∧ w53_1.runs Half.a.other = true ∧ w53_1.markCrc Half.a 5 = some 7 ∧ w53_1.markCrc Half.a.other 5 = some 8 ∧ 7 ≠ 8 ∧ (w53_1.half Half.a).img.actFree = false)
    ∧ (w53_2.runs Half.a = true ∧ w53_2.mirrorUp = true ∧ w53_2.runs Half.a.other = true ∧ w53_2.markCrc Half.a 5 = none ∧ w53_2.markCrc Half.a.other 5 = some 8)
    ∧ (w53_3.runs Half.a = true ∧ w53_3.regionMarked Half.a 5 = true ∧ w53_3.readyCopy Half.a 5 = some (⟨false, [], 1, 0, 0, 0⟩ : RegCopy) ∧ w53_3.pairOk Half.a 5 = false ∧ (Map.get (fun _ => 0) (w53_3.half Half.a).strobeT 17 + clampNat 1 10000 (w53_3.fd (Mod.imgPairTimeout Half.a) 13 0) * 1000000 ≤ w53_3.now Half.a))
    ∧ (w53_4.runs Half.a = true ∧ w53_4.regionMarked Half.a 4509 = true ∧ w53_4.readyCopy Half.a 4509 = some (⟨false, [], 1, 0, 0, 0⟩ : RegCopy) ∧ w53_4.pairOk Half.a 4509 = true ∧ (⟨14, some Half.a, 0⟩ : CUnit) ∉ w53_4.marked)
    ∧ (w53_5.runs Half.a = true ∧ w53_5.regionMarked Half.a 4474 = true ∧ w53_5.readyCopy Half.a 4474 = some (⟨false, [], 1, 0, 0, 0⟩ : RegCopy) ∧ w53_5.pairOk Half.a 4474 = true)
    ∧ (lidUnit ∈ w53_6.marked ∧ w53_6.deck.lid.waitT + 15000000000 ≤ w53_6.deck.ticks ∧ w53_6.regionMarked .a 4476 = false ∧ w53_6.regionMarked .b 4476 = false) := by
  refine ⟨?_, ?_, ?_, ?_, ?_, ?_, ?_⟩ <;> decide +kernel
/-! O54: TaskCycleCommandsComplete -/
def w54_0 : State := { State.reset with live := [(Apc.taskStatus Half.a 0, 2), (HalfR.halfStatus Half.a, 4), (Apc.taskCfg Half.a 0, 1)], a.time.acc := 0x100000000000000000 }
def w54_1 : State := { State.reset with live := [(Apc.taskStatus Half.a 0, 3), (Apc.taskCfg Half.a 0, 1)], a.time.acc := 0x100000000000000000, a.tasks := [(0, { phase := 2 })] }
def w54_2 : State := { State.reset with a.tasks := [(0, { phase := 1 })] }
def w54_3 : State := { State.reset with a.tasks := [(0, { phase := 3 })] }
def w54_4 : State := { State.reset with a.tasks := [(0, { writing := some (⟨0, 0, [], true⟩ : RetSet) })] }
def w54_5 : State := { State.reset with a.tasks := [(0, { phase := 2 })] }
def w54_5n0 : State := { State.reset with a.tasks := [(0, { phase := 2 })], a.time.acc := 0x100000000000000000 }
def w54_5n1 : State := { State.reset with a.tasks := [(0, { phase := 2 })] }
def w54_6 : State := { State.reset with live := [(Apc.taskStatus Half.a 0, 2), (Apc.taskCfg Half.a 0, 2), (HalfR.halfStatus Half.a, 4), (Apc.errqWp Half.a, 1)] }
def w54_7 : State := { State.reset with live := [(Apc.taskStatus Half.a 0, 2), (HalfR.halfStatus Half.a, 4), (Apc.taskCfg Half.a 0, 0)], a.img.active := [(taskRegion 0, (⟨false, [(0x1000018, 0x100)], 1, 0, 0, 0⟩ : RegCopy))] }
theorem wit_TaskCycleCommandsComplete :
    ((w54_0.runs Half.a = true ∧ w54_0.hstate Half.a = 4 ∧ w54_0.taskState Half.a 0 = 2 ∧ w54_0.taskKind Half.a 0 ≠ 2 ∧ (w54_0.task Half.a 0).phase = 0 ∧ w54_0.switchDue Half.a 0 = false ∧ (w54_0.task Half.a 0).lastInst = none ∧ (w54_0.task Half.a 0).notBefore ≤ (releaseAt (w54_0.releaseTiming Half.a 0) (w54_0.now Half.a)))
    ∧ (w54_1.runs Half.a = true ∧ w54_1.taskState Half.a 0 = 3 ∧ w54_1.taskKind Half.a 0 ≠ 2 ∧ (w54_1.task Half.a 0).phase ≠ 0 ∧ (w54_1.task Half.a 0).lastInst = none ∧ (w54_1.task Half.a 0).notBefore ≤ (releaseAt (w54_1.releaseTiming Half.a 0) (w54_1.now Half.a)))
    ∧ (0 < 16 ∧ w54_2.runs Half.a = true ∧ (w54_2.task Half.a 0).phase = 1 ∧ (w54_2.task Half.a 0).waitSet = none ∧ (w54_2.task Half.a 0).held = false ∧ w54_2.canRun Half.a 0 = true)
    ∧ (0 < 16 ∧ w54_3.runs Half.a = true ∧ (w54_3.task Half.a 0).phase = 3 ∧ (w54_3.task Half.a 0).ctx.halted = false)
    ∧ (w54_4.runs Half.a = true ∧ (w54_4.task Half.a 0).writing = some (⟨0, 0, [], true⟩ : RetSet))
    ∧ (0 < 16 ∧ w54_5.runs Half.a = true ∧ ((w54_5.task Half.a 0).phase = 1 ∨ (w54_5.task Half.a 0).phase = 2 ∨ (w54_5.task Half.a 0).phase = 6))
    ∧ (0 < 16 ∧ w54_5n0.runs Half.a = true ∧ ((w54_5n0.task Half.a 0).phase = 1 ∨ (w54_5n0.task Half.a 0).phase = 2 ∨ (w54_5n0.task Half.a 0).phase = 6) ∧ w54_5n0.hungAt Half.a 0 ≤ w54_5n0.now Half.a)
    ∧ (0 < 16 ∧ w54_5n1.runs Half.a = true ∧ ((w54_5n1.task Half.a 0).phase = 1 ∨ (w54_5n1.task Half.a 0).phase = 2 ∨ (w54_5n1.task Half.a 0).phase = 6) ∧ w54_5n1.now Half.a < w54_5n1.hungAt Half.a 0))
    ∧ ((w54_6.runs Half.a = true ∧ w54_6.hstate Half.a = 4 ∧ ((List.range 16).find? (fun n => decide (w54_6.taskState Half.a n ≠ 0) && decide (w54_6.taskKind Half.a n = 2)) = some 0) ∧ w54_6.fd (Apc.errqWp Half.a) 7 0 ≠ w54_6.fd (Apc.errqRp Half.a) 7 0 ∧ w54_6.taskState Half.a 0 = 2 ∧ (w54_6.task Half.a 0).phase = 0 ∧ (w54_6.task Half.a 0).errEnd = 0 ∧ (w54_6.task Half.a 0).notBefore ≤ w54_6.now Half.a ∧ w54_6.switchDue Half.a 0 = false)
    ∧ (w54_7.runs Half.a = true ∧ w54_7.hstate Half.a = 4 ∧ w54_7.bgTask Half.a 0 = some 0 ∧ (w54_7.core Half.a 0).bg = none ∧ (w54_7.core Half.a 0).stack = [] ∧ (w54_7.core Half.a 0).bgEnd = none ∧ (w54_7.core Half.a 0).bgOut = none ∧ (w54_7.half Half.a).coreStopped.contains 0 = false)) := by
  refine ⟨⟨?_, ?_, ?_, ?_, ?_, ?_, ?_, ?_⟩, ⟨?_, ?_⟩⟩ <;> decide +kernel
/-! O55: TaskStartAndStopCommandsComplete -/
def w55_0 : State := { State.reset with live := [(HalfR.halfStatus Half.a, 4)] }
def w55_1 : State := { State.reset with live := [(HalfR.halfStatus Half.a, 0x4)] }
def w55_2 : State := { State.reset with live := [(Apc.taskStatus Half.a 0, 2), (HalfR.halfStatus Half.a, 4)] }
def w55_3 : State := { State.reset with live := [(HalfR.halfStatus Half.a, 0x4), (Apc.taskStatus Half.a 0, 0x1)] }
def w55_5 : State := { State.reset with a.tasks := [(0, { phase := 4, start := 1 })], a.img.active := [(taskRegion 0, (⟨false, [], 1, 0, 0, 0⟩ : RegCopy))] }
theorem wit_TaskStartAndStopCommandsComplete :
    (w55_0.runs Half.a = true ∧ w55_0.hstate Half.a = 4 ∧ ((List.range 16).all (fun k => (w55_0.task Half.a k).prep == 0) = true))
    ∧ (w55_1.runs Half.a = true ∧ w55_1.hstate Half.a = 4)
    ∧ (0 < 16 ∧ w55_2.runs Half.a = true ∧ w55_2.hstate Half.a = 4 ∧ w55_2.taskState Half.a 0 ≠ 0 ∧ w55_2.taskState Half.a 0 ≠ 1)
    ∧ (0 < 16 ∧ w55_3.runs Half.a = true ∧ w55_3.hstate Half.a = 4 ∧ (w55_3.taskState Half.a 0 = 1 ∨ w55_3.taskState Half.a 0 = 5) ∧ (w55_3.task Half.a 0).prep = 0)
    ∧ (0 < 16 ∧ State.reset.runs Half.a = true)
    ∧ (0 < 16 ∧ w55_5.runs Half.a = true ∧ (w55_5.task Half.a 0).phase = 4 ∧ (w55_5.task Half.a 0).start = 1 ∧ w55_5.activeCopy Half.a (taskRegion 0) = some (⟨false, [], 1, 0, 0, 0⟩ : RegCopy)) := by
  refine ⟨?_, ?_, ?_, ?_, ?_, ?_⟩ <;> decide +kernel
/-! O56: OnlineChangeQueueAndTimerCommandsComplete -/
def w56_0 : State := { State.reset with live := [(Apc.taskStatus Half.a 0, 2)], marked := [regionUnit Half.a (taskRegion 0)], a.img.ready := [(taskRegion 0, (⟨false, [], 1, 0, 0, 0⟩ : RegCopy))] }
def w56_1 : State := { State.reset with live := [(HalfR.halfStatus Half.a, 0x4), (Apc.taskStatus Half.a 0, 0x2)], a.tasks := [(0, { prep := 2 })], a.img.ready := [(taskRegion 0, (⟨false, [(0x200000, 0), (0x200004, 0), (0x200008, 0), (0x20000C, 0x10001)], 1, 0, 0, 0⟩ : RegCopy))] }
def w56_2 : State := { State.reset with live := [(loopMapAt Half.a 0, 0x20000)], a.loopq := [(⟨false, 0, 8, 5, 16⟩ : LoopWord)] }
theorem wit_OnlineChangeQueueAndTimerCommandsComplete :
    (w56_0.runs Half.a = true ∧ w56_0.readyCopy Half.a (taskRegion 0) = some (⟨false, [], 1, 0, 0, 0⟩ : RegCopy) ∧ w56_0.regionMarked Half.a (taskRegion 0) = true ∧ w56_0.pairOk Half.a (taskRegion 0) = true ∧ (w56_0.task Half.a 0).prep = 0 ∧ w56_0.taskState Half.a 0 ≠ 0 ∧ (⟨false, [], 1, 0, 0, 0⟩ : RegCopy).remove = false)
    ∧ (0 < 16 ∧ w56_1.runs Half.a = true ∧ w56_1.hstate Half.a = 4 ∧ w56_1.taskState Half.a 0 = 2 ∧ w56_1.readyCopy Half.a (taskRegion 0) = some (⟨false, [(0x200000, 0), (0x200004, 0), (0x200008, 0), (0x20000C, 0x10001)], 1, 0, 0, 0⟩ : RegCopy) ∧ (w56_1.task Half.a 0).prep = 2 ∧ (w56_1.task Half.a 0).phase = 0 ∧ (⟨false, [(0x200000, 0), (0x200004, 0), (0x200008, 0), (0x20000C, 0x10001)], 1, 0, 0, 0⟩ : RegCopy).words = [(0x200000, (0 : Word)), (0x200004, (0 : Word)), (0x200008, (0 : Word)), (0x20000C, (0x10001 : Word))] ∧ bits (0x10001 : Word) 15 0 = 1 ∧ bits (0x10001 : Word) 31 16 = 1 ∧ bits (0 : Word) 15 8 = bits (0 : Word) 7 0 ∧ (0 : Word) ≠ 0xFFFFFFFF)
    ∧ (w56_2.runs Half.a = true ∧ 0 < 4096 ∧ 3 ≤ (⟨false, 0, 8, 5, 16⟩ : LoopWord).off ∧ (⟨false, 0, 8, 5, 16⟩ : LoopWord).off ≤ 35 ∧ (⟨false, 0, 8, 5, 16⟩ : LoopWord).mot = false ∧ (w56_2.half Half.a).loopq = [(⟨false, 0, 8, 5, 16⟩ : LoopWord)] ∧ w56_2.copySlotOf Half.a (⟨false, 0, 8, 5, 16⟩ : LoopWord).loop = some 0 ∧ w56_2.pend Half.a (18 + 0 / 1024) = false ∧ w56_2.standby Half.a 0 = false ∧ descOf (lowAddr (slotBase Half.a 0 + 4 * (⟨false, 0, 8, 5, 16⟩ : LoopWord).off)) = some ((descOf (lowAddr (slotBase Half.a 0 + 4 * 8))).getD ⟨0, [], .rw, 0, 0, 0, 0⟩) ∧ ((descOf (lowAddr (slotBase Half.a 0 + 4 * 8))).getD ⟨0, [], .rw, 0, 0, 0, 0⟩).acc = .rw ∧ ((descOf (lowAddr (slotBase Half.a 0 + 4 * 8))).getD ⟨0, [], .rw, 0, 0, 0, 0⟩).grp = 18 ∧ ((descOf (lowAddr (slotBase Half.a 0 + 4 * 8))).getD ⟨0, [], .rw, 0, 0, 0, 0⟩).cmask = 0 ∧ ((descOf (lowAddr (slotBase Half.a 0 + 4 * 8))).getD ⟨0, [], .rw, 0, 0, 0, 0⟩).wmask ≠ 0)
    ∧ (State.reset.runs Half.a = true ∧ 0 < 4096) := by
  refine ⟨?_, ?_, ?_, ?_⟩ <;> decide +kernel
/-! O58: ResetStateIsAsTheSpecGivesIt -/
theorem wit_ResetStateIsAsTheSpecGivesIt :
    0 < 22 := by
  decide +kernel
/-! ### O31: what the burst arbiter chooses -/

theorem arbPick_none {n : Nat} {w len : Nat → Nat} {can : Nat → Bool} (h : ∀ c, w c = 0 ∨ can c = false) (k : Nat) :
    ∀ a, arbPick n w len can k a = none := by
  induction k with
  | zero => intro a; rfl
  | succ k ih => intro a; rcases h a.turn with h0 | h0 <;> simp [arbPick, h0, ih]
theorem arbPick_first {n : Nat} {w len : Nat → Nat} {can : Nat → Bool} {a : ArbSt} (k : Nat) (ht : a.turn = 0)
    (hb : a.begun = false) (hw : w 0 ≠ 0) (hc : can 0 = true) (hl : len 0 ≤ 64) :
    ∃ b, arbPick n w len can (k + 1) a = some (0, b) := by
  have h1 : len 0 ≤ Map.get (fun _ => 0) a.deficit 0 + 64 * w 0 := by omega
  exact ⟨_, by simp [arbPick, ht, hb, hw, hc, h1]; rfl⟩
theorem requesting_pos {s : State} {h : Half} {e n : Nat} (i : Nat) (hi : i < n)
    (hd : (s.drainOf h (e + i)).isSome = true) : s.requesting h e n ≠ 0 := by
  intro hz
  rw [State.requesting, List.length_eq_zero_iff, List.filter_eq_nil_iff] at hz
  exact hz i (List.mem_range.mpr hi) hd
theorem drainOf_none {s : State} {h : Half} (hs : (s.half h).slots = []) (e : Nat) : s.drainOf h e = none := by
  simp [State.drainOf, State.run, hs, Map.get, List.range, List.range.loop]
theorem requesting_zero {s : State} {h : Half} (hs : (s.half h).slots = []) (e n : Nat) : s.requesting h e n = 0 := by
  simp [State.requesting, drainOf_none hs]
theorem canBurst_full {s : State} {h : Half} (hp : (s.half h).tray.packets = []) (hr : s.trayRoom h 8 = 0) (e : Nat) :
    s.canBurst h e = false := by
  unfold State.canBurst
  cases s.drainOf h e with
  | none => rfl
  | some x => simp [State.engPacket, hp, hr]
theorem slabPick_full {s : State} {h : Half} (hp : (s.half h).tray.packets = []) (hr : s.trayRoom h 8 = 0) (b : Nat) :
    s.slabPick h b = none :=
  arbPick_none (fun c => .inr (by
    show (s.clusterPick h (8 * b + c)).isSome = false
    rw [show s.clusterPick h (8 * b + c) = none from arbPick_none (fun j => .inr (canBurst_full hp hr _)) _ _]; rfl)) _ _

/-- One packet ready in slot 0. -/
def arbSt : State := { State.reset with
  a.slots := [(0, { packets := [(⟨0, 0, false, 1, 0, 1, 0, [], 0, 0, 0, some 0⟩ : TracePkt)] })] }
/-- The same with Tray 8 full. -/
def arbFull : State := { arbSt with live := [(Tray.trayRes Half.a 8, 0xFFFFFFFF)] }
theorem arbSt_cluster : ∃ b, arbSt.clusterPick .a 0 = some (0, b) :=
  arbPick_first 33 (by decide +kernel) (by decide +kernel) (requesting_pos 0 (by decide) (by decide +kernel)) (by decide +kernel)
    (by decide +kernel)
theorem arbSt_slab : ∃ b, arbSt.slabPick .a 0 = some (0, b) := by
  obtain ⟨b, hb⟩ := arbSt_cluster
  refine arbPick_first 17 (by decide +kernel) (by decide +kernel) (requesting_pos 0 (by decide) (by decide +kernel)) ?_ ?_
  · show (arbSt.clusterPick .a 0).isSome = true
    rw [hb]; rfl
  · show arbSt.clusterLen .a 0 ≤ 64
    rw [State.clusterLen, hb]; exact (by decide +kernel : arbSt.burstLen .a 0 ≤ 64)
theorem arbSt_pick : ∃ b, arbPick 4 (fun b => arbSt.requesting .a (128 * b) 128) (arbSt.slabLen .a)
    (fun b => (arbSt.slabPick .a b).isSome) 10 (arbSt.arb .a 0) = some (0, b) := by
  obtain ⟨b, hb⟩ := arbSt_slab
  obtain ⟨c, hc⟩ := arbSt_cluster
  refine arbPick_first 9 (by decide +kernel) (by decide +kernel) (requesting_pos 0 (by decide) (by decide +kernel)) ?_ ?_
  · show (arbSt.slabPick .a 0).isSome = true
    rw [hb]; rfl
  · show arbSt.slabLen .a 0 ≤ 64
    rw [State.slabLen, hb]
    show arbSt.clusterLen .a 0 ≤ 64
    rw [State.clusterLen, hc]; exact (by decide +kernel : arbSt.burstLen .a 0 ≤ 64)
/-- The three clauses of ENGINE_BURST_GRANT: nothing requests, Tray 8 has no room, and a burst. -/
theorem wit_EngineBurstGrant :
    (State.reset.runs .a = true
      ∧ arbPick 4 (fun b => State.reset.requesting .a (128 * b) 128) (State.reset.slabLen .a)
          (fun b => (State.reset.slabPick .a b).isSome) 10 (State.reset.arb .a 0) = none
      ∧ State.reset.requesting .a 0 512 = 0)
    ∧ (arbFull.runs .a = true
      ∧ arbPick 4 (fun b => arbFull.requesting .a (128 * b) 128) (arbFull.slabLen .a)
          (fun b => (arbFull.slabPick .a b).isSome) 10 (arbFull.arb .a 0) = none
      ∧ arbFull.requesting .a 0 512 ≠ 0)
    ∧ (arbSt.runs .a = true ∧ (∃ b, arbPick 4 (fun b => arbSt.requesting .a (128 * b) 128) (arbSt.slabLen .a)
          (fun b => (arbSt.slabPick .a b).isSome) 10 (arbSt.arb .a 0) = some (0, b))
      ∧ (∃ b, arbSt.slabPick .a 0 = some (0, b)) ∧ ∃ b, arbSt.clusterPick .a 0 = some (0, b)) :=
  ⟨⟨rfl, arbPick_none (fun c => .inl (requesting_zero rfl _ _)) _ _, requesting_zero rfl _ _⟩,
   ⟨rfl, arbPick_none (fun c => .inr (by
      show (arbFull.slabPick .a c).isSome = false
      rw [slabPick_full rfl (by decide +kernel)]; rfl)) _ _, requesting_pos 0 (by decide) (by decide +kernel)⟩,
   ⟨rfl, arbSt_pick, arbSt_slab, arbSt_cluster⟩⟩

/-! ### O23: both edges of the external input -/

/-- Input 0 after an edge (its DI_STATUS and what stood before), which group 0 names; a SAFETY term of that group. -/
def extSt (st was term : Nat) : State := { State.reset with
  live := [(Din.diStatus 0, BitVec.ofNat 32 st), (Lid.resetGrp 0, 4), (Lid.termCtrl 0, 1), (Lid.termStatus 0, BitVec.ofNat 32 term)]
  deck.dins := [(0, { since := 125000000, was := was, wasFor := 125000000 })] }
theorem wit_LidResetByInput : (extSt 0x11 2 2).extEdge 0 true = true
    ∧ (extSt 0x11 2 2).groupTerms 3 ((extSt 0x11 2 2).extGroups 0) 2 = [0]
    ∧ (extSt 0x10 3 0x303).extEdge 0 false = true
    ∧ (extSt 0x10 3 0x303).groupTerms 3 ((extSt 0x10 3 0x303).extGroups 0) 3 = [0]
    ∧ (extSt 0x10 3 0x303).fd (Lid.termStatus 0) 9 8 = 3 := by
  decide +kernel
/-! ### Native code: runs with one word at their PC -/

/-- A task's run, background code, and what they hold: G1 = 6, G2 = 3, G5 an address, F1 = 1.0, F2 = 2.0. -/
def natX : Ctx := { kind := 0, task := 0, pc := 0x100000100, g := [(1, 6), (2, 3), (5, 0x80000000)], f := [(1, 0x3F800000), (2, 0x40000000)] }
def bgX : Ctx := { natX with kind := 4 }
/-- TASK region 0 with native word `w` at code offset 0x100, and core 0 running `x`. -/
def natSt (w : Nat) (x : Ctx) : State :=
  { State.reset with
    live := [(Apc.taskCfg .a 0, 0), (Apc.codeLen .a 0, 0x1000), (Apc.dataLen .a 0, 0x1000), (Apc.codeCfg .a 0, 1),
      (Apc.timer .a 6 0, 0x1001), (loopMapAt .a 6, 0x20000)]
    a.img.active := [(taskRegion 0, ⟨false, [(0x1000100, BitVec.ofNat 32 w)], 0, 0, 0, 0⟩)]
    a.tasks := [(0, { phase := 2, ctx := x })]
    a.cores := [(0, if x.kind = 4 then { bg := some x } else { stack := [0] })] }
theorem natSt_copy (w : Nat) (x : Ctx) : (natSt w x).activeCopy .a (taskRegion 0)
    = some ⟨false, [(0x1000100, BitVec.ofNat 32 w)], 0, 0, 0, 0⟩ := by
  simp [State.activeCopy, natSt, State.half]
theorem natSt_code (w : Nat) (x : Ctx) (hw : w < 2 ^ 32) : (natSt w x).codeNat .a 0 0x100 4 = w := by
  simp only [State.codeNat, natSt_copy, RegCopy.byteAt, RegCopy.word]
  simp [List.range, List.range.loop, Map.get, leNat, Nat.mod_eq_of_lt hw]
  omega
theorem natSt_ic (w : Nat) (x : Ctx) : (natSt w x).taskIc .a 0 = false := by
  simp [State.taskIc, State.bt, State.rg, natSt, Map.get, bit]
theorem natSt_region (w : Nat) (x : Ctx) (ht : x.task = 0) :
    (natSt w x).region .a x 0x100000100 4 = (.code, 0x100) := by
  have h1 : (natSt w x).rn (Apc.codeLen .a 0) = 0x1000 := rfl
  unfold State.region
  rw [ht, h1]
  by_cases hk : x.kind = 4 <;> simp [hk]
/-- Every native word stands at the PC of such a run of task code. -/
theorem natAt_task (w : Nat) (hw : w < 2 ^ 32) (x : Ctx) (hk : x.kind = 0) (ht : x.task = 0)
    (hp : x.pc = 0x100000100) : NatAt (natSt w x) .a 0 x w := by
  obtain ⟨kind, task, g, f, pc, fctl, lqw, rel, cyc, off, stk, calls, halted, div0⟩ := x
  simp only at hk ht hp
  subst hk ht hp
  refine ⟨⟨rfl, rfl, ?_⟩, ?_, ?_, 0x100, ?_, ?_⟩
  · exact ⟨[], rfl⟩
  · right; exact natSt_ic _ _
  · show (0x100000100 : Nat) % 4 = 0; decide
  · exact natSt_region _ _ rfl
  · exact natSt_code _ _ hw
/-- And of background code. -/
theorem natAt_bg (w : Nat) (hw : w < 2 ^ 32) (x : Ctx) (hk : x.kind = 4) (ht : x.task = 0)
    (hp : x.pc = 0x100000100) : NatAt (natSt w x) .a 0 x w := by
  obtain ⟨kind, task, g, f, pc, fctl, lqw, rel, cyc, off, stk, calls, halted, div0⟩ := x
  simp only at hk ht hp
  subst hk ht hp
  refine ⟨⟨rfl, rfl, ?_⟩, ?_, ?_, 0x100, ?_, ?_⟩
  · rfl
  · left; rfl
  · show (0x100000100 : Nat) % 4 = 0; decide
  · exact natSt_region _ _ rfl
  · exact natSt_code _ _ hw
/-- The words of the two-register formats with the registers used below. -/
theorem enc_small (op d s1 s2 r : Nat) (h1 : op < 64) (h2 : d < 32) (h3 : s1 < 32) (h4 : s2 < 32) (h5 : r < 2 ^ 11) :
    encA op d s1 s2 r < 2 ^ 32 := by
  simp only [encA]; omega
theorem encI_small (op d s1 imm : Nat) (h1 : op < 64) (h2 : d < 32) (h3 : s1 < 32) (h5 : imm < 2 ^ 16) :
    encI op d s1 imm < 2 ^ 32 := by
  simp only [encI]; omega

/-- O32, O37: every ALU and conversion word stands at the PC of some run; G2 is not 0 (a quotient), G4 is (division by 0). -/
theorem wit_NativeAlu_NativeConversion (op fn : Nat) (h1 : op < 64) (h2 : fn < 2 ^ 11) :
    NatAt (natSt (encA op 3 1 2 fn) natX) .a 0 natX (encA op 3 1 2 fn)
    ∧ NatAt (natSt (encA op 3 1 4 fn) natX) .a 0 natX (encA op 3 1 4 fn) ∧ natX.gr 2 = 3 ∧ natX.gr 4 = 0 :=
  ⟨natAt_task _ (enc_small _ _ _ _ _ h1 (by decide) (by decide) (by decide) h2) _ rfl rfl rfl,
   natAt_task _ (enc_small _ _ _ _ _ h1 (by decide) (by decide) (by decide) h2) _ rfl rfl rfl, by decide, by decide⟩
/-- O33, O34, O35: every word of formats I and B, with every register S1 and immediate; `lch` and `shi` in both their forms. -/
theorem wit_NativeImmediate_LoadStore_Branch (op s1 imm : Nat) (h1 : op < 64) (h2 : s1 < 32) (h3 : imm < 2 ^ 16) :
    NatAt (natSt (encI op 3 s1 imm) natX) .a 0 natX (encI op 3 s1 imm)
    ∧ (63 / 64 % 4 ≠ 3 ∧ 255 / 64 % 4 = 3) :=
  ⟨natAt_task _ (encI_small _ _ _ _ h1 (by decide) h2 h3) _ rfl rfl rfl, by decide⟩
theorem wit_NativeLcn_Jmp_Call (imm off op : Nat) (h1 : imm < 2 ^ 21) (h2 : off < 2 ^ 26) (h3 : op < 64) :
    NatAt (natSt (encU 8 3 imm) natX) .a 0 natX (encU 8 3 imm)
    ∧ NatAt (natSt (encJ op off) natX) .a 0 natX (encJ op off) :=
  ⟨natAt_task _ (by simp only [encU]; omega) _ rfl rfl rfl, natAt_task _ (by simp only [encJ]; omega) _ rfl rfl rfl⟩
/-- O35: a JRL to EXIT_LINK and one elsewhere, and its reserved FN. -/
theorem wit_NativeJrl : NatAt (natSt (encA 0x28 0 1 0 0) natX) .a 0 natX (encA 0x28 0 1 0 0)
    ∧ (natX.gr 1).toNat ≠ exitLink
    ∧ NatAt (natSt (encA 0x28 0 1 0 0) { natX with g := [(1, BitVec.ofNat 64 exitLink)] }) .a 0
        { natX with g := [(1, BitVec.ofNat 64 exitLink)] } (encA 0x28 0 1 0 0)
    ∧ ((⟨0, 0, [(1, BitVec.ofNat 64 exitLink)], [], 0, 0, [], 0, 0, 0, [], [], false, false⟩ : Ctx).gr 1).toNat = exitLink
    ∧ NatAt (natSt (encA 0x28 0 1 0 1) natX) .a 0 natX (encA 0x28 0 1 0 1) :=
  ⟨natAt_task _ (by decide) _ rfl rfl rfl, by decide, natAt_task _ (by decide) _ rfl rfl rfl, by decide,
   natAt_task _ (by decide) _ rfl rfl rfl⟩
/-- O34: an access that no rule stops (the data area), and one that faults (no area). -/
theorem wit_NativeAccess : (natSt 0 natX).accessFault .a natX 0x200000000 8 true = none
    ∧ (natSt 0 natX).accessFault .a natX 0x200000000 8 false = none
    ∧ (natSt 0 natX).accessFault .a natX 8 8 false = some 3 ∧ (natSt 0 natX).accessFault .a natX 0x300000000 8 true = some 5 := by
  decide +kernel
/-- O36: every FPU word, in both formats, with a trap enabled and with none. -/
theorem wit_NativeFloat (fn : Nat) (h : fn < 2 ^ 6) (y : Word) :
    NatAt (natSt (encF 0x30 3 1 2 1 fn) { natX with fctl := y }) .a 0 { natX with fctl := y } (encF 0x30 3 1 2 1 fn) :=
  natAt_task _ (by simp only [encF]; omega) _ rfl rfl rfl
/-- O38, O39: every word of opcode 0x3E, in task code and in background code, with any registers and release instant. -/
theorem wit_NativeStation (fn : Nat) (h : fn < 2 ^ 11) (g : Map Dword) (r : Nat) :
    NatAt (natSt (encA 0x3E 3 1 2 fn) { natX with g := g, rel := r }) .a 0 { natX with g := g, rel := r } (encA 0x3E 3 1 2 fn)
    ∧ NatAt (natSt (encA 0x3E 3 1 2 fn) { bgX with g := g }) .a 0 { bgX with g := g } (encA 0x3E 3 1 2 fn) :=
  ⟨natAt_task _ (enc_small _ _ _ _ _ (by decide) (by decide) (by decide) (by decide) h) _ rfl rfl rfl,
   natAt_bg _ (enc_small _ _ _ _ _ (by decide) (by decide) (by decide) (by decide) h) _ rfl rfl rfl⟩
/-- O38: the conditions of its timer and loop clauses: timer 6 is task 0's and loop 6 has a copy. -/
theorem wit_NativeTimer : (natSt 0 natX).tmOwned .a 6 0 = true ∧ (natSt 0 natX).tmKind .a 6 = 1
    ∧ (natSt 0 natX).bt (Apc.timer .a 6 0) 2 = false ∧ (1 : Dword).getLsbD 0 = true ∧ natX.rel < 2 ^ 64
    ∧ (natSt 0 natX).tmOwned .a 7 0 = false
    ∧ (natSt 0 natX).copySlotOf .a 6 = some 0 ∧ (natSt 0 natX).copySlotOf .a 7 = none
    ∧ (natSt 0 natX).running .a 0 = some natX ∧ (natSt 0 natX).codeNat .a 0 0x100 4 = 0 := by
  decide +kernel
/-- O38: words of `a` that name word 3, 2 and 40 of loop 6, the state area, and empty queues. -/
theorem wit_NativeLoopWords : (6 + 3 * 2 ^ 16) / 2 ^ 16 % 64 = 3 ∧ (6 + 2 * 2 ^ 16) / 2 ^ 16 % 64 < 3
    ∧ (6 + 2 ^ 12 + 40 * 2 ^ 16) / 2 ^ 12 % 2 = 1 ∧ 32 ≤ (6 + 2 ^ 12 + 40 * 2 ^ 16) / 2 ^ 16 % 64
    ∧ natX.lqw.length < 256 ∧ (∀ e ∈ natX.lqw, ¬ (e.1 = 6 ∧ e.2.1 = 3)) ∧ bgX.kind = 4
    ∧ ((natSt 0 bgX).copySlotOf .a 6).isSome = true ∧ ((natSt 0 bgX).half .a).loopq.length < 1024
    ∧ (∀ e ∈ ((natSt 0 bgX).half .a).loopq, ¬ (e.mot = false ∧ e.loop = 6 ∧ e.off = 3)) := by
  decide +kernel
/-- O39: station addresses in DDR that cores may read and write, one that is not aligned, and the bounds of CHK. -/
theorem wit_NativeStationAddress : stationFault 0x80000000 4 = none ∧ stationFault 0x80000000 8 = none
    ∧ (natSt 0 natX).busBad .a 0x80000000 false = false ∧ (natSt 0 natX).busBad .a 0x80000000 true = false
    ∧ isDdr (lowAddr 0x80000000) = true ∧ stationFault 0x80000001 4 = some 2 ∧ natX.task < 16
    ∧ (natX.gr 2).toNat < (natX.gr 1).toNat := by
  decide +kernel
/-- O40: runs whose PC is misaligned, in a guard and in data, and a word that is not defined. -/
theorem wit_CodeFaults : natX.task < 16 ∧ (natSt 0 natX).bt (Apc.codeCfg .a 0) 0 = true
    ∧ (natSt 0 natX).runs .a = true ∧ (natSt 0 natX).running .a 0 = some natX ∧ natX.pc ≠ exitLink
    ∧ ((natSt 0 natX).region .a natX 0x300000000 4).1 = .guard ∧ ((natSt 0 natX).region .a natX 0x200000000 4).1 = .data
    ∧ definedWord 0xFFFFFFFF = false ∧ 0xFFFFFFFF < 2 ^ 32 := by
  decide +kernel
theorem wit_CodeFaults_undefined : NatAt (natSt 0xFFFFFFFF natX) .a 0 natX 0xFFFFFFFF :=
  natAt_task _ (by decide) _ rfl rfl rfl
/-! ### Intermediate code: runs with some bytes at their offset -/

/-- A task's run at code offset 0x100 with an evaluation stack. -/
def icX (stk : List Word) : Ctx := { off := 0x100, stk := stk }
/-- TASK region 0 with the bytes `bs` at code offset 0x100 of code that runs from 0x100 to 0x200, and core 0 running `x`. -/
def icSt (bs : List Nat) (x : Ctx) : State :=
  { State.reset with
    live := [(Apc.taskCfg .a 0, 0x1000), (Apc.codeLen .a 0, 0x1000), (Apc.dataLen .a 0, 0x1000),
      (Apc.timer .a 0 0, 0x1001), (loopMapAt .a 0, 0x20000), (Apc.icStatus .a 0, 0)]
    a.img.active := [(taskRegion 0, ⟨false, [(0x1000034, 0x100), (0x1000038, 0x200),
      (0x1000100, BitVec.ofNat 32 (leNat (bs.map (BitVec.ofNat 8)))),
      (0x1000104, BitVec.ofNat 32 (leNat ((bs.drop 4).map (BitVec.ofNat 8))))], 0, 0, 0, 0⟩)]
    a.tasks := [(0, { phase := 2, ctx := x })]
    a.cores := [(0, { stack := [0] })] }
/-- The same as a check. -/
def icChk (s : State) (x : Ctx) (bs : List Nat) : Bool :=
  s.runs .a && (s.running .a 0 == some x) && ((s.core .a 0).stack == [x.task]) && decide (x.kind ≠ 4)
    && s.taskIc .a x.task && decide (s.hdr .a x.task 0x34 ≤ x.off) && decide (x.off + bs.length ≤ s.hdr .a x.task 0x38)
    && decide (x.stk.length ≤ 256) && (s.codeNat .a x.task x.off bs.length == leNat (bs.map (BitVec.ofNat 8)))
theorem icAt_of {s : State} {x : Ctx} {bs : List Nat} (h : icChk s x bs = true) : IcAt s .a 0 x bs := by
  simp only [icChk, Bool.and_eq_true, beq_iff_eq, decide_eq_true_eq] at h
  obtain ⟨⟨⟨⟨⟨⟨⟨⟨h1, h2⟩, h3⟩, h4⟩, h5⟩, h6⟩, h7⟩, h8⟩, h9⟩ := h
  exact ⟨⟨h1, h2, by rw [if_neg h4]; exact ⟨[], h3⟩⟩, h4, h5, h6, h7, h8, h9⟩
/-- A run whose stack holds `stk` and the bytes `bs` at its offset. -/
def icHas (bs : List Nat) (stk : List Word) : Bool := icChk (icSt bs (icX stk)) (icX stk) bs
/-- O41: pushes on an empty and on a full stack, the stack instructions on enough and on too few cells, jumps taken and not. -/
theorem wit_IcStack : (([([0], []), ([1, 0x80], []), ([2, 1, 0x80], []), ([3, 1, 2, 3, 4], []), ([4], [1]), ([5], [1]), ([6], [1, 2]),
    ([7], [1, 2]), ([4], []), ([5], []), ([6], [1]), ([7], [1]), ([0x60, 1, 0], []), ([0x61, 1, 0], [0]), ([0x61, 1, 0], [1]),
    ([0x62, 1, 0], [1]), ([0x63, 1, 0, 0], []), ([0x64], []), ([0x65], []), ([1, 0x80], List.replicate 256 0),
    ([2, 1, 0x80], List.replicate 256 0), ([3, 1, 2, 3, 4], List.replicate 256 0), ([4], List.replicate 256 0), ([7], List.replicate 256 0),
    ([0x61, 1, 0], []), ([0x62, 1, 0], [])] : List (List Nat × List Word)).all (fun e => icHas e.1 e.2)) = true := by
  decide +kernel
/-- O41: a run with a return offset, and one with 32. -/
theorem wit_IcCalls : icChk (icSt [0x64] { icX [] with calls := [0x120] }) { icX [] with calls := [0x120] } [0x64] = true
    ∧ icChk (icSt [0x63, 1, 0, 0] { icX [] with calls := List.replicate 32 0x120 }) { icX [] with calls := List.replicate 32 0x120 }
        [0x63, 1, 0, 0] = true := by
  decide +kernel
/-- O42, O43: every instruction of one byte, with three cells, with one and with none. -/
theorem wit_IcInteger_IcReal : (([0x20, 0x21, 0x22, 0x23, 0x24, 0x25, 0x26, 0x27, 0x28, 0x29, 0x30, 0x31, 0x32, 0x33, 0x34, 0x35, 0x36,
    0x37, 0x40, 0x41, 0x42, 0x43, 0x44, 0x45, 0x48, 0x49, 0x4A, 0x4B, 0x4C, 0x4D, 0x50, 0x51, 0x52, 0x53, 0x56, 0x70, 0x71, 0x72]
      : List Nat).all (fun op => icHas [op] [3, 2, 1] && icHas [op] [1] && icHas [op] [])) = true := by
  decide +kernel
/-- O42: division by 0 with DIV0_CNT below its limit, and the shifts. -/
theorem wit_IcDivide : icHas [0x23] [0, 5] = true ∧ icHas [0x24] [0, 5] = true
    ∧ (icSt [0x24] (icX [0, 5])).fd (Apc.icStatus .a 0) 31 20 < 4095 ∧ icHas [0x54, 3] [5] = true ∧ icHas [0x55, 40] [5] = true ∧ icHas [0x54, 3] [] = true := by
  decide +kernel
/-- O43: the orders of RLIMIT's operands (1.0, 2.0 and 3.0). -/
theorem wit_IcRlimit : f32.lt (flush32 0x3F800000) (flush32 0x40000000) = true
    ∧ f32.lt (flush32 0x40000000) (flush32 0x40400000) = true ∧ f32.lt (flush32 0x3F800000) (flush32 0x40400000) = true
    ∧ icHas [0x37] [0x40400000, 0x40000000, 0x3F800000] = true := by
  decide +kernel
/-- O44: loads and stores of the data area, and an index that leaves it. -/
theorem wit_IcData : (([([0x10, 4, 0, 0], []), ([0x11, 4, 0, 0], []), ([0x12, 4, 0, 0], []), ([0x13, 4, 0, 0], [1]), ([0x13, 4, 0, 0], [0x7FFFFFFF]),
    ([0x18, 4, 0, 0], [1]), ([0x19, 4, 0, 0], [1]), ([0x1A, 4, 0, 0], [1]), ([0x1B, 4, 0, 0], [7, 1]), ([0x1B, 4, 0, 0], [7, 0xFFFFFFF0]),
    ([0x80, 1, 0], []), ([0x81, 1, 0], [9])] : List (List Nat × List Word)).all (fun e => icHas e.1 e.2)) = true := by
  decide +kernel
/-- O45: timer 0 is task 0's, timer 1 is not; the loop that LOOP_MAP entry 0 names has a copy. -/
def icTm (bs : List Nat) (stk : List Word) (n : Nat) : State :=
  let s := icSt bs (icX stk)
  { s with a.img.active := s.a.img.active.map (fun e => (e.1, { e.2 with words := e.2.words ++ [(0x1004000, BitVec.ofNat 32 n)] })) }
theorem wit_IcTimer : icChk (icTm [0x90, 0] [100, 1] 0) (icX [100, 1]) [0x90, 0] = true
    ∧ (icTm [0x90, 0] [100, 1] 0).tmOwned .a ((icTm [0x90, 0] [100, 1] 0).icTimer .a (icX [100, 1]) 0) 0 = true
    ∧ (icTm [0x90, 0] [100, 1] 0).icTimer .a (icX [100, 1]) 0 < 4096
    ∧ icChk (icTm [0x90, 0] [100, 1] 1) (icX [100, 1]) [0x90, 0] = true
    ∧ (icTm [0x90, 0] [100, 1] 1).tmOwned .a ((icTm [0x90, 0] [100, 1] 1).icTimer .a (icX [100, 1]) 0) 0 = false
    ∧ icChk (icTm [0x91, 0] [] 0) (icX []) [0x91, 0] = true
    ∧ (icTm [0x91, 0] [] 0).tmOwned .a ((icTm [0x91, 0] [] 0).icTimer .a (icX []) 0) 0 = true := by
  decide +kernel
theorem wit_IcLoop : icChk (icTm [0xA2, 0] [] 0) (icX []) [0xA2, 0] = true
    ∧ (icTm [0xA2, 0] [] 0).copySlotOf .a ((icTm [0xA2, 0] [] 0).icLoop .a (icX []) 0) = some 0
    ∧ (([([0xA0, 0], [1]), ([0xA1, 0], [1]), ([0xF0], []), ([0xF1], []), ([0xF2], [1]), ([0xFF], [])]
      : List (List Nat × List Word)).all (fun e => icHas e.1 e.2)) = true ∧ (icX []).lqw.length < 256 ∧ (icX []).lqw = [] := by
  decide +kernel
/-- O45: HALT in a start routine. -/
theorem wit_IcHaltStart : icChk (icSt [0xFF] { icX [] with kind := 1 }) { icX [] with kind := 1 } [0xFF] = true := by
  decide +kernel

/-! ### O57, O59, O60 -/

theorem wit_StepRunsTheCommandAtTheFront :
    ({ State.reset with pending := [.pwSet .a, .mirrorLinkUp] } : State).pending = .pwSet .a :: [.mirrorLinkUp] ∧ State.reset.pending = [] :=
  ⟨rfl, rfl⟩
theorem wit_IdleStepsKeepShipTime : State.reset.pending = [] ∧ ∀ h, (State.reset.half h).time.acc < 2 ^ 96 :=
  ⟨rfl, fun h => by cases h <;> decide⟩
theorem wit_IntermediateCodeKeepsStacksBounded : isIc (.icNop .a 0) = true ∧ StacksBounded State.reset := by
  refine ⟨by decide, fun h k => ?_⟩
  cases h <;> exact ⟨⟨Nat.zero_le _, Nat.zero_le _⟩, fun b hb => nomatch hb⟩

end Sys2Proof.Tests
end

