-- ==== Sys2Proof/Proofs/Reset.lean ====
section
/-! PROOF. The state after reset (R46, R392): its sparse maps list nothing, so a live value and a shadow are their reset
word; the reset words that the statement names; and the bounds of the stacks that no task and no core has begun (R371). -/
namespace Sys2Proof.Machine

/-! ### Reading a state that lists nothing -/

/-- The straps are 0 at reset, and no live value is listed. -/
theorem State.rg_reset (a : Nat) : State.reset.rg a = resetWord 0 a := rfl
/-- No shadow is listed either, so shadow and live value agree. -/
theorem State.sh_reset (a : Nat) : State.reset.sh a = State.reset.rg a := rfl
theorem State.byte_reset (a : Nat) : State.reset.byte a = 0 := rfl
theorem State.half_reset (h : Half) : State.reset.half h = {} := by cases h <;> rfl

theorem State.runs_reset (h : Half) : State.reset.runs h = true := by
  simp [State.runs, State.half_reset]
theorem State.now_reset (h : Half) : State.reset.now h = 0 := by
  simp [State.now, State.half_reset]
theorem State.inbox_reset (h : Half) : (State.reset.half h).log.inbox = [] := by
  rw [State.half_reset]
theorem State.task_reset (h : Half) (k : Nat) : State.reset.task h k = {} := by
  simp [State.task, State.half_reset, Map.get]
theorem State.core_reset (h : Half) (c : Nat) : State.reset.core h c = {} := by
  simp [State.core, State.half_reset, Map.get]

/-! ### The reset words of CMT_PENDING, HALF_STATUS and LID_STATUS -/

theorem resetWord_cmtPending (straps : Nat) (h : Half) : resetWord straps (Cmt.cmtPending h) = 0 := by
  cases h <;> rfl
theorem resetWord_lidStatus (straps : Nat) : resetWord straps Lid.lidStatus = 0 := rfl
/-- STATE [2:0] is STARTING (R392). -/
theorem bits_resetWord_halfStatus (h : Half) : bits (resetWord 0 (HalfR.halfStatus h)) 2 0 = 0 := by
  cases h <;> decide +kernel

theorem State.hstate_reset (h : Half) : State.reset.hstate h = 0 := by
  rw [State.hstate, State.fd, State.rg_reset, bits_resetWord_halfStatus]
/-- Every bit of CMT_PENDING is clear, those past the groups of R50 too. -/
theorem State.pend_reset (h : Half) (g : Nat) : State.reset.pend h g = false := by
  simp [State.pend, State.bt, State.rg_reset, resetWord_cmtPending, bit]
/-- CONFIGURED of LID_STATUS is clear. -/
theorem State.lidConfigured_reset : State.reset.bt Lid.lidStatus 0 = false := by
  simp [State.bt, State.rg_reset, resetWord_lidStatus, bit]

/-! ### The stacks -/

/-- A context that has pushed nothing and called nothing keeps the bounds. -/
theorem Ctx.bounded_of_empty {x : Ctx} (hs : x.stk = []) (hc : x.calls = []) : x.bounded := by
  simp [Ctx.bounded, hs, hc]
/-- Every task's stacks are empty and no core has background code. -/
theorem stacksBounded_reset : StacksBounded State.reset := by
  intro h k
  rw [State.task_reset, State.core_reset]
  exact ⟨Ctx.bounded_of_empty rfl rfl, nofun⟩

/-- Settles O58: the state after reset, part by part. -/
theorem resetStateIsAsTheSpecGivesIt : Obligations.ResetStateIsAsTheSpecGivesIt :=
  have halves (h : Half) : State.reset.runs h = true ∧ State.reset.hstate h = 0 ∧ State.reset.now h = 0
      ∧ (State.reset.half h).log.inbox = [] :=
    ⟨State.runs_reset h, State.hstate_reset h, State.now_reset h, State.inbox_reset h⟩
  have nothingPends (h : Half) (g : Nat) (_ : g < 22) : State.reset.pend h g = false := State.pend_reset h g
  ⟨rfl, State.rg_reset, State.sh_reset, State.byte_reset, halves, nothingPends, rfl, rfl,
    State.lidConfigured_reset, State.wf_reset, stacksBounded_reset⟩

end Sys2Proof.Machine
end

section
/-! SUPPORT. What the event controller, the Tally counters and a bus error leave, and the decode of an address (R13, R40, R43, R62). -/
namespace Sys2Proof.Machine

/-! ### Event registers -/

/-- Asserting a source of the event controller changes event registers alone. -/
theorem State.rg_raise_of_not_eventReg (s : State) (h : Half) (src a : Nat) (hs : src < 1024) (ha : ¬ EventReg h a) :
    (s.raise h src).rg a = s.rg a := by
  apply State.rg_raise_other <;> rintro rfl <;> apply ha <;> right <;> simp only [Evc.srcCnt, Evc.pend] <;> omega

/-- Counting a Tally event changes event registers alone. -/
theorem State.rg_tally_of_not_eventReg (s : State) (h : Half) (ev a : Nat) (ha : ¬ EventReg h a) :
    (s.tally h ev).rg a = s.rg a := by
  refine State.rg_tally_other s h ev a ?_
  by_contra hc
  refine ha (.inl ?_)
  simp only [Tally.ctrCfg] at hc
  omega

/-- A Tally event leaves the pending bits. -/
theorem State.mapBit_pend_tally (s : State) (h : Half) (ev src : Nat) :
    (s.tally h ev).mapBit (Evc.pend h 0) src = s.mapBit (Evc.pend h 0) src := by
  have e : (s.tally h ev).rg (Evc.pend h 0 + 4 * (src / 32)) = s.rg (Evc.pend h 0 + 4 * (src / 32)) :=
    State.rg_tally_other s h ev _ (.inr (by simp only [Tally.ctrCfg, Evc.pend]; omega))
  rw [State.mapBit, State.bt, e]
  rfl

/-- One count changes of its half the counters alone. -/
theorem State.half_tallyInc (s : State) (h : Half) (n : Nat) :
    ∃ c, (s.tallyInc h n).half h = { s.half h with ctr := c } := by
  simp only [State.tallyInc]
  split <;> simp

/-- A Tally event changes of its half the counters alone. -/
theorem State.half_tally (s : State) (h : Half) (ev : Nat) : ∃ c, (s.tally h ev).half h = { s.half h with ctr := c } := by
  have fold (l : List (Nat × Word)) (t : State) :
      ∃ c, (l.foldl (fun u e => u.tallyInc h e.1) t).half h = { t.half h with ctr := c } := by
    induction l generalizing t with
    | nil => exact ⟨_, rfl⟩
    | cons e l ih =>
      obtain ⟨c, hc⟩ := ih (t.tallyInc h e.1)
      obtain ⟨d, hd⟩ := t.half_tallyInc h e.1
      exact ⟨c, by rw [List.foldl_cons, hc, hd]⟩
  simp only [State.tally]
  split
  · exact ⟨_, rfl⟩
  · exact fold _ s

/-! ### Bus errors (R43) -/

/-- What a bus error does in a half that runs: source 0, the address, the data abort of a core, and event registers alone. -/
theorem State.busError_spec (s : State) (h : Half) (m a : Nat) (hr : s.runs h = true) :
    Pends (s.busError h m a) h 0 ∧ ((s.busError h m a).half h).busErrAddr = a
      ∧ (m < 8 → m ∈ ((s.busError h m a).half h).dataAbort) ∧ SameMem s (s.busError h m a)
      ∧ SameShadows s (s.busError h m a) ∧ SameRegs s (s.busError h m a) (EventReg h) := by
  simp only [State.busError]
  generalize hu : State.modHalf s h _ = u
  have hrun : u.runs h = true := by
    rw [← hu, State.runs_modHalf _ _ _ _ rfl rfl]
    exact hr
  obtain ⟨c, hc⟩ := (u.raise h 0).half_tally h 0x0A81
  refine ⟨?_, ?_, fun hm => ?_, fun b => ?_, fun b => ?_, fun b hb => ?_⟩
  · rw [Pends, State.mapBit_pend_tally]
    exact u.raise_pends h 0 hrun (by decide)
  · rw [hc, State.half_raise, ← hu, State.half_modHalf]
  · rw [hc, State.half_raise, ← hu, State.half_modHalf]
    simp only [hm, if_true]
    split <;> simp_all
  · simp [← hu]
  · simp [← hu]
  · rw [State.rg_tally_of_not_eventReg _ _ _ _ hb, State.rg_raise_of_not_eventReg _ _ _ _ (by decide) hb, ← hu,
      State.rg_modHalf]

/-! ### Address decode (R13, R40) -/

theorem lowAddr_add_base (h : Half) (o : Nat) (ho : o < 0x800000000) : lowAddr (h.base + o) = o := by
  cases h <;> simp only [lowAddr, Half.base] <;> omega
theorem halfOf_add_base (h : Half) (o : Nat) (ho : o < 0x800000000) : halfOf (h.base + o) = h := by
  cases h
  · exact if_pos (by simp only [Half.base]; omega)
  · exact if_neg (by simp only [Half.base]; omega)
theorem lowAddr_lt (a : Nat) : lowAddr a < 0x800000000 := Nat.mod_lt _ (by decide)

/-- The word that holds a DDR address lies in the DDR window. -/
theorem isDdr_word (o : Nat) : isDdr (o / 4 * 4) = isDdr o := by
  simp only [isDdr, ← Bool.decide_and]
  exact decide_eq_decide.2 (by omega)
theorem isDeckBlock_word (o : Nat) : isDeckBlock (o / 4 * 4) = isDeckBlock o := by
  simp only [isDeckBlock, ← Bool.decide_and, ← Bool.decide_or]
  exact decide_eq_decide.2 (by omega)
theorem inWindow_of_isDdr {o : Nat} (ho : isDdr o = true) : inWindow o = true := by simp [inWindow, ho]
theorem isDeckBlock_of_isDdr {o : Nat} (ho : isDdr o = true) : isDeckBlock o = false := by
  simp only [isDdr, isDeckBlock, decide_eq_true_eq, ← Bool.decide_and, ← Bool.decide_or,
    decide_eq_false_iff_not] at ho ⊢
  omega


theorem inWindow_of_isDeckBlock {o : Nat} (ho : isDeckBlock o = true) : inWindow o = true := by
  simp only [isDeckBlock, ← Bool.decide_and, ← Bool.decide_or, decide_eq_true_eq] at ho
  have hw : ∃ w ∈ windows, w.1 ≤ o ∧ o < w.1 + w.2.1 := by
    by_cases h1 : o < 0x800000
    · exact ⟨(0x400000, 0x400000, descLid), by simp [windows], by simp; omega⟩
    by_cases h2 : o < 0x1100000
    · exact ⟨(0x1000000, 0x100000, descAnc), by simp [windows], by simp; omega⟩
    by_cases h3 : o < 0x1180000
    · exact ⟨(0x1100000, 0x80000, descDin), by simp [windows], by simp; omega⟩
    by_cases h4 : o < 0x1200000
    · exact ⟨(0x1180000, 0x80000, descDout), by simp [windows], by simp; omega⟩
    by_cases h5 : o < 0x1300000
    · exact ⟨(0x1200000, 0x100000, descMot), by simp [windows], by simp; omega⟩
    by_cases h6 : o < 0x1400000
    · exact ⟨(0x1300000, 0x100000, descDrv), by simp [windows], by simp; omega⟩
    · exact ⟨(0x1500000, 0x100000, descPnl), by simp [windows], by simp; omega⟩
  have : (windowOf o).isSome = true := by
    simpa only [windowOf, List.find?_isSome, Bool.and_eq_true, decide_eq_true_eq] using hw
  simp [inWindow, this]

/-- The window of the engines. -/
theorem windowOf_eng {o : Nat} (h1 : 0x10000000 ≤ o) (h2 : o < 0x18000000) :
    windowOf o = some (0x10000000, 0x8000000, descEng) := by
  have past (n : Nat) (hn : n ≤ 0x10000000) : decide (o < n) = false := decide_eq_false (by omega)
  have i1 : decide (0x10000000 ≤ o) = true := decide_eq_true h1
  have i2 : decide (o < 0x10000000 + 0x8000000) = true := decide_eq_true h2
  simp (disch := decide) only [windowOf, windows, List.find?_cons, past, Bool.and_false, i1, i2, Bool.and_true]

end Sys2Proof.Machine
end

section
/-! SUPPORT. Memory words read back, the words of the coefficient area, and listed writes (R41, R48-R52, R108). -/
namespace Sys2Proof.Machine

/-! ### Memory words -/

theorem leNat_leBytes (n v : Nat) : leNat (leBytes n v) = v % 256 ^ n := by
  induction n generalizing v with
  | zero => simp [leBytes, leNat, Nat.mod_one]
  | succ n ih =>
    rw [leBytes, leNat, ih, BitVec.toNat_ofNat]
    conv_rhs => rw [pow_succ', Nat.mod_mul]
/-- A written block reads back. -/
theorem State.bytes_setBytes (s : State) (k : Nat) (bs : List Byte) : (s.setBytes k bs).bytes k bs.length = bs := by
  refine List.ext_getElem (by simp [State.bytes]) fun i _ hi => ?_
  simpa [State.bytes] using State.byte_setBytes_inside bs s k i hi
/-- A stored number reads back modulo its width. -/
theorem State.memNat_setMemNat (s : State) (k n v : Nat) : (s.setMemNat k n v).memNat k n = v % 256 ^ n := by
  have e := s.bytes_setBytes k (leBytes n v)
  rw [length_leBytes] at e
  rw [State.memNat, State.setMemNat, e, leNat_leBytes]

/-! ### The words of the coefficient area (R41, R108) -/

/-- The station offset of word `w` of the coefficient area of slot `k` of engine `e`. -/
def coefOff (e k w : Nat) : Nat := 0x10000000 + 0x40000 * e + 0x10000 + 0x1000 * k + w

section
variable {e k w : Nat} (he : e < 512) (hk : k < 8) (hw : w < 0x1000)
include he hk hw

theorem coefOff_ge : 0x10000000 ≤ coefOff e k w := by simp only [coefOff]; omega
theorem coefOff_lt : coefOff e k w < 0x18000000 := by simp only [coefOff]; omega
omit he in
theorem coefOff_mod : coefOff e k w % 0x40000 = 0x10000 + 0x1000 * k + w := by simp only [coefOff]; omega
theorem coefOff_eng : (coefOff e k w - 0x10000000) / 0x40000 = e := by simp only [coefOff]; omega
theorem coefOff_inWindow : inWindow (coefOff e k w) = true := by
  simp [inWindow, windowOf_eng (coefOff_ge he hk hw) (coefOff_lt he hk hw)]
theorem coefOff_not_isDeckBlock : isDeckBlock (coefOff e k w) = false := by
  have := coefOff_ge he hk hw
  simp only [isDeckBlock, ← Bool.decide_and, ← Bool.decide_or, decide_eq_false_iff_not]
  omega
theorem coefOff_not_isDdr : isDdr (coefOff e k w) = false := by
  have := coefOff_lt he hk hw
  simp only [isDdr, ← Bool.decide_and, decide_eq_false_iff_not]
  omega
theorem coefOff_not_isStaging : isStaging (coefOff e k w) = false := by
  have := coefOff_lt he hk hw
  simp only [isStaging, ← Bool.decide_and, decide_eq_false_iff_not]
  omega
theorem coefOff_not_isTable : isTable (coefOff e k w) = false := by
  have := coefOff_lt he hk hw
  simp only [isTable, ← Bool.decide_and, decide_eq_false_iff_not]
  omega
/-- The shadow bank is no live view (R45). -/
theorem coefOff_liveAlias : liveAlias (coefOff e k w) = none := by
  have h1 := coefOff_ge he hk hw
  have h2 := coefOff_lt he hk hw
  have h3 := coefOff_mod (e := e) hk hw
  simp only [liveAlias, h3]
  rw [if_neg (by omega), if_neg (by omega), if_neg (by omega), if_pos ⟨h1, h2⟩, if_neg (by omega), if_neg (by omega),
    if_neg (by omega)]
theorem coefOff_engOfAddr : engOfAddr (coefOff e k w) = some e := by
  rw [engOfAddr, if_pos ⟨coefOff_ge he hk hw, coefOff_lt he hk hw⟩, coefOff_eng he hk hw]
theorem coefOff_slotOfAddr : slotOfAddr (coefOff e k w) = some (8 * e + k) := by
  have h1 := coefOff_ge he hk hw
  have h2 := coefOff_lt he hk hw
  simp only [slotOfAddr, coefOff_not_isTable he hk hw, coefOff_mod hk hw, coefOff_eng he hk hw, Bool.false_eq_true,
    if_false]
  rw [if_neg (by omega), if_neg (by omega), if_pos (by omega)]
  congr 1
  omega
theorem coefOff_descOf : descOf (coefOff e k w) = some (coefDesc w) := by
  have h1 := coefOff_ge he hk hw
  have h2 := coefOff_lt he hk hw
  simp only [descOf, coefOff_not_isTable he hk hw, coefOff_mod hk hw, Bool.false_eq_true, if_false]
  rw [if_pos (by omega), if_neg (by omega), if_pos (by omega)]
  congr 2
  omega
/-- A coefficient word belongs to the unit of its slot (R50). -/
theorem coefOff_unitOf (h : Half) :
    unitOf (h.base + coefOff e k w) = some ⟨18 + e / 128, some h, 8 * e + k⟩ := by
  have h2 := coefOff_lt he hk hw
  have hl : coefOff e k w < 0x800000000 := by omega
  have hg : grpOf (coefOff e k w) (coefDesc w) = some (18 + e / 128) := by
    simp [grpOf, coefDesc, coefOff_eng he hk hw]
  have hd : isDeckGroup (18 + e / 128) = false := by
    have : e / 128 < 4 := by omega
    interval_cases e / 128 <;> rfl
  simp only [unitOf, lowAddr_add_base h _ hl, halfOf_add_base h _ hl, coefOff_descOf he hk hw, hg, hd,
    coefOff_mod hk hw, coefOff_eng he hk hw]
  simp (disch := omega) only [if_neg, if_pos, Bool.false_eq_true]
  congr 2
  omega
/-- A write of a coefficient word of an engine in service is no command of R112: it is a listed write of its slot's unit. -/
theorem State.writeReg_coefOff (s : State) (h : Half) (m : Nat) (v : Word) (h4 : w % 4 = 0)
    (hs : s.slotState h (8 * e + k) = 0) (ho : s.mapBit (Mod.plcOos h 0) e = false) :
    s.writeReg h m (h.base + coefOff e k w) v
      = (s.writeListed h (h.base + coefOff e k w) (coefDesc w) v).moveSync h (8 * e + k) := by
  have h2 := coefOff_lt he hk hw
  have hl : coefOff e k w < 0x800000000 := by omega
  have hw4 : coefOff e k w / 4 * 4 = coefOff e k w := by simp only [coefOff]; omega
  have hcmd : s.cmdEng h (coefOff e k w - 0x10000000) v = none := by
    rw [State.cmdEng, if_neg (by simp only [coefOff]; omega)]
  have hreg : ¬ coefOff e k w % 0x40000 < 0x2000 := by
    rw [coefOff_mod hk hw]
    omega
  simp only [State.writeReg, lowAddr_add_base h _ hl, halfOf_add_base h _ hl, hw4, coefOff_inWindow he hk hw,
    coefOff_not_isDeckBlock he hk hw, coefOff_not_isDdr he hk hw, coefOff_not_isStaging he hk hw,
    coefOff_liveAlias he hk hw, State.writeOwn, windowOf_eng (coefOff_ge he hk hw) h2, coefOff_engOfAddr he hk hw, ho,
    hcmd, State.writeEng, coefOff_slotOfAddr he hk hw, hs, coefOff_not_isTable he hk hw, coefOff_descOf he hk hw]
  simp [hreg]
end

/-! ### Listed writes -/

/-- A CMT fault flag changes its register and the event registers. -/
theorem State.rg_cmtFlag_other (s : State) (h : Half) (a g x : Nat) (h1 : x ≠ a) (h2 : ¬ EventReg h x) :
    (s.cmtFlag h a g).rg x = s.rg x := by
  rw [State.cmtFlag, State.rg_raise_of_not_eventReg _ _ _ _ (by decide) h2, State.rg_sb, if_neg h1]
/-- The flag is set. -/
theorem State.bt_cmtFlag (s : State) (h : Half) (a g : Nat) (ha : ¬ EventReg h a) (hg : g < 32) :
    (s.cmtFlag h a g).bt a g = true := by
  rw [State.cmtFlag, State.bt, State.rg_raise_of_not_eventReg _ _ _ _ (by decide) ha, State.rg_sb, if_pos rfl,
    bit_setBit _ _ _ hg]
theorem State.mem_markDirty (s : State) (u : CUnit) : u ∈ (s.markDirty u).dirty := by
  by_cases hu : u ∈ s.dirty <;> simp [State.markDirty, hu]
@[simp] theorem State.rg_markDirty (s : State) (u : CUnit) (a : Nat) : (s.markDirty u).rg a = s.rg a := by
  simp only [State.markDirty]
  split <;> rfl
@[simp] theorem State.sh_markDirty (s : State) (u : CUnit) (a : Nat) : (s.markDirty u).sh a = s.sh a := by
  simp only [State.markDirty]
  split <;> rfl
@[simp] theorem State.byte_markDirty (s : State) (u : CUnit) (a : Nat) : (s.markDirty u).byte a = s.byte a := by
  simp only [State.markDirty]
  split <;> rfl
@[simp] theorem State.half_markDirty (s : State) (u : CUnit) (h : Half) : (s.markDirty u).half h = s.half h := by
  simp only [State.markDirty]
  split <;> cases h <;> rfl
/-- A write of a register of access code RW, or RL while its group is not locked, with a shadow and no W1C bits (R44, R48, R52):
while its group is pending it is discarded with CMT_LATE_WRITE, else it sets the writable bits of the shadow and marks the unit
dirty. -/
theorem State.writeListed_rw (s : State) (h : Half) (a : Nat) (d : RegDesc) (v : Word) (g : Nat) (u : CUnit)
    (hacc : d.acc = .rw ∨ d.acc = .rl ∧ s.locked h g = false) (hc : d.cmask = 0) (hm : d.wmask ≠ 0)
    (hg : grpOf (lowAddr a) d = some g) (hu : unitOf a = some u) :
    s.writeListed h a d v
      = if s.pend h g then s.cmtFlag h (Cmt.cmtLateWrite h) g
        else (s.wrSh a ((s.sh a &&& ~~~ BitVec.ofNat 32 d.wmask) ||| (v &&& BitVec.ofNat 32 d.wmask))).markDirty u := by
  have hl : (d.acc == .rl && s.locked h g) = false := by
    rcases hacc with e | ⟨-, e⟩ <;> simp [e]
  have hmix : d.acc ≠ .rwm := by
    rcases hacc with e | ⟨e, -⟩ <;> simp [e]
  cases hp : s.pend h g <;> simp [State.writeListed, hc, hm, hg, hu, hp, hl]

/-- A slot without a move under way has no target that follows its writes (R181). -/
theorem State.moveSync_empty (s : State) (h : Half) (q : Nat) (hs : s.slotState h q = 0) : s.moveSync h q = s := by
  rw [State.moveSync, List.find?_eq_none.2 (by simp [hs])]

end Sys2Proof.Machine
end

section
/-! The place of a register write (R43-R52). -/
namespace Sys2Proof.Machine

theorem not_eventReg_cmt (h : Half) (a : Nat) (ha : a < h.base + 0x40000) : ¬ EventReg h a := by
  rintro (⟨h1, -⟩ | ⟨h1, -⟩) <;> omega
theorem not_eventReg_eng (h : Half) (a : Nat) (ha : h.base + 0x10000000 ≤ a) : ¬ EventReg h a := by
  rintro (⟨-, h1⟩ | ⟨-, h1⟩) <;> omega

/-- A field of the coefficient area that takes writes has a writable bit. -/
theorem coefMask_ne_zero {w mask : Nat} (h : coefMask w = some mask) : mask ≠ 0 := by
  rintro rfl
  simp only [coefMask] at h
  split_ifs at h <;> simp at h

/-- A DDR write of the own half stores its word (R42, R49). -/
theorem State.writeReg_ddr (s : State) (h : Half) (m a : Nat) (v : Word) (hd : isDdr (lowAddr a) = true) (hh : halfOf a = h) :
    s.writeReg h m a v = s.setMemNat (h.base + lowAddr a / 4 * 4) 4 v.toNat := by
  have hw : isDdr (lowAddr a / 4 * 4) = true := by rw [isDdr_word, hd]
  simp [State.writeReg, inWindow_of_isDdr hw, isDeckBlock_of_isDdr hw, hw, hh]
/-- A write to a field-deck block goes onto the link while that is up (R28). -/
theorem State.writeReg_deck (s : State) (h : Half) (m a : Nat) (v : Word) (hd : isDeckBlock (lowAddr a) = true) :
    s.writeReg h m a v = if (s.half h).linkUp then
      s.modHalf h (fun x => { x with deckTx := x.deckTx ++ [⟨m, lowAddr a / 4 * 4, v⟩] }) else s := by
  have hw : isDeckBlock (lowAddr a / 4 * 4) = true := by rw [isDeckBlock_word, hd]
  simp [State.writeReg, inWindow_of_isDeckBlock hw, hw]
/-- A write to no window, or of a core to the other half, ends in a bus error (R43). -/
theorem State.writeReg_busError (s : State) (h : Half) (m a : Nat) (v : Word)
    (hc : inWindow (lowAddr a / 4 * 4) = false ∨
      (inWindow (lowAddr a / 4 * 4) = true ∧ isDeckBlock (lowAddr a / 4 * 4) = false ∧ halfOf a ≠ h ∧ m < 8)) :
    s.writeReg h m a v = s.busError h m a := by
  rcases hc with e | ⟨e1, e2, e3, e4⟩
  · simp [State.writeReg, e]
  · simp [State.writeReg, e1, e2, e3, e4]

theorem execRegisterWrite_runs (h : Half) (m a : Nat) (v : Word) (s : State) (hr : s.runs h = true) :
    exec (.registerWrite h m a v) s = .next (s.writeReg h m a v) :=
  congrArg Host.Outcome.next (State.onHalf_runs s h _ hr)

/-- A write of a coefficient word of an EMPTY slot (R49, R52): discarded with CMT_LATE_WRITE while its group is pending, else it
changes the writable bits of its shadow and marks the slot dirty. -/
theorem State.writeReg_coefOff_empty (s : State) (h : Half) (m : Nat) {e k w mask : Nat} (v : Word) (he : e < 512) (hk : k < 8)
    (hw : w < 0x1000) (h4 : w % 4 = 0) (hmask : coefMask w = some mask) (hs : s.slotState h (8 * e + k) = 0)
    (ho : s.mapBit (Mod.plcOos h 0) e = false) :
    s.writeReg h m (h.base + coefOff e k w) v
      = if s.pend h (18 + e / 128) then s.cmtFlag h (Cmt.cmtLateWrite h) (18 + e / 128)
        else (s.wrSh (h.base + coefOff e k w) ((s.sh (h.base + coefOff e k w) &&& ~~~BitVec.ofNat 32 mask)
          ||| (v &&& BitVec.ofNat 32 mask))).markDirty ⟨18 + e / 128, some h, 8 * e + k⟩ := by
  have hlow := lowAddr_add_base h (coefOff e k w) (by have := coefOff_lt he hk hw; omega)
  have hg : grpOf (lowAddr (h.base + coefOff e k w)) (coefDesc w) = some (18 + e / 128) := by
    simp [grpOf, coefDesc, hlow, coefOff_eng he hk hw]
  have hm : (coefDesc w).wmask = mask := by simp [coefDesc, hmask]
  rw [s.writeReg_coefOff he hk hw h m v h4 hs ho, s.writeListed_rw h _ (coefDesc w) v _ _ (.inl rfl) rfl
    (hm ▸ coefMask_ne_zero hmask) hg (coefOff_unitOf he hk hw h), hm]
  split_ifs
  · have hslot : (s.cmtFlag h (Cmt.cmtLateWrite h) (18 + e / 128)).slotState h (8 * e + k) = 0 := by
      have : Slot.status h (8 * e + k) ≥ h.base + 0x10000000 := by
        simp only [Slot.status, slotBase, engBase]
        omega
      rw [State.slotState, State.fd, State.rg_cmtFlag_other _ _ _ _ _ (by simp only [Cmt.cmtLateWrite]; omega)
        (not_eventReg_eng h _ this)]
      exact hs
    exact State.moveSync_empty _ _ _ hslot
  · exact State.moveSync_empty _ _ _ (by simpa [State.slotState, State.fd] using hs)

/-- Settles O46: the place of a write, case by case of the address decode. -/
theorem registerWritesReachTheirPlace : Obligations.RegisterWritesReachTheirPlace := by
  unfold Obligations.RegisterWritesReachTheirPlace
  refine ⟨fun h m a v s hr hd hh => ?_, fun h m e k w v mask s hr he hk hw h4 hmask hs ho => ?_,
    fun h m a v s hr hd => ?_, fun h m a v s hr hc => ?_, fun h m a v s hr h1 h2 h3 h4 => ?_⟩
  · refine ⟨_, execRegisterWrite_runs h m a v s hr, ?_⟩
    rw [State.writeReg_ddr s h m a v hd hh]
    exact ⟨(State.memNat_setMemNat ..).trans (Nat.mod_eq_of_lt v.isLt), fun b => State.sh_setMemNat .., fun b _ => State.rg_setMemNat .., fun b hb =>
      State.byte_setMemNat_outside _ _ _ _ _ hb⟩
  · have ha : h.base + 0x10000000 + 0x40000 * e + 0x10000 + 0x1000 * k + w = h.base + coefOff e k w := by
      simp only [coefOff]
      omega
    have hex := execRegisterWrite_runs h m (h.base + coefOff e k w) v s hr
    rw [s.writeReg_coefOff_empty h m v he hk hw h4 hmask hs ho] at hex
    intro a g mk
    simp only [show a = _ from ha]
    split_ifs with hp
    · rw [if_pos hp] at hex
      refine ⟨_, hex, State.bt_cmtFlag _ _ _ _ (not_eventReg_cmt h _ ?_) ?_, fun b => ?_, fun b => ?_, fun b hb => ?_⟩
      · simp only [Cmt.cmtLateWrite]
        omega
      · omega
      · simp [State.cmtFlag]
      · simp [State.cmtFlag]
      · exact State.rg_cmtFlag_other _ _ _ _ _ (fun e => hb (.inl e)) (fun e => hb (.inr e))
    · rw [if_neg hp] at hex
      exact ⟨_, hex, by simp [mk], State.mem_markDirty _ _, fun b hb => by simp [hb], fun b => by simp, fun b _ => by simp⟩
  · rw [execRegisterWrite_runs h m a v s hr, State.writeReg_deck s h m a v hd]
  · refine ⟨_, execRegisterWrite_runs h m a v s hr, ?_⟩
    rw [State.writeReg_busError s h m a v hc]
    exact s.busError_spec h m a hr
  · rw [execRegisterWrite_runs h m a v s hr]
    simp [State.writeReg, h1, h2, h3, Nat.not_lt.2 h4]

end Sys2Proof.Machine
end

section
/-! SUPPORT. Items on the field-deck link, the limit CMP_LO, and reads of DDR words of the other half (R28, R43-R47, R52). -/
namespace Sys2Proof.Machine

/-! ### Saturating counts and refused items (R28) -/

theorem bits_31_0 (w : Word) : bits w 31 0 = w.toNat := by
  simp only [bits, Nat.shiftRight_zero]
  exact Nat.mod_eq_of_lt w.isLt
/-- A register that counts up to 2^32 - 1. -/
theorem State.rn_sat (s : State) (a : Nat) : (s.sat a).rn a = min (2 ^ 32 - 1) (s.rn a + 1) := by
  have hlt : s.rn a < 2 ^ 32 := (s.rg a).isLt
  have hv : satAdd (2 ^ 32 - 1) (s.rn a) 1 = min (2 ^ 32 - 1) (s.rn a + 1) := by
    simp only [satAdd]
    split_ifs <;> omega
  rw [State.sat, State.rn, State.rg_satF, if_pos rfl, ← bits_31_0, bits_setBits _ _ _ _ (by decide) (by decide), State.fd,
    bits_31_0]
  exact (congrArg (· % 2 ^ 32) hv).trans (Nat.mod_eq_of_lt (by omega))
@[simp] theorem State.half_sat (s : State) (a : Nat) (h : Half) : (s.sat a).half h = s.half h := State.half_satF ..
@[simp] theorem State.byte_sat (s : State) (a b : Nat) : (s.sat a).byte b = s.byte b := State.byte_satF ..
@[simp] theorem State.sh_sat (s : State) (a b : Nat) : (s.sat a).sh b = s.sh b := State.sh_satF ..
@[simp] theorem State.deck_sat (s : State) (a : Nat) : (s.sat a).deck = s.deck := State.deck_satF ..
theorem State.rg_sat_other (s : State) (a b : Nat) (hb : b ≠ a) : (s.sat a).rg b = s.rg b := by
  rw [State.sat, State.rg_satF, if_neg hb]

/-- What the refusal of an item of half `h` changes (R28): its count, source 1 at the first, and event registers. -/
theorem State.deckRefuse_spec (s : State) (h : Half) :
    (∃ c, (s.deckRefuse h).half h = { s.half h with ctr := c })
      ∧ (s.deckRefuse h).rn (Mod.deckRefusedCnt h) = min (2 ^ 32 - 1) (s.rn (Mod.deckRefusedCnt h) + 1)
      ∧ (s.runs h = true → s.rn (Mod.deckRefusedCnt h) = 0 → Pends (s.deckRefuse h) h 1)
      ∧ SameMem s (s.deckRefuse h) ∧ SameShadows s (s.deckRefuse h)
      ∧ SameRegs s (s.deckRefuse h) (fun r => r = Mod.deckRefusedCnt h ∨ EventReg h r) := by
  have hne : ¬ EventReg h (Mod.deckRefusedCnt h) := not_eventReg_cmt h _ (by simp only [Mod.deckRefusedCnt]; omega)
  simp only [State.deckRefuse]
  generalize hu : (if s.rn (Mod.deckRefusedCnt h) = 0 then s.raise h 1 else s) = u
  have hrg (a : Nat) (ha : ¬ EventReg h a) : u.rg a = s.rg a := by
    rw [← hu]
    split
    · exact State.rg_raise_of_not_eventReg _ _ _ _ (by decide) ha
    · rfl
  have hhalf : u.half h = s.half h := by
    rw [← hu]
    split <;> simp
  refine ⟨?_, ?_, fun hr h0 => ?_, fun b => ?_, fun b => ?_, fun b hb => ?_⟩
  · obtain ⟨c, hc⟩ := (u.sat (Mod.deckRefusedCnt h)).half_tally h 0x0A80
    exact ⟨c, by rw [hc, State.half_sat, hhalf]⟩
  · rw [State.rn, State.rg_tally_of_not_eventReg _ _ _ _ hne]
    refine (u.rn_sat _).trans ?_
    rw [State.rn, State.rn, hrg _ hne]
  · rw [Pends, State.mapBit_pend_tally, State.mapBit, State.bt, State.rg_sat_other _ _ _ (by
      simp only [Evc.pend, Mod.deckRefusedCnt]
      omega), ← hu, if_pos h0]
    exact s.raise_pends h 1 hr (by decide)
  · rw [State.byte_tally, State.byte_sat, ← hu]
    split <;> simp
  · rw [State.sh_tally, State.sh_sat, ← hu]
    split <;> simp
  · obtain ⟨h1, h2⟩ := not_or.1 hb
    rw [State.rg_tally_of_not_eventReg _ _ _ _ h2, State.rg_sat_other _ _ _ h1, hrg _ h2]

/-! ### Items on the field-deck link (R28) -/

theorem execDeckItemArrive_nil (s : State) (h : Half) (hl : (s.half h).deckTx = []) :
    exec (.deckItemArrive h) s = .next s := by
  show execDeckItemArrive h s = _
  rw [execDeckItemArrive, hl]
/-- The oldest item leaves the link; it is lost while the link is down or the field deck in reset. -/
theorem execDeckItemArrive_cons (s : State) (h : Half) (i : DeckItem) (l : List DeckItem) (hl : (s.half h).deckTx = i :: l) :
    exec (.deckItemArrive h) s = .next
      (let u := s.modHalf h (fun x => { x with deckTx := l })
       if (s.half h).linkUp = false ∨ s.deck.inReset = true then u else u.deckItem h i) := by
  show execDeckItemArrive h s = _
  rw [execDeckItemArrive, hl]
  cases hu : (s.half h).linkUp <;> cases hr : s.deck.inReset <;> simp [hu, hr, State.onDeck]

@[simp] theorem State.owns_modHalf (s : State) (h g : Half) (f : HalfSt → HalfSt) (n : Nat) :
    (s.modHalf h f).owns g n = s.owns g n := by simp [State.owns, State.owner]

/-- An item that its half may issue: a command, a listed register, or nothing (R28, R43, R45). -/
theorem State.deckItem_owned (s : State) (h : Half) (i : DeckItem) (ho : s.owns h (resGroup i.addr) = true) :
    s.deckItem h i = if (liveAlias i.addr).isSome then s
      else match s.cmdDeck h i.addr i.val with
        | some t => t
        | none => match descOf i.addr with
          | some d => s.writeListed h i.addr d i.val
          | none => s := by
  simp [State.deckItem, ho] <;> rfl
/-- An item of a half that does not own the group (R28, R331). -/
theorem State.deckItem_refused (s : State) (h : Half) (i : DeckItem) (ho : s.owns h (resGroup i.addr) = false) :
    s.deckItem h i = if 16 ≤ i.master then (s.deckRefuse h).outputRefused h (i.master - 16) (resGroup i.addr)
      else s.deckRefuse h := by
  simp [State.deckItem, ho]

/-! ### The comparator limit CMP_LO -/

theorem windowOf_anc {o : Nat} (h1 : 0x1000000 ≤ o) (h2 : o < 0x1100000) : windowOf o = some (0x1000000, 0x100000, descAnc) := by
  have past (n : Nat) (hn : n ≤ 0x1000000) : decide (o < n) = false := decide_eq_false (by omega)
  have i1 : decide (0x1000000 ≤ o) = true := decide_eq_true h1
  have i2 : decide (o < 0x1000000 + 0x100000) = true := decide_eq_true h2
  simp (disch := decide) only [windowOf, windows, List.find?_cons, past, Bool.and_false, i1, i2, Bool.and_true]

section
variable {c : Nat} (hc : c < 256)
include hc

theorem cmpLo_descOf : descOf (Anc.cmpLo c) = some ⟨0x10, [(0x400, 256)], .rl, 9, 0xFFFFFFFF, 0, 0xD368D4A5⟩ := by
  have ho : Anc.cmpLo c = 0x1000000 + (0x400 * c + 0x10) := by simp only [Anc.cmpLo]; omega
  have ht : isTable (Anc.cmpLo c) = false := by
    simp only [isTable, ← Bool.decide_and, decide_eq_false_iff_not, ho]
    omega
  have hw := windowOf_anc (o := Anc.cmpLo c) (by omega) (by omega)
  have hsub : Anc.cmpLo c - 0x1000000 = 0x400 * c + 0x10 := by omega
  have hit (k : Nat) (hk : k ≤ 0x10) : idxMatch [(0x400, 256)] (0x400 * c + 0x10 - k) = decide (k = 0x10) := by
    simp only [idxMatch, ← Bool.decide_and, decide_eq_decide]
    omega
  have hle (k : Nat) (hk : k ≤ 0x10) : decide (k ≤ 0x400 * c + 0x10) = true := decide_eq_true (by omega)
  have hne : ¬(0x10000000 ≤ Anc.cmpLo c ∧ Anc.cmpLo c < 0x18000000 ∧ 0x2000 ≤ Anc.cmpLo c % 0x40000) := by omega
  simp only [descOf, ht, hw, hne, hsub, Bool.false_eq_true, if_false]
  simp (disch := decide) only [descAnc, List.find?_cons, hit, hle]
  simp
theorem cmpLo_liveAlias : liveAlias (Anc.cmpLo c) = none := by
  have ho : Anc.cmpLo c = 0x1000000 + (0x400 * c + 0x10) := by simp only [Anc.cmpLo]; omega
  rw [liveAlias, if_neg (by omega), if_neg (by omega), if_pos (by omega), if_neg (by omega)]
theorem cmpLo_resGroup : resGroup (Anc.cmpLo c) = c / 16 := by
  have ho : Anc.cmpLo c = 0x1000000 + (0x400 * c + 0x10) := by simp only [Anc.cmpLo]; omega
  rw [resGroup, if_neg (by omega), if_pos (by omega)]
  omega
theorem cmpLo_lowAddr : lowAddr (Anc.cmpLo c) = Anc.cmpLo c := by
  simp only [lowAddr, Anc.cmpLo]
  omega
/-- CMP_LO is no command register. -/
theorem State.cmdDeck_cmpLo (s : State) (h : Half) (v : Word) : s.cmdDeck h (Anc.cmpLo c) v = none := by
  have ho : Anc.cmpLo c = 0x1000000 + (0x400 * c + 0x10) := by simp only [Anc.cmpLo]; omega
  rw [State.cmdDeck, if_neg (by omega), if_pos (by omega)]
  simp only
  rw [if_neg (by omega), if_neg (by omega), if_neg (by omega)]
theorem cmpLo_unitOf : unitOf (Anc.cmpLo c) = some ⟨9, none, c⟩ := by
  have hi : (Anc.cmpLo c - 0x1000000) / 0x400 = c := by
    simp only [Anc.cmpLo]
    omega
  simp [unitOf, cmpLo_lowAddr hc, cmpLo_descOf hc, grpOf, isDeckGroup, hi]
end

/-- The owner's write of CMP_LO goes into its shadow while group 9 is neither pending nor locked (R52, R58). -/
theorem State.deckItem_cmpLo (s : State) (h : Half) (i : DeckItem) {c : Nat} (hc : c < 256) (ha : i.addr = Anc.cmpLo c)
    (ho : s.owns h (c / 16) = true) (hp : s.pend h 9 = false) (hl : s.locked h 9 = false) :
    s.deckItem h i = (s.wrSh (Anc.cmpLo c) i.val).markDirty ⟨9, none, c⟩ := by
  have hg : grpOf (lowAddr (Anc.cmpLo c)) ⟨0x10, [(0x400, 256)], .rl, 9, 0xFFFFFFFF, 0, 0xD368D4A5⟩ = some 9 := rfl
  have hw := s.writeListed_rw h (Anc.cmpLo c) _ i.val 9 ⟨9, none, c⟩ (.inr ⟨rfl, hl⟩) rfl (by decide) hg (cmpLo_unitOf hc)
  have hmix (x v : Word) : (x &&& ~~~BitVec.ofNat 32 0xFFFFFFFF) ||| (v &&& BitVec.ofNat 32 0xFFFFFFFF) = v := by
    rw [show BitVec.ofNat 32 0xFFFFFFFF = BitVec.allOnes 32 from rfl, BitVec.not_allOnes, BitVec.and_zero,
      BitVec.and_allOnes, BitVec.zero_or]
  rw [State.deckItem_owned s h i (by rw [ha, cmpLo_resGroup hc, ho]), ha]
  simp only [cmpLo_liveAlias hc, State.cmdDeck_cmpLo hc, cmpLo_descOf hc, Option.isSome_none, Bool.false_eq_true, if_false]
  rw [hw, if_neg (by simp [hp]), hmix]

/-! ### Reads of the other half (R43, R47) -/

/-- No window with registers lies past the engines'. -/
theorem windowOf_past {o : Nat} (ho : 0x18000000 ≤ o) : windowOf o = none := by
  rw [windowOf, List.find?_eq_none]
  simp only [windows, List.mem_cons, forall_eq_or_imp, List.not_mem_nil, false_implies, implies_true, and_true,
    Bool.and_eq_true, decide_eq_true_eq]
  omega
/-- A DDR word of a half reads as its four bytes. -/
theorem State.readWord_ddr (s : State) (h : Half) (core o : Nat) (hd : isDdr o = true) (hl : o < 0x800000000) :
    s.readWord core (o + h.base) = BitVec.ofNat 32 (s.memNat (h.base + o / 4 * 4) 4) := by
  have hge : 0x80000000 ≤ o := by
    simp only [isDdr, ← Bool.decide_and, decide_eq_true_eq] at hd
    omega
  have hs : isStaging o = false := by
    simp only [isStaging, ← Bool.decide_and, decide_eq_false_iff_not]
    omega
  have hw := windowOf_past (o := o) (by omega)
  have ha : liveAlias o = none := by
    rw [liveAlias, if_neg (by omega), if_neg (by omega), if_neg (by omega), if_neg (by omega), if_neg (by omega)]
    simp [hw]
  have hb : (o + h.base) / 4 * 4 = h.base + o / 4 * 4 := by cases h <;> simp only [Half.base] <;> omega
  have hlow : lowAddr (o + h.base) = o := by rw [Nat.add_comm, lowAddr_add_base h o hl]
  simp [State.readWord, hlow, hs, ha, State.readDerived, hw, State.readPlain, hd, hb]
/-- A read of a DDR word loads no latch. -/
theorem State.readLatch_ddr (s : State) (h : Half) (core o : Nat) (hd : isDdr o = true) (hl : o < 0x800000000) :
    s.readLatch core (o + h.base) = s := by
  have hlow : lowAddr (o + h.base) = o := by rw [Nat.add_comm, lowAddr_add_base h o hl]
  simp only [isDdr, ← Bool.decide_and, decide_eq_true_eq] at hd
  simp only [State.readLatch, hlow]
  rw [if_neg (by omega), if_neg (by omega)]

end Sys2Proof.Machine
end

section
/-! Items of the field-deck link and reads of the other half (R28, R43, R47). -/
namespace Sys2Proof.Machine

/-- A core's read of the other half while its own half runs (R43). -/
theorem execCrossHalfRead_runs (h : Half) (core a : Nat) (s : State) (hr : s.runs h = true) :
    exec (.crossHalfRead h core a) s = .next
      (let put (t : State) (w : Word) : State :=
         t.modHalf h (fun x => { x with readData := Map.set (fun _ => 0) x.readData core w })
       let o := lowAddr a
       let b := o + h.other.base
       if isDeckBlock o then put s (s.readWord core b)
       else if inWindow o = false ∨ s.mirrorUp = false ∨ s.runs h.other = false then put (s.busError h core b) 0
       else (put s (s.readWord (latchKey h core b) b)).readLatch (latchKey h core b) b) :=
  congrArg Host.Outcome.next (State.onHalf_runs s h _ hr)

/-- Settles O47: the ways of an item on the field-deck link, and of a read of the other half. -/
theorem linkItemsAndCrossHalfReadsComplete : Obligations.LinkItemsAndCrossHalfReadsComplete := by
  unfold Obligations.LinkItemsAndCrossHalfReadsComplete
  refine ⟨fun h s hl => execDeckItemArrive_nil s h hl, fun h i l s hl => ?_,
    fun h i l s c hc hl hup hdk ha ho hp hlk => ?_, fun h core a s => ?_⟩
  · have hex := execDeckItemArrive_cons s h i l hl
    intro u
    split_ifs with hlost hown hlive
    · rwa [if_pos hlost] at hex
    · have hu : u.owns h (resGroup i.addr) = false := by simpa [u] using hown
      rw [if_neg hlost, State.deckItem_refused _ _ _ hu] at hex
      refine ⟨fun hm => by rwa [if_pos hm] at hex, fun hm => ?_⟩
      rw [if_neg (by omega)] at hex
      obtain ⟨⟨c, hc⟩, hcnt, hpend, hmem, hsh, hreg⟩ := u.deckRefuse_spec h
      refine ⟨_, hex, by simp [hc, u], ?_, fun hr h0 => hpend ?_ ?_, fun b => ?_, fun b => ?_, fun b hb => ?_⟩
      · simpa [u, State.rn] using hcnt
      · rwa [State.runs_modHalf _ _ _ _ rfl rfl]
      · simpa [u, State.rn] using h0
      · exact (hmem b).trans (by simp [u])
      · exact (hsh b).trans (by simp [u])
      · exact (hreg b hb).trans (by simp [u])
    · have hu : u.owns h (resGroup i.addr) = true := by simpa [u] using hown
      rwa [if_neg hlost, State.deckItem_owned _ _ _ hu, if_pos hlive] at hex
    · have hu : u.owns h (resGroup i.addr) = true := by simpa [u] using hown
      rw [if_neg hlost, State.deckItem_owned _ _ _ hu, if_neg hlive] at hex
      cases hcmd : u.cmdDeck h i.addr i.val with
      | some t => simpa only [hcmd] using hex
      | none =>
        cases hd : descOf i.addr with
        | some d => simpa only [hcmd, hd] using hex
        | none => simpa only [hcmd, hd] using hex
  · have hex := execDeckItemArrive_cons s h i l hl
    rw [if_neg (by simp [hup, hdk]), State.deckItem_cmpLo _ h i hc ha (by simpa using ho)
      (by simpa [State.pend, State.bt] using hp) (by simpa [State.locked, State.bt] using hlk)] at hex
    exact ⟨_, hex, by simp, by simp, State.mem_markDirty _ _, fun b hb => by simp [hb], fun b => by simp, fun b _ => by simp⟩
  · intro o b put
    split_ifs with hr hdk hbe
    · exact congrArg Host.Outcome.next (State.onHalf_stopped s h _ hr)
    · rw [execCrossHalfRead_runs h core a s (by simpa using hr)]
      simp only [o, b, put] at *
      rw [if_pos hdk]
    · have hr : s.runs h = true := by simpa using hr
      obtain ⟨h1, h2, h3, h4, h5, h6⟩ := s.busError_spec h core b hr
      refine ⟨put (s.busError h core b) 0, ?_, ?_⟩
      · rw [execCrossHalfRead_runs h core a s hr]
        simp only [o, b, put] at *
        rw [if_neg hdk, if_pos hbe]
      · exact ⟨by simp [put], by simp [put, h2], by simpa [put, Pends, State.mapBit, State.bt] using h1, by simpa [put] using h3,
          fun x => by simp [put, h4 x], fun x => by simp [put, h5 x], fun x hx => by simp [put, h6 x hx]⟩
    · have hr : s.runs h = true := by simpa using hr
      have hex := execCrossHalfRead_runs h core a s hr
      simp only [o, b, put] at *
      rw [if_neg hdk, if_neg hbe] at hex
      refine ⟨hex, fun hd => ⟨_, hex, ?_⟩⟩
      rw [State.readLatch_ddr _ _ _ _ hd (lowAddr_lt a), State.readWord_ddr _ _ _ _ hd (lowAddr_lt a)]
      exact ⟨by simp, fun x => by simp, fun x => by simp, fun x _ => by simp⟩

end Sys2Proof.Machine
end

section
/-! SUPPORT. Folds over a list of updates, pending bits, and Lid's change log (R57, R62, R315). -/
namespace Sys2Proof.Machine

/-! ### Folds -/

/-- What each update establishes for its own element, and every update keeps for the others, holds of every element. -/
theorem foldl_establishes {α β : Type} {p : β → Prop} {Q : β → α → Prop} {f : α → β → α}
    (set : ∀ t e, p e → Q e (f t e)) (keep : ∀ t k e, p k → p e → Q k t → Q k (f t e)) (l : List β) (s : α)
    (hl : ∀ e ∈ l, p e) : ∀ k ∈ l, Q k (l.foldl f s) := by
  intro k hk
  induction l generalizing s with
  | nil => exact absurd hk List.not_mem_nil
  | cons e l ih =>
    have he := hl e List.mem_cons_self
    have hl' : ∀ x ∈ l, p x := fun x hx => hl x (List.mem_cons_of_mem _ hx)
    rcases List.mem_cons.1 hk with rfl | hk
    · exact List.foldlRecOn l f (set s k he) fun t ht x hx => keep t k x he (hl' x hx) ht
    · exact ih _ hl' hk

/-! ### Bits of a bit map -/

/-- Another bit of the map keeps its value. -/
theorem State.mapBit_setMapBit_other (s : State) (a i j : Nat) (b : Bool) (h : j ≠ i) :
    (s.setMapBit a i b).mapBit a j = s.mapBit a j := by
  simp only [State.mapBit, State.bt, State.rg_setMapBit]
  split
  · rename_i e
    rw [bit_setBit_other _ _ _ _ (by omega), e]
  · rfl
/-- A write elsewhere leaves the map. -/
theorem State.mapBit_of_rg {s t : State} {a i : Nat} (h : t.rg (a + 4 * (i / 32)) = s.rg (a + 4 * (i / 32))) :
    t.mapBit a i = s.mapBit a i := by rw [State.mapBit, State.bt, h]; rfl

/-- A pending bit that is clear stays clear when another source is asserted. -/
theorem State.mapBit_raise_other (s : State) (h : Half) (src j : Nat) (hj : j < 16384) (hne : j ≠ src) :
    (s.raise h src).mapBit (Evc.pend h 0) j = s.mapBit (Evc.pend h 0) j := by
  rcases s.raise_cases h src with e | e | e <;> rw [e]
  · exact State.mapBit_of_rg (by
      rw [State.rg_satF, if_neg]
      simp only [Evc.pend, Evc.srcCnt]
      omega)
  · exact State.mapBit_setMapBit_other _ _ _ _ _ hne
@[simp] theorem State.byte_pendClear (s : State) (h : Half) (src : Nat) (again : Bool) (b : Nat) :
    (s.pendClear h src again).byte b = s.byte b := by
  simp only [State.pendClear]
  split_ifs <;> simp
/-- Clearing a source leaves the pending bit of another (R62). -/
theorem State.mapBit_pendClear_other (s : State) (h : Half) (src j : Nat) (again : Bool) (hj : j < 1024) (hne : j ≠ src) :
    (s.pendClear h src again).mapBit (Evc.pend h 0) j = s.mapBit (Evc.pend h 0) j := by
  simp only [State.pendClear]
  split_ifs
  · rfl
  · exact s.mapBit_raise_other h src j (by omega) hne
  · rw [← s.mapBit_setMapBit_other _ src j false hne]
    refine State.mapBit_of_rg ?_
    rw [State.rg_wr, if_neg, State.rg_fw, if_neg] <;> simp only [Evc.pend, Evc.srcCnt, Evc.engWho] <;> omega
  · rw [← s.mapBit_setMapBit_other _ src j false hne]
    refine State.mapBit_of_rg ?_
    rw [State.rg_fw, if_neg]
    simp only [Evc.pend, Evc.srcCnt]
    omega
/-- An edge source that is not asserted again is no longer pending (R62). -/
theorem State.mapBit_pendClear_same (s : State) (h : Half) (src : Nat) (hs : src < 1024) (hl : isLevel src = false) :
    (s.pendClear h src false).mapBit (Evc.pend h 0) src = false := by
  have hb := s.mapBit_setMapBit (Evc.pend h 0) src false
  simp only [State.pendClear, hl, Bool.false_eq_true, if_false]
  split_ifs <;> refine (State.mapBit_of_rg ?_).trans hb
  · rw [State.rg_wr, if_neg, State.rg_fw, if_neg] <;> simp only [Evc.pend, Evc.srcCnt, Evc.engWho] <;> omega
  · rw [State.rg_fw, if_neg]
    simp only [Evc.pend, Evc.srcCnt]
    omega

/-! ### Locks (R57) -/

/-- A change-log entry leaves the registers outside the Lid window. -/
theorem State.rg_chgEntry_other (s : State) (h : Half) (kind op8 data a : Nat) (ha : a < 0x400000 ∨ 0x800000 ≤ a) :
    (s.chgEntry h kind op8 data).rg a = s.rg a := by
  simp only [State.chgEntry]
  rw [State.rg_reportDeck, State.rg_wn, if_neg (by simp only [Lid.chgSeq]; omega), State.modLid, State.rg_modDeck _ _ _ (by rfl)]
  refine List.foldlRecOn (motive := fun t : State => t.rg a = s.rg a) _ _ rfl fun t ht w hw => ?_
  have := List.mem_range.1 hw
  rw [State.rg_wn, if_neg, ht]
  simp only [Lid.chgLog]
  omega

/-- A lock bit set in one half's CMT_LOCK, or in both, leaves every lock that is set. -/
theorem State.locked_sb (s : State) (h k : Half) (g i : Nat) (hl : s.locked h i = true) (hg : g < 32) :
    (s.sb (Cmt.cmtLock k) g true).locked h i = true := by
  simp only [State.locked, State.bt, State.rg_sb] at hl ⊢
  split
  · rename_i e
    rw [← e]
    by_cases hi : i = g
    · rw [hi, bit_setBit _ _ _ hg]
    · rw [bit_setBit_other _ _ _ _ hi, hl]
  · exact hl
theorem State.locked_sb_same (s : State) (h : Half) (g : Nat) (hg : g < 32) :
    (s.sb (Cmt.cmtLock h) g true).locked h g = true := by
  simp [State.locked, State.bt, bit_setBit _ _ _ hg]
theorem State.locked_chgEntry (s : State) (h k : Half) (kind op8 data g : Nat) :
    (s.chgEntry h kind op8 data).locked k g = s.locked k g := by
  rw [State.locked, State.bt, State.rg_chgEntry_other _ _ _ _ _ _ (by
    cases k <;> simp only [Cmt.cmtLock, Half.base] <;> omega)]
  rfl

end Sys2Proof.Machine
end

section
/-! The commands of the commit registers, the event controller and the cores (R20, R57, R60, R62, R64). -/
namespace Sys2Proof.Machine

/-- One group named by a write of CMT_LOCK (R57). -/
def lockStep (h : Half) (t : State) (g : Nat) : State :=
  if t.locked h g then t
  else if isDeckGroup g then
    let t := (t.sb (Cmt.cmtLock .a) g true).sb (Cmt.cmtLock .b) g true
    if g = 5 then t.chgEntry h 7 0 0 else t
  else t.sb (Cmt.cmtLock h) g true
theorem execCmtLock_runs (h : Half) (groups : Word) (s : State) (hr : s.runs h = true) :
    exec (.cmtLock h groups) s = .next ((namedGroups groups).foldl (lockStep h) s) :=
  congrArg Host.Outcome.next (State.onHalf_runs s h _ hr)
theorem lockStep_keeps (h : Half) (t : State) (g i : Nat) (hg : g < 32) (hi : t.locked h i = true) :
    (lockStep h t g).locked h i = true := by
  have both := State.locked_sb _ h .b g i (t.locked_sb h .a g i hi hg) hg
  simp only [lockStep]
  split_ifs
  · exact hi
  · rw [State.locked_chgEntry, both]
  · exact both
  · exact t.locked_sb h h g i hi hg
theorem lockStep_locks (h : Half) (t : State) (g : Nat) (hg : g < 32) : (lockStep h t g).locked h g = true := by
  have both : ((t.sb (Cmt.cmtLock .a) g true).sb (Cmt.cmtLock .b) g true).locked h g = true := by
    cases h
    · exact State.locked_sb _ _ _ _ _ (t.locked_sb_same .a g hg) hg
    · exact State.locked_sb_same _ _ _ hg
  simp only [lockStep]
  split_ifs with h1
  · exact h1
  · rw [State.locked_chgEntry, both]
  · exact both
  · exact t.locked_sb_same h g hg

/-- One written bit of PEND[k] (R62). -/
def pendStep (h : Half) (k : Nat) (val again : Word) (t : State) (i : Nat) : State :=
  if bit val i then t.pendClear h (32 * k + i) (bit again i) else t
theorem execEvcPendClear_runs (h : Half) (k : Nat) (val again : Word) (s : State) (hr : s.runs h = true) :
    exec (.evcPendClear h k val again) s = .next ((List.range 32).foldl (pendStep h k val again) s) :=
  congrArg Host.Outcome.next (State.onHalf_runs s h _ hr)

/-- CORE_PARITY (R20, R60). -/
theorem coreParity_completes (h : Half) (c : Nat) (s : State) (hr : s.runs h = true) :
    Gives (.coreParity h c) s (fun t => c ∈ (t.half h).coreStopped ∧ Pends t h 4 ∧ SameMem s t ∧ SameShadows s t
      ∧ SameRegs s t (EventReg h)) := by
  refine ⟨_, congrArg Host.Outcome.next (State.onHalf_runs s h _ hr), ?_, ?_, fun a => by simp, fun a => by simp,
    fun a ha => ?_⟩
  · rw [State.half_raise, State.half_modHalf]
    by_cases hc : c ∈ (s.half h).coreStopped <;> simp [hc]
  · refine State.raise_pends _ _ _ ?_ (by decide)
    rwa [State.runs_modHalf _ _ _ _ rfl rfl]
  · rw [State.rg_raise_of_not_eventReg _ _ _ _ (by decide) ha, State.rg_modHalf]

/-- CMT_LOCK (R57). -/
theorem cmtLock_completes (h : Half) (groups : Word) (s : State) (hr : s.runs h = true) :
    Gives (.cmtLock h groups) s (fun t => ∀ g, g < 22 → bit groups g = true → t.locked h g = true) := by
  refine ⟨_, execCmtLock_runs h groups s hr, fun g hg hb => ?_⟩
  have hmem : g ∈ namedGroups groups := List.mem_filter.2 ⟨List.mem_range.2 hg, hb⟩
  refine foldl_establishes (p := fun g => g < 32) (Q := fun g t => State.locked t h g = true)
    (fun t e he => lockStep_locks h t e he) (fun t k e _ he hk => lockStep_keeps h t e k he hk) _ _ (fun e he => ?_) g hmem
  have := List.mem_range.1 (List.mem_filter.1 he).1
  omega

/-- CMT_FAULT_FLAG_CLEAR (R60). -/
theorem cmtFaultFlagClear_completes (h : Half) (val : Word) (s : State) (reg a : Nat) (hr : s.runs h = true)
    (ha : [Cmt.cmtLateWrite h, Cmt.cmtStrobeRefused h, Cmt.cmtLockedWrite h][reg]? = some a) :
    Gives (.cmtFaultFlagClear h reg val) s (fun t => t.rg a = s.rg a &&& ~~~ val ∧ SameMem s t
      ∧ SameRegs s t (fun x => x = a ∨ EventReg h x)) := by
  have hget : (cmtFlags h).getD reg (Cmt.cmtLateWrite h) = a := by
    rw [List.getD_eq_getElem?_getD, cmtFlags, ha]
    rfl
  have hne : ¬ EventReg h a := by
    have hm : a ∈ [Cmt.cmtLateWrite h, Cmt.cmtStrobeRefused h, Cmt.cmtLockedWrite h] := List.mem_of_getElem? ha
    simp only [List.mem_cons, List.not_mem_nil, or_false] at hm
    refine not_eventReg_cmt h a ?_
    rcases hm with rfl | rfl | rfl <;> simp only [Cmt.cmtLateWrite, Cmt.cmtStrobeRefused, Cmt.cmtLockedWrite] <;> omega
  have hex : exec (.cmtFaultFlagClear h reg val) s = .next (
      let u := s.wr a (s.rg a &&& ~~~ val)
      if (cmtFlags h).any (fun x => u.rg x != 0) then u.raise h 2 else u) := by
    rw [← hget]
    exact congrArg Host.Outcome.next (State.onHalf_runs s h _ hr)
  refine ⟨_, hex, ?_, fun b => ?_, fun x hx => ?_⟩
  · dsimp only
    split_ifs
    · rw [State.rg_raise_of_not_eventReg _ _ _ _ (by decide) hne, State.rg_wr, if_pos rfl]
    · rw [State.rg_wr, if_pos rfl]
  · dsimp only
    split_ifs <;> simp
  · obtain ⟨h1, h2⟩ := not_or.1 hx
    dsimp only
    split_ifs
    · rw [State.rg_raise_of_not_eventReg _ _ _ _ (by decide) h2, State.rg_wr, if_neg h1]
    · rw [State.rg_wr, if_neg h1]

/-- EVC_PEND_CLEAR (R62). -/
theorem evcPendClear_completes (h : Half) (k : Nat) (val again : Word) (s : State) (hr : s.runs h = true) (hk : k < 32) :
    Gives (.evcPendClear h k val again) s (fun t => SameMem s t ∧
      ∀ i, i < 32 → bit val i = true → isLevel (32 * k + i) = false → bit again i = false →
        t.mapBit (Evc.pend h 0) (32 * k + i) = false) := by
  refine ⟨_, execEvcPendClear_runs h k val again s hr, fun b => ?_, fun i hi hv hl ha => ?_⟩
  · refine List.foldlRecOn (motive := fun t : State => t.byte b = s.byte b) _ _ rfl fun t ht e _ => ?_
    simp only [pendStep]
    split_ifs
    · rw [State.byte_pendClear, ht]
    · exact ht
  · have set (t : State) (e : Nat) (he : e < 32) : bit val e = true → isLevel (32 * k + e) = false → bit again e = false →
        (pendStep h k val again t e).mapBit (Evc.pend h 0) (32 * k + e) = false := fun hv hl ha => by
      rw [pendStep, if_pos hv, ha]
      exact t.mapBit_pendClear_same h _ (by omega) hl
    refine foldl_establishes (p := fun e => e < 32) (Q := fun e t => bit val e = true → isLevel (32 * k + e) = false →
      bit again e = false → State.mapBit t (Evc.pend h 0) (32 * k + e) = false) set (fun t j e hj he hq => ?_) _ _
      (fun e he => List.mem_range.1 he) i (List.mem_range.2 hi) hv hl ha
    by_cases hje : j = e
    · exact hje ▸ set t e he
    · intro hv hl ha
      rw [pendStep]
      split_ifs
      · rw [State.mapBit_pendClear_other _ _ _ _ _ (by omega) (by omega)]
        exact hq hv hl ha
      · exact hq hv hl ha

/-- SNAP_START (R64): T, the first whole microsecond at least 2 us ahead, and RUNNING. -/
theorem snapStart_completes (h : Half) (cmd : Word) (s : State) (hr : s.runs h = true) (hc : bit cmd 0 = true)
    (hb : s.bt (Mod.snapStatus h) 0 = false) (hf : s.snapFits h = true) :
    Gives (.snapStart h cmd) s (fun t => t.bt (Mod.snapStatus h) 0 = true ∧ SameMem s t ∧
      ∃ T, (t.half h).snap.t = some T ∧ T % 1000 = 0 ∧ s.now h + 2000 ≤ T ∧ T < s.now h + 3000) := by
  let T := (s.now h + 2000 + 999) / 1000 * 1000
  let q := s.fd (Mod.snapStatus h) 31 16 + 1
  let u := (s.wn (Mod.snapStatus h) (q % 65536 * 65536 + 1)).wr64 (Mod.snapTLo h) T
  have hfit : u.snapFits h = true := by
    rw [← hf]
    simp [u, State.snapFits, State.fd, State.wr64, Mod.snapBase, Mod.snapStatus, Mod.snapTLo]
  have hex : exec (.snapStart h cmd) s = .next (u.modHalf h (fun x => { x with snap := { t := some T } })) := by
    refine congrArg Host.Outcome.next ((State.onHalf_runs s h _ hr).trans ?_)
    rw [if_neg (by simp [hc, hb])]
    exact if_pos hfit
  refine ⟨_, hex, ?_, fun b => by simp [u, State.wr64], T, by simp, ?_⟩
  · have hodd : (BitVec.ofNat 32 (q % 65536 * 65536 + 1)).getLsbD 0 = true := by
      rw [BitVec.getLsbD_ofNat]
      simp [Nat.testBit_zero]
      omega
    simp [State.bt, u, State.wr64, Mod.snapStatus, Mod.snapTLo, bit, hodd]
  · simp only [T]
    omega

/-- Settles O1: command by command. -/
theorem commitEventAndCoreCommandsComplete : Obligations.CommitEventAndCoreCommandsComplete :=
  ⟨coreParity_completes, cmtLock_completes, fun h val s reg a => cmtFaultFlagClear_completes h val s reg a,
    evcPendClear_completes, snapStart_completes⟩

end Sys2Proof.Machine
end

section
/-! Tally's counters and dump ring (R42, R70, R72, R73). -/
namespace Sys2Proof.Machine

/-! ### The dump of one period -/

/-- The state in which the dump of the present period is taken. -/
def State.dumpBegin (s : State) (h : Half) : State := s.modHalf h (fun x => { x with dumpK := some (s.dumpPer h) })
/-- The half-relative address of the ring slot that DUMP_WP names (R72). -/
def State.dumpSlot (s : State) (h : Half) : Nat := s.fd (Tally.dumpBase h) 29 0 * 64 + s.rn (Tally.dumpWp h) * 2112
/-- The slot after it. -/
def State.dumpNext (s : State) (h : Half) : Nat := (s.rn (Tally.dumpWp h) + 1) % s.dumpLen h

@[simp] theorem State.rg_dumpBegin (s : State) (h : Half) (a : Nat) : (s.dumpBegin h).rg a = s.rg a := State.rg_modHalf ..
@[simp] theorem State.byte_dumpBegin (s : State) (h : Half) (a : Nat) : (s.dumpBegin h).byte a = s.byte a :=
  State.byte_modHalf ..
@[simp] theorem State.runs_dumpBegin (s : State) (h : Half) : (s.dumpBegin h).runs h = s.runs h :=
  State.runs_modHalf _ _ _ _ rfl rfl
theorem State.rn_dumpBegin (s : State) (h : Half) (a : Nat) : (s.dumpBegin h).rn a = s.rn a := by simp [State.rn]

theorem State.bt_dumpBegin (s : State) (h : Half) (a k : Nat) : (s.dumpBegin h).bt a k = s.bt a k := by simp [State.bt]
theorem State.dumpSlot_dumpBegin (s : State) (h : Half) : (s.dumpBegin h).dumpSlot h = s.dumpSlot h := by
  simp [State.dumpSlot, State.fd, State.rn]
theorem State.dumpNext_dumpBegin (s : State) (h : Half) : (s.dumpBegin h).dumpNext h = s.dumpNext h := by
  simp [State.dumpNext, State.dumpLen, State.fd, State.rn]

/-- Every half holds a dump ring of at most 2^24 slots (R73). -/
theorem State.dumpNext_lt (s : State) (h : Half) : s.dumpNext h < 2 ^ 32 := by
  have hf : s.fd (Tally.dumpLen h) 23 0 < 2 ^ 24 := bits_lt _ 23 0
  have hl : 0 < s.dumpLen h ∧ s.dumpLen h ≤ 2 ^ 24 := by
    simp only [State.dumpLen]
    split_ifs <;> omega
  have := Nat.mod_lt (s.rn (Tally.dumpWp h) + 1) hl.1
  simp only [State.dumpNext]
  omega

section
variable {h : Half} {s : State} (hr : s.runs h = true) (hen : s.bt (Tally.dumpCtrl h) 0 = true)
  (hk : (s.half h).dumpK ≠ some (s.dumpPer h))
include hr hen hk

/-- A dump that falls due while the record before is still being written (R73). -/
theorem execTallyDump_busy : exec (.tallyDump ⟨h, true⟩) s = .next ((s.dumpBegin h).sat (Tally.dumpLost h)) := by
  refine congrArg Host.Outcome.next ((State.onHalf_runs s h _ hr).trans ?_)
  rw [if_neg (by simp [hen, hk])]
  exact if_pos rfl
/-- A dump that falls due while none is being written: lost, refused by the DDR window, or written (R42, R72, R73). -/
theorem execTallyDump_due : exec (.tallyDump ⟨h, false⟩) s = .next
    (if s.bt (Tally.dumpCtrl h) 1 = false ∧ s.dumpNext h = s.rn (Tally.dumpRp h) then
       ((s.dumpBegin h).sat (Tally.dumpLost h)).raise h 761
     else if inDdr (s.dumpSlot h) 2112 = false then (s.dumpBegin h).busError h masterTally (h.base + s.dumpSlot h)
     else
       let q := (s.rn (Tally.dumpSeq h) + 1) % 2 ^ 32
       ((((s.dumpBegin h).setBytes (h.base + s.dumpSlot h) ((s.dumpBegin h).dumpRecord h q)).wn (Tally.dumpSeq h) q).wn
         (Tally.dumpWp h) (s.dumpNext h)).dumpPull h 1) := by
  have hbt := s.bt_dumpBegin h (Tally.dumpCtrl h) 1
  have hnext := s.dumpNext_dumpBegin h
  have hslot := s.dumpSlot_dumpBegin h
  have hrn (a : Nat) : (s.dumpBegin h).rn a = s.rn a := s.rn_dumpBegin h a
  rw [← hbt, ← hnext, ← hslot, ← hrn (Tally.dumpRp h), ← hrn (Tally.dumpSeq h)]
  refine congrArg Host.Outcome.next ((State.onHalf_runs s h _ hr).trans ?_)
  rw [if_neg (by simp [hen, hk])]
  exact if_neg (by simp)
end

/-- A ring that no stream reads keeps its record (R548). -/
theorem State.dumpPull_none (s : State) (h : Half) (n : Nat) (hn : s.streamOf h 2 = none) : s.dumpPull h n = s := by
  cases n with
  | zero => rfl
  | succ n => rw [State.dumpPull, hn]
/-- Which stream reads a source depends on the Tray registers alone. -/
theorem State.streamOf_congr {s t : State} {h : Half} (src : Nat) (hrg : ∀ a, h.base + 0x100000 ≤ a → t.rg a = s.rg a) :
    t.streamOf h src = s.streamOf h src := by
  have h1 (st : Nat) : t.rg (Tray.strStatus h st) = s.rg (Tray.strStatus h st) := hrg _ (by simp only [Tray.strStatus]; omega)
  have h2 (st : Nat) : t.rg (Tray.strCfg h st) = s.rg (Tray.strCfg h st) := hrg _ (by simp only [Tray.strCfg]; omega)
  simp only [State.streamOf, State.streaming, State.fd, h1, h2]
  rfl

/-! ### The clauses -/

/-- TALLY_WRAP (R70). -/
theorem tallyWrap_completes (h : Half) (n : Nat) (s : State) (hr : s.runs h = true)
    (hv : Map.get (fun _ => 0) (s.half h).ctr n = 2 ^ 48 - 1) (hen : s.bt (Tally.ctrCfg h n) 17 = true) :
    Gives (.tallyWrap h n) s (fun t => Map.get (fun _ => 0) (t.half h).ctr n = 0 ∧ t.bt (Tally.ctrCfg h n) 24 = true
      ∧ SameMem s t ∧ SameRegs s t (fun a => a = Tally.ctrCfg h n)) := by
  have hex : exec (.tallyWrap h n) s = .next (s.tallyInc h n) :=
    congrArg Host.Outcome.next ((State.onHalf_runs s h _ hr).trans (if_pos ⟨hv, hen⟩))
  refine ⟨_, hex, ?_, ?_, fun a => State.byte_tallyInc .., fun a ha => State.rg_tallyInc_other _ _ _ _ ha⟩
  · simp [State.tallyInc, hv]
  · simp [State.tallyInc, hv, State.bt, bit_setBit]

section
variable {h : Half} {s : State} (hr : s.runs h = true) (hen : s.bt (Tally.dumpCtrl h) 0 = true)
  (hk : (s.half h).dumpK ≠ some (s.dumpPer h))
include hr hen hk

/-- A dump with room, of which no stream takes the record (R72). -/
theorem tallyDump_writes (hst : s.streamOf h 2 = none)
    (hroom : s.bt (Tally.dumpCtrl h) 1 = true ∨ s.dumpNext h ≠ s.rn (Tally.dumpRp h)) (hd : inDdr (s.dumpSlot h) 2112 = true) :
    Gives (.tallyDump ⟨h, false⟩) s (fun t => t.rn (Tally.dumpSeq h) = (s.rn (Tally.dumpSeq h) + 1) % 2 ^ 32
      ∧ t.rn (Tally.dumpWp h) = s.dumpNext h ∧ SameRegs s t (fun a => a = Tally.dumpSeq h ∨ a = Tally.dumpWp h)) := by
  have hfull : ¬(s.bt (Tally.dumpCtrl h) 1 = false ∧ s.dumpNext h = s.rn (Tally.dumpRp h)) := by
    rintro ⟨h1, h2⟩
    rcases hroom with e | e
    · simp [h1] at e
    · exact e h2
  have hex := execTallyDump_due hr hen hk
  rw [if_neg hfull, if_neg (by simp [hd])] at hex
  have hne : Tally.dumpSeq h ≠ Tally.dumpWp h := by simp [Tally.dumpSeq, Tally.dumpWp]
  have hrg (q : Nat) (bs : List Byte) (a : Nat) : ((((s.dumpBegin h).setBytes (h.base + s.dumpSlot h) bs).wn
      (Tally.dumpSeq h) q).wn (Tally.dumpWp h) (s.dumpNext h)).rg a
      = if a = Tally.dumpWp h then BitVec.ofNat 32 (s.dumpNext h) else if a = Tally.dumpSeq h then BitVec.ofNat 32 q
        else s.rg a := by simp
  rw [State.dumpPull_none] at hex
  · refine ⟨_, hex, ?_, ?_, fun a ha => ?_⟩
    · rw [State.rn, hrg, if_neg hne, if_pos rfl]
      simp
    · rw [State.rn, hrg, if_pos rfl, BitVec.toNat_ofNat]
      exact Nat.mod_eq_of_lt (s.dumpNext_lt h)
    · obtain ⟨h1, h2⟩ := not_or.1 ha
      rw [hrg, if_neg h2, if_neg h1]
  · rw [← hst]
    refine State.streamOf_congr 2 fun a ha => ?_
    rw [hrg, if_neg, if_neg] <;> simp only [Tally.dumpSeq, Tally.dumpWp] <;> omega

/-- A full ring that may not overwrite (R73). -/
theorem tallyDump_full (hov : s.bt (Tally.dumpCtrl h) 1 = false) (hfull : s.dumpNext h = s.rn (Tally.dumpRp h))
    (hlost : s.rn (Tally.dumpLost h) < 2 ^ 32 - 1) :
    Gives (.tallyDump ⟨h, false⟩) s (fun t => t.rn (Tally.dumpLost h) = s.rn (Tally.dumpLost h) + 1 ∧ Pends t h 761
      ∧ SameMem s t) := by
  have hex := execTallyDump_due hr hen hk
  rw [if_pos ⟨hov, hfull⟩] at hex
  refine ⟨_, hex, ?_, ?_, fun a => by simp⟩
  · have hne : ¬ EventReg h (Tally.dumpLost h) := by
      simp only [EventReg, Tally.dumpLost]
      omega
    rw [State.rn, State.rg_raise_of_not_eventReg _ _ _ _ (by decide) hne]
    refine (State.rn_sat _ _).trans ?_
    rw [State.rn_dumpBegin]
    omega
  · refine State.raise_pends _ _ _ ?_ (by decide)
    rw [State.sat, State.runs_satF, State.runs_dumpBegin, hr]

/-- A dump that falls while one is being written (R73). -/
theorem tallyDump_busy (hlost : s.rn (Tally.dumpLost h) < 2 ^ 32 - 1) :
    Gives (.tallyDump ⟨h, true⟩) s (fun t => t.rn (Tally.dumpLost h) = s.rn (Tally.dumpLost h) + 1
      ∧ SameMem s t ∧ SameRegs s t (fun a => a = Tally.dumpLost h)) := by
  refine ⟨_, execTallyDump_busy hr hen hk, ?_, fun a => by simp, fun a ha => ?_⟩
  · rw [State.rn_sat, State.rn_dumpBegin]
    omega
  · rw [State.rg_sat_other _ _ _ ha, State.rg_dumpBegin]

/-- A ring slot outside the DDR window (R42). -/
theorem tallyDump_outside (hroom : s.bt (Tally.dumpCtrl h) 1 = true ∨ s.dumpNext h ≠ s.rn (Tally.dumpRp h))
    (hd : inDdr (s.dumpSlot h) 2112 = false) :
    Gives (.tallyDump ⟨h, false⟩) s (fun t => Pends t h 0 ∧ SameMem s t ∧ SameRegs s t (EventReg h)
      ∧ (t.half h).busErrAddr = h.base + s.dumpSlot h) := by
  have hfull : ¬(s.bt (Tally.dumpCtrl h) 1 = false ∧ s.dumpNext h = s.rn (Tally.dumpRp h)) := by
    rintro ⟨h1, h2⟩
    rcases hroom with e | e
    · simp [h1] at e
    · exact e h2
  have hex := execTallyDump_due hr hen hk
  rw [if_neg hfull, if_pos hd] at hex
  obtain ⟨hpend, haddr, -, hmem, -, hreg⟩ :=
    (s.dumpBegin h).busError_spec h masterTally (h.base + s.dumpSlot h) (by rw [State.runs_dumpBegin, hr])
  exact ⟨_, hex, hpend, fun a => by rw [hmem a, State.byte_dumpBegin], fun a ha => by rw [hreg a ha, State.rg_dumpBegin], haddr⟩
end

/-- Settles O3: the wrap of a counter and the four ends of a dump. -/
theorem tallyWrapAndDumpComplete : Obligations.TallyWrapAndDumpComplete :=
  ⟨fun h n s hr _ hv hen => tallyWrap_completes h n s hr hv hen,
    fun _ _ hr hen hk hst hroom hd => tallyDump_writes hr hen hk hst hroom hd,
    fun _ _ hr hen hk hov hfull hlost => tallyDump_full hr hen hk hov hfull hlost,
    fun _ _ hr hen hk hlost => tallyDump_busy hr hen hk hlost,
    fun _ _ hr hen hk hroom hd => tallyDump_outside hr hen hk hroom hd⟩

end Sys2Proof.Machine
end

section
/-! A cluster fault whose source 15 does not stay pending. The placement's plan of this state names a loop far outside the
4,096 loops, whose PLC_PREP_RISK bit lies at bit 15 of EVC's PEND. Slot 3968 of engine 496 is MOVING for that plan, so the
engine's prepared loads are computed with it; the fault raises source 15, places the lost loop 0 on engine 496, and the
engine's new PLC_PREP_RISK bits then write the stray loop's bit, which the load does not set: PEND loses source 15. The
statement asks nothing of the plan: it speaks of every state, this one too, whether or not a run reaches it. -/
namespace Sys2Proof.Machine

/-- The loop number whose PLC_PREP_RISK bit is bit 15 of PEND. -/
def strayLoop : Nat := (Evc.pend .a 0 - Mod.plcPrepRisk .a 0) / 4 * 32 + 15
/-- Loop 0 runs in slot 0 of cluster 0 and the plan moves the stray loop into slot 3968; the clusters between are excluded. -/
def strayPlanState : State := { State.reset with
  live := [(Mod.plcExcluded .a 15, 0xFFFE0000), (slotBase .a 0, 0x2000), (Slot.status .a 0, 1), (Slot.status .a 3968, 3)],
  a.place.plan := [(strayLoop, 3968)], a.img.ready := [(2 + strayLoop, ⟨false, [], 0, 0, 0, 0⟩)] }

/-- Whether a step ends with source 15 of Half A pending in PEND. -/
def endsPending15 : Host.Outcome State Fault Refusal → Bool
  | .next t => t.mapBit (Evc.pend .a 0) 15
  | _ => false

theorem endsPending15_of_gives {c : Instr} {s : State} {P : State → Prop} (hg : Gives c s P) (hP : ∀ t, P t → Pends t .a 15) :
    endsPending15 (exec c s) = true := by
  obtain ⟨t, ht, hp⟩ := hg
  rw [ht]
  exact hP t hp

theorem clusterFault_strayPlanState : endsPending15 (exec (.clusterFault .a 0) strayPlanState) = false := by decide +kernel

/-- Refutes O26: a cluster fault clears its own source 15 again where the plan names a loop that does not exist. -/
theorem not_slabFaultAndSnapshotCommandsComplete : ¬ Obligations.SlabFaultAndSnapshotCommandsComplete := by
  unfold Obligations.SlabFaultAndSnapshotCommandsComplete
  rintro ⟨-, -, -, -, -, -, hcluster, -⟩
  have hg := hcluster .a 0 strayPlanState (by decide) (by decide +kernel) rfl rfl
  refine absurd (endsPending15_of_gives hg fun t ⟨_, _, _, hpend, _⟩ => hpend) ?_
  rw [clusterFault_strayPlanState]
  decide

end Sys2Proof.Machine
end

section
/-! SUPPORT. What a new owner of a resource group leaves as it was: Trivet itself and both halves' field-deck links (R55, R390). -/
namespace Sys2Proof.Machine

/-- What each step of a fold keeps, the fold keeps. -/
theorem foldl_keeps {α β : Type} (v : State → β) (l : List α) (f : State → α → State) (s : State)
    (hf : ∀ t x, v (f t x) = v t) : v (l.foldl f s) = v s := by
  induction l generalizing s with
  | nil => rfl
  | cons x l ih => rw [List.foldl_cons, ih, hf]
/-- What both branches keep, the choice keeps. -/
theorem ite_keeps {β : Type} (v : State → β) {p : Prop} [Decidable p] {s t u : State} (ht : p → v t = v s)
    (hu : ¬ p → v u = v s) : v (if p then t else u) = v s := by
  split
  · exact ht ‹p›
  · exact hu ‹¬ p›

/-- A half's field-deck link as Trivet sees it: its lanes, whether it is up, and since when it is lost. -/
def HalfSt.linkView (x : HalfSt) : LinkSt × Bool × Nat := (x.link, x.linkUp, x.lostT)
/-- What Trivet's decisions rest on, beside the groups' owners themselves (R389, R390). -/
def State.ownView (s : State) : Trivet × (Half → LinkSt × Bool × Nat) := (s.deck.trivet, fun k => (s.half k).linkView)

/-! ### State operations -/

@[simp] theorem State.ownView_wr (s : State) (a : Nat) (w : Word) : (s.wr a w).ownView = s.ownView := by simp [State.ownView]
@[simp] theorem State.ownView_wrSh (s : State) (a : Nat) (w : Word) : (s.wrSh a w).ownView = s.ownView := by
  simp [State.ownView]
@[simp] theorem State.ownView_fw (s : State) (a hi lo v : Nat) : (s.fw a hi lo v).ownView = s.ownView := by
  simp [State.ownView]
@[simp] theorem State.ownView_sb (s : State) (a k : Nat) (b : Bool) : (s.sb a k b).ownView = s.ownView := by
  simp [State.ownView]
@[simp] theorem State.ownView_wn (s : State) (a v : Nat) : (s.wn a v).ownView = s.ownView := by simp [State.ownView]
@[simp] theorem State.ownView_satF (s : State) (a hi lo n : Nat) : (s.satF a hi lo n).ownView = s.ownView := by
  simp [State.ownView]
@[simp] theorem State.ownView_sat (s : State) (a : Nat) : (s.sat a).ownView = s.ownView := s.ownView_satF ..
@[simp] theorem State.ownView_setMapBit (s : State) (a i : Nat) (b : Bool) : (s.setMapBit a i b).ownView = s.ownView := by
  simp [State.ownView]
@[simp] theorem State.ownView_setMemNat (s : State) (a n v : Nat) : (s.setMemNat a n v).ownView = s.ownView := by
  simp [State.ownView]
@[simp] theorem State.ownView_raise (s : State) (h : Half) (src : Nat) : (s.raise h src).ownView = s.ownView := by
  simp [State.ownView]
@[simp] theorem State.ownView_raiseBoth (s : State) (src : Nat) : (s.raiseBoth src).ownView = s.ownView := by
  simp [State.raiseBoth]
theorem State.ownView_modHalf (s : State) (h : Half) (f : HalfSt → HalfSt) (hf : ∀ x, (f x).linkView = x.linkView) :
    (s.modHalf h f).ownView = s.ownView := by
  refine Prod.ext (by simp [State.ownView]) (funext fun k => ?_)
  change ((s.modHalf h f).half k).linkView = (s.half k).linkView
  by_cases e : k = h
  · rw [e, State.half_modHalf, hf]
  · rw [State.half_modHalf_ne _ _ _ _ e]
theorem State.ownView_modDeck (s : State) (f : DeckSt → DeckSt) (hf : ∀ d, (f d).trivet = d.trivet) :
    (s.modDeck f).ownView = s.ownView := by
  simp [State.ownView, hf]

@[simp] theorem State.ownView_tallyInc (s : State) (h : Half) (n : Nat) : (s.tallyInc h n).ownView = s.ownView := by
  have hm : (s.modHalf h (fun x => { x with ctr := Map.set (fun _ => 0) x.ctr n ((Map.get (fun _ => 0)
      (s.half h).ctr n + 1) % 2 ^ 48) })).ownView = s.ownView := s.ownView_modHalf h _ fun _ => rfl
  exact ite_keeps State.ownView (fun _ => (State.ownView_sb _ _ _ _).trans hm) fun _ => hm
@[simp] theorem State.ownView_tally (s : State) (h : Half) (ev : Nat) : (s.tally h ev).ownView = s.ownView :=
  ite_keeps State.ownView (fun _ => rfl) fun _ => foldl_keeps State.ownView _ _ _ fun t e => t.ownView_tallyInc h e.1
@[simp] theorem State.ownView_reportAt (s : State) (h : Half) (t c k n : Nat) (d : List Nat) :
    (s.reportAt h t c k n d).ownView = s.ownView :=
  ite_keeps State.ownView (fun _ => rfl) fun _ => s.ownView_modHalf h _ fun _ => rfl
@[simp] theorem State.ownView_report (s : State) (h : Half) (c k n : Nat) (d : List Nat) :
    (s.report h c k n d).ownView = s.ownView := s.ownView_reportAt ..
@[simp] theorem State.ownView_reportDeck (s : State) (c k n : Nat) (d : List Nat) :
    (s.reportDeck c k n d).ownView = s.ownView := by
  simp [State.reportDeck]
@[simp] theorem State.ownView_modChan (s : State) (c : Nat) (f : ChanRun → ChanRun) : (s.modChan c f).ownView = s.ownView :=
  s.ownView_modDeck _ fun _ => rfl
@[simp] theorem State.ownView_modLink (s : State) (l : Nat) (f : LinkRun → LinkRun) : (s.modLink l f).ownView = s.ownView :=
  s.ownView_modDeck _ fun _ => rfl
@[simp] theorem State.ownView_modPort (s : State) (p : Nat) (f : MotRun → MotRun) : (s.modPort p f).ownView = s.ownView :=
  s.ownView_modDeck _ fun _ => rfl
@[simp] theorem State.ownView_modNode (s : State) (f : TrkDeck → TrkDeck) : (s.modNode f).ownView = s.ownView :=
  s.ownView_modDeck _ fun _ => rfl
@[simp] theorem State.ownView_modCan (s : State) (h : Half) (p : Nat) (f : CanRun → CanRun) :
    (s.modCan h p f).ownView = s.ownView := s.ownView_modHalf h _ fun _ => rfl
@[simp] theorem State.ownView_modTrk (s : State) (h : Half) (f : TrkSt → TrkSt) : (s.modTrk h f).ownView = s.ownView :=
  s.ownView_modHalf h _ fun _ => rfl
@[simp] theorem State.ownView_deckRefuse (s : State) (h : Half) : (s.deckRefuse h).ownView = s.ownView := by
  simp only [State.deckRefuse]
  split <;> simp

/-! ### Units that a new owner finds (R55) -/

@[simp] theorem State.ownView_setPend (s : State) (h : Half) (g : Nat) (b : Bool) : (s.setPend h g b).ownView = s.ownView :=
  ite_keeps State.ownView (fun _ => by simp) fun _ => by simp
@[simp] theorem State.ownView_settle (s : State) (h : Half) (g : Nat) : (s.settle h g).ownView = s.ownView :=
  ite_keeps State.ownView (fun _ => rfl) fun _ => by simp
@[simp] theorem State.ownView_abandonUnit (s : State) (u : CUnit) : (s.abandonUnit u).ownView = s.ownView := by
  cases hu : u.half with
  | none =>
    simp only [State.abandonUnit, hu]
    exact foldl_keeps State.ownView _ _ s fun t a => t.ownView_wrSh _ _
  | some h =>
    simp only [State.abandonUnit, hu]
    refine (foldl_keeps State.ownView _ _ _ fun t a => t.ownView_wrSh _ _).trans (ite_keeps State.ownView (fun _ => ?_) fun _ => rfl)
    refine s.ownView_modHalf h _ fun x => ?_
    split <;> rfl
@[simp] theorem State.ownView_ownerAbandon (s : State) (g : Nat) : (s.ownerAbandon g).ownView = s.ownView := by
  simp only [State.ownerAbandon]
  rw [foldl_keeps State.ownView]
  · exact foldl_keeps State.ownView _ _ s fun t u => t.ownView_abandonUnit u
  · exact fun t k => ite_keeps State.ownView (fun _ => by simp) fun _ => rfl

/-! ### Analog channels (R261) -/

theorem State.ownView_image (s : State) (off : Nat) (ws : List Nat) : (s.image off ws).ownView = s.ownView := by
  have hto (t : State) (h : Half) : (t.imageTo h off ws).ownView = t.ownView := foldl_keeps State.ownView _ _ t fun u e => by simp
  have hf (t : State) (h : Half) : (if t.deckHears h then t.imageTo h off ws else t).ownView = t.ownView :=
    ite_keeps State.ownView (fun _ => hto t h) fun _ => rfl
  exact (hf _ .b).trans (hf s .a)
@[simp] theorem State.ownView_ancImage (s : State) (c : Nat) : (s.ancImage c).ownView = s.ownView := s.ownView_image ..
@[simp] theorem State.ownView_chanShow (s : State) (c : Nat) : (s.chanShow c).ownView = s.ownView := by simp [State.chanShow]
@[simp] theorem State.ownView_cmpShow (s : State) (c : Nat) : (s.cmpShow c).ownView = s.ownView := by
  simp only [State.cmpShow]
  split <;> simp
@[simp] theorem State.ownView_ancCmp (s : State) (c : Nat) (ev : Option (Nat × Nat)) : (s.ancCmp c ev).ownView = s.ownView := by
  simp [State.ancCmp]
@[simp] theorem State.ownView_setQuality (s : State) (c q : Nat) : (s.setQuality c q).ownView = s.ownView := by
  simp only [State.setQuality]
  split_ifs <;> simp
@[simp] theorem State.ownView_ancRefresh (s : State) (c : Nat) (ev : Option (Nat × Nat)) :
    (s.ancRefresh c ev).ownView = s.ownView := by
  simp [State.ancRefresh]
@[simp] theorem State.ownView_ancTake (s : State) (c v : Nat) (al : Bool) : (s.ancTake c v al).ownView = s.ownView := by
  simp only [State.ancTake]
  split <;> simp
@[simp] theorem State.ownView_ancDrive (s : State) (c u : Nat) (al : Bool) : (s.ancDrive c u al).ownView = s.ownView :=
  s.ownView_ancTake ..
@[simp] theorem State.ownView_ancMissAct (s : State) (c : Nat) : (s.ancMissAct c).ownView = s.ownView :=
  ite_keeps State.ownView (fun _ => rfl) fun _ => ite_keeps State.ownView (fun _ => by simp) fun _ => rfl
@[simp] theorem State.ownView_ancResume (s : State) (c : Nat) : (s.ancResume c).ownView = s.ownView := by
  simp only [State.ancResume]
  split_ifs
  · rfl
  · simp
  · split <;> simp
@[simp] theorem State.ownView_calAbort (s : State) (c k : Nat) : (s.calAbort c k).ownView = s.ownView :=
  ite_keeps State.ownView (fun _ => rfl) fun _ => by simp
@[simp] theorem State.ownView_calOnline (s : State) (c : Nat) : (s.calOnline c).ownView = s.ownView := by
  simp [State.calOnline]
@[simp] theorem State.ownView_ancOwner (s : State) (n : Nat) : (s.ancOwner n).ownView = s.ownView :=
  foldl_keeps State.ownView _ _ s fun t k => ite_keeps State.ownView (fun _ => by simp) fun _ => by simp

/-! ### Drive links and CAN ports (R206, R500, R501) -/

@[simp] theorem State.ownView_linkOwner (s : State) (l : Nat) : (s.linkOwner l).ownView = s.ownView :=
  ite_keeps State.ownView (fun _ => rfl) fun _ => by simp
@[simp] theorem State.ownView_canGo (s : State) (h : Half) (p n : Nat) : (s.canGo h p n).ownView = s.ownView := s.ownView_fw ..
@[simp] theorem State.ownView_canWarn (s : State) (h : Half) (p : Nat) : (s.canWarn h p).ownView = s.ownView := s.ownView_sb ..
@[simp] theorem State.ownView_canEnd (s : State) (h : Half) (p k : Nat) (o : Bool) (st : Nat) :
    (s.canEnd h p k o st).ownView = s.ownView := by
  simp only [State.canEnd]
  split_ifs <;> simp
@[simp] theorem State.ownView_canDrop (s : State) (h : Half) (p k st : Nat) : (s.canDrop h p k st).ownView = s.ownView := by
  simp only [State.canDrop]
  split <;> simp
@[simp] theorem State.ownView_canDropAll (s : State) (h : Half) (p st : Nat) : (s.canDropAll h p st).ownView = s.ownView :=
  foldl_keeps State.ownView _ _ s fun t e => by simp
@[simp] theorem State.ownView_canLeave (s : State) (h : Half) (p : Nat) : (s.canLeave h p).ownView = s.ownView := by
  simp only [State.canLeave]
  split <;> simp
@[simp] theorem State.ownView_canGain (s : State) (h : Half) (p : Nat) : (s.canGain h p).ownView = s.ownView := by
  simp only [State.canGain]
  split <;> simp
@[simp] theorem State.ownView_canOwner (s : State) (p : Nat) (old : Option Half) : (s.canOwner p old).ownView = s.ownView := by
  have hf (t : State) (h : Half) (was has : Bool) : (t.onHalf h (fun t =>
      if was && !has then
        (if (t.can h p).sending.isSome then t.modCan h p (fun c => { c with leaving := true }) else t.canLeave h p)
      else if has && !was then t.canGain h p
      else t)).ownView = t.ownView := by
    simp only [State.onHalf]
    split_ifs <;> simp
  exact (hf _ .b _ _).trans (hf s .a _ _)

/-! ### The trunk (R28, R429, R432) -/

@[simp] theorem State.ownView_trkShow (s : State) (h : Half) : (s.trkShow h).ownView = s.ownView := by
  simp only [State.trkShow]
  rw [foldl_keeps State.ownView _ _ _ fun t p => by simp]
  simp
@[simp] theorem State.ownView_setNode (s : State) (f : TrkDeck → TrkDeck) : (s.setNode f).ownView = s.ownView := by
  have hg (t : State) (h : Half) : (if t.deckHears h then t.trkShow h else t).ownView = t.ownView :=
    ite_keeps State.ownView (fun _ => t.ownView_trkShow h) fun _ => rfl
  have he : ((s.modNode f).eachHalf State.trkShow).ownView = s.ownView := (hg _ .b).trans ((hg _ .a).trans (s.ownView_modNode f))
  exact ite_keeps State.ownView (fun _ => he) fun _ => (State.ownView_raiseBoth _ _).trans he
@[simp] theorem State.ownView_trkFollow (s : State) : s.trkFollow.ownView = s.ownView := by
  simp only [State.trkFollow]
  split <;> simp
@[simp] theorem State.ownView_trkOwner (s : State) : s.trkOwner.ownView = s.ownView := by
  have hf (t : State) (h : Half) (n : Nat) : (if t.owns h 124 then t
      else (List.range n).foldl (fun (u : State) (_ : Nat) => u.deckRefuse h)
        (t.modTrk h (fun x => { x with queue := [] }))).ownView = t.ownView :=
    ite_keeps State.ownView (fun _ => rfl) fun _ =>
      (foldl_keeps State.ownView _ _ _ fun u _ => u.ownView_deckRefuse h).trans (t.ownView_modTrk h _)
  exact (State.ownView_trkFollow _).trans ((hf _ .b _).trans (hf s .a _))

/-! ### Lid's targets (R296, R303, R317) -/

@[simp] theorem State.ownView_doOne (s : State) (o : Nat) : (s.doOne o).ownView = s.ownView := by
  refine (State.ownView_image _ _ _).trans ?_
  simp only [State.doShow]
  split <;> simp
@[simp] theorem State.ownView_linkShow (s : State) (l : Nat) : (s.linkShow l).ownView = s.ownView := s.ownView_setMapBit ..
@[simp] theorem State.ownView_gateShow (s : State) (l : Nat) : (s.gateShow l).ownView = s.ownView := by
  simp only [State.gateShow]
  split_ifs <;> simp
@[simp] theorem State.ownView_uncertain (s : State) (p k : Nat) : (s.uncertain p k).ownView = s.ownView :=
  ite_keeps State.ownView (fun _ => rfl) fun _ => by simp
@[simp] theorem State.ownView_cutSteps (s : State) (p : Nat) : (s.cutSteps p).ownView = s.ownView := by simp [State.cutSteps]
@[simp] theorem State.ownView_portStop (s : State) (p k : Nat) : (s.portStop p k).ownView = s.ownView := by
  simp only [State.portStop]
  split_ifs <;> simp
@[simp] theorem State.ownView_portDrop (s : State) (p k st : Nat) : (s.portDrop p k st).ownView = s.ownView := by
  simp only [State.portDrop]
  split <;> simp
@[simp] theorem State.ownView_motDisable (s : State) (p : Nat) (off : Bool) : (s.motDisable p off).ownView = s.ownView := by
  simp only [State.motDisable]
  split_ifs <;> simp
@[simp] theorem State.ownView_targetShow (s : State) (k : Nat) : (s.targetShow k).ownView = s.ownView := by
  simp only [State.targetShow]
  split_ifs <;> simp
@[simp] theorem State.ownView_lidShow (s : State) : s.lidShow.ownView = s.ownView := by
  simp only [State.lidShow]
  rw [foldl_keeps State.ownView _ _ _ fun t k => t.ownView_targetShow k, foldl_keeps State.ownView _ _ _ fun t w => by simp]
  simp
@[simp] theorem State.ownView_termLock (s : State) (t : Nat) : (s.termLock t).ownView = s.ownView := by simp [State.termLock]
@[simp] theorem State.ownView_lidOwner (s : State) : s.lidOwner.ownView = s.ownView :=
  (State.ownView_lidShow _).trans (foldl_keeps State.ownView _ _ s fun u t => u.ownView_termLock t)

/-! ### A new owner -/

/-- The blocks that meet a new owner leave Trivet and the links. -/
@[simp] theorem State.ownView_newOwner (s : State) (g : Nat) (old : Option Half) : (s.newOwner g old).ownView = s.ownView := by
  simp only [State.newOwner]
  split_ifs <;> simp

end Sys2Proof.Machine
end

section
/-! SUPPORT. Trivet's decision of all groups (R390, R391): the inputs stay, and each group that is not frozen gets its decision. -/
namespace Sys2Proof.Machine

@[simp] theorem State.deck_modTrivet (s : State) (f : Trivet → Trivet) :
    (s.modTrivet f).deck = { s.deck with trivet := f s.deck.trivet } := rfl
@[simp] theorem State.half_modTrivet (s : State) (f : Trivet → Trivet) (h : Half) : (s.modTrivet f).half h = s.half h :=
  State.half_modDeck ..

/-- What Trivet decides from: all of it but the groups' owners, and both halves' links. -/
def State.inputView (s : State) : Trivet × (Half → LinkSt × Bool × Nat) :=
  ({ s.deck.trivet with rail0 := [], rail1 := [] }, fun k => (s.half k).linkView)
/-- The owners of a group in the two rails. -/
def State.railsOf (s : State) (g : Nat) : Nat × Nat :=
  (Map.get (fun _ => 0) s.deck.trivet.rail0 g, Map.get (fun _ => 0) s.deck.trivet.rail1 g)

section
variable {s t : State}
theorem State.trivet_of_ownView (hv : t.ownView = s.ownView) : t.deck.trivet = s.deck.trivet := congrArg Prod.fst hv
theorem State.inputView_of_ownView (hv : t.ownView = s.ownView) : t.inputView = s.inputView := by
  have hl : (fun k => (t.half k).linkView) = fun k => (s.half k).linkView := congrArg Prod.snd hv
  rw [State.inputView, State.inputView, State.trivet_of_ownView hv, hl]
theorem State.railsOf_of_ownView (hv : t.ownView = s.ownView) (g : Nat) : t.railsOf g = s.railsOf g := by
  rw [State.railsOf, State.railsOf, State.trivet_of_ownView hv]
theorem State.frozen_of_inputView (hv : t.inputView = s.inputView) : t.deck.trivet.frozen = s.deck.trivet.frozen :=
  congrArg (fun v => v.1.frozen) hv
theorem State.linkView_of_inputView (hv : t.inputView = s.inputView) (k : Half) :
    (t.half k).linkView = (s.half k).linkView :=
  congrFun (congrArg Prod.snd hv) k
theorem State.claimCounts_of_inputView (hv : t.inputView = s.inputView) (h : Half) (g : Nat) :
    t.claimCounts h g = s.claimCounts h g := by
  have hup (k : Half) : (t.half k).linkUp = (s.half k).linkUp := congrArg (·.2.1) (State.linkView_of_inputView hv k)
  have hA : t.deck.trivet.heardA = s.deck.trivet.heardA := congrArg (fun v => v.1.heardA) hv
  have hB : t.deck.trivet.heardB = s.deck.trivet.heardB := congrArg (fun v => v.1.heardB) hv
  have fA : t.deck.trivet.freshA = s.deck.trivet.freshA := congrArg (fun v => v.1.freshA) hv
  have fB : t.deck.trivet.freshB = s.deck.trivet.freshB := congrArg (fun v => v.1.freshB) hv
  have vA : t.deck.trivet.vecA = s.deck.trivet.vecA := congrArg (fun v => v.1.vecA) hv
  have vB : t.deck.trivet.vecB = s.deck.trivet.vecB := congrArg (fun v => v.1.vecB) hv
  cases h <;> simp only [State.claimCounts, State.counted, hup, hA, hB, fA, fB, vA, vB]
/-- The decision of a group rests on the inputs and its own owner. -/
theorem State.decideOf_congr (hv : t.inputView = s.inputView) (g : Nat) (hg : t.railsOf g = s.railsOf g) :
    t.decideOf g = s.decideOf g := by
  have h0 : Map.get (fun _ => 0) t.deck.trivet.rail0 g = Map.get (fun _ => 0) s.deck.trivet.rail0 g := congrArg Prod.fst hg
  have hp : t.deck.trivet.pref = s.deck.trivet.pref := congrArg (fun v => v.1.pref) hv
  rw [State.decideOf, State.decideOf, h0, hp, State.claimCounts_of_inputView hv, State.claimCounts_of_inputView hv]
end

/-! ### One group -/

theorem State.ownView_setOwner (s : State) (g n : Nat) : (s.setOwner g n).ownView = (s.modTrivet (fun t => { t with
    rail0 := Map.set (fun _ => 0) t.rail0 g n
    rail1 := Map.set (fun _ => 0) t.rail1 g n })).ownView :=
  ite_keeps State.ownView (fun _ => rfl) fun _ => State.ownView_newOwner ..
theorem State.inputView_setOwner (s : State) (g n : Nat) : (s.setOwner g n).inputView = s.inputView :=
  (State.inputView_of_ownView (s.ownView_setOwner g n)).trans (by simp [State.inputView])
theorem State.railsOf_setOwner (s : State) (g n k : Nat) :
    (s.setOwner g n).railsOf k = if k = g then (n, n) else s.railsOf k := by
  rw [State.railsOf_of_ownView (s.ownView_setOwner g n)]
  simp only [State.railsOf, State.deck_modTrivet, Map.get_set]
  split <;> rfl

/-- Trivet decides one group, if it is not frozen. -/
def State.redecideOne (s : State) (g : Nat) : State :=
  if s.deck.trivet.frozen.contains g then s else s.setOwner g (s.decideOf g)
theorem State.inputView_redecideOne (s : State) (g : Nat) : (s.redecideOne g).inputView = s.inputView := by
  simp only [State.redecideOne]
  split
  · rfl
  · exact s.inputView_setOwner g _
theorem State.railsOf_redecideOne (s : State) (g k : Nat) : (s.redecideOne g).railsOf k =
    if k = g ∧ s.deck.trivet.frozen.contains g = false then (s.decideOf g, s.decideOf g) else s.railsOf k := by
  simp only [State.redecideOne]
  split
  · simp_all
  · simp_all [State.railsOf_setOwner]

/-! ### All groups -/

theorem State.inputView_redecide_of (l : List Nat) (s : State) : (l.foldl State.redecideOne s).inputView = s.inputView := by
  induction l generalizing s with
  | nil => rfl
  | cons g l ih => rw [List.foldl_cons, ih, State.inputView_redecideOne]
theorem State.railsOf_redecide_of (l : List Nat) (hl : l.Nodup) (s : State) (k : Nat) :
    (l.foldl State.redecideOne s).railsOf k = if k ∈ l ∧ s.deck.trivet.frozen.contains k = false
      then (s.decideOf k, s.decideOf k) else s.railsOf k := by
  induction l generalizing s with
  | nil => simp
  | cons g l ih =>
    obtain ⟨hg, hl⟩ := List.nodup_cons.1 hl
    have hfro := State.frozen_of_inputView (s.inputView_redecideOne g)
    rw [List.foldl_cons, ih hl, hfro, State.railsOf_redecideOne]
    by_cases hk : k = g
    · subst hk
      simp [hg]
    · have hrail : (s.redecideOne g).railsOf k = s.railsOf k := by rw [State.railsOf_redecideOne, if_neg fun h => hk h.1]
      rw [State.decideOf_congr (s.inputView_redecideOne g) k hrail]
      simp [hk]
theorem State.redecide_eq (s : State) : s.redecide = (List.range 128).foldl State.redecideOne s := rfl
theorem State.inputView_redecide (s : State) : s.redecide.inputView = s.inputView := State.inputView_redecide_of _ s
/-- Deciding all groups decides them (R390). -/
theorem State.redecided_redecide (s : State) : Redecided s s.redecide := by
  refine ⟨rfl, State.frozen_of_inputView s.inputView_redecide, fun g hg => ?_⟩
  change s.redecide.railsOf g = _
  rw [State.redecide_eq, State.railsOf_redecide_of _ List.nodup_range]
  simp only [List.mem_range, hg, true_and]
  cases s.deck.trivet.frozen.contains g
  · exact if_pos rfl
  · exact if_neg (by decide)

end Sys2Proof.Machine
end

section
/-! SUPPORT. The links' lanes and Trivet's inputs (R26, R389, R390, R391). -/
namespace Sys2Proof.Machine

theorem State.linkView_redecide (s : State) (k : Half) : (s.redecide.half k).linkView = (s.half k).linkView :=
  State.linkView_of_inputView s.inputView_redecide k

/-! ### Lanes -/

/-- The working lanes of one direction. -/
def laneCount (m : Nat) : Nat := ((List.range 4).filter (fun i => m.testBit i)).length
/-- What a field-deck link with the lanes of `l` shows: its alarms, and whether it is up (R26). -/
def HalfSt.showLanes (x : HalfSt) (l : LinkSt) (now : Nat) : HalfSt :=
  let up := decide (2 ≤ laneCount l.deckTo) && decide (2 ≤ laneCount l.deckFrom)
  { x with
    link := { l with
      alarmDeck := decide (l.deckTo ≠ 15) || decide (l.deckFrom ≠ 15), alarmMirror := decide (l.mirror ≠ 255) }
    linkUp := up
    lostT := if x.linkUp && !up then now else x.lostT }
/-- A field-deck link after its lanes became those of `l`: what it shows, and that Trivet has decided afresh. -/
def LinkShown (s t : State) (h : Half) (l : LinkSt) : Prop :=
  (t.half h).link = { l with
      alarmDeck := decide (l.deckTo ≠ 15) || decide (l.deckFrom ≠ 15), alarmMirror := decide (l.mirror ≠ 255) }
    ∧ (t.half h).linkUp = (decide (2 ≤ laneCount l.deckTo) && decide (2 ≤ laneCount l.deckFrom))
    ∧ (t.half h).lostT = (if (s.half h).linkUp && !(t.half h).linkUp then s.deck.ticks else (s.half h).lostT)
    ∧ ∃ u : State, u.half h = { s.half h with link := (t.half h).link, linkUp := (t.half h).linkUp, lostT := (t.half h).lostT }
      ∧ u.half h.other = s.half h.other ∧ u.deck = s.deck ∧ u.live = s.live ∧ u.mem = s.mem ∧ Redecided u t

theorem State.deckLinkShow_modLink (s : State) (h : Half) (f : HalfSt → LinkSt) :
    ((s.modHalf h (fun x => { x with link := f x })).deckLinkShow h)
      = (s.modHalf h (fun x => x.showLanes (f x) s.deck.ticks)).redecide := by
  cases h <;> rfl
theorem State.linkShown_deckLinkShow (s : State) (h : Half) (l : LinkSt) :
    LinkShown s ((s.modHalf h (fun x => { x with link := l })).deckLinkShow h) h l := by
  rw [State.deckLinkShow_modLink]
  generalize hw : s.modHalf h (fun x => x.showLanes l s.deck.ticks) = w
  have hh : w.half h = (s.half h).showLanes l s.deck.ticks := by rw [← hw, State.half_modHalf]
  have hview := w.linkView_redecide h
  rw [hh] at hview
  obtain ⟨hlink, hrest⟩ := Prod.mk.inj hview
  obtain ⟨hup, hlost⟩ := Prod.mk.inj hrest
  refine ⟨hlink, hup, ?_, w, ?_, ?_, ?_, ?_, ?_, w.redecided_redecide⟩
  · rw [hup]
    exact hlost
  · rw [hlink, hup, hlost, hh]
    rfl
  all_goals rw [← hw]; simp

/-- An odd number less 1 lacks bit 0 alone. -/
theorem testBit_pred_of_odd {n : Nat} (hn : n % 2 = 1) (i : Nat) : (n - 1).testBit i = (decide (i ≠ 0) && n.testBit i) := by
  cases i with
  | zero => simp [Nat.testBit_zero]; omega
  | succ i =>
    have hdiv : (n - 1) / 2 = n / 2 := by omega
    simp [Nat.testBit_succ, hdiv]
/-- A lane mask without one of its lanes. -/
def laneOff (lane m : Nat) : Nat := if m.testBit lane then m - 2 ^ lane else m
theorem testBit_laneOff (m lane i : Nat) : (laneOff lane m).testBit i = (decide (i ≠ lane) && m.testBit i) := by
  unfold laneOff
  by_cases hb : m.testBit lane = true
  · have hodd : m / 2 ^ lane % 2 = 1 := by simpa [Nat.testBit_eq_decide_div_mod_eq] using hb
    have hlt : m % 2 ^ lane < 2 ^ lane := Nat.mod_lt _ (Nat.two_pow_pos _)
    have hm : m = 2 ^ lane * (m / 2 ^ lane) + m % 2 ^ lane := (Nat.div_add_mod m (2 ^ lane)).symm
    have hsub : m - 2 ^ lane = 2 ^ lane * (m / 2 ^ lane - 1) + m % 2 ^ lane := by
      have hpos : 0 < m / 2 ^ lane := Nat.pos_of_ne_zero fun h0 => by simp [h0] at hodd
      have hle : 2 ^ lane ≤ 2 ^ lane * (m / 2 ^ lane) := Nat.le_mul_of_pos_right _ hpos
      rw [Nat.mul_sub, Nat.mul_one]
      omega
    rw [if_pos hb, hsub, Nat.testBit_two_pow_mul_add _ hlt, testBit_pred_of_odd hodd]
    conv_rhs => rw [hm, Nat.testBit_two_pow_mul_add _ hlt]
    split
    · simp [show i ≠ lane by omega]
    · simp [show i - lane ≠ 0 ↔ i ≠ lane by omega]
  · rw [if_neg hb]
    by_cases hi : i = lane
    · simp [hi, hb]
    · simp [hi]

end Sys2Proof.Machine
end

section
/-! The commands of the lanes and of Trivet's inputs (R26, R389-R391). -/
namespace Sys2Proof.Machine

/-! ### Lanes -/

/-- The mirror link of which one end has no lane left is down (R26). -/
def State.mirrorCheck (s : State) : State :=
  if s.a.link.mirror = 0 ∨ s.b.link.mirror = 0 then { s with mirrorUp := false } else s
/-- A half's mirror link without lane `lane`, and its alarms. -/
def HalfSt.mirrorLaneOff (x : HalfSt) (lane : Nat) : HalfSt :=
  { x with link := { x.link with
    mirror := laneOff lane x.link.mirror
    alarmDeck := decide (x.link.deckTo ≠ 15) || decide (x.link.deckFrom ≠ 15)
    alarmMirror := decide (laneOff lane x.link.mirror ≠ 255) } }
/-- A half's lanes to and from the field deck without lane `lane` of one direction. -/
def LinkSt.deckLaneOff (l : LinkSt) (fd : Bool) (lane : Nat) : LinkSt :=
  { l with
    deckTo := if fd then l.deckTo else laneOff lane l.deckTo
    deckFrom := if fd then laneOff lane l.deckFrom else l.deckFrom }

@[simp] theorem State.half_mirrorCheck (s : State) (h : Half) : s.mirrorCheck.half h = s.half h := by
  simp only [State.mirrorCheck]
  split <;> cases h <;> rfl
@[simp] theorem State.rg_mirrorCheck (s : State) (a : Nat) : s.mirrorCheck.rg a = s.rg a := by
  simp only [State.mirrorCheck]
  split <;> rfl
@[simp] theorem State.byte_mirrorCheck (s : State) (a : Nat) : s.mirrorCheck.byte a = s.byte a := by
  simp only [State.mirrorCheck]
  split <;> rfl
theorem State.mirrorUp_mirrorCheck (s : State) : s.mirrorCheck.mirrorUp
    = (s.mirrorUp && decide ((s.mirrorCheck.half .a).link.mirror ≠ 0) && decide ((s.mirrorCheck.half .b).link.mirror ≠ 0)) := by
  rw [State.half_mirrorCheck, State.half_mirrorCheck]
  simp only [State.mirrorCheck, State.half]
  split
  · rcases ‹_ ∨ _› with e | e <;> simp [e]
  · simp_all

theorem execLaneTrainingFail_mirror (h : Half) (fd : Bool) (lane : Nat) (s : State) :
    exec (.laneTrainingFail h false fd lane) s = .next (s.modHalf h (·.mirrorLaneOff lane)).mirrorCheck := by
  cases h <;> rfl
theorem execLaneTrainingFail_deck (h : Half) (fd : Bool) (lane : Nat) (s : State) :
    exec (.laneTrainingFail h true fd lane) s = .next ((s.modHalf h (fun x => { x with
      link := (s.half h).link.deckLaneOff fd lane })).onDeck (·.deckLinkShow h)) := by
  cases h <;> rfl

/-- LANE_TRAINING_FAIL of the mirror link (R26). -/
theorem laneTrainingFail_mirror (h : Half) (fd : Bool) (lane : Nat) (s : State) :
    Gives (.laneTrainingFail h false fd lane) s (fun t => SameMem s t ∧ SameRegs s t (fun _ => False)
      ∧ (∀ i, (t.half h).link.mirror.testBit i = (decide (i ≠ lane) && (s.half h).link.mirror.testBit i))
      ∧ (t.half h).link.alarmMirror = decide ((t.half h).link.mirror ≠ 255)
      ∧ t.mirrorUp = (s.mirrorUp && decide (t.a.link.mirror ≠ 0) && decide (t.b.link.mirror ≠ 0))) := by
  have hh : (s.modHalf h (·.mirrorLaneOff lane)).mirrorCheck.half h = (s.half h).mirrorLaneOff lane := by
    rw [State.half_mirrorCheck, State.half_modHalf]
  refine ⟨_, execLaneTrainingFail_mirror h fd lane s, fun a => by simp, fun a _ => ?_, fun i => ?_, ?_, ?_⟩
  · simp
  · rw [hh]
    exact testBit_laneOff _ _ _
  · rw [hh]
    rfl
  · refine (State.mirrorUp_mirrorCheck _).trans ?_
    rw [State.mirrorUp_modHalf]
    rfl

/-- LANE_TRAINING_FAIL of a field-deck link (R26). -/
theorem laneTrainingFail_deck (h : Half) (fd : Bool) (lane : Nat) (s : State) :
    let l := (s.half h).link.deckLaneOff fd lane
    (∀ i, l.deckTo.testBit i = ((decide (i ≠ lane) || fd) && (s.half h).link.deckTo.testBit i))
    ∧ (∀ i, l.deckFrom.testBit i = ((decide (i ≠ lane) || !fd) && (s.half h).link.deckFrom.testBit i))
    ∧ (if s.deck.inReset then
        exec (.laneTrainingFail h true fd lane) s = .next (s.modHalf h (fun x => { x with link := l }))
       else Gives (.laneTrainingFail h true fd lane) s (fun t => LinkShown s t h l)) := by
  refine ⟨fun i => ?_, fun i => ?_, ?_⟩
  · cases fd <;> simp [LinkSt.deckLaneOff, testBit_laneOff]
  · cases fd <;> simp [LinkSt.deckLaneOff, testBit_laneOff]
  · split
    · rw [execLaneTrainingFail_deck, State.onDeck, State.deck_modHalf, if_pos ‹_›]
    · refine ⟨_, (execLaneTrainingFail_deck h fd lane s).trans ?_, s.linkShown_deckLinkShow h _⟩
      rw [State.onDeck, State.deck_modHalf, if_neg ‹_›]

/-- DECK_LINK_UP (R26). -/
theorem deckLinkUp_completes (h : Half) (s : State) : if s.runs h = false ∨ s.deck.inReset = true
    then exec (.deckLinkUp h) s = .next s
    else Gives (.deckLinkUp h) s (fun t => LinkShown s t h { (s.half h).link with deckTo := 15, deckFrom := 15 }) := by
  have hex : exec (.deckLinkUp h) s = .next (s.onHalf h (·.onDeck fun s => (s.modHalf h (fun x => { x with
      link := { (s.half h).link with deckTo := 15, deckFrom := 15 } })).deckLinkShow h)) := by cases h <;> rfl
  split
  · rcases ‹_ ∨ _› with e | e <;> simp [hex, State.onHalf, State.onDeck, e]
  · obtain ⟨hr, hi⟩ := not_or.1 ‹_›
    refine ⟨_, hex.trans ?_, s.linkShown_deckLinkShow h _⟩
    rw [State.onHalf, if_pos (by simpa using hr), State.onDeck, if_neg hi]

/-! ### Trivet's inputs (R389-R391) -/

/-- TRIVET_PATH_SILENT (R389). -/
theorem trivetPathSilent_completes (h : Half) (s : State) : if s.deck.inReset ∨ s.trivetQuiet h = false
    then exec (.trivetPathSilent h) s = .next s
    else Gives (.trivetPathSilent h) s (fun t => Redecided (s.modTrivet (fun x => x.hear h false 0)) t) := by
  have hex : exec (.trivetPathSilent h) s = .next (s.onDeck fun s =>
    if s.trivetQuiet h = false then s else (s.modTrivet (fun t => t.hear h false 0)).redecide) := rfl
  split
  · rcases ‹_ ∨ _› with e | e <;> simp [hex, State.onDeck, e]
  · obtain ⟨hi, hq⟩ := not_or.1 ‹_›
    exact ⟨_, by rw [hex, State.onDeck, if_neg hi, if_neg hq], State.redecided_redecide _⟩

/-- CLAIM_STALE (R389). -/
theorem claimStale_completes (h : Half) (s : State) : if s.deck.inReset ∨ s.claimOld h = false
    then exec (.claimStale h) s = .next s
    else Gives (.claimStale h) s (fun t => Redecided (s.modTrivet (fun x => x.stale h)) t) := by
  have hex : exec (.claimStale h) s = .next (s.onDeck fun s =>
    if s.claimOld h = false then s else (s.modTrivet (fun t => t.stale h)).redecide) := rfl
  split
  · rcases ‹_ ∨ _› with e | e <;> simp [hex, State.onDeck, e]
  · obtain ⟨hi, hq⟩ := not_or.1 ‹_›
    exact ⟨_, by rw [hex, State.onDeck, if_neg hi, if_neg hq], State.redecided_redecide _⟩

/-- The state in which a claim vector of half `h` has come to Trivet. -/
def State.claimIn (s : State) (h : Half) : State :=
  s.modTrivet (fun x => x.claim h (if (s.half h).ctl.claims then 2 ^ 128 - 1 else 0) s.deck.ticks)
/-- CLAIM_VECTOR (R390, R391). -/
theorem claimVector_completes (h : Half) (differ : Option Nat) (s : State) :
    if s.runs h = false ∨ s.deck.inReset = true ∨ (s.half h).linkUp = false then exec (.claimVector h differ) s = .next s
    else Gives (.claimVector h differ) s (fun t => match differ with
      | some g => Redecided (if g < 128 then (s.claimIn h).freeze g else s.claimIn h) t
      | none => Redecided (s.claimIn h) t) := by
  have hex : exec (.claimVector h differ) s = .next (s.onHalf h (·.onDeck fun s =>
    if (s.half h).linkUp = false then s else (match differ with
      | some g => if g < 128 then (s.claimIn h).freeze g else s.claimIn h
      | none => s.claimIn h).redecide)) := rfl
  split
  · rcases ‹_ ∨ _ ∨ _› with e | e | e <;> simp [hex, State.onHalf, State.onDeck, e]
  · obtain ⟨hr, hrest⟩ := not_or.1 ‹_›
    obtain ⟨hi, hup⟩ := not_or.1 hrest
    refine ⟨_, by rw [hex, State.onHalf, if_pos (by simpa using hr), State.onDeck, if_neg hi, if_neg hup], ?_⟩
    cases differ <;> exact State.redecided_redecide _

/-- The state in which group `g` is no longer frozen. -/
def State.thaw (s : State) (g : Nat) : State := s.modTrivet (fun x => { x with frozen := x.frozen.filter (· != g) })
/-- FROZEN_REDECIDE (R391). -/
theorem frozenRedecide_completes (g : Nat) (agree : Bool) (s : State) :
    if s.deck.inReset = true ∨ agree = false ∨ s.deck.trivet.frozen.contains g = false
    then exec (.frozenRedecide g agree) s = .next s
    else Gives (.frozenRedecide g agree) s (fun t => t = (s.thaw g).setOwner g ((s.thaw g).decideOf g)
      ∧ t.deck.trivet.frozen.contains g = false
      ∧ (∀ k, Map.get (fun _ => 0) t.deck.trivet.rail0 k
        = if k = g then s.decideOf g else Map.get (fun _ => 0) s.deck.trivet.rail0 k)) := by
  have hex : exec (.frozenRedecide g agree) s = .next (s.onDeck fun s => if agree && s.deck.trivet.frozen.contains g
    then (s.thaw g).setOwner g ((s.thaw g).decideOf g) else s) := rfl
  split
  · rcases ‹_ ∨ _ ∨ _› with e | e | e
    · rw [hex, State.onDeck, if_pos e]
    · rw [hex]
      simp only [State.onDeck, e, Bool.false_and, Bool.false_eq_true, if_false, ite_self]
    · rw [hex]
      simp only [State.onDeck, e, Bool.and_false, Bool.false_eq_true, if_false, ite_self]
  · obtain ⟨hi, hrest⟩ := not_or.1 ‹_›
    obtain ⟨ha, hg⟩ := not_or.1 hrest
    refine ⟨_, by rw [hex, State.onDeck, if_neg hi, if_pos (by simp_all)], rfl, ?_, fun k => ?_⟩
    · rw [State.frozen_of_inputView (State.inputView_setOwner _ _ _)]
      simp [State.thaw]
    · exact (congrArg Prod.fst (State.railsOf_setOwner _ g _ k)).trans (by split <;> rfl)

/-- OWNER_REPORT (R390, R393, R394). -/
theorem ownerReport_completes (h : Half) (s : State) : exec (.ownerReport h) s = .next
    (if s.runs h = true ∧ s.deck.inReset = false ∧ (s.half h).linkUp = true then (s.showOwners h).judgeOwners h else s) := by
  have hex : exec (.ownerReport h) s = .next (s.onHalf h (·.onDeck fun s =>
    if (s.half h).linkUp then (s.showOwners h).judgeOwners h else s)) := rfl
  rw [hex]
  by_cases hr : s.runs h = true
  · by_cases hi : s.deck.inReset = true
    · simp [State.onHalf, State.onDeck, hi]
    · simp [State.onHalf, State.onDeck, hr, hi]
  · simp [State.onHalf, hr]

end Sys2Proof.Machine
end

section
/-! The Whistle that a half sends (R386). -/
namespace Sys2Proof.Machine

/-! ### The frame -/

/-- The body of a Whistle: sequence number, state, self-fault, claims and take-back request. -/
def whistleBody (seq st : Nat) (fault claims back : Bool) : Nat :=
  seq + st * 256 + fault.toNat * 2048 + claims.toNat * 4096 + back.toNat * 8192
/-- A body with its CRC. -/
def whistleFrame (n : Nat) : Word := BitVec.ofNat 32 (n + (crc16 (leBytes 2 n)).toNat * 65536)

/-- A field of a word that is given as a number. -/
theorem bits_ofNat (n hi lo : Nat) (hn : n < 2 ^ 32) : bits (BitVec.ofNat 32 n) hi lo = n / 2 ^ lo % 2 ^ (hi + 1 - lo) := by
  rw [bits, BitVec.toNat_ofNat, Nat.mod_eq_of_lt hn, Nat.shiftRight_eq_div_pow]

theorem whistleFrame_lt (n : Nat) (hn : n < 65536) : n + (crc16 (leBytes 2 n)).toNat * 65536 < 2 ^ 32 := by
  have := (crc16 (leBytes 2 n)).isLt
  omega
/-- A frame carries its body below its CRC. -/
theorem bits_whistleFrame (n hi lo : Nat) (hn : n < 65536) (hlo : lo ≤ hi) (hhi : hi < 16) :
    bits (whistleFrame n) hi lo = n / 2 ^ lo % 2 ^ (hi + 1 - lo) := by
  have hsplit : (65536 : Nat) = 2 ^ lo * (2 ^ (hi + 1 - lo) * 2 ^ (15 - hi)) := by
    rw [← Nat.pow_add, ← Nat.pow_add, show lo + (hi + 1 - lo + (15 - hi)) = 16 by omega]
  rw [whistleFrame, bits_ofNat _ _ _ (whistleFrame_lt n hn)]
  generalize (crc16 (leBytes 2 n)).toNat = c
  have hdiv : (n + c * 65536) / 2 ^ lo = n / 2 ^ lo + 2 ^ (hi + 1 - lo) * (2 ^ (15 - hi) * c) := by
    rw [hsplit, show c * (2 ^ lo * (2 ^ (hi + 1 - lo) * 2 ^ (15 - hi)))
      = 2 ^ lo * (2 ^ (hi + 1 - lo) * (2 ^ (15 - hi) * c)) by ring, Nat.add_mul_div_left _ _ (Nat.two_pow_pos lo)]
  rw [hdiv, Nat.add_mul_mod_self_left]
theorem whistleCrc_whistleFrame (n : Nat) (hn : n < 65536) : whistleCrc (whistleFrame n) = true := by
  have hlow : bits (whistleFrame n) 15 0 = n := by
    rw [bits_whistleFrame n 15 0 hn (by decide) (by decide)]
    simpa using Nat.mod_eq_of_lt hn
  have hhigh : bits (whistleFrame n) 31 16 = (crc16 (leBytes 2 n)).toNat := by
    have := (crc16 (leBytes 2 n)).isLt
    rw [whistleFrame, bits_ofNat _ _ _ (whistleFrame_lt n hn)]
    omega
  rw [whistleCrc, hlow, hhigh, decide_eq_true rfl]

section
variable {seq st : Nat} (fault claims back : Bool) (hseq : seq < 256) (hst : st < 8)
include hseq hst
theorem whistleBody_lt : whistleBody seq st fault claims back < 65536 := by
  have := fault.toNat_lt
  have := claims.toNat_lt
  have := back.toNat_lt
  simp only [whistleBody]
  omega
theorem bits_whistleBody_seq : bits (whistleFrame (whistleBody seq st fault claims back)) 7 0 = seq := by
  rw [bits_whistleFrame _ 7 0 (whistleBody_lt fault claims back hseq hst) (by decide) (by decide)]
  simp only [whistleBody]
  omega
theorem bits_whistleBody_state : bits (whistleFrame (whistleBody seq st fault claims back)) 10 8 = st := by
  rw [bits_whistleFrame _ 10 8 (whistleBody_lt fault claims back hseq hst) (by decide) (by decide)]
  simp only [whistleBody]
  omega
theorem bit_whistleBody_claims : bit (whistleFrame (whistleBody seq st fault claims back)) 12 = claims := by
  have hfield := bits_whistleFrame _ 12 12 (whistleBody_lt fault claims back hseq hst) (by decide) (by decide)
  rw [bits_one] at hfield
  have hf := fault.toNat_lt
  have hc := claims.toNat_lt
  have inj : ∀ x y : Bool, x.toNat = y.toNat → x = y := by decide
  refine inj _ _ (hfield.trans ?_)
  simp only [whistleBody]
  omega
end

/-! ### The command -/

/-- The state in which half `h` has counted its next Whistle. -/
def State.whistleCount (s : State) (h : Half) : State :=
  s.modCtl h (fun c => { c with whSeq := (c.whSeq + 1) % 256, whT := some (s.half h).time.ticks })
/-- The state in which half `h` has sent it. -/
def State.whistleSent (s : State) (h : Half) : State :=
  (s.whistleCount h).modCtl h (fun c => { c with whSent := (s.whistleCount h).whistle h })

@[simp] theorem State.half_modCtl (s : State) (h : Half) (f : HalfCtl → HalfCtl) :
    (s.modCtl h f).half h = { s.half h with ctl := f (s.half h).ctl } := State.half_modHalf ..
@[simp] theorem State.rg_modCtl (s : State) (h : Half) (f : HalfCtl → HalfCtl) (a : Nat) : (s.modCtl h f).rg a = s.rg a :=
  State.rg_modHalf ..
@[simp] theorem State.byte_modCtl (s : State) (h : Half) (f : HalfCtl → HalfCtl) (a : Nat) :
    (s.modCtl h f).byte a = s.byte a := State.byte_modHalf ..
@[simp] theorem State.deck_modCtl (s : State) (h : Half) (f : HalfCtl → HalfCtl) : (s.modCtl h f).deck = s.deck :=
  State.deck_modHalf ..

theorem State.hstate_lt (s : State) (h : Half) : s.hstate h < 8 := bits_lt _ 2 0
@[simp] theorem State.rg_whistleSent (s : State) (h : Half) (a : Nat) : (s.whistleSent h).rg a = s.rg a := by
  simp [State.whistleSent, State.whistleCount]
@[simp] theorem State.byte_whistleSent (s : State) (h : Half) (a : Nat) : (s.whistleSent h).byte a = s.byte a := by
  simp [State.whistleSent, State.whistleCount]
@[simp] theorem State.deck_whistleSent (s : State) (h : Half) : (s.whistleSent h).deck = s.deck := by
  simp [State.whistleSent, State.whistleCount]
theorem State.whSeq_whistleSent (s : State) (h : Half) :
    ((s.whistleSent h).half h).ctl.whSeq = ((s.half h).ctl.whSeq + 1) % 256 := by
  simp [State.whistleSent, State.whistleCount]
theorem State.whSent_whistleSent (s : State) (h : Half) : ((s.whistleSent h).half h).ctl.whSent
    = whistleFrame (whistleBody (((s.half h).ctl.whSeq + 1) % 256) (s.hstate h) (decide (s.rg (HalfR.selfFault h) ≠ 0))
      (s.half h).ctl.claims (s.half h).ctl.takebackReq) := by
  simp [State.whistleSent, State.whistleCount, State.whistle, whistleFrame, whistleBody, State.hstate, State.fd]

/-- WHISTLE_SEND that is not due, or whose checks do not pass (R386). -/
theorem whistleSend_notDue (h : Half) (timeOk routerOk reach : Bool) (s : State)
    (hn : (s.runs h && timeOk && routerOk && s.whistleDue h) = false) :
    exec (.whistleSend h timeOk routerOk reach) s = .next s := by
  refine congrArg Host.Outcome.next ?_
  by_cases hr : s.runs h = true
  · exact (State.onHalf_runs s h _ hr).trans (if_neg (by simp_all))
  · exact if_neg hr
theorem execWhistleSend_due (h : Half) (reach : Bool) (s : State) (hr : s.runs h = true) (hd : s.whistleDue h = true) :
    exec (.whistleSend h true true reach) s = .next (if reach
      then (s.whistleSent h).onDeck (fun u => (u.modTrivet (fun t => t.hear h true u.deck.ticks)).redecide)
      else s.whistleSent h) :=
  congrArg Host.Outcome.next ((State.onHalf_runs s h _ hr).trans (if_pos (by simp [hd])))

/-- WHISTLE_SEND that is due and whose checks pass (R386, R389). -/
theorem whistleSend_due (h : Half) (s : State) (hr : s.runs h = true) (hd : s.whistleDue h = true) : ∃ u,
    exec (.whistleSend h true true false) s = .next u
    ∧ whistleCrc (u.half h).ctl.whSent = true
    ∧ bits (u.half h).ctl.whSent 7 0 = ((s.half h).ctl.whSeq + 1) % 256
    ∧ bits (u.half h).ctl.whSent 10 8 = s.hstate h ∧ bit (u.half h).ctl.whSent 12 = (s.half h).ctl.claims
    ∧ (u.half h).ctl.whSeq = ((s.half h).ctl.whSeq + 1) % 256 ∧ SameMem s u ∧ SameRegs s u (fun _ => False)
    ∧ (if s.deck.inReset then exec (.whistleSend h true true true) s = .next u
       else Gives (.whistleSend h true true true) s (fun t => Redecided (u.modTrivet (fun x => x.hear h true u.deck.ticks)) t)) := by
  have hq : ((s.half h).ctl.whSeq + 1) % 256 < 256 := Nat.mod_lt _ (by decide)
  have hst := s.hstate_lt h
  refine ⟨s.whistleSent h, execWhistleSend_due h false s hr hd, ?_, ?_, ?_, ?_, s.whSeq_whistleSent h, fun a => by simp,
    fun a _ => by simp, ?_⟩
  · rw [s.whSent_whistleSent h, whistleCrc_whistleFrame _ (whistleBody_lt _ _ _ hq hst)]
  · rw [s.whSent_whistleSent h, bits_whistleBody_seq _ _ _ hq hst]
  · rw [s.whSent_whistleSent h, bits_whistleBody_state _ _ _ hq hst]
  · rw [s.whSent_whistleSent h, bit_whistleBody_claims _ _ _ hq hst]
  · have hex := execWhistleSend_due h true s hr hd
    rw [if_pos rfl, State.onDeck, State.deck_whistleSent] at hex
    split
    · rw [hex, if_pos ‹_›]
    · exact ⟨_, by rw [hex, if_neg ‹_›, State.deck_whistleSent], State.redecided_redecide _⟩

end Sys2Proof.Machine
end

section
/-! SUPPORT. What a change of a half's role leaves as it was: what the half has heard of its partner, and memory (R387, R392-R394,
R405, R410). -/
namespace Sys2Proof.Machine

/-- What a half has heard: its last frames. -/
def HalfCtl.heard (c : HalfCtl) : Option Nat × Option Nat × Word × Bool := (c.rxMirror, c.rxTrivet, c.partnerWh, c.everHeard)
/-- What half `h` has heard of its partner and shows of it, and memory. -/
def heardView (h : Half) (s : State) : Word × Nat × (Option Nat × Option Nat × Word × Bool) × Map Byte :=
  (s.rg (HalfR.whistleStatus h), s.partner h, (s.half h).ctl.heard, s.mem)
/-- Address `a` is neither HALF_STATUS nor WHISTLE_STATUS of half `h`. -/
def Unheard (h : Half) (a : Nat) : Prop := a < h.base + 0x200040 ∨ h.base + 0x20004C ≤ a

section
variable {h : Half} {s t : State}
theorem heardView_whistleStatus (hv : heardView h t = heardView h s) :
    t.rg (HalfR.whistleStatus h) = s.rg (HalfR.whistleStatus h) := congrArg Prod.fst hv
theorem heardView_partner (hv : heardView h t = heardView h s) : t.partner h = s.partner h := congrArg (·.2.1) hv
theorem heardView_heard (hv : heardView h t = heardView h s) : (t.half h).ctl.heard = (s.half h).ctl.heard :=
  congrArg (·.2.2.1) hv
theorem heardView_sameMem (hv : heardView h t = heardView h s) : SameMem s t := fun a => by
  have hm : t.mem = s.mem := congrArg (·.2.2.2) hv
  rw [State.byte, State.byte, hm]
theorem heardView_hears (hv : heardView h t = heardView h s) : t.hears h = s.hears h := by
  simp only [State.hears, State.bt, heardView_whistleStatus hv]
end

/-! ### State operations -/

theorem whistleStatus_ne_of_unheard {h : Half} {a : Nat} (ha : Unheard h a) : HalfR.whistleStatus h ≠ a := by
  simp only [Unheard, HalfR.whistleStatus] at *
  omega
theorem halfStatus_ne_of_unheard {h : Half} {a : Nat} (ha : Unheard h a) : HalfR.halfStatus h ≠ a := by
  simp only [Unheard, HalfR.halfStatus] at *
  omega
theorem whistleStatus_ne_halfStatus (h : Half) : HalfR.whistleStatus h ≠ HalfR.halfStatus h := by
  simp [HalfR.whistleStatus, HalfR.halfStatus]
theorem heardView_wr (h : Half) (s : State) (a : Nat) (w : Word) (ha : Unheard h a) :
    heardView h (s.wr a w) = heardView h s := by
  simp [heardView, State.partner, State.fd, whistleStatus_ne_of_unheard ha, halfStatus_ne_of_unheard ha]
theorem heardView_fw (h : Half) (s : State) (a hi lo v : Nat) (ha : Unheard h a) :
    heardView h (s.fw a hi lo v) = heardView h s := heardView_wr h s a _ ha
theorem heardView_sb (h : Half) (s : State) (a k : Nat) (b : Bool) (ha : Unheard h a) :
    heardView h (s.sb a k b) = heardView h s := heardView_wr h s a _ ha
theorem heardView_wn (h : Half) (s : State) (a v : Nat) (ha : Unheard h a) :
    heardView h (s.wn a v) = heardView h s := heardView_wr h s a _ ha
theorem heardView_satF (h : Half) (s : State) (a hi lo n : Nat) (ha : Unheard h a) :
    heardView h (s.satF a hi lo n) = heardView h s := heardView_wr h s a _ ha
/-- HALF_STATUS shows the partner in bits 7 to 5 alone. -/
theorem heardView_fw_halfStatus (h : Half) (s : State) (hi lo v : Nat) (hlo : lo ≤ hi) (hd : hi < 5 ∨ 7 < lo) :
    heardView h (s.fw (HalfR.halfStatus h) hi lo v) = heardView h s := by
  have hp : bits (setBits (s.rg (HalfR.halfStatus h)) hi lo v) 7 5 = bits (s.rg (HalfR.halfStatus h)) 7 5 :=
    bits_setBits_other _ hi lo 7 5 v hlo (by decide) (by omega)
  simp [heardView, State.partner, State.fd, whistleStatus_ne_halfStatus, hp]
theorem heardView_sb_halfStatus (h : Half) (s : State) (k : Nat) (b : Bool) (hd : k < 5 ∨ 7 < k) :
    heardView h (s.sb (HalfR.halfStatus h) k b) = heardView h s :=
  heardView_fw_halfStatus h s k k b.toNat le_rfl hd
theorem heardView_modHalf (h k : Half) (s : State) (f : HalfSt → HalfSt) (hf : ∀ x, (f x).ctl.heard = x.ctl.heard) :
    heardView h (s.modHalf k f) = heardView h s := by
  have hc : ((s.modHalf k f).half h).ctl.heard = (s.half h).ctl.heard := by
    by_cases e : h = k
    · rw [e, State.half_modHalf, hf]
    · rw [State.half_modHalf_ne _ _ _ _ e]
  simp [heardView, State.partner, State.fd, hc]
@[simp] theorem heardView_report (h k : Half) (s : State) (c d n : Nat) (l : List Nat) :
    heardView h (s.report k c d n l) = heardView h s :=
  ite_keeps (heardView h) (fun _ => rfl) fun _ => heardView_modHalf h k s _ fun _ => rfl
theorem heardView_raise (h k : Half) (s : State) (src : Nat) (hs : src < 1024) : heardView h (s.raise k src) = heardView h s := by
  have hp : Unheard h (Evc.pend k 0 + 4 * (src / 32)) := by
    cases h <;> cases k <;> simp only [Unheard, Evc.pend, Half.base] <;> omega
  have hc : Unheard h (Evc.srcCnt k src) := by
    cases h <;> cases k <;> simp only [Unheard, Evc.srcCnt, Half.base] <;> omega
  refine ite_keeps (heardView h) (fun _ => rfl) fun _ => ite_keeps (heardView h) (fun _ => ?_) fun _ => ?_
  · exact heardView_satF h s _ _ _ _ hc
  · exact heardView_sb h s _ _ _ hp

/-! ### Roles -/

@[simp] theorem heardView_redundantShow (h : Half) (s : State) : heardView h (s.redundantShow h) = heardView h s :=
  heardView_sb_halfStatus h s 4 _ (by decide)
@[simp] theorem heardView_setHState (h : Half) (s : State) (n : Nat) : heardView h (s.setHState h n) = heardView h s := by
  have hw : heardView h ((s.fw (HalfR.halfStatus h) 2 0 n).redundantShow h) = heardView h s :=
    (heardView_redundantShow h _).trans (heardView_fw_halfStatus h s 2 0 n (by decide) (by decide))
  refine ite_keeps (heardView h) (fun _ => rfl) fun _ => ite_keeps (heardView h) (t := _) (s := s) (fun _ => ?_) fun _ => hw
  exact (heardView_report ..).trans hw
@[simp] theorem heardView_setClaims (h : Half) (s : State) (b : Bool) : heardView h (s.setClaims h b) = heardView h s := by
  refine (foldl_keeps (heardView h) _ _ _ fun t w => heardView_wn h t _ _ ?_).trans (heardView_modHalf h h s _ fun _ => rfl)
  simp only [Unheard, HalfR.claimSent]
  omega
@[simp] theorem heardView_startDone (h : Half) (s : State) : heardView h (s.startDone h) = heardView h s :=
  ite_keeps (heardView h) (fun _ => rfl) fun _ => (heardView_report ..).trans (heardView_modHalf h h s _ fun _ => rfl)

/-- A cleared range leaves every other register. -/
theorem Map.get_clearIf_other {α : Type} (d : Nat → α) (p : Nat → Bool) (m : Map α) (k : Nat) (hk : p k = false) :
    Map.get d (Map.clearIf p m) k = Map.get d m k := by
  induction m with
  | nil => rfl
  | cons e m ih =>
    obtain ⟨i, v⟩ := e
    by_cases hi : p i = true
    · have hne : i ≠ k := fun e => by simp [e, hk] at hi
      rw [Map.clearIf, List.filter_cons_of_neg (by simp [hi]), Map.get, if_neg hne]
      exact ih
    · rw [Map.clearIf, List.filter_cons_of_pos (by simp [hi]), Map.get, Map.get]
      exact congrArg (ite _ v) ih
theorem heardView_clearIf (h : Half) (s : State) (p : Nat → Bool) (hw : p (HalfR.whistleStatus h) = false)
    (hs : p (HalfR.halfStatus h) = false) : heardView h { s with live := Map.clearIf p s.live } = heardView h s := by
  have hrg (a : Nat) (ha : p a = false) : ({ s with live := Map.clearIf p s.live } : State).rg a = s.rg a :=
    Map.get_clearIf_other _ p _ a ha
  simp only [heardView, State.partner, State.fd, hrg _ hw, hrg _ hs]
  cases h <;> rfl
theorem heardView_modCtl (h : Half) (s : State) (f : HalfCtl → HalfCtl) (hf : ∀ c, (f c).heard = c.heard) :
    heardView h (s.modCtl h f) = heardView h s := heardView_modHalf h h s _ fun x => hf x.ctl
@[simp] theorem heardView_unalignAll (h : Half) (s : State) : heardView h (s.unalignAll h) = heardView h s := by
  have halign : Unheard h (HalfR.alignStatus h) := .inr (by simp only [HalfR.alignStatus]; omega)
  simp only [State.unalignAll]
  rw [heardView_modCtl, heardView_wr _ _ _ _ halign, heardView_clearIf]
  · simp [HalfR.whistleStatus, HalfR.alignedMap]
  · simp [HalfR.halfStatus, HalfR.alignedMap]
  · exact fun _ => rfl
@[simp] theorem heardView_goJoining (h : Half) (s : State) : heardView h (s.goJoining h) = heardView h s := by
  simp only [State.goJoining]
  split_ifs <;> simp
@[simp] theorem heardView_switchAborted (h : Half) (s : State) (k : Nat) :
    heardView h (s.switchAborted h k) = heardView h s := by
  have hreset : Unheard h (Mod.resetStatus h) := .inl (by simp only [Mod.resetStatus]; omega)
  have hcnt : Unheard h (HalfR.switchCnt h) := .inr (by simp only [HalfR.switchCnt]; omega)
  have hclaims (t : State) : heardView h (if t.hstate h = 4 then t else t.setClaims h false) = heardView h t := by
    split <;> simp
  have hstart : heardView h (if (s.half h).ctl.resetAfterSwitch then s.fw (Mod.resetStatus h) 1 0 1 else s) = heardView h s := by
    split
    · exact heardView_fw h s _ _ _ _ hreset
    · rfl
  simp only [State.switchAborted]
  rw [heardView_report, heardView_raise _ _ _ _ (by decide), heardView_satF _ _ _ _ _ _ hcnt, hclaims,
    heardView_sb_halfStatus _ _ 8 _ (by decide), heardView_modCtl, hstart]
  exact fun _ => rfl
@[simp] theorem heardView_abandonPlan (h : Half) (s : State) (k : Nat) : heardView h (s.abandonPlan h k) = heardView h s := by
  simp only [State.abandonPlan]
  split
  · split <;> simp
  · rfl
@[simp] theorem heardView_snapAbort (h k : Half) (s : State) (c : Nat) : heardView h (s.snapAbort k c) = heardView h s := by
  have hsnap : Unheard h (Mod.snapStatus k) := by
    cases h <;> cases k <;> simp only [Unheard, Mod.snapStatus, Half.base] <;> omega
  simp only [State.snapAbort]
  split
  · rw [heardView_raise _ _ _ _ (by decide), heardView_modHalf, heardView_fw _ _ _ _ _ _ hsnap, heardView_sb _ _ _ _ _ hsnap]
    exact fun _ => rfl
  · rfl
@[simp] theorem heardView_failover (h : Half) (s : State) (k : Nat) : heardView h (s.failover h k) = heardView h s := by
  have hclaim (f : HalfCtl → HalfCtl) (hf : ∀ c, (f c).heard = c.heard) :
      heardView h ((s.setClaims h true).modCtl h f) = heardView h s := by
    rw [heardView_modCtl _ _ _ hf, heardView_setClaims]
  simp only [State.failover]
  split_ifs
  · rfl
  · rw [heardView_snapAbort, hclaim]
    exact fun _ => rfl
  · rw [hclaim]
    exact fun _ => rfl
@[simp] theorem heardView_planStart (h : Half) (s : State) (k : Nat) (l r : Bool) :
    heardView h (s.planStart h k l r) = heardView h s := heardView_modCtl h s _ fun _ => rfl
@[simp] theorem heardView_startRole (h : Half) (s : State) : heardView h (s.startRole h) = heardView h s := by
  simp only [State.startRole]
  split_ifs <;> simp
@[simp] theorem heardView_joinCheck (h : Half) (s : State) : heardView h (s.joinCheck h) = heardView h s := by
  refine ite_keeps (heardView h) (fun _ => ?_) fun _ => rfl
  rw [heardView_startDone, heardView_report, heardView_raise _ _ _ _ (by decide), heardView_setHState]

/-! ### Leaving the lead (R394, R404) -/

theorem unheard_engBase (h : Half) (e n : Nat) : Unheard h (engBase h e + n) := .inr (by simp only [engBase]; omega)
theorem unheard_traceAt (h : Half) (q b i : Nat) : Unheard h (traceAt h q b i) := by
  simp only [traceAt, Nat.add_assoc]
  exact unheard_engBase ..
@[simp] theorem heardView_traceClose (h : Half) (s : State) (q k : Nat) : heardView h (s.traceClose h q k) = heardView h s := by
  simp only [State.traceClose]
  split
  · rfl
  · have hrec (l : List (Nat × Nat)) (b : Nat) :
        heardView h (l.foldl (fun t e => t.wn (traceAt h q b e.2) e.1) s) = heardView h s :=
      foldl_keeps (heardView h) _ _ s fun t e => heardView_wn h t _ _ (unheard_traceAt ..)
    rw [State.modOpen, State.modRun, heardView_modHalf, hrec]
    exact fun _ => rfl
@[simp] theorem heardView_setStandby (h : Half) (s : State) (q : Nat) (b : Bool) :
    heardView h (s.setStandby h q b) = heardView h s := by
  have hst : Unheard h (Slot.status h q) := by
    simp only [Slot.status, slotBase, Nat.add_assoc]
    exact unheard_engBase ..
  have heng : Unheard h (Eng.engStatus h (q / 8)) := .inr (by simp only [Eng.engStatus]; omega)
  rw [State.setStandby, heardView_sb _ _ _ _ _ hst, heardView_sb _ _ _ _ _ heng]
theorem heardView_setRole (h : Half) (s : State) (n r : Nat) (hn : n < 4096) : heardView h (s.setRole h n r) = heardView h s :=
  heardView_fw h s _ _ _ _ (.inl (by simp only [loopMapAt]; omega))
theorem State.slotLoop_lt (s : State) (h : Half) (q : Nat) : s.slotLoop h q < 4096 := bits_lt _ 11 0
theorem heardView_setTaskState (h : Half) (s : State) (k n : Nat) : heardView h (s.setTaskState h k n) = heardView h s :=
  heardView_fw h s _ _ _ _ (.inr (by simp only [Apc.taskStatus]; omega))
@[simp] theorem heardView_bgStop (h : Half) (s : State) (k : Nat) : heardView h (s.bgStop h k) = heardView h s :=
  foldl_keeps (heardView h) _ _ s fun t _ => ite_keeps (heardView h) (fun _ => heardView_modHalf h h t _ fun _ => rfl)
    fun _ => rfl
theorem heardView_setMapBit_alignedMap (h : Half) (s : State) (l : Nat) (b : Bool) :
    heardView h (s.setMapBit (HalfR.alignedMap h 0) l b) = heardView h s :=
  heardView_sb h s _ _ _ (.inr (by simp only [HalfR.alignedMap]; omega))
theorem heardView_sb_alignStatus (h : Half) (s : State) (k : Nat) (b : Bool) :
    heardView h (s.sb (HalfR.alignStatus h) k b) = heardView h s :=
  heardView_sb h s _ _ _ (.inr (by simp only [HalfR.alignStatus]; omega))
@[simp] theorem heardView_leaveLead (h : Half) (s : State) (st : Nat) : heardView h (s.leaveLead h st) = heardView h s := by
  simp only [State.leaveLead]
  generalize hu : State.sb _ (HalfR.halfStatus h) 8 false = u
  have hv : heardView h u = heardView h s := by
    rw [← hu, heardView_sb_halfStatus _ _ 8 _ (by decide), State.modPwr, heardView_modHalf, heardView_modCtl,
      foldl_keeps (heardView h), State.modPlace, heardView_modHalf, foldl_keeps (heardView h), heardView_setClaims]
    · intro t q
      split
      · rw [heardView_setRole _ _ _ _ (t.slotLoop_lt h q), heardView_setStandby, heardView_traceClose]
      · rw [heardView_setStandby, heardView_traceClose]
    · exact fun _ => rfl
    · intro t k
      rw [heardView_bgStop]
      split
      · exact heardView_setTaskState ..
      · rfl
    · exact fun _ => rfl
    · exact fun _ => rfl
  split_ifs
  · rw [heardView_goJoining, hv]
  · rw [heardView_setHState, heardView_modCtl, foldl_keeps (heardView h), foldl_keeps (heardView h), hv]
    · exact fun t l => heardView_setMapBit_alignedMap h t l true
    · exact fun t k => heardView_sb_alignStatus h t (16 + k) true
    · exact fun _ => rfl
  · rw [heardView_setHState, hv]
@[simp] theorem heardView_isolate (h : Half) (s : State) : heardView h (s.isolate h) = heardView h s := by
  simp [State.isolate]
@[simp] theorem heardView_judgeOwners (h : Half) (s : State) : heardView h (s.judgeOwners h) = heardView h s := by
  simp only [State.judgeOwners]
  split_ifs <;> simp

/-! ### A path -/

/-- WHISTLE_STATUS once a path is shown live or silent: PATH_LOST follows both paths (R387). -/
def whistleShown (w : Word) (path : Nat) (live : Bool) : Word :=
  setBit (setBit w path live) 2 (bit (setBit w path live) 0 != bit (setBit w path live) 1)
theorem heardView_pathShow (h : Half) (s : State) (path : Nat) (live : Bool) : heardView h (s.pathShow h path live)
    = heardView h (s.wr (HalfR.whistleStatus h) (whistleShown (s.rg (HalfR.whistleStatus h)) path live)) := by
  have hrec (t : State) (f : HalfCtl → HalfCtl) (c : Nat) (hf : ∀ c, (f c).heard = c.heard) :
      heardView h ((t.modCtl h f).report h c 1 h.num [path]) = heardView h t := by
    rw [heardView_report, heardView_modCtl _ _ _ hf]
  simp only [State.pathShow]
  generalize hu : State.sb _ (HalfR.whistleStatus h) 2 _ = u
  have hv : heardView h u
      = heardView h (s.wr (HalfR.whistleStatus h) (whistleShown (s.rg (HalfR.whistleStatus h)) path live)) := by
    simp [← hu, heardView, State.partner, State.fd, State.bt, whistleShown, (whistleStatus_ne_halfStatus h).symm]
  rw [← hv]
  split_ifs
  · exact hrec u _ _ fun _ => rfl
  · rfl
  · rfl
  · exact hrec u _ _ fun _ => rfl

section
variable (w : Word) (path : Nat) (live : Bool) (hp : path < 2)
include hp
theorem bit_whistleShown : bit (whistleShown w path live) path = live := by
  rw [whistleShown, bit_setBit_other _ _ _ _ (by omega), bit_setBit _ _ _ (by omega)]
theorem bit_whistleShown_other : bit (whistleShown w path live) (1 - path) = bit w (1 - path) := by
  rw [whistleShown, bit_setBit_other _ _ _ _ (by omega), bit_setBit_other _ _ _ _ (by omega)]
theorem bit_whistleShown_lost : bit (whistleShown w path live) 2 = (live != bit w (1 - path)) := by
  rw [whistleShown, bit_setBit _ _ _ (by decide)]
  obtain rfl | rfl : path = 0 ∨ path = 1 := by omega
  · rw [bit_setBit _ _ _ (by decide), bit_setBit_other _ _ _ _ (by decide)]
  · rw [bit_setBit _ _ _ (by decide), bit_setBit_other _ _ _ _ (by decide), bne_comm]
theorem bits_whistleShown_count :
    bits (whistleShown w path live) (15 + 8 * path) (8 + 8 * path) = bits w (15 + 8 * path) (8 + 8 * path) := by
  rw [whistleShown, bits_setBit_other _ _ _ _ _ (by omega) (by omega), bits_setBit_other _ _ _ _ _ (by omega) (by omega)]
end

end Sys2Proof.Machine
end

section
/-! Whistles that a half receives or misses (R387). -/
namespace Sys2Proof.Machine

/-- The sequence number that half `h` last heard on a path. -/
def State.lastHeard (s : State) (h : Half) (path : Nat) : Option Nat :=
  if path = 0 then (s.half h).ctl.rxMirror else (s.half h).ctl.rxTrivet
/-- A frame with a right CRC and the next sequence number. -/
def State.whistleGood (s : State) (h : Half) (path : Nat) (frame : Word) : Prop :=
  whistleCrc frame = true ∧ ∀ n, s.lastHeard h path = some n → bits frame 7 0 = (n + 1) % 256
/-- The count of bad frames of a path. -/
def State.whistleBad (s : State) (h : Half) (path : Nat) : Nat := s.fd (HalfR.whistleStatus h) (15 + 8 * path) (8 + 8 * path)
/-- Half `h` has taken a good frame. -/
def State.whistleTake (s : State) (h : Half) (path : Nat) (frame : Word) : State :=
  let now := (s.half h).time.ticks
  s.modCtl h (fun c => { c with
    rxMirror := if path = 0 then some (bits frame 7 0) else c.rxMirror
    rxTrivet := if path = 0 then c.rxTrivet else some (bits frame 7 0)
    mirT := if path = 0 then now else c.mirT
    trivT := if path = 0 then c.trivT else now
    partnerWh := frame
    everHeard := true })
/-- It shows the path and the partner's state. -/
def State.whistleShow (s : State) (h : Half) (path : Nat) (frame : Word) : State :=
  ((s.whistleTake h path frame).pathShow h path true).fw (HalfR.halfStatus h) 7 5 (bits frame 10 8)
/-- It acts on what the frame says. -/
def State.whistleAct (s : State) (h : Half) (frame : Word) : State :=
  let s := s.redundantShow h
  let s := if s.hstate h = 5 then s.goJoining h else s
  let s := if bit frame 11 && !bit frame 12 && decide (s.hstate h = 3) then (s.abandonPlan h 1).failover h 1 else s
  let snap := s.bt (Mod.snapStatus h) 0 || s.bt (Mod.snapStatus h.other) 0
  let s := if bit frame 13 && s.canHandover h && !snap then s.planStart h 3 false false else s
  (s.startRole h).joinCheck h

theorem heardView_whistleAct (h : Half) (s : State) (frame : Word) : heardView h (s.whistleAct h frame) = heardView h s := by
  simp only [State.whistleAct, heardView_joinCheck, heardView_startRole]
  split_ifs <;> simp

theorem execWhistleReceive_bad {h : Half} {path : Nat} {frame : Word} {s : State} (hr : s.runs h = true)
    (hb : ¬ s.whistleGood h path frame) : exec (.whistleReceive h path frame) s = .next
      (if path = 0 then s.satF (HalfR.whistleStatus h) 15 8 1 else s.satF (HalfR.whistleStatus h) 23 16 1) := by
  refine congrArg Host.Outcome.next ((State.onHalf_runs s h _ hr).trans (if_pos ?_))
  by_contra hc
  obtain ⟨hcrc, hord⟩ := not_or.1 hc
  refine hb ⟨by simpa using hcrc, fun n hn => ?_⟩
  rw [← State.lastHeard, hn] at hord
  simpa using hord
theorem execWhistleReceive_good {h : Half} {path : Nat} {frame : Word} {s : State} (hr : s.runs h = true)
    (hg : s.whistleGood h path frame) : exec (.whistleReceive h path frame) s = .next
      ((s.whistleShow h path frame).whistleAct h frame) := by
  refine congrArg Host.Outcome.next ((State.onHalf_runs s h _ hr).trans (if_neg ?_))
  obtain ⟨hcrc, hord⟩ := hg
  rw [← State.lastHeard]
  cases hl : s.lastHeard h path with
  | none => simp [hcrc]
  | some n => simp [hcrc, hord n hl]

/-- A count of eight bits that counts up to 255. -/
theorem satAdd_count (w : Word) (hi lo : Nat) (hf : hi + 1 - lo = 8) :
    satAdd (2 ^ (hi + 1 - lo) - 1) (bits w hi lo) 1 % 2 ^ (hi + 1 - lo) = min 255 (bits w hi lo + 1) := by
  have hlt := bits_lt w hi lo
  rw [hf] at *
  simp only [satAdd]
  split_ifs <;> omega

section
variable (s : State) (h : Half) (path : Nat) (frame : Word)
theorem State.whistleStatus_whistleShow : (s.whistleShow h path frame).rg (HalfR.whistleStatus h)
    = whistleShown (s.rg (HalfR.whistleStatus h)) path true := by
  rw [State.whistleShow, State.rg_fw, if_neg (whistleStatus_ne_halfStatus h), heardView_whistleStatus (heardView_pathShow ..),
    State.rg_wr, if_pos rfl, State.whistleTake, State.rg_modCtl]
theorem State.partner_whistleShow : (s.whistleShow h path frame).partner h = bits frame 10 8 := by
  rw [State.partner, State.whistleShow, State.fd, State.rg_fw, if_pos rfl, bits_setBits _ _ _ _ (by decide) (by decide)]
  exact Nat.mod_eq_of_lt (bits_lt frame 10 8)
theorem State.heard_whistleShow : ((s.whistleShow h path frame).half h).ctl.heard
    = (if path = 0 then some (bits frame 7 0) else (s.half h).ctl.rxMirror,
      if path = 0 then (s.half h).ctl.rxTrivet else some (bits frame 7 0), frame, true) := by
  rw [State.whistleShow, State.half_fw, heardView_heard (heardView_pathShow ..), State.half_wr, State.whistleTake,
    State.half_modCtl]
  rfl
theorem State.byte_whistleShow (a : Nat) : (s.whistleShow h path frame).byte a = s.byte a := by
  rw [State.whistleShow, State.byte_fw, heardView_sameMem (heardView_pathShow ..), State.byte_wr, State.whistleTake,
    State.byte_modCtl]
end

/-- WHISTLE_RECEIVE (R387). -/
theorem whistleReceive_completes (h : Half) (path : Nat) (frame : Word) (s : State) (hp : path < 2) :
    (s.runs h = false → exec (.whistleReceive h path frame) s = .next s)
    ∧ (s.runs h = true → ¬ s.whistleGood h path frame → Gives (.whistleReceive h path frame) s (fun t => SameMem s t
        ∧ t.whistleBad h path = min 255 (s.whistleBad h path + 1) ∧ SameRegs s t (fun a => a = HalfR.whistleStatus h)))
    ∧ (s.runs h = true → s.whistleGood h path frame → Gives (.whistleReceive h path frame) s (fun t =>
        t.bt (HalfR.whistleStatus h) path = true ∧ t.partner h = bits frame 10 8
        ∧ (t.half h).ctl.partnerWh = frame ∧ (t.half h).ctl.everHeard = true
        ∧ t.lastHeard h path = some (bits frame 7 0)
        ∧ t.whistleBad h path = s.whistleBad h path ∧ SameMem s t)) := by
  refine ⟨fun hr => ?_, fun hr hb => ?_, fun hr hg => ?_⟩
  · exact congrArg Host.Outcome.next (if_neg (by simp [hr]))
  · have hex : exec (.whistleReceive h path frame) s
        = .next (s.satF (HalfR.whistleStatus h) (15 + 8 * path) (8 + 8 * path) 1) := by
      rw [execWhistleReceive_bad hr hb]
      obtain rfl | rfl : path = 0 ∨ path = 1 := by omega
      · rfl
      · rfl
    refine ⟨_, hex, fun a => by simp, ?_, fun a ha => ?_⟩
    · rw [State.whistleBad, State.fd, State.rg_satF, if_pos rfl, bits_setBits _ _ _ _ (by omega) (by omega)]
      exact satAdd_count _ _ _ (by omega)
    · rw [State.rg_satF, if_neg ha]
  · have hv := heardView_whistleAct h (s.whistleShow h path frame) frame
    have hws := (heardView_whistleStatus hv).trans (s.whistleStatus_whistleShow h path frame)
    have hheard := (heardView_heard hv).trans (s.heard_whistleShow h path frame)
    refine ⟨_, execWhistleReceive_good hr hg, ?_, ?_, congrArg (·.2.2.1) hheard, congrArg (·.2.2.2) hheard, ?_, ?_, fun a => ?_⟩
    · rw [State.bt, hws, bit_whistleShown _ _ _ hp]
    · rw [heardView_partner hv, State.partner_whistleShow]
    · obtain rfl | rfl : path = 0 ∨ path = 1 := by omega
      · exact congrArg (·.1) hheard
      · exact congrArg (·.2.1) hheard
    · rw [State.whistleBad, State.fd, hws, bits_whistleShown_count _ _ _ hp]
      rfl
    · rw [heardView_sameMem hv, State.byte_whistleShow]

end Sys2Proof.Machine
end

section
/-! A path on which no Whistle comes (R387), and all commands of the links, the Whistles and Trivet together. -/
namespace Sys2Proof.Machine

/-- Half `h` has forgotten the last frame of a path. -/
def State.whistleForget (s : State) (h : Half) (path : Nat) : State :=
  s.modCtl h (fun c => { c with
    rxMirror := if path = 0 then none else c.rxMirror
    rxTrivet := if path = 0 then c.rxTrivet else none })
/-- It shows the path silent, and a planned switch is abandoned. -/
def State.whistleLose (s : State) (h : Half) (path : Nat) : State :=
  ((s.whistleForget h path).pathShow h path false).abandonPlan h 0
/-- It acts on a dead partner (R393, R394, R405). -/
def State.partnerLost (s : State) (h : Half) : State :=
  let s := s.redundantShow h
  let st := s.hstate h
  if st = 2 ∨ st = 3 then s.failover h 0
  else if st = 4 then s.judgeOwners h
  else s.startRole h

theorem heardView_partnerLost (h : Half) (s : State) : heardView h (s.partnerLost h) = heardView h s := by
  simp only [State.partnerLost]
  split_ifs <;> simp
theorem State.heardView_whistleLose (s : State) (h : Half) (path : Nat) : heardView h (s.whistleLose h path)
    = heardView h ((s.whistleForget h path).wr (HalfR.whistleStatus h)
      (whistleShown (s.rg (HalfR.whistleStatus h)) path false)) := by
  rw [State.whistleLose, heardView_abandonPlan, heardView_pathShow, State.whistleForget, State.rg_modCtl]
/-- Of two paths of which one is silent, the half hears on the other. -/
theorem State.hears_of_silent {s : State} {h : Half} {path : Nat} (hp : path < 2)
    (hs : s.bt (HalfR.whistleStatus h) path = false) : s.hears h = s.bt (HalfR.whistleStatus h) (1 - path) := by
  obtain rfl | rfl : path = 0 ∨ path = 1 := by omega
  · simp [State.hears, hs]
  · simp [State.hears, hs]

theorem State.lastHeard_of_heard {s t : State} {h : Half} (hc : (t.half h).ctl.heard = (s.half h).ctl.heard) (path : Nat) :
    t.lastHeard h path = s.lastHeard h path := by
  have h0 : (t.half h).ctl.rxMirror = (s.half h).ctl.rxMirror := congrArg (·.1) hc
  have h1 : (t.half h).ctl.rxTrivet = (s.half h).ctl.rxTrivet := congrArg (·.2.1) hc
  rw [State.lastHeard, State.lastHeard, h0, h1]

section
variable (s : State) (h : Half) (path : Nat)
theorem State.whistleStatus_whistleLose : (s.whistleLose h path).rg (HalfR.whistleStatus h)
    = whistleShown (s.rg (HalfR.whistleStatus h)) path false := by
  rw [heardView_whistleStatus (s.heardView_whistleLose h path), State.rg_wr, if_pos rfl]
theorem State.heard_whistleLose : ((s.whistleLose h path).half h).ctl.heard
    = (if path = 0 then none else (s.half h).ctl.rxMirror, if path = 0 then (s.half h).ctl.rxTrivet else none,
      (s.half h).ctl.partnerWh, (s.half h).ctl.everHeard) := by
  rw [heardView_heard (s.heardView_whistleLose h path), State.half_wr, State.whistleForget, State.half_modCtl]
  rfl
theorem State.lastHeard_whistleLose (hp : path < 2) : (s.whistleLose h path).lastHeard h path = none := by
  have hheard := s.heard_whistleLose h path
  obtain rfl | rfl : path = 0 ∨ path = 1 := by omega
  · exact congrArg (·.1) hheard
  · exact congrArg (·.2.1) hheard
theorem State.byte_whistleLose (a : Nat) : (s.whistleLose h path).byte a = s.byte a := by
  rw [heardView_sameMem (s.heardView_whistleLose h path), State.byte_wr, State.whistleForget, State.byte_modCtl]
end

/-- A half that loses its partner shows it dead, and its paths as they are. -/
theorem partnerLost_spec (l : State) (h : Half) (path : Nat) :
    let t := (l.fw (HalfR.halfStatus h) 7 5 7).partnerLost h
    t.rg (HalfR.whistleStatus h) = l.rg (HalfR.whistleStatus h) ∧ t.lastHeard h path = l.lastHeard h path ∧ t.partner h = 7 := by
  have hv := heardView_partnerLost h (l.fw (HalfR.halfStatus h) 7 5 7)
  refine ⟨?_, State.lastHeard_of_heard ((heardView_heard hv).trans ?_) path, ?_⟩
  · rw [heardView_whistleStatus hv, State.rg_fw, if_neg (whistleStatus_ne_halfStatus h)]
  · rw [State.half_fw]
  · rw [heardView_partner hv, State.partner, State.fd, State.rg_fw, if_pos rfl, bits_setBits _ _ _ _ (by decide) (by decide)]
    rfl

/-- WHISTLE_PATH_SILENT (R387). -/
theorem whistlePathSilent_completes (h : Half) (path : Nat) (s : State) (hp : path < 2) :
    (s.runs h = false ∨ s.bt (HalfR.whistleStatus h) path = false ∨ s.pathQuiet h path = false →
      exec (.whistlePathSilent h path) s = .next s)
    ∧ (s.runs h = true → s.bt (HalfR.whistleStatus h) path = true → s.pathQuiet h path = true →
      Gives (.whistlePathSilent h path) s (fun t => t.bt (HalfR.whistleStatus h) path = false ∧ t.lastHeard h path = none
        ∧ (if s.bt (HalfR.whistleStatus h) (1 - path) = true then
            t.hears h = true ∧ t.bt (HalfR.whistleStatus h) 2 = true ∧ SameMem s t
           else t.hears h = false ∧ t.bt (HalfR.whistleStatus h) 2 = false ∧ t.partner h = 7))) := by
  have hex : exec (.whistlePathSilent h path) s = .next (s.onHalf h (fun s =>
      if s.bt (HalfR.whistleStatus h) path = false ∨ s.pathQuiet h path = false then s
      else if (s.whistleLose h path).hears h then s.whistleLose h path
      else ((s.whistleLose h path).fw (HalfR.halfStatus h) 7 5 7).partnerLost h)) := rfl
  refine ⟨fun hn => ?_, fun hr hlive hq => ?_⟩
  · rw [hex]
    rcases hn with e | e
    · exact congrArg Host.Outcome.next (if_neg (by simp [e]))
    · refine congrArg Host.Outcome.next ?_
      simp only [State.onHalf, if_pos e, ite_self]
  · rw [State.onHalf_runs s h _ hr, if_neg (by simp [hlive, hq])] at hex
    generalize hl : s.whistleLose h path = l at hex
    have hws : l.rg (HalfR.whistleStatus h) = whistleShown (s.rg (HalfR.whistleStatus h)) path false := by
      rw [← hl, State.whistleStatus_whistleLose]
    have hrx : l.lastHeard h path = none := by rw [← hl, s.lastHeard_whistleLose h path hp]
    have hsilent : l.bt (HalfR.whistleStatus h) path = false := by rw [State.bt, hws, bit_whistleShown _ _ _ hp]
    have hlost : l.bt (HalfR.whistleStatus h) 2 = s.bt (HalfR.whistleStatus h) (1 - path) := by
      rw [State.bt, hws, bit_whistleShown_lost _ _ _ hp, Bool.false_bne]
      rfl
    have hother : l.hears h = s.bt (HalfR.whistleStatus h) (1 - path) := by
      rw [State.hears_of_silent hp hsilent, State.bt, hws, bit_whistleShown_other _ _ _ hp]
      rfl
    rw [hother] at hex
    split
    · rw [if_pos ‹_›] at hex
      exact ⟨l, hex, hsilent, hrx, hother.trans ‹_›, hlost.trans ‹_›, fun a => by rw [← hl, State.byte_whistleLose]⟩
    · have hdead := Bool.eq_false_iff.2 ‹_›
      rw [if_neg ‹_›] at hex
      obtain ⟨hreg, hlast, hpartner⟩ := partnerLost_spec l h path
      refine ⟨_, hex, ?_, hlast.trans hrx, ?_, ?_, hpartner⟩
      · rw [State.bt, hreg]
        exact hsilent
      · rw [← hdead, ← hother]
        simp only [State.hears, State.bt, hreg]
      · rw [← hdead, ← hlost, State.bt, hreg]
        rfl

/-- Settles O9: the links' lanes, the Whistles of a half, and each input of Trivet with its decision. -/
theorem linkWhistleAndTrivetCommandsComplete : Obligations.LinkWhistleAndTrivetCommandsComplete :=
  ⟨laneTrainingFail_mirror,
    fun h fd lane s => ⟨(s.half h).link.deckLaneOff fd lane, rfl, laneTrainingFail_deck h fd lane s⟩,
    deckLinkUp_completes,
    fun h timeOk routerOk reach s hn => whistleSend_notDue h timeOk routerOk reach s hn,
    whistleSend_due,
    whistleReceive_completes,
    whistlePathSilent_completes,
    trivetPathSilent_completes,
    claimStale_completes,
    claimVector_completes,
    frozenRedecide_completes,
    ownerReport_completes⟩

end Sys2Proof.Machine
end

section
/-! A step of the block (R49). -/
namespace Sys2Proof.Machine

/-- Every command has a next state: each meaning is one, whatever its state. -/
theorem exec_answers (c : Instr) (s : State) : ∃ t, exec c s = .next t := by
  cases c <;> exact ⟨_, rfl⟩
theorem step_of_empty {s : State} (hq : s.pending = []) : step s = .next s.idle := by
  rw [step, hq]
theorem step_of_cons {s : State} {c : Instr} {rest : List Instr} (hq : s.pending = c :: rest) :
    step s = exec c { s with pending := rest } := by
  rw [step, hq]

/-- Settles O57: a step by the queue, empty or not. -/
theorem stepRunsTheCommandAtTheFront : Obligations.StepRunsTheCommandAtTheFront := by
  refine ⟨fun c rest s => step_of_cons, fun s => step_of_empty, exec_answers, fun s => ?_⟩
  cases hq : s.pending with
  | nil => exact ⟨_, step_of_empty hq⟩
  | cons c rest =>
    rw [step_of_cons hq]
    exact exec_answers c _

end Sys2Proof.Machine
end

section
/-! CTR_LO of Tally with its latch (R43, R47, R71). -/
namespace Sys2Proof.Machine

/-- The window of Tally. -/
theorem windowOf_tally {o : Nat} (h1 : 0x40000 ≤ o) (h2 : o < 0x80000) : windowOf o = some (0x40000, 0x40000, descTally) := by
  have past (n : Nat) (hn : n ≤ 0x40000) : decide (o < n) = false := decide_eq_false (by omega)
  have i1 : decide (0x40000 ≤ o) = true := decide_eq_true h1
  have i2 : decide (o < 0x40000 + 0x40000) = true := decide_eq_true h2
  simp (disch := decide) only [windowOf, windows, List.find?_cons, past, Bool.and_false, i1, i2, Bool.and_true]

/-- A read of CTR_HI returns what the reading core's latch holds (R71). -/
theorem State.readWord_ctrHi (s : State) (h : Half) (c : Nat) {m : Nat} (hm : m < 256) :
    s.readWord c (Tally.ctrHi h m) = Map.get (fun _ => 0) (s.half h).time.latchTally c := by
  have ha : Tally.ctrHi h m = h.base + (0x41004 + 8 * m) := by simp only [Tally.ctrHi]; omega
  have hlow := lowAddr_add_base h (0x41004 + 8 * m) (by omega)
  have hhalf := halfOf_add_base h (0x41004 + 8 * m) (by omega)
  have hw := windowOf_tally (o := 0x41004 + 8 * m) (by omega) (by omega)
  have hst : isStaging (0x41004 + 8 * m) = false := by
    simp only [isStaging, ← Bool.decide_and, decide_eq_false_iff_not]
    omega
  have hlive : liveAlias (0x41004 + 8 * m) = none := by
    rw [liveAlias, if_neg (by omega), if_neg (by omega), if_neg (by omega), if_neg (by omega), if_neg (by omega), hw]
    exact if_neg (by omega)
  have hread : s.readTally h c (0x41004 + 8 * m - 0x40000) = some (Map.get (fun _ => 0) (s.half h).time.latchTally c) := by
    rw [State.readTally, if_pos (by omega)]
    exact congrArg some (if_neg (by omega))
  rw [ha, State.readWord]
  simp [hlow, hhalf, hst, hlive, State.readDerived, hw, hread]

/-- The state in which core `c` of half `h` has read CTR_LO of counter `n`. -/
def State.ctrLoTaken (s : State) (h : Half) (c n : Nat) : State :=
  let v := Map.get (fun _ => 0) (s.half h).ctr n
  s.modHalf h (fun x => { x with
    readData := Map.set (fun _ => 0) x.readData c (BitVec.ofNat 32 v)
    time := { x.time with latchTally := Map.set (fun _ => 0) x.time.latchTally c (BitVec.ofNat 32 (v / 2 ^ 32)) } })

theorem execTallyCtrLoRead_runs (h : Half) (c n : Nat) (s : State) (hr : s.runs h = true) :
    exec (.tallyCtrLoRead h c n) s = .next (s.ctrLoTaken h c n) :=
  congrArg Host.Outcome.next (State.onHalf_runs s h _ hr)

theorem State.runs_ctrLoTaken (s : State) (h : Half) (c n : Nat) : (s.ctrLoTaken h c n).runs h = s.runs h :=
  State.runs_modHalf _ _ _ _ rfl rfl

theorem State.latch_ctrLoTaken (s : State) (h : Half) (c n : Nat) :
    Map.get (fun _ => 0) ((s.ctrLoTaken h c n).half h).time.latchTally c
      = BitVec.ofNat 32 (Map.get (fun _ => 0) (s.half h).ctr n / 2 ^ 32) := by
  simp [State.ctrLoTaken]

/-- A read by another core leaves the latch. -/
theorem State.latch_ctrLoTaken_other (s : State) (h : Half) {c d : Nat} (n : Nat) (hd : d ≠ c) :
    Map.get (fun _ => 0) ((s.ctrLoTaken h d n).half h).time.latchTally c
      = Map.get (fun _ => 0) (s.half h).time.latchTally c := by
  simp [State.ctrLoTaken, Map.get_set_other _ _ _ _ _ hd.symm]

/-- TALLY_CTR_LO_READ (R71). -/
theorem tallyCtrLoRead_completes (h : Half) (c n : Nat) (s : State) (hr : s.runs h = true) :
    Gives (.tallyCtrLoRead h c n) s (fun t =>
      let v := Map.get (fun _ => 0) (s.half h).ctr n
      Map.get (fun _ => 0) (t.half h).readData c = BitVec.ofNat 32 v
      ∧ Map.get (fun _ => 0) (t.half h).time.latchTally c = BitVec.ofNat 32 (v / 2 ^ 32)
      ∧ (t.half h).ctr = (s.half h).ctr ∧ SameMem s t ∧ SameShadows s t ∧ SameRegs s t (fun _ => False)
      ∧ (∀ m, m < 256 → t.readWord c (Tally.ctrHi h m) = BitVec.ofNat 32 (v / 2 ^ 32))
      ∧ ∀ d m, d ≠ c → Gives (.tallyCtrLoRead h d m) t (fun u =>
          Map.get (fun _ => 0) (u.half h).time.latchTally c = BitVec.ofNat 32 (v / 2 ^ 32))) := by
  have hlatch := s.latch_ctrLoTaken h c n
  have hrun : (s.ctrLoTaken h c n).runs h = true := (s.runs_ctrLoTaken h c n).trans hr
  refine ⟨_, execTallyCtrLoRead_runs h c n s hr, by simp [State.ctrLoTaken], hlatch, by simp [State.ctrLoTaken],
    fun a => State.byte_modHalf .., fun a => State.sh_modHalf .., fun a _ => State.rg_modHalf .., fun m hm => ?_,
    fun d m hd => ⟨_, execTallyCtrLoRead_runs h d m _ hrun, ?_⟩⟩
  · rw [State.readWord_ctrHi _ h c hm, hlatch]
  · exact (State.latch_ctrLoTaken_other _ h m hd).trans hlatch

/-- TALLY_CTR_LO_WRITE (R71). -/
theorem tallyCtrLoWrite_completes (h : Half) (n : Nat) (val : Word) (s : State) (hr : s.runs h = true) :
    Gives (.tallyCtrLoWrite h n val) s (fun t =>
      Map.get (fun _ => 0) (t.half h).ctr n = (s.rg (Tally.ctrHiWr h)).toNat % 2 ^ 16 * 2 ^ 32 + val.toNat
      ∧ (∀ m, m ≠ n → Map.get (fun _ => 0) (t.half h).ctr m = Map.get (fun _ => 0) (s.half h).ctr m)
      ∧ SameMem s t ∧ SameShadows s t ∧ SameRegs s t (fun _ => False)) := by
  refine ⟨_, congrArg Host.Outcome.next (State.onHalf_runs s h _ hr), ?_, fun m hm => ?_, fun a => State.byte_modHalf ..,
    fun a => State.sh_modHalf .., fun a _ => State.rg_modHalf ..⟩
  · simp [State.fd, bits]
  · simp [Map.get_set_other _ _ _ _ _ hm]

/-- Settles O2: the read of CTR_LO with its latch, and the write of all 48 bits. -/
theorem tallyCounterReadAndWriteAreOneCycle : Obligations.TallyCounterReadAndWriteAreOneCycle :=
  ⟨tallyCtrLoRead_completes, tallyCtrLoWrite_completes⟩

end Sys2Proof.Machine
end

section
/-! SUPPORT. Commit units: the addresses of a unit, the copy of its shadows and the reload of them (R50, R54). -/
namespace Sys2Proof.Machine

/-! ### Words with bits outside the shadow -/

theorem mask_split (w m : Word) : (w &&& ~~~m) ||| (w &&& m) = w := by
  ext i
  simp only [BitVec.getElem_and, BitVec.getElem_or, BitVec.getElem_not]
  cases w[i] <;> cases m[i] <;> rfl
theorem mask_idem (w m : Word) : (w &&& ~~~m) &&& ~~~m = w &&& ~~~m := by
  rw [BitVec.and_assoc, BitVec.and_self]
theorem mask_mix (w v m : Word) : ((w &&& ~~~m) ||| (v &&& m)) &&& ~~~m = w &&& ~~~m := by
  ext i
  simp only [BitVec.getElem_and, BitVec.getElem_or, BitVec.getElem_not]
  cases w[i] <;> cases v[i] <;> cases m[i] <;> rfl

/-! ### Listed addresses -/

/-- A key that no entry has reads as its default. -/
theorem Map.get_unlisted {α : Type} (d : Nat → α) (m : Map α) (k : Nat) (hk : k ∉ m.map (·.1)) : Map.get d m k = d k := by
  induction m with
  | nil => rfl
  | cons e m ih =>
    obtain ⟨i, v⟩ := e
    simp only [List.map_cons, List.mem_cons, not_or] at hk
    rw [Map.get, if_neg (Ne.symm hk.1), ih hk.2]

/-- An address that is listed neither live nor as a shadow. -/
def State.Unlisted (s : State) (a : Nat) : Prop := a ∉ s.shadow.map (·.1) ++ s.live.map (·.1)

theorem State.rg_unlisted {s : State} {a : Nat} (ha : s.Unlisted a) : s.rg a = resetWord s.deck.straps a :=
  Map.get_unlisted _ _ _ fun h => ha (List.mem_append_right _ h)
theorem State.sh_unlisted {s : State} {a : Nat} (ha : s.Unlisted a) : s.sh a = resetWord s.deck.straps a :=
  Map.get_unlisted _ _ _ fun h => ha (List.mem_append_left _ h)
/-- A unit's key is an address of the unit; an address of the unit is a key, or listed nowhere. -/
theorem State.unitOf_of_mem_unitKeys {s : State} {u : CUnit} {a : Nat} (ha : a ∈ s.unitKeys u) : unitOf a = some u := by
  simpa using (List.mem_filter.1 ha).2
theorem State.mem_unitKeys_or {s : State} {u : CUnit} {a : Nat} (hu : unitOf a = some u) :
    a ∈ s.unitKeys u ∨ s.Unlisted a := by
  by_cases hl : a ∈ s.shadow.map (·.1) ++ s.live.map (·.1)
  · exact .inl (List.mem_filter.2 ⟨hl, by simp [hu]⟩)
  · exact .inr hl

/-! ### Folds of writes -/

theorem State.rg_foldl_wr (f : Nat → Word) (l : List Nat) (s : State) (a : Nat) :
    (l.foldl (fun t k => t.wr k (f k)) s).rg a = if a ∈ l then f a else s.rg a := by
  induction l generalizing s with
  | nil => simp
  | cons k l ih =>
    rw [List.foldl_cons, ih, State.rg_wr]
    by_cases hk : a = k <;> by_cases hl : a ∈ l <;> simp [hk, hl]
theorem State.sh_foldl_wrSh (f : Nat → Word) (l : List Nat) (s : State) (a : Nat) :
    (l.foldl (fun t k => t.wrSh k (f k)) s).sh a = if a ∈ l then f a else s.sh a := by
  induction l generalizing s with
  | nil => simp
  | cons k l ih =>
    rw [List.foldl_cons, ih, State.sh_wrSh]
    by_cases hk : a = k <;> by_cases hl : a ∈ l <;> simp [hk, hl]

/-! ### The copy of a unit (R50) -/

/-- What a commit of its unit makes of a live value: the shadow's bits, and its own where they lie outside the shadow. -/
def State.committed (s : State) (a : Nat) : Word := (s.sh a &&& ~~~directMask a) ||| (s.rg a &&& directMask a)

theorem State.copyUnit_eq (s : State) (u : CUnit) : s.copyUnit u =
    let t := (s.unitKeys u).foldl (fun t a => t.wr a (s.committed a)) s
    { t with dirty := t.dirty.filter (· != u), marked := t.marked.filter (· != u) } := rfl

/-- What no live value and no mark shows, a commit keeps. -/
theorem State.copyUnit_keeps {β : Type} (v : State → β) (s : State) (u : CUnit) (hw : ∀ t a w, v (State.wr t a w) = v t)
    (hm : ∀ t d m, v { t with dirty := d, marked := m } = v t) : v (s.copyUnit u) = v s := by
  rw [State.copyUnit_eq]
  exact (hm _ _ _).trans (foldl_keeps v _ _ _ fun t a => hw t a _)

theorem State.rg_copyUnit (s : State) (u : CUnit) (a : Nat) :
    (s.copyUnit u).rg a = if unitOf a = some u then s.committed a else s.rg a := by
  have hf : (s.copyUnit u).rg a = if a ∈ s.unitKeys u then s.committed a else s.rg a := State.rg_foldl_wr ..
  rw [hf]
  by_cases hu : unitOf a = some u
  · rw [if_pos hu]
    rcases s.mem_unitKeys_or hu with hk | hn
    · rw [if_pos hk]
    · rw [State.committed, State.sh_unlisted hn, State.rg_unlisted hn, mask_split, ite_self]
  · rw [if_neg hu, if_neg fun hk => hu (State.unitOf_of_mem_unitKeys hk)]
theorem State.sh_copyUnit (s : State) (u : CUnit) (a : Nat) : (s.copyUnit u).sh a = s.sh a :=
  s.copyUnit_keeps (State.sh · a) u (fun _ _ _ => rfl) fun _ _ _ => rfl
theorem State.byte_copyUnit (s : State) (u : CUnit) (a : Nat) : (s.copyUnit u).byte a = s.byte a :=
  s.copyUnit_keeps (State.byte · a) u (fun _ _ _ => rfl) fun _ _ _ => rfl
theorem State.dirty_copyUnit (s : State) (u : CUnit) : (s.copyUnit u).dirty = s.dirty.filter (· != u) :=
  congrArg (List.filter _) (foldl_keeps State.dirty _ _ _ fun _ _ => rfl)
theorem State.marked_copyUnit (s : State) (u : CUnit) : (s.copyUnit u).marked = s.marked.filter (· != u) :=
  congrArg (List.filter _) (foldl_keeps State.marked _ _ _ fun _ _ => rfl)
theorem mem_filter_ne {l : List CUnit} {u v : CUnit} : v ∈ l.filter (· != u) ↔ v ∈ l ∧ v ≠ u := by
  simp

/-! ### Pending bits -/

/-- A pending bit that is set is one of the register's 32. -/
theorem State.lt_of_pend {s : State} {h : Half} {g : Nat} (hp : s.pend h g = true) : g < 32 := by
  by_contra hg
  rw [State.pend, State.bt, bit, BitVec.getLsbD_of_ge _ _ (by omega)] at hp
  exact absurd hp (by decide)
theorem State.pend_setPend (s : State) (h : Half) {g : Nat} (b : Bool) (hg : g < 32) : (s.setPend h g b).pend h g = b := by
  simp only [State.setPend, State.pend, State.bt]
  split
  · cases h
    · rw [State.rg_sb, if_neg (by decide), State.rg_sb, if_pos rfl, bit_setBit _ _ _ hg]
    · rw [State.rg_sb, if_pos rfl, bit_setBit _ _ _ hg]
  · rw [State.rg_sb, if_pos rfl, bit_setBit _ _ _ hg]
theorem State.setPend_local (s : State) (h : Half) {g : Nat} (b : Bool) (hg : isDeckGroup g = false) :
    s.setPend h g b = s.sb (Cmt.cmtPending h) g b := by
  rw [State.setPend, if_neg (by simp [hg])]
/-- What a write of a pending bit keeps, settling a group keeps. -/
theorem State.settle_keeps {β : Type} (v : State → β) (s : State) (h : Half) (g : Nat)
    (hp : v (s.setPend h g false) = v s) : v (s.settle h g) = v s :=
  ite_keeps v (fun _ => rfl) fun _ => hp

end Sys2Proof.Machine
end

section
/-! The commit of a unit (R50, R51). -/
namespace Sys2Proof.Machine

theorem State.waiting_of_mem {s : State} {h : Half} {u : CUnit} (hu : u ∈ s.marked) (hh : u.half = some h) :
    s.waiting h u.grp = true :=
  List.any_eq_true.2 ⟨u, hu, by simp [hh]⟩
theorem State.waiting_eq_false {s : State} {h : Half} {g : Nat} (hd : isDeckGroup g = false)
    (hn : ∀ v ∈ s.marked, ¬ (v.grp = g ∧ v.half = some h)) : s.waiting h g = false := by
  rw [State.waiting, List.any_eq_false]
  intro v hv
  simpa [hd] using hn v hv

/-- A unit of a half at its commit point. -/
theorem execUnitCommit_runs (h : Half) (g idx : Nat) (s : State) (hr : s.runs h = true) (hd : isDeckGroup g = false) :
    exec (.unitCommit h g idx) s = .next (if s.waiting h g = false then
        (if s.pend h g then (if g = 17 then s.imgSettled h else s.setPend h g false) else s)
      else if s.marked.contains (⟨g, some h, idx⟩ : CUnit) then s.commitUnit h ⟨g, some h, idx⟩ else s) := by
  refine congrArg Host.Outcome.next ?_
  simp only [hd, Bool.false_eq_true, if_false]
  exact State.onHalf_runs s h _ hr

/-- The groups 6 and 14 commit by the copy alone, but for a unit of group 14 within 2 us of its strobe. -/
theorem State.commitUnit_plain (s : State) (h : Half) (g idx : Nat) (hg : g = 6 ∨ g = 14)
    (hl : g = 14 → s.pwrLate h h = false) :
    s.commitUnit h ⟨g, some h, idx⟩ = (s.copyUnit ⟨g, some h, idx⟩).settle h g := by
  rcases hg with rfl | rfl
  · rfl
  · exact if_neg (by simp [hl rfl])

/-- UNIT_COMMIT of a marked unit of the groups 6 and 14. -/
theorem unitCommit_plain (h : Half) (g idx : Nat) (s : State) (hr : s.runs h = true) (hg : g = 6 ∨ g = 14)
    (hm : (⟨g, some h, idx⟩ : CUnit) ∈ s.marked) (hl : g = 14 → s.pwrLate h h = false) :
    Gives (.unitCommit h g idx) s (fun t =>
      (∀ a, a ≠ Cmt.cmtPending h → t.rg a = if unitOf a = some ⟨g, some h, idx⟩ then s.committed a else s.rg a)
      ∧ (∀ v, v ∈ t.dirty ↔ v ∈ s.dirty ∧ v ≠ ⟨g, some h, idx⟩)
      ∧ (∀ v, v ∈ t.marked ↔ v ∈ s.marked ∧ v ≠ ⟨g, some h, idx⟩)
      ∧ ((∀ v ∈ t.marked, ¬ (v.grp = g ∧ v.half = some h)) → t.pend h g = false)
      ∧ SameShadows s t ∧ SameMem s t) := by
  have hd : isDeckGroup g = false := by rcases hg with rfl | rfl <;> rfl
  have hg32 : g < 32 := by omega
  generalize hu : (⟨g, some h, idx⟩ : CUnit) = u at *
  have hw : s.waiting h g = true := by
    subst hu
    exact State.waiting_of_mem hm rfl
  have hex := execUnitCommit_runs h g idx s hr hd
  rw [hw, if_neg (by decide), hu, if_pos (by simpa using hm), ← hu, s.commitUnit_plain h g idx hg hl, hu] at hex
  have keeps {β : Type} (v : State → β) (hv : ∀ t, v (State.sb t (Cmt.cmtPending h) g false) = v t) :
      v ((s.copyUnit u).settle h g) = v (s.copyUnit u) :=
    State.settle_keeps v _ h g (by rw [State.setPend_local _ h false hd, hv])
  have hmark : ((s.copyUnit u).settle h g).marked = s.marked.filter (· != u) :=
    (keeps State.marked fun _ => State.marked_sb ..).trans (s.marked_copyUnit u)
  refine ⟨_, hex, fun a ha => ?_, fun v => ?_, fun v => ?_, fun hn => ?_, fun a => ?_, fun a => ?_⟩
  · rw [keeps (State.rg · a) fun t => by rw [State.rg_sb, if_neg ha], State.rg_copyUnit]
  · rw [keeps State.dirty fun _ => State.dirty_sb .., State.dirty_copyUnit, mem_filter_ne]
  · rw [hmark, mem_filter_ne]
  · have hidle : (s.copyUnit u).waiting h g = false :=
      State.waiting_eq_false hd (by rwa [hmark, ← s.marked_copyUnit u] at hn)
    rw [State.settle, hidle, if_neg (by decide), State.pend_setPend _ _ _ hg32]
  · rw [keeps (State.sh · a) fun _ => State.sh_sb .., State.sh_copyUnit]
  · rw [keeps (State.byte · a) fun _ => State.byte_sb .., State.byte_copyUnit]

/-- UNIT_COMMIT of a group whose strobe marked no unit (R51). -/
theorem unitCommit_empty (h : Half) (g idx : Nat) (s : State) (hr : s.runs h = true) (hd : isDeckGroup g = false) (hg : g ≠ 17)
    (hw : s.waiting h g = false) (hp : s.pend h g = true) :
    Gives (.unitCommit h g idx) s (fun t => t.pend h g = false ∧ SameShadows s t ∧ SameMem s t
      ∧ SameRegs s t (fun r => r = Cmt.cmtPending h)) := by
  have hex := execUnitCommit_runs h g idx s hr hd
  rw [if_pos hw, if_pos hp, if_neg hg] at hex
  refine ⟨_, hex, State.pend_setPend _ _ _ (State.lt_of_pend hp), fun a => ?_, fun a => ?_, fun a ha => ?_⟩
  · rw [State.setPend_local _ h false hd, State.sh_sb]
  · rw [State.setPend_local _ h false hd, State.byte_sb]
  · rw [State.setPend_local _ h false hd, State.rg_sb, if_neg ha]

/-- Settles O51: the copy of a unit, and UNIT_COMMIT of a marked unit, of one that is not marked, and of none. -/
theorem unitCommitIsAtomic : Obligations.UnitCommitIsAtomic := by
  refine ⟨fun s u => ⟨s.rg_copyUnit u, s.sh_copyUnit u, s.byte_copyUnit u, fun v => ?_, fun v => ?_⟩,
    unitCommit_plain, fun h g idx s hr hd hn hw => ?_, unitCommit_empty⟩
  · rw [State.dirty_copyUnit, mem_filter_ne]
  · rw [State.marked_copyUnit, mem_filter_ne]
  · rw [execUnitCommit_runs h g idx s hr hd, hw, if_neg (by decide), if_neg (by simpa using hn)]

end Sys2Proof.Machine
end

section
/-! Strobes (R51-R53). -/
namespace Sys2Proof.Machine

/-! ### Named groups -/

/-- A group is named by its bit; bits past group 21 name none (R53). -/
theorem mem_namedGroups {w : Word} {g : Nat} : g ∈ namedGroups w ↔ g < 22 ∧ bit w g = true := by
  simp [namedGroups]
theorem bit_and_groupBits (w : Word) {g : Nat} (hg : g < 22) : bit (w &&& 0x3FFFFF) g = bit w g := by
  have hm : (0x3FFFFF : Word).getLsbD g = true := by
    have : ∀ i : Fin 22, (0x3FFFFF : Word).getLsbD i = true := by decide
    exact this ⟨g, hg⟩
  rw [bit, BitVec.getLsbD_and, hm, Bool.and_true, bit]
theorem namedGroups_and_groupBits (w : Word) : namedGroups (w &&& 0x3FFFFF) = namedGroups w :=
  List.filter_congr fun _ hg => bit_and_groupBits w (List.mem_range.1 hg)
/-- A word without group bits names no group. -/
theorem namedGroups_reserved {w : Word} (hw : w &&& 0x3FFFFF = 0) : namedGroups w = [] := by
  rw [← namedGroups_and_groupBits, hw]
  rfl

/-! ### Fault flags of CMT -/

theorem cmtStrobeRefused_not_eventReg (h : Half) : ¬ EventReg h (Cmt.cmtStrobeRefused h) :=
  not_eventReg_cmt h _ (by simp only [Cmt.cmtStrobeRefused]; omega)
@[simp] theorem State.sh_cmtFlag (s : State) (h : Half) (a g b : Nat) : (s.cmtFlag h a g).sh b = s.sh b := by
  simp [State.cmtFlag]
@[simp] theorem State.byte_cmtFlag (s : State) (h : Half) (a g b : Nat) : (s.cmtFlag h a g).byte b = s.byte b := by
  simp [State.cmtFlag]
@[simp] theorem State.deck_cmtFlag (s : State) (h : Half) (a g : Nat) : (s.cmtFlag h a g).deck = s.deck := by
  simp [State.cmtFlag]
@[simp] theorem State.dirty_raise (s : State) (h : Half) (src : Nat) : (s.raise h src).dirty = s.dirty := by
  rcases s.raise_cases h src with e | e | e <;> rw [e] <;> simp
@[simp] theorem State.marked_raise (s : State) (h : Half) (src : Nat) : (s.raise h src).marked = s.marked := by
  rcases s.raise_cases h src with e | e | e <;> rw [e] <;> simp
@[simp] theorem State.dirty_cmtFlag (s : State) (h : Half) (a g : Nat) : (s.cmtFlag h a g).dirty = s.dirty := by
  simp [State.cmtFlag]
@[simp] theorem State.marked_cmtFlag (s : State) (h : Half) (a g : Nat) : (s.cmtFlag h a g).marked = s.marked := by
  simp [State.cmtFlag]
/-- The other flags of its register stay. -/
theorem State.bt_cmtFlag_other (s : State) (h : Half) {a g n : Nat} (ha : ¬ EventReg h a) (hn : n ≠ g) :
    (s.cmtFlag h a g).bt a n = s.bt a n := by
  rw [State.cmtFlag, State.bt, State.rg_raise_of_not_eventReg _ _ _ _ (by decide) ha, State.rg_sb, if_pos rfl,
    bit_setBit_other _ _ _ _ hn]
  rfl

/-! ### A strobe of reserved bits (R53) -/

theorem execCmtStrobe_runs (h : Half) (groups : Word) (s : State) (hr : s.runs h = true) :
    exec (.cmtStrobe h groups) s = .next (if groups ≠ 0 ∧ namedGroups groups = [] then s.cmtFlag h (Cmt.cmtStrobeRefused h) 31
      else (namedGroups groups).foldl (fun (t : State) (g : Nat) => t.strobeOne h g) s) :=
  congrArg Host.Outcome.next (State.onHalf_runs s h _ hr)

/-- Reserved bits beside a named group are ignored. -/
theorem cmtStrobe_ignores_reserved (h : Half) (groups : Word) (s : State) (hg : groups &&& 0x3FFFFF ≠ 0) :
    exec (.cmtStrobe h groups) s = exec (.cmtStrobe h (groups &&& 0x3FFFFF)) s := by
  have hne : groups ≠ 0 := by
    rintro rfl
    exact hg (by simp)
  have hex (w : Word) : exec (.cmtStrobe h w) s = .next (s.onHalf h (fun s =>
    if w ≠ 0 ∧ namedGroups w = [] then s.cmtFlag h (Cmt.cmtStrobeRefused h) 31
    else (namedGroups w).foldl (fun (t : State) (g : Nat) => t.strobeOne h g) s)) := rfl
  rw [hex, hex, namedGroups_and_groupBits]
  simp only [ne_eq, hne, hg, not_false_eq_true, true_and]

/-- A strobe of reserved bits alone sets bit 31 of CMT_STROBE_REFUSED. -/
theorem cmtStrobe_reserved (h : Half) (groups : Word) (s : State) (hr : s.runs h = true) (hne : groups ≠ 0)
    (hg : groups &&& 0x3FFFFF = 0) :
    Gives (.cmtStrobe h groups) s (fun t => t.bt (Cmt.cmtStrobeRefused h) 31 = true ∧ t.dirty = s.dirty
      ∧ t.marked = s.marked ∧ SameMem s t ∧ SameShadows s t
      ∧ (∀ n, n < 31 → t.bt (Cmt.cmtStrobeRefused h) n = s.bt (Cmt.cmtStrobeRefused h) n)
      ∧ SameRegs s t (fun r => r = Cmt.cmtStrobeRefused h ∨ EventReg h r)) := by
  have hex := execCmtStrobe_runs h groups s hr
  rw [if_pos ⟨hne, namedGroups_reserved hg⟩] at hex
  have hreg := cmtStrobeRefused_not_eventReg h
  refine ⟨_, hex, State.bt_cmtFlag _ _ _ _ hreg (by decide), State.dirty_cmtFlag .., State.marked_cmtFlag ..,
    fun a => State.byte_cmtFlag .., fun a => State.sh_cmtFlag .., fun n hn => State.bt_cmtFlag_other _ _ hreg (by omega),
    fun a ha => ?_⟩
  obtain ⟨h1, h2⟩ := not_or.1 ha
  exact State.rg_cmtFlag_other _ _ _ _ _ h1 h2

/-- Settles O48: reserved bits beside a group, and alone. -/
theorem strobeOfReservedBitsIsRefused : Obligations.StrobeOfReservedBitsIsRefused :=
  ⟨cmtStrobe_ignores_reserved, cmtStrobe_reserved⟩

/-! ### A strobe of one group (R51, R52, R55) -/

/-- The groups without a rule of their own. -/
theorem State.strobeOne_plain (s : State) (h : Half) (g : Nat) (h5 : g ≠ 5) (h9 : g ≠ 9) (h14 : g ≠ 14) (h17 : g ≠ 17) :
    s.strobeOne h g = (s.strobeGroup h g).strobeAt h g := by
  simp [State.strobeOne, h5, h9, h14, h17]

section
variable (s : State) (h : Half) (g : Nat)
@[simp] theorem State.rg_strobeAt (a : Nat) : (s.strobeAt h g).rg a = s.rg a := State.rg_modHalf ..
@[simp] theorem State.sh_strobeAt (a : Nat) : (s.strobeAt h g).sh a = s.sh a := State.sh_modHalf ..
@[simp] theorem State.byte_strobeAt (a : Nat) : (s.strobeAt h g).byte a = s.byte a := State.byte_modHalf ..
@[simp] theorem State.dirty_strobeAt : (s.strobeAt h g).dirty = s.dirty := State.dirty_modHalf ..
@[simp] theorem State.marked_strobeAt : (s.strobeAt h g).marked = s.marked := State.marked_modHalf ..
end

/-- The registers that show a strobe of group `g`: its pending bit and its count, in either half. -/
def StrobeReg (g a : Nat) : Prop :=
  a = Cmt.cmtPending .a ∨ a = Cmt.cmtPending .b ∨ a = Cmt.commitCnt .a g ∨ a = Cmt.commitCnt .b g

/-- The units that a strobe of a group marks. -/
def State.strobed (s : State) (h : Half) (g : Nat) : List CUnit :=
  s.dirty.filter (fun u => s.actable h g u && !s.marked.contains u)
/-- The state in which they are marked and the group is pending. -/
def State.strobeMark (s : State) (h : Half) (g : Nat) : State :=
  ({ s with marked := s.marked ++ s.strobed h g }).setPend h g true
/-- The group's count of strobes goes up, in both halves for a field-deck group. -/
def State.strobeCount (s : State) (h : Half) (g : Nat) : State :=
  if isDeckGroup g then (s.inc (Cmt.commitCnt .a g)).inc (Cmt.commitCnt .b g) else s.inc (Cmt.commitCnt h g)

theorem State.strobeGroup_idle (s : State) (h : Half) (g : Nat) (hp : s.pend h g = false) :
    s.strobeGroup h g = (s.strobeMark h g).strobeCount h g := by
  rw [State.strobeGroup, hp, if_neg (by decide)]
  rfl

/-- What writes of the pending registers keep, setting a pending bit keeps. -/
theorem State.setPend_keeps {β : Type} (v : State → β) (s : State) (h : Half) (g : Nat) (b : Bool)
    (hv : ∀ t k, v (State.sb t (Cmt.cmtPending k) g b) = v t) : v (s.setPend h g b) = v s :=
  ite_keeps v (fun _ => by rw [hv, hv]) fun _ => hv _ _
/-- What writes of the counts keep, counting a strobe keeps. -/
theorem State.strobeCount_keeps {β : Type} (v : State → β) (s : State) (h : Half) (g : Nat)
    (hv : ∀ t k, v (State.inc t (Cmt.commitCnt k g)) = v t) : v (s.strobeCount h g) = v s :=
  ite_keeps v (fun _ => by rw [hv, hv]) fun _ => hv _ _

theorem cmtPending_ne_commitCnt (h k : Half) {g : Nat} (hg : g < 22) : Cmt.cmtPending h ≠ Cmt.commitCnt k g := by
  cases h <;> cases k <;> simp only [Cmt.cmtPending, Cmt.commitCnt, Half.base] <;> omega

theorem State.rg_strobeCount (s : State) (h : Half) {g : Nat} :
    (s.strobeCount h g).rg (Cmt.commitCnt h g) = s.rg (Cmt.commitCnt h g) + 1 := by
  have hab : Cmt.commitCnt .a g ≠ Cmt.commitCnt .b g := by simp only [Cmt.commitCnt, Half.base]; omega
  simp only [State.strobeCount]
  split
  · cases h
    · rw [State.rg_inc, if_neg hab, State.rg_inc, if_pos rfl]
    · rw [State.rg_inc, if_pos rfl, State.rg_inc, if_neg hab.symm]
  · rw [State.rg_inc, if_pos rfl]

/-- A strobe of a group that is pending is refused. -/
theorem cmtStrobe_pending (h : Half) (groups : Word) (g : Nat) (s : State) (hr : s.runs h = true) (hg : namedGroups groups = [g])
    (h5 : g ≠ 5) (h9 : g ≠ 9) (h14 : g ≠ 14) (h17 : g ≠ 17) (hp : s.pend h g = true) :
    Gives (.cmtStrobe h groups) s (fun t => t.bt (Cmt.cmtStrobeRefused h) g = true
      ∧ t.marked = s.marked ∧ t.dirty = s.dirty ∧ SameMem s t ∧ SameShadows s t
      ∧ SameRegs s t (fun r => r = Cmt.cmtStrobeRefused h ∨ EventReg h r)) := by
  have hex := execCmtStrobe_runs h groups s hr
  rw [if_neg (by simp [hg]), hg, List.foldl_cons, List.foldl_nil, s.strobeOne_plain h g h5 h9 h14 h17, State.strobeGroup,
    if_pos hp] at hex
  refine ⟨_, hex, ?_, by simp, by simp, fun a => by simp, fun a => by simp, fun a ha => ?_⟩
  · rw [State.bt, State.rg_strobeAt]
    exact State.bt_cmtFlag _ _ _ _ (cmtStrobeRefused_not_eventReg h) (State.lt_of_pend hp)
  · obtain ⟨h1, h2⟩ := not_or.1 ha
    rw [State.rg_strobeAt, State.rg_cmtFlag_other _ _ _ _ _ h1 h2]

/-- A strobe of a group that is not pending marks its dirty units. -/
theorem cmtStrobe_idle (h : Half) (groups : Word) (g : Nat) (s : State) (hr : s.runs h = true) (hg : namedGroups groups = [g])
    (h5 : g ≠ 5) (h9 : g ≠ 9) (h14 : g ≠ 14) (h17 : g ≠ 17) (hp : s.pend h g = false) :
    Gives (.cmtStrobe h groups) s (fun t => t.pend h g = true ∧ t.dirty = s.dirty
      ∧ (∀ u, u ∈ t.marked ↔ u ∈ s.marked ∨ (u ∈ s.dirty ∧ s.actable h g u = true))
      ∧ t.rg (Cmt.commitCnt h g) = s.rg (Cmt.commitCnt h g) + 1 ∧ SameMem s t ∧ SameShadows s t
      ∧ SameRegs s t (StrobeReg g)) := by
  have hex := execCmtStrobe_runs h groups s hr
  rw [if_neg (by simp [hg]), hg, List.foldl_cons, List.foldl_nil, s.strobeOne_plain h g h5 h9 h14 h17,
    s.strobeGroup_idle h g hp] at hex
  have hg22 : g < 22 := (mem_namedGroups.1 (hg ▸ List.mem_singleton_self g)).1
  have hne (k l : Half) : Cmt.cmtPending k ≠ Cmt.commitCnt l g := cmtPending_ne_commitCnt k l hg22
  have keeps {β : Type} (v : State → β) (hs : ∀ t k, v (State.sb t (Cmt.cmtPending k) g true) = v t)
      (hc : ∀ t k, v (State.inc t (Cmt.commitCnt k g)) = v t) :
      v ((s.strobeMark h g).strobeCount h g) = v { s with marked := s.marked ++ s.strobed h g } :=
    (State.strobeCount_keeps v _ h g hc).trans (State.setPend_keeps v _ h g true hs)
  refine ⟨_, hex, ?_, ?_, fun u => ?_, ?_, fun a => ?_, fun a => ?_, fun a ha => ?_⟩
  · rw [State.pend, State.bt, State.rg_strobeAt, State.strobeCount_keeps (State.rg · (Cmt.cmtPending h)) _ h g fun t k => by
      rw [State.rg_inc, if_neg (hne h k)]]
    exact State.pend_setPend _ h true (by omega)
  · rw [State.dirty_strobeAt, keeps State.dirty (fun _ _ => State.dirty_sb ..) fun _ _ => State.dirty_inc ..]
  · rw [State.marked_strobeAt, keeps State.marked (fun _ _ => State.marked_sb ..) fun _ _ => State.marked_inc ..]
    by_cases hu : u ∈ s.marked <;> simp [State.strobed, hu]
  · rw [State.rg_strobeAt, State.rg_strobeCount, State.strobeMark,
      State.setPend_keeps (State.rg · (Cmt.commitCnt h g)) _ h g true fun t k => by
        rw [State.rg_sb, if_neg (hne k h).symm]]
    rfl
  · rw [State.byte_strobeAt, keeps (State.byte · a) (fun _ _ => State.byte_sb ..) fun _ _ => State.byte_inc ..]
    rfl
  · rw [State.sh_strobeAt, keeps (State.sh · a) (fun _ _ => State.sh_sb ..) fun _ _ => State.sh_inc ..]
    rfl
  · simp only [StrobeReg, not_or] at ha
    obtain ⟨pa, pb, ca, cb⟩ := ha
    rw [State.rg_strobeAt, keeps (State.rg · a) (fun t k => ?_) fun t k => ?_]
    · rfl
    · cases k <;> simp [pa, pb]
    · cases k <;> simp [ca, cb]

/-- Settles O49: a strobe of one group, pending or not. -/
theorem strobeMarksTheDirtyUnits : Obligations.StrobeMarksTheDirtyUnits := by
  intro h groups g s hr hg h5 h9 h14 h17
  cases hp : s.pend h g
  · exact cmtStrobe_idle h groups g s hr hg h5 h9 h14 h17 hp
  · exact cmtStrobe_pending h groups g s hr hg h5 h9 h14 h17 hp

end Sys2Proof.Machine
end

section
/-! SUPPORT. Units whose shadows are reloaded from their live values (R54). -/
namespace Sys2Proof.Machine

/-- From `s` to `t` the units of `P` are reloaded: their shadows take the live values and they are no longer dirty; every other
shadow and dirty mark stays, and so do the live values of all units. -/
structure Reloaded (P : CUnit → Prop) (s t : State) : Prop where
  loaded : ∀ a u, unitOf a = some u → P u → t.sh a &&& ~~~directMask a = s.rg a &&& ~~~directMask a
  kept : ∀ a, (∀ u, unitOf a = some u → ¬ P u) → t.sh a = s.sh a
  dirty : ∀ u, u ∈ t.dirty ↔ u ∈ s.dirty ∧ ¬ P u
  live : ∀ a, unitOf a ≠ none → t.rg a = s.rg a

/-- A step that touches no unit reloads none. -/
theorem Reloaded.of_same {s t : State} (hs : ∀ a, t.sh a = s.sh a) (hd : t.dirty = s.dirty)
    (hl : ∀ a, unitOf a ≠ none → t.rg a = s.rg a) : Reloaded (fun _ => False) s t :=
  ⟨fun _ _ _ hf => hf.elim, fun a _ => hs a, fun u => by simp [hd], hl⟩
theorem Reloaded.congr {P Q : CUnit → Prop} {s t : State} (hr : Reloaded P s t) (hPQ : ∀ u, Q u ↔ P u) : Reloaded Q s t := by
  rwa [funext fun u => propext (hPQ u)]
/-- Reloads one after the other. -/
theorem Reloaded.trans {P Q : CUnit → Prop} {s t u : State} (h1 : Reloaded P s t) (h2 : Reloaded Q t u) :
    Reloaded (fun v => P v ∨ Q v) s u where
  loaded a v hv hp := by
    by_cases hq : Q v
    · rw [h2.loaded a v hv hq, h1.live a (by simp [hv])]
    · rw [h2.kept a fun w hw => by rwa [Option.some.inj (hw.symm.trans hv)], h1.loaded a v hv (hp.resolve_right hq)]
  kept a ha := by
    rw [h2.kept a fun v hv hq => ha v hv (.inr hq), h1.kept a fun v hv hp => ha v hv (.inl hp)]
  dirty v := by
    rw [h2.dirty, h1.dirty, and_assoc, not_or]
  live a ha := (h2.live a ha).trans (h1.live a ha)

/-! ### The abandon of a unit (R54) -/

/-- The reload of a unit's shadows. -/
def State.reloadUnit (s : State) (u : CUnit) : State :=
  let t := (s.unitKeys u).foldl (fun t a => t.wrSh a (s.rg a &&& ~~~ directMask a)) s
  { t with dirty := t.dirty.filter (· != u), marked := t.marked.filter (· != u) }

/-- Slot `i` forgets the writes to COMP_CTRL (R150). -/
def HalfSt.forgetCompWr (i : Nat) (x : HalfSt) : HalfSt :=
  let r : SlotRun := Map.get (fun _ => ({} : SlotRun)) x.slots i
  if r.compWr = 0 then x else { x with slots := Map.set (fun _ => ({} : SlotRun)) x.slots i { r with compWr := 0 } }
/-- An abandon is the reload, before which a slot forgets the writes to COMP_CTRL. -/
theorem State.abandonUnit_cases (s : State) (u : CUnit) : s.abandonUnit u = s.reloadUnit u
    ∨ ∃ h f, s.abandonUnit u = (s.modHalf h f).reloadUnit u := by
  obtain ⟨g, hf, i⟩ := u
  cases hf with
  | none => exact .inl rfl
  | some h =>
    by_cases hg : 18 ≤ g ∧ g < 22
    · refine .inr ⟨h, HalfSt.forgetCompWr i, ?_⟩
      simp only [State.abandonUnit, if_pos hg]
      rfl
    · refine .inl ?_
      simp only [State.abandonUnit, if_neg hg]
      rfl

/-- What shadows, marks and the parts of a half do not show, an abandon keeps. -/
theorem State.abandonUnit_keeps {β : Type} (v : State → β) (s : State) (u : CUnit) (hw : ∀ t a w, v (State.wrSh t a w) = v t)
    (hm : ∀ t d m, v { t with dirty := d, marked := m } = v t) (hh : ∀ t h f, v (State.modHalf t h f) = v t) :
    v (s.abandonUnit u) = v s := by
  have reload (t : State) : v (t.reloadUnit u) = v t := (hm _ _ _).trans (foldl_keeps v _ _ _ fun t a => hw t a _)
  rcases s.abandonUnit_cases u with e | ⟨h, f, e⟩
  · rw [e, reload]
  · rw [e, reload, hh]
theorem State.rg_abandonUnit (s : State) (u : CUnit) (a : Nat) : (s.abandonUnit u).rg a = s.rg a :=
  s.abandonUnit_keeps (State.rg · a) u (fun _ _ _ => rfl) (fun _ _ _ => rfl) fun _ _ _ => State.rg_modHalf ..
theorem State.byte_abandonUnit (s : State) (u : CUnit) (a : Nat) : (s.abandonUnit u).byte a = s.byte a :=
  s.abandonUnit_keeps (State.byte · a) u (fun _ _ _ => rfl) (fun _ _ _ => rfl) fun _ _ _ => State.byte_modHalf ..
theorem State.deck_abandonUnit (s : State) (u : CUnit) : (s.abandonUnit u).deck = s.deck :=
  s.abandonUnit_keeps State.deck u (fun _ _ _ => rfl) (fun _ _ _ => rfl) fun _ _ _ => State.deck_modHalf ..

theorem State.marked_reloadUnit (s : State) (u : CUnit) : (s.reloadUnit u).marked = s.marked.filter (· != u) :=
  congrArg (List.filter _) (foldl_keeps State.marked _ _ _ fun _ _ => rfl)
theorem State.dirty_reloadUnit (s : State) (u : CUnit) : (s.reloadUnit u).dirty = s.dirty.filter (· != u) :=
  congrArg (List.filter _) (foldl_keeps State.dirty _ _ _ fun _ _ => rfl)
theorem State.sh_reloadUnit (s : State) (u : CUnit) (a : Nat) : (s.reloadUnit u).sh a =
    if a ∈ s.unitKeys u then s.rg a &&& ~~~directMask a else s.sh a := State.sh_foldl_wrSh ..
theorem State.unitKeys_modHalf (s : State) (h : Half) (f : HalfSt → HalfSt) (u : CUnit) :
    (s.modHalf h f).unitKeys u = s.unitKeys u := by
  simp only [State.unitKeys, State.live_modHalf, State.shadow_modHalf]
theorem State.marked_abandonUnit (s : State) (u : CUnit) : (s.abandonUnit u).marked = s.marked.filter (· != u) := by
  rcases s.abandonUnit_cases u with e | ⟨h, f, e⟩
  · rw [e, State.marked_reloadUnit]
  · rw [e, State.marked_reloadUnit, State.marked_modHalf]
theorem State.dirty_abandonUnit (s : State) (u : CUnit) : (s.abandonUnit u).dirty = s.dirty.filter (· != u) := by
  rcases s.abandonUnit_cases u with e | ⟨h, f, e⟩
  · rw [e, State.dirty_reloadUnit]
  · rw [e, State.dirty_reloadUnit, State.dirty_modHalf]
theorem State.sh_abandonUnit (s : State) (u : CUnit) (a : Nat) : (s.abandonUnit u).sh a =
    if a ∈ s.unitKeys u then s.rg a &&& ~~~directMask a else s.sh a := by
  rcases s.abandonUnit_cases u with e | ⟨h, f, e⟩
  · rw [e, State.sh_reloadUnit]
  · rw [e, State.sh_reloadUnit, State.unitKeys_modHalf, State.rg_modHalf, State.sh_modHalf]

/-- An abandon reloads its unit. -/
theorem State.reloaded_abandonUnit (s : State) (u : CUnit) : Reloaded (· = u) s (s.abandonUnit u) where
  loaded a v hv hu := by
    subst hu
    rw [State.sh_abandonUnit]
    rcases s.mem_unitKeys_or hv with hk | hn
    · rw [if_pos hk, mask_idem]
    · rw [State.sh_unlisted hn, State.rg_unlisted hn]
      split
      · exact mask_idem _ _
      · rfl
  kept a ha := by
    rw [State.sh_abandonUnit, if_neg fun hk => ha u (State.unitOf_of_mem_unitKeys hk) rfl]
  dirty v := by rw [State.dirty_abandonUnit, mem_filter_ne]
  live a _ := s.rg_abandonUnit u a
theorem State.reloaded_foldl_abandonUnit (us : List CUnit) (s : State) :
    Reloaded (· ∈ us) s (us.foldl State.abandonUnit s) := by
  induction us generalizing s with
  | nil => exact (Reloaded.of_same (fun _ => rfl) rfl fun _ _ => rfl).congr fun u => by simp
  | cons u us ih => exact ((s.reloaded_abandonUnit u).trans (ih _)).congr fun v => List.mem_cons

end Sys2Proof.Machine
end

section
/-! CMT_ABANDON (R54, R55). -/
namespace Sys2Proof.Machine

/-! ### Registers that belong to no unit -/

theorem unitOf_imgStatus (h : Half) : unitOf (Mod.imgStatus h) = none := by cases h <;> decide +kernel
theorem unitOf_cmtStrobeRefused (h : Half) : unitOf (Cmt.cmtStrobeRefused h) = none := by cases h <;> decide +kernel
theorem unitOf_srcCnt_cmt (h : Half) : unitOf (Evc.srcCnt h 2) = none := by cases h <;> decide +kernel
theorem unitOf_pend_cmt (h : Half) : unitOf (Evc.pend h 0 + 4 * (2 / 32)) = none := by cases h <;> decide +kernel

/-- A refused strobe or abandon leaves the live values of the units. -/
theorem State.rg_cmtFlag_unit (s : State) (h : Half) (g a : Nat) (ha : unitOf a ≠ none) :
    (s.cmtFlag h (Cmt.cmtStrobeRefused h) g).rg a = s.rg a := by
  rw [State.cmtFlag, State.rg_raise_other, State.rg_sb, if_neg]
  · exact fun e => ha (e ▸ unitOf_cmtStrobeRefused h)
  · exact fun e => ha (e ▸ unitOf_srcCnt_cmt h)
  · exact fun e => ha (e ▸ unitOf_pend_cmt h)

/-! ### One group -/

/-- One named group of an abandon. -/
def State.abandonOne (s : State) (h : Half) (g : Nat) : State :=
  let t := s.abandonGroup h g
  if g = 17 then t.imgAbandon h else t

theorem execCmtAbandon_runs (h : Half) (groups : Word) (s : State) (hr : s.runs h = true) :
    exec (.cmtAbandon h groups) s = .next ((namedGroups groups).foldl (fun t g => t.abandonOne h g) s) :=
  congrArg Host.Outcome.next (State.onHalf_runs s h _ hr)

/-- What IMG_STATUS and the parts of a half do not show, the discard of the ready copies keeps (R84). -/
theorem State.imgAbandon_keeps {β : Type} (v : State → β) (s : State) (h : Half)
    (hw : ∀ t w, v (State.wr t (Mod.imgStatus h) w) = v t) (hh : ∀ t f, v (State.modHalf t h f) = v t) :
    v (s.imgAbandon h) = v s :=
  ite_keeps v (fun _ => rfl) fun _ => ite_keeps v (t := _) (s := s) (fun _ => (hw _ _).trans (hh _ _)) fun _ => hh _ _
theorem State.abandonOne_keeps {β : Type} (v : State → β) (s : State) (h : Half) (g : Nat)
    (hw : ∀ t w, v (State.wr t (Mod.imgStatus h) w) = v t) (hh : ∀ t f, v (State.modHalf t h f) = v t) :
    v (s.abandonOne h g) = v (s.abandonGroup h g) :=
  ite_keeps v (fun _ => State.imgAbandon_keeps v _ h hw hh) fun _ => rfl

/-- What a refusal and the abandon of units keep, the abandon of a group keeps. -/
theorem State.abandonGroup_keeps {β : Type} (v : State → β) (s : State) (h : Half) (g : Nat)
    (hc : v (s.cmtFlag h (Cmt.cmtStrobeRefused h) g) = v s) (hu : ∀ t u, v (State.abandonUnit t u) = v t) :
    v (s.abandonGroup h g) = v s :=
  ite_keeps v (fun _ => hc) fun _ => foldl_keeps v _ _ _ hu

theorem State.deck_abandonOne (s : State) (h : Half) (g : Nat) : (s.abandonOne h g).deck = s.deck :=
  (State.abandonOne_keeps State.deck s h g (fun _ _ => State.deck_wr ..) fun _ _ => State.deck_modHalf ..).trans
    (State.abandonGroup_keeps State.deck s h g (State.deck_cmtFlag ..) State.deck_abandonUnit)
theorem State.byte_abandonOne (s : State) (h : Half) (g a : Nat) : (s.abandonOne h g).byte a = s.byte a :=
  (State.abandonOne_keeps (State.byte · a) s h g (fun _ _ => State.byte_wr ..) fun _ _ => State.byte_modHalf ..).trans
    (State.abandonGroup_keeps (State.byte · a) s h g (State.byte_cmtFlag ..) fun t u => t.byte_abandonUnit u a)
theorem State.rg_abandonOne (s : State) (h : Half) (g a : Nat) (ha : a ≠ Mod.imgStatus h) :
    (s.abandonOne h g).rg a = (s.abandonGroup h g).rg a :=
  State.abandonOne_keeps (State.rg · a) s h g (fun t w => by rw [State.rg_wr, if_neg ha]) fun _ _ => State.rg_modHalf ..
theorem State.pend_abandonOne (s : State) (h : Half) (g k : Nat) : (s.abandonOne h g).pend h k = s.pend h k := by
  have hreg : ¬ EventReg h (Cmt.cmtPending h) := not_eventReg_cmt h _ (by simp only [Cmt.cmtPending]; omega)
  have hne : Cmt.cmtPending h ≠ Cmt.cmtStrobeRefused h := by simp [Cmt.cmtPending, Cmt.cmtStrobeRefused]
  rw [State.pend, State.bt, State.rg_abandonOne _ _ _ _ (by simp [Cmt.cmtPending, Mod.imgStatus]),
    State.abandonGroup_keeps (State.rg · (Cmt.cmtPending h)) s h g (State.rg_cmtFlag_other _ _ _ _ _ hne hreg)
      fun t u => t.rg_abandonUnit u _]
  rfl

/-- The units that an abandon of group `g` reloads. -/
def State.abandoned (s : State) (h : Half) (g : Nat) (u : CUnit) : Prop :=
  u ∈ s.dirty ∧ s.pend h g = false ∧ s.actable h g u = true

theorem State.reloaded_abandonGroup (s : State) (h : Half) (g : Nat) : Reloaded (s.abandoned h g) s (s.abandonGroup h g) := by
  rw [State.abandonGroup]
  split
  · refine (Reloaded.of_same (fun a => State.sh_cmtFlag ..) (State.dirty_cmtFlag ..)
      fun a ha => s.rg_cmtFlag_unit h g a ha).congr fun u => ?_
    simp [State.abandoned, ‹s.pend h g = true›]
  · exact (s.reloaded_foldl_abandonUnit _).congr fun u => by simp_all [State.abandoned]
theorem State.reloaded_abandonOne (s : State) (h : Half) (g : Nat) : Reloaded (s.abandoned h g) s (s.abandonOne h g) := by
  have hsame : Reloaded (fun _ => False) (s.abandonGroup h g) (s.abandonOne h g) := by
    refine Reloaded.of_same (fun a => ?_) ?_ fun a ha => ?_
    · exact State.abandonOne_keeps (State.sh · a) s h g (fun _ _ => State.sh_wr ..) fun _ _ => State.sh_modHalf ..
    · exact State.abandonOne_keeps State.dirty s h g (fun _ _ => State.dirty_wr ..) fun _ _ => State.dirty_modHalf ..
    · exact s.rg_abandonOne h g a fun e => ha (e ▸ unitOf_imgStatus h)
  exact ((s.reloaded_abandonGroup h g).trans hsame).congr fun u => by simp

/-- An abandon of a pending group sets its flag, and no abandon clears a flag. -/
theorem State.refused_abandonOne (s : State) (h : Half) {g k : Nat}
    (hk : k = g ∧ s.pend h g = true ∨ s.bt (Cmt.cmtStrobeRefused h) k = true) :
    (s.abandonOne h g).bt (Cmt.cmtStrobeRefused h) k = true := by
  have hreg := cmtStrobeRefused_not_eventReg h
  rw [State.bt, State.rg_abandonOne _ _ _ _ (by simp [Cmt.cmtStrobeRefused, Mod.imgStatus])]
  by_cases hp : s.pend h g = true
  · rw [State.abandonGroup, if_pos hp]
    by_cases e : k = g
    · rw [e]
      exact State.bt_cmtFlag _ _ _ _ hreg (State.lt_of_pend hp)
    · exact (State.bt_cmtFlag_other _ _ hreg e).trans (hk.resolve_left fun h => e h.1)
  · rw [State.abandonGroup, if_neg hp, foldl_keeps (State.rg · (Cmt.cmtStrobeRefused h)) _ _ _ fun t u => t.rg_abandonUnit u _]
    exact hk.resolve_left fun h => hp h.2

/-! ### All named groups -/

theorem State.actable_of_deck {s t : State} (hd : t.deck = s.deck) (h : Half) (g : Nat) (u : CUnit) :
    t.actable h g u = s.actable h g u := by
  simp only [State.actable, State.owns, State.owner, hd]
theorem State.grp_of_actable {s : State} {h : Half} {g : Nat} {u : CUnit} (ha : s.actable h g u = true) : u.grp = g := by
  simp only [State.actable, Bool.and_eq_true, decide_eq_true_eq] at ha
  exact ha.1

/-- What an abandon of the groups `l` has done once they are through. -/
structure Abandoned (h : Half) (l : List Nat) (s t : State) : Prop where
  deck : t.deck = s.deck
  mem : SameMem s t
  pend : ∀ g, t.pend h g = s.pend h g
  refused : ∀ g ∈ l, s.pend h g = true → t.bt (Cmt.cmtStrobeRefused h) g = true
  reloaded : Reloaded (fun u => ∃ g ∈ l, s.abandoned h g u) s t

theorem abandoned_foldl (h : Half) (s : State) (l : List Nat) : Abandoned h l s (l.foldl (fun t g => t.abandonOne h g) s) := by
  induction l using List.reverseRecOn with
  | nil =>
    exact ⟨rfl, fun _ => rfl, fun _ => rfl, fun _ hg => absurd hg List.not_mem_nil,
      (Reloaded.of_same (fun _ => rfl) rfl fun _ _ => rfl).congr fun u => by simp⟩
  | append_singleton l g ih =>
    rw [List.foldl_append, List.foldl_cons, List.foldl_nil]
    generalize l.foldl (fun t g => t.abandonOne h g) s = t at ih
    refine ⟨(t.deck_abandonOne h g).trans ih.deck, fun a => (t.byte_abandonOne h g a).trans (ih.mem a),
      fun k => (t.pend_abandonOne h g k).trans (ih.pend k), fun k hk hp => ?_, ?_⟩
    · refine t.refused_abandonOne h ?_
      rcases List.mem_append.1 hk with hl | hg
      · exact .inr (ih.refused k hl hp)
      · have e := List.mem_singleton.1 hg
        exact .inl ⟨e, by rw [ih.pend, ← e, hp]⟩
    · refine (ih.reloaded.trans (t.reloaded_abandonOne h g)).congr fun u => ?_
      simp only [State.abandoned, List.mem_append, List.mem_singleton, ih.reloaded.dirty, ih.pend,
        State.actable_of_deck ih.deck]
      constructor
      · rintro ⟨k, hl | rfl, hd, hp, ha⟩
        · exact .inl ⟨k, hl, hd, hp, ha⟩
        · exact (em _).imp_right fun hn => ⟨⟨hd, hn⟩, hp, ha⟩
      · rintro (⟨k, hl, hu⟩ | ⟨⟨hd, -⟩, hp, ha⟩)
        · exact ⟨k, .inl hl, hu⟩
        · exact ⟨g, .inr rfl, hd, hp, ha⟩

/-- Settles O50: the groups one after another, each reloading its own units. -/
theorem abandonReloadsTheDirtyUnits : Obligations.AbandonReloadsTheDirtyUnits := by
  intro h groups s hr
  have hdone := abandoned_foldl h s (namedGroups groups)
  refine ⟨_, execCmtAbandon_runs h groups s hr, ?_⟩
  beta_reduce
  intro hit
  have hhit (u : CUnit) : hit u ↔ ∃ g ∈ namedGroups groups, s.abandoned h g u := by
    constructor
    · rintro ⟨hd, hg, hp, ha⟩
      exact ⟨u.grp, hg, hd, hp, ha⟩
    · rintro ⟨g, hg, hd, hp, ha⟩
      obtain rfl := State.grp_of_actable ha
      exact ⟨hd, hg, hp, ha⟩
  have hrel := hdone.reloaded.congr hhit
  exact ⟨hrel.loaded, hrel.kept, hrel.dirty, hdone.refused, hdone.mem⟩

end Sys2Proof.Machine
end

section
/-! SUPPORT. What reports, a dropped plan and a settled activation leave of the loader: marks, copies and routes, and the registers
of the power block (R89, R93, R97). -/
namespace Sys2Proof.Machine

/-- Of a half: its active and ready copies, its routes, and whether it runs. -/
structure HalfKept where
  active : Map RegCopy
  ready : Map RegCopy
  route : Map Word
  routeNew : Map Word
  fitted : Bool
  inReset : Bool
def HalfSt.kept (x : HalfSt) : HalfKept :=
  ⟨x.img.active, x.img.ready, x.route, x.routeNew, x.fitted, x.ctl.inReset⟩
/-- Of the state, as an operation of half `h` leaves it: marks, the field deck, both halves' copies and routes, and whether the
partner's activation commits without pairing. -/
structure LoaderView where
  marked : List CUnit
  deck : DeckSt
  kept : Half → HalfKept
  partnerFree : Bool
def loaderView (h : Half) (s : State) : LoaderView :=
  ⟨s.marked, s.deck, fun k => (s.half k).kept, (s.half h.other).img.actFree⟩

section
variable {h : Half} {s t : State} (hv : loaderView h t = loaderView h s)
include hv
theorem marked_of_loaderView : t.marked = s.marked := congrArg LoaderView.marked hv
theorem deck_of_loaderView : t.deck = s.deck := congrArg LoaderView.deck hv
theorem kept_of_loaderView (k : Half) : (t.half k).kept = (s.half k).kept := congrFun (congrArg LoaderView.kept hv) k
theorem partnerFree_of_loaderView : (t.half h.other).img.actFree = (s.half h.other).img.actFree :=
  congrArg LoaderView.partnerFree hv
end
theorem State.runs_of_kept {s t : State} {h : Half} (hk : (t.half h).kept = (s.half h).kept) : t.runs h = s.runs h := by
  have hf : (t.half h).fitted = (s.half h).fitted := congrArg HalfKept.fitted hk
  have hr : (t.half h).ctl.inReset = (s.half h).ctl.inReset := congrArg HalfKept.inReset hk
  rw [State.runs, State.runs, hf, hr]

/-! ### State operations -/

section
variable (h : Half) (s : State)
@[simp] theorem loaderView_wr (a : Nat) (w : Word) : loaderView h (s.wr a w) = loaderView h s := by simp [loaderView]
@[simp] theorem loaderView_fw (a hi lo v : Nat) : loaderView h (s.fw a hi lo v) = loaderView h s := loaderView_wr ..
@[simp] theorem loaderView_sb (a n : Nat) (b : Bool) : loaderView h (s.sb a n b) = loaderView h s := loaderView_wr ..
@[simp] theorem loaderView_satF (a hi lo n : Nat) : loaderView h (s.satF a hi lo n) = loaderView h s := loaderView_wr ..
@[simp] theorem loaderView_setMapBit (a i : Nat) (b : Bool) : loaderView h (s.setMapBit a i b) = loaderView h s :=
  loaderView_wr ..
theorem loaderView_modHalf (f : HalfSt → HalfSt) (hf : ∀ x, (f x).kept = x.kept) :
    loaderView h (s.modHalf h f) = loaderView h s := by
  have hk : (fun k => ((s.modHalf h f).half k).kept) = fun k => (s.half k).kept := funext fun k => by
    by_cases e : k = h
    · rw [e, State.half_modHalf, hf]
    · rw [State.half_modHalf_ne _ _ _ _ e]
  simp only [loaderView, State.marked_modHalf, State.deck_modHalf, hk, State.half_modHalf_other]
@[simp] theorem loaderView_setMemNat (k n v : Nat) : loaderView h (s.setMemNat k n v) = loaderView h s := by
  have hm : (s.setMemNat k n v).marked = s.marked := by
    rw [State.setMemNat, State.setBytes_mem]
  simp [loaderView, hm]
@[simp] theorem loaderView_raise (src : Nat) : loaderView h (s.raise h src) = loaderView h s := by
  rcases s.raise_cases h src with e | e | e <;> rw [e] <;> simp
@[simp] theorem loaderView_report (c k n : Nat) (d : List Nat) : loaderView h (s.report h c k n d) = loaderView h s :=
  ite_keeps (loaderView h) (fun _ => rfl) fun _ => loaderView_modHalf h s _ fun _ => rfl
@[simp] theorem loaderView_tally (ev : Nat) : loaderView h (s.tally h ev) = loaderView h s := by
  have inc (t : State) (n : Nat) : loaderView h (t.tallyInc h n) = loaderView h t := by
    have hc (v : Nat) : loaderView h (t.modHalf h (fun x => { x with ctr := Map.set (fun _ => 0) x.ctr n v }))
        = loaderView h t := loaderView_modHalf h t _ fun _ => rfl
    exact ite_keeps (loaderView h) (fun _ => (loaderView_sb ..).trans (hc _)) fun _ => hc _
  exact ite_keeps (loaderView h) (fun _ => rfl) fun _ => foldl_keeps (loaderView h) _ _ _ fun t e => inc t e.1
@[simp] theorem loaderView_busError (m a : Nat) : loaderView h (s.busError h m a) = loaderView h s := by
  rw [State.busError, loaderView_tally, loaderView_raise]
  exact loaderView_modHalf h s _ fun _ => rfl

/-! ### Reports of the loader (R89) -/

theorem loaderView_trayPutAt (t c : Nat) (ws : List Dword) : loaderView h (s.trayPutAt h t c ws) = loaderView h s := by
  induction ws generalizing s c with
  | nil => rfl
  | cons w ws ih =>
    rw [State.trayPutAt, ih, loaderView_tally]
    exact ite_keeps (loaderView h) (fun _ => loaderView_setMemNat ..) fun _ => loaderView_busError ..
theorem loaderView_imgReport (cause region ty raw space written used id : Nat) :
    loaderView h (s.imgReport h cause region ty raw space written used id) = loaderView h s :=
  ite_keeps (loaderView h) (fun _ => by simp [State.sat])
    fun _ => by simp [State.trayWrite, State.trayFlags, loaderView_trayPutAt]

/-! ### A plan or a move that is dropped (R169) -/

@[simp] theorem loaderView_modPlace (f : PlaceSt → PlaceSt) : loaderView h (s.modPlace h f) = loaderView h s :=
  loaderView_modHalf h s _ fun _ => rfl
@[simp] theorem loaderView_recompute (e : Nat) : loaderView h (s.recompute h e) = loaderView h s := by
  simp only [State.recompute]
  rw [foldl_keeps (loaderView h)]
  · simp
  · intro t k
    split <;> simp
@[simp] theorem loaderView_emptySlot (q : Nat) : loaderView h (s.emptySlot h q) = loaderView h s := by
  refine Eq.trans (loaderView_modHalf h _ _ fun _ => rfl) ?_
  simp [State.setSlotState, State.setStandby, State.engCond]
@[simp] theorem loaderView_plcAfter (loop src result : Nat) : loaderView h (s.plcAfter h loop src result) = loaderView h s := by
  have done (t : State) (r : Nat) : loaderView h (t.plcEnd h r) = loaderView h t := by simp [State.plcEnd]
  simp only [State.plcAfter]
  split
  · split <;> simp [done]
  · split_ifs <;> simp [done]
  · rfl
@[simp] theorem loaderView_moveAbandon (m : Move) (k : Nat) : loaderView h (s.moveAbandon h m k) = loaderView h s := by
  simp only [State.moveAbandon]
  split <;> simp
theorem loaderView_planDrop (loop : Nat) : loaderView h (s.planDrop h loop) = loaderView h s := by
  have move (u : State) : loaderView h (match u.moveOf h loop with
      | some m => if m.cause = 0 then u.moveAbandon h m 4 else u
      | none => u) = loaderView h u := by
    split
    · split <;> simp
    · rfl
  simp only [State.planDrop]
  cases (s.half h).place.plan.find? (fun e => decide (e.1 = loop)) with
  | none => exact move s
  | some e => exact (move _).trans (by simp)
end

/-! ### A settled activation (R97) -/

/-- The loader's state once an activation is settled. -/
def ImgSt.settled (x : ImgSt) : ImgSt :=
  { x with actAny := false, actBad := false, actFree := false, starting := false, paired := [] }
/-- What the loader's registers, its activation and source 9 do not show, settling keeps. -/
theorem State.imgSettle_keeps {β : Type} (v : State → β) (s : State) (h : Half)
    (hw : ∀ t a w, a < h.base + 0x20000 → v (State.wr t a w) = v t) (hm : ∀ t, v (State.modImg t h ImgSt.settled) = v t)
    (hr : ∀ t, v (State.raise t h 9) = v t) : v (s.imgSettle h) = v s := by
  have shown (t : State) (b : Bool) (id : Nat) (bad : Bool) : v (if b then
      ((t.wn (Mod.imgActiveIdLo h) id).wn (Mod.imgActiveIdHi h) (id / 2 ^ 32)).sb (Mod.imgStatus h) 11 bad else t) = v t := by
    refine ite_keeps v (fun _ => ?_) fun _ => rfl
    rw [State.sb_eq, State.wn_eq, State.wn_eq, hw, hw, hw] <;>
      simp only [Mod.imgActiveIdLo, Mod.imgActiveIdHi, Mod.imgStatus] <;> omega
  have clear : v (s.setPend h 17 false) = v s := by
    rw [State.setPend_local s h false rfl, State.sb_eq]
    exact hw _ _ _ (by simp only [Cmt.cmtPending]; omega)
  refine ite_keeps v (fun _ => ?_) fun _ => rfl
  refine (hr _).trans ((hm _).trans ?_)
  rw [State.fw_eq]
  exact (hw _ _ _ (by simp only [Mod.imgStatus]; omega)).trans ((shown ..).trans clear)
theorem loaderView_imgSettle (h : Half) (s : State) : loaderView h (s.imgSettle h) = loaderView h s :=
  State.imgSettle_keeps (loaderView h) s h (fun _ _ _ _ => loaderView_wr ..)
    (fun t => loaderView_modHalf h t _ fun _ => rfl) fun _ => loaderView_raise ..

/-! ### The registers of the power block -/

/-- The station address of the power block's register at offset `o`. -/
def powerAddr (h : Half) (o : Nat) : Nat := h.base + 0x1400000 + o
/-- An address of half `h` outside the registers of a POWER region. -/
def OffPower (h : Half) (a : Nat) : Prop := a < h.base + 0x1400000 ∨ h.base + 0x1480000 ≤ a
/-- The live values and shadows of these registers. -/
def powerRegs (h : Half) (s : State) (o : Nat) : Word × Word :=
  if o < 0x80000 then (s.rg (powerAddr h o), s.sh (powerAddr h o)) else 0
/-- The loader's view with them. -/
def commitView (h : Half) (s : State) : LoaderView × (Nat → Word × Word) := (loaderView h s, powerRegs h s)

theorem loaderView_of_commitView {h : Half} {s t : State} (hv : commitView h t = commitView h s) :
    loaderView h t = loaderView h s := congrArg Prod.fst hv
theorem powerRegs_of_commitView {h : Half} {s t : State} {o : Nat} (hv : commitView h t = commitView h s) (ho : o < 0x80000) :
    t.rg (powerAddr h o) = s.rg (powerAddr h o) ∧ t.sh (powerAddr h o) = s.sh (powerAddr h o) := by
  have hp : powerRegs h t o = powerRegs h s o := congrFun (congrArg Prod.snd hv) o
  simpa [powerRegs, ho] using hp

section
variable (h : Half) (s : State)
theorem commitView_of_regs {s t : State} (hv : loaderView h t = loaderView h s)
    (hr : ∀ o, o < 0x80000 → t.rg (powerAddr h o) = s.rg (powerAddr h o))
    (hs : ∀ o, o < 0x80000 → t.sh (powerAddr h o) = s.sh (powerAddr h o)) : commitView h t = commitView h s := by
  have hp : powerRegs h t = powerRegs h s := funext fun o => by
    rw [powerRegs, powerRegs]
    split
    · rw [hr o ‹_›, hs o ‹_›]
    · rfl
  rw [commitView, commitView, hv, hp]
theorem commitView_wr (a : Nat) (w : Word) (ha : OffPower h a) : commitView h (s.wr a w) = commitView h s := by
  refine commitView_of_regs h (loaderView_wr ..) (fun o ho => ?_) fun o _ => State.sh_wr ..
  rw [State.rg_wr, if_neg]
  rcases ha with ha | ha <;> simp only [powerAddr] <;> omega
theorem commitView_fw (a hi lo v : Nat) (ha : OffPower h a) : commitView h (s.fw a hi lo v) = commitView h s :=
  commitView_wr h s a _ ha
theorem commitView_sb (a n : Nat) (b : Bool) (ha : OffPower h a) : commitView h (s.sb a n b) = commitView h s :=
  commitView_wr h s a _ ha
theorem commitView_wn (a v : Nat) (ha : OffPower h a) : commitView h (s.wn a v) = commitView h s :=
  commitView_wr h s a _ ha
theorem commitView_modHalf (f : HalfSt → HalfSt) (hf : ∀ x, (f x).kept = x.kept) :
    commitView h (s.modHalf h f) = commitView h s :=
  commitView_of_regs h (loaderView_modHalf h s f hf) (fun _ _ => State.rg_modHalf ..) fun _ _ => State.sh_modHalf ..
@[simp] theorem commitView_raise (src : Nat) : commitView h (s.raise h src) = commitView h s := by
  refine commitView_of_regs h (loaderView_raise ..) (fun o ho => ?_) fun o _ => State.sh_raise ..
  rw [State.rg_raise_other] <;> simp only [powerAddr, Evc.srcCnt, Evc.pend] <;> omega
@[simp] theorem commitView_report (c k n : Nat) (d : List Nat) : commitView h (s.report h c k n d) = commitView h s :=
  commitView_of_regs h (loaderView_report ..) (fun _ _ => State.rg_report ..) fun _ _ => State.sh_report ..
theorem commitView_imgSettle : commitView h (s.imgSettle h) = commitView h s :=
  State.imgSettle_keeps (commitView h) s h (fun t a w ha => commitView_wr h t a w (.inl (by omega)))
    (fun t => commitView_modHalf h t _ fun _ => rfl) fun _ => commitView_raise ..

/-! ### The role of a half that has its image (R393, R412) -/

theorem commitView_sb_halfStatus (n : Nat) (b : Bool) :
    commitView h (s.sb (HalfR.halfStatus h) n b) = commitView h s :=
  commitView_sb h s _ _ _ (.inl (by simp only [HalfR.halfStatus]; omega))
@[simp] theorem commitView_setHState (n : Nat) : commitView h (s.setHState h n) = commitView h s := by
  have hw : commitView h ((s.fw (HalfR.halfStatus h) 2 0 n).redundantShow h) = commitView h s :=
    (commitView_sb_halfStatus ..).trans (commitView_fw h s _ _ _ _ (.inl (by simp only [HalfR.halfStatus]; omega)))
  exact ite_keeps (commitView h) (fun _ => rfl) fun _ => ite_keeps (commitView h) (t := _) (s := s)
    (fun _ => (commitView_report ..).trans hw) fun _ => hw
@[simp] theorem commitView_startDone : commitView h (s.startDone h) = commitView h s :=
  ite_keeps (commitView h) (fun _ => rfl) fun _ => (commitView_report ..).trans (commitView_modHalf h s _ fun _ => rfl)
@[simp] theorem commitView_setClaims (b : Bool) : commitView h (s.setClaims h b) = commitView h s := by
  have hw (t : State) (w : Nat) (hw : w < 4) (v : Nat) : commitView h (t.wn (HalfR.claimSent h w) v) = commitView h t :=
    commitView_wn h t _ _ (.inl (by simp only [HalfR.claimSent]; omega))
  rw [State.setClaims]
  refine (List.foldlRecOn (motive := fun t => commitView h t = commitView h (s.modCtl h fun x => { x with claims := b }))
    _ _ rfl fun t ht w hl => ?_).trans (commitView_modHalf h s _ fun _ => rfl)
  rw [hw t w (List.mem_range.1 hl), ht]
theorem commitView_clearIf (p : Nat → Bool) (hp : ∀ o, o < 0x80000 → p (powerAddr h o) = false) :
    commitView h { s with live := Map.clearIf p s.live } = commitView h s := by
  refine commitView_of_regs h ?_ (fun o ho => Map.get_clearIf_other _ p _ _ (hp o ho)) fun o _ => rfl
  cases h <;> rfl
@[simp] theorem commitView_unalignAll : commitView h (s.unalignAll h) = commitView h s := by
  rw [State.unalignAll]
  refine Eq.trans (commitView_modHalf h _ _ fun _ => rfl) ((commitView_wr h _ _ _ (.inl ?_)).trans
    (commitView_clearIf h s _ fun o ho => ?_))
  · simp only [HalfR.alignStatus]
    omega
  · have hpast : ¬ powerAddr h o < HalfR.alignedMap h 128 := by
      simp only [powerAddr, HalfR.alignedMap]
      omega
    simp [hpast]
@[simp] theorem commitView_goJoining : commitView h (s.goJoining h) = commitView h s := by
  simp only [State.goJoining]
  split <;> simp
@[simp] theorem commitView_startRole : commitView h (s.startRole h) = commitView h s := by
  simp only [State.startRole]
  split_ifs <;> simp
@[simp] theorem commitView_joinCheck : commitView h (s.joinCheck h) = commitView h s := by
  refine ite_keeps (commitView h) (fun _ => ?_) fun _ => rfl
  simp
end

end Sys2Proof.Machine
end

section
/-! Marks of regions: pairing, and regions that are dropped (R93). -/
namespace Sys2Proof.Machine

/-! ### Copies by region -/

theorem Map.ne_of_mem_del {α : Type} {m : Map α} {k : Nat} {e : Nat × α} (he : e ∈ Map.del m k) : e.1 ≠ k := by
  induction m with
  | nil => exact absurd he List.not_mem_nil
  | cons f m ih =>
    obtain ⟨i, v⟩ := f
    by_cases hi : i = k
    · rw [Map.del, if_pos hi] at he
      exact ih he
    · rw [Map.del, if_neg hi] at he
      rcases List.mem_cons.1 he with rfl | he
      · exact hi
      · exact ih he
theorem Map.find?_del {α : Type} (m : Map α) (k : Nat) : (Map.del m k).find? (fun e => decide (e.1 = k)) = none :=
  List.find?_eq_none.2 fun _ he => by simpa using Map.ne_of_mem_del he
theorem Map.find?_ins {α : Type} (m : Map α) (k : Nat) (w : α) :
    (Map.ins m k w).find? (fun e => decide (e.1 = k)) = some (k, w) := by
  induction m with
  | nil => simp [Map.ins]
  | cons f m ih =>
    obtain ⟨i, v⟩ := f
    by_cases h1 : k < i
    · simp [Map.ins, h1]
    · by_cases h2 : i = k
      · simp [Map.ins, h2]
      · rw [Map.ins, if_neg h1, if_neg h2, List.find?_cons_of_neg (by simpa using h2), ih]
theorem Map.mem_ins_self {α : Type} (m : Map α) (k : Nat) (w : α) : (k, w) ∈ Map.ins m k w :=
  List.mem_of_find?_eq_some (Map.find?_ins m k w)

theorem State.readyCopy_of_kept {s t : State} {h : Half} (hk : (t.half h).kept = (s.half h).kept) (r : Nat) :
    t.readyCopy h r = s.readyCopy h r := by
  have hr : (t.half h).img.ready = (s.half h).img.ready := congrArg HalfKept.ready hk
  rw [State.readyCopy, State.readyCopy, hr]
theorem State.regionMarked_eq_false {s : State} {h : Half} {r : Nat} : s.regionMarked h r = false ↔ regionUnit h r ∉ s.marked := by
  simp [State.regionMarked]
theorem State.regionMarked_eq_true {s : State} {h : Half} {r : Nat} : s.regionMarked h r = true ↔ regionUnit h r ∈ s.marked := by
  simp [State.regionMarked]
theorem regionUnit_other_ne (h : Half) (r : Nat) : regionUnit h.other r ≠ regionUnit h r := by
  simp [regionUnit]

/-- A mark names the ready copy whose CRC it carries. -/
theorem State.markCrc_eq_some {s : State} {h : Half} {r c : Nat} (hm : s.markCrc h r = some c) :
    s.regionMarked h r = true ∧ ∃ x, s.readyCopy h r = some x := by
  rw [State.markCrc] at hm
  split at hm
  · obtain ⟨x, hx, -⟩ := Option.map_eq_some_iff.1 hm
    exact ⟨‹_›, x, hx⟩
  · exact absurd hm (by simp)

/-! ### A region without its mark and ready copy -/

section
variable (s : State) (h : Half) (r : Nat)
@[simp] theorem State.marked_regionUnmark : (s.regionUnmark h r).marked = s.marked.filter (· != regionUnit h r) :=
  State.marked_modHalf ..
@[simp] theorem State.rg_regionUnmark (a : Nat) : (s.regionUnmark h r).rg a = s.rg a := State.rg_modHalf ..
@[simp] theorem State.sh_regionUnmark (a : Nat) : (s.regionUnmark h r).sh a = s.sh a := State.sh_modHalf ..
theorem State.half_regionUnmark : (s.regionUnmark h r).half h = { s.half h with img := { (s.half h).img with
    ready := Map.del (s.half h).img.ready r, paired := (s.half h).img.paired.filter (· != r) } } := by cases h <;> rfl
theorem State.half_regionUnmark_other : (s.regionUnmark h r).half h.other = s.half h.other := by cases h <;> rfl
theorem State.runs_regionUnmark : (s.regionUnmark h r).runs h = s.runs h := by
  rw [State.runs, State.half_regionUnmark, State.runs]
end

/-! ### A region that is dropped -/

/-- The state in which the loader has reported a drop and forgotten the region. -/
def State.regionForget (s : State) (h : Half) (r cause used : Nat) (c : RegCopy) : State :=
  ((s.imgReport h cause r (regionOf r).1 c.pos 0 0 used c.sid).regionUnmark h r).modImg h (fun x => { x with actBad := true })
theorem State.regionDrop_eq {s : State} {h : Half} {r : Nat} {c : RegCopy} (hc : s.readyCopy h r = some c) (cause used : Nat) :
    s.regionDrop h r cause used = (((if 2 ≤ r ∧ r < 4098 then (s.regionForget h r cause used c).planDrop h (r - 2)
      else s.regionForget h r cause used c).raise h 10).imgSettle h) := by
  rw [State.regionDrop, hc]
  rfl

section
variable {s : State} {h : Half} {r : Nat} {c : RegCopy} (hc : s.readyCopy h r = some c) (cause used : Nat)
include hc
theorem loaderView_regionDrop :
    loaderView h (s.regionDrop h r cause used) = loaderView h (s.regionForget h r cause used c) := by
  rw [State.regionDrop_eq hc, loaderView_imgSettle, loaderView_raise]
  exact ite_keeps (loaderView h) (fun _ => loaderView_planDrop ..) fun _ => rfl
theorem State.marked_regionDrop : (s.regionDrop h r cause used).marked = s.marked.filter (· != regionUnit h r) := by
  rw [marked_of_loaderView (loaderView_regionDrop hc cause used), State.regionForget, State.modImg, State.marked_modHalf,
    State.marked_regionUnmark, marked_of_loaderView (loaderView_imgReport ..)]
theorem State.readyCopy_regionDrop : (s.regionDrop h r cause used).readyCopy h r = none := by
  rw [State.readyCopy_of_kept (kept_of_loaderView (loaderView_regionDrop hc cause used) h), State.readyCopy,
    State.regionForget, State.modImg, State.half_modHalf, State.half_regionUnmark, Map.find?_del]
  rfl
theorem State.partner_regionDrop :
    ((s.regionDrop h r cause used).half h.other).kept = (s.half h.other).kept
      ∧ ((s.regionDrop h r cause used).half h.other).img.actFree = (s.half h.other).img.actFree := by
  have hview := loaderView_imgReport h s cause r (regionOf r).1 c.pos 0 0 used c.sid
  have hforget : (s.regionForget h r cause used c).half h.other
      = (s.imgReport h cause r (regionOf r).1 c.pos 0 0 used c.sid).half h.other := by
    rw [State.regionForget, State.modImg, State.half_modHalf_other, State.half_regionUnmark_other]
  constructor
  · rw [kept_of_loaderView (loaderView_regionDrop hc cause used), hforget, kept_of_loaderView hview]
  · rw [partnerFree_of_loaderView (loaderView_regionDrop hc cause used), hforget, partnerFree_of_loaderView hview]
theorem State.regionMarked_regionDrop : (s.regionDrop h r cause used).regionMarked h r = false := by
  rw [State.regionMarked_eq_false, State.marked_regionDrop hc, mem_filter_ne]
  exact fun hm => hm.2 rfl
/-- A drop asserts source 10. -/
theorem State.pends_regionDrop (hr : s.runs h = true) : Pends (s.regionDrop h r cause used) h 10 := by
  have hforget : (s.regionForget h r cause used c).runs h = s.runs h := by
    have hview := loaderView_imgReport h s cause r (regionOf r).1 c.pos 0 0 used c.sid
    rw [State.regionForget, State.modImg, State.runs_modHalf _ _ _ _ rfl rfl, State.runs_regionUnmark,
      State.runs_of_kept (kept_of_loaderView hview h)]
  rw [State.regionDrop_eq hc]
  generalize hu : (if 2 ≤ r ∧ r < 4098 then (s.regionForget h r cause used c).planDrop h (r - 2)
    else s.regionForget h r cause used c) = u
  have hrun : u.runs h = true := by
    rw [← hr, ← hforget, ← hu]
    exact State.runs_of_kept (kept_of_loaderView (ite_keeps (loaderView h) (fun _ => loaderView_planDrop ..) fun _ => rfl) h)
  refine (State.imgSettle_keeps (fun t => t.mapBit (Evc.pend h 0) 10) (u.raise h 10) h (fun t a w ha => ?_) (fun t => ?_)
    fun t => ?_).trans (u.raise_pends h 10 hrun (by decide))
  · refine State.mapBit_of_rg ?_
    rw [State.rg_wr, if_neg]
    simp only [Evc.pend]
    omega
  · exact State.mapBit_of_rg (State.rg_modHalf ..)
  · exact t.mapBit_raise_other h 9 10 (by decide) (by decide)
end

/-! ### The partner's mark -/

theorem execRegionPairMark_runs {h : Half} {r : Nat} {s : State} (hr : s.runs h = true) (hm : s.mirrorUp = true)
    (ho : s.runs h.other = true) : exec (.regionPairMark h r) s = .next (s.pairMark h r) :=
  congrArg Host.Outcome.next ((State.onHalf_runs s h _ hr).trans (if_pos ⟨hm, ho⟩))

/-- REGION_PAIR_MARK of a region marked here with the same CRC. -/
theorem regionPairMark_pairs (h : Half) (r c : Nat) (s : State) (hr : s.runs h = true) (hm : s.mirrorUp = true)
    (ho : s.runs h.other = true) (hc : s.markCrc h r = some c) (hd : s.markCrc h.other r = some c)
    (hf : (s.half h).img.actFree = false) :
    Gives (.regionPairMark h r) s (fun t => r ∈ (t.half h).img.paired ∧ t.marked = s.marked ∧ SameMem s t ∧ SameShadows s t
      ∧ SameRegs s t (fun _ => False)) := by
  have hex := execRegionPairMark_runs (r := r) hr hm ho
  rw [State.pairMark, hc, hd] at hex
  simp only [hf, Bool.false_eq_true, if_false, if_true] at hex
  refine ⟨_, hex, ?_, State.marked_modHalf .., fun a => State.byte_modHalf .., fun a => State.sh_modHalf ..,
    fun a _ => State.rg_modHalf ..⟩
  rw [State.modImg, State.half_modHalf]
  by_cases hp : r ∈ (s.half h).img.paired <;> simp [hp]

/-- REGION_PAIR_MARK of a region marked here with another CRC: both halves drop it, but for a partner that needs no pairing. -/
theorem regionPairMark_differs (h : Half) (r c d : Nat) (s : State) (hr : s.runs h = true) (hm : s.mirrorUp = true)
    (ho : s.runs h.other = true) (hc : s.markCrc h r = some c) (hd : s.markCrc h.other r = some d) (hne : c ≠ d)
    (hf : (s.half h).img.actFree = false) :
    Gives (.regionPairMark h r) s (fun t => t.regionMarked h r = false ∧ t.readyCopy h r = none
      ∧ if (s.half h.other).img.actFree then t.regionMarked h.other r = true
        else t.regionMarked h.other r = false ∧ t.readyCopy h.other r = none) := by
  obtain ⟨-, x, hx⟩ := State.markCrc_eq_some hc
  obtain ⟨hmo, y, hy⟩ := State.markCrc_eq_some hd
  have hex := execRegionPairMark_runs (r := r) hr hm ho
  rw [State.pairMark, hc, hd] at hex
  simp only [hf, hne, Bool.false_eq_true, if_false] at hex
  obtain ⟨hkept, hfree⟩ := State.partner_regionDrop hx 0x16 0
  have hmark := State.regionMarked_regionDrop hx 0x16 0
  have hready := State.readyCopy_regionDrop hx 0x16 0
  have hmarks := State.marked_regionDrop hx 0x16 0
  generalize s.regionDrop h r 0x16 0 = t at *
  rw [hfree] at hex
  refine ⟨_, hex, ?_⟩
  beta_reduce
  by_cases hpf : (s.half h.other).img.actFree = true
  · rw [if_pos hpf, if_pos hpf]
    refine ⟨hmark, hready, ?_⟩
    rw [State.regionMarked_eq_true, hmarks, mem_filter_ne]
    exact ⟨State.regionMarked_eq_true.1 hmo, regionUnit_other_ne h r⟩
  · rw [if_neg hpf, if_neg hpf]
    have hy' : t.readyCopy h.other r = some y := (State.readyCopy_of_kept hkept r).trans hy
    obtain ⟨hkept', -⟩ := State.partner_regionDrop hy' 0x16 0
    rw [Half.other_other] at hkept'
    refine ⟨?_, (State.readyCopy_of_kept hkept' r).trans hready, State.regionMarked_regionDrop hy' ..,
      State.readyCopy_regionDrop hy' ..⟩
    rw [State.regionMarked_eq_false, State.marked_regionDrop hy', mem_filter_ne]
    exact fun hin => State.regionMarked_eq_false.1 hmark hin.1

/-- REGION_PAIR_MARK of a region not marked here. -/
theorem regionPairMark_early (h : Half) (r d : Nat) (s : State) (hr : s.runs h = true) (hm : s.mirrorUp = true)
    (ho : s.runs h.other = true) (hc : s.markCrc h r = none) (hd : s.markCrc h.other r = some d) :
    Gives (.regionPairMark h r) s (fun t => (r, d) ∈ (t.half h).img.partnerMark ∧ t.marked = s.marked ∧ SameMem s t) := by
  have hex := execRegionPairMark_runs (r := r) hr hm ho
  rw [State.pairMark, hc, hd] at hex
  dsimp only at hex
  refine ⟨_, hex, ?_, State.marked_modHalf .., fun a => State.byte_modHalf ..⟩
  rw [State.modImg, State.half_modHalf]
  exact Map.mem_ins_self ..

/-- PAIR_TIMEOUT. -/
theorem pairTimeout_drops (h : Half) (r : Nat) (c : RegCopy) (s : State) (hr : s.runs h = true)
    (hm : s.regionMarked h r = true) (hc : s.readyCopy h r = some c) (hp : s.pairOk h r = false)
    (ht : Map.get (fun _ => 0) (s.half h).strobeT 17 + clampNat 1 10000 (s.fd (Mod.imgPairTimeout h) 13 0) * 1000000 ≤ s.now h) :
    Gives (.pairTimeout h r) s (fun t => t.regionMarked h r = false ∧ t.readyCopy h r = none ∧ Pends t h 10) :=
  ⟨_, congrArg Host.Outcome.next ((State.onHalf_runs s h _ hr).trans (if_pos ⟨hm, hp, ht⟩)),
    State.regionMarked_regionDrop hc .., State.readyCopy_regionDrop hc .., State.pends_regionDrop hc _ _ hr⟩

end Sys2Proof.Machine
end

section
/-! SUPPORT. The registers of a POWER region (R78, R81, R82, R94). -/
namespace Sys2Proof.Machine

theorem regionOf_power : regionOf 4509 = (0x70, 0) := by decide
theorem regionOf_route : regionOf 4474 = (0x30, 0) := by decide

/-- Registers of the two halves at one offset have one reset word, but for HALF_STATUS with its half's strap bit. -/
theorem resetWord_of_lowAddr (straps : Nat) {a b : Nat} (hab : lowAddr a = lowAddr b) (hb : lowAddr b ≠ 0x200040) :
    resetWord straps a = resetWord straps b := by
  have hspecial : resetSpecial straps a = resetSpecial straps b := by
    simp only [resetSpecial, hab, if_neg hb]
  rw [resetWord, resetWord, hspecial, hab]
/-- A reset word of the power block is the same in both halves. -/
theorem resetWord_powerAddr (straps : Nat) (h : Half) {o : Nat} (ho : o < 0x80000) :
    resetWord straps (powerAddr h o) = resetWord straps (0x1400000 + o) := by
  have hlow' : lowAddr (0x1400000 + o) = 0x1400000 + o := Nat.mod_eq_of_lt (by omega)
  refine resetWord_of_lowAddr straps (Eq.trans ?_ hlow'.symm) (by rw [hlow']; omega)
  rw [powerAddr, Nat.add_assoc]
  exact lowAddr_add_base h _ (by omega)
theorem regionReset_power (straps o : Nat) : regionReset straps 4509 o = resetWord straps (0x1400000 + o) := by
  simp only [regionReset, regionOf_power, regionAddr, Nat.reduceEqDiff, if_false]
theorem isDeckBlock_power {o : Nat} (ho : o < 0x80000) : isDeckBlock (0x1400000 + o) = false := by
  simp only [isDeckBlock, ← Bool.decide_and, ← Bool.decide_or, decide_eq_false_iff_not]
  omega

/-- One word of a POWER region goes to its register. -/
def State.powerTake (h : Half) (c : RegCopy) (t : State) (o : Nat) : State :=
  let a := 0x1400000 + o
  match descOf a with
  | none => t
  | some d =>
    if (grpOf a d).isNone then t
    else
      let k := if isDeckBlock a then a else h.base + a
      let w := c.word t.deck.straps 4509 o
      let m := directMask k
      (t.wr k ((w &&& ~~~m) ||| (t.rg k &&& m))).wrSh k (w &&& ~~~m)
/-- Register `o` of the power block holds `w`, live and as a shadow, but for its bits outside the shadow. -/
def State.PowerTaken (t : State) (h : Half) (o : Nat) (w : Word) : Prop :=
  let k := powerAddr h o
  t.rg k &&& ~~~directMask k = w &&& ~~~directMask k ∧ t.sh k &&& ~~~directMask k = w &&& ~~~directMask k

theorem State.regionRegs_power (s : State) (h : Half) (c : RegCopy) : s.regionRegs h 4509 c =
    let c' : RegCopy := if c.remove then { c with words := [] } else c
    (s.regionOffs h 0x70 0 c').foldl (State.powerTake h c') s := by
  rw [State.regionRegs, regionOf_power]
  rfl

/-- A taken word changes nothing, or one register live and as a shadow. -/
theorem State.powerTake_cases (h : Half) (c : RegCopy) (t : State) (o : Nat) : State.powerTake h c t o = t
    ∨ ∃ w v, State.powerTake h c t o
      = (t.wr (if isDeckBlock (0x1400000 + o) then 0x1400000 + o else h.base + (0x1400000 + o)) w).wrSh
        (if isDeckBlock (0x1400000 + o) then 0x1400000 + o else h.base + (0x1400000 + o)) v := by
  simp only [State.powerTake]
  split
  · exact .inl rfl
  · split
    · exact .inl rfl
    · exact .inr ⟨_, _, rfl⟩
theorem State.deck_powerTake (h : Half) (c : RegCopy) (t : State) (o : Nat) : (State.powerTake h c t o).deck = t.deck := by
  rcases State.powerTake_cases h c t o with e | ⟨w, v, e⟩ <;> rw [e]
  rfl

section
variable {h : Half} {o : Nat} (ho : o < 0x80000)
include ho
/-- A word at another offset leaves the register. -/
theorem State.powerTaken_other (c : RegCopy) (t : State) {p : Nat} (hp : p ≠ o) {w : Word} (ht : t.PowerTaken h o w) :
    (State.powerTake h c t p).PowerTaken h o w := by
  have hk : powerAddr h o ≠ if isDeckBlock (0x1400000 + p) then 0x1400000 + p else h.base + (0x1400000 + p) := by
    split
    · have hdeck := ‹isDeckBlock (0x1400000 + p) = true›
      simp only [isDeckBlock, ← Bool.decide_and, ← Bool.decide_or, decide_eq_true_eq] at hdeck
      cases h <;> simp only [powerAddr, Half.base] <;> omega
    · simp only [powerAddr]
      omega
  rcases State.powerTake_cases h c t p with e | ⟨v, x, e⟩ <;> rw [e]
  · exact ht
  · rw [State.PowerTaken, State.rg_wrSh, State.rg_wr, State.sh_wrSh, State.sh_wr, if_neg hk, if_neg hk]
    exact ht
/-- A register of a commit group takes its word. -/
theorem State.powerTaken_same (c : RegCopy) (t : State) {d : RegDesc} {g : Nat} (hd : descOf (0x1400000 + o) = some d)
    (hg : grpOf (0x1400000 + o) d = some g) :
    (State.powerTake h c t o).PowerTaken h o (c.word t.deck.straps 4509 o) := by
  have hk : (if isDeckBlock (0x1400000 + o) then 0x1400000 + o else h.base + (0x1400000 + o)) = powerAddr h o := by
    rw [isDeckBlock_power ho, if_neg (by decide), powerAddr, Nat.add_assoc]
  simp only [State.powerTake, hd, hg, hk, Option.isNone_some, Bool.false_eq_true, if_false]
  rw [State.PowerTaken, State.rg_wrSh, State.rg_wr, State.sh_wrSh, if_pos rfl, if_pos rfl, mask_mix, mask_idem]
  exact ⟨rfl, rfl⟩
/-- Of the words of a list each register takes its own, and keeps it where it held it before. -/
theorem State.powerTaken_foldl (c : RegCopy) {d : RegDesc} {g : Nat} (hd : descOf (0x1400000 + o) = some d)
    (hg : grpOf (0x1400000 + o) d = some g) (l : List Nat) (t : State)
    (ht : o ∈ l ∨ t.PowerTaken h o (c.word t.deck.straps 4509 o)) :
    (l.foldl (State.powerTake h c) t).PowerTaken h o (c.word t.deck.straps 4509 o) := by
  induction l generalizing t with
  | nil => exact ht.resolve_left List.not_mem_nil
  | cons p l ih =>
    have hdeck := State.deck_powerTake h c t p
    have hnext : o ∈ l ∨ (State.powerTake h c t p).PowerTaken h o (c.word t.deck.straps 4509 o) := by
      by_cases hp : p = o
      · subst hp
        exact .inr (State.powerTaken_same ho c t hd hg)
      · exact ht.imp (fun hm => (List.mem_cons.1 hm).resolve_left (Ne.symm hp)) (State.powerTaken_other ho c t hp)
    rw [← hdeck] at hnext ⊢
    exact ih (State.powerTake h c t p) hnext
/-- A register that a commit of the region does not find holds its reset value, which is then the copy's. -/
theorem State.powerTaken_unlisted (c : RegCopy) (t : State) (hn : o ∉ t.regionOffs h 0x70 0 c) :
    t.PowerTaken h o (c.word t.deck.straps 4509 o) := by
  simp only [State.regionOffs, List.mem_append, not_or] at hn
  obtain ⟨hlisted, hword⟩ := hn
  have hun : t.Unlisted (powerAddr h o) := by
    intro hk
    refine hlisted (List.mem_flatMap.2 ⟨(0, 0x80000), List.mem_singleton_self _, List.mem_map.2 ⟨powerAddr h o, ?_, ?_⟩⟩)
    · refine List.mem_filter.2 ⟨List.mem_filter.2 ⟨?_, ?_⟩, ?_⟩
      · rw [List.map_append]
        exact (List.mem_append.1 hk).elim (List.mem_append_right _) (List.mem_append_left _)
      · refine decide_eq_true ?_
        show h.base ≤ powerAddr h o
        simp only [powerAddr]
        omega
      · show (decide (h.base + (0x1400000 + 0) ≤ powerAddr h o)
          && decide (powerAddr h o < h.base + (0x1400000 + 0) + 0x80000)) = true
        rw [← Bool.decide_and]
        refine decide_eq_true ?_
        simp only [powerAddr]
        omega
    · show powerAddr h o - h.base - (0x1400000 + 0) + 0 = o
      simp only [powerAddr]
      omega
  have hreset : c.word t.deck.straps 4509 o = resetWord t.deck.straps (powerAddr h o) := by
    rw [RegCopy.word, Map.get_unlisted _ _ _ hword, regionReset_power, resetWord_powerAddr _ _ ho]
  rw [State.PowerTaken, hreset, State.rg_unlisted hun, State.sh_unlisted hun]
  exact ⟨rfl, rfl⟩

/-- Every register of a commit group in the power block takes its word of the image, or its reset value where the region is
removed. -/
theorem State.powerTaken_regionRegs (c : RegCopy) (t : State) {d : RegDesc} {g : Nat} (hd : descOf (0x1400000 + o) = some d)
    (hg : grpOf (0x1400000 + o) d = some g) : (t.regionRegs h 4509 c).PowerTaken h o
      (if c.remove then resetWord t.deck.straps (powerAddr h o) else c.word t.deck.straps 4509 o) := by
  rw [State.regionRegs_power]
  have taken (x : RegCopy) :
      ((t.regionOffs h 0x70 0 x).foldl (State.powerTake h x) t).PowerTaken h o (x.word t.deck.straps 4509 o) :=
    State.powerTaken_foldl ho x hd hg _ t ((em _).imp_right (State.powerTaken_unlisted ho x t))
  split
  · have hreset : ({ c with words := [] } : RegCopy).word t.deck.straps 4509 o = resetWord t.deck.straps (powerAddr h o) := by
      rw [resetWord_powerAddr _ _ ho, ← regionReset_power]
      rfl
    exact hreset ▸ taken { c with words := [] }
  · exact taken c
end

end Sys2Proof.Machine
end

section
/-! The commit of a POWER and of a ROUTE region (R94, R608). -/
namespace Sys2Proof.Machine

/-! ### The end of a region's commit -/

/-- The state in which a region's copy is the active one and the region is no longer marked. -/
def State.regionActivate (s : State) (h : Half) (r : Nat) (c : RegCopy) : State :=
  (s.modImg h (fun x => { x with
    active := if c.remove then Map.del x.active r else Map.ins x.active r c
    actAny := true })).regionUnmark h r
theorem commitView_regionFinish (s : State) (h : Half) (r : Nat) (c : RegCopy) :
    commitView h (s.regionFinish h r c) = commitView h (s.regionActivate h r c) := commitView_imgSettle ..

section
variable (s : State) (h : Half) (r : Nat) (c : RegCopy)
theorem State.rg_regionActivate (a : Nat) : (s.regionActivate h r c).rg a = s.rg a :=
  (State.rg_regionUnmark ..).trans (State.rg_modHalf ..)
theorem State.sh_regionActivate (a : Nat) : (s.regionActivate h r c).sh a = s.sh a :=
  (State.sh_regionUnmark ..).trans (State.sh_modHalf ..)
theorem State.regionMarked_regionActivate : (s.regionActivate h r c).regionMarked h r = false := by
  rw [State.regionMarked_eq_false, State.regionActivate, State.marked_regionUnmark, mem_filter_ne]
  exact fun hm => hm.2 rfl
theorem State.active_regionActivate : ((s.regionActivate h r c).half h).img.active
    = if c.remove then Map.del (s.half h).img.active r else Map.ins (s.half h).img.active r c := by
  rw [State.regionActivate, State.half_regionUnmark, State.modImg, State.half_modHalf]
theorem State.routes_regionActivate : ((s.regionActivate h r c).half h).route = (s.half h).route
    ∧ ((s.regionActivate h r c).half h).routeNew = (s.half h).routeNew := by
  rw [State.regionActivate, State.half_regionUnmark, State.modImg, State.half_modHalf]
  exact ⟨rfl, rfl⟩
theorem State.activeCopy_regionActivate :
    (s.regionActivate h r c).activeCopy h r = if c.remove then none else some c := by
  rw [State.activeCopy, State.active_regionActivate]
  split
  · rw [Map.find?_del]
    rfl
  · rw [Map.find?_ins]
    rfl
end

/-- A commit of a region, after which the half may take a role: what the half then shows of the region. -/
theorem regionActivated_of_commitView {s t : State} {h : Half} {r : Nat} {c : RegCopy}
    (hv : commitView h t = commitView h (s.regionActivate h r c)) :
    t.regionMarked h r = false ∧ t.activeCopy h r = (if c.remove then none else some c)
      ∧ (t.half h).route = (s.half h).route ∧ (t.half h).routeNew = (s.half h).routeNew := by
  have hl := loaderView_of_commitView hv
  have hk := kept_of_loaderView hl h
  have hactive : (t.half h).img.active = ((s.regionActivate h r c).half h).img.active := congrArg HalfKept.active hk
  refine ⟨?_, ?_, ?_, ?_⟩
  · rw [State.regionMarked_eq_false, marked_of_loaderView hl]
    exact State.regionMarked_eq_false.1 (s.regionMarked_regionActivate h r c)
  · rw [State.activeCopy, hactive]
    exact s.activeCopy_regionActivate h r c
  · exact (congrArg HalfKept.route hk).trans (s.routes_regionActivate h r c).1
  · exact (congrArg HalfKept.routeNew hk).trans (s.routes_regionActivate h r c).2

theorem execRegionCommit_runs (h : Half) (r : Nat) (s : State) (hr : s.runs h = true) :
    exec (.regionCommit h r) s = .next (((s.regionCommit h r).startRole h).joinCheck h) :=
  congrArg Host.Outcome.next (State.onHalf_runs s h _ hr)

section
variable {h : Half} {c : RegCopy} {s : State} {r : Nat} (hm : s.regionMarked h r = true) (hc : s.readyCopy h r = some c)
  (hp : s.pairOk h r = true)
include hm hc hp
theorem State.regionCommit_power (hr : r = 4509) (hu : (⟨14, some h, 0⟩ : CUnit) ∉ s.marked) :
    s.regionCommit h r = (s.regionWrite h r c).regionFinish h r c := by
  subst hr
  rw [State.regionCommit, hc, regionOf_power]
  exact if_neg (by simp [hm, hp, hu, regionUnits])
theorem State.regionCommit_route (hr : r = 4474) : s.regionCommit h r = (s.routeHalf h c).regionFinish h r c := by
  subst hr
  rw [State.regionCommit, hc, regionOf_route]
  exact if_neg (by simp [hm, hp, regionUnits])
end

/-- REGION_COMMIT of the POWER region. -/
theorem regionCommit_power_completes (h : Half) (c : RegCopy) (s : State) (hr : s.runs h = true)
    (hm : s.regionMarked h 4509 = true) (hc : s.readyCopy h 4509 = some c) (hp : s.pairOk h 4509 = true)
    (hu : (⟨14, some h, 0⟩ : CUnit) ∉ s.marked) :
    Gives (.regionCommit h 4509) s (fun t => t.regionMarked h 4509 = false
      ∧ t.activeCopy h 4509 = (if c.remove then none else some c)
      ∧ ∀ o d, o < 0x80000 → descOf (0x1400000 + o) = some d → grpOf (0x1400000 + o) d = some 14 →
          t.PowerTaken h o (if c.remove then resetWord s.deck.straps (powerAddr h o) else c.word s.deck.straps 4509 o)) := by
  have hex := execRegionCommit_runs h 4509 s hr
  rw [State.regionCommit_power hm hc hp rfl hu] at hex
  have hv : commitView h ((((s.regionWrite h 4509 c).regionFinish h 4509 c).startRole h).joinCheck h)
      = commitView h ((s.regionWrite h 4509 c).regionActivate h 4509 c) := by
    rw [commitView_joinCheck, commitView_startRole, commitView_regionFinish]
  obtain ⟨hmark, hact, -⟩ := regionActivated_of_commitView hv
  refine ⟨_, hex, hmark, hact, fun o d ho hd hg => ?_⟩
  obtain ⟨hrg, hsh⟩ := powerRegs_of_commitView hv ho
  rw [State.rg_regionActivate] at hrg
  rw [State.sh_regionActivate] at hsh
  have hdeck : (s.overrode h 4509 c ⟨14, some h, 0⟩).deck = s.deck :=
    deck_of_loaderView (ite_keeps (loaderView h) (fun _ => loaderView_imgReport ..) fun _ => rfl)
  have hwrite : s.regionWrite h 4509 c = (s.overrode h 4509 c ⟨14, some h, 0⟩).regionRegs h 4509 c := by
    rw [State.regionWrite, regionOf_power]
    rfl
  have htaken := State.powerTaken_regionRegs (h := h) ho c (s.overrode h 4509 c ⟨14, some h, 0⟩) hd hg
  rw [← hwrite, hdeck] at htaken
  rw [State.PowerTaken, hrg, hsh]
  exact htaken

/-- REGION_COMMIT of the half's ROUTE region. -/
theorem regionCommit_route_completes (h : Half) (c : RegCopy) (s : State) (hr : s.runs h = true)
    (hm : s.regionMarked h 4474 = true) (hc : s.readyCopy h 4474 = some c) (hp : s.pairOk h 4474 = true) :
    Gives (.regionCommit h 4474) s (fun t => t.regionMarked h 4474 = false
      ∧ t.activeCopy h 4474 = (if c.remove then none else some c)
      ∧ (t.half h).routeNew = (if c.remove then [] else c.words) ∧ (t.half h).route = (s.half h).route) := by
  have hex := execRegionCommit_runs h 4474 s hr
  rw [State.regionCommit_route hm hc hp rfl] at hex
  have hv : commitView h ((((s.routeHalf h c).regionFinish h 4474 c).startRole h).joinCheck h)
      = commitView h ((s.routeHalf h c).regionActivate h 4474 c) := by
    rw [commitView_joinCheck, commitView_startRole, commitView_regionFinish]
  obtain ⟨hmark, hact, hroute, hnew⟩ := regionActivated_of_commitView hv
  refine ⟨_, hex, hmark, hact, hnew.trans ?_, hroute.trans ?_⟩
  · rw [State.routeHalf, State.half_modHalf]
  · rw [State.routeHalf, State.half_modHalf]

end Sys2Proof.Machine
end

section
/-! A commit of group 5 that waits too long (R54, R87, R313, R315), and all commands of regions together. -/
namespace Sys2Proof.Machine

/-- What the Lid's registers past LID_STATUS, the field deck's Lid and the logbooks do not show, a change-log entry keeps. -/
theorem State.chgEntry_keeps {β : Type} (v : State → β) (s : State) (h : Half) (kind op8 data : Nat)
    (hw : ∀ t a w, Lid.chgSeq ≤ a → v (State.wr t a w) = v t) (hd : ∀ t f, v (State.modLid t f) = v t)
    (hh : ∀ t k f, v (State.modHalf t k f) = v t) : v (s.chgEntry h kind op8 data) = v s := by
  have report (t : State) (k : Half) (n c x y : Nat) (l : List Nat) : v (t.reportAt k n c x y l) = v t :=
    ite_keeps v (fun _ => rfl) fun _ => hh _ _ _
  refine (report ..).trans ((report ..).trans (Eq.trans (hw _ _ _ le_rfl) ((hd _ _).trans ?_)))
  exact foldl_keeps v _ _ s fun t w => hw _ _ _ (by simp only [Lid.chgLog, Lid.chgSeq]; omega)

/-- A commit of group 5 that ends without effect changes no shadow, no mark and no memory. -/
theorem State.lidCommitOut_keeps {β : Type} (v : State → β) (s : State) (h : Half) (res : Nat)
    (hw : ∀ t a w, v (State.wr t a w) = v t) (hd : ∀ t f, v (State.modLid t f) = v t)
    (hh : ∀ t k f, v (State.modHalf t k f) = v t) : v (s.lidCommitOut h res) = v s := by
  have raise (t : State) (k : Half) (src : Nat) : v (t.raise k src) = v t := by
    rcases t.raise_cases k src with e | e | e <;> rw [e]
    · exact hw _ _ _
    · exact hw _ _ _
  exact (State.chgEntry_keeps v _ h 9 0 0 (fun t a w _ => hw t a w) hd hh).trans
    ((raise _ .b 133).trans ((raise _ .a 133).trans (hw _ _ _)))
/-- COMMIT_RESULT shows its end. -/
theorem State.lidResult_lidCommitOut (s : State) (h : Half) (res : Nat) :
    (s.lidCommitOut h res).fd Lid.lidStatus 8 6 = res % 8 := by
  have hraise (t : State) (k : Half) : (t.raise k 133).rg Lid.lidStatus = t.rg Lid.lidStatus := by
    apply State.rg_raise_other <;> cases k <;> decide
  have hrg : (s.lidCommitOut h res).rg Lid.lidStatus = setBits (s.rg Lid.lidStatus) 8 6 res := by
    refine (State.chgEntry_keeps (State.rg · Lid.lidStatus) _ h 9 0 0 (fun t a w ha => ?_) (fun t f => ?_) fun t k f => ?_).trans
      ((hraise _ .b).trans ((hraise _ .a).trans ?_))
    · refine (State.rg_wr ..).trans (if_neg ?_)
      simp only [Lid.lidStatus, Lid.chgSeq] at *
      omega
    · exact State.rg_modDeck _ _ _ rfl
    · exact State.rg_modHalf ..
    · rw [State.rg_fw, if_pos rfl]
  rw [State.fd, hrg, bits_setBits _ _ _ _ (by decide) (by decide)]
  rfl

/-- The commit of group 5 abandoned: its shadows reload, and its end is shown. -/
def State.lidAbandon (s : State) : State := ((s.abandonUnit lidUnit).settle .a 5).lidCommitOut s.deck.lid.waitH 3
/-- What live values, the field deck's Lid and the halves do not show, it keeps of the reload. -/
theorem State.lidAbandon_keeps {β : Type} (v : State → β) (s : State) (hw : ∀ t a w, v (State.wr t a w) = v t)
    (hd : ∀ t f, v (State.modLid t f) = v t) (hh : ∀ t k f, v (State.modHalf t k f) = v t) :
    v s.lidAbandon = v (s.abandonUnit lidUnit) :=
  (State.lidCommitOut_keeps v _ _ 3 hw hd hh).trans (State.settle_keeps v _ .a 5
    (State.setPend_keeps v _ .a 5 false fun t _ => hw t _ _))

/-- ABANDONED_TRIPPED where no LID region is marked. -/
theorem execAbandonedTripped_due (s : State) (hm : lidUnit ∈ s.marked) (ht : s.deck.lid.waitT + 15000000000 ≤ s.deck.ticks)
    (hn : ∀ h, s.lidAbandon.regionMarked h 4476 = false) : exec .abandonedTripped s = .next s.lidAbandon := by
  have hex : exec .abandonedTripped s = .next
      (let f (s : State) (h : Half) : State :=
        if s.regionMarked h 4476 ∧ s.lidCanCommit = false
            ∧ Map.get (fun _ => 0) (s.half h).strobeT 17 + 60000000000 ≤ s.now h then s.lidRegionOut h 4476 5
        else s
      f (f (if s.marked.contains lidUnit ∧ s.deck.lid.waitT + 15000000000 ≤ s.deck.ticks then s.lidAbandon else s) .a) .b) := rfl
  rw [hex, if_pos ⟨by simpa using hm, ht⟩]
  simp [hn]

/-- ABANDONED_TRIPPED of a commit of group 5. -/
theorem abandonedTripped_completes (s : State) (hm : lidUnit ∈ s.marked)
    (ht : s.deck.lid.waitT + 15000000000 ≤ s.deck.ticks) (ha : s.regionMarked .a 4476 = false)
    (hb : s.regionMarked .b 4476 = false) :
    Gives .abandonedTripped s (fun t => lidUnit ∉ t.marked ∧ lidUnit ∉ t.dirty ∧ t.fd Lid.lidStatus 8 6 = 3 ∧ SameMem s t
      ∧ ∀ a, unitOf a = some lidUnit → t.sh a &&& ~~~directMask a = s.rg a &&& ~~~directMask a) := by
  have hreload := s.reloaded_abandonUnit lidUnit
  have hmarked : s.lidAbandon.marked = s.marked.filter (· != lidUnit) :=
    (State.lidAbandon_keeps State.marked s (fun _ _ _ => State.marked_wr ..) (fun _ _ => State.marked_modDeck ..)
      fun _ _ _ => State.marked_modHalf ..).trans (s.marked_abandonUnit lidUnit)
  have hdirty : s.lidAbandon.dirty = (s.abandonUnit lidUnit).dirty :=
    State.lidAbandon_keeps State.dirty s (fun _ _ _ => State.dirty_wr ..) (fun _ _ => State.dirty_modDeck ..)
      fun _ _ _ => State.dirty_modHalf ..
  have hunmarked (h : Half) : s.lidAbandon.regionMarked h 4476 = false := by
    rw [State.regionMarked_eq_false, hmarked, mem_filter_ne]
    have : s.regionMarked h 4476 = false := by cases h <;> assumption
    exact fun hin => State.regionMarked_eq_false.1 this hin.1
  refine ⟨_, execAbandonedTripped_due s hm ht hunmarked, ?_, ?_, State.lidResult_lidCommitOut .., fun a => ?_, fun a hu => ?_⟩
  · rw [hmarked, mem_filter_ne]
    exact fun hin => hin.2 rfl
  · rw [hdirty, hreload.dirty]
    exact fun hin => hin.2 rfl
  · rw [State.lidAbandon_keeps (State.byte · a) s (fun _ _ _ => State.byte_wr ..) (fun _ _ => State.byte_modDeck ..)
      fun _ _ _ => State.byte_modHalf .., State.byte_abandonUnit]
  · rw [State.lidAbandon_keeps (State.sh · a) s (fun _ _ _ => State.sh_wr ..) (fun _ _ => State.sh_modDeck _ _ _ rfl)
      fun _ _ _ => State.sh_modHalf ..]
    exact hreload.loaded a lidUnit hu rfl

/-- Settles O53: marks that pair, differ, come early or time out, and the three commits. -/
theorem regionCommandsComplete : Obligations.RegionCommandsComplete :=
  ⟨regionPairMark_pairs, regionPairMark_differs, regionPairMark_early, pairTimeout_drops, regionCommit_power_completes,
    regionCommit_route_completes, abandonedTripped_completes⟩

end Sys2Proof.Machine
end

section
/-! SUPPORT. An image read back as the bytes it was written as: fields, sections and the words of a copy (R76, R77, R80, R91). -/
namespace Sys2Proof.Machine

/-! ### Fields -/

theorem drop_add_of_drop {bs x y : List Byte} {p n : Nat} (h : bs.drop p = x ++ y) (hn : x.length = n) : bs.drop (p + n) = y := by
  rw [← List.drop_drop, h, List.drop_left' hn]
theorem u16At_of_drop {bs rest : List Byte} {o v : Nat} (h : bs.drop o = leBytes 2 v ++ rest) : u16At bs o = v % 65536 := by
  rw [u16At, h, List.take_left' (length_leBytes 2 v), leNat_leBytes]
  rfl
theorem u32At_of_drop {bs rest : List Byte} {o v : Nat} (h : bs.drop o = leBytes 4 v ++ rest) : u32At bs o = v % 2 ^ 32 := by
  rw [u32At, h, List.take_left' (length_leBytes 4 v), leNat_leBytes]
  rfl
theorem u32At_of_drop_word {bs rest : List Byte} {o : Nat} {w : Word} (h : bs.drop o = leBytes 4 w.toNat ++ rest) :
    u32At bs o = w.toNat := by
  rw [u32At_of_drop h, Nat.mod_eq_of_lt w.isLt]
theorem leBytes_four (v : Nat) : leBytes 4 v = leBytes 2 v ++ leBytes 2 (v / 65536) := by
  simp [leBytes, Nat.div_div_eq_div_mul]

/-! ### Sections (R76) -/

/-- The CRC of a section. -/
def sectionCrc (ty : Nat) (body : List Byte) : Word := crc32 (leBytes 2 ty ++ leBytes 2 0 ++ leBytes 4 body.length ++ body)
theorem length_sectionBytes (ty : Nat) (body : List Byte) : (sectionBytes ty body).length = 12 + body.length := by
  simp [sectionBytes, length_leBytes]
  omega

section
variable {bs rest body : List Byte} {p ty : Nat} (h : bs.drop p = sectionBytes ty body ++ rest)
include h
theorem u16At_section_type : u16At bs p = ty % 65536 := by
  simp only [sectionBytes, List.append_assoc] at h
  exact u16At_of_drop h
theorem drop_section_body : bs.drop (p + 8) = body ++ (leBytes 4 (sectionCrc ty body).toNat ++ rest) := by
  refine drop_add_of_drop (x := leBytes 2 ty ++ leBytes 2 0 ++ leBytes 4 body.length) (h.trans ?_) (by simp [length_leBytes])
  simp only [sectionBytes, sectionCrc, List.append_assoc]
theorem u32At_section_length (hl : body.length < 2 ^ 32) : u32At bs (p + 4) = body.length := by
  have hd : bs.drop (p + 4) = leBytes 4 body.length ++ (body ++ (leBytes 4 (sectionCrc ty body).toNat ++ rest)) := by
    refine drop_add_of_drop (x := leBytes 2 ty ++ leBytes 2 0) (h.trans ?_) (by simp [length_leBytes])
    simp only [sectionBytes, sectionCrc, List.append_assoc]
  rw [u32At_of_drop hd, Nat.mod_eq_of_lt hl]
theorem u32At_section_crc {n : Nat} (hn : body.length = n) : u32At bs (p + 8 + n) = (sectionCrc ty body).toNat :=
  u32At_of_drop_word (drop_add_of_drop (drop_section_body h) hn)
theorem crc32_section {n : Nat} (hn : body.length = n) : crc32 ((bs.drop p).take (8 + n)) = sectionCrc ty body := by
  have hs : bs.drop p = (leBytes 2 ty ++ leBytes 2 0 ++ leBytes 4 body.length ++ body)
      ++ (leBytes 4 (sectionCrc ty body).toNat ++ rest) := by
    rw [h]
    simp only [sectionBytes, sectionCrc, List.append_assoc]
  rw [hs, List.take_left' (by simp [length_leBytes, hn]; omega), sectionCrc]
theorem drop_section {n : Nat} (hn : body.length = n) : bs.drop (p + 12 + n) = rest := by
  rw [Nat.add_assoc]
  exact drop_add_of_drop h ((length_sectionBytes ty body).trans (by rw [hn]))
end

/-! ### The parse of one section and END (R76-R80) -/

theorem parseSections_end {bs rest : List Byte} {p total n : Nat} {seen : List Nat}
    (h : bs.drop p = sectionBytes 0xFFFF [] ++ rest) (ht : total = p + 12) :
    parseSections bs total (n + 2) p seen false = .ok [⟨0xFFFF, p, 0, 0, 0, [], (sectionCrc 0xFFFF []).toNat⟩] := by
  have hty : u16At bs p = 0xFFFF := u16At_section_type h
  have hlen : u32At bs (p + 4) = 0 := u32At_section_length h (by decide)
  have hcrc : crc32 ((bs.drop p).take 8) = sectionCrc 0xFFFF [] := crc32_section h (n := 0) rfl
  have hcrc' : u32At bs (p + 8) = (sectionCrc 0xFFFF []).toNat := u32At_section_crc h (n := 0) rfl
  simp [parseSections, ht, hty, hlen, hcrc, hcrc']

/-- What the parser finds in one region section that END follows. -/
theorem parseSections_single {bs body rest : List Byte} {ty p len total n flags cnt r idx : Nat} {runs : List ImgRun}
    (h : bs.drop p = sectionBytes ty body ++ (sectionBytes 0xFFFF [] ++ rest)) (hl : body.length = len)
    (ht : total = p + 12 + len + 12) (hty : ty < 0xFFFF) (h8 : 8 ≤ len) (h4 : len % 4 = 0) (hlt : len < 2 ^ 32)
    (hidx : u16At bs (p + 8) = idx) (hflags : u16At bs (p + 8 + 2) = flags) (hcnt : u16At bs (p + 8 + 4) = cnt)
    (hkeep : flags % 2 = 0) (hruns : parseRuns bs cnt (p + 8 + 8) (p + 8 + len) = .ok runs) (hno : regionNo ty idx = some r)
    (hover : overlapping [] runs = none)
    (hin : runs.find? (fun q => (List.range q.cnt).any (fun i => !inRanges ty idx (q.off + 4 * i))) = none) :
    parseSections bs total (n + 3) p [] false = .ok [⟨ty, p, len, idx, flags, runs, (sectionCrc ty body).toNat⟩,
      ⟨0xFFFF, p + 12 + len, 0, 0, 0, [], (sectionCrc 0xFFFF []).toNat⟩] := by
  have htype : u16At bs p = ty := (u16At_section_type h).trans (Nat.mod_eq_of_lt (by omega))
  have hlen : u32At bs (p + 4) = len := (u32At_section_length h (hl ▸ hlt)).trans hl
  have hcrc := crc32_section h hl
  have hcrc' := u32At_section_crc h hl
  have hend := parseSections_end (seen := [r]) (n := n) (drop_section h hl) ht
  rw [parseSections, if_neg (by omega), if_neg (by omega)]
  simp only [htype, hlen, hcrc, hcrc', hidx, hflags, hcnt, hruns, hno, hover, hin, hend]
  rw [if_neg (by omega), if_neg (not_not.2 rfl), if_neg (by simp [h4]), if_neg (by omega), if_neg (by omega), if_neg (by omega)]
  rfl

theorem parseImage_ok {bs : List Byte} {len hw fw : Nat} {mid act : Option Nat} {l : List ImgSect}
    (hhead : checkHeader bs len hw fw mid act = none) (hsec : parseSections bs len (len / 12 + 1) 0x80 [] false = .ok l)
    (hcnt : l.length = u16At bs 0x2A) : parseImage bs len hw fw mid act = .ok l := by
  rw [parseImage, hhead, hsec]
  exact if_neg (not_not.2 hcnt)
/-- The parser takes one run and goes on behind it. -/
theorem parseRuns_cons {bs : List Byte} {n p e c o : Nat} {l : List ImgRun} (hc : u16At bs (p + 4) = c) (ho : u32At bs p = o)
    (hle : p + 8 + 4 * c ≤ e) (hpos : 0 < c) (hmax : c ≤ 16384) (hal : o % 4 = 0)
    (hl : parseRuns bs n (p + 8 + 4 * c) e = .ok l) : parseRuns bs (n + 1) p e = .ok (⟨o, c, p + 8⟩ :: l) := by
  rw [parseRuns, hc, ho, hl]
  exact if_neg (by omega)

/-! ### Words of a body (R80) -/

/-- A body of `n` words. -/
def wordBytes (w : Nat → Nat) (n : Nat) : List Byte := (List.range n).flatMap (fun i => leBytes 4 (w i))
theorem length_wordBytes (w : Nat → Nat) (n : Nat) : (wordBytes w n).length = 4 * n := by
  simp [wordBytes, length_leBytes, List.length_flatMap, Nat.mul_comm]
theorem drop_wordBytes {bs rest : List Byte} {p n i : Nat} {w : Nat → Nat} (h : bs.drop p = wordBytes w n ++ rest) (hi : i < n) :
    ∃ r, bs.drop (p + 4 * i) = leBytes 4 (w i) ++ r := by
  obtain ⟨m, rfl⟩ := Nat.exists_eq_add_of_lt hi
  refine ⟨(List.range m).flatMap (fun j => leBytes 4 (w (i + 1 + j))) ++ rest,
    drop_add_of_drop (x := wordBytes w i) (h.trans ?_) (length_wordBytes w i)⟩
  rw [wordBytes, show i + m + 1 = i + (1 + m) by omega, List.range_add, List.range_add]
  simp [wordBytes, List.flatMap_map, Nat.add_assoc, Function.comp_def]
section
variable {bs rest : List Byte} {p n i : Nat} {w : Nat → Nat} (h : bs.drop p = wordBytes w n ++ rest) (hi : i < n)
include h hi
theorem u32At_wordBytes : u32At bs (p + 4 * i) = w i % 2 ^ 32 := by
  obtain ⟨r, hd⟩ := drop_wordBytes h hi
  exact u32At_of_drop hd
theorem u16At_wordBytes : u16At bs (p + 4 * i) = w i % 65536 := by
  obtain ⟨r, hd⟩ := drop_wordBytes h hi
  rw [leBytes_four, List.append_assoc] at hd
  exact u16At_of_drop hd
theorem u16At_wordBytes_high : u16At bs (p + 4 * i + 2) = w i / 65536 % 65536 := by
  obtain ⟨r, hd⟩ := drop_wordBytes h hi
  rw [leBytes_four, List.append_assoc] at hd
  exact u16At_of_drop (drop_add_of_drop hd (length_leBytes 2 _))
end

end Sys2Proof.Machine
end

section
/-! SUPPORT. The image that defines loop 0 alone, every word of it at reset, and its structural check (R74-R83, R91). -/
namespace Sys2Proof.Machine

/-! ### The image -/

/-- A region of loop 0 that lists no word. -/
def loopCopy : RegCopy := ⟨false, [], 1, 0, 0, 0⟩
/-- The image: loop 0 is not protected and at home in Half A. -/
def loopImage : StoredImg := ⟨1, [(2, loopCopy)]⟩
/-- Its bytes. -/
def loopBytes : List Byte := imageBytes 0 loopImage
/-- Word `i` of the body of its LOOP section. -/
def loopWord (i : Nat) : Word := (copyWord 0 2 loopCopy (4 * i)).getD 0
/-- The body of its LOOP section. -/
def loopBody : List Byte := wordBytes (fun i => (loopWord i).toNat) 5210
/-- The header up to HDR_CRC, and the header. -/
def loopFields : List Byte :=
  leBytes 4 0x49535947 ++ leBytes 2 1 ++ leBytes 2 1 ++ leBytes 8 1 ++ leBytes 24 0 ++ leBytes 2 0xFFFF ++ leBytes 2 2
    ++ leBytes 4 20992 ++ leBytes 76 0
def loopHeader : List Byte := loopFields ++ leBytes 4 (crc32 loopFields).toNat
/-- The run of the tables, and the run behind it. -/
def tableRun : ImgRun := ⟨0x20000, 4096, 4520⟩
def placeRun : ImgRun := ⟨0x30000, 16, 20912⟩
/-- The runs of the section. -/
def loopRuns : List ImgRun := [⟨0, 64, 152⟩, ⟨0x10000, 1024, 416⟩, tableRun, placeRun]
/-- The LOOP section and END as the check finds them. -/
def loopSect : ImgSect := ⟨0x10, 128, 20840, 0, 0, loopRuns, (sectionCrc 0x10 loopBody).toNat⟩
def endSect : ImgSect := ⟨0xFFFF, 20980, 0, 0, 0, [], (sectionCrc 0xFFFF []).toNat⟩

theorem length_loopBody : loopBody.length = 20840 := length_wordBytes ..
theorem copyBody_loopCopy : copyBody 0 2 loopCopy = loopBody := by
  rw [copyBody, show copyLen 2 loopCopy / 4 = 5210 by decide]
  rfl
theorem loopBytes_eq : loopBytes = loopHeader ++ (sectionBytes 0x10 loopBody ++ sectionBytes 0xFFFF []) := by
  have hr : regionOf 2 = (0x10, 0) := by decide
  have hs : (loopImage.regions.map (fun e => sectionBytes (regionOf e.1).1 (copyBody 0 e.1 e.2))).flatten
      = sectionBytes 0x10 loopBody := by
    simp [loopImage, hr, copyBody_loopCopy]
  have hl : 128 + (sectionBytes 0x10 loopBody ++ sectionBytes 0xFFFF []).length = 20992 := by
    simp [length_sectionBytes, length_loopBody]
  rw [loopBytes, imageBytes, hs]
  simp only [hl, loopHeader, loopFields, List.append_assoc]
  simp only [loopImage, List.length_cons, List.length_nil]
theorem length_loopHeader : loopHeader.length = 128 := by
  simp [loopHeader, loopFields, length_leBytes]
theorem length_loopBytes : loopBytes.length = 20992 := by
  simp [loopBytes_eq, length_loopHeader, length_sectionBytes, length_loopBody]
theorem drop_loopBytes : loopBytes.drop 128 = sectionBytes 0x10 loopBody ++ (sectionBytes 0xFFFF [] ++ []) := by
  rw [loopBytes_eq, List.drop_left' length_loopHeader, List.append_nil]

/-! ### Its words -/

section
variable {i : Nat} (hi : i < 5210)
include hi
theorem u32At_loopBytes : u32At loopBytes (136 + 4 * i) = (loopWord i).toNat := by
  rw [u32At_wordBytes (drop_section_body drop_loopBytes) hi, Nat.mod_eq_of_lt (loopWord i).isLt]
theorem u16At_loopBytes : u16At loopBytes (136 + 4 * i) = (loopWord i).toNat % 65536 :=
  u16At_wordBytes (drop_section_body drop_loopBytes) hi
end

/-! ### The structural check -/

theorem crc32_loopBytes : (crc32 (loopBytes.take 0x7C)).toNat = u32At loopBytes 0x7C := by
  have hfields : loopFields.length = 0x7C := by simp [loopFields, length_leBytes]
  have hfirst : loopBytes = loopFields ++ (leBytes 4 (crc32 loopFields).toNat
      ++ (sectionBytes 0x10 loopBody ++ sectionBytes 0xFFFF [])) := by
    rw [loopBytes_eq, loopHeader, List.append_assoc]
  have hdrop : loopBytes.drop 0x7C = leBytes 4 (crc32 loopFields).toNat
      ++ (sectionBytes 0x10 loopBody ++ sectionBytes 0xFFFF []) := by
    rw [hfirst, List.drop_left' hfields]
  rw [u32At_of_drop_word hdrop, hfirst, List.take_left' hfields]
theorem imageId_loopBytes : leNat ((loopBytes.drop 8).take 8) = 1 := by rw [loopBytes_eq]; decide +kernel
theorem imageKind_loopBytes : u16At loopBytes 6 = 1 := by rw [loopBytes_eq]; decide +kernel
theorem checkHeader_loopBytes (hw fw : Nat) (mid : Option Nat) : checkHeader loopBytes 20992 hw fw mid none = none := by
  have hmagic : u32At loopBytes 0 = 0x49535947 := by rw [loopBytes_eq]; decide +kernel
  have hversion : u16At loopBytes 4 = 1 := by rw [loopBytes_eq]; decide +kernel
  have hlen : u32At loopBytes 0x2C = 20992 := by rw [loopBytes_eq]; decide +kernel
  have hhw : u16At loopBytes 0x24 = 0 := by rw [loopBytes_eq]; decide +kernel
  have hfw : u16At loopBytes 0x26 = 0 := by rw [loopBytes_eq]; decide +kernel
  have hmod : u16At loopBytes 0x28 = 0xFFFF := by rw [loopBytes_eq]; decide +kernel
  simp [checkHeader, hmagic, crc32_loopBytes, hversion, imageKind_loopBytes, hlen, imageId_loopBytes, hhw, hfw, hmod]

theorem parseRuns_loopBytes : parseRuns loopBytes 4 144 20976 = .ok loopRuns := by
  have run (i o c : Nat) (hi : i + 1 < 5210) (h : loopWord i = BitVec.ofNat 32 o ∧ loopWord (i + 1) = BitVec.ofNat 32 c)
      (ho : o < 2 ^ 32) (hc : c < 65536) :
      u32At loopBytes (136 + 4 * i) = o ∧ u16At loopBytes (136 + 4 * i + 4) = c := by
    rw [u32At_loopBytes (by omega), show 136 + 4 * i + 4 = 136 + 4 * (i + 1) by omega, u16At_loopBytes hi, h.1, h.2]
    simp only [BitVec.toNat_ofNat]
    omega
  obtain ⟨ho0, hc0⟩ := run 2 0 64 (by decide) (by decide +kernel) (by decide) (by decide)
  obtain ⟨ho1, hc1⟩ := run 68 0x10000 1024 (by decide) (by decide +kernel) (by decide) (by decide)
  obtain ⟨ho2, hc2⟩ := run 1094 0x20000 4096 (by decide) (by decide +kernel) (by decide) (by decide)
  obtain ⟨ho3, hc3⟩ := run 5192 0x30000 16 (by decide) (by decide +kernel) (by decide) (by decide)
  refine parseRuns_cons hc0 ho0 (by decide) (by decide) (by decide) rfl ?_
  refine parseRuns_cons hc1 ho1 (by decide) (by decide) (by decide) rfl ?_
  refine parseRuns_cons hc2 ho2 (by decide) (by decide) (by decide) rfl ?_
  refine parseRuns_cons hc3 ho3 (by decide) (by decide) (by decide) rfl ?_
  exact if_pos rfl

theorem runs_in_ranges : loopRuns.find? (fun q => (List.range q.cnt).any (fun i => !inRanges 0x10 0 (q.off + 4 * i))) = none := by
  have hin (q : ImgRun) (hq : (q.off, 4 * q.cnt) ∈ regionRanges 0x10 0) (i : Nat) (hi : i < q.cnt) :
      inRanges 0x10 0 (q.off + 4 * i) = true :=
    List.any_eq_true.2 ⟨_, hq, by simp; omega⟩
  simp only [List.find?_eq_none, List.any_eq_true, List.mem_range, Bool.not_eq_true', not_exists, not_and, Bool.not_eq_false]
  intro q hq
  refine hin q ?_
  simp only [loopRuns, List.mem_cons, List.not_mem_nil, or_false] at hq
  rcases hq with rfl | rfl | rfl | rfl <;> decide

theorem parseImage_loopBytes (hw fw : Nat) (mid : Option Nat) :
    parseImage loopBytes 20992 hw fw mid none = .ok [loopSect, endSect] := by
  have hidx : u16At loopBytes (128 + 8) = 0 := (u16At_loopBytes (i := 0) (by decide)).trans (by decide +kernel)
  have hflags : u16At loopBytes (128 + 8 + 2) = 0 :=
    (u16At_wordBytes_high (drop_section_body drop_loopBytes) (i := 0) (by decide)).trans (by decide +kernel)
  have hcnt : u16At loopBytes (128 + 8 + 4) = 4 := (u16At_loopBytes (i := 1) (by decide)).trans (by decide +kernel)
  have hsects : 2 = u16At loopBytes 0x2A := by rw [loopBytes_eq]; decide +kernel
  have hno : regionNo 0x10 0 = some 2 := by decide
  exact parseImage_ok (checkHeader_loopBytes hw fw mid)
    (parseSections_single (n := 1747) drop_loopBytes length_loopBody (by decide) (by decide) (by decide) (by decide) (by decide)
      hidx hflags hcnt rfl parseRuns_loopBytes hno (by decide) runs_in_ranges) hsects

end Sys2Proof.Machine
end

section
/-! SUPPORT. The ready copy that the check of this image builds: every word at reset (R81-R85). -/
namespace Sys2Proof.Machine

/-- The words of a run: region-space offset, raw offset, value. -/
def runWords (r : ImgRun) : List (Nat × Nat × Word) :=
  (List.range r.cnt).map (fun i => (r.off + 4 * i, r.pos + 4 * i, loopWord ((r.pos - 136) / 4 + i)))
def loopWords : List (Nat × Nat × Word) := loopRuns.flatMap runWords

theorem sectWords_loopSect : sectWords loopBytes loopSect = loopWords := by
  have hrun (r : ImgRun) (h4 : (r.pos - 136) % 4 = 0) (hlo : 136 ≤ r.pos) (hhi : (r.pos - 136) / 4 + r.cnt ≤ 5210) :
      (List.range r.cnt).map (fun i => (r.off + 4 * i, r.pos + 4 * i, BitVec.ofNat 32 (u32At loopBytes (r.pos + 4 * i))))
        = runWords r := by
    refine List.map_congr_left fun i hi => ?_
    have hi := List.mem_range.1 hi
    rw [show r.pos + 4 * i = 136 + 4 * ((r.pos - 136) / 4 + i) by omega, u32At_loopBytes (by omega), BitVec.ofNat_toNat,
      BitVec.setWidth_eq]
  refine List.flatMap_congr fun r hr => hrun r ?_ ?_ ?_ <;>
  · simp only [loopSect, loopRuns, List.mem_cons, List.not_mem_nil, or_false] at hr
    rcases hr with rfl | rfl | rfl | rfl <;> decide

/-! ### Words at reset leave the ready copy empty -/

/-- The reports of one word of the section. -/
def wordReports (e : Nat × Nat × Word) : List ImgRep := (putWord 0 2 0x10 0 ([], []) e).2
theorem putWord_reps (m : Map Word) (reps : List ImgRep) (e : Nat × Nat × Word) :
    putWord 0 2 0x10 0 (m, reps) e = ((putWord 0 2 0x10 0 (m, []) e).1, reps ++ (putWord 0 2 0x10 0 (m, []) e).2) := by
  simp only [putWord]
  split <;> rfl
theorem foldl_putWord_reset (l : List (Nat × Nat × Word)) (reps : List ImgRep)
    (hl : ∀ e ∈ l, (putWord 0 2 0x10 0 ([], []) e).1 = []) :
    l.foldl (putWord 0 2 0x10 0) ([], reps) = ([], reps ++ l.flatMap wordReports) := by
  induction l generalizing reps with
  | nil => simp
  | cons e l ih =>
    rw [List.foldl_cons, putWord_reps, hl e List.mem_cons_self, ih _ fun x hx => hl x (List.mem_cons_of_mem _ hx)]
    simp [wordReports]

theorem loopDefault_table {off : Nat} (hlo : 0x20000 ≤ off) (hhi : off < 0x24000) : loopDefault off = 0 := by
  rw [loopDefault, if_neg (by omega), if_neg (by omega), if_neg (by omega), if_neg (by omega), if_neg (by omega),
    if_neg (by omega), if_neg (by omega)]
theorem runsWord_past (val : Nat → Word) {o n off : Nat} (l : List (Nat × Nat)) (h : 8 + 4 * n ≤ off) :
    runsWord val ((o, n) :: l) off = runsWord val l (off - (8 + 4 * n)) := by
  rw [runsWord, if_neg (by omega), if_neg (by omega), if_neg (by omega)]
theorem runsWord_in (val : Nat → Word) {o n off : Nat} (l : List (Nat × Nat)) (hlo : 8 ≤ off) (hhi : off < 8 + 4 * n) :
    runsWord val ((o, n) :: l) off = some (val (o + off - 8)) := by
  rw [runsWord, if_neg (by omega), if_neg (by omega), if_pos hhi]
theorem regionReset_loop (straps off : Nat) : regionReset straps 2 off = loopDefault off := by
  rw [regionReset, show regionOf 2 = (0x10, 0) by decide]
  rfl
theorem loopWord_table {i : Nat} (hi : i < 4096) : loopWord ((tableRun.pos - 136) / 4 + i) = 0 := by
  have hc : copyRuns 2 loopCopy = [(0, 64), (0x10000, 1024), (0x20000, 4096), (0x30000, 16)] := by decide
  have hw (off : Nat) : loopCopy.word 0 2 off = loopDefault off := regionReset_loop 0 off
  rw [show (tableRun.pos - 136) / 4 = 1096 by decide, loopWord, copyWord, if_neg (by omega), if_neg (by omega), hc,
    runsWord_past _ _ (by omega), runsWord_past _ _ (by omega), runsWord_in _ _ (by omega) (by omega), Option.getD_some, hw,
    loopDefault_table (by omega) (by omega)]
theorem putWord_table {off : Nat} (hlo : 0x20000 ≤ off) (hhi : off < 0x24000) (p : Nat) :
    putWord 0 2 0x10 0 ([], []) (off, p, 0) = ([], []) := by
  have hmask : imageMask 0x10 0 off = some 0xFFFFFFFF := by
    rw [imageMask, if_pos rfl, loopMask, if_neg (by omega), if_neg (by omega), if_pos ⟨hlo, hhi⟩]
  have hlimits : limits 0x10 0 off = wideWord := by
    rw [show limits 0x10 0 off = loopLimits off from rfl, loopLimits, if_neg (by omega), if_neg (by omega), if_neg (by omega),
      if_neg (by omega), if_neg (by omega), if_neg (by omega), if_neg (by omega), if_pos ⟨hlo, hhi⟩]
  have hdep (w : Word) (other : Nat → Word) : depLimits 0x10 0 off w other = [] := by
    rw [depLimits, if_neg (by omega), if_neg (by omega), if_neg (by omega), if_neg (by omega)]
  have hword (other : Nat → Word) : checkWord 0x10 0 off 0xFFFFFFFF (regionReset 0 2 off) 0 other = (0, []) := by
    rw [checkWord, hlimits, hdep, regionReset_loop, loopDefault_table hlo hhi, depMask, if_neg (by omega)]
    decide
  rw [putWord, hmask]
  simp only [hword]
  simp [Map.set, Map.del, regionReset_loop, loopDefault_table hlo hhi]

/-! ### The ready copy -/

/-- The words of the runs but the table's. -/
def listedWords : List (Nat × Nat × Word) := loopRuns.flatMap (fun r => if r = tableRun then [] else runWords r)
/-- The reports of the check: one for each reserved word. -/
def loopReps : List ImgRep := listedWords.flatMap wordReports
/-- The region under check. -/
def loopCarried : Carried := ⟨2, 0x10, 128, 0, loopRuns, ⟨false, [], 1, (sectionCrc 0x10 loopBody).toNat, 0, 128⟩, false,
  loopWords.map (fun e => (e.1, e.2.2))⟩

theorem putWord_listed : listedWords.all (fun e => (putWord 0 2 0x10 0 ([], []) e).1.isEmpty
    && (wordReports e).all (fun p => decide (p.cause = 7) && decide (p.region = 2))) = true := by decide +kernel
theorem length_loopReps : loopReps.length = 210 := by decide +kernel

theorem loopReps_cause {p : ImgRep} (hp : p ∈ loopReps) : p.cause = 7 ∧ p.region = 2 := by
  obtain ⟨e, he, hp⟩ := List.mem_flatMap.1 hp
  have h := List.all_eq_true.1 (Bool.and_eq_true_iff.1 (List.all_eq_true.1 putWord_listed e he)).2 p hp
  simpa using h
theorem putWord_tableRun {e : Nat × Nat × Word} (he : e ∈ runWords tableRun) : putWord 0 2 0x10 0 ([], []) e = ([], []) := by
  obtain ⟨i, hi, rfl⟩ := List.mem_map.1 he
  have hi : i < 4096 := List.mem_range.1 hi
  rw [loopWord_table hi]
  exact putWord_table (by simp only [tableRun]; omega) (by simp only [tableRun]; omega) _
theorem putWord_loopWords {e : Nat × Nat × Word} (he : e ∈ loopWords) : (putWord 0 2 0x10 0 ([], []) e).1 = [] := by
  obtain ⟨r, hr, he⟩ := List.mem_flatMap.1 he
  by_cases h : r = tableRun
  · rw [putWord_tableRun (h ▸ he)]
  · have hl : e ∈ listedWords := List.mem_flatMap.2 ⟨r, hr, by rwa [if_neg h]⟩
    exact List.isEmpty_iff.1 (Bool.and_eq_true_iff.1 (List.all_eq_true.1 putWord_listed e hl)).1
theorem reports_loopWords : loopWords.flatMap wordReports = loopReps := by
  rw [loopReps, loopWords, listedWords, List.flatMap_assoc, List.flatMap_assoc]
  refine List.flatMap_congr fun r _ => ?_
  split
  · rename_i h
    rw [h, List.flatMap_nil, List.flatMap_eq_nil_iff]
    exact fun e he => congrArg Prod.snd (putWord_tableRun he)
  · rfl

theorem buildCopy_eq {straps id r : Nat} {act : Map RegCopy} {bs : List Byte} {x : ImgSect} {ws : List (Nat × Nat × Word)}
    {m : Map Word} {reps : List ImgRep} (hno : (regionNo x.ty x.idx).getD 0 = r) (hmerge : x.flags.testBit 2 = false)
    (hws : sectWords bs x = ws) (hdep : ∀ e ∈ ws, dependent x.ty e.1 = false)
    (hfold : ws.foldl (putWord straps r x.ty x.idx) ([], []) = (m, reps))
    (hclamp : reps.any (fun p => decide (p.cause ≤ 6)) = false) :
    buildCopy straps id act bs x = (⟨r, x.ty, x.pos, x.flags, x.runs, ⟨x.flags.testBit 0, m, id, x.crc, 0, x.pos⟩, false,
      ws.map (fun e => (e.1, e.2.2))⟩, reps) := by
  have hfirst : ws.filter (fun e => !dependent x.ty e.1) = ws := List.filter_eq_self.2 fun e he => by simp [hdep e he]
  have hlater : ws.filter (fun e => dependent x.ty e.1) = [] := List.filter_eq_nil_iff.2 fun e he => by simp [hdep e he]
  simp only [buildCopy, hno, hmerge, hws, hfirst, hlater, Bool.false_eq_true, if_false, hfold, hclamp, List.foldl_nil]

theorem buildCopy_loopSect (act : Map RegCopy) : buildCopy 0 1 act loopBytes loopSect = (loopCarried, loopReps) := by
  have hfold := foldl_putWord_reset loopWords [] fun e he => putWord_loopWords he
  rw [reports_loopWords, List.nil_append] at hfold
  have hno : (regionNo loopSect.ty loopSect.idx).getD 0 = 2 := by decide
  have hclamp : loopReps.any (fun p => decide (p.cause ≤ 6)) = false :=
    List.any_eq_false.2 fun p hp => by simp [(loopReps_cause hp).1]
  exact buildCopy_eq hno rfl sectWords_loopSect (fun e _ => rfl) hfold hclamp

end Sys2Proof.Machine
end

section
/-! SUPPORT. Reports of a check that a full Tray drops (R90), and the parts of a check (R83, R84). -/
namespace Sys2Proof.Machine

/-! ### Listing keys over and over -/

theorem Map.ins_ins_same {α : Type} (m : Map α) (k : Nat) (v w : α) : Map.ins (Map.ins m k v) k w = Map.ins m k w := by
  induction m with
  | nil => simp [Map.ins]
  | cons e m ih =>
    obtain ⟨i, x⟩ := e
    by_cases h1 : k < i
    · simp [Map.ins, h1]
    · by_cases h2 : i = k <;> simp [Map.ins, h1, h2, ih]
theorem Map.ins_comm {α : Type} (m : Map α) {k j : Nat} (hkj : k < j) (v w : α) :
    Map.ins (Map.ins m k v) j w = Map.ins (Map.ins m j w) k v := by
  have hjk : ¬ j < k := by omega
  induction m with
  | nil => simp [Map.ins, hkj, hjk, hkj.ne]
  | cons e m ih =>
    obtain ⟨i, x⟩ := e
    rcases Nat.lt_trichotomy k i with h1 | h1 | h1
    · rcases Nat.lt_trichotomy j i with h2 | h2 | h2
      · simp [Map.ins, h1, h2, hkj, hjk, hkj.ne]
      · subst h2
        simp [Map.ins, hkj, hjk, hkj.ne]
      · simp [Map.ins, h1, h2.not_gt, h2.ne, hjk, hkj.ne]
    · subst h1
      simp [Map.ins, hjk, hkj.ne]
    · simp [Map.ins, h1.not_gt, h1.ne, (show ¬ j < i by omega), (show ¬ i = j by omega), ih]

theorem ofNat_ne_zero {v : Nat} (hv : 0 < v ∧ v < 2 ^ 32) : BitVec.ofNat 32 v ≠ 0 := by
  intro h
  have := congrArg BitVec.toNat h
  simp at this
  omega
theorem State.wn_wn_same (s : State) {k v w : Nat} (hk : resetWord s.deck.straps k = 0) (hv : 0 < v ∧ v < 2 ^ 32)
    (hw : 0 < w ∧ w < 2 ^ 32) : (s.wn k v).wn k w = s.wn k w := by
  simp only [State.wn, State.wr, Map.set, hk, if_neg (ofNat_ne_zero hv), if_neg (ofNat_ne_zero hw), Map.ins_ins_same]
theorem State.wn_wn_comm (s : State) {k j v w : Nat} (hkj : k < j) (hk : resetWord s.deck.straps k = 0)
    (hj : resetWord s.deck.straps j = 0) (hv : 0 < v ∧ v < 2 ^ 32) (hw : 0 < w ∧ w < 2 ^ 32) :
    (s.wn k v).wn j w = (s.wn j w).wn k v := by
  simp only [State.wn, State.wr, Map.set, hk, hj, if_neg (ofNat_ne_zero hv), if_neg (ofNat_ne_zero hw), Map.ins_comm _ hkj]

/-! ### Reports that a full Tray drops (R90) -/

theorem State.sat_eq_wn (s : State) {a n : Nat} (hn : s.rn a = n) (hlt : n + 1 < 2 ^ 32) : s.sat a = s.wn a (n + 1) := by
  have hw : (s.sat a).rg a = BitVec.ofNat 32 (n + 1) := by
    refine BitVec.eq_of_toNat_eq ?_
    rw [BitVec.toNat_ofNat, Nat.mod_eq_of_lt hlt]
    exact (State.rn_sat s a).trans (by omega)
  rw [State.wn_eq, ← hw, State.sat, State.satF_eq, State.rg_wr, if_pos rfl]
/-- `n` reports dropped: IMG_REPORT_DROPPED and the count of Tray 0. -/
def State.dropped (s : State) (h : Half) (n : Nat) : State := (s.wn (Mod.imgReportDropped h) n).wn (Tray.fullCnt h 0) n

theorem imgReportDropped_lt (h : Half) : Mod.imgReportDropped h < Tray.fullCnt h 0 := by
  simp only [Mod.imgReportDropped, Tray.fullCnt]
  omega
theorem resetWord_imgReportDropped (straps : Nat) (h : Half) : resetWord straps (Mod.imgReportDropped h) = 0 := by cases h <;> rfl
theorem resetWord_fullCnt (straps : Nat) (h : Half) : resetWord straps (Tray.fullCnt h 0) = 0 := by cases h <;> rfl
theorem State.trayRoom_dropped (s : State) (h : Half) (n : Nat) : (s.dropped h n).trayRoom h 0 = s.trayRoom h 0 := by
  have hrg (a : Nat) (ha : Tray.trayLen h 0 ≤ a) (hb : a ≠ Tray.fullCnt h 0) : (s.dropped h n).rg a = s.rg a := by
    rw [State.dropped, State.rg_wn, if_neg hb, State.rg_wn, if_neg]
    simp only [Mod.imgReportDropped, Tray.trayLen] at *
    omega
  rw [State.trayRoom, State.trayDepth, State.fd, hrg, hrg, hrg]
  · rfl
  all_goals simp only [Tray.trayLen, Tray.trayRes, Tray.trayRp, Tray.fullCnt]; omega

section
variable {s : State} {h : Half} (hroom : s.trayRoom h 0 < 4)
include hroom
theorem State.imgReport_full (cause region ty raw space written used id : Nat) :
    s.imgReport h cause region ty raw space written used id = (s.sat (Mod.imgReportDropped h)).sat (Tray.fullCnt h 0) :=
  if_pos hroom
theorem State.imgReport_dropped {n : Nat} (hlt : n + 2 < 2 ^ 32) (cause region ty raw space written used id : Nat) :
    (s.dropped h (n + 1)).imgReport h cause region ty raw space written used id = s.dropped h (n + 2) := by
  have hne := imgReportDropped_lt h
  have hn1 : (s.dropped h (n + 1)).rn (Mod.imgReportDropped h) = n + 1 := by
    rw [State.rn, State.dropped, State.rg_wn, if_neg hne.ne, State.rg_wn, if_pos rfl, BitVec.toNat_ofNat]
    omega
  have hn2 : ((s.dropped h (n + 1)).wn (Mod.imgReportDropped h) (n + 2)).rn (Tray.fullCnt h 0) = n + 1 := by
    rw [State.rn, State.rg_wn, if_neg hne.ne', State.dropped, State.rg_wn, if_pos rfl, BitVec.toNat_ofNat]
    omega
  rw [State.imgReport_full (by rwa [State.trayRoom_dropped]), State.sat_eq_wn _ hn1 (by omega), State.sat_eq_wn _ hn2 (by omega),
    State.dropped, ← State.wn_wn_comm _ hne (resetWord_imgReportDropped ..) (resetWord_fullCnt ..) (by omega) (by omega),
    State.wn_wn_same _ (resetWord_imgReportDropped ..) (by omega) (by omega),
    State.wn_wn_same _ (resetWord_fullCnt ..) (by omega) (by omega), State.dropped]
/-- Reports of no clamp, all dropped: both counts are their number. -/
theorem State.imgReports_full (hn1 : s.rn (Mod.imgReportDropped h) = 0) (hn2 : s.rn (Tray.fullCnt h 0) = 0) (id : Nat)
    {l : List ImgRep} (hcause : ∀ p ∈ l, 6 < p.cause) (hlen : 0 < l.length ∧ l.length < 2 ^ 32) :
    s.imgReports h id l = s.dropped h l.length := by
  have step (t : State) {p : ImgRep} (hp : 6 < p.cause) : t.imgReports h id [p]
      = t.imgReport h p.cause p.region p.ty p.raw p.space p.written p.used id := by
    simp [State.imgReports, hp.not_ge]
  have hfirst (p : ImgRep) (hp : 6 < p.cause) : s.imgReports h id [p] = s.dropped h 1 := by
    have hn2' : (s.wn (Mod.imgReportDropped h) 1).rn (Tray.fullCnt h 0) = 0 := by
      rw [State.rn, State.rg_wn, if_neg (imgReportDropped_lt h).ne']
      exact hn2
    rw [step s hp, State.imgReport_full hroom, State.sat_eq_wn _ hn1 (by decide), State.sat_eq_wn _ hn2' (by decide), State.dropped]
  have happ (t : State) (l m : List ImgRep) : t.imgReports h id (l ++ m) = (t.imgReports h id l).imgReports h id m :=
    List.foldl_append
  induction l using List.reverseRecOn with
  | nil => exact absurd hlen.1 (by decide)
  | append_singleton l p ih =>
    have hp := hcause p (by simp)
    rw [List.length_append, List.length_singleton] at hlen ⊢
    rw [happ]
    rcases Nat.eq_zero_or_eq_succ_pred l.length with h0 | h0
    · rw [List.length_eq_zero_iff.1 h0]
      exact hfirst p hp
    · rw [ih (fun q hq => hcause q (by simp [hq])) (by omega), step _ hp, h0]
      exact State.imgReport_dropped hroom (by omega) ..
end

/-! ### The parts of a check (R83, R84) -/

/-- What a check does with the regions it keeps, once its reports stand; `act` are the active copies. -/
def State.stageKept (s : State) (h : Half) (full free : Bool) (id : Nat) (cs : List Carried) (mod : Option Nat)
    (act : Map RegCopy) : State :=
  let r := checkSet act full cs
  let refused := (cs.filter (fun c => !r.kept.any (fun k => decide (k.region = c.region)))).map (fun c => c.region)
  let s := if refused = [] then s else s.sb (Mod.imgStatus h) 9 true
  let s := refused.foldl (fun (t : State) (_ : Nat) => t.raise h 10) s
  if r.fits = false then s.imgRefuse h id 12 0
  else
    let gone := if full then (act.filter (fun e => decide (e.1 ≠ 0) && !cs.any (fun c => decide (c.region = e.1)))).map
      (fun e => (e.1, (⟨true, [], id, 0, 0, 0⟩ : RegCopy))) else []
    let l := r.kept.map (fun c => (c.region, c.copy)) ++ gone
    let s := l.foldl (fun (t : State) (e : Nat × RegCopy) =>
      let f := t.fresh
      let y := (t.half h).img
      let p := freePlace ((y.active ++ y.ready).map (fun c => (c.2.place, copyLen c.1 c.2))) (copyLen e.1 e.2) (Config.copyOffset f.1)
      (f.2.modImg h (fun x => { x with ready := Map.ins x.ready e.1 { e.2 with place := p } })).markDirty (regionUnit h e.1)) s
    let s := s.modImg h (fun x => { x with
      refused := refused
      newId := id
      newMod := mod
      newBad := decide (refused ≠ [])
      newFree := free
      newFull := full })
    (if l = [] then s.imgIdle h else s.fw (Mod.imgStatus h) 2 0 2).raise h 8
/-- A check whose references all hold reports what its words gave, then keeps its regions. -/
theorem State.stageSet_eq (s : State) (h : Half) (full free : Bool) (id : Nat) (cs : List Carried) (reps : List ImgRep)
    (mod : Option Nat) (hreps : (checkSet (s.half h).img.active full cs).reps = []) :
    s.stageSet h full free id cs reps mod = (((s.imgDiscard h).wr64 (Mod.imgStagedIdLo h) id).imgReports h id
      (cs.flatMap (fun c => reps.filter (fun p => decide (p.region = c.region))))).stageKept h full free id cs mod
        (s.half h).img.active := by
  rw [State.stageSet, hreps]
  simp only [List.filter_nil, List.append_nil]
  rfl

end Sys2Proof.Machine
end

section
/-! SUPPORT. The start image of flash ACTIVE (R98). -/
namespace Sys2Proof.Machine

/-- The check of a full image with one section besides END, in a half with no active image, but for a MODULE region. -/
theorem State.checkRaw_single {s : State} {h : Half} {len id : Nat} {bs : List Byte} {x e : ImgSect} {c : Carried}
    {reps : List ImgRep} (hlen : len ≤ 0x20000000) (hbs : s.bytes (h.base + 0x40000000) len = bs) (hi : s.hasImage h = false)
    (hparse : ∀ hw fw mid, parseImage bs len hw fw mid none = .ok [x, e]) (hx : x.ty ≠ 0xFFFF) (he : e.ty = 0xFFFF)
    (hkind : u16At bs 6 = 1) (hid : leNat ((bs.drop 8).take 8) = id)
    (hbuild : buildCopy s.deck.straps id (s.half h).img.active bs x = (c, reps)) (hc : c.region ≠ 0) (free : Bool) :
    s.checkRaw h len free = s.stageSet h true free id [c] reps none := by
  have hshort : ¬ 0x20000000 < len := by omega
  have hsects : [x, e].filter (fun x => decide (x.ty ≠ 0xFFFF)) = [x] := by simp [hx, he]
  simp only [State.checkRaw, if_neg hshort, hbs, hi, Bool.false_eq_true, if_false, hparse, hsects, List.map_cons, List.map_nil, hid,
    hbuild, hkind]
  simp [hc]

/-- The half tries its first source, flash ACTIVE. -/
def State.firstTrial (s : State) (h : Half) : State :=
  ((s.fw (Mod.imgSource h) 1 0 0).sb (Mod.imgSource h) 2 false).modImg h (fun x => { x with trial := 1 })
/-- The half strobes the start image that flash ACTIVE gave. -/
def State.activeStrobe (s : State) (h : Half) : State :=
  ((s.modImg h (fun y => { y with starting := true })).fw (Mod.imgSource h) 5 4 1).imgStrobe h

theorem State.trySource_active {u t : State} {h : Half} {y : StoredImg} (len : Nat) (hy : (u.half h).img.slotA = some y)
    (hcheck : ((u.putImage h y).imgBegin h).checkRaw h (((u.putImage h y).imgBegin h).half h).img.chkLen true = t)
    (hready : t.fd (Mod.imgStatus h) 2 0 = 2) : u.trySource h 0 1 len = t.activeStrobe h := by
  simp only [State.trySource, hy, hcheck, State.activeStrobe, if_true]
  simp [hready]

/-- START_IMAGE_LOADED where flash ACTIVE holds an image that checks READY. -/
theorem execStartImageLoaded_active {s t : State} {h : Half} {y : StoredImg} (len : Nat) (hr : s.runs h = true)
    (hp : s.pend h 17 = false) (hi : s.hasImage h = false) (hs : s.fd (Mod.straps h) 10 9 = 0)
    (hy : (s.half h).img.slotA = some y) (ht : (s.half h).img.trial = 0)
    (hcheck : (((s.firstTrial h).putImage h y).imgBegin h).checkRaw h ((((s.firstTrial h).putImage h y).imgBegin h).half h).img.chkLen
      true = t)
    (hready : t.fd (Mod.imgStatus h) 2 0 = 2) (hpend : (t.activeStrobe h).pend h 17 = true) :
    exec (.startImageLoaded h len) s = .next (t.activeStrobe h) := by
  have hex : exec (.startImageLoaded h len) s = execStartImageLoaded h len s := rfl
  have hslot : ((s.firstTrial h).half h).img.slotA = some y := by
    rw [State.firstTrial, State.modImg, State.half_modHalf, State.half_sb, State.half_fw, hy]
  have htry := State.trySource_active len hslot hcheck hready
  rw [State.firstTrial] at htry
  generalize t.activeStrobe h = r at htry hpend ⊢
  generalize hu : (s.fw (Mod.imgSource h) 1 0 0).sb (Mod.imgSource h) 2 false = u at htry
  have hhalf : u.half h = s.half h := by rw [← hu, State.half_sb, State.half_fw]
  have hpu : u.pend h 17 = false := by
    have hne : Cmt.cmtPending h ≠ Mod.imgSource h := by simp [Cmt.cmtPending, Mod.imgSource]
    rw [← hu, State.pend, State.bt, State.rg_sb, if_neg hne, State.rg_fw, if_neg hne]
    exact hp
  rw [hex, execStartImageLoaded, State.onHalf_runs _ _ _ hr]
  simp only [hp, hi, hs, startSources, Bool.false_eq_true, if_false]
  simp [hu, hpu, hhalf, ht, htry, hpend]

/-! ### The image of loop 0 in the raw staging area -/

theorem State.putRaw_eq (s : State) (h : Half) {bs : List Byte} (hl : bs.length ≤ 0x20000000) : s.putRaw h bs
    = ({ s with mem := (s.setBytes (h.base + 0x40000000) bs).mem } : State).fw (Mod.imgLen h) 29 0 bs.length := by
  have htake : s.setBytes (h.base + 0x40000000) (bs.take 0x20000000) = s.setBytes (h.base + 0x40000000) bs := by
    rw [List.take_of_length_le hl]
  exact congrArg (fun t : State => t.fw (Mod.imgLen h) 29 0 bs.length) (htake.trans (State.setBytes_mem ..))
theorem State.byte_imgBegin (s : State) (h : Half) (a : Nat) : (s.imgBegin h).byte a = s.byte a := by
  simp [State.imgBegin, State.modImg]
theorem State.deck_imgBegin (s : State) (h : Half) : (s.imgBegin h).deck = s.deck := by
  simp [State.imgBegin, State.modImg]
theorem State.chkLen_imgBegin (s : State) (h : Half) : ((s.imgBegin h).half h).img.chkLen = s.fd (Mod.imgLen h) 29 0 := by
  have hne : Mod.imgLen h ≠ Mod.imgStatus h := by simp [Mod.imgLen, Mod.imgStatus]
  simp [State.imgBegin, State.modImg, State.fd, hne]
/-- An image put into the raw staging area is what its check reads, at its length. -/
theorem State.bytes_putRaw (s : State) (h : Half) {bs : List Byte} {n : Nat} (hn : bs.length = n) (hl : n ≤ 0x20000000) :
    ((s.putRaw h bs).imgBegin h).bytes (h.base + 0x40000000) n = bs := by
  subst hn
  refine Eq.trans (List.map_congr_left fun i _ => ?_) (s.bytes_setBytes (h.base + 0x40000000) bs)
  rw [State.byte_imgBegin, State.putRaw_eq s h hl, State.byte_fw, State.byte, State.byte]
theorem State.chkLen_putRaw (s : State) (h : Half) {bs : List Byte} {n : Nat} (hn : bs.length = n) (hl : n ≤ 0x20000000) :
    (((s.putRaw h bs).imgBegin h).half h).img.chkLen = n := by
  subst hn
  rw [State.chkLen_imgBegin, State.putRaw_eq s h hl, State.fd, State.rg_fw, if_pos rfl, bits_setBits _ _ _ _ (by decide) (by decide)]
  omega
theorem State.putImage_loopImage (s : State) (hd : s.deck.straps = 0) : s.putImage .a loopImage = s.putRaw .a loopBytes := by
  rw [State.putImage, hd, loopBytes]
/-- The check of this image in a half with no active image. -/
theorem State.checkRaw_loopImage {s : State} (hd : s.deck.straps = 0)
    (hi : ((s.putImage .a loopImage).imgBegin .a).hasImage .a = false) :
    ((s.putImage .a loopImage).imgBegin .a).checkRaw .a (((s.putImage .a loopImage).imgBegin .a).half .a).img.chkLen true
      = ((s.putImage .a loopImage).imgBegin .a).stageSet .a true true 1 [loopCarried] loopReps none := by
  have hdeck : ((s.putRaw .a loopBytes).imgBegin .a).deck.straps = 0 := by
    rw [State.deck_imgBegin, State.putRaw, State.deck_fw, State.deck_setBytes, hd]
  rw [State.putImage_loopImage s hd] at hi ⊢
  rw [s.chkLen_putRaw .a length_loopBytes (by decide)]
  refine State.checkRaw_single (by decide) (s.bytes_putRaw .a length_loopBytes (by decide)) hi parseImage_loopBytes (by decide) rfl
    imageKind_loopBytes imageId_loopBytes ?_ (by decide) true
  rw [hdeck]
  exact buildCopy_loopSect _

end Sys2Proof.Machine
end

section
/-! A start image that is strobed without IMG_SOURCE showing its source. In this state a lost copy, with slot 0 set aside, names a
loop far outside the 4,096 loops, whose PLC_PREP_RISK bit lies at bit 4 of IMG_SOURCE. The image in flash ACTIVE defines loop 0;
its strobe places loop 0 on engine 0 (R173) and recomputes that engine (R169), which writes the stray loop's bit and so clears the 1
that IMG_SOURCE has just taken. The statement asks nothing of the placement: it speaks of every state, this one too, whether or not
a run reaches it. -/
namespace Sys2Proof.Machine

/-- The loop number whose PLC_PREP_RISK bit is bit 4 of IMG_SOURCE. -/
def straySourceLoop : Nat := (Mod.imgSource .a - Mod.plcPrepRisk .a 0) / 4 * 32 + 4
/-- A lost copy of it, with slot 0 set aside. -/
def strayLost : LostCopy where
  loop := straySourceLoop
  src := 0
  dst := some 0
  active := false
  state := 0
  engine := false
  clean := false
  block := false
  prefer := none
  evicted := false
  detect := 0
  tick := none
  regionNew := false
  sizeNew := false
  demand := none
/-- A lost copy of the stray loop has slot 0 set aside, and every engine but 0 is out of service, so loop 0 is placed beside it. Its
active region has the power-management bit (0x800 is the word at reset): added to bit 13 of the loop's number it leaves bit 13 of
the descriptor 0, and the copy counts as one that engine 0 may hold (R37). Tray 0 is full, so the check's reports are only counted;
flash ACTIVE holds the image of loop 0. -/
def strayImageState : State := { State.reset with
  live := (Mod.plcOos .a 0, 0xFFFFFFFE) :: (List.range 15).map (fun k => (Mod.plcOos .a (k + 1), 0xFFFFFFFF))
    ++ [(Tray.trayRes .a 0, 4096), (Slot.status .a 0, 3)],
  a.place.lost := [strayLost],
  a.img.active := [(2 + straySourceLoop, ⟨false, [(0x30000, 0x802)], 0, 0, 0, 0⟩)],
  a.img.slotA := some loopImage }

/-- The image is about to be checked. -/
def strayStaged : State :=
  (({ strayImageState.firstTrial .a with
    mem := ((strayImageState.firstTrial .a).setBytes (Half.base .a + 0x40000000) loopBytes).mem } : State).fw
      (Mod.imgLen .a) 29 0 20992).imgBegin .a
/-- The check has discarded the ready image and shows the new IMAGE_ID. -/
def strayCleared : State := (strayStaged.imgDiscard .a).wr64 (Mod.imgStagedIdLo .a) 1
/-- The image is READY; 210 reports are lost. -/
def strayReady : State :=
  (strayCleared.dropped .a 210).stageKept .a true true 1 [loopCarried] none (strayStaged.half .a).img.active

theorem reps_strayStaged : (checkSet (strayStaged.half .a).img.active true [loopCarried]).reps = [] := by decide +kernel
theorem stageSet_strayStaged : strayStaged.stageSet .a true true 1 [loopCarried] loopReps none = strayReady := by
  have hroom : strayCleared.trayRoom .a 0 < 4 := by decide +kernel
  have hn1 : strayCleared.rn (Mod.imgReportDropped .a) = 0 := by decide +kernel
  have hn2 : strayCleared.rn (Tray.fullCnt .a 0) = 0 := by decide +kernel
  have hown : [loopCarried].flatMap (fun c => loopReps.filter (fun p => decide (p.region = c.region))) = loopReps := by
    simp only [List.flatMap_cons, List.flatMap_nil, List.append_nil]
    exact List.filter_eq_self.2 fun p hp => decide_eq_true (loopReps_cause hp).2
  rw [State.stageSet_eq _ _ _ _ _ _ _ _ reps_strayStaged, hown]
  rw [← strayCleared, State.imgReports_full hroom hn1 hn2 1 (fun p hp => by simp [(loopReps_cause hp).1])
    (by rw [length_loopReps]; decide), length_loopReps, strayReady]
theorem strayReady_ready : strayReady.fd (Mod.imgStatus .a) 2 0 = 2 := by decide +kernel
/-- The strobe takes place, and IMG_SOURCE has lost its bit. -/
theorem strayReady_strobed : (strayReady.activeStrobe .a).pend .a 17 = true
    ∧ (strayReady.activeStrobe .a).fd (Mod.imgSource .a) 5 4 = 0 := by
  decide +kernel

theorem imgBegin_strayImageState : ((strayImageState.firstTrial .a).putImage .a loopImage).imgBegin .a = strayStaged := by
  have hput := State.putRaw_eq (strayImageState.firstTrial .a) .a (bs := loopBytes) (by rw [length_loopBytes]; decide)
  rw [length_loopBytes] at hput
  rw [State.putImage_loopImage _ rfl, hput, strayStaged]
/-- The image checks READY. -/
theorem checkRaw_strayImageState : (((strayImageState.firstTrial .a).putImage .a loopImage).imgBegin .a).checkRaw .a
    ((((strayImageState.firstTrial .a).putImage .a loopImage).imgBegin .a).half .a).img.chkLen true = strayReady := by
  have himage : strayStaged.hasImage .a = false := by decide +kernel
  rw [State.checkRaw_loopImage rfl (by rw [imgBegin_strayImageState, himage]), imgBegin_strayImageState, stageSet_strayStaged]
theorem exec_strayImageState : exec (.startImageLoaded .a 0) strayImageState = .next (strayReady.activeStrobe .a) :=
  execStartImageLoaded_active 0 rfl (by decide +kernel) (by decide +kernel) (by decide +kernel) rfl rfl checkRaw_strayImageState
    strayReady_ready strayReady_strobed.1

/-- Refutes O52: START_IMAGE_LOADED strobes the image that flash ACTIVE gave, but IMG_SOURCE does not show source 1 where a lost
copy names a loop that does not exist. -/
theorem not_loaderCommandsComplete : ¬ Obligations.LoaderCommandsComplete := by
  unfold Obligations.LoaderCommandsComplete
  rintro ⟨-, -, -, -, -, -, -, -, -, hstart, -⟩
  have hcheck := checkRaw_strayImageState
  rw [State.firstTrial] at hcheck
  obtain ⟨t, ht, -, hsource, -⟩ := hstart .a 0 loopImage strayImageState rfl (by decide +kernel) (by decide +kernel)
    (by decide +kernel) rfl rfl rfl (hcheck ▸ strayReady_ready)
  have hnext : strayReady.activeStrobe .a = t := Host.Outcome.next.inj (exec_strayImageState.symm.trans ht)
  rw [← hnext, strayReady_strobed.2] at hsource
  exact absurd hsource (by decide)

end Sys2Proof.Machine
end


section
/-! SUPPORT. Fields and bits read after a write, the run of a slot, and what the words, costs and packets of a slot leave (R36, R105,
R124, R129, R164). -/
namespace Sys2Proof.Machine

/-! ### Fields and bits after a write -/

theorem State.fd_wr_other (s : State) {a k : Nat} (w : Word) (hi lo : Nat) (ha : a ≠ k) :
    (s.wr k w).fd a hi lo = s.fd a hi lo := by rw [State.fd, State.rg_wr, if_neg ha, State.fd]
theorem State.bt_wr_other (s : State) {a k : Nat} (w : Word) (n : Nat) (ha : a ≠ k) : (s.wr k w).bt a n = s.bt a n := by
  rw [State.bt, State.rg_wr, if_neg ha, State.bt]
theorem State.fd_fw (s : State) (a v : Nat) {hi lo : Nat} (hlo : lo ≤ hi) (hhi : hi < 32) :
    (s.fw a hi lo v).fd a hi lo = v % 2 ^ (hi + 1 - lo) := by
  rw [State.fd, State.rg_fw, if_pos rfl, bits_setBits _ _ _ _ hlo hhi]
theorem State.fd_wn (s : State) (a v : Nat) {hi : Nat} (hhi : hi < 32) : (s.wn a v).fd a hi 0 = v % 2 ^ (hi + 1) := by
  rw [State.fd, State.rg_wn, if_pos rfl, bits, BitVec.toNat_ofNat, Nat.shiftRight_zero]
  exact Nat.mod_mod_of_dvd _ (Nat.pow_dvd_pow 2 hhi)
/-- Writing a field leaves the fields beside it, in this register and in every other. -/
theorem State.fd_fw_beside (s : State) (a k v : Nat) {hi lo hi' lo' : Nat} (hlo : lo ≤ hi) (hhi : hi' < 32)
    (hd : hi' < lo ∨ hi < lo') : (s.fw k hi lo v).fd a hi' lo' = s.fd a hi' lo' := by
  by_cases e : a = k
  · rw [e, State.fd, State.rg_fw, if_pos rfl, bits_setBits_other _ _ _ _ _ _ hlo hhi hd, State.fd]
  · exact State.fd_wr_other _ _ _ _ e
theorem State.bt_fw_beside (s : State) (a k v : Nat) {hi lo n : Nat} (hlo : lo ≤ hi) (hd : n < lo ∨ hi < n) :
    (s.fw k hi lo v).bt a n = s.bt a n := by
  by_cases e : a = k
  · rw [e, State.bt, State.rg_fw, if_pos rfl, bit_setBits_other _ _ _ _ _ hlo hd, State.bt]
  · exact State.bt_wr_other _ _ _ e
theorem State.fd_sb_beside (s : State) (a k n : Nat) (b : Bool) {hi lo : Nat} (hhi : hi < 32) (hd : hi < n ∨ n < lo) :
    (s.sb k n b).fd a hi lo = s.fd a hi lo :=
  State.fd_fw_beside _ _ _ _ le_rfl hhi hd
theorem State.bt_sb (s : State) (a : Nat) {n : Nat} (b : Bool) (hn : n < 32) : (s.sb a n b).bt a n = b := by
  rw [State.bt, State.rg_sb, if_pos rfl, bit_setBit _ _ _ hn]

/-! ### The run of a slot -/

theorem State.run_of_half {s t : State} {h : Half} (hh : t.half h = s.half h) (q : Nat) : t.run h q = s.run h q := by
  rw [State.run, hh, State.run]
@[simp] theorem State.run_wr (s : State) (h : Half) (q a : Nat) (w : Word) : (s.wr a w).run h q = s.run h q :=
  State.run_of_half (State.half_wr ..) q
@[simp] theorem State.run_wrSh (s : State) (h : Half) (q a : Nat) (w : Word) : (s.wrSh a w).run h q = s.run h q :=
  State.run_of_half (State.half_wrSh ..) q
@[simp] theorem State.run_fw (s : State) (h : Half) (q a hi lo v : Nat) : (s.fw a hi lo v).run h q = s.run h q := s.run_wr ..
@[simp] theorem State.run_sb (s : State) (h : Half) (q a n : Nat) (b : Bool) : (s.sb a n b).run h q = s.run h q := s.run_wr ..
@[simp] theorem State.run_wn (s : State) (h : Half) (q a v : Nat) : (s.wn a v).run h q = s.run h q := s.run_wr ..
@[simp] theorem State.run_satF (s : State) (h : Half) (q a hi lo k : Nat) : (s.satF a hi lo k).run h q = s.run h q := s.run_wr ..
@[simp] theorem State.run_setRole (s : State) (h : Half) (q n r : Nat) : (s.setRole h n r).run h q = s.run h q := s.run_wr ..
/-- A change of a half that keeps its slots keeps the run of each. -/
theorem State.run_modHalf (s : State) (h g : Half) (q : Nat) (f : HalfSt → HalfSt) (hf : ∀ x, (f x).slots = x.slots) :
    (s.modHalf g f).run h q = s.run h q := by
  by_cases e : h = g
  · rw [e, State.run, State.half_modHalf, hf, State.run]
  · exact State.run_of_half (State.half_modHalf_ne _ _ _ _ e) q

/-! ### Words, costs and packets of a slot -/

/-- The registers in which a slot counts its cost and records its trace. -/
def QuietReg (h : Half) (q a : Nat) : Prop :=
  a = Eng.busy h (q / 8) ∨ a = Eng.slotCost h (q / 8) (q % 8) ∨ engBase h (q / 8) + 0x4000 ≤ a
/-- `v` shows nothing of the words that slot `q` sends, of its cost and of its packets. -/
structure SlotQuiet {β : Type} (v : State → β) (h : Half) (q : Nat) : Prop where
  wr : ∀ t a w, QuietReg h q a → v (State.wr t a w) = v t
  half : ∀ t f, (∀ x : HalfSt, (f x).slots = x.slots) → v (State.modHalf t h f) = v t
  sent : ∀ t l c, v (State.modRun t h q (fun r => { r with sent := l, sentCoast := c })) = v t
  packets : ∀ t (f : List TracePkt → List TracePkt), v (State.modRun t h q (fun r => { r with packets := f r.packets })) = v t

theorem SlotQuiet.of_rg {β : Type} (f : Word → β) {h : Half} {q a : Nat} (ha : ¬ QuietReg h q a) :
    SlotQuiet (fun t => f (t.rg a)) h q where
  wr t b w hb := by rw [State.rg_wr, if_neg (by rintro rfl; exact ha hb)]
  half t g _ := by rw [State.rg_modHalf]
  sent t l c := by rw [State.rg_modRun]
  packets t g := by rw [State.rg_modRun]
theorem SlotQuiet.of_byte (h : Half) (q a : Nat) : SlotQuiet (State.byte · a) h q where
  wr _ _ _ _ := State.byte_wr ..
  half _ _ _ := State.byte_modHalf ..
  sent _ _ _ := State.byte_modRun ..
  packets _ _ := State.byte_modRun ..
theorem SlotQuiet.of_run {β : Type} (f : SlotRun → β) (h : Half) (q : Nat)
    (hs : ∀ r l c, f { r with sent := l, sentCoast := c } = f r) (hp : ∀ r p, f { r with packets := p } = f r) :
    SlotQuiet (fun t => f (t.run h q)) h q where
  wr t a w _ := by rw [State.run_wr]
  half t g hg := by rw [State.run_modHalf _ _ _ _ _ hg]
  sent t l c := by rw [State.run_modRun, hs]
  packets t g := by rw [State.run_modRun, hp]

section
variable {β : Type} {v : State → β} {h : Half} {q : Nat} (hv : SlotQuiet v h q)
include hv

theorem SlotQuiet.sendWords (s : State) (ws : List (Option Nat)) (coast : Bool) : v (s.sendWords h q ws coast) = v s := by
  have one (t : State) (n j w : Nat) : v (t.sendOne h n j w coast) = v t := by
    simp only [State.sendOne]
    split
    · exact hv.half _ _ fun _ => rfl
    · exact hv.half _ _ fun _ => rfl
    · exact hv.half _ _ fun _ => rfl
    · rfl
  refine ite_keeps v (fun _ => rfl) fun _ => foldl_keeps v _ _ s fun t e => ?_
  obtain ⟨o, j⟩ := e
  cases o with
  | none => rfl
  | some w => exact one ..
theorem SlotQuiet.busyAdd (s : State) (n : Nat) : v (s.busyAdd h (q / 8) n) = v s := by
  simp only [State.busyAdd]
  rw [hv.half]
  · exact ite_keeps v (fun _ => rfl) fun _ => hv.wr _ _ _ (.inl rfl)
  · exact fun _ => rfl
/-- The cost of a sample, shown and counted. -/
theorem SlotQuiet.cost (s : State) (n : Nat) :
    v ((s.wn (Eng.slotCost h (q / 8) (q % 8)) n).busyAdd h (q / 8) n) = v s :=
  (hv.busyAdd _ _).trans (hv.wr _ _ _ (.inr (.inl rfl)))
theorem SlotQuiet.faultAction (s : State) : v (s.faultAction h q) = v s := by
  simp only [State.faultAction]
  split
  · exact (hv.sendWords ..).trans (hv.cost ..)
  · exact hv.cost ..
  · exact (hv.sent ..).trans ((hv.sendWords ..).trans (hv.cost ..))
theorem SlotQuiet.traceClose (s : State) (n : Nat) : v (s.traceClose h q n) = v s := by
  simp only [State.traceClose]
  split
  · rfl
  · refine (hv.packets _ (List.map _)).trans (foldl_keeps v _ _ s fun t e => hv.wr _ _ _ (.inr (.inr ?_)))
    simp only [traceAt]
    omega
end
/-- Without a packet there is none to close. -/
theorem State.traceClose_none (s : State) (h : Half) (q n : Nat) (hp : (s.run h q).packets = []) : s.traceClose h q n = s := by
  simp only [State.traceClose, hp, List.find?_nil]

end Sys2Proof.Machine
end


section
/-! A copy that faults (R128, R129), and the third skipped tick in a row, which is such a fault (R135). -/
namespace Sys2Proof.Machine

/-! ### A copy that faults -/

/-- How far a slot's sample is, and whether a commit waits for its end. -/
def SlotRun.progress (r : SlotRun) : Nat × Bool × Bool := (r.phase, r.ready, r.cmtWait)

/-- A fault shows: SLOT_STATE, the loop map, FAULT_INFO and the engine's condition. -/
def State.faultShown (s : State) (h : Half) (q cause step row : Nat) : State :=
  let s := s.fw (Slot.status h q) 1 0 2
  let s := if cause = 1 then s else s.setRole h (s.slotLoop h q) 3
  (s.wn (Slot.faultInfo h q) (cause + step * 16 + row % 16 * 256 + s.rn (Slot.sampleCnt h q) % 65536 * 65536)).engCond h q 0 true
/-- What quiet registers, the demand in STATUS and the run do not show, the rest of a fault keeps. -/
theorem SlotQuiet.instFault {β : Type} {v : State → β} {h : Half} {q : Nat} (hv : SlotQuiet v h q)
    (h9 : ∀ t b, v (State.sb t (Slot.status h q) 9 b) = v t) (hr : ∀ t f, v (State.modRun t h q f) = v t) (s : State)
    (cause step row : Nat) (act : Bool) :
    v (s.instFault h q cause step row act) = v (s.faultShown h q cause step row) := by
  simp only [State.instFault]
  refine (ite_keeps v (fun _ => hv.faultAction _) fun _ => rfl).trans ((hr _ _).trans ?_)
  exact (ite_keeps v (fun _ => h9 _ _) fun _ => rfl).trans (hv.traceClose _ 4)

section
variable (s : State) (h : Half) (q cause step row : Nat) (act : Bool)

theorem State.run_faultShown : (s.faultShown h q cause step row).run h q = s.run h q := by
  simp only [State.faultShown, State.engCond]
  split <;> simp
/-- A fault ends the sample at once; a commit that waits still waits. -/
theorem State.progress_instFault :
    ((s.instFault h q cause step row act).run h q).progress = (0, false, (s.run h q).cmtWait) := by
  have hp : SlotQuiet (fun t => (t.run h q).progress) h q := .of_run SlotRun.progress h q (fun _ _ _ => rfl) fun _ _ => rfl
  have hc : SlotQuiet (fun t => (t.run h q).cmtWait) h q := .of_run SlotRun.cmtWait h q (fun _ _ _ => rfl) fun _ _ => rfl
  simp only [State.instFault]
  refine (ite_keeps (fun t => (t.run h q).progress) (fun _ => hp.faultAction _) fun _ => rfl).trans ?_
  rw [State.run_modRun]
  refine congrArg (fun w => (0, false, w)) (Eq.trans ?_ ((hc.traceClose _ 4).trans (congrArg _ (s.run_faultShown h q cause step row))))
  exact ite_keeps (fun t => (t.run h q).cmtWait) (fun _ => congrArg _ (State.run_sb ..)) fun _ => rfl
end

theorem not_quietReg_slot (h : Half) (q : Nat) {o : Nat} (ho : o < 0x200) : ¬ QuietReg h q (slotBase h q + o) := by
  simp only [QuietReg, Eng.busy, Eng.slotCost, slotBase, engBase]
  omega
theorem not_quietReg_engCond (h : Half) (q : Nat) : ¬ QuietReg h q (Eng.engCond h (q / 8)) := by
  simp only [QuietReg, Eng.busy, Eng.slotCost, Eng.engCond, engBase]
  omega
theorem loopMapAt_lt (h : Half) {n : Nat} (hn : n < 4096) : loopMapAt h n < h.base + 0x10000 := by
  simp only [loopMapAt]
  omega
theorem not_quietReg_loopMap (h : Half) (q : Nat) {n : Nat} (hn : n < 4096) : ¬ QuietReg h q (loopMapAt h n) := by
  have := loopMapAt_lt h hn
  simp only [QuietReg, Eng.busy, Eng.slotCost, engBase]
  omega

theorem slot_ne_engCond (h : Half) (q o : Nat) : slotBase h q + o ≠ Eng.engCond h (q / 8) := by
  simp only [Eng.engCond, slotBase, engBase]
  omega
theorem ne_loopMapAt (h : Half) {a n : Nat} (ha : h.base + 0x10000000 ≤ a) (hn : n < 4096) : a ≠ loopMapAt h n := by
  have := loopMapAt_lt h hn
  omega
theorem slotBase_ge (h : Half) (q : Nat) : h.base + 0x10001000 ≤ slotBase h q := by
  simp only [slotBase, engBase]
  omega

section
variable (s : State) (h : Half) (q step row : Nat) (act : Bool) {cause : Nat}

theorem State.slotState_instFault : (s.instFault h q cause step row act).slotState h q = 2 := by
  have hq : SlotQuiet (State.slotState · h q) h q := .of_rg (bits · 1 0) (not_quietReg_slot h q (by decide : 0xC0 < 0x200))
  have h9 (t : State) (b : Bool) : (t.sb (Slot.status h q) 9 b).slotState h q = t.slotState h q :=
    t.fd_sb_beside _ _ _ _ (by decide) (by decide)
  rw [hq.instFault h9 fun t f => by simp [State.slotState, State.fd]]
  have hrole : Slot.status h q ≠ loopMapAt h ((s.fw (Slot.status h q) 1 0 2).slotLoop h q) :=
    ne_loopMapAt h ((slotBase_ge h q).trans' (by omega) |>.trans (Nat.le_add_right ..)) (State.slotLoop_lt ..)
  refine (State.fd_wr_other _ _ 1 0 (slot_ne_engCond h q 0xC0)).trans ?_
  refine (State.fd_wr_other _ _ 1 0 (by simp [Slot.faultInfo])).trans ?_
  refine (ite_keeps (State.slotState · h q) (fun _ => rfl) fun _ => State.fd_wr_other _ _ _ _ hrole).trans ?_
  exact State.fd_fw _ _ _ (by decide) (by decide)
theorem State.cause_instFault (hc : cause < 16) : (s.instFault h q cause step row act).fd (Slot.faultInfo h q) 3 0 = cause := by
  have hne : Slot.faultInfo h q ≠ Slot.status h q := by simp [Slot.status, Slot.faultInfo]
  have hq : SlotQuiet (State.fd · (Slot.faultInfo h q) 3 0) h q :=
    .of_rg (bits · 3 0) (not_quietReg_slot h q (by decide : 0xC4 < 0x200))
  rw [hq.instFault (fun t b => t.fd_wr_other _ _ _ hne) fun t f => by simp [State.fd]]
  refine (State.fd_wr_other _ _ 3 0 (slot_ne_engCond h q 0xC4)).trans ?_
  refine (State.fd_wn _ _ _ (by decide)).trans ?_
  omega
theorem State.engCond_instFault : (s.instFault h q cause step row act).bt (Eng.engCond h (q / 8)) (q % 8) = true := by
  have hq : SlotQuiet (State.bt · (Eng.engCond h (q / 8)) (q % 8)) h q := .of_rg (bit · (q % 8)) (not_quietReg_engCond h q)
  rw [hq.instFault (fun t b => t.bt_wr_other _ _ (slot_ne_engCond h q 0xC0).symm) fun t f => by simp [State.bt]]
  simp only [State.faultShown, State.engCond, Nat.zero_add]
  exact State.bt_sb _ _ _ (by omega)
theorem State.role_instFault (hc : cause ≠ 1) :
    (s.instFault h q cause step row act).fd (loopMapAt h (s.slotLoop h q)) 17 16 = 3 := by
  have hn := s.slotLoop_lt h q
  have hne (o : Nat) : loopMapAt h (s.slotLoop h q) ≠ slotBase h q + o :=
    (ne_loopMapAt h ((slotBase_ge h q).trans' (by omega) |>.trans (Nat.le_add_right ..)) hn).symm
  have hq : SlotQuiet (State.fd · (loopMapAt h (s.slotLoop h q)) 17 16) h q :=
    .of_rg (bits · 17 16) (not_quietReg_loopMap h q hn)
  rw [hq.instFault (fun t b => t.fd_wr_other _ _ _ (hne 0xC0)) fun t f => by simp [State.fd]]
  have hloop : (s.fw (Slot.status h q) 1 0 2).slotLoop h q = s.slotLoop h q := State.fd_wr_other _ _ _ _ (by simp [Slot.status])
  have heng : loopMapAt h (s.slotLoop h q) ≠ Eng.engCond h (q / 8) :=
    (ne_loopMapAt h (by simp only [Eng.engCond]; omega) hn).symm
  refine (State.fd_wr_other _ _ 17 16 heng).trans ((State.fd_wr_other _ _ 17 16 (hne 0xC4)).trans ?_)
  rw [if_neg hc, hloop]
  exact State.fd_fw _ _ _ (by decide) (by decide)
theorem State.sameMem_instFault : SameMem s (s.instFault h q cause step row act) := fun a => by
  rw [(SlotQuiet.of_byte h q a).instFault (fun _ _ => State.byte_sb ..) fun _ _ => State.byte_modRun ..]
  refine (State.byte_sb ..).trans ((State.byte_wn ..).trans ?_)
  exact (ite_keeps (State.byte · a) (fun _ => rfl) fun _ => State.byte_fw ..).trans (State.byte_fw ..)
end

/-- Where no commit waits, the end of the finish phase commits none (R135). -/
theorem State.waitCommit_idle (s : State) (h : Half) (q : Nat) (hw : (s.run h q).cmtWait = false) :
    s.waitCommit h q = s.modRun h q (fun r => { r with cmtWait := false }) := by
  simp [State.waitCommit, hw]

/-! ### The third skip in a row (R135) -/

theorem overrunFault_completes (h : Half) (q : Nat) (s : State) (hr : s.runs h = true) (hst : s.slotState h q = 1)
    (hoos : s.bt (Eng.engStatus h (q / 8)) 2 = false) (hrun : 3 ≤ s.fd (stateBase h q + 0x60) 31 16)
    (hw : (s.run h q).cmtWait = false) :
    Gives (.overrunFault h q) s (fun t => t.slotState h q = 2 ∧ t.fd (Slot.faultInfo h q) 3 0 = 2
      ∧ t.fd (loopMapAt h (s.slotLoop h q)) 17 16 = 3 ∧ t.bt (Eng.engCond h (q / 8)) (q % 8) = true
      ∧ (t.run h q).phase = 0 ∧ SameMem s t) := by
  have hprog := s.progress_instFault h q 2 0 0 true
  obtain ⟨hphase, -, hwait⟩ : _ ∧ _ ∧ _ := by simpa only [SlotRun.progress, Prod.mk.injEq] using hprog
  refine ⟨(s.instFault h q 2 0 0 true).modRun h q (fun r => { r with cmtWait := false }), ?_, ?_⟩
  · rw [← State.waitCommit_idle _ _ _ (hwait.trans hw)]
    exact congrArg Host.Outcome.next ((State.onHalf_runs s h _ hr).trans (if_pos ⟨hst, hoos, hrun⟩))
  · have hcond := s.engCond_instFault h q 0 0 true (cause := 2)
    refine ⟨?_, ?_, ?_, ?_, ?_, fun a => ?_⟩
    · simpa [State.slotState, State.fd] using s.slotState_instFault h q 0 0 true (cause := 2)
    · simpa [State.fd] using s.cause_instFault h q 0 0 true (by decide : 2 < 16)
    · simpa [State.fd] using s.role_instFault h q 0 0 true (by decide : 2 ≠ 1)
    · simpa [State.bt] using hcond
    · simpa using hphase
    · simpa using s.sameMem_instFault h q 0 0 true (cause := 2) a

end Sys2Proof.Machine
end


section
/-! The commands of a slot and of an engine that act at once or wait for the next boundary (R112, R120, R121, R130). -/
namespace Sys2Proof.Machine

/-! ### Measurements and input-ready (R120) -/

/-- A measurement word in its place, before input-ready is decided. -/
def State.measTaken (s : State) (h : Half) (q : Nat) (w : MeasWord) : State :=
  s.modRun h q (fun r => { r with
    raw := Map.set (fun _ => 0) r.raw w.k w.word
    arrived := r.arrived ||| 2 ^ w.k
    valid := if w.valid then r.valid ||| 2 ^ w.k else r.valid &&& (255 - 2 ^ w.k) })
/-- What input-ready does not show, the arrival of a word shows as it was taken. -/
theorem State.measArrive_keeps {β : Type} (v : State → β) (s : State) (h : Half) (q : Nat) (w : MeasWord)
    (hp : (s.run h q).phase = 1 ∨ (s.run h q).phase = 2) (hn : (s.run h q).ready = false) (hk : w.k < 8)
    (hv : ∀ t, v (State.inputReady t h q) = v t) : v (s.measArrive h q w.k w.valid w.word) = v (s.measTaken h q w) := by
  rw [State.measArrive, if_pos ⟨hp, hn, hk⟩]
  exact ite_keeps v (fun _ => hv _) fun _ => rfl
theorem State.measTx_modRun (s : State) (h : Half) (q : Nat) (f : SlotRun → SlotRun) :
    ((s.modRun h q f).half h).measTx = (s.half h).measTx := by rw [State.modRun, State.half_modHalf]

theorem measWordArrive_completes (h : Half) (w : MeasWord) (rest : List MeasWord) (q : Nat) (s : State) (hr : s.runs h = true)
    (htx : (s.half h).measTx = w :: rest) (hslot : s.slotOf h w.loop = some q)
    (hp : (s.run h q).phase = 1 ∨ (s.run h q).phase = 2) (hn : (s.run h q).ready = false) (hk : w.k < 8) :
    Gives (.measWordArrive h) s (fun t => (t.half h).measTx = rest ∧ Map.get (fun _ => 0) (t.run h q).raw w.k = w.word
      ∧ (t.run h q).arrived = (s.run h q).arrived ||| 2 ^ w.k ∧ SameMem s t ∧ SameRegs s t (fun _ => False)) := by
  let u := s.modHalf h (fun x => { x with measTx := rest })
  have hrun : u.run h q = s.run h q := State.run_modHalf _ _ _ _ _ fun _ => rfl
  have hex : exec (.measWordArrive h) s = .next (u.measArrive h q w.k w.valid w.word) := by
    refine congrArg Host.Outcome.next ((State.onHalf_runs s h _ hr).trans ?_)
    have hu : (s.modHalf h (fun x => { x with measTx := rest })).slotOf h w.loop = some q := by
      rw [State.slotOf, State.fd, State.fd, State.rg_modHalf]
      exact hslot
    simp only [htx, hu, u]
  have keeps {β : Type} (v : State → β) := u.measArrive_keeps v h q w (hrun ▸ hp) (hrun ▸ hn) hk
  refine ⟨_, hex, ?_, ?_, ?_, fun a => ?_, fun a _ => ?_⟩
  · rw [keeps (fun t => (t.half h).measTx) fun t => t.measTx_modRun .., State.measTaken, State.measTx_modRun, State.half_modHalf]
  · rw [keeps (fun t => Map.get (fun _ => 0) (t.run h q).raw w.k) fun t => by simp [State.inputReady], State.measTaken,
      State.run_modRun, Map.get_set_same]
  · rw [keeps (fun t => (t.run h q).arrived) fun t => by simp [State.inputReady], State.measTaken, State.run_modRun, hrun]
  · rw [keeps (State.byte · a) fun t => t.byte_modRun .., State.measTaken, State.byte_modRun, State.byte_modHalf]
  · rw [keeps (State.rg · a) fun t => t.rg_modRun .., State.measTaken, State.rg_modRun, State.rg_modHalf]

theorem inWaitExpire_completes (h : Half) (q : Nat) (s : State) (hr : s.runs h = true)
    (hp : (s.run h q).phase = 1 ∨ (s.run h q).phase = 2) (hn : (s.run h q).ready = false) (hq : s.reqMask h q ≠ 0)
    (ht : (s.run h q).tick + s.fd (Slot.measReq h q) 31 16 * 10 ≤ s.now h) :
    Gives (.inWaitExpire h q) s (fun t => (t.run h q).ready = true
      ∧ (t.run h q).phase = (if (s.run h q).phase = 2 then 3 else 1) ∧ SameMem s t ∧ SameRegs s t (fun _ => False)) := by
  refine ⟨s.inputReady h q, congrArg Host.Outcome.next ((State.onHalf_runs s h _ hr).trans (if_pos ⟨hp, hn, hq, ht⟩)), ?_, ?_,
    fun a => State.byte_modRun .., fun a _ => State.rg_modRun ..⟩
  · rw [State.inputReady, State.run_modRun]
  · rw [State.inputReady, State.run_modRun]
    rcases hp with hp | hp <;> simp [hp]

/-! ### MISS_LIMIT, RESTART, CLEAR_COUNTS and CLEAR_LAT (R112, R121, R130) -/

theorem missLimitReached_completes (h : Half) (q : Nat) (s : State) (hr : s.runs h = true) (hm : s.missHit h q = true) :
    Gives (.missLimitReached h q) s (fun t => (t.run h q).missAct = true ∧ SameMem s t ∧ SameRegs s t (fun _ => False)) :=
  ⟨s.modRun h q (fun r => { r with missAct := true }), congrArg Host.Outcome.next ((State.onHalf_runs s h _ hr).trans (if_pos hm)),
    by rw [State.run_modRun], fun a => State.byte_modRun .., fun a _ => State.rg_modRun ..⟩

section
variable (h : Half) (q : Nat) (s : State) (hr : s.runs h = true) (hs : s.slotState h q ≠ 0)
  (hoos : s.bt (Eng.engStatus h (q / 8)) 2 = false)
include hr hs hoos

/-- A command of SLOT_CMD acts on a slot that is not EMPTY in an engine in service. -/
theorem slotCmd_acts (f : State → State) :
    s.onHalf h (fun s => if s.slotState h q = 0 ∨ s.bt (Eng.engStatus h (q / 8)) 2 then s else f s) = f s :=
  (State.onHalf_runs s h _ hr).trans (if_neg (by simp [hs, hoos]))
theorem slotRestart_completes :
    Gives (.slotRestart h q) s (fun t => (t.run h q).restart = true ∧ SameMem s t ∧ SameRegs s t (fun _ => False)) :=
  ⟨s.modRun h q (fun r => { r with restart := true }), congrArg Host.Outcome.next (slotCmd_acts h q s hr hs hoos _),
    by rw [State.run_modRun], fun a => State.byte_modRun .., fun a _ => State.rg_modRun ..⟩
theorem slotClearCounts_completes :
    Gives (.slotClearCounts h q) s (fun t => (t.run h q).clear = true ∧ SameMem s t ∧ SameRegs s t (fun _ => False)) :=
  ⟨s.modRun h q (fun r => { r with clear := true }), congrArg Host.Outcome.next (slotCmd_acts h q s hr hs hoos _),
    by rw [State.run_modRun], fun a => State.byte_modRun .., fun a _ => State.rg_modRun ..⟩
theorem clearLat_completes :
    Gives (.clearLat h q) s (fun t => t.rg (Eng.engLatMax h (q / 8)) = 0 ∧ t.rg (Eng.engLatOverCnt h (q / 8)) = 0
      ∧ t.rg (Eng.queueMax h (q / 8)) = 0 ∧ SameMem s t ∧ SameRegs s t (fun a => a = Eng.engLatMax h (q / 8)
          ∨ a = Eng.engLatOverCnt h (q / 8) ∨ a = Eng.queueMax h (q / 8))) := by
  refine ⟨((s.wr (Eng.engLatMax h (q / 8)) 0).wr (Eng.engLatOverCnt h (q / 8)) 0).wr (Eng.queueMax h (q / 8)) 0,
    congrArg Host.Outcome.next (slotCmd_acts h q s hr hs hoos _), ?_, ?_, ?_, fun a => ?_, fun a ha => ?_⟩
  · simp
  · simp
  · simp
  · simp
  · simp only [not_or] at ha
    simp [ha]
end

/-! ### STOP -/

/-- STOP stands in ENG_CTRL at once, live value and shadow. -/
def State.stopWritten (s : State) (h : Half) (e : Nat) (stop : Bool) : State :=
  (s.sb (Eng.engCtrl h e) 16 stop).wrSh (Eng.engCtrl h e) (setBit (s.sh (Eng.engCtrl h e)) 16 stop)
theorem slotBase_ne_engCtrl (h : Half) (q e o : Nat) (ho : o < 0x200) : slotBase h q + o ≠ Eng.engCtrl h e := by
  simp only [slotBase, engBase, Eng.engCtrl]
  omega
theorem State.slotState_stopWritten (s : State) (h : Half) (e : Nat) (stop : Bool) (q : Nat) :
    (s.stopWritten h e stop).slotState h q = s.slotState h q := by
  have hne : Slot.status h q ≠ Eng.engCtrl h e := slotBase_ne_engCtrl h q e 0xC0 (by decide)
  rw [State.slotState, State.stopWritten, State.fd, State.rg_wrSh, State.rg_sb, if_neg hne]
  rfl

theorem engStop_completes (h : Half) (e : Nat) (stop : Bool) (s : State) (hr : s.runs h = true)
    (hoos : s.bt (Eng.engStatus h e) 2 = false) :
    Gives (.engStop h e stop) s (fun t => t.bt (Eng.engCtrl h e) 16 = stop ∧ SameMem s t
      ∧ (stop = true → if (List.range 8).all (fun i => decide (s.slotState h (8 * e + i) = 0)) then t.bt (Eng.engStatus h e) 0 = true
          else t.bt (Eng.engStatus h e) 1 = true)
      ∧ (stop = false → t.bt (Eng.engStatus h e) 0 = false ∧ t.bt (Eng.engStatus h e) 1 = false)
      ∧ SameRegs s t (fun a => a = Eng.engCtrl h e ∨ a = Eng.engStatus h e)) := by
  have hne : Eng.engCtrl h e ≠ Eng.engStatus h e := by simp [Eng.engCtrl, Eng.engStatus]
  have keeps {β : Type} (v : State → β) (hv : ∀ t n b, v (State.sb t (Eng.engStatus h e) n b) = v t) :
      v ((s.stopWritten h e stop).engStop h e stop) = v (s.stopWritten h e stop) :=
    ite_keeps v (fun _ => ite_keeps v (fun _ => hv _ _ _) fun _ => hv _ _ _) fun _ => (hv _ _ _).trans (hv _ _ _)
  refine ⟨(s.stopWritten h e stop).engStop h e stop,
    congrArg Host.Outcome.next ((State.onHalf_runs s h _ hr).trans (if_neg (by simp [hoos]))), ?_, fun a => ?_, ?_, ?_, fun a ha => ?_⟩
  · rw [keeps (State.bt · (Eng.engCtrl h e) 16) fun t n b => t.bt_wr_other _ _ hne, State.bt, State.stopWritten, State.rg_wrSh,
      State.rg_sb, if_pos rfl, bit_setBit _ _ _ (by decide)]
  · rw [keeps (State.byte · a) fun t n b => t.byte_sb .., State.stopWritten, State.byte_wrSh, State.byte_sb]
  · rintro rfl
    simp only [State.engStop, if_true, State.slotState_stopWritten]
    split
    · exact State.bt_sb _ _ _ (by decide)
    · exact State.bt_sb _ _ _ (by decide)
  · rintro rfl
    exact ⟨(State.bt_fw_beside _ _ _ _ le_rfl (by decide)).trans (State.bt_sb _ _ _ (by decide)), State.bt_sb _ _ _ (by decide)⟩
  · obtain ⟨h1, h2⟩ := not_or.1 ha
    rw [keeps (State.rg · a) fun t n b => by rw [State.rg_sb, if_neg h2], State.stopWritten, State.rg_wrSh, State.rg_sb, if_neg h1]

end Sys2Proof.Machine
end


section
/-! The ends of the prepare and of the critical phase (R116, R120, R121, R123, R133, R137). -/
namespace Sys2Proof.Machine

/-! ### Words of the state area -/

/-- Consecutive words of the state area lie at or past its base. -/
theorem State.setSws_keeps {β : Type} (v : State → β) (s : State) (h : Half) (q off : Nat) (l : List Nat)
    (hw : ∀ t a w, stateBase h q ≤ a → v (State.wr t a w) = v t) : v (s.setSws h q off l) = v s := by
  induction l generalizing s off with
  | nil => rfl
  | cons x l ih =>
    rw [State.setSws, ih]
    exact hw _ _ _ (Nat.le_add_right ..)
@[simp] theorem State.run_setSws (s : State) (h : Half) (q off : Nat) (l : List Nat) : (s.setSws h q off l).run h q = s.run h q :=
  State.setSws_keeps (State.run · h q) s h q off l fun t _ _ _ => t.run_wr ..
@[simp] theorem State.byte_setSws (s : State) (h : Half) (q off a : Nat) (l : List Nat) : (s.setSws h q off l).byte a = s.byte a :=
  State.setSws_keeps (State.byte · a) s h q off l fun t _ _ _ => t.byte_wr ..
theorem slot_lt_stateBase (h : Half) (q : Nat) {o : Nat} (ho : o < 0x200) : slotBase h q + o < stateBase h q := by
  simp only [slotBase, stateBase]
  omega
theorem State.rg_setSws_slot (s : State) (h : Half) (q off : Nat) {o : Nat} (l : List Nat) (ho : o < 0x200) :
    (s.setSws h q off l).rg (slotBase h q + o) = s.rg (slotBase h q + o) :=
  State.setSws_keeps (State.rg · _) s h q off l fun t a w ha => by
    rw [State.rg_wr, if_neg (Nat.ne_of_lt ((slot_lt_stateBase h q ho).trans_le ha))]

/-! ### The end of the prepare phase -/

/-- The measurements that a sample waits for are those of SHAPE and MEAS_REQ. -/
theorem State.reqMask_of_rg {s t : State} {h : Half} {q : Nat} (h4 : t.rg (slotBase h q + 4) = s.rg (slotBase h q + 4))
    (h14 : t.rg (slotBase h q + 0x14) = s.rg (slotBase h q + 0x14)) : t.reqMask h q = s.reqMask h q := by
  simp only [State.reqMask, State.pOf, State.dw, State.fd, h4, h14]
/-- Steps 1 to 3 leave their results in the state area and in the run, and the slot waits for its measurements. -/
theorem State.prepareEnd_ok {s : State} {h : Half} {q : Nat} {o : PrepOut} (hp : (s.run h q).phase = 1)
    (ho : s.lawPrepare h q = .ok o) (hn : (s.run h q).ready = false) :
    ∃ f : SlotRun → SlotRun, (s.prepareEnd h q =
        let u := ((((s.setSws h q 0x80 o.c).setSws h q 0xA0 o.v).modRun h q f).sb (Slot.status h q) 7 false).modRun h q
          (fun r => { r with phase := 2 })
        if u.reqMask h q = 0 then u.inputReady h q else u)
      ∧ ∀ r, (f r).comp = toWords (o.comps.map (·.comp)) ∧ (f r).src = o.src := by
  rw [State.prepareEnd, if_neg (by simp [hp]), ho]
  refine ⟨_, if_neg ?_, fun r => ⟨rfl, rfl⟩⟩
  simp [hn]

theorem preparePhaseEnd_ok (h : Half) (q : Nat) (s : State) (hr : s.runs h = true) (hp : (s.run h q).phase = 1) (o : PrepOut)
    (ho : s.lawPrepare h q = .ok o) (hn : (s.run h q).ready = false) :
    Gives (.preparePhaseEnd h q) s (fun t =>
      (t.run h q).phase = (if s.reqMask h q = 0 then 3 else 2) ∧ (t.run h q).comp = toWords (o.comps.map (·.comp))
      ∧ (t.run h q).src = o.src ∧ t.bt (Slot.status h q) 7 = false ∧ SameMem s t) := by
  obtain ⟨f, hend, hf⟩ := State.prepareEnd_ok hp ho hn
  set u := ((((s.setSws h q 0x80 o.c).setSws h q 0xA0 o.v).modRun h q f).sb (Slot.status h q) 7 false).modRun h q
    (fun r => { r with phase := 2 }) with hu
  have hrun : u.run h q = { f (s.run h q) with phase := 2 } := by simp [hu]
  have hslot (k : Nat) (hk : k < 0x200) (hne : k ≠ 0xC0) : u.rg (slotBase h q + k) = s.rg (slotBase h q + k) := by
    rw [hu, State.rg_modRun, State.rg_sb, if_neg (by simpa [Slot.status] using hne), State.rg_modRun, State.rg_setSws_slot _ _ _ _ _ hk,
      State.rg_setSws_slot _ _ _ _ _ hk]
  have hreq : u.reqMask h q = s.reqMask h q := State.reqMask_of_rg (hslot _ (by decide) (by decide)) (hslot _ (by decide) (by decide))
  refine ⟨_, congrArg Host.Outcome.next ((State.onHalf_runs s h _ hr).trans hend), ?_⟩
  simp only [hreq]
  obtain ⟨hcomp, hsrc⟩ := hf (s.run h q)
  have hbit : u.bt (Slot.status h q) 7 = false := by
    rw [hu, State.bt, State.rg_modRun]
    exact State.bt_sb _ _ _ (by decide)
  have hmem (a : Nat) : u.byte a = s.byte a := by simp [hu]
  split
  · refine ⟨?_, ?_, ?_, ?_, fun a => ?_⟩
    · simp [State.inputReady, hrun]
    · simpa [State.inputReady, hrun] using hcomp
    · simpa [State.inputReady, hrun] using hsrc
    · simpa [State.inputReady, State.bt] using hbit
    · simpa [State.inputReady] using hmem a
  · rw [hrun]
    exact ⟨rfl, hcomp, hsrc, hbit, hmem⟩
theorem preparePhaseEnd_error (h : Half) (q : Nat) (s : State) (hr : s.runs h = true) (hp : (s.run h q).phase = 1) (e : Nat × Nat)
    (he : s.lawPrepare h q = .error e) :
    Gives (.preparePhaseEnd h q) s (fun t => t.slotState h q = 2 ∧ (t.run h q).phase = 0
      ∧ t.fd (Slot.faultInfo h q) 3 0 = 1) := by
  have hend : s.prepareEnd h q = s.instFault h q 1 e.1 e.2 true := by
    rw [State.prepareEnd, if_neg (by simp [hp]), he]
  refine ⟨_, congrArg Host.Outcome.next ((State.onHalf_runs s h _ hr).trans hend), s.slotState_instFault .., ?_,
    s.cause_instFault h q _ _ _ (by decide)⟩
  exact congrArg Prod.fst (s.progress_instFault h q 1 e.1 e.2 true)

/-! ### The end of the critical phase -/

/-- Step 4 stands in the state area and in the run; a required measurement that is missing shows and counts (R120, R121). -/
def State.measured (s : State) (h : Half) (q : Nat) : State :=
  let ms := s.lawMeasures h q
  let s := ((s.setSws h q 0xB0 ms.y).setSws h q 0xD0 ms.nu).modRun h q (fun r => { r with invalid := ms.invalid })
  let miss := decide (ms.invalid &&& s.reqMask h q ≠ 0)
  let s := s.sb (Slot.status h q) 5 miss
  if miss then s.satF (Slot.eventCnt h q) 31 16 1 else s
/-- The command of steps 5 to 7 stands in the run and leaves (R116, R124). -/
def State.commandOut (s : State) (h : Half) (q : Nat) (o : CritOut) : State :=
  let coast := decide (3 ≤ (s.run h q).loss)
  let s := s.modRun h q (fun r => { r with
    phase := 4
    u := toWords o.u
    out := toWords o.out
    sent := toWords o.out
    sentCoast := coast })
  (o.u.zip (List.range 4)).foldl (fun t x => t.wn (Slot.uOut h q x.2) x.1) (s.sendWords h q (o.out.map some) coast)
/-- SAT_STATE shows the saturation of a sample and counts it (R123). -/
def State.satShown (s : State) (h : Half) (q flags : Nat) : State :=
  let s := s.fw (Slot.satState h q) 11 0 flags
  if flags = 0 then s else s.satF (Slot.satState h q) 31 16 1
/-- The greatest latencies, the longest queue and the latencies over the engine's limit (R137). -/
def State.latencyPeaks (s : State) (h : Half) (q lat queue : Nat) : State :=
  let e := q / 8
  let l := if lat < 65535 then lat else 65535
  let s := if s.fd (Slot.latency h q) 31 16 < l then s.fw (Slot.latency h q) 31 16 l else s
  let s := if s.fd (Eng.engLatMax h e) 15 0 < l then s.fw (Eng.engLatMax h e) 15 0 l else s
  let s := if s.fd (Eng.queueMax h e) 3 0 < queue then s.fw (Eng.queueMax h e) 3 0 queue else s
  let lim := s.fd (Eng.engCtrl h e) 15 0
  if (if lim = 0 then 1200 else lim) < lat then (s.sat (Eng.engLatOverCnt h e)).tally h (0x0700 + e) else s

section
variable {s : State} {h : Half} {q : Nat} (lat queue : Nat) (hp : (s.run h q).phase = 3)
include hp

/-- A step that faults leaves the measurements (R121, R127). -/
theorem State.criticalEnd_error {e : Nat × Nat} (he : s.lawCritical h q (s.lawMeasures h q).nu = .error e) :
    s.criticalEnd h q lat queue = (s.measured h q).instFault h q 1 e.1 e.2 true := by
  rw [State.criticalEnd, if_neg (by simp [hp])]
  dsimp only
  rw [he]
  rfl
/-- Measurements, command, saturation and latency, in this order (R116, R123, R137). -/
theorem State.criticalEnd_ok {o : CritOut} (ho : s.lawCritical h q (s.lawMeasures h q).nu = .ok o) :
    s.criticalEnd h q lat queue = ((((s.measured h q).commandOut h q o).satShown h q o.flags).fw (Slot.latency h q) 15 0
      (if lat < 65535 then lat else 65535)).latencyPeaks h q lat queue := by
  rw [State.criticalEnd, if_neg (by simp [hp])]
  dsimp only
  rw [ho]
  rfl
end

end Sys2Proof.Machine
end


section
/-! What the end of the critical phase shows (R116, R123, R137). -/
namespace Sys2Proof.Machine

@[simp] theorem State.run_tally (s : State) (h : Half) (q ev : Nat) : (s.tally h ev).run h q = s.run h q := by
  obtain ⟨c, hc⟩ := s.half_tally h ev
  rw [State.run, hc, State.run]
/-- No counter of Tally lies among the engines. -/
theorem State.rg_tally_eng (s : State) (h : Half) (ev : Nat) {a : Nat} (ha : h.base + 0x10000000 ≤ a) :
    (s.tally h ev).rg a = s.rg a := State.rg_tally_of_not_eventReg _ _ _ _ (not_eventReg_eng h a ha)

/-- What a run keeps while its command leaves: the phase, the words, and which measurements were invalid. -/
def SlotRun.command (r : SlotRun) : Nat × List Word × Nat := (r.phase, r.out, r.invalid)

section
variable (s : State) (h : Half) (q : Nat)

theorem State.run_measured : (s.measured h q).run h q = { s.run h q with invalid := (s.lawMeasures h q).invalid } := by
  simp only [State.measured]
  split <;> simp
theorem State.byte_measured (a : Nat) : (s.measured h q).byte a = s.byte a := by
  simp only [State.measured]
  split <;> simp
theorem State.command_commandOut (o : CritOut) :
    ((s.commandOut h q o).run h q).command = (4, toWords o.out, (s.run h q).invalid) := by
  have hv : SlotQuiet (fun t => (t.run h q).command) h q := .of_run SlotRun.command h q (fun _ _ _ => rfl) fun _ _ => rfl
  simp only [State.commandOut]
  rw [foldl_keeps (fun t => (t.run h q).command) _ _ _ fun t x => by rw [State.run_wn], hv.sendWords, State.run_modRun]
  rfl
theorem State.byte_commandOut (o : CritOut) (a : Nat) : (s.commandOut h q o).byte a = s.byte a := by
  simp only [State.commandOut]
  rw [foldl_keeps (State.byte · a) _ _ _ fun t x => t.byte_wn .., (SlotQuiet.of_byte h q a).sendWords, State.byte_modRun]
@[simp] theorem State.run_satShown (n : Nat) : (s.satShown h q n).run h q = s.run h q := by
  simp only [State.satShown]
  split <;> simp
@[simp] theorem State.byte_satShown (n a : Nat) : (s.satShown h q n).byte a = s.byte a := by
  simp only [State.satShown]
  split <;> simp
theorem State.flags_satShown (n : Nat) : (s.satShown h q n).fd (Slot.satState h q) 11 0 = n % 4096 :=
  (ite_keeps (State.fd · (Slot.satState h q) 11 0) (fun _ => rfl)
    fun _ => State.fd_fw_beside _ _ _ _ (by decide) (by decide) (by decide)).trans
    (State.fd_fw _ _ _ (by decide) (by decide))
/-- What the engine's registers below its slots, the greatest latency of the slot and Tally do not show, the peaks keep. -/
theorem State.latencyPeaks_keeps {β : Type} (v : State → β) (lat queue : Nat)
    (hl : ∀ t n, v (State.fw t (Slot.latency h q) 31 16 n) = v t) (he : ∀ t a w, a < slotBase h q → v (State.wr t a w) = v t)
    (ht : ∀ t ev, v (State.tally t h ev) = v t) : v (s.latencyPeaks h q lat queue) = v s := by
  have low (n : Nat) (hn : n < 0x1000) : h.base + 0x10000000 + n + 0x40000 * (q / 8) < slotBase h q := by
    simp only [slotBase, engBase]
    omega
  simp only [State.latencyPeaks]
  refine (ite_keeps v (fun _ => (ht _ _).trans (he _ _ _ (low 0x1C (by decide)))) fun _ => rfl).trans ?_
  refine (ite_keeps v (fun _ => he _ _ _ (low 0x20 (by decide))) fun _ => rfl).trans ?_
  refine (ite_keeps v (fun _ => he _ _ _ (low 0x18 (by decide))) fun _ => rfl).trans ?_
  exact ite_keeps v (fun _ => hl _ _) fun _ => rfl
@[simp] theorem State.run_latencyPeaks (lat queue : Nat) : (s.latencyPeaks h q lat queue).run h q = s.run h q :=
  s.latencyPeaks_keeps h q (State.run · h q) _ _ (fun t _ => t.run_fw ..) (fun t _ _ _ => t.run_wr ..) fun t _ => t.run_tally ..
@[simp] theorem State.byte_latencyPeaks (lat queue a : Nat) : (s.latencyPeaks h q lat queue).byte a = s.byte a :=
  s.latencyPeaks_keeps h q (State.byte · a) _ _ (fun t _ => t.byte_fw ..) (fun t _ _ _ => t.byte_wr ..) fun t _ => t.byte_tally ..
/-- Every low field of a slot's registers stays as it was. -/
theorem State.fd_latencyPeaks (lat queue : Nat) {o hi : Nat} (hh : hi < 16) :
    (s.latencyPeaks h q lat queue).fd (slotBase h q + o) hi 0 = s.fd (slotBase h q + o) hi 0 :=
  s.latencyPeaks_keeps h q (State.fd · (slotBase h q + o) hi 0) _ _
    (fun t _ => t.fd_fw_beside _ _ _ (by decide) (by omega) (.inl hh))
    (fun t a _ ha => t.fd_wr_other _ _ _ (by omega))
    fun t ev => congrArg (bits · hi 0) (t.rg_tally_eng h ev ((slotBase_ge h q).trans' (by omega) |>.trans (Nat.le_add_right ..)))
end

theorem criticalPhaseEnd_ok (h : Half) (q lat queue : Nat) (s : State) (hr : s.runs h = true) (hp : (s.run h q).phase = 3)
    (o : CritOut) (ho : s.lawCritical h q (s.lawMeasures h q).nu = .ok o) :
    Gives (.criticalPhaseEnd h q lat queue) s (fun t =>
      (t.run h q).phase = 4 ∧ (t.run h q).out = toWords o.out ∧ (t.run h q).invalid = (s.lawMeasures h q).invalid
      ∧ t.fd (Slot.latency h q) 15 0 = min lat 65535 ∧ t.fd (Slot.satState h q) 11 0 = o.flags % 4096 ∧ SameMem s t) := by
  refine ⟨_, congrArg Host.Outcome.next ((State.onHalf_runs s h _ hr).trans (State.criticalEnd_ok lat queue hp ho)), ?_⟩
  have hcmd := (s.measured h q).command_commandOut h q o
  simp only [SlotRun.command, Prod.mk.injEq, State.run_measured] at hcmd
  obtain ⟨hphase, hout, hinvalid⟩ := hcmd
  refine ⟨?_, ?_, ?_, ?_, ?_, fun a => ?_⟩
  · simpa using hphase
  · simpa using hout
  · simpa using hinvalid
  · refine (State.fd_latencyPeaks _ _ _ _ _ (o := 0xD0) (by decide)).trans ((State.fd_fw _ _ _ (by decide) (by decide)).trans ?_)
    split <;> omega
  · refine (State.fd_latencyPeaks _ _ _ _ _ (o := 0xD8) (by decide)).trans ((State.fd_wr_other _ _ _ _ ?_).trans ?_)
    · simp [Slot.latency]
    · exact State.flags_satShown ..
  · simp [State.byte_commandOut, State.byte_measured]
theorem criticalPhaseEnd_error (h : Half) (q lat queue : Nat) (s : State) (hr : s.runs h = true) (hp : (s.run h q).phase = 3)
    (e : Nat × Nat) (he : s.lawCritical h q (s.lawMeasures h q).nu = .error e) :
    Gives (.criticalPhaseEnd h q lat queue) s (fun t => t.slotState h q = 2 ∧ (t.run h q).phase = 0) :=
  ⟨_, congrArg Host.Outcome.next ((State.onHalf_runs s h _ hr).trans (State.criticalEnd_error lat queue hp he)),
    State.slotState_instFault .., congrArg Prod.fst ((s.measured h q).progress_instFault h q 1 e.1 e.2 true)⟩

end Sys2Proof.Machine
end


section
/-! The end of the finish phase (R116, R118, R135): the sample has ended, whatever a commit that waited brings with it. -/
namespace Sys2Proof.Machine

/-- The phase of slot `q`'s sample, and whether its input is ready. -/
def samplePhase (h : Half) (q : Nat) (s : State) : Nat × Bool := ((s.run h q).phase, (s.run h q).ready)

section
variable (h : Half) (q : Nat) (s : State)

/-! ### State operations -/

theorem samplePhase_of_run {s t : State} (hr : t.run h q = s.run h q) : samplePhase h q t = samplePhase h q s := by
  rw [samplePhase, hr, samplePhase]
@[simp] theorem samplePhase_wr (a : Nat) (w : Word) : samplePhase h q (s.wr a w) = samplePhase h q s :=
  samplePhase_of_run h q (s.run_wr ..)
@[simp] theorem samplePhase_wrSh (a : Nat) (w : Word) : samplePhase h q (s.wrSh a w) = samplePhase h q s :=
  samplePhase_of_run h q (s.run_wrSh ..)
@[simp] theorem samplePhase_fw (a hi lo n : Nat) : samplePhase h q (s.fw a hi lo n) = samplePhase h q s := samplePhase_wr ..
@[simp] theorem samplePhase_sb (a n : Nat) (b : Bool) : samplePhase h q (s.sb a n b) = samplePhase h q s := samplePhase_wr ..
@[simp] theorem samplePhase_satF (a hi lo n : Nat) : samplePhase h q (s.satF a hi lo n) = samplePhase h q s := samplePhase_wr ..
@[simp] theorem samplePhase_setMapBit (a i : Nat) (b : Bool) : samplePhase h q (s.setMapBit a i b) = samplePhase h q s :=
  samplePhase_wr ..
theorem samplePhase_modHalf (f : HalfSt → HalfSt) (hf : ∀ x, (f x).slots = x.slots) :
    samplePhase h q (s.modHalf h f) = samplePhase h q s := samplePhase_of_run h q (s.run_modHalf _ _ _ _ hf)
theorem samplePhase_modRun (f : SlotRun → SlotRun) (hf : ∀ r, ((f r).phase, (f r).ready) = (r.phase, r.ready)) :
    samplePhase h q (s.modRun h q f) = samplePhase h q s := by
  rw [samplePhase, State.run_modRun, hf, samplePhase]
@[simp] theorem samplePhase_raise (src : Nat) : samplePhase h q (s.raise h src) = samplePhase h q s := by
  rcases s.raise_cases h src with e | e | e <;> rw [e] <;> simp
@[simp] theorem samplePhase_raiseEng (e k : Nat) : samplePhase h q (s.raiseEng h e k) = samplePhase h q s := by
  simp [State.raiseEng]
@[simp] theorem samplePhase_tally (ev : Nat) : samplePhase h q (s.tally h ev) = samplePhase h q s :=
  samplePhase_of_run h q (s.run_tally ..)
@[simp] theorem samplePhase_loopReport (c : Nat) (d : List Nat) : samplePhase h q (s.loopReport h q c d) = samplePhase h q s :=
  ite_keeps (samplePhase h q) (fun _ => rfl) fun _ => ite_keeps (samplePhase h q) (fun _ => rfl)
    fun _ => samplePhase_modHalf h q s _ fun _ => rfl
@[simp] theorem samplePhase_traceClose (n : Nat) : samplePhase h q (s.traceClose h q n) = samplePhase h q s :=
  (SlotQuiet.of_run (fun r => (r.phase, r.ready)) h q (fun _ _ _ => rfl) fun _ _ => rfl).traceClose s n

/-! ### A commit of the slot's unit (R50, R120) -/

@[simp] theorem samplePhase_firstDue (b : Bool) : samplePhase h q (s.firstDue h q b) = samplePhase h q s := by
  simp [State.firstDue]
@[simp] theorem samplePhase_lossEnd (n : Nat) : samplePhase h q (s.lossEnd h q n) = samplePhase h q s := by
  have hshow (t : State) : samplePhase h q (t.lossShow h q false) = samplePhase h q t := by
    simp [State.lossShow, State.engCond]
  simp only [State.lossEnd]
  split
  · rfl
  · simp [hshow]
@[simp] theorem samplePhase_srcSet (n : Nat) : samplePhase h q (s.srcSet h q n) = samplePhase h q s := by
  simp only [State.srcSet]
  split <;> simp
theorem samplePhase_slotCommitted (o : State) : samplePhase h q (s.slotCommitted o h q) = samplePhase h q s := by
  unfold State.slotCommitted
  extract_lets lim limited due lost off wr cleared done changed
  have hlimited : samplePhase h q limited = samplePhase h q s := ite_keeps _ (fun _ => samplePhase_fw ..) fun _ => rfl
  have hdue : samplePhase h q due = samplePhase h q limited := ite_keeps _ (fun _ => samplePhase_firstDue ..) fun _ => rfl
  have hlost : samplePhase h q lost = samplePhase h q due := ite_keeps _ (fun _ => samplePhase_lossEnd ..) fun _ => rfl
  have hoff : samplePhase h q off = samplePhase h q lost := ite_keeps _ (fun _ => samplePhase_srcSet ..) fun _ => rfl
  have hcleared : samplePhase h q cleared = samplePhase h q off := foldl_keeps _ _ _ _ fun t j =>
    ite_keeps _ (fun _ => (samplePhase_sb ..).trans (samplePhase_sb ..)) fun _ => rfl
  have hdone : samplePhase h q done = samplePhase h q cleared := samplePhase_modRun h q cleared _ fun _ => rfl
  rw [← hlimited, ← hdue, ← hlost, ← hoff, ← hcleared, ← hdone]
  exact ite_keeps (samplePhase h q) (fun _ => samplePhase_traceClose ..) fun _ => rfl
theorem samplePhase_forwardCommit (o : State) : samplePhase h q (s.forwardCommit o h q) = samplePhase h q s :=
  ite_keeps (samplePhase h q) (fun _ => (samplePhase_tally ..).trans (samplePhase_modHalf h q s _ fun _ => rfl)) fun _ => rfl
theorem samplePhase_recompute (e : Nat) : samplePhase h q (s.recompute h e) = samplePhase h q s := by
  simp only [State.recompute]
  rw [foldl_keeps (samplePhase h q)]
  · simp
  · intro t k
    split <;> simp
theorem samplePhase_copySlot (g : Half) (src dst : Nat) : samplePhase h q (s.copySlot g src h dst) = samplePhase h q s := by
  have live (t : State) (a b n : Nat) : samplePhase h q (t.copyLive a b n) = samplePhase h q t :=
    foldl_keeps (samplePhase h q) _ _ t fun _ _ => samplePhase_wr ..
  have shadow (t : State) (a b n : Nat) : samplePhase h q (t.copyShadow a b n) = samplePhase h q t :=
    foldl_keeps (samplePhase h q) _ _ t fun _ _ => samplePhase_wrSh ..
  simp only [State.copySlot, live, shadow]
@[simp] theorem samplePhase_moveSync : samplePhase h q (s.moveSync h q) = samplePhase h q s := by
  simp only [State.moveSync]
  split
  · rw [samplePhase_fw, samplePhase_copySlot]
  · rfl
theorem samplePhase_commitSlot : samplePhase h q (s.commitSlot h q) = samplePhase h q s := by
  rw [State.commitSlot, State.settle_keeps (samplePhase h q), samplePhase_moveSync, samplePhase_raiseEng, samplePhase_recompute,
    samplePhase_forwardCommit, samplePhase_slotCommitted]
  · exact State.copyUnit_keeps (samplePhase h q) _ _ (fun _ _ _ => samplePhase_wr ..) fun _ _ _ => rfl
  · exact State.setPend_keeps (samplePhase h q) _ _ _ _ fun _ _ => samplePhase_sb ..
theorem samplePhase_waitCommit : samplePhase h q (s.waitCommit h q) = samplePhase h q s :=
  (ite_keeps (samplePhase h q) (fun _ => samplePhase_commitSlot ..) fun _ => rfl).trans (samplePhase_modRun h q s _ fun _ => rfl)
end

/-! ### FINISH_PHASE_END -/

theorem samplePhase_finishEnd (h : Half) (q : Nat) (s : State) (hp : (s.run h q).phase = 4) :
    samplePhase h q (s.finishEnd h q) = (0, false) := by
  rw [State.finishEnd, if_neg (by simp [hp])]
  split
  · rw [samplePhase_waitCommit]
    exact congrArg (fun p : Nat × Bool × Bool => (p.1, p.2.1)) (s.progress_instFault ..)
  · rw [samplePhase_waitCommit]
    refine (ite_keeps (samplePhase h q) (fun _ => samplePhase_moveSync ..) fun _ => rfl).trans ?_
    rw [samplePhase, State.run_modRun]
theorem finishPhaseEnd_completes (h : Half) (q : Nat) (s : State) (hr : s.runs h = true) (hp : (s.run h q).phase = 4) :
    Gives (.finishPhaseEnd h q) s (fun t => (t.run h q).phase = 0 ∧ (t.run h q).ready = false
      ∧ ∀ e, s.lawFinish h q = .error e → (s.run h q).packets = [] → (s.run h q).cmtWait = false → t.slotState h q = 2) := by
  have hphase := samplePhase_finishEnd h q s hp
  refine ⟨s.finishEnd h q, congrArg Host.Outcome.next (State.onHalf_runs s h _ hr), congrArg Prod.fst hphase,
    congrArg Prod.snd hphase, fun e he _ hw => ?_⟩
  have hwait : ((s.instFault h q 1 e.1 e.2 false).run h q).cmtWait = false :=
    (congrArg (·.2.2) (s.progress_instFault h q 1 e.1 e.2 false)).trans hw
  rw [State.finishEnd, if_neg (by simp [hp]), he]
  simp only [State.waitCommit_idle _ _ _ hwait]
  exact (congrArg (bits · 1 0) (State.rg_modRun ..)).trans (State.slotState_instFault ..)

end Sys2Proof.Machine
end


section
/-! SUPPORT. What the router, the field deck and the halves' roles leave of a slot at its sample boundary (R31, R39, R412, R517, R608). -/
namespace Sys2Proof.Machine

/-- Of a half: what a sample boundary reads beside registers. -/
def HalfSt.boundary (x : HalfSt) : Map SlotRun × Bool × List (Nat × Bool) × Nat :=
  (x.slots, x.snap.reached, x.ctl.fwdWait, x.time.acc)
/-- What a sample boundary of slot `q` reads: the engines' registers, the slot's run, the state of its half, marks, words that the
partner has forwarded, and ship time. -/
structure SampleView where
  regs : Nat → Word
  run : SlotRun
  hstate : Nat
  marked : List CUnit
  reached : Bool
  fwdWait : List (Nat × Bool)
  now : Nat
def sampleView (h : Half) (q : Nat) (s : State) : SampleView where
  regs o := s.rg (h.base + 0x10000000 + o)
  run := s.run h q
  hstate := s.hstate h
  marked := s.marked
  reached := (s.half h).snap.reached
  fwdWait := (s.half h).ctl.fwdWait
  now := s.now h

section
variable {h : Half} {q : Nat} {s t : State} (hv : sampleView h q t = sampleView h q s)
include hv
theorem rg_of_sampleView {a : Nat} (ha : h.base + 0x10000000 ≤ a) : t.rg a = s.rg a := by
  have e := congrFun (congrArg SampleView.regs hv) (a - (h.base + 0x10000000))
  simp only [sampleView] at e
  rwa [Nat.add_sub_cancel' ha] at e
theorem rg_slot_of_sampleView (o : Nat) : t.rg (slotBase h q + o) = s.rg (slotBase h q + o) :=
  rg_of_sampleView hv ((slotBase_ge h q).trans' (by omega) |>.trans (Nat.le_add_right ..))
theorem rg_state_of_sampleView (o : Nat) : t.rg (stateBase h q + o) = s.rg (stateBase h q + o) :=
  rg_of_sampleView hv (by simp only [stateBase, engBase]; omega)
theorem run_of_sampleView : t.run h q = s.run h q := congrArg SampleView.run hv
theorem hstate_of_sampleView : t.hstate h = s.hstate h := congrArg SampleView.hstate hv
theorem fwdWait_of_sampleView : (t.half h).ctl.fwdWait = (s.half h).ctl.fwdWait := congrArg SampleView.fwdWait hv
theorem now_of_sampleView : t.now h = s.now h := congrArg SampleView.now hv
theorem slotMarked_of_sampleView : t.slotMarked h q = s.slotMarked h q := by
  have hm : t.marked = s.marked := congrArg SampleView.marked hv
  have hs : (t.half h).snap.reached = (s.half h).snap.reached := congrArg SampleView.reached hv
  rw [State.slotMarked, hm, hs, State.slotMarked]
end

/-! ### State operations -/

section
variable (h : Half) (q : Nat) (s : State)

theorem sampleView_wr (a : Nat) (w : Word) (ha : a < h.base + 0x10000000) (hs : a ≠ HalfR.halfStatus h) :
    sampleView h q (s.wr a w) = sampleView h q s := by
  have hrg (b : Nat) (hb : h.base + 0x10000000 ≤ b ∨ b = HalfR.halfStatus h) : (s.wr a w).rg b = s.rg b := by
    rw [State.rg_wr, if_neg (by omega)]
  simp [sampleView, State.hstate, State.fd, hrg, State.now, State.run_wr]
theorem sampleView_modHalf (f : HalfSt → HalfSt) (hf : ∀ x, (f x).boundary = x.boundary) :
    sampleView h q (s.modHalf h f) = sampleView h q s := by
  have hx := hf (s.half h)
  simp only [HalfSt.boundary, Prod.mk.injEq] at hx
  obtain ⟨hslots, hsnap, hfwd, htime⟩ := hx
  simp [sampleView, State.hstate, State.fd, State.now, State.run, hslots, hsnap, hfwd, htime]
theorem sampleView_modDeck (f : DeckSt → DeckSt) (hf : ∀ d, (f d).straps = d.straps) :
    sampleView h q (s.modDeck f) = sampleView h q s := by
  have hrg (a : Nat) : (s.modDeck f).rg a = s.rg a := State.rg_modDeck _ _ _ (hf _)
  simp [sampleView, State.hstate, State.fd, State.now, State.run, hrg]
theorem sampleView_setRole (n r : Nat) (hn : n < 4096) : sampleView h q (s.setRole h n r) = sampleView h q s := by
  have := loopMapAt_lt h hn
  refine sampleView_wr h q s _ _ (by omega) ?_
  simp only [HalfR.halfStatus]
  omega
/-- A register of the analog channels. -/
theorem sampleView_wr_anc (a : Nat) (w : Word) (h1 : 0x1000000 ≤ a) (h2 : a < 0x2000000) :
    sampleView h q (s.wr a w) = sampleView h q s := by
  refine sampleView_wr h q s a w (by omega) ?_
  cases h <;> simp only [HalfR.halfStatus, Half.base] <;> omega
theorem sampleView_chanShow (c : Nat) (hc : c < 4096) : sampleView h q (s.chanShow c) = sampleView h q s := by
  have status (t : State) (n : Nat) (b : Bool) : sampleView h q (t.sb (Anc.chStatus c) n b) = sampleView h q t :=
    sampleView_wr_anc h q t _ _ (by simp only [Anc.chStatus]; omega) (by simp only [Anc.chStatus]; omega)
  have cond (t : State) (b : Bool) : sampleView h q (t.setMapBit (Anc.condMap 0) c b) = sampleView h q t :=
    sampleView_wr_anc h q t _ _ (by simp only [Anc.condMap]; omega) (by simp only [Anc.condMap]; omega)
  simp only [State.chanShow, cond, status]

/-! ### A boundary's surroundings -/

/-- The sample clock has ticked (R517). -/
def State.clockTick (s : State) (h : Half) (q : Nat) : State :=
  let c := s.sclk h q
  let now := s.now h
  s.modHalf h (fun x => { x with time := { x.time with
    sclkLast := Map.set (fun _ => 0) x.time.sclkLast c now
    sclkTick := Map.set (fun _ => 0) x.time.sclkTick c x.time.ticks
    sclkStepped := x.time.sclkStepped.filter (· != c) } })
theorem sampleView_clockTick : sampleView h q (s.clockTick h q) = sampleView h q s := by
  rw [State.clockTick, sampleView_modHalf]
  exact fun _ => rfl
theorem sampleView_routeTick (l : Nat) : sampleView h q (s.routeTick h l) = sampleView h q s := by
  rw [State.routeTick, sampleView_modDeck]
  · exact ite_keeps (sampleView h q) (fun _ => sampleView_modHalf h q s _ fun _ => rfl) fun _ => rfl
  · exact fun _ => rfl
theorem sampleView_motSample (l : Nat) : sampleView h q (s.motSample h l) = sampleView h q s :=
  ite_keeps (sampleView h q) (fun _ => rfl) fun _ => foldl_keeps (sampleView h q) _ _ s fun t k => by
    refine ite_keeps (sampleView h q) (fun _ => ?_) fun _ => rfl
    split
    · exact sampleView_modHalf h q t _ fun _ => rfl
    · rfl
theorem sampleView_ancSample (l : Nat) : sampleView h q (s.ancSample h l) = sampleView h q s :=
  ite_keeps (sampleView h q) (fun _ => rfl) fun _ => by
    rw [foldl_keeps (sampleView h q)]
    · exact sampleView_modHalf h q s _ fun _ => rfl
    · intro t k
      refine ite_keeps (sampleView h q) (fun _ => ?_) fun _ => rfl
      rw [sampleView_chanShow _ _ _ _ (bits_lt _ 15 4)]
      exact sampleView_modHalf h q t _ fun _ => rfl
/-- A half that is not JOINING has no join to end (R412). -/
theorem State.joinCheck_idle (hj : s.hstate h ≠ 2) : s.joinCheck h = s := by
  simp [State.joinCheck, State.mayAlign, hj]
/-- What follows a slot's own part of its boundary: the values of its loop's motion ports and analog channels. -/
def State.afterSample (s : State) (h : Half) (l : Nat) : State := ((s.motSample h l).ancSample h l).joinCheck h
theorem sampleView_afterSample (l : Nat) (hj : s.hstate h ≠ 2) : sampleView h q (s.afterSample h l) = sampleView h q s := by
  have hv : sampleView h q ((s.motSample h l).ancSample h l) = sampleView h q s := by
    rw [sampleView_ancSample, sampleView_motSample]
  rw [State.afterSample, State.joinCheck_idle _ _ (ne_of_eq_of_ne (hstate_of_sampleView hv) hj), hv]
end

theorem execSampleTick_due (h : Half) (q : Nat) (s : State) (hr : s.runs h = true) (hst : s.slotState h q = 1)
    (hoos : s.bt (Eng.engStatus h (q / 8)) 2 = false) (hd : s.sampleDue h q = true) :
    ∃ u l, sampleView h q u = sampleView h q s ∧ exec (.sampleTick h q) s = .next ((u.sampleTick h q).afterSample h l) := by
  refine ⟨(s.clockTick h q).routeTick h ((s.clockTick h q).slotLoop h q), _, ?_,
    congrArg Host.Outcome.next ((State.onHalf_runs s h _ hr).trans (if_neg (by simp [hst, hoos, hd])))⟩
  rw [sampleView_routeTick, sampleView_clockTick]

end Sys2Proof.Machine
end


section
/-! A sample boundary: the prepare phase begins, or the tick is skipped (R115, R116, R119, R135); and all commands of a slot
together. -/
namespace Sys2Proof.Machine

theorem State.slotMarked_congr {s t : State} {h : Half} {q : Nat} (hm : t.marked = s.marked)
    (hs : (t.half h).snap.reached = (s.half h).snap.reached) : t.slotMarked h q = s.slotMarked h q := by
  rw [State.slotMarked, hm, hs, State.slotMarked]
@[simp] theorem State.slotMarked_wr (s : State) (h : Half) (q a : Nat) (w : Word) : (s.wr a w).slotMarked h q = s.slotMarked h q :=
  State.slotMarked_congr (State.marked_wr ..) (by rw [State.half_wr])
@[simp] theorem State.slotMarked_modRun (s : State) (h : Half) (q : Nat) (f : SlotRun → SlotRun) :
    (s.modRun h q f).slotMarked h q = s.slotMarked h q :=
  State.slotMarked_congr (State.marked_modHalf ..) (by rw [State.modRun, State.half_modHalf])
theorem State.slotMarked_tally (s : State) (h : Half) (q ev : Nat) : (s.tally h ev).slotMarked h q = s.slotMarked h q := by
  have inc (t : State) (n : Nat) : (t.tallyInc h n).marked = t.marked :=
    ite_keeps State.marked (fun _ => (State.marked_sb ..).trans (State.marked_modHalf ..)) fun _ => State.marked_modHalf ..
  obtain ⟨c, hc⟩ := s.half_tally h ev
  refine State.slotMarked_congr ?_ (by rw [hc])
  exact ite_keeps State.marked (fun _ => rfl) fun _ => foldl_keeps State.marked _ _ s fun t e => inc t e.1

theorem halfStatus_ne_status (h : Half) (q : Nat) : HalfR.halfStatus h ≠ Slot.status h q := by
  simp only [HalfR.halfStatus, Slot.status, slotBase, engBase]
  omega
theorem State.hstate_tally (s : State) (h : Half) (ev : Nat) : (s.tally h ev).hstate h = s.hstate h :=
  congrArg (bits · 2 0) (State.rg_tally_of_not_eventReg _ _ _ _ (by simp only [EventReg, HalfR.halfStatus]; omega))

/-! ### A skipped tick (R135) -/

/-- A skipped tick shows and counts in STATUS, EVENT_CNT and the carried block. -/
def State.skipShown (s : State) (h : Half) (q : Nat) : State :=
  (((s.sb (Slot.status h q) 8 true).satF (Slot.eventCnt h q) 15 0 1).satF (stateBase h q + 0x60) 31 16 1).tally h (0x0500 + q / 8)

section
variable (s : State) (h : Half) (q : Nat)

theorem State.rg_skipShown {a : Nat} (ha : h.base + 0x10000000 ≤ a) : (s.skipShown h q).rg a =
    (((s.sb (Slot.status h q) 8 true).satF (Slot.eventCnt h q) 15 0 1).satF (stateBase h q + 0x60) 31 16 1).rg a :=
  State.rg_tally_eng _ _ _ ha
theorem State.status_skipShown : (s.skipShown h q).rg (Slot.status h q) = setBit (s.rg (Slot.status h q)) 8 true := by
  have h1 : Slot.status h q ≠ stateBase h q + 0x60 := by
    simp only [Slot.status, slotBase, stateBase]
    omega
  have h2 : Slot.status h q ≠ Slot.eventCnt h q := by simp [Slot.status, Slot.eventCnt]
  rw [State.rg_skipShown _ _ _ (by simp only [Slot.status, slotBase, engBase]; omega), State.rg_satF, if_neg h1, State.rg_satF,
    if_neg h2, State.rg_sb, if_pos rfl]
/-- The run of skipped ticks is one longer. -/
theorem State.skipRun_skipShown (hn : s.fd (stateBase h q + 0x60) 31 16 < 2) :
    (s.skipShown h q).fd (stateBase h q + 0x60) 31 16 = s.fd (stateBase h q + 0x60) 31 16 + 1 := by
  have h1 : stateBase h q + 0x60 ≠ Slot.status h q := by
    simp only [Slot.status, slotBase, stateBase]
    omega
  have h2 : stateBase h q + 0x60 ≠ Slot.eventCnt h q := by
    simp only [Slot.eventCnt, slotBase, stateBase]
    omega
  rw [State.fd, State.rg_skipShown _ _ _ (by simp only [stateBase, engBase]; omega)]
  refine (State.fd_fw _ _ _ (by decide) (by decide)).trans ?_
  rw [State.fd, State.rg_satF, if_neg h2, State.rg_sb, if_neg h1, ← State.fd, satAdd, if_pos (by omega)]
  omega
theorem State.hstate_skipShown : (s.skipShown h q).hstate h = s.hstate h := by
  have h2 : HalfR.halfStatus h ≠ Slot.eventCnt h q := by simp only [HalfR.halfStatus, Slot.eventCnt, slotBase, engBase]; omega
  have h3 : HalfR.halfStatus h ≠ stateBase h q + 0x60 := by simp only [HalfR.halfStatus, stateBase, engBase]; omega
  rw [State.skipShown, State.hstate_tally, State.hstate, State.fd, State.rg_satF, if_neg h3, State.rg_satF, if_neg h2, State.rg_sb,
    if_neg (halfStatus_ne_status h q)]
  rfl
theorem State.run_skipShown : (s.skipShown h q).run h q = s.run h q := by simp [State.skipShown]
theorem State.slotMarked_skipShown : (s.skipShown h q).slotMarked h q = s.slotMarked h q :=
  (State.slotMarked_tally ..).trans ((State.slotMarked_wr ..).trans ((State.slotMarked_wr ..).trans (State.slotMarked_wr ..)))

/-- The first and second skip in a row show and count; a marked unit waits for the end of the sample (R135). -/
theorem State.skipTick_eq (hp : (s.run h q).packets = []) (hn : s.fd (stateBase h q + 0x60) 31 16 < 2) :
    s.skipTick h q = if s.slotMarked h q then (s.skipShown h q).modRun h q (fun r => { r with cmtWait := true })
      else s.skipShown h q := by
  unfold State.skipTick
  extract_lets event counted shown waits
  have hcounted : counted = (event.satF (stateBase h q + 0x60) 31 16 1) := State.traceClose_none _ _ _ _ (by simpa [event] using hp)
  have hshown : shown = s.skipShown h q := by rw [State.skipShown, ← hcounted]
  have hwaits : waits = if s.slotMarked h q then (s.skipShown h q).modRun h q (fun r => { r with cmtWait := true })
      else s.skipShown h q := by
    simp only [waits, hshown, State.slotMarked_skipShown]
  have hrun : waits.fd (stateBase h q + 0x60) 31 16 = (s.skipShown h q).fd (stateBase h q + 0x60) 31 16 := by
    rw [hwaits]
    split
    · rw [State.fd, State.rg_modRun, State.fd]
    · rfl
  rw [if_neg (by rw [hrun, s.skipRun_skipShown h q hn]; omega), hwaits]
/-- What the run does not show, the first and second skip in a row keep as they show. -/
theorem State.skipTick_keeps {β : Type} (v : State → β) (hp : (s.run h q).packets = []) (hn : s.fd (stateBase h q + 0x60) 31 16 < 2)
    (hr : ∀ t f, v (State.modRun t h q f) = v t) : v (s.skipTick h q) = v (s.skipShown h q) := by
  rw [s.skipTick_eq h q hp hn]
  exact ite_keeps v (fun _ => hr _ _) fun _ => rfl
end

theorem sampleTick_skips (h : Half) (q : Nat) (s : State) (hr : s.runs h = true) (hst : s.slotState h q = 1)
    (hoos : s.bt (Eng.engStatus h (q / 8)) 2 = false) (hphase : (s.run h q).phase ≠ 0) (hpk : (s.run h q).packets = [])
    (hn : s.fd (stateBase h q + 0x60) 31 16 < 2) (hj : s.hstate h ≠ 2) (hd : s.sampleDue h q = true) :
    Gives (.sampleTick h q) s (fun t => t.bt (Slot.status h q) 8 = true ∧ t.slotState h q = 1
      ∧ t.fd (stateBase h q + 0x60) 31 16 = s.fd (stateBase h q + 0x60) 31 16 + 1
      ∧ t.run h q = { s.run h q with cmtWait := (s.run h q).cmtWait || s.slotMarked h q }) := by
  obtain ⟨u, l, hu, hex⟩ := execSampleTick_due h q s hr hst hoos hd
  have hrun := run_of_sampleView hu
  have hslot : u.slotState h q = s.slotState h q := congrArg (bits · 1 0) (rg_slot_of_sampleView hu 0xC0)
  have hcount : u.fd (stateBase h q + 0x60) 31 16 = s.fd (stateBase h q + 0x60) 31 16 :=
    congrArg (bits · 31 16) (rg_state_of_sampleView hu 0x60)
  have htick : u.sampleTick h q = u.skipTick h q := by
    rw [State.sampleTick, if_neg (by rw [hslot, hst]; decide), if_pos (by rwa [hrun])]
  rw [htick] at hex
  rw [← hrun] at hpk
  rw [← hcount] at hn ⊢
  have keeps {β : Type} (v : State → β) := u.skipTick_keeps h q v hpk hn
  have hjoin : (u.skipTick h q).hstate h ≠ 2 := by
    rw [keeps (State.hstate · h) fun t f => congrArg (bits · 2 0) (t.rg_modRun ..), State.hstate_skipShown, hstate_of_sampleView hu]
    exact hj
  have hv := sampleView_afterSample h q (u.skipTick h q) l hjoin
  have hstatus : ((u.skipTick h q).afterSample h l).rg (Slot.status h q) = setBit (u.rg (Slot.status h q)) 8 true := by
    refine (rg_slot_of_sampleView hv 0xC0).trans ?_
    rw [keeps (State.rg · (slotBase h q + 0xC0)) fun t f => t.rg_modRun ..]
    exact u.status_skipShown h q
  refine ⟨_, hex, ?_, ?_, ?_, ?_⟩
  · rw [State.bt, hstatus, bit_setBit _ _ _ (by decide)]
  · rw [State.slotState, State.fd, hstatus, bits_setBit_other _ _ _ _ _ (by decide) (by decide)]
    exact hslot.trans hst
  · refine (congrArg (bits · 31 16) (rg_state_of_sampleView hv 0x60)).trans ?_
    refine (keeps (State.fd · (stateBase h q + 0x60) 31 16) fun t f => congrArg (bits · 31 16) (t.rg_modRun ..)).trans ?_
    exact u.skipRun_skipShown h q hn
  · rw [run_of_sampleView hv, u.skipTick_eq h q hpk hn, ← slotMarked_of_sampleView hu, ← hrun]
    split_ifs with hm
    · rw [State.run_modRun, State.run_skipShown, hm, Bool.or_true]
    · rw [State.run_skipShown, Bool.eq_false_iff.2 hm, Bool.or_false]

/-! ### A sample that begins (R115, R116, R119) -/

theorem State.missHit_congr {s t : State} {h : Half} {q : Nat} (hm : (t.run h q).missAct = (s.run h q).missAct)
    (h18 : t.rg (slotBase h q + 0x18) = s.rg (slotBase h q + 0x18)) (h60 : t.rg (stateBase h q + 0x60) = s.rg (stateBase h q + 0x60)) :
    t.missHit h q = s.missHit h q := by
  unfold State.missHit State.fd
  rw [hm, h18, h60]

/-- Slot `q` holds a RUNNING, active copy between samples, nothing waits for its boundary, and the next sample is neither a first
one nor one of a loss or miss: it runs in the mode of MODE_CTRL. -/
structure SampleMayBegin (h : Half) (q : Nat) (s : State) : Prop where
  running : s.slotState h q = 1
  between : (s.run h q).phase = 0
  unmarked : s.slotMarked h q = false
  unforwarded : (s.half h).ctl.fwdWait = []
  active : s.standby h q = false
  noRestart : (s.run h q).restart = false
  noClear : (s.run h q).clear = false
  notFirst : s.bt (Slot.status h q) 10 = false
  mode : bits (s.dw h q 0xC) 1 0 ≠ 0
  noMiss : s.missHit h q = false
  noLoss : s.lossOf h q = 0

theorem SampleMayBegin.of_sampleView {s t : State} {h : Half} {q : Nat} (hs : SampleMayBegin h q s)
    (hv : sampleView h q t = sampleView h q s) : SampleMayBegin h q t where
  running := (congrArg (bits · 1 0) (rg_slot_of_sampleView hv 0xC0)).trans hs.running
  between := (congrArg SlotRun.phase (run_of_sampleView hv)).trans hs.between
  unmarked := (slotMarked_of_sampleView hv).trans hs.unmarked
  unforwarded := (fwdWait_of_sampleView hv).trans hs.unforwarded
  active := (congrArg (bit · (16 + q % 8)) (rg_of_sampleView hv (by simp only [Eng.engStatus]; omega))).trans hs.active
  noRestart := (congrArg SlotRun.restart (run_of_sampleView hv)).trans hs.noRestart
  noClear := (congrArg SlotRun.clear (run_of_sampleView hv)).trans hs.noClear
  notFirst := (congrArg (bit · 10) (rg_slot_of_sampleView hv 0xC0)).trans hs.notFirst
  mode := ne_of_eq_of_ne (congrArg (bits · 1 0) (rg_slot_of_sampleView hv 0xC)) hs.mode
  noMiss := (State.missHit_congr (congrArg SlotRun.missAct (run_of_sampleView hv)) (rg_slot_of_sampleView hv 0x18)
    (rg_state_of_sampleView hv 0x60)).trans hs.noMiss
  noLoss := (congrArg (bits · 2 0) (rg_state_of_sampleView hv 0x50)).trans hs.noLoss

/-- The slot as its boundary is met: a role that a fault owes stands, OVERRUN is clear, no commit waits. -/
def State.boundaryMet (s : State) (h : Half) (q : Nat) : State :=
  ((if (s.run h q).roleDue then s.setRole h (s.slotLoop h q) 3 else s).sb (Slot.status h q) 8 false).modRun h q
    (fun r => { r with roleDue := false, cmtWait := false })
/-- The slot as its sample begins: what waited for the boundary is done. -/
def State.boundaryPassed (s : State) (h : Half) (q : Nat) : State :=
  (s.boundaryMet h q).modRun h q (fun r => { r with restart := false, clear := false })
/-- The prepare phase with its mode. -/
def State.sampleBegun (s : State) (h : Half) (q : Nat) : State :=
  let mode := bits (s.dw h q 0xC) 1 0
  let now := s.now h
  (s.fw (Slot.status h q) 3 2 mode).modRun h q (fun r => { r with
    phase := 1
    ready := false
    arrived := 0
    valid := 0
    invalid := 0
    loss := 0
    mode := mode
    tick := now
    missAct := false })

section
variable (s : State) (h : Half) (q : Nat)

theorem sampleView_roleShown : sampleView h q (if (s.run h q).roleDue then s.setRole h (s.slotLoop h q) 3 else s)
    = sampleView h q s :=
  ite_keeps (sampleView h q) (fun _ => sampleView_setRole h q s _ _ (State.slotLoop_lt ..)) fun _ => rfl
theorem State.run_boundaryMet : (s.boundaryMet h q).run h q = { s.run h q with roleDue := false, cmtWait := false } := by
  rw [State.boundaryMet, State.run_modRun, State.run_sb, run_of_sampleView (sampleView_roleShown s h q)]
theorem State.slotMarked_boundaryMet : (s.boundaryMet h q).slotMarked h q = s.slotMarked h q :=
  (State.slotMarked_modRun ..).trans ((State.slotMarked_wr ..).trans (slotMarked_of_sampleView (sampleView_roleShown s h q)))
theorem State.fwdWait_boundaryMet : ((s.boundaryMet h q).half h).ctl.fwdWait = (s.half h).ctl.fwdWait := by
  rw [State.boundaryMet, State.modRun, State.half_modHalf, State.half_sb]
  exact fwdWait_of_sampleView (sampleView_roleShown s h q)
theorem State.rg_boundaryMet {a : Nat} (ha : h.base + 0x10000000 ≤ a) (hne : a ≠ Slot.status h q) :
    (s.boundaryMet h q).rg a = s.rg a := by
  rw [State.boundaryMet, State.rg_modRun, State.rg_sb, if_neg hne, rg_of_sampleView (sampleView_roleShown s h q) ha]

theorem State.rg_boundaryPassed {a : Nat} (ha : h.base + 0x10000000 ≤ a) (hne : a ≠ Slot.status h q) :
    (s.boundaryPassed h q).rg a = s.rg a := (State.rg_modRun ..).trans (s.rg_boundaryMet h q ha hne)
theorem State.rg_slot_boundaryPassed {o : Nat} (hne : o ≠ 0xC0) :
    (s.boundaryPassed h q).rg (slotBase h q + o) = s.rg (slotBase h q + o) :=
  s.rg_boundaryPassed h q (by simp only [slotBase, engBase]; omega) (by simpa [Slot.status] using hne)
theorem State.rg_state_boundaryPassed (o : Nat) : (s.boundaryPassed h q).rg (stateBase h q + o) = s.rg (stateBase h q + o) :=
  s.rg_boundaryPassed h q (by simp only [stateBase, engBase]; omega) (by simp only [Slot.status, slotBase, stateBase]; omega)
theorem State.status_boundaryPassed : (s.boundaryPassed h q).rg (Slot.status h q) = setBit (s.rg (Slot.status h q)) 8 false := by
  rw [State.boundaryPassed, State.rg_modRun, State.boundaryMet, State.rg_modRun, State.rg_sb, if_pos rfl]
  exact congrArg (setBit · 8 false) (rg_slot_of_sampleView (sampleView_roleShown s h q) 0xC0)
theorem State.run_boundaryPassed : (s.boundaryPassed h q).run h q
    = { s.run h q with roleDue := false, cmtWait := false, restart := false, clear := false } := by
  rw [State.boundaryPassed, State.run_modRun, State.run_boundaryMet]
theorem State.now_boundaryPassed : (s.boundaryPassed h q).now h = s.now h := by
  rw [State.now, State.boundaryPassed, State.modRun, State.half_modHalf, State.boundaryMet, State.modRun, State.half_modHalf,
    State.half_sb]
  exact now_of_sampleView (sampleView_roleShown s h q)
theorem State.hstate_boundaryPassed : (s.boundaryPassed h q).hstate h = s.hstate h := by
  rw [State.hstate, State.fd, State.boundaryPassed, State.rg_modRun, State.boundaryMet, State.rg_modRun, State.rg_sb,
    if_neg (halfStatus_ne_status h q)]
  exact hstate_of_sampleView (sampleView_roleShown s h q)
theorem State.hstate_sampleBegun : (s.sampleBegun h q).hstate h = s.hstate h := by
  rw [State.hstate, State.fd, State.sampleBegun, State.rg_modRun, State.rg_fw, if_neg (halfStatus_ne_status h q)]
  rfl
theorem State.status_sampleBegun : (s.sampleBegun h q).rg (Slot.status h q)
    = setBits (s.rg (Slot.status h q)) 3 2 (bits (s.dw h q 0xC) 1 0) := by
  rw [State.sampleBegun, State.rg_modRun, State.rg_fw, if_pos rfl]

theorem State.forwardTake_none (hf : (s.half h).ctl.fwdWait = []) : s.forwardTake h q = s := by
  simp only [State.forwardTake, hf, List.find?_nil]
theorem State.mirrorTake_active (ha : s.standby h q = false) : s.mirrorTake h q = s := by
  simp [State.mirrorTake, ha]

variable {s h q} (hs : SampleMayBegin h q s)
include hs

/-- Nothing has waited for the boundary: the sample starts (R115). -/
theorem SampleMayBegin.sampleTick_eq : s.sampleTick h q = (s.boundaryPassed h q).startSample h q := by
  have hstatus := s.status_boundaryPassed h q
  have hslot : (s.boundaryPassed h q).slotState h q ≠ 2 := by
    rw [State.slotState, State.fd, hstatus, bits_setBit_other _ _ _ _ _ (by decide) (by decide)]
    exact ne_of_eq_of_ne hs.running (by decide)
  have hdue : (s.boundaryPassed h q).bt (Slot.status h q) 10 = false := by
    rw [State.bt, hstatus, bit_setBit_other _ _ _ _ (by decide)]
    exact hs.notFirst
  have hactive : (s.boundaryMet h q).standby h q = false :=
    (congrArg (bit · (16 + q % 8)) (s.rg_boundaryMet h q (by simp only [Eng.engStatus]; omega)
      (by simp only [Eng.engStatus, Slot.status, slotBase, engBase]; omega))).trans hs.active
  unfold State.sampleTick
  extract_lets st role met committed taken standbyRestarted mirrored r restarted cleared passed first
  have hst : st = 1 := hs.running
  have hcommitted : committed = s.boundaryMet h q :=
    if_neg (Bool.eq_false_iff.1 ((s.slotMarked_boundaryMet h q).trans hs.unmarked))
  have htaken : taken = s.boundaryMet h q := (congrArg (State.forwardTake · h q) hcommitted).trans
    (State.forwardTake_none _ h q ((s.fwdWait_boundaryMet h q).trans hs.unforwarded))
  have hmirrored : mirrored = s.boundaryMet h q := (if_pos (by rw [hst]; decide)).trans
    ((congrArg (State.mirrorTake · h q) htaken).trans (State.mirrorTake_active _ h q hactive))
  have hr : r = { s.run h q with roleDue := false, cmtWait := false } :=
    (congrArg (State.run · h q) hmirrored).trans (s.run_boundaryMet h q)
  have hrestarted : restarted = s.boundaryMet h q := (if_neg (by simp [hr, hs.noRestart])).trans hmirrored
  have hcleared : cleared = s.boundaryMet h q := (if_neg (by simp [hr, hs.noClear])).trans hrestarted
  have hpassed : passed = s.boundaryPassed h q := by rw [State.boundaryPassed, ← hcleared]
  have hfirst : first = s.boundaryPassed h q := by
    rw [← hpassed] at hdue ⊢
    exact if_neg fun hc => absurd (hdue.symm.trans hc.1) (by decide)
  rw [if_neg (by rw [hst]; decide), if_neg (by simp [hs.between]), if_neg (hpassed ▸ hslot), hfirst]
/-- The sample that starts is prepared in the mode of MODE_CTRL (R119). -/
theorem SampleMayBegin.startSample_eq : (s.boundaryPassed h q).startSample h q
    = ((s.boundaryPassed h q).sampleBegun h q).tally h (0x0300 + q / 8) := by
  have hmode : bits ((s.boundaryPassed h q).dw h q 0xC) 1 0 ≠ 0 :=
    ne_of_eq_of_ne (congrArg (bits · 1 0) (s.rg_slot_boundaryPassed h q (by decide))) hs.mode
  have hmiss : (s.boundaryPassed h q).missHit h q = false := (State.missHit_congr (by rw [State.run_boundaryPassed])
    (s.rg_slot_boundaryPassed h q (by decide)) (s.rg_state_boundaryPassed h q _)).trans hs.noMiss
  have hloss : (s.boundaryPassed h q).lossOf h q = 0 :=
    (congrArg (bits · 2 0) (s.rg_state_boundaryPassed h q _)).trans hs.noLoss
  have hrec : (s.boundaryPassed h q).lossRecords h q = s.boundaryPassed h q := by
    simp only [State.lossRecords, hloss]
    split <;> rfl
  simp [State.startSample, hmode, hmiss, hloss, hrec, State.sampleBegun]
end

theorem sampleTick_begins (h : Half) (q : Nat) (s : State) (hr : s.runs h = true) (hs : SampleMayBegin h q s)
    (hoos : s.bt (Eng.engStatus h (q / 8)) 2 = false) (hj : s.hstate h ≠ 2) (hd : s.sampleDue h q = true) :
    Gives (.sampleTick h q) s (fun t => (t.run h q).phase = 1 ∧ (t.run h q).mode = bits (s.dw h q 0xC) 1 0
      ∧ (t.run h q).tick = s.now h ∧ (t.run h q).ready = false ∧ (t.run h q).arrived = 0
      ∧ t.fd (Slot.status h q) 3 2 = bits (s.dw h q 0xC) 1 0 ∧ t.bt (Slot.status h q) 8 = false ∧ t.slotState h q = 1) := by
  obtain ⟨u, l, hu, hex⟩ := execSampleTick_due h q s hr hs.running hoos hd
  have hus := hs.of_sampleView hu
  rw [hus.sampleTick_eq, hus.startSample_eq] at hex
  set b := u.boundaryPassed h q with hb
  have hmode : bits (b.dw h q 0xC) 1 0 = bits (s.dw h q 0xC) 1 0 :=
    congrArg (bits · 1 0) ((u.rg_slot_boundaryPassed h q (by decide)).trans (rg_slot_of_sampleView hu 0xC))
  have hnow : b.now h = s.now h := (u.now_boundaryPassed h q).trans (now_of_sampleView hu)
  have hjoin : ((b.sampleBegun h q).tally h (0x0300 + q / 8)).hstate h ≠ 2 := by
    rw [State.hstate_tally, State.hstate_sampleBegun, hb, State.hstate_boundaryPassed, hstate_of_sampleView hu]
    exact hj
  have hv := sampleView_afterSample h q _ l hjoin
  have hrun := ((run_of_sampleView hv).trans (State.run_tally ..)).trans (State.run_modRun ..)
  have hstatus : (((b.sampleBegun h q).tally h (0x0300 + q / 8)).afterSample h l).rg (Slot.status h q)
      = setBits (setBit (s.rg (Slot.status h q)) 8 false) 3 2 (bits (s.dw h q 0xC) 1 0) := by
    refine (rg_slot_of_sampleView hv 0xC0).trans ((State.rg_tally_eng _ h _ (by simp only [slotBase, engBase]; omega)).trans ?_)
    refine (b.status_sampleBegun h q).trans ?_
    rw [hmode, hb, State.status_boundaryPassed]
    exact congrArg (fun w => setBits (setBit w 8 false) 3 2 _) (rg_slot_of_sampleView hu 0xC0)
  refine ⟨_, hex, ?_, ?_, ?_, ?_, ?_, ?_, ?_, ?_⟩
  · rw [hrun]
  · rw [hrun]
    exact hmode
  · rw [hrun]
    exact hnow
  · rw [hrun]
  · rw [hrun]
  · rw [State.fd, hstatus, bits_setBits _ _ _ _ (by decide) (by decide)]
    exact Nat.mod_eq_of_lt (bits_lt _ 1 0)
  · rw [State.bt, hstatus, bit_setBits_other _ _ _ _ _ (by decide) (by decide), bit_setBit _ _ _ (by decide)]
  · rw [State.slotState, State.fd, hstatus, bits_setBits_other _ _ _ _ _ _ (by decide) (by decide) (by decide),
      bits_setBit_other _ _ _ _ _ (by decide) (by decide)]
    exact hs.running

/-- Settles O30: the boundary of a slot, its phases and their ends, and the commands of its engine. -/
theorem engineSampleCommandsComplete : Obligations.EngineSampleCommandsComplete :=
  ⟨fun h q s _ hr hst hoos hphase hmark hfwd hact hrestart hclear hfirst hmode hmiss hloss hj hd =>
      sampleTick_begins h q s hr ⟨hst, hphase, hmark, hfwd, hact, hrestart, hclear, hfirst, hmode, hmiss, hloss⟩ hoos hj hd,
    fun h q s _ hr hst hoos hphase hpk hn hj hd => sampleTick_skips h q s hr hst hoos hphase hpk hn hj hd,
    fun h q s _ hr hst hoos hrun _ hw => overrunFault_completes h q s hr hst hoos hrun hw,
    fun h w rest q s hr htx hslot hp hn hk => measWordArrive_completes h w rest q s hr htx hslot hp hn hk,
    fun h q s hr hp hn hq ht => inWaitExpire_completes h q s hr hp hn hq ht,
    fun h q s _ hr hp => ⟨fun o ho hn => preparePhaseEnd_ok h q s hr hp o ho hn,
      fun e he _ => preparePhaseEnd_error h q s hr hp e he⟩,
    fun h q lat queue s _ hr hp => ⟨fun o ho => criticalPhaseEnd_ok h q lat queue s hr hp o ho,
      fun e he _ => criticalPhaseEnd_error h q lat queue s hr hp e he⟩,
    fun h q s _ hr hp => finishPhaseEnd_completes h q s hr hp,
    fun h q s hr hm => missLimitReached_completes h q s hr hm,
    fun h q s hr hs hoos => ⟨slotRestart_completes h q s hr hs hoos, slotClearCounts_completes h q s hr hs hoos,
      clearLat_completes h q s hr hs hoos⟩,
    fun h e stop s _ hr hoos => engStop_completes h e stop s hr hoos⟩

end Sys2Proof.Machine
end


section
/-! Observer loss and the compensation source at the end of a sample (R149, R153, R157, R158, R161). -/
namespace Sys2Proof.Machine

/-! ### The slot's registers -/

theorem stateBase_ne_status (h : Half) (q o : Nat) : stateBase h q + o ≠ Slot.status h q :=
  Nat.ne_of_gt ((slot_lt_stateBase h q (by decide : 0xC0 < 0x200)).trans_le (Nat.le_add_right ..))
theorem stateBase_ne_engCond (h : Half) (q o : Nat) : stateBase h q + o ≠ Eng.engCond h (q / 8) := by
  simp only [stateBase, engBase, Eng.engCond]
  omega
theorem stateBase_ne_engStatus (h : Half) (q o : Nat) : stateBase h q + o ≠ Eng.engStatus h (q / 8) := by
  simp only [stateBase, engBase, Eng.engStatus]
  omega

/-! ### Records of the active copy (R161) -/

/-- What decides whether a record of the slot's loop is made, and of which loop it speaks. -/
def copyView (h : Half) (q : Nat) (s : State) : Bool × Bool × Nat := (s.runs h, s.standby h q, s.slotLoop h q)

theorem copyView_wr (h : Half) (q : Nat) (s : State) {a : Nat} (w : Word) (he : Eng.engStatus h (q / 8) ≠ a)
    (hs : slotBase h q ≠ a) : copyView h q (s.wr a w) = copyView h q s := by
  rw [copyView, State.runs_wr, State.standby, State.bt_wr_other _ _ _ he, State.slotLoop, State.fd_wr_other _ _ _ _ hs]
  rfl
theorem copyView_wr_state (h : Half) (q : Nat) (s : State) (o : Nat) (w : Word) :
    copyView h q (s.wr (stateBase h q + o) w) = copyView h q s :=
  copyView_wr h q s w (stateBase_ne_engStatus h q o).symm
    (Nat.ne_of_lt ((slot_lt_stateBase h q (by decide : 0 < 0x200)).trans_le (Nat.le_add_right ..)))

section
variable (s : State) (h : Half) (q code : Nat) (d : List Nat)

@[simp] theorem State.rg_loopReport (a : Nat) : (s.loopReport h q code d).rg a = s.rg a :=
  ite_keeps (State.rg · a) (fun _ => rfl) fun _ => State.rg_report ..
@[simp] theorem State.byte_loopReport (a : Nat) : (s.loopReport h q code d).byte a = s.byte a :=
  ite_keeps (State.byte · a) (fun _ => rfl) fun _ => State.byte_report ..
theorem State.reported_report (kind n : Nat) (hr : s.runs h = true) : Reported (s.report h code kind n d) h code kind n := by
  refine ⟨⟨code, kind, n, s.now h, d.map (BitVec.ofNat 32)⟩, ?_, rfl, rfl, rfl⟩
  rw [State.inbox_report _ _ _ _ _ _ hr]
  exact List.mem_append_right _ List.mem_cons_self
/-- An active copy's record is on its way, whatever its state area has shown meanwhile. -/
theorem State.reported_loopReport {t : State} (hv : copyView h q t = copyView h q s) (hr : s.runs h = true)
    (ha : s.standby h q = false) : Reported (t.loopReport h q code d) h code 2 (s.slotLoop h q) := by
  simp only [copyView, Prod.mk.injEq] at hv
  obtain ⟨hruns, hstandby, hloop⟩ := hv
  rw [State.loopReport, if_neg (by simp [hstandby, ha]), hloop]
  exact State.reported_report _ _ _ _ _ _ (hruns.trans hr)
end

/-! ### The loss condition (R158) -/

section
variable (s : State) (h : Half) (q : Nat) (b : Bool)

/-- What STATUS and ENG_COND do not show, the loss condition keeps. -/
theorem State.lossShow_keeps {β : Type} (v : State → β) (hs : ∀ t w, v (State.wr t (Slot.status h q) w) = v t)
    (hc : ∀ t w, v (State.wr t (Eng.engCond h (q / 8)) w) = v t) : v (s.lossShow h q b) = v s := by
  simp only [State.lossShow]
  have hboth : v ((s.sb (Slot.status h q) 6 b).engCond h q 8 b) = v s := (hc _ _).trans (hs _ _)
  exact ite_keeps v (fun _ => hboth) fun _ => (hs _ _).trans hboth
@[simp] theorem State.byte_lossShow (a : Nat) : (s.lossShow h q b).byte a = s.byte a :=
  s.lossShow_keeps h q b (State.byte · a) (fun _ _ => State.byte_wr ..) fun _ _ => State.byte_wr ..
theorem State.lossOf_lossShow : (s.lossShow h q b).lossOf h q = s.lossOf h q :=
  s.lossShow_keeps h q b (State.lossOf · h q) (fun _ _ => State.fd_wr_other _ _ _ _ (stateBase_ne_status _ _ _))
    fun _ _ => State.fd_wr_other _ _ _ _ (stateBase_ne_engCond _ _ _)
theorem copyView_lossShow : copyView h q (s.lossShow h q b) = copyView h q s := by
  refine s.lossShow_keeps h q b (copyView h q) (fun t w => ?_) fun t w => ?_
  · refine copyView_wr h q t w ?_ (by simp [Slot.status])
    simp only [Eng.engStatus, Slot.status, slotBase, engBase]
    omega
  · exact copyView_wr h q t w (by simp [Eng.engStatus, Eng.engCond]) (slot_ne_engCond h q 0)
theorem State.status_lossShow : (s.lossShow h q b).bt (Slot.status h q) 6 = b := by
  have hshown : ((s.sb (Slot.status h q) 6 b).engCond h q 8 b).bt (Slot.status h q) 6 = b :=
    (State.bt_wr_other _ _ _ (slot_ne_engCond h q 0xC0)).trans (State.bt_sb _ _ _ (by decide))
  simp only [State.lossShow]
  split
  · exact hshown
  · exact (State.bt_fw_beside _ _ _ _ le_rfl (by decide)).trans hshown
end

/-! ### A loss begins, ends or expires (R153, R157) -/

/-- The words of the state area at the start of a loss: LOSS_STATE, the counted event, DTHETA and the start of the angle. -/
def State.lossBegun (s : State) (h : Half) (q d : Nat) : State :=
  let s := (s.fw (stateBase h q + 0x50) 31 16 0).lossEnter h q 1
  ((s.setSw h q 0x54 (satAdd 65535 (s.fd (stateBase h q + 0x54) 31 16) 1 * 65536)).setSw h q 0x58 d).setSw h q 0x5C 0
/-- The words of the state area at the end of a loss. -/
def State.lossOver (s : State) (h : Half) (q : Nat) : State := (s.setSw h q 0x50 8).fw (stateBase h q + 0x54) 7 0 0

section
variable (s : State) (h : Half) (q : Nat)

/-- Where DTHETA is finite the loss begins, shows and is recorded. -/
theorem State.lossDeclare_ok {x : Option Nat} {e : Nat} {u : State} (hu : s.lossDeclare h q x e = .ok u) :
    ∃ d l, u = ((s.lossBegun h q d).lossShow h q true).loopReport h q 0x0501 l := by
  cases x with
  | none => exact ⟨0, _, (Except.ok.inj hu).symm⟩
  | some x =>
    cases hd : s.lawDtheta h q x with
    | error e => simp only [State.lossDeclare, hd, bind, Except.bind, reduceCtorEq] at hu
    | ok d =>
      simp only [State.lossDeclare, hd, bind, Except.bind] at hu
      exact ⟨d, _, (Except.ok.inj hu).symm⟩

theorem State.byte_lossBegun (d a : Nat) : (s.lossBegun h q d).byte a = s.byte a := by
  simp only [State.lossBegun, State.lossEnter, State.setSw, State.byte_wn, State.byte_fw]
/-- LOSS_STATE reads as it was entered, beside ENTERED. -/
theorem State.lossOf_lossEnter (n : Nat) : (s.lossEnter h q n).lossOf h q = n % 8 := by
  have hlow (w : Word) : bits w 2 0 = bits w 3 0 % 8 := by
    simp only [bits]
    omega
  rw [State.lossOf, State.fd, hlow, State.lossEnter, State.rg_fw, if_pos rfl, bits_setBits _ _ _ _ (by decide) (by decide)]
  omega
theorem State.lossOf_lossBegun (d : Nat) : (s.lossBegun h q d).lossOf h q = 1 := by
  simp only [State.lossBegun, State.setSw, State.lossOf]
  iterate 3 refine (State.fd_wr_other _ _ _ _ (by simp)).trans ?_
  exact State.lossOf_lossEnter ..
theorem copyView_lossBegun (d : Nat) : copyView h q (s.lossBegun h q d) = copyView h q s := by
  simp only [State.lossBegun, State.lossEnter, State.setSw, State.fw_eq, State.wn_eq, copyView_wr_state]
theorem State.byte_lossOver (a : Nat) : (s.lossOver h q).byte a = s.byte a := by
  simp only [State.lossOver, State.setSw, State.byte_wn, State.byte_fw]
theorem State.lossOf_lossOver : (s.lossOver h q).lossOf h q = 0 :=
  (State.fd_wr_other _ _ _ _ (by simp)).trans (State.fd_wn _ _ _ (by decide))
theorem copyView_lossOver : copyView h q (s.lossOver h q) = copyView h q s := by
  simp only [State.lossOver, State.setSw, State.fw_eq, State.wn_eq, copyView_wr_state]
end

theorem lossDeclared_completes (h : Half) (q : Nat) (u s : State) (hr : s.runs h = true) (hst : s.slotState h q = 1)
    (hp : (s.run h q).phase = 0) (hen : bit (s.dw h q 0x60) 0 = true) (hl : s.lossOf h q = 0)
    (hrun : s.fd (stateBase h q + 0x50) 15 8 ≠ 0) (hc : bits (s.dw h q 0x60) 15 8 ≤ s.fd (stateBase h q + 0x50) 15 8)
    (hu : s.lossDeclare h q (s.speedOf h q ((s.run h q).xh.map (·.toNat))) (s.run h q).e.toNat = .ok u) :
    Gives (.lossDeclared h q) s (fun t => t = u ∧ t.lossOf h q = 1 ∧ t.bt (Slot.status h q) 6 = true ∧ SameMem s t
      ∧ (s.standby h q = false → Reported t h 0x0501 2 (s.slotLoop h q))) := by
  have hex : exec (.lossDeclared h q) s = .next u := by
    refine congrArg Host.Outcome.next ((State.onHalf_runs s h _ hr).trans ((if_pos ⟨hst, hp, hen, hl, hrun, hc⟩).trans ?_))
    rw [hu]
  refine ⟨u, hex, rfl, ?_⟩
  obtain ⟨d, l, rfl⟩ := s.lossDeclare_ok h q hu
  refine ⟨?_, ?_, fun a => ?_, s.reported_loopReport h q _ _ ((copyView_lossShow ..).trans (copyView_lossBegun ..)) hr⟩
  · rw [State.lossOf, State.fd, State.rg_loopReport]
    exact (State.lossOf_lossShow ..).trans (State.lossOf_lossBegun ..)
  · rw [State.bt, State.rg_loopReport]
    exact State.status_lossShow ..
  · rw [State.byte_loopReport, State.byte_lossShow, State.byte_lossBegun]

section
variable (h : Half) (q : Nat) (s : State) (hr : s.runs h = true) (hst : s.slotState h q = 1) (hp : (s.run h q).phase = 0)
include hr hst hp

theorem reacquired_completes (hl : s.lossOf h q = 2) (hg : 16 ≤ s.fd (stateBase h q + 0x54) 7 0) :
    Gives (.reacquired h q) s (fun t => t.lossOf h q = 0 ∧ t.bt (Slot.status h q) 6 = false ∧ SameMem s t
      ∧ (s.standby h q = false → Reported t h 0x0503 2 (s.slotLoop h q))) := by
  refine ⟨_, congrArg Host.Outcome.next ((State.onHalf_runs s h _ hr).trans (if_pos ⟨hst, hp, hl, hg⟩)), ?_, ?_, fun a => ?_,
    s.reported_loopReport h q _ _ ((copyView_lossShow ..).trans (copyView_lossOver ..)) hr⟩
  · rw [State.lossReacquire, State.lossOf, State.fd, State.rg_loopReport]
    exact (State.lossOf_lossShow ..).trans (State.lossOf_lossOver ..)
  · rw [State.lossReacquire, State.bt, State.rg_loopReport]
    exact State.status_lossShow ..
  · rw [State.lossReacquire, State.byte_loopReport, State.byte_lossShow]
    exact State.byte_lossOver ..

theorem catchExpired_completes (hl : s.lossOf h q = 2)
    (hc : s.fd (slotBase h q + 0x64) 15 0 ≤ s.fd (stateBase h q + 0x50) 31 16) :
    Gives (.catchExpired h q) s (fun t => t.lossOf h q = 3 ∧ SameMem s t
      ∧ SameRegs s t (fun a => a = stateBase h q + 0x50)
      ∧ (s.standby h q = false → Reported t h 0x0504 2 (s.slotLoop h q))) := by
  refine ⟨_, congrArg Host.Outcome.next ((State.onHalf_runs s h _ hr).trans (if_pos ⟨hst, hp, hl, hc⟩)), ?_, fun a => ?_,
    fun a ha => ?_, s.reported_loopReport h q _ _ (copyView_wr_state ..) hr⟩
  · rw [State.lossExpire, State.lossOf, State.fd, State.rg_loopReport]
    exact State.lossOf_lossEnter ..
  · rw [State.lossExpire, State.byte_loopReport, State.lossEnter, State.byte_fw]
  · rw [State.lossExpire, State.rg_loopReport, State.lossEnter, State.rg_fw, if_neg ha]
end

/-! ### The source of the compensation (R149) -/

section
variable (s : State) (h : Half) (q n : Nat)

theorem State.src_srcSet (hn : n < 8) : (s.srcSet h q n).fd (stateBase h q + 0x70) 2 0 = n := by
  simp only [State.srcSet]
  split
  · assumption
  · rw [State.fd, State.rg_loopReport]
    exact (State.fd_fw _ _ _ (by decide) (by decide)).trans (Nat.mod_eq_of_lt hn)
/-- A new source changes its own word alone. -/
theorem State.srcSet_frame : SameMem s (s.srcSet h q n) ∧ SameRegs s (s.srcSet h q n) (fun a => a = stateBase h q + 0x70) := by
  simp only [State.srcSet]
  split
  · exact ⟨fun _ => rfl, fun _ _ => rfl⟩
  · exact ⟨fun a => (State.byte_loopReport ..).trans (State.byte_fw ..), fun a ha => by
      rw [State.rg_loopReport, State.rg_fw, if_neg ha]⟩
/-- A fade that ends sets the source; in a state that fades nowhere, to what it is. -/
theorem State.fadeDone_eq_srcSet : ∃ k, s.fadeDone h q = s.srcSet h q k := by
  unfold State.fadeDone
  split
  · exact ⟨2, rfl⟩
  · exact ⟨2, rfl⟩
  · exact ⟨1, rfl⟩
  · exact ⟨1, rfl⟩
  · exact ⟨_, (if_pos rfl).symm⟩
theorem State.fadeDone_table (hs : s.fd (stateBase h q + 0x70) 2 0 = 3 ∨ s.fd (stateBase h q + 0x70) 2 0 = 6) :
    s.fadeDone h q = s.srcSet h q 2 := by rcases hs with e | e <;> simp only [State.fadeDone, e]
theorem State.fadeDone_rc (hs : s.fd (stateBase h q + 0x70) 2 0 = 4 ∨ s.fd (stateBase h q + 0x70) 2 0 = 5) :
    s.fadeDone h q = s.srcSet h q 1 := by rcases hs with e | e <;> simp only [State.fadeDone, e]
end

theorem fadeComplete_completes (h : Half) (q : Nat) (s : State) (hr : s.runs h = true) (hst : s.slotState h q = 1)
    (hp : (s.run h q).phase = 0) (hf : s.fadeFull h q = true) :
    Gives (.fadeComplete h q) s (fun t => SameMem s t ∧ SameRegs s t (fun a => a = stateBase h q + 0x70)
      ∧ (s.fd (stateBase h q + 0x70) 2 0 = 3 ∨ s.fd (stateBase h q + 0x70) 2 0 = 6 → t.fd (stateBase h q + 0x70) 2 0 = 2)
      ∧ (s.fd (stateBase h q + 0x70) 2 0 = 4 ∨ s.fd (stateBase h q + 0x70) 2 0 = 5 →
          t.fd (stateBase h q + 0x70) 2 0 = 1)) := by
  obtain ⟨k, hk⟩ := s.fadeDone_eq_srcSet h q
  obtain ⟨hmem, hregs⟩ := s.srcSet_frame h q k
  refine ⟨s.fadeDone h q, congrArg Host.Outcome.next ((State.onHalf_runs s h _ hr).trans (if_pos ⟨hst, hp, hf⟩)), hk ▸ hmem,
    hk ▸ hregs, fun hs => ?_, fun hs => ?_⟩
  · rw [s.fadeDone_table h q hs, s.src_srcSet h q 2 (by decide)]
  · rw [s.fadeDone_rc h q hs, s.src_srcSet h q 1 (by decide)]

end Sys2Proof.Machine
end


section
/-! The ends of trace packets (R164, R165) and the arbitration of their bursts (R534, R535); and all commands of the observer, of
compensation and of the trace together. -/
namespace Sys2Proof.Machine

/-! ### Trace packets (R164, R165) -/

/-- The open packet closes with its cause, and every other one stays as it was. -/
theorem State.packets_traceClose (s : State) (h : Half) (q cause : Nat) {p : TracePkt}
    (hp : (s.run h q).packets.find? (fun p => p.closed = none) = some p) :
    ((s.traceClose h q cause).run h q).packets
      = (s.run h q).packets.map (fun x => if x.closed = none then { x with closed := some cause } else x) := by
  simp only [State.traceClose, hp, State.modOpen, State.run_modRun]
  rw [foldl_keeps (State.run · h q) _ _ _ fun t e => t.run_wn ..]

theorem tracePacketAge_completes (h : Half) (q : Nat) (p : TracePkt) (s : State) (hr : s.runs h = true)
    (hp : (s.run h q).packets.find? (fun p => p.closed = none) = some p) (ht : p.time + 10000000 ≤ s.now h) :
    Gives (.tracePacketAge h q) s (fun t => (∀ x ∈ (t.run h q).packets, x.closed ≠ none) ∧ SameMem s t
      ∧ (t.run h q).packets.length = (s.run h q).packets.length) := by
  have hex : exec (.tracePacketAge h q) s = .next (s.traceClose h q 6) := by
    refine congrArg Host.Outcome.next ((State.onHalf_runs s h _ hr).trans ?_)
    simp only [hp, if_pos ht]
  refine ⟨_, hex, fun x hx => ?_, fun a => (SlotQuiet.of_byte h q a).traceClose s 6, ?_⟩
  · rw [s.packets_traceClose h q 6 hp, List.mem_map] at hx
    obtain ⟨y, -, rfl⟩ := hx
    split
    · exact Option.some_ne_none 6
    · assumption
  · rw [s.packets_traceClose h q 6 hp, List.length_map]

theorem traceHalfBufferDrained_completes (h : Half) (q : Nat) (s : State) (hr : s.runs h = true) :
    Gives (.traceHalfBufferDrained h q) s (fun t => SameMem s t
      ∧ SameRegs s t (fun _ => False) ∧ (t.run h q).packets = (s.run h q).packets.filter
          (fun p => !(p.closed.isSome && decide (p.trayLen ≤ p.moved)))) :=
  ⟨_, congrArg Host.Outcome.next (State.onHalf_runs s h _ hr), fun a => State.byte_modRun .., fun a _ => State.rg_modRun ..,
    by rw [State.run_modRun]⟩

/-! ### The arbiters (R534, R535) -/

/-- What the arbiter of a half would choose: the slab within it. -/
def State.halfPick (s : State) (h : Half) : Option (Nat × ArbSt) :=
  arbPick 4 (fun b => s.requesting h (128 * b) 128) (s.slabLen h) (fun b => (s.slabPick h b).isSome) 10 (s.arb h 0)

section
variable {h : Half} {s : State} (hr : s.runs h = true)
include hr

/-- Without a choice only a full Tray 8 counts, and only where an engine requests. -/
theorem engineBurstGrant_none (hp : s.halfPick h = none) :
    exec (.engineBurstGrant h) s = .next (if s.requesting h 0 512 = 0 then s else s.sat (Tray.fullCnt h 8)) := by
  rw [State.halfPick] at hp
  refine congrArg Host.Outcome.next ((State.onHalf_runs s h _ hr).trans ?_)
  simp only [hp]
/-- The choices of the half's, the slab's and the cluster's arbiter stand, and the engine that they name takes its burst. -/
theorem engineBurstGrant_some {b i j : Nat} {a0 a1 a2 : ArbSt} (hp : s.halfPick h = some (b, a0))
    (hs : s.slabPick h b = some (i, a1)) (hc : s.clusterPick h (8 * b + i) = some (j, a2)) :
    exec (.engineBurstGrant h) s
      = .next ((((s.setArb h 0 a0).setArb h (1 + b) a1).setArb h (8 + (8 * b + i)) a2).burst h (16 * (8 * b + i) + j)) := by
  rw [State.halfPick] at hp
  refine congrArg Host.Outcome.next ((State.onHalf_runs s h _ hr).trans ?_)
  simp only [hp, hs, hc]
end

/-- Settles O31: the observer's loss, the fade, the ends of trace packets, and the arbiters' choice. -/
theorem observerLossAndTraceCommandsComplete : Obligations.ObserverLossAndTraceCommandsComplete :=
  ⟨fun h q u s _ hr hst hp hen hl hrun hc hu => lossDeclared_completes h q u s hr hst hp hen hl hrun hc hu,
    fun h q s _ hr hst hp hl hg => reacquired_completes h q s hr hst hp hl hg,
    fun h q s _ hr hst hp hl hc => catchExpired_completes h q s hr hst hp hl hc,
    fun h q s _ hr hst hp hf => fadeComplete_completes h q s hr hst hp hf,
    fun h q p s hr hp ht => tracePacketAge_completes h q p s hr hp ht,
    fun h q s hr => traceHalfBufferDrained_completes h q s hr,
    fun _ _ _ hr hpick => hpick ▸
      ⟨fun hn hz => (engineBurstGrant_none hr hn).trans (congrArg Host.Outcome.next (if_pos hz)),
        fun hn hz => (engineBurstGrant_none hr hn).trans (congrArg Host.Outcome.next (if_neg hz)),
        fun _ _ _ _ _ _ hp hs hc => engineBurstGrant_some hr hp hs hc⟩⟩

end Sys2Proof.Machine
end

section
/-! SUPPORT. The registers of a drive link, and what the shared operations of the links leave as it was: memory, the field deck, and
every register that they do not write (R30, R201, R207, R223, R339, R340). -/
namespace Sys2Proof.Machine

/-! ### The registers of a link -/

/-- The register at offset `o` of link `l`. -/
def linkAt (l o : Nat) : Nat := 0x1300000 + o + 0x1000 * l

/-- The named registers of a link by their offsets. -/
theorem linkAt_names (l : Nat) : Drv.linkCfg l = linkAt l 0x0 ∧ Drv.linkTiming l = linkAt l 0x4 ∧ Drv.linkStatus l = linkAt l 0x40
    ∧ Drv.retTime l = linkAt l 0x44 ∧ Drv.retTimeMax l = linkAt l 0x48 ∧ Drv.errCrcCnt l = linkAt l 0x4C
    ∧ Drv.errCodeCnt l = linkAt l 0x50 ∧ Drv.retMissCnt l = linkAt l 0x54 ∧ Drv.retStaleCnt l = linkAt l 0x58
    ∧ Drv.echoMissCnt l = linkAt l 0x5C ∧ Drv.cmdMissCnt l = linkAt l 0x60 ∧ Drv.cmdLateCnt l = linkAt l 0x64
    ∧ Drv.syncLossCnt l = linkAt l 0x68 ∧ Drv.lastCmd0 l = linkAt l 0x80 ∧ Drv.lastCmd1 l = linkAt l 0x84
    ∧ Drv.lastRet0 l = linkAt l 0x88 ∧ Drv.lastRet1 l = linkAt l 0x8C ∧ Drv.lastRet2 l = linkAt l 0x90
    ∧ Drv.lastRet3 l = linkAt l 0x94 :=
  ⟨rfl, rfl, rfl, rfl, rfl, rfl, rfl, rfl, rfl, rfl, rfl, rfl, rfl, rfl, rfl, rfl, rfl, rfl, rfl⟩
@[simp] theorem linkAt_inj {l o p : Nat} : linkAt l o = linkAt l p ↔ o = p := by
  simp only [linkAt]
  omega

/-- The registers of the error queues (R340). -/
def ErrqReg (a : Nat) : Prop := ∃ h, a = Apc.errqLost h ∨ a = Apc.errqWp h ∨ ∃ n w, a = Apc.errq h n w
/-- The registers that a change of a link's state writes (R201, R223, R340). -/
def LinkStateReg (l a : Nat) : Prop := a = Drv.linkStatus l ∨ a = Drv.faultMap 0 + 4 * (l / 32) ∨ ErrqReg a
/-- The registers that a count of a link writes beside the counter (R62, R223). -/
def CountReg (l a : Nat) : Prop := a = Drv.errMap 0 + 4 * (l / 32) ∨ ∃ h, EventReg h a

section
variable {l : Nat} (o : Nat) (hl : l < 64) (ho : o < 0x1000)
include hl ho

theorem linkAt_not_errqReg : ¬ ErrqReg (linkAt l o) := by
  rintro ⟨h, e | e | ⟨n, w, e⟩⟩ <;> simp only [linkAt, Apc.errqLost, Apc.errqWp, Apc.errq] at e <;> omega
theorem linkAt_not_linkStateReg (hne : o ≠ 0x40) : ¬ LinkStateReg l (linkAt l o) :=
  not_or.2 ⟨fun h => hne (linkAt_inj.1 h), not_or.2
    ⟨by simp only [linkAt, Drv.faultMap]; omega, linkAt_not_errqReg o hl ho⟩⟩
theorem linkAt_not_countReg : ¬ CountReg l (linkAt l o) := by
  simp only [CountReg, EventReg, linkAt, Drv.errMap, not_exists, not_or]
  refine ⟨by omega, fun h => ?_⟩
  cases h <;> simp only [Half.base] <;> omega
end

/-! ### What an operation keeps -/

/-- What a part `v` of the state must not notice for the links' operations to keep it: writes of the registers that `P` names,
reports, and notes of substituted sources. -/
structure KeptBeside {β : Type} (P : Nat → Prop) (v : State → β) : Prop where
  wr : ∀ t a w, P a → v (State.wr t a w) = v t
  report : ∀ t h time c k n d, v (State.reportAt t h time c k n d) = v t
  subst : ∀ t h (f : List Nat → List Nat), v (State.modHalf t h (fun x => { x with substOn := f x.substOn })) = v t

section
variable {P Q : Nat → Prop}

theorem KeptBeside.mono {β : Type} {v : State → β} (hv : KeptBeside P v) (hq : ∀ a, Q a → P a) : KeptBeside Q v :=
  ⟨fun t a w ha => hv.wr t a w (hq a ha), hv.report, hv.subst⟩
theorem keptBeside_byte (a : Nat) : KeptBeside P (State.byte · a) :=
  ⟨fun _ _ _ _ => rfl, fun _ _ _ _ _ _ _ => State.byte_reportAt .., fun _ _ _ => State.byte_modHalf ..⟩
theorem keptBeside_deck : KeptBeside P State.deck :=
  ⟨fun _ _ _ _ => rfl, fun _ _ _ _ _ _ _ => State.deck_reportAt .., fun _ _ _ => State.deck_modHalf ..⟩
theorem keptBeside_runs (h : Half) : KeptBeside P (State.runs · h) :=
  ⟨fun _ _ _ _ => State.runs_wr .., fun _ _ _ _ _ _ _ => State.runs_reportAt .., fun _ _ _ => State.runs_modHalf _ _ _ _ rfl rfl⟩
theorem keptBeside_rg {a : Nat} (ha : ¬ P a) : KeptBeside P (State.rg · a) :=
  ⟨fun _ _ _ hk => (State.rg_wr ..).trans (if_neg (by rintro rfl; exact ha hk)), fun _ _ _ _ _ _ _ => State.rg_reportAt ..,
    fun _ _ _ => State.rg_modHalf ..⟩
/-- The command words on their way from a half. -/
theorem keptBeside_drvTx (h : Half) : KeptBeside P (fun s => (s.half h).drvTx) := by
  have hmod (t : State) (k : Half) (f : HalfSt → HalfSt) (hf : ∀ x, (f x).drvTx = x.drvTx) :
      ((t.modHalf k f).half h).drvTx = (t.half h).drvTx := by
    by_cases e : h = k
    · rw [e, State.half_modHalf, hf]
    · rw [State.half_modHalf_ne _ _ _ _ e]
  exact ⟨fun t a w _ => congrArg HalfSt.drvTx (State.half_wr t a w h),
    fun t _ _ _ _ _ _ => ite_keeps (fun u => (u.half h).drvTx) (fun _ => rfl) fun _ => hmod _ _ _ fun _ => rfl,
    fun _ _ _ => hmod _ _ _ fun _ => rfl⟩
end

section
variable {β : Type} {v : State → β} {P : Nat → Prop}

theorem KeptBeside.reportDeck (hv : KeptBeside P v) (s : State) (c k n : Nat) (d : List Nat) : v (s.reportDeck c k n d) = v s :=
  (hv.report ..).trans (hv.report ..)
theorem KeptBeside.raise {h : Half} (hv : KeptBeside (EventReg h) v) (s : State) (src : Nat) (hs : src < 1024) :
    v (s.raise h src) = v s := by
  rcases s.raise_cases h src with e | e | e <;> rw [e]
  · exact hv.wr _ _ _ (.inr (by simp only [Evc.srcCnt]; omega))
  · exact hv.wr _ _ _ (.inr (by simp only [Evc.pend]; omega))
theorem KeptBeside.linkCount {l a : Nat} (hv : KeptBeside (fun k => k = a ∨ CountReg l k) v) (s : State) (hl : l < 64) :
    v (s.linkCount l a) = v s := by
  have hs : 640 + 8 + l / 8 < 1024 := by omega
  have hb := (hv.mono (Q := EventReg .b) fun _ hk => .inr (.inr ⟨_, hk⟩)).raise
    (((s.sat a).setMapBit (Drv.errMap 0) l true).raise .a (640 + 8 + l / 8)) _ hs
  have ha := (hv.mono (Q := EventReg .a) fun _ hk => .inr (.inr ⟨_, hk⟩)).raise
    ((s.sat a).setMapBit (Drv.errMap 0) l true) _ hs
  exact hb.trans (ha.trans ((hv.wr _ _ _ (.inr (.inl rfl))).trans (hv.wr _ _ _ (.inl rfl))))
theorem KeptBeside.apcReport (hv : KeptBeside P v) (s : State) (h : Half) (c t : Nat) (d : List Nat) :
    v (s.apcReport h c t d) = v s :=
  ite_keeps v (fun _ => hv.report ..) fun _ => hv.report ..
theorem KeptBeside.errEntry (hv : KeptBeside ErrqReg v) (s : State) (h : Half) (cls t src data : Nat) :
    v (s.errEntry h cls t src data) = v s := by
  have hlost (u : State) (w : Word) : v (u.wr (Apc.errqLost h) w) = v u := hv.wr _ _ _ ⟨h, .inl rfl⟩
  have hwp (u : State) (w : Word) : v (u.wr (Apc.errqWp h) w) = v u := hv.wr _ _ _ ⟨h, .inr (.inl rfl)⟩
  have hq (u : State) (n k : Nat) (w : Word) : v (u.wr (Apc.errq h n k) w) = v u := hv.wr _ _ _ ⟨h, .inr (.inr ⟨n, k, rfl⟩)⟩
  simp only [State.errEntry]
  exact ite_keeps v (fun _ => (ite_keeps v (fun _ => hv.apcReport ..) fun _ => rfl).trans (hlost _ _))
    fun _ => (hwp _ _).trans ((hq ..).trans ((hq ..).trans ((hq ..).trans (hq ..))))
theorem KeptBeside.substEdge (hv : KeptBeside ErrqReg v) (s : State) (h : Half) (t kind n : Nat) :
    v (s.substEdge h t kind n) = v s := by
  simp only [State.substEdge]
  refine ite_keeps v (fun _ => rfl) fun _ => (hv.report ..).trans ?_
  exact (ite_keeps v (fun _ => rfl) fun _ => hv.errEntry ..).trans
    (hv.subst s h fun l => if s.sourceDown h kind n then l ++ [kind * 65536 + n] else l.filter (· != kind * 65536 + n))
theorem KeptBeside.sourceEdge (hv : KeptBeside ErrqReg v) (s : State) (kind n : Nat) : v (s.sourceEdge kind n) = v s := by
  have hf (t : State) (h : Half) : v (if t.deckHears h then t.substEdge h 16 kind n else t) = v t :=
    ite_keeps v (fun _ => hv.substEdge ..) fun _ => rfl
  exact (hf _ _).trans (hf _ _)
theorem KeptBeside.linkShow {l : Nat} (hv : KeptBeside (LinkStateReg l) v) (s : State) : v (s.linkShow l) = v s :=
  hv.wr _ _ _ (.inr (.inl rfl))
theorem KeptBeside.setLink {l : Nat} (hv : KeptBeside (LinkStateReg l) v) (s : State) (n : Nat) : v (s.setLink l n) = v s :=
  ((hv.mono fun _ hk => .inr (.inr hk)).sourceEdge ..).trans ((hv.linkShow _).trans (hv.wr _ _ _ (.inl rfl)))
theorem KeptBeside.linkFall {l : Nat}
    (hv : KeptBeside (fun k => k = Drv.syncLossCnt l ∨ CountReg l k ∨ LinkStateReg l k) v) (s : State) (hl : l < 64) (cause : Nat) :
    v (s.linkFall l cause) = v s := by
  refine ite_keeps v (fun _ => (hv.reportDeck ..).trans ?_) fun _ => rfl
  exact ((hv.mono fun _ hk => hk.imp_right .inl).linkCount _ hl).trans ((hv.mono fun _ hk => .inr (.inr hk)).setLink _ _)
end

/-! ### Links and their runs -/

theorem State.lrun_of_deck {s t : State} (hd : t.deck = s.deck) (l : Nat) : t.lrun l = s.lrun l := by
  rw [State.lrun, hd, State.lrun]
@[simp] theorem State.lrun_fw (s : State) (a hi lo n l : Nat) : (s.fw a hi lo n).lrun l = s.lrun l :=
  State.lrun_of_deck (State.deck_fw ..) l
@[simp] theorem State.lrun_wn (s : State) (a n l : Nat) : (s.wn a n).lrun l = s.lrun l :=
  State.lrun_of_deck (State.deck_wn ..) l
@[simp] theorem State.lrun_sb (s : State) (a n l : Nat) (b : Bool) : (s.sb a n b).lrun l = s.lrun l :=
  State.lrun_of_deck (State.deck_sb ..) l
@[simp] theorem State.lrun_satF (s : State) (a hi lo n l : Nat) : (s.satF a hi lo n).lrun l = s.lrun l :=
  State.lrun_of_deck (State.deck_satF ..) l
@[simp] theorem State.lrun_modHalf (s : State) (h : Half) (f : HalfSt → HalfSt) (l : Nat) : (s.modHalf h f).lrun l = s.lrun l :=
  State.lrun_of_deck (State.deck_modHalf ..) l
@[simp] theorem State.lrun_reportDeck (s : State) (c k n : Nat) (d : List Nat) (l : Nat) : (s.reportDeck c k n d).lrun l = s.lrun l :=
  State.lrun_of_deck (State.deck_reportDeck ..) l
@[simp] theorem State.runs_modLink (s : State) (l : Nat) (f : LinkRun → LinkRun) (h : Half) : (s.modLink l f).runs h = s.runs h :=
  State.runs_modDeck ..

/-! ### Counts (R207, R223) -/

section
variable {s : State} {l : Nat} (hl : l < 64)
include hl

theorem State.byte_linkCount (a b : Nat) : (s.linkCount l a).byte b = s.byte b := (keptBeside_byte b).linkCount s hl
theorem State.deck_linkCount (a : Nat) : (s.linkCount l a).deck = s.deck := keptBeside_deck.linkCount s hl
theorem State.lrun_linkCount (a k : Nat) : (s.linkCount l a).lrun k = s.lrun k := State.lrun_of_deck (State.deck_linkCount hl a) k
/-- A count changes of the link's registers the counter alone. -/
theorem State.rg_linkCount_other {o p : Nat} (ho : o < 0x1000) (hop : o ≠ p) :
    (s.linkCount l (linkAt l p)).rg (linkAt l o) = s.rg (linkAt l o) :=
  (keptBeside_rg (not_or.2 ⟨fun h => hop (linkAt_inj.1 h), linkAt_not_countReg o hl ho⟩)).linkCount s hl
/-- The counter goes up by one, and stops at its end. -/
theorem State.rn_linkCount {o : Nat} (ho : o < 0x1000) :
    (s.linkCount l (linkAt l o)).rn (linkAt l o) = min (s.rn (linkAt l o) + 1) (2 ^ 32 - 1) := by
  have hs : 640 + 8 + l / 8 < 1024 := by omega
  have hev (h : Half) : ¬ EventReg h (linkAt l o) := fun he => linkAt_not_countReg o hl ho (.inr ⟨h, he⟩)
  have hmap : linkAt l o ≠ Drv.errMap 0 + 4 * (l / 32) := fun he => linkAt_not_countReg o hl ho (.inl he)
  have hsat : (s.linkCount l (linkAt l o)).rg (linkAt l o) = (s.sat (linkAt l o)).rg (linkAt l o) := by
    rw [State.linkCount, State.raiseBoth, State.rg_raise_of_not_eventReg _ _ _ _ hs (hev _),
      State.rg_raise_of_not_eventReg _ _ _ _ hs (hev _), State.rg_setMapBit, if_neg hmap]
  rw [State.rn, hsat]
  exact (s.rn_sat _).trans (min_comm ..)
/-- The source of the link's connector is asserted in each half that runs. -/
theorem State.pends_linkCount (a : Nat) {h : Half} (hr : s.runs h = true) : Pends (s.linkCount l a) h (648 + l / 8) := by
  have hs : 640 + 8 + l / 8 < 16384 := by omega
  have hru : ((s.sat a).setMapBit (Drv.errMap 0) l true).runs h = true := by simpa [State.sat] using hr
  cases h with
  | a => exact State.raise_keeps _ _ _ _ _ hs hs (State.raise_pends _ _ _ hru hs)
  | b => exact State.raise_pends _ _ _ ((State.runs_raise ..).trans hru) hs
end

/-! ### The state of a link (R201, R205, R223) -/

/-- FAULT_MAP after it follows the link's fault. -/
theorem State.mapBit_linkShow (s : State) (l : Nat) : (s.linkShow l).mapBit (Drv.faultMap 0) l
    = ((s.bt (Drv.linkCfg l) 0 && decide (s.linkState l ≠ 2)) || s.bt (Drv.linkStatus l) 3 || s.bt (Drv.linkStatus l) 4) :=
  State.mapBit_setMapBit ..
theorem State.rg_linkShow (s : State) {l o : Nat} (hl : l < 64) (ho : o < 0x1000) :
    (s.linkShow l).rg (linkAt l o) = s.rg (linkAt l o) := by
  rw [State.linkShow, State.rg_setMapBit, if_neg]
  simp only [linkAt, Drv.faultMap]
  omega
theorem State.rg_setLink (s : State) {l : Nat} (hl : l < 64) (n : Nat) :
    (s.setLink l n).rg (Drv.linkStatus l) = setBits (s.rg (Drv.linkStatus l)) 1 0 n := by
  have hsrc := (keptBeside_rg (linkAt_not_errqReg 0x40 hl (by decide))).sourceEdge ((s.fw (Drv.linkStatus l) 1 0 n).linkShow l) 3 l
  exact hsrc.trans ((State.rg_linkShow _ hl (by decide)).trans ((State.rg_fw ..).trans (if_pos rfl)))
theorem State.linkState_setLink (s : State) {l : Nat} (hl : l < 64) (n : Nat) : (s.setLink l n).linkState l = n % 4 :=
  (congrArg (bits · 1 0) (s.rg_setLink hl n)).trans (bits_setBits _ _ _ _ (by decide) (by decide))

/-- A fall from UP leaves the sequence number. -/
theorem State.seq_linkFall (s : State) {l : Nat} (hl : l < 64) (cause : Nat) :
    (s.linkFall l cause).fd (Drv.linkStatus l) 15 8 = s.fd (Drv.linkStatus l) 15 8 := by
  refine ite_keeps (State.fd · (Drv.linkStatus l) 15 8) (fun _ => ?_) fun _ => rfl
  have hrg := (State.rg_reportDeck _ 0x0701 0x0C l [cause] _).trans ((State.rg_linkCount_other (s := s.setLink l 1) hl (o := 0x40) (p := 0x68)
    (by decide) (by decide)).trans (s.rg_setLink hl 1))
  exact (congrArg (bits · 15 8) hrg).trans (bits_setBits_other _ _ _ _ _ _ (by decide) (by decide) (by decide))
theorem State.rg_linkFall_other (s : State) {l o : Nat} (hl : l < 64) (cause : Nat) (ho : o < 0x1000) (h1 : o ≠ 0x40) (h2 : o ≠ 0x68) :
    (s.linkFall l cause).rg (linkAt l o) = s.rg (linkAt l o) :=
  (keptBeside_rg (not_or.2 ⟨fun h => h2 (linkAt_inj.1 h), not_or.2
    ⟨linkAt_not_countReg o hl ho, linkAt_not_linkStateReg o hl ho h1⟩⟩)).linkFall s hl cause
theorem State.byte_linkFall (s : State) {l : Nat} (hl : l < 64) (cause a : Nat) : (s.linkFall l cause).byte a = s.byte a :=
  (keptBeside_byte a).linkFall s hl cause

/-! ### Events and commands of the field deck (R28, R538) -/

theorem State.onDeck_out_of_reset (s : State) (f : State → State) (hd : s.deck.inReset = false) : s.onDeck f = f s := by
  simp [State.onDeck, hd]
theorem State.deckCmd_of_mayCmd {s : State} {h : Half} {g : Nat} (f : State → State) (hm : MayCmd s h g) : s.deckCmd h g f = f s := by
  obtain ⟨hr, hu, ho⟩ := hm
  rw [State.deckCmd, State.onHalf_runs _ _ _ hr, if_pos hu, State.ifOwner, if_pos ho]
/-- A record of a field-deck block is on its way in each half that runs. -/
theorem State.reported_reportDeck (s : State) (c k n : Nat) (d : List Nat) {h : Half} (hr : s.runs h = true) :
    Reported (s.reportDeck c k n d) h c k n := by
  refine ⟨⟨c, k, n, s.deckNow, d.map (BitVec.ofNat 32)⟩, ?_, rfl, rfl, rfl⟩
  cases h with
  | a =>
    have hb : ((s.reportDeck c k n d).half .a).log.inbox = ((s.reportAt .a s.deckNow c k n d).half .a).log.inbox :=
      ite_keeps (fun u => (u.half .a).log.inbox) (fun _ => rfl) fun _ => congrArg (·.log.inbox) (State.half_modHalf_other _ .b _)
    rw [hb, State.inbox_reportAt _ _ _ _ _ _ _ hr]
    exact List.mem_append_right _ List.mem_cons_self
  | b =>
    rw [State.reportDeck, State.inbox_reportAt _ _ _ _ _ _ _ ((State.runs_reportAt ..).trans hr)]
    exact List.mem_append_right _ List.mem_cons_self

end Sys2Proof.Machine
end

section
/-! SUPPORT. A command frame of a drive link: what it leaves of the link's run, and what it leaves as it was (R194, R198, R199). -/
namespace Sys2Proof.Machine

/-! ### A frame starts -/

/-- The run of a link whose frame with these duties, PWM_EN, gate mark, SEQ and CTRL has started. -/
def LinkRun.framed (r : LinkRun) (duty : List Nat) (stale pwm gated : Bool) (seq ctrl : Nat) : LinkRun :=
  { r with
    started := true
    duty := duty
    pwm := pwm
    missRun := if stale then r.missRun else 0
    curSeq := some seq
    gated := gated
    tx := r.tx ++ frameChars (cmdBytes seq duty ctrl) }
/-- CTRL of a command frame (R194). -/
def frameCtrl (pwm coast stale gated ofB : Bool) : Nat :=
  pwm.toNat + coast.toNat * 2 + stale.toNat * 4 + gated.toNat * 8 + (if ofB then 16 else 0)
theorem testBit_frameCtrl (pwm coast stale gated ofB : Bool) : (frameCtrl pwm coast stale gated ofB).testBit 2 = stale := by
  revert pwm coast stale gated ofB
  decide
/-- The registers that a command frame writes. -/
def FrameReg (l a : Nat) : Prop := a = Drv.linkStatus l ∨ a = Drv.lastCmd0 l ∨ a = Drv.lastCmd1 l

theorem linkAt_not_frameReg {l o : Nat} (h0 : o ≠ 0x40) (h1 : o ≠ 0x80) (h2 : o ≠ 0x84) : ¬ FrameReg l (linkAt l o) :=
  not_or.2 ⟨fun h => h0 (linkAt_inj.1 h), not_or.2 ⟨fun h => h1 (linkAt_inj.1 h), fun h => h2 (linkAt_inj.1 h)⟩⟩

section
variable (s : State) (l : Nat) (duty : List Nat) (pwm coast stale : Bool)

theorem KeptBeside.cmdFrame {β : Type} {v : State → β} (hv : KeptBeside (FrameReg l) v)
    (hm : ∀ t f, v (State.modLink t l f) = v t) : v (s.cmdFrame l duty pwm coast stale) = v s := by
  have h0 (t : State) (w : Word) : v (t.wr (Drv.linkStatus l) w) = v t := hv.wr _ _ _ (.inl rfl)
  have h1 (t : State) (w : Word) : v (t.wr (Drv.lastCmd0 l) w) = v t := hv.wr _ _ _ (.inr (.inl rfl))
  have h2 (t : State) (w : Word) : v (t.wr (Drv.lastCmd1 l) w) = v t := hv.wr _ _ _ (.inr (.inr rfl))
  have hrun (t : State) (f : LinkRun → LinkRun) (w0 w1 w2 : Word) :
      v ((((t.wr (Drv.lastCmd0 l) w0).wr (Drv.lastCmd1 l) w1).wr (Drv.linkStatus l) w2).modLink l f) = v t :=
    (hm ..).trans ((h0 ..).trans ((h2 ..).trans (h1 ..)))
  exact ite_keeps v (fun _ => (hv.reportDeck ..).trans (hrun ..)) fun _ => hrun ..
/-- The link's run after its frame has started; CTRL carries the stale mark as bit 2. -/
theorem State.lrun_cmdFrame : ∃ p g ctrl, ctrl.testBit 2 = stale
    ∧ (s.cmdFrame l duty pwm coast stale).lrun l = (s.lrun l).framed duty stale p g (s.fd (Drv.linkStatus l) 15 8) ctrl := by
  let gated := !s.bt (Drv.linkStatus l) 2 || (s.lrun l).gated
  refine ⟨pwm && !gated && !coast, !s.bt (Drv.linkStatus l) 2,
    frameCtrl (pwm && !gated && !coast) coast stale gated (decide (s.owner (40 + l) = some .b)), testBit_frameCtrl .., ?_⟩
  have hbit (w : Word) : bit (setBit w 5 stale) 2 = bit w 2 := bit_setBit_other _ _ _ _ (by decide)
  simp only [State.cmdFrame]
  split <;> simp [State.bt, linkAt_names, hbit, LinkRun.framed, frameCtrl, gated]
/-- LINK_STATUS shows the stale mark as bit 5 and is otherwise as it was. -/
theorem State.status_cmdFrame : (s.cmdFrame l duty pwm coast stale).rg (Drv.linkStatus l) = setBit (s.rg (Drv.linkStatus l)) 5 stale := by
  simp only [State.cmdFrame]
  split <;> simp [linkAt_names]
end

/-! ### A frame starts once its command is complete (R198) -/

section
variable (s : State) (l : Nat)

theorem State.tryFrame_cases : s.tryFrame l = s ∨ ∃ duty pwm, s.tryFrame l = s.cmdFrame l duty pwm (s.lrun l).coast false :=
  (em _).elim (fun hc => .inr ⟨_, _, if_pos hc⟩) fun hc => .inl (if_neg hc)
theorem KeptBeside.tryFrame {β : Type} {v : State → β} (hv : KeptBeside (FrameReg l) v)
    (hm : ∀ t f, v (State.modLink t l f) = v t) : v (s.tryFrame l) = v s := by
  rcases s.tryFrame_cases l with e | ⟨duty, pwm, e⟩ <;> rw [e]
  exact hv.cmdFrame _ _ _ _ _ _ hm
theorem State.byte_tryFrame (a : Nat) : (s.tryFrame l).byte a = s.byte a :=
  (keptBeside_byte a).tryFrame s l fun t f => State.byte_modLink t l a f
theorem State.drvTx_tryFrame (h : Half) : ((s.tryFrame l).half h).drvTx = (s.half h).drvTx :=
  (keptBeside_drvTx h).tryFrame s l fun t _ => congrArg HalfSt.drvTx (State.half_modDeck t _ h)
theorem State.rg_tryFrame_other {o : Nat} (h0 : o ≠ 0x40) (h1 : o ≠ 0x80) (h2 : o ≠ 0x84) :
    (s.tryFrame l).rg (linkAt l o) = s.rg (linkAt l o) :=
  (keptBeside_rg (linkAt_not_frameReg h0 h1 h2)).tryFrame s l fun t f => State.rg_modLink t l _ f
theorem State.seq_tryFrame : (s.tryFrame l).fd (Drv.linkStatus l) 15 8 = s.fd (Drv.linkStatus l) 15 8 := by
  rcases s.tryFrame_cases l with e | ⟨duty, pwm, e⟩ <;> rw [e]
  rw [State.fd, State.status_cmdFrame, bits_setBit_other _ _ _ _ _ (by decide) (by decide), State.fd]
/-- What a frame that may start leaves of the link's run, and that it only adds to what leaves the link. -/
theorem State.lrun_tryFrame : ((s.tryFrame l).lrun l).got = (s.lrun l).got ∧ ((s.tryFrame l).lrun l).words = (s.lrun l).words
    ∧ ((s.tryFrame l).lrun l).coast = (s.lrun l).coast ∧ ((s.tryFrame l).lrun l).synced = (s.lrun l).synced
    ∧ ((s.tryFrame l).lrun l).accepted = (s.lrun l).accepted ∧ (s.lrun l).tx <+: ((s.tryFrame l).lrun l).tx := by
  rcases s.tryFrame_cases l with e | ⟨duty, pwm, e⟩
  · rw [e]
    exact ⟨rfl, rfl, rfl, rfl, rfl, List.prefix_rfl⟩
  · obtain ⟨p, g, ctrl, -, hr⟩ := s.lrun_cmdFrame l duty pwm (s.lrun l).coast false
    rw [e, hr]
    exact ⟨rfl, rfl, rfl, rfl, rfl, List.prefix_append ..⟩
end

end Sys2Proof.Machine
end

section
/-! A link's boundary, the words of its owner and the deadline (R197-R201). -/
namespace Sys2Proof.Machine

/-! ### The boundary: what the last sample missed is counted (R200, R201) -/

/-- Adding to a register that counts up to 2^32 - 1. -/
theorem State.rn_satF_word (s : State) (a k : Nat) : (s.satF a 31 0 k).rn a = min (s.rn a + k) (2 ^ 32 - 1) := by
  have hv : satAdd (2 ^ 32 - 1) (s.rn a) k = min (s.rn a + k) (2 ^ 32 - 1) := by
    simp only [satAdd]
    split_ifs <;> omega
  rw [State.rn, State.rg_satF, if_pos rfl, ← bits_31_0, bits_setBits _ _ _ _ (by decide) (by decide), State.fd, bits_31_0]
  exact (congrArg (· % 2 ^ 32) hv).trans (Nat.mod_eq_of_lt (by omega))

/-- Whether the sample that ends saw no return frame. -/
def State.missedReturn (s : State) (l : Nat) : Bool := (s.lrun l).synced && !(s.lrun l).accepted
/-- The code errors that the receiver met outside frames are counted. -/
def State.errsCounted (s : State) (l errs : Nat) : State :=
  if errs = 0 then s else (s.satF (Drv.errCodeCnt l) 31 0 (errs - 1)).linkCount l (Drv.errCodeCnt l)
/-- And so is a missing return frame. -/
def State.missCounted (s : State) (l : Nat) : State := if s.missedReturn l then s.linkCount l (Drv.retMissCnt l) else s

section
variable (s : State) {l : Nat} (hl : l < 64) (errs : Nat)
include hl

theorem State.rn_errsCounted :
    (s.errsCounted l errs).rn (Drv.errCodeCnt l) = min (s.rn (Drv.errCodeCnt l) + errs) (2 ^ 32 - 1) := by
  have hlt : s.rn (Drv.errCodeCnt l) < 2 ^ 32 := (s.rg _).isLt
  rw [State.errsCounted]
  split
  · omega
  · have hsat : (s.satF (Drv.errCodeCnt l) 31 0 (errs - 1)).rn (linkAt l 0x50)
        = min (s.rn (Drv.errCodeCnt l) + (errs - 1)) (2 ^ 32 - 1) := State.rn_satF_word ..
    refine (State.rn_linkCount hl (by decide : 0x50 < 0x1000)).trans ?_
    rw [hsat]
    omega
theorem State.rg_errsCounted_other {o : Nat} (ho : o < 0x1000) (h : o ≠ 0x50) :
    (s.errsCounted l errs).rg (linkAt l o) = s.rg (linkAt l o) :=
  ite_keeps (State.rg · (linkAt l o)) (fun _ => rfl) fun _ => (State.rg_linkCount_other hl ho h).trans
    ((State.rg_satF ..).trans (if_neg fun e => h (linkAt_inj.1 e)))
theorem State.byte_errsCounted (a : Nat) : (s.errsCounted l errs).byte a = s.byte a :=
  ite_keeps (State.byte · a) (fun _ => rfl) fun _ => (State.byte_linkCount hl ..).trans (State.byte_satF ..)
theorem State.missedReturn_errsCounted : (s.errsCounted l errs).missedReturn l = s.missedReturn l := by
  have hr : (s.errsCounted l errs).lrun l = s.lrun l :=
    ite_keeps (State.lrun · l) (fun _ => rfl) fun _ => (State.lrun_linkCount hl ..).trans (State.lrun_satF ..)
  rw [State.missedReturn, hr, State.missedReturn]

theorem State.rn_missCounted :
    (s.missCounted l).rn (Drv.retMissCnt l) = min (s.rn (Drv.retMissCnt l) + (s.missedReturn l).toNat) (2 ^ 32 - 1) := by
  have hlt : s.rn (Drv.retMissCnt l) < 2 ^ 32 := (s.rg _).isLt
  rw [State.missCounted]
  cases s.missedReturn l with
  | true => exact State.rn_linkCount hl (by decide : 0x54 < 0x1000)
  | false => simp only [Bool.false_eq_true, if_false, Bool.toNat_false]; omega
theorem State.rg_missCounted_other {o : Nat} (ho : o < 0x1000) (h : o ≠ 0x54) :
    (s.missCounted l).rg (linkAt l o) = s.rg (linkAt l o) :=
  ite_keeps (State.rg · (linkAt l o)) (fun _ => State.rg_linkCount_other hl ho h) fun _ => rfl
theorem State.byte_missCounted (a : Nat) : (s.missCounted l).byte a = s.byte a :=
  ite_keeps (State.byte · a) (fun _ => State.byte_linkCount hl ..) fun _ => rfl
end

/-! ### The boundary: SYNC opens the sample (R197) -/

/-- The run of a link whose sample has begun. -/
def LinkRun.opened (r : LinkRun) (seq now k noRet : Nat) : LinkRun :=
  { r with
    got := 0
    words := []
    coast := false
    started := false
    accepted := false
    synced := true
    syncT := now
    syncK := k
    noRet := noRet
    prevSeq := r.curSeq
    curSeq := none
    tx := syncChars seq }
/-- SEQ goes up by one, SYNC carries it, and a frame that waits for no word starts. -/
def State.sampleOpened (s : State) (l now k noRet : Nat) : State :=
  let seq := (s.fd (Drv.linkStatus l) 15 8 + 1) % 256
  ((s.fw (Drv.linkStatus l) 15 8 seq).modLink l (·.opened seq now k noRet)).tryFrame l

section
variable (s : State) (l now k noRet : Nat)

theorem State.seq_sampleOpened :
    (s.sampleOpened l now k noRet).fd (Drv.linkStatus l) 15 8 = (s.fd (Drv.linkStatus l) 15 8 + 1) % 256 := by
  rw [State.sampleOpened, State.seq_tryFrame, State.fd, State.rg_modLink]
  exact (State.fd_fw _ _ _ (by decide) (by decide)).trans (Nat.mod_mod _ _)
theorem State.rg_sampleOpened_other {o : Nat} (h0 : o ≠ 0x40) (h1 : o ≠ 0x80) (h2 : o ≠ 0x84) :
    (s.sampleOpened l now k noRet).rg (linkAt l o) = s.rg (linkAt l o) := by
  rw [State.sampleOpened, State.rg_tryFrame_other _ _ h0 h1 h2, State.rg_modLink]
  exact (State.rg_fw ..).trans (if_neg fun e => h0 (linkAt_inj.1 e))
theorem State.byte_sampleOpened (a : Nat) : (s.sampleOpened l now k noRet).byte a = s.byte a :=
  (State.byte_tryFrame ..).trans ((State.byte_modLink ..).trans (State.byte_fw ..))
theorem State.lrun_sampleOpened : ((s.sampleOpened l now k noRet).lrun l).synced = true
    ∧ ((s.sampleOpened l now k noRet).lrun l).accepted = false
    ∧ syncChars ((s.fd (Drv.linkStatus l) 15 8 + 1) % 256) <+: ((s.sampleOpened l now k noRet).lrun l).tx := by
  let seq := (s.fd (Drv.linkStatus l) 15 8 + 1) % 256
  let opened := (s.fw (Drv.linkStatus l) 15 8 seq).modLink l (·.opened seq now k noRet)
  have hrun : opened.lrun l = (s.lrun l).opened seq now k noRet := by simp [opened]
  obtain ⟨-, -, -, hs, ha, ht⟩ := opened.lrun_tryFrame l
  rw [hrun] at hs ha ht
  exact ⟨hs, ha, ht⟩
end

/-- A boundary not yet passed counts what the last sample missed, lets the receiver fall or not, and opens a sample. -/
theorem execDriveLinkSync_opens {s : State} {l : Nat} (errs : Nat) (hd : s.deck.inReset = false) (hen : s.bt (Drv.linkCfg l) 0 = true)
    (hk : (s.lrun l).synced = true → (s.lrun l).syncK ≠ s.linkBoundary l) : ∃ u now k noRet,
      (u = (s.errsCounted l errs).missCounted l ∨ u = ((s.errsCounted l errs).missCounted l).linkFall l 1)
        ∧ exec (.driveLinkSync ⟨l, errs⟩) s = .next (u.sampleOpened l now k noRet) := by
  have hopen : ¬ (s.bt (Drv.linkCfg l) 0 = false ∨ ((s.lrun l).synced = true ∧ (s.lrun l).syncK = s.linkBoundary l)) := by
    simpa [hen] using hk
  refine ⟨_, _, _, _, ?_, congrArg Host.Outcome.next ((s.onDeck_out_of_reset _ hd).trans (if_neg hopen))⟩
  exact (em _).elim (fun h => .inr (if_pos h)) fun h => .inl (if_neg h)

theorem driveLinkSync_completes (l : Nat) (s : State) (hl : l < 64) (hd : s.deck.inReset = false) (hen : s.bt (Drv.linkCfg l) 0 = true)
    (hk : (s.lrun l).synced = true → (s.lrun l).syncK ≠ s.linkBoundary l) (errs : Nat) :
    Gives (.driveLinkSync ⟨l, errs⟩) s (fun t => t.fd (Drv.linkStatus l) 15 8 = (s.fd (Drv.linkStatus l) 15 8 + 1) % 256
      ∧ (t.lrun l).synced = true ∧ (t.lrun l).accepted = false ∧ SameMem s t
      ∧ syncChars ((s.fd (Drv.linkStatus l) 15 8 + 1) % 256) <+: (t.lrun l).tx
      ∧ t.rn (Drv.errCodeCnt l) = min (s.rn (Drv.errCodeCnt l) + errs) (2 ^ 32 - 1)
      ∧ t.rn (Drv.retMissCnt l) = min (s.rn (Drv.retMissCnt l)
          + ((s.lrun l).synced && !(s.lrun l).accepted).toNat) (2 ^ 32 - 1)) := by
  obtain ⟨u, now, k, noRet, hu, hex⟩ := execDriveLinkSync_opens errs hd hen hk
  let c := (s.errsCounted l errs).missCounted l
  have hseq : c.fd (Drv.linkStatus l) 15 8 = s.fd (Drv.linkStatus l) 15 8 :=
    congrArg (bits · 15 8) ((State.rg_missCounted_other _ hl (o := 0x40) (by decide) (by decide)).trans
      (State.rg_errsCounted_other _ hl errs (by decide) (by decide)))
  have hcode : c.rn (Drv.errCodeCnt l) = min (s.rn (Drv.errCodeCnt l) + errs) (2 ^ 32 - 1) :=
    (congrArg BitVec.toNat (State.rg_missCounted_other _ hl (o := 0x50) (by decide) (by decide))).trans (s.rn_errsCounted hl errs)
  have hmiss : c.rn (Drv.retMissCnt l) = min (s.rn (Drv.retMissCnt l) + (s.missedReturn l).toNat) (2 ^ 32 - 1) := by
    rw [State.rn_missCounted _ hl, State.missedReturn_errsCounted _ hl, State.rn,
      show (s.errsCounted l errs).rg (Drv.retMissCnt l) = s.rg (Drv.retMissCnt l) from
        State.rg_errsCounted_other _ hl errs (o := 0x54) (by decide) (by decide), State.rn]
  have hmem (a : Nat) : c.byte a = s.byte a := (State.byte_missCounted _ hl a).trans (s.byte_errsCounted hl errs a)
  have hfall : u.fd (Drv.linkStatus l) 15 8 = c.fd (Drv.linkStatus l) 15 8 ∧ (∀ a, u.byte a = c.byte a)
      ∧ ∀ o, o < 0x1000 → o ≠ 0x40 → o ≠ 0x68 → u.rg (linkAt l o) = c.rg (linkAt l o) := by
    rcases hu with rfl | rfl
    · exact ⟨rfl, fun _ => rfl, fun _ _ _ _ => rfl⟩
    · exact ⟨c.seq_linkFall hl 1, c.byte_linkFall hl 1, fun _ => c.rg_linkFall_other hl 1⟩
  obtain ⟨hseqU, hmemU, hregU⟩ := hfall
  obtain ⟨hsync, hacc, htx⟩ := u.lrun_sampleOpened l now k noRet
  rw [hseqU, hseq] at htx
  refine ⟨_, hex, ?_, hsync, hacc, fun a => (u.byte_sampleOpened l now k noRet a).trans ((hmemU a).trans (hmem a)), htx, ?_, ?_⟩
  · rw [State.seq_sampleOpened, hseqU, hseq]
  · exact (congrArg BitVec.toNat ((u.rg_sampleOpened_other l now k noRet (o := 0x50) (by decide) (by decide) (by decide)).trans
      (hregU _ (by decide) (by decide) (by decide)))).trans hcode
  · exact (congrArg BitVec.toNat ((u.rg_sampleOpened_other l now k noRet (o := 0x54) (by decide) (by decide) (by decide)).trans
      (hregU _ (by decide) (by decide) (by decide)))).trans hmiss

/-! ### Words of the owner (R198) -/

/-- The run of a link that has taken a command word. -/
def LinkRun.took (r : LinkRun) (c : CmdWord) : LinkRun :=
  { r with
    got := r.got ||| 2 ^ c.sel
    words := Map.set (fun _ => 0) r.words c.sel c.word
    coast := r.coast || c.coast }

/-- A word that a link takes is counted as late once the sample's frame has started, and else kept; the frame may start. -/
def State.wordTaken (s : State) (c : CmdWord) : State :=
  if (s.lrun c.idx).started then s.linkCount c.idx (Drv.cmdLateCnt c.idx) else (s.modLink c.idx (·.took c)).tryFrame c.idx

section
variable (s : State) (c : CmdWord)

theorem State.wordTaken_kept (hst : (s.lrun c.idx).started = false) :
    ((s.wordTaken c).lrun c.idx).got = (s.lrun c.idx).got ||| 2 ^ c.sel
      ∧ Map.get (fun _ => 0) ((s.wordTaken c).lrun c.idx).words c.sel = c.word
      ∧ ((s.wordTaken c).lrun c.idx).coast = ((s.lrun c.idx).coast || c.coast) := by
  obtain ⟨hgot, hwords, hcoast, -⟩ := (s.modLink c.idx (·.took c)).lrun_tryFrame c.idx
  rw [State.lrun_modLink] at hgot hwords hcoast
  rw [State.wordTaken, if_neg (by simp [hst]), hwords]
  exact ⟨hgot, Map.get_set_same .., hcoast⟩

section
variable (hl : c.idx < 64)
include hl

theorem State.drvTx_wordTaken (h : Half) : ((s.wordTaken c).half h).drvTx = (s.half h).drvTx :=
  ite_keeps (fun u => (u.half h).drvTx) (fun _ => (keptBeside_drvTx h).linkCount s hl)
    fun _ => (State.drvTx_tryFrame ..).trans (congrArg HalfSt.drvTx (State.half_modDeck ..))
theorem State.byte_wordTaken (a : Nat) : (s.wordTaken c).byte a = s.byte a :=
  ite_keeps (State.byte · a) (fun _ => State.byte_linkCount hl ..) fun _ => (State.byte_tryFrame ..).trans (State.byte_modLink ..)
theorem State.wordTaken_late (hst : (s.lrun c.idx).started = true) :
    (s.wordTaken c).rn (Drv.cmdLateCnt c.idx) = min (s.rn (Drv.cmdLateCnt c.idx) + 1) (2 ^ 32 - 1)
      ∧ (s.wordTaken c).lrun c.idx = s.lrun c.idx := by
  rw [State.wordTaken, if_pos hst]
  exact ⟨State.rn_linkCount hl (by decide : 0x64 < 0x1000), State.lrun_linkCount hl ..⟩
end
end

/-- The oldest word leaves its half, and its link takes it from the owner. -/
theorem execDriveCmdWord_taken {h : Half} {c : CmdWord} {rest : List CmdWord} {s : State} (hm : MayCmd s h (40 + c.idx))
    (htx : (s.half h).drvTx = c :: rest) (hl : c.idx < 64) (hs : c.sel < 4) (hen : s.bt (Drv.linkCfg c.idx) 0 = true)
    (ht : s.takes (0x400 + 16 * c.idx + 4 * c.sel) c.loop c.j = true) :
    exec (.driveCmdWord h) s = .next ((s.modHalf h (fun x => { x with drvTx := rest })).wordTaken c) := by
  let u := s.modHalf h (fun x => { x with drvTx := rest })
  have hmu : MayCmd u h (40 + c.idx) := by
    obtain ⟨hr, hu, ho⟩ := hm
    exact ⟨(State.runs_modHalf _ _ _ _ rfl rfl).trans hr, by simpa [u] using hu, (State.owns_modHalf ..).trans ho⟩
  have henU : u.bt (Drv.linkCfg c.idx) 0 = true := (congrArg (bit · 0) (State.rg_modHalf ..)).trans hen
  have htU : u.takes (0x400 + 16 * c.idx + 4 * c.sel) c.loop c.j = true := by
    rwa [State.takes, State.deckRoute, State.deck_modHalf, ← State.deckRoute, ← State.takes]
  show execDriveCmdWord h s = _
  rw [execDriveCmdWord, htx]
  exact congrArg Host.Outcome.next ((State.deckCmd_of_mayCmd _ hmu).trans (if_pos ⟨hl, hs, henU, htU⟩))

theorem driveCmdWord_completes (h : Half) (c : CmdWord) (rest : List CmdWord) (s : State) (hm : MayCmd s h (40 + c.idx))
    (htx : (s.half h).drvTx = c :: rest) (hl : c.idx < 64) (hs : c.sel < 4) (hen : s.bt (Drv.linkCfg c.idx) 0 = true)
    (ht : s.takes (0x400 + 16 * c.idx + 4 * c.sel) c.loop c.j = true) :
    Gives (.driveCmdWord h) s (fun t => (t.half h).drvTx = rest ∧ SameMem s t
      ∧ if (s.lrun c.idx).started then
          t.rn (Drv.cmdLateCnt c.idx) = min (s.rn (Drv.cmdLateCnt c.idx) + 1) (2 ^ 32 - 1) ∧ t.lrun c.idx = s.lrun c.idx
        else (t.lrun c.idx).got = (s.lrun c.idx).got ||| 2 ^ c.sel
          ∧ Map.get (fun _ => 0) (t.lrun c.idx).words c.sel = c.word
          ∧ (t.lrun c.idx).coast = ((s.lrun c.idx).coast || c.coast)) := by
  refine ⟨_, execDriveCmdWord_taken hm htx hl hs hen ht, ?_⟩
  generalize hu : s.modHalf h (fun x => { x with drvTx := rest }) = u
  have hdrv : (u.half h).drvTx = rest := hu ▸ congrArg HalfSt.drvTx (State.half_modHalf ..)
  have hrun : u.lrun c.idx = s.lrun c.idx := hu ▸ State.lrun_modHalf ..
  have hrn (a : Nat) : u.rn a = s.rn a := hu ▸ congrArg BitVec.toNat (State.rg_modHalf ..)
  have hmem (a : Nat) : u.byte a = s.byte a := hu ▸ State.byte_modHalf ..
  refine ⟨(u.drvTx_wordTaken c hl h).trans hdrv, fun a => (u.byte_wordTaken c hl a).trans (hmem a), ?_⟩
  rw [← hrun, ← hrn]
  split
  · exact u.wordTaken_late c hl ‹_›
  · exact u.wordTaken_kept c (Bool.eq_false_iff.2 ‹_›)

/-! ### The deadline (R199) -/

theorem cmdDeadline_completes (l : Nat) (s : State) (hl : l < 64) (hd : s.deck.inReset = false) (hen : s.bt (Drv.linkCfg l) 0 = true)
    (hb : s.bt (Drv.linkCfg l) 1 = true) (hsy : (s.lrun l).synced = true) (hst : (s.lrun l).started = false)
    (ht : (s.lrun l).syncT + s.fd (Drv.linkTiming l) 15 0 * 10 ≤ s.fieldNow (40 + l)) :
    Gives (.cmdDeadline l) s (fun t => t.rn (Drv.cmdMissCnt l) = min (s.rn (Drv.cmdMissCnt l) + 1) (2 ^ 32 - 1)
      ∧ t.bt (Drv.linkStatus l) 5 = true ∧ (t.lrun l).started = true ∧ (t.lrun l).missRun = (s.lrun l).missRun + 1
      ∧ (t.lrun l).duty = (s.lrun l).duty ∧ SameMem s t
      ∧ ∃ ctrl, (t.lrun l).tx = (s.lrun l).tx
          ++ frameChars (cmdBytes (s.fd (Drv.linkStatus l) 15 8) (s.lrun l).duty ctrl) ∧ ctrl.testBit 2 = true) := by
  let missed := s.linkCount l (Drv.cmdMissCnt l)
  let u := missed.modLink l (fun r => { r with missRun := (s.lrun l).missRun + 1 })
  obtain ⟨pwm, hex⟩ : ∃ pwm, exec (.cmdDeadline l) s = .next (u.cmdFrame l (s.lrun l).duty pwm false true) :=
    ⟨_, congrArg Host.Outcome.next ((s.onDeck_out_of_reset _ hd).trans (if_pos ⟨hen, hb, hsy, hst, ht⟩))⟩
  have hrun : u.lrun l = { s.lrun l with missRun := (s.lrun l).missRun + 1 } := by
    rw [State.lrun_modLink, State.lrun_linkCount hl]
  have hseq : u.fd (Drv.linkStatus l) 15 8 = s.fd (Drv.linkStatus l) 15 8 :=
    congrArg (bits · 15 8) ((State.rg_modLink ..).trans (State.rg_linkCount_other hl (o := 0x40) (p := 0x60) (by decide) (by decide)))
  obtain ⟨p, g, ctrl, hctrl, hframed⟩ := u.lrun_cmdFrame l (s.lrun l).duty pwm false true
  rw [hrun, hseq] at hframed
  refine ⟨_, hex, ?_, ?_, ?_, ?_, ?_, fun a => ?_, ctrl, ?_, hctrl⟩
  · have hrg := (keptBeside_rg (linkAt_not_frameReg (l := l) (o := 0x60) (by decide) (by decide) (by decide))).cmdFrame
      u l (s.lrun l).duty pwm false true fun t f => State.rg_modLink t l _ f
    exact (congrArg BitVec.toNat (hrg.trans (State.rg_modLink ..))).trans (State.rn_linkCount hl (by decide : 0x60 < 0x1000))
  · rw [State.bt, State.status_cmdFrame, bit_setBit _ _ _ (by decide)]
  · rw [hframed]; rfl
  · rw [hframed]; rfl
  · rw [hframed]; rfl
  · exact ((keptBeside_byte a).cmdFrame u l _ _ _ _ fun t f => State.byte_modLink t l a f).trans
      ((State.byte_modLink ..).trans (State.byte_linkCount hl ..))
  · rw [hframed]; rfl

end Sys2Proof.Machine
end

section
/-! Return frames (R195, R196, R200). -/
namespace Sys2Proof.Machine

/-! ### What a frame's words reach: input ports and the I/O image (R30, R328) -/

theorem State.imageTo_keeps {β : Type} (v : State → β) (hv : ∀ t a n x, v (State.setMemNat t a n x) = v t) (s : State) (h : Half)
    (off : Nat) (ws : List Nat) : v (s.imageTo h off ws) = v s :=
  foldl_keeps v _ _ s fun _ _ => hv ..
/-- A unit written into the I/O images changes memory alone. -/
theorem State.image_keeps {β : Type} (v : State → β) (hv : ∀ t a n x, v (State.setMemNat t a n x) = v t) (s : State) (off : Nat)
    (ws : List Nat) : v (s.image off ws) = v s := by
  have hf (t : State) (h : Half) : v (if t.deckHears h then t.imageTo h off ws else t) = v t :=
    ite_keeps v (fun _ => State.imageTo_keeps v hv ..) fun _ => rfl
  exact (hf _ _).trans (hf _ _)
/-- A delivered word changes the halves alone. -/
theorem State.deliver_keeps {β : Type} (v : State → β) (hv : ∀ t h f, v (State.modHalf t h f) = v t) (s : State)
    (kind idx sel : Nat) (valid : Bool) (w : Word) : v (s.deliver kind idx sel valid w) = v s := by
  have hf (t : State) (h : Half) : v (if t.deckHears h then t.deliverTo h (namesSrc kind idx sel) valid w else t) = v t :=
    ite_keeps v (fun _ => hv ..) fun _ => rfl
  exact (hf _ _).trans (hf _ _)

/-! ### An accepted frame (R200) -/

/-- The echo of an accepted frame is compared with the SEQ of the command before. -/
def State.echoCounted (s : State) (l : Nat) (r : LinkRun) (echo : Nat) : State :=
  if r.prevSeq.isSome ∧ r.prevSeq ≠ some echo then s.linkCount l (Drv.echoMissCnt l) else s
/-- RET_TIME with its least value, and RET_TIME_MAX, take the time of an accepted frame. -/
def State.retTimed (s : State) (l t : Nat) : State :=
  let s := s.fw (Drv.retTime l) 15 0 t
  let s := if t < s.fd (Drv.retTime l) 31 16 then s.fw (Drv.retTime l) 31 16 t else s
  if s.fd (Drv.retTimeMax l) 15 0 < t then s.fw (Drv.retTimeMax l) 15 0 t else s
/-- The fields of an accepted frame are shown. -/
def State.retShown (s : State) (l : Nat) (bs : List Byte) : State :=
  let s := s.fw (Drv.linkStatus l) 31 16 (leAt bs 14 2)
  let s := s.wn (Drv.lastRet0 l) (leAt bs 2 2 + leAt bs 4 2 * 65536)
  let s := s.wn (Drv.lastRet1 l) (leAt bs 6 2 + leAt bs 8 2 * 65536)
  let s := s.wn (Drv.lastRet2 l) (leAt bs 10 4)
  s.wn (Drv.lastRet3 l) (leAt bs 14 2 + leAt bs 16 1 * 65536 + leAt bs 1 1 * 2 ^ 24)

theorem leNat_lt (bs : List Byte) : leNat bs < 256 ^ bs.length := by
  induction bs with
  | nil => decide
  | cons b bs ih =>
    have hb : b.toNat < 256 := b.isLt
    rw [leNat, List.length_cons, Nat.pow_succ]
    omega
theorem leAt_lt (bs : List Byte) (i n : Nat) : leAt bs i n < 256 ^ n :=
  (leNat_lt _).trans_le (Nat.pow_le_pow_right (by decide) (List.length_take_le ..))

section
variable (s : State) (l : Nat)

theorem State.deck_echoCounted (hl : l < 64) (r : LinkRun) (echo : Nat) : (s.echoCounted l r echo).deck = s.deck :=
  ite_keeps State.deck (fun _ => State.deck_linkCount hl ..) fun _ => rfl
theorem State.deck_retTimed (t : Nat) : (s.retTimed l t).deck = s.deck := by
  simp only [State.retTimed]
  split_ifs <;> simp
theorem State.retTime_retTimed {t : Nat} (ht : t < 65536) : (s.retTimed l t).fd (Drv.retTime l) 15 0 = t := by
  have hnew (u : State) (v : Nat) : (u.fw (Drv.retTimeMax l) 15 0 v).fd (Drv.retTime l) 15 0 = u.fd (Drv.retTime l) 15 0 :=
    State.fd_wr_other _ _ _ _ fun e => absurd (linkAt_inj.1 (e : linkAt l 0x44 = linkAt l 0x48)) (by decide)
  have hleast (u : State) (v : Nat) : (u.fw (Drv.retTime l) 31 16 v).fd (Drv.retTime l) 15 0 = u.fd (Drv.retTime l) 15 0 :=
    State.fd_fw_beside _ _ _ _ (by decide) (by decide) (by decide)
  refine Eq.trans ?_ ((s.fd_fw (Drv.retTime l) t (hi := 15) (lo := 0) (by decide) (by decide)).trans (Nat.mod_eq_of_lt ht))
  exact (ite_keeps (State.fd · (Drv.retTime l) 15 0) (fun _ => hnew ..) fun _ => rfl).trans
    (ite_keeps (State.fd · (Drv.retTime l) 15 0) (fun _ => hleast ..) fun _ => rfl)
theorem State.deck_retShown (bs : List Byte) : (s.retShown l bs).deck = s.deck := by simp [State.retShown]
/-- What an accepted frame shows, and that RET_TIME stays beside it. -/
theorem State.rg_retShown (bs : List Byte) : (s.retShown l bs).fd (Drv.linkStatus l) 31 16 = leAt bs 14 2
    ∧ (s.retShown l bs).rg (Drv.retTime l) = s.rg (Drv.retTime l)
    ∧ (s.retShown l bs).rg (Drv.lastRet0 l) = BitVec.ofNat 32 (leAt bs 2 2 + leAt bs 4 2 * 65536)
    ∧ (s.retShown l bs).rg (Drv.lastRet1 l) = BitVec.ofNat 32 (leAt bs 6 2 + leAt bs 8 2 * 65536)
    ∧ (s.retShown l bs).rg (Drv.lastRet2 l) = BitVec.ofNat 32 (leAt bs 10 4) := by
  have hst : bits (setBits (s.rg (Drv.linkStatus l)) 31 16 (leAt bs 14 2)) 31 16 = leAt bs 14 2 :=
    (bits_setBits _ _ _ _ (by decide) (by decide)).trans (Nat.mod_eq_of_lt (leAt_lt bs 14 2))
  rw [State.fd]
  refine ⟨Eq.trans (congrArg (bits · 31 16) ?_) hst, ?_, ?_, ?_, ?_⟩ <;> simp [State.retShown, linkAt_names]
end

/-- A frame of the right CRC, TYPE and SEQ, the first of its sample, is accepted and shown; then its words go their ways. -/
theorem execReturnFrame_accepts {s : State} {l : Nat} {f : RetFrame} (hd : s.deck.inReset = false) (hu : s.linkState l = 2)
    (hc : f.codeErr = false) (hcrc : retCrcOk f.bytes = true) (hty : leAt f.bytes 0 1 = 0x81)
    (hseq : leAt f.bytes 1 1 = s.fd (Drv.linkStatus l) 15 8) (ha : (s.lrun l).accepted = false) :
    ∃ (ws : List ((Nat × Bool) × Nat)) (vs : List Nat), exec (.returnFrame l f) s = .next ((ws.foldl
      (fun t e => t.deliver 2 l e.2 e.1.2 (BitVec.ofNat 32 e.1.1))
      (((((s.modLink l (fun r => { r with accepted := true })).echoCounted l (s.lrun l) (leAt f.bytes 16 1)).retTimed l
        (if f.time < 65535 then f.time else 65535))).retShown l f.bytes)).image (0x4000 + 32 * l) vs) := by
  have hfirst : ¬ (s.lrun l).accepted = true := by simp [ha]
  exact ⟨_, _, congrArg Host.Outcome.next ((s.onDeck_out_of_reset _ hd).trans ((if_neg (not_not.2 hu)).trans
    ((if_neg (by simp [hc])).trans ((if_neg (by simp [hcrc])).trans ((if_neg (not_not.2 hty)).trans
      ((if_neg (not_not.2 hseq)).trans (if_neg hfirst)))))))⟩

theorem returnFrame_accepted_completes (l : Nat) (f : RetFrame) (s : State) (hl : l < 64) (hd : s.deck.inReset = false)
    (hu : s.linkState l = 2) (hc : f.codeErr = false) (hcrc : retCrcOk f.bytes = true) (hty : leAt f.bytes 0 1 = 0x81)
    (hseq : leAt f.bytes 1 1 = s.fd (Drv.linkStatus l) 15 8) (ha : (s.lrun l).accepted = false) :
    Gives (.returnFrame l f) s (fun t => (t.lrun l).accepted = true
      ∧ t.fd (Drv.linkStatus l) 31 16 = leAt f.bytes 14 2 ∧ t.fd (Drv.retTime l) 15 0 = min f.time 65535
      ∧ t.rg (Drv.lastRet0 l) = BitVec.ofNat 32 (leAt f.bytes 2 2 + leAt f.bytes 4 2 * 65536)
      ∧ t.rg (Drv.lastRet1 l) = BitVec.ofNat 32 (leAt f.bytes 6 2 + leAt f.bytes 8 2 * 65536)
      ∧ t.rg (Drv.lastRet2 l) = BitVec.ofNat 32 (leAt f.bytes 10 4)) := by
  obtain ⟨ws, vs, hex⟩ := execReturnFrame_accepts hd hu hc hcrc hty hseq ha
  refine ⟨_, hex, ?_⟩
  generalize hacc : (s.modLink l (fun r => { r with accepted := true })).echoCounted l (s.lrun l) (leAt f.bytes 16 1) = a
  generalize htime : (if f.time < 65535 then f.time else 65535) = time
  generalize hsent : (ws.foldl (fun t e => t.deliver 2 l e.2 e.1.2 (BitVec.ofNat 32 e.1.1))
    ((a.retTimed l time).retShown l f.bytes)).image (0x4000 + 32 * l) vs = t
  have hmin : time = min f.time 65535 := by
    rw [← htime]
    split_ifs <;> omega
  have hrg (b : Nat) : t.rg b = ((a.retTimed l time).retShown l f.bytes).rg b := hsent ▸
    (State.image_keeps (State.rg · b) (fun _ _ _ _ => State.rg_setMemNat ..) ..).trans
      (foldl_keeps (State.rg · b) _ _ _ fun _ _ => State.deliver_keeps (State.rg · b) (fun _ _ _ => State.rg_modHalf ..) ..)
  have hdeck : t.deck = ((a.retTimed l time).retShown l f.bytes).deck := hsent ▸
    (State.image_keeps State.deck (fun _ _ _ _ => State.deck_setMemNat ..) ..).trans
      (foldl_keeps State.deck _ _ _ fun _ _ => State.deliver_keeps State.deck (fun _ _ _ => State.deck_modHalf ..) ..)
  have hrun : t.lrun l = { s.lrun l with accepted := true } :=
    (State.lrun_of_deck (hdeck.trans ((State.deck_retShown ..).trans ((State.deck_retTimed ..).trans
      (hacc ▸ State.deck_echoCounted _ l hl ..)))) l).trans (State.lrun_modLink ..)
  obtain ⟨hst, htimeShown, h0, h1, h2⟩ := (a.retTimed l time).rg_retShown l f.bytes
  refine ⟨congrArg LinkRun.accepted hrun, (congrArg (bits · 31 16) (hrg _)).trans hst, ?_, (hrg _).trans h0, (hrg _).trans h1,
    (hrg _).trans h2⟩
  exact (congrArg (bits · 15 0) ((hrg _).trans htimeShown)).trans ((a.retTime_retTimed l (by omega)).trans hmin)

/-! ### Frames that are not accepted -/

section
variable (l : Nat) (f : RetFrame) (s : State) (hl : l < 64) (hd : s.deck.inReset = false) (hu : s.linkState l = 2)
include hd hu

section
include hl

theorem returnFrame_codeErr_completes (hc : f.codeErr = true) :
    Gives (.returnFrame l f) s (fun t => t.rn (Drv.errCodeCnt l) = min (s.rn (Drv.errCodeCnt l) + 1) (2 ^ 32 - 1)
      ∧ t.lrun l = s.lrun l ∧ SameMem s t ∧ ∀ h, s.runs h = true → Pends t h (648 + l / 8)) := by
  have hex : exec (.returnFrame l f) s = .next (s.linkCount l (Drv.errCodeCnt l)) :=
    congrArg Host.Outcome.next ((s.onDeck_out_of_reset _ hd).trans ((if_neg (not_not.2 hu)).trans (if_pos hc)))
  exact ⟨_, hex, State.rn_linkCount hl (by decide : 0x50 < 0x1000), State.lrun_linkCount hl .., fun a => State.byte_linkCount hl _ a,
    fun _ hr => State.pends_linkCount hl _ hr⟩
theorem returnFrame_wrongCrc_completes (hc : f.codeErr = false) (hcrc : retCrcOk f.bytes = false) :
    Gives (.returnFrame l f) s (fun t => t.rn (Drv.errCrcCnt l) = min (s.rn (Drv.errCrcCnt l) + 1) (2 ^ 32 - 1)
      ∧ t.lrun l = s.lrun l ∧ SameMem s t) := by
  have hex : exec (.returnFrame l f) s = .next (s.linkCount l (Drv.errCrcCnt l)) :=
    congrArg Host.Outcome.next ((s.onDeck_out_of_reset _ hd).trans ((if_neg (not_not.2 hu)).trans
      ((if_neg (by simp [hc])).trans (if_pos hcrc))))
  exact ⟨_, hex, State.rn_linkCount hl (by decide : 0x4C < 0x1000), State.lrun_linkCount hl .., fun a => State.byte_linkCount hl _ a⟩
end

/-- A frame of another TYPE is no return frame: nothing changes. -/
theorem returnFrame_otherType (hc : f.codeErr = false) (hcrc : retCrcOk f.bytes = true) (hty : leAt f.bytes 0 1 ≠ 0x81) :
    exec (.returnFrame l f) s = .next s :=
  congrArg Host.Outcome.next ((s.onDeck_out_of_reset _ hd).trans ((if_neg (not_not.2 hu)).trans
    ((if_neg (by simp [hc])).trans ((if_neg (by simp [hcrc])).trans (if_pos hty)))))
end

end Sys2Proof.Machine
end

section
/-! The state of a link, its gate conditions, and its commands (R201, R205-R207); and all commands of the links together. -/
namespace Sys2Proof.Machine

/-! ### LINK_UP and LINK_DOWN (R201) -/

theorem linkUp_completes (l : Nat) (s : State) (hl : l < 64) (hd : s.deck.inReset = false) (hu : s.linkState l = 1) :
    Gives (.linkUp l) s (fun t => t.linkState l = 2 ∧ SameMem s t ∧ ∀ h, s.runs h = true → Reported t h 0x0702 0x0C l) := by
  refine ⟨_, congrArg Host.Outcome.next ((s.onDeck_out_of_reset _ hd).trans (if_pos hu)), ?_, fun a => ?_, fun h hr => ?_⟩
  · exact (congrArg (bits · 1 0) ((State.rg_reportDeck ..).trans (State.rg_modLink ..))).trans (s.linkState_setLink hl 2)
  · exact (State.byte_reportDeck ..).trans ((State.byte_modLink ..).trans ((keptBeside_byte a).setLink s 2))
  · exact State.reported_reportDeck _ _ _ _ _ ((State.runs_modLink ..).trans (((keptBeside_runs h).setLink s 2).trans hr))

theorem linkDown_completes (l cause : Nat) (s : State) (hl : l < 64) (hd : s.deck.inReset = false) (hu : s.linkState l = 2) :
    Gives (.linkDown l cause) s (fun t => t.linkState l = 1 ∧ SameMem s t
      ∧ t.rn (Drv.syncLossCnt l) = min (s.rn (Drv.syncLossCnt l) + 1) (2 ^ 32 - 1)
      ∧ ∀ h, s.runs h = true → Reported t h 0x0701 0x0C l) := by
  have hex : exec (.linkDown l cause) s
      = .next (((s.setLink l 1).linkCount l (Drv.syncLossCnt l)).reportDeck 0x0701 0x0C l [cause]) :=
    congrArg Host.Outcome.next ((s.onDeck_out_of_reset _ hd).trans (if_pos hu))
  have hloss : (s.setLink l 1).rn (Drv.syncLossCnt l) = s.rn (Drv.syncLossCnt l) :=
    congrArg BitVec.toNat ((keptBeside_rg (linkAt_not_linkStateReg 0x68 hl (by decide) (by decide))).setLink s 1)
  refine ⟨_, hex, ?_, fun a => ?_, ?_, fun h hr => ?_⟩
  · exact (congrArg (bits · 1 0) ((State.rg_reportDeck ..).trans (State.rg_linkCount_other hl (o := 0x40) (p := 0x68)
      (by decide) (by decide)))).trans (s.linkState_setLink hl 1)
  · exact (State.byte_reportDeck ..).trans ((State.byte_linkCount hl ..).trans ((keptBeside_byte a).setLink s 1))
  · refine (congrArg BitVec.toNat (State.rg_reportDeck ..)).trans ((State.rn_linkCount hl (by decide : 0x68 < 0x1000)).trans ?_)
    exact congrArg (fun n => min (n + 1) (2 ^ 32 - 1)) hloss
  · exact State.reported_reportDeck _ _ _ _ _ (((keptBeside_runs h).linkCount _ hl).trans
      (((keptBeside_runs h).setLink s 1).trans hr))

/-! ### Gate conditions (R205) -/

section
variable (s : State) {l : Nat} (n : Nat) (b : Bool)

theorem State.byte_gateShown (a : Nat) : ((s.sb (Drv.linkStatus l) n b).linkShow l).byte a = s.byte a :=
  ((keptBeside_byte a).linkShow _).trans (State.byte_sb ..)
theorem State.bt_gateShown (hl : l < 64) (hn : n < 32) : ((s.sb (Drv.linkStatus l) n b).linkShow l).bt (Drv.linkStatus l) n = b :=
  (congrArg (bit · n) (State.rg_linkShow _ hl (by decide : 0x40 < 0x1000))).trans (State.bt_sb _ _ _ hn)
/-- A gate condition that begins stands in LINK_STATUS and FAULT_MAP, with its record. -/
theorem State.gateFault_spec (hl : l < 64) (hn : n = 3 ∨ n = 4) (code : Nat) (d : List Nat) :
    let t := ((s.sb (Drv.linkStatus l) n true).linkShow l).reportDeck code 0x0C l d
    t.bt (Drv.linkStatus l) n = true ∧ t.mapBit (Drv.faultMap 0) l = true ∧ SameMem s t
      ∧ ∀ h, s.runs h = true → Reported t h code 0x0C l := by
  have hlt : n < 32 := by omega
  have hmap : ((s.sb (Drv.linkStatus l) n true).linkShow l).mapBit (Drv.faultMap 0) l = true := by
    rw [State.mapBit_linkShow]
    rcases hn with rfl | rfl <;> rw [State.bt_sb _ _ _ (by decide)] <;> simp
  refine ⟨(congrArg (bit · n) (State.rg_reportDeck ..)).trans (s.bt_gateShown n true hl hlt),
    (State.mapBit_of_rg (State.rg_reportDeck ..)).trans hmap, fun a => (State.byte_reportDeck ..).trans (s.byte_gateShown n true a),
    fun h hr => State.reported_reportDeck _ _ _ _ _ (((keptBeside_runs h).linkShow _).trans ((State.runs_sb ..).trans hr))⟩
end

section
variable (l current : Nat) (s : State) (hl : l < 64) (hd : s.deck.inReset = false)
include hl hd

theorem gateOpen_completes :
    (s.bt (Drv.linkStatus l) 2 = true → s.bt (Drv.linkStatus l) 3 = false →
      Gives (.gateOpen l true current) s (fun t => t.bt (Drv.linkStatus l) 3 = true ∧ t.mapBit (Drv.faultMap 0) l = true
        ∧ SameMem s t ∧ ∀ h, s.runs h = true → Reported t h 0x0703 0x0C l))
    ∧ Gives (.gateOpen l false current) s (fun t => t.bt (Drv.linkStatus l) 3 = false ∧ SameMem s t) := by
  refine ⟨fun h2 h3 => ?_, ?_⟩
  · have hex : exec (.gateOpen l true current) s
        = .next (((s.sb (Drv.linkStatus l) 3 true).linkShow l).reportDeck 0x0703 0x0C l [current]) :=
      congrArg Host.Outcome.next ((s.onDeck_out_of_reset _ hd).trans ((if_pos rfl).trans (if_pos ⟨h2, h3⟩)))
    exact ⟨_, hex, s.gateFault_spec 3 hl (.inl rfl) 0x0703 [current]⟩
  · have hex : exec (.gateOpen l false current) s = .next ((s.sb (Drv.linkStatus l) 3 false).linkShow l) :=
      congrArg Host.Outcome.next ((s.onDeck_out_of_reset _ hd).trans (if_neg Bool.false_ne_true))
    exact ⟨_, hex, s.bt_gateShown 3 false hl (by decide), s.byte_gateShown 3 false⟩
theorem gateForeign_completes :
    (s.bt (Drv.linkStatus l) 2 = false → s.bt (Drv.linkStatus l) 4 = false →
      Gives (.gateForeign l true current) s (fun t => t.bt (Drv.linkStatus l) 4 = true ∧ t.mapBit (Drv.faultMap 0) l = true
        ∧ SameMem s t ∧ ∀ h, s.runs h = true → Reported t h 0x0704 0x0C l))
    ∧ Gives (.gateForeign l false current) s (fun t => t.bt (Drv.linkStatus l) 4 = false ∧ SameMem s t) := by
  refine ⟨fun h2 h4 => ?_, ?_⟩
  · have hex : exec (.gateForeign l true current) s
        = .next (((s.sb (Drv.linkStatus l) 4 true).linkShow l).reportDeck 0x0704 0x0C l [current]) :=
      congrArg Host.Outcome.next ((s.onDeck_out_of_reset _ hd).trans ((if_pos rfl).trans (if_pos ⟨h2, h4⟩)))
    exact ⟨_, hex, s.gateFault_spec 4 hl (.inr rfl) 0x0704 [current]⟩
  · have hex : exec (.gateForeign l false current) s = .next ((s.sb (Drv.linkStatus l) 4 false).linkShow l) :=
      congrArg Host.Outcome.next ((s.onDeck_out_of_reset _ hd).trans (if_neg Bool.false_ne_true))
    exact ⟨_, hex, s.bt_gateShown 4 false hl (by decide), s.byte_gateShown 4 false⟩
end

/-! ### LINK_CMD (R206, R207) -/

/-- The counts of a link that CLEAR_COUNTS clears, and RET_TIME_MAX. -/
def linkCounts (l : Nat) : List Nat :=
  [Drv.errCrcCnt l, Drv.errCodeCnt l, Drv.retMissCnt l, Drv.retStaleCnt l, Drv.echoMissCnt l, Drv.cmdMissCnt l, Drv.cmdLateCnt l,
    Drv.syncLossCnt l, Drv.retTimeMax l]

theorem linkClearCounts_completes (h : Half) (l : Nat) (s : State) (hm : MayCmd s h (40 + l)) :
    Gives (.linkClearCounts h l) s (fun t => (∀ a ∈ linkCounts l, t.rg a = 0)
      ∧ t.rg (Drv.retTime l) = 0xFFFF0000 ∧ t.deck = s.deck ∧ SameMem s t) := by
  let cleared := (linkCounts l).foldl (fun t a => t.wr a 0) s
  have hex : exec (.linkClearCounts h l) s = .next (cleared.wn (Drv.retTime l) 0xFFFF0000) :=
    congrArg Host.Outcome.next (State.deckCmd_of_mayCmd _ hm)
  have hapart : Drv.retTime l ∉ linkCounts l := by simp [linkCounts, linkAt_names]
  refine ⟨_, hex, fun a ha => ?_, (State.rg_wn ..).trans (if_pos rfl), ?_, fun b => ?_⟩
  · have hne : a ≠ Drv.retTime l := by
      rintro rfl
      exact hapart ha
    rw [State.rg_wn, if_neg hne, State.rg_foldl_wr (fun _ => 0), if_pos ha]
  · exact (State.deck_wn ..).trans (foldl_keeps State.deck _ _ s fun _ _ => State.deck_wr ..)
  · exact (State.byte_wn ..).trans (foldl_keeps (State.byte · b) _ _ s fun _ _ => State.byte_wr ..)

theorem retrain_completes (h : Half) (l : Nat) (s : State) (hl : l < 64) (hm : MayCmd s h (40 + l)) (hu : s.linkState l = 2) :
    Gives (.retrain h l) s (fun t => t.linkState l = 1 ∧ t.deck = s.deck ∧ SameMem s t
      ∧ SameRegs s t (fun a => a = Drv.linkStatus l ∨ a = Drv.faultMap 0 ∨ a = Drv.faultMap 1 ∨ ErrqReg a)) := by
  refine ⟨_, congrArg Host.Outcome.next ((State.deckCmd_of_mayCmd _ hm).trans (if_pos hu)), s.linkState_setLink hl 1,
    keptBeside_deck.setLink s 1, fun a => (keptBeside_byte a).setLink s 1, fun a ha => (keptBeside_rg fun hw => ha ?_).setLink s 1⟩
  refine hw.imp_right fun hw => hw.elim (fun he => ?_) fun he => .inr (.inr he)
  simp only [Drv.faultMap] at he ⊢
  omega

/-! ### All commands of the links -/

/-- Settles O28: what a link counts, sends and shows at its boundary, its deadline, its words and frames, and its commands. -/
theorem driveLinkCommandsComplete : Obligations.DriveLinkCommandsComplete :=
  ⟨fun l s hl hd hen hk errs => driveLinkSync_completes l s hl hd hen hk errs,
    fun h c rest s hr hu ho htx hl hs hen ht => driveCmdWord_completes h c rest s ⟨hr, hu, ho⟩ htx hl hs hen ht,
    fun l s hl hd hen hb hsy hst ht => cmdDeadline_completes l s hl hd hen hb hsy hst ht,
    fun l f s hl hd hu hc hcrc hty hseq ha => returnFrame_accepted_completes l f s hl hd hu hc hcrc hty hseq ha,
    fun l f s hl hd hu hc => returnFrame_codeErr_completes l f s hl hd hu hc,
    fun l f s hl hd hu hc => ⟨fun hcrc => returnFrame_wrongCrc_completes l f s hl hd hu hc hcrc,
      fun hcrc hty => returnFrame_otherType l f s hd hu hc hcrc hty⟩,
    fun l s hl hd hu => linkUp_completes l s hl hd hu,
    fun l cause s hl hd hu => linkDown_completes l cause s hl hd hu,
    fun l current s hl hd => gateOpen_completes l current s hl hd,
    fun l current s hl hd => gateForeign_completes l current s hl hd,
    fun h l s _ hm => linkClearCounts_completes h l s hm,
    fun h l s hl hm hu => retrain_completes h l s hl hm hu⟩

end Sys2Proof.Machine
end

section
/-! SUPPORT. What an update of a field-deck block leaves: register bits, a part of the field deck, and of each half all but its
reports and its notes of substituted sources (R28, R339, R538). -/
namespace Sys2Proof.Machine

/-- A half with further reports on their way to its logbook, and with these notes of substituted sources. -/
def HalfSt.noted (x : HalfSt) (l : List Report) (n : List Nat) : HalfSt :=
  { x with
    log := { x.log with inbox := x.log.inbox ++ l }
    substOn := n }
theorem HalfSt.noted_noted (x : HalfSt) (l m : List Report) (n k : List Nat) : (x.noted l n).noted m k = x.noted (l ++ m) k := by
  simp [HalfSt.noted]

/-- `t` is `s` but for the register bits that `W` names, what the view `v` of the field deck does not show, and what the halves
note. -/
structure Leaves {β : Type} (W : Nat → Nat → Prop) (v : DeckSt → β) (s t : State) : Prop where
  bit : ∀ a n, ¬ W a n → bit (t.rg a) n = bit (s.rg a) n
  deck : v t.deck = v s.deck
  half : ∀ h, ∃ l n, t.half h = (s.half h).noted l n

section
variable {β : Type} {W : Nat → Nat → Prop} {v : DeckSt → β} {s t u : State}

/-! ### What is read afterwards -/

theorem Leaves.rg (L : Leaves W v s t) {a : Nat} (hW : ∀ n, ¬ W a n) : t.rg a = s.rg a :=
  BitVec.eq_of_getLsbD_eq fun n _ => L.bit a n (hW n)
theorem Leaves.fd (L : Leaves W v s t) {a hi lo : Nat} (hW : ∀ n, lo ≤ n → n ≤ hi → ¬ W a n) : t.fd a hi lo = s.fd a hi lo := by
  refine Nat.eq_of_testBit_eq fun i => ?_
  simp only [State.fd, bits, Nat.testBit_mod_two_pow, Nat.testBit_shiftRight]
  by_cases hi' : i < hi + 1 - lo
  · have hb := L.bit a (lo + i) (hW _ (by omega) (by omega))
    simp only [Machine.bit, BitVec.getLsbD] at hb
    rw [hb]
  · simp [hi']
theorem Leaves.bt (L : Leaves W v s t) {a n : Nat} (hW : ¬ W a n) : t.bt a n = s.bt a n := L.bit a n hW
theorem Leaves.runs (L : Leaves W v s t) (h : Half) : t.runs h = s.runs h := by
  obtain ⟨l, n, e⟩ := L.half h
  rw [State.runs, e]
  rfl
/-- A report on its way stays on its way. -/
theorem Leaves.reported (L : Leaves W v s t) {h : Half} {code kind num : Nat} (hr : Reported s h code kind num) :
    Reported t h code kind num := by
  obtain ⟨r, hm, he⟩ := hr
  obtain ⟨l, n, e⟩ := L.half h
  exact ⟨r, by rw [e]; exact List.mem_append_left _ hm, he⟩

/-! ### What leaves so much -/

theorem Leaves.refl (W : Nat → Nat → Prop) (v : DeckSt → β) (s : State) : Leaves W v s s :=
  ⟨fun _ _ _ => rfl, rfl, fun h => ⟨[], (s.half h).substOn, by simp [HalfSt.noted]⟩⟩
theorem Leaves.trans (L : Leaves W v s t) (M : Leaves W v t u) : Leaves W v s u := by
  refine ⟨fun a n hW => (M.bit a n hW).trans (L.bit a n hW), M.deck.trans L.deck, fun h => ?_⟩
  obtain ⟨l, n, e⟩ := L.half h
  obtain ⟨m, k, e'⟩ := M.half h
  exact ⟨l ++ m, k, by rw [e', e, HalfSt.noted_noted]⟩
theorem Leaves.mono {V : Nat → Nat → Prop} (L : Leaves W v s t) (hW : ∀ a n, W a n → V a n) : Leaves V v s t :=
  ⟨fun a n hV => L.bit a n fun h => hV (hW a n h), L.deck, L.half⟩
theorem Leaves.ite {p : Prop} [Decidable p] (ht : p → Leaves W v s t) (hu : ¬ p → Leaves W v s u) :
    Leaves W v s (if p then t else u) := by
  split
  · exact ht ‹p›
  · exact hu ‹¬ p›

/-- A write that leaves the bits outside `W`. -/
theorem Leaves.wr (L : Leaves W v s t) {a : Nat} {w : Word} (hw : ∀ n, ¬ W a n → Machine.bit w n = Machine.bit (t.rg a) n) :
    Leaves W v s (t.wr a w) := by
  refine L.trans ⟨fun b n hW => ?_, rfl, fun h => ⟨[], (t.half h).substOn, by simp [HalfSt.noted]⟩⟩
  rw [State.rg_wr]
  split
  · next e => rw [e] at hW ⊢; exact hw n hW
  · rfl
theorem Leaves.wn (L : Leaves W v s t) {a k : Nat} (hW : ∀ n, W a n) : Leaves W v s (t.wn a k) :=
  L.wr fun n hn => absurd (hW n) hn
theorem Leaves.fw (L : Leaves W v s t) {a hi lo k : Nat} (hW : ∀ n, lo ≤ n → n ≤ hi → W a n) (hlo : lo ≤ hi := by decide) :
    Leaves W v s (t.fw a hi lo k) :=
  L.wr fun n hn => bit_setBits_other _ _ _ _ _ hlo (by by_contra hc; exact hn (hW n (by omega) (by omega)))
theorem Leaves.sb (L : Leaves W v s t) {a n : Nat} {b : Bool} (hW : W a n) : Leaves W v s (t.sb a n b) :=
  L.fw (fun _ h1 h2 => Nat.le_antisymm h1 h2 ▸ hW) le_rfl
theorem Leaves.satF (L : Leaves W v s t) {a hi lo k : Nat} (hW : ∀ n, lo ≤ n → n ≤ hi → W a n) (hlo : lo ≤ hi := by decide) :
    Leaves W v s (t.satF a hi lo k) := L.fw hW hlo
theorem Leaves.setMapBit (L : Leaves W v s t) {a i : Nat} {b : Bool} (hW : W (a + 4 * (i / 32)) (i % 32)) :
    Leaves W v s (t.setMapBit a i b) := L.sb hW
/-- A change of the field deck that the view does not show. -/
theorem Leaves.modDeck (L : Leaves W v s t) {f : DeckSt → DeckSt} (hs : (f t.deck).straps = t.deck.straps)
    (hv : v (f t.deck) = v t.deck) : Leaves W v s (t.modDeck f) :=
  L.trans ⟨fun a _ _ => by rw [State.rg_modDeck _ _ _ hs], hv, fun h => ⟨[], (t.half h).substOn, by simp [HalfSt.noted]⟩⟩
/-- A change of a half's notes. -/
theorem Leaves.note (L : Leaves W v s t) {h : Half} {f : HalfSt → HalfSt} (hf : ∃ l n, f (t.half h) = (t.half h).noted l n) :
    Leaves W v s (t.modHalf h f) := by
  refine L.trans ⟨fun a _ _ => by rw [State.rg_modHalf], congrArg v (State.deck_modHalf ..), fun k => ?_⟩
  by_cases e : k = h
  · rw [e, State.half_modHalf]
    exact hf
  · exact ⟨[], (t.half k).substOn, by rw [State.half_modHalf_ne _ _ _ _ e]; simp [HalfSt.noted]⟩
theorem Leaves.reportAt (L : Leaves W v s t) {h : Half} {time code kind num : Nat} {d : List Nat} :
    Leaves W v s (t.reportAt h time code kind num d) :=
  .ite (fun _ => L) fun _ => L.note ⟨_, (t.half h).substOn, rfl⟩
theorem Leaves.reportDeck (L : Leaves W v s t) {code kind num : Nat} {d : List Nat} :
    Leaves W v s (t.reportDeck code kind num d) := L.reportAt.reportAt
theorem Leaves.setMemNat (L : Leaves W v s t) {a n x : Nat} : Leaves W v s (t.setMemNat a n x) :=
  L.trans ⟨fun b _ _ => by rw [State.rg_setMemNat], by rw [State.deck_setMemNat],
    fun h => ⟨[], (t.half h).substOn, by simp [HalfSt.noted]⟩⟩
theorem Leaves.foldl {α : Type} (L : Leaves W v s t) {f : State → α → State} {l : List α}
    (hf : ∀ u x, x ∈ l → Leaves W v s u → Leaves W v s (f u x)) : Leaves W v s (l.foldl f t) :=
  List.foldlRecOn l f L fun u hu x hx => hf u x hx hu
theorem Leaves.image (L : Leaves W v s t) {off : Nat} {ws : List Nat} : Leaves W v s (t.image off ws) := by
  have hto (u : State) (h : Half) (hu : Leaves W v s u) : Leaves W v s (if u.deckHears h then u.imageTo h off ws else u) :=
    .ite (fun _ => hu.foldl fun _ _ _ hw => hw.setMemNat) fun _ => hu
  exact hto _ .b (hto _ .a L)

/-! ### Substituted sources (R339, R340) -/

section
variable (hW : ∀ a n, ErrqReg a → W a n)
include hW

theorem Leaves.errEntry (L : Leaves W v s t) {h : Half} {cls k src d : Nat} : Leaves W v s (t.errEntry h cls k src d) := by
  have hlost {u : State} (hu : Leaves W v s u) : Leaves W v s (u.sat (Apc.errqLost h)) := hu.satF fun n _ _ => hW _ n ⟨h, .inl rfl⟩
  have hwp {u : State} {i : Nat} (hu : Leaves W v s u) : Leaves W v s (u.fw (Apc.errqWp h) 7 0 i) :=
    hu.fw fun n _ _ => hW _ n ⟨h, .inr (.inl rfl)⟩
  have hq {u : State} {i j x : Nat} (hu : Leaves W v s u) : Leaves W v s (u.wn (Apc.errq h i j) x) :=
    hu.wn fun n => hW _ n ⟨h, .inr (.inr ⟨i, j, rfl⟩)⟩
  simp only [State.errEntry]
  refine .ite (fun _ => .ite (fun _ => ?_) fun _ => hlost L) fun _ => hwp (hq (hq (hq (hq L))))
  exact .ite (fun _ => (hlost L).reportAt) fun _ => (hlost L).reportAt
theorem Leaves.substEdge (L : Leaves W v s t) {h : Half} {k kind n : Nat} : Leaves W v s (t.substEdge h k kind n) := by
  simp only [State.substEdge]
  refine .ite (fun _ => L) fun _ => Leaves.reportAt ?_
  refine .ite (fun _ => L.note ?_) fun _ => (L.note ?_).errEntry hW
  all_goals exact ⟨[], _, by simp only [HalfSt.noted, List.append_nil]; rfl⟩
theorem Leaves.sourceEdge (L : Leaves W v s t) {kind n : Nat} : Leaves W v s (t.sourceEdge kind n) := by
  have hf {u : State} {h : Half} (hu : Leaves W v s u) :
      Leaves W v s (if u.deckHears h then u.substEdge h 16 kind n else u) := .ite (fun _ => hu.substEdge hW) fun _ => hu
  exact hf (hf L)
end
end

end Sys2Proof.Machine
end

section
/-! SUPPORT. The registers and the run of an analogue channel, and what its shared operations leave (R237-R264). -/
namespace Sys2Proof.Machine

/-! ### The registers of a channel -/

/-- The register at offset `o` of channel `c`. -/
def chanAt (c o : Nat) : Nat := 0x1000000 + o + 0x400 * c
@[simp] theorem chanAt_inj {c o p : Nat} : chanAt c o = chanAt c p ↔ o = p := by
  simp only [chanAt]
  omega
/-- The named registers of a channel by their offsets. -/
theorem chanAt_names (c : Nat) : Anc.chCfg c = chanAt c 0x0 ∧ Anc.cmpLo c = chanAt c 0x10 ∧ Anc.cmpHi c = chanAt c 0x14
    ∧ Anc.safeValue c = chanAt c 0x1C ∧ Anc.outLo c = chanAt c 0x20 ∧ Anc.outHi c = chanAt c 0x24 ∧ Anc.leadOhm c = chanAt c 0x28
    ∧ Anc.cjcFixed c = chanAt c 0x2C ∧ Anc.outValue c = chanAt c 0x100 ∧ Anc.calRef c = chanAt c 0x108
    ∧ Anc.calMeas c = chanAt c 0x10C ∧ Anc.calStatus c = chanAt c 0x110 ∧ Anc.userGain c = chanAt c 0x114
    ∧ Anc.userOffset c = chanAt c 0x118 ∧ Anc.chStatus c = chanAt c 0x140 ∧ Anc.value c = chanAt c 0x144
    ∧ Anc.valueT c = chanAt c 0x148 ∧ Anc.readback c = chanAt c 0x14C ∧ Anc.headroom c = chanAt c 0x150
    ∧ Anc.cjcTemp c = chanAt c 0x154 ∧ Anc.zcTLo c = chanAt c 0x158 ∧ Anc.zcTHi c = chanAt c 0x15C
    ∧ Anc.zcPeriod c = chanAt c 0x160 ∧ Anc.chCounts c = chanAt c 0x164 :=
  ⟨rfl, rfl, rfl, rfl, rfl, rfl, rfl, rfl, rfl, rfl, rfl, rfl, rfl, rfl, rfl, rfl, rfl, rfl, rfl, rfl, rfl, rfl, rfl, rfl⟩

/-- The bits that the shared operations of channel `c` write: those of CH_STATUS that `l` lists, CH_COUNTS, and the words of
COND_MAP and CMP_MAP that show the channel. -/
def ChanBit (c : Nat) (l : List Nat) (a n : Nat) : Prop :=
  (a = Anc.chStatus c ∧ n ∈ l) ∨ a = Anc.chCounts c ∨ a = Anc.condMap 0 + 4 * (c / 32) ∨ a = Anc.cmpMap 0 + 4 * (2 * c / 32)
/-- The bits of CH_STATUS that show quality, conditions and comparators (R251, R263). -/
def shownBits : List Nat := [4, 5, 6, 7, 8, 14, 15, 19, 20, 21]

theorem ChanBit.mono {c : Nat} {l m : List Nat} (hl : ∀ n ∈ l, n ∈ m := by decide) (a n : Nat) : ChanBit c l a n → ChanBit c m a n :=
  Or.imp_left fun ⟨h, hn⟩ => ⟨h, hl n hn⟩
theorem chanBit_status {c n : Nat} {l : List Nat} (hn : n ∈ l) : ChanBit c l (Anc.chStatus c) n := .inl ⟨rfl, hn⟩
theorem not_chanBit_status {c n : Nat} {l : List Nat} (hn : n ∉ l) : ¬ ChanBit c l (Anc.chStatus c) n := by
  rintro (⟨-, h⟩ | h | h | h)
  · exact hn h
  all_goals simp only [Anc.chStatus, Anc.chCounts, Anc.condMap, Anc.cmpMap] at h; omega
theorem not_chanBit_chanAt {c o n : Nat} {l : List Nat} (hc : c < 256) (ho : o < 0x400) (h1 : o ≠ 0x140) (h2 : o ≠ 0x164) :
    ¬ ChanBit c l (chanAt c o) n := by
  rintro (⟨h, -⟩ | h | h | h) <;> simp only [chanAt, Anc.chStatus, Anc.chCounts, Anc.condMap, Anc.cmpMap] at h <;> omega
/-- The bits of another register than the channel's own and the maps. -/
theorem not_chanBit_of_apart {c a n : Nat} {l : List Nat} (hc : c < 256) (h1 : a < chanAt c 0 ∨ chanAt c 0x400 ≤ a)
    (h2 : a < 0x1041000 ∨ 0x1041060 ≤ a) : ¬ ChanBit c l a n := by
  rintro (⟨h, -⟩ | h | h | h) <;> simp only [chanAt, Anc.chStatus, Anc.chCounts, Anc.condMap, Anc.cmpMap] at h h1 <;> omega

/-! ### What is read of a channel's registers -/

section
variable {s t : State} {c : Nat}

theorem State.ancMode_congr (h : t.rg (Anc.chCfg c) = s.rg (Anc.chCfg c)) : t.ancMode c = s.ancMode c :=
  congrArg (fun w => let m := bits w 3 0; if m < 10 then m else 0) h
theorem State.chState_congr (h : t.rg (Anc.chStatus c) = s.rg (Anc.chStatus c)) : t.chState c = s.chState c :=
  congrArg (bits · 2 0) h
theorem State.calStep_congr (h : t.rg (Anc.calStatus c) = s.rg (Anc.calStatus c)) : t.calStep c = s.calStep c :=
  congrArg (bits · 2 0) h
end

/-! ### The run of a channel -/

/-- Channel `c` in the field deck. -/
def DeckSt.chan (d : DeckSt) (c : Nat) : ChanRun := Map.get (fun _ => {}) d.chans c
/-- The field deck with the run of channel `c` changed. -/
def DeckSt.modChan (d : DeckSt) (c : Nat) (f : ChanRun → ChanRun) : DeckSt :=
  { d with chans := Map.set (fun _ => {}) d.chans c (f (d.chan c)) }
theorem DeckSt.chan_modChan (d : DeckSt) (c k : Nat) (f : ChanRun → ChanRun) :
    (d.modChan c f).chan k = if k = c then f (d.chan c) else d.chan k := Map.get_set ..

theorem State.deck_modChan (s : State) (c : Nat) (f : ChanRun → ChanRun) : (s.modChan c f).deck = s.deck.modChan c f := rfl
@[simp] theorem State.chan_modChan (s : State) (c : Nat) (f : ChanRun → ChanRun) : (s.modChan c f).chan c = f (s.chan c) :=
  Map.get_set_same ..
theorem State.chan_modChan_other (s : State) {c k : Nat} (f : ChanRun → ChanRun) (hk : k ≠ c) :
    (s.modChan c f).chan k = s.chan k := Map.get_set_other _ _ _ _ _ hk
@[simp] theorem State.rg_modChan (s : State) (c a : Nat) (f : ChanRun → ChanRun) : (s.modChan c f).rg a = s.rg a :=
  State.rg_modDeck _ _ _ rfl
@[simp] theorem State.byte_modChan (s : State) (c a : Nat) (f : ChanRun → ChanRun) : (s.modChan c f).byte a = s.byte a :=
  State.byte_modDeck ..
@[simp] theorem State.half_modChan (s : State) (c : Nat) (f : ChanRun → ChanRun) (h : Half) : (s.modChan c f).half h = s.half h :=
  State.half_modDeck ..
@[simp] theorem State.runs_modChan (s : State) (c : Nat) (f : ChanRun → ChanRun) (h : Half) : (s.modChan c f).runs h = s.runs h :=
  State.runs_modDeck ..
theorem State.chan_of_deck {s t : State} (hd : t.deck = s.deck) (c : Nat) : t.chan c = s.chan c := by rw [State.chan, hd, State.chan]
@[simp] theorem State.chan_wr (s : State) (a : Nat) (w : Word) (c : Nat) : (s.wr a w).chan c = s.chan c := rfl
@[simp] theorem State.chan_wn (s : State) (a v c : Nat) : (s.wn a v).chan c = s.chan c := rfl
@[simp] theorem State.chan_fw (s : State) (a hi lo v c : Nat) : (s.fw a hi lo v).chan c = s.chan c := rfl
@[simp] theorem State.chan_sb (s : State) (a n : Nat) (b : Bool) (c : Nat) : (s.sb a n b).chan c = s.chan c := rfl
@[simp] theorem State.chan_reportDeck (s : State) (code kind num : Nat) (d : List Nat) (c : Nat) :
    (s.reportDeck code kind num d).chan c = s.chan c := State.chan_of_deck (State.deck_reportDeck ..) c
@[simp] theorem State.chan_modHalf (s : State) (h : Half) (f : HalfSt → HalfSt) (c : Nat) : (s.modHalf h f).chan c = s.chan c :=
  State.chan_of_deck (State.deck_modHalf ..) c

/-- A run without its comparators. -/
def ChanRun.sansCmp (x : ChanRun) : ChanRun := { x with lo := {}, hi := {} }
/-- A run without what its output is driven to. -/
def ChanRun.sansDrive (x : ChanRun) : ChanRun := { x with applied := 0, target := 0, frameLost := false }
/-- The view `v` of the field deck shows of channel `c` no more than what `m` leaves of its run. -/
def Blind {β : Type} (m : ChanRun → ChanRun) (c : Nat) (v : DeckSt → β) : Prop :=
  ∀ d f, (∀ x, m (f x) = m x) → v (d.modChan c f) = v d

theorem blind_pwr (m : ChanRun → ChanRun) (c : Nat) : Blind m c DeckSt.pwr := fun _ _ _ => rfl
theorem blind_chan {β : Type} {m : ChanRun → ChanRun} (g : ChanRun → β) {c k : Nat} (hg : ∀ x y, m x = m y → g x = g y) :
    Blind m c (fun d => g (d.chan k)) := by
  intro d f hf
  simp only [DeckSt.chan_modChan]
  split
  · next e => rw [hg _ _ (hf _), e]
  · rfl

section
variable {β : Type} {W : Nat → Nat → Prop} {v : DeckSt → β} {s t : State} {c : Nat}

theorem Leaves.modChan (L : Leaves W v s t) {f : ChanRun → ChanRun} (hv : ∀ d, v (d.modChan c f) = v d) :
    Leaves W v s (t.modChan c f) := L.modDeck rfl (hv _)
/-- A change of the run that `m` does not leave. -/
theorem Leaves.modRun {m : ChanRun → ChanRun} (L : Leaves W v s t) (hv : Blind m c v) {f : ChanRun → ChanRun}
    (hf : ∀ x, m (f x) = m x) : Leaves W v s (t.modChan c f) := L.modChan fun d => hv d f hf

/-! ### What follows a change of the channel (R251-R253, R263, R264) -/

theorem Leaves.ancImage (L : Leaves W v s t) : Leaves W v s (t.ancImage c) := L.image

section
variable (hW : ∀ a n, ChanBit c shownBits a n → W a n)
include hW

theorem shownBits_status {n : Nat} (hn : n ∈ shownBits) : W (Anc.chStatus c) n := hW _ _ (.inl ⟨rfl, hn⟩)
theorem Leaves.chanShow (L : Leaves W v s t) : Leaves W v s (t.chanShow c) := by
  have hflags (u : State) (a b : Bool) (hu : Leaves W v s u) :
      Leaves W v s ((u.sb (Anc.chStatus c) 14 a).sb (Anc.chStatus c) 19 b) :=
    (hu.sb (shownBits_status hW (by decide))).sb (shownBits_status hW (by decide))
  exact (hflags _ _ _ L).setMapBit (hW _ _ (.inr (.inr (.inl rfl))))
theorem Leaves.cmpShow (L : Leaves W v s t) : Leaves W v s (t.cmpShow c) := by
  have hmap {u : State} (i : Nat) (b : Bool) (hi : i / 32 = 2 * c / 32) (hu : Leaves W v s u) :
      Leaves W v s (u.setMapBit (Anc.cmpMap 0) i b) := hu.setMapBit (hW _ _ (.inr (.inr (.inr (by rw [hi])))))
  have hrep (b : Bool) (d : List Nat) : Leaves W v s (if b then t.reportDeck 0x0817 6 c d else t) :=
    .ite (fun _ => L.reportDeck) fun _ => L
  exact (((hmap _ _ (by omega) (hmap _ _ rfl (hrep _ _))).sb (shownBits_status hW (by decide))).sb
    (shownBits_status hW (by decide))).sb (shownBits_status hW (by decide))
theorem Leaves.setQuality (L : Leaves W v s t) (q : Nat) : Leaves W v s (t.setQuality c q) := by
  have hcount {u : State} (hu : Leaves W v s u) (hi lo k : Nat) (hlo : lo ≤ hi) :
      Leaves W v s (u.satF (Anc.chCounts c) hi lo k) := hu.satF (fun n _ _ => hW _ n (.inr (.inl rfl))) hlo
  have hq : Leaves W v s ((t.fw (Anc.chStatus c) 7 4 q).sb (Anc.chStatus c) 8 (decide (q ≤ 2))) :=
    (L.fw fun n h1 h2 => shownBits_status hW (by simp only [shownBits, List.mem_cons]; omega)).sb
      (shownBits_status hW (by decide))
  simp only [State.setQuality]
  refine .ite (fun _ => hq) fun _ => .ite (fun _ => (hcount hq _ _ _ (by decide)).reportDeck) fun _ => ?_
  refine .ite (fun _ => (hcount hq _ _ _ (by decide)).reportDeck) fun _ => ?_
  exact .ite (fun _ => (hcount hq _ _ _ (by decide)).reportDeck) fun _ => hq
theorem Leaves.ancCmp (L : Leaves W v s t) (hv : Blind ChanRun.sansCmp c v) {ev : Option (Nat × Nat)} : Leaves W v s (t.ancCmp c ev) := by
  refine Leaves.cmpShow hW (L.modRun hv ?_)
  exact fun _ => rfl
theorem Leaves.ancRefresh (L : Leaves W v s t) (hv : Blind ChanRun.sansCmp c v) {ev : Option (Nat × Nat)} : Leaves W v s (t.ancRefresh c ev) :=
  ((((L.setQuality hW _).ancCmp hW hv).chanShow hW)).ancImage
end

/-! ### Outputs (R242-R250) -/

section
variable (hW : W (Anc.chStatus c) 12) (hv : Blind ChanRun.sansDrive c v)
include hW hv

theorem Leaves.ancTake (L : Leaves W v s t) {x : Nat} {al : Bool} : Leaves W v s (t.ancTake c x al) := by
  have hs : Leaves W v s (t.sb (Anc.chStatus c) 12 al) := L.sb hW
  simp only [State.ancTake]
  exact .ite (fun _ => hs.modRun hv fun _ => rfl) fun _ => hs.modRun hv fun _ => rfl
theorem Leaves.ancApply (L : Leaves W v s t) {x : Nat} {al : Bool} : Leaves W v s (t.ancApply c x al) :=
  .ite (fun _ => L.ancTake hW hv) fun _ => L
theorem Leaves.ancMissAct (L : Leaves W v s t) : Leaves W v s (t.ancMissAct c) :=
  .ite (fun _ => L) fun _ => L.ancApply hW hv
theorem Leaves.ancResume (L : Leaves W v s t) : Leaves W v s (t.ancResume c) := by
  refine .ite (fun _ => L) fun _ => .ite (fun _ => L.ancMissAct hW hv) fun _ => ?_
  cases (t.chan c).cmd with
  | some x => exact L.ancTake hW hv
  | none => exact L.ancTake hW hv
end
end

end Sys2Proof.Machine
end

section
/-! Commands of an analogue output, a missing command and the end of settling (R242-R245, R256). -/
namespace Sys2Proof.Machine

/-! ### What an output is driven to (R242-R245, R260) -/

section
variable (s : State) (c : Nat)

/-- The value that drives an output to `u` through the user calibration. -/
def State.uncalibrated (u : Nat) : Nat := f32.div (f32.sub u (s.rn (Anc.userOffset c))) (s.rn (Anc.userGain c))

theorem State.target_ancTake (x : Nat) (al : Bool) : ((s.ancTake c x al).chan c).target = x := by
  simp only [State.ancTake]
  split <;> simp
theorem State.applied_ancTake (x : Nat) (al : Bool) (hm : s.ancMode c ≠ 8) : ((s.ancTake c x al).chan c).applied = x := by
  have hm' : (s.sb (Anc.chStatus c) 12 al).ancMode c ≠ 8 :=
    (State.ancMode_congr (by simp [chanAt_names])).trans_ne hm
  simp [State.ancTake, hm']
/-- ALARM_DRIVEN shows whether the value is an alarm's. -/
theorem State.alarm_ancTake (x : Nat) (al : Bool) : (s.ancTake c x al).bt (Anc.chStatus c) 12 = al := by
  have hb : (s.sb (Anc.chStatus c) 12 al).bt (Anc.chStatus c) 12 = al := State.bt_sb _ _ _ (by decide)
  simp only [State.ancTake]
  split <;> simpa [State.bt] using hb
theorem State.ancApply_active (u : Nat) (al : Bool) (hst : s.chState c = 3) :
    s.ancApply c u al = s.ancTake c (s.uncalibrated c u) al := if_pos hst
theorem State.deck_chanShow : (s.chanShow c).deck = s.deck := by simp [State.chanShow]
theorem State.deck_ancImage : (s.ancImage c).deck = s.deck := State.image_keeps State.deck (fun _ _ _ _ => State.deck_setMemNat ..) ..
theorem State.chan_shown : ((s.chanShow c).ancImage c).chan c = s.chan c :=
  State.chan_of_deck ((State.deck_ancImage ..).trans (State.deck_chanShow ..)) c
end

/-! ### A command (R242-R244) -/

section
variable (s : State) (c w : Nat)

/-- A command word limited by OUT_LO and OUT_HI (R243). -/
def State.outLimited : Nat := b32into w (s.rn (Anc.outLo c)) (s.rn (Anc.outHi c))
/-- And by the mode's range. -/
def State.outInRange : Nat := b32into (s.outLimited c w) (outRange (s.ancMode c)).1 (outRange (s.ancMode c)).2
/-- Whether a limit changes the word. -/
def State.outClipped : Bool := !f32.eq (s.outLimited c w) w || !f32.eq (s.outInRange c w) (s.outLimited c w)
/-- The channel with the word as its latest accepted command. -/
def State.commanded : State :=
  let u := (s.sb (Anc.chStatus c) 11 false).sb (Anc.chStatus c) 13 (s.outClipped c w)
  u.modChan c (fun x => { x with cmd := some (s.outInRange c w), cmdT := u.fieldNow (c / 16) })

theorem State.ancCommand_accepts (hout : ancOutput (s.ancMode c) = true) (hst : s.chState c = 3) (hf : f32.finite w = true) :
    s.ancCommand c w false = (((s.commanded c w).ancTake c (s.uncalibrated c (s.outInRange c w)) false).chanShow c).ancImage c := by
  have hact : (s.commanded c w).chState c = 3 := by
    rw [← hst]
    simp only [State.commanded, State.chState, State.fd, State.rg_modChan]
    exact (State.fd_sb_beside _ _ _ _ _ (by decide) (by decide)).trans (State.fd_sb_beside _ _ _ _ _ (by decide) (by decide))
  have hcal : (s.commanded c w).uncalibrated c = s.uncalibrated c := by
    funext u
    simp [State.commanded, State.uncalibrated, State.rn, chanAt_names]
  have hno : ¬ (ancOutput (s.ancMode c) = false ∨ s.chState c = 4) := by simp [hout, hst]
  rw [← hcal, ← State.ancApply_active _ _ _ _ hact]
  exact (if_neg hno).trans (if_neg (by simp [hf]))

/-- What an accepted command leaves of an ACTIVE channel. -/
theorem State.ancCommand_spec (hout : ancOutput (s.ancMode c) = true) (hst : s.chState c = 3)
    (hf : f32.finite w = true) :
    let t := s.ancCommand c w false
    (t.chan c).cmd = some (s.outInRange c w) ∧ t.bt (Anc.chStatus c) 11 = false
      ∧ t.bt (Anc.chStatus c) 13 = s.outClipped c w ∧ (t.chan c).target = s.uncalibrated c (s.outInRange c w)
      ∧ (s.ancMode c ≠ 8 → (t.chan c).applied = (t.chan c).target)
      ∧ Leaves (ChanBit c (11 :: 12 :: 13 :: shownBits)) DeckSt.pwr s t := by
  rw [State.ancCommand_accepts s c w hout hst hf]
  have hW (a n : Nat) : ChanBit c shownBits a n → ChanBit c (12 :: shownBits) a n := ChanBit.mono (by decide) a n
  have L : Leaves (ChanBit c (12 :: shownBits)) (fun d => (d.chan c).cmd) (s.commanded c w) _ :=
    ((((Leaves.refl _ _ (s.commanded c w)).ancTake (x := s.uncalibrated c (s.outInRange c w)) (al := false) (chanBit_status (by decide))
      (blind_chan (·.cmd) fun _ _ => congrArg ChanRun.cmd)).chanShow hW).ancImage (c := c))
  have hmode : (s.commanded c w).ancMode c = s.ancMode c :=
    State.ancMode_congr (by simp [State.commanded, chanAt_names])
  refine ⟨L.deck.trans ?_, ?_, ?_, ?_, fun h8 => ?_, ?_⟩
  · simp only [State.commanded]
    exact congrArg (·.cmd) (State.chan_modChan ..)
  · rw [L.bt (not_chanBit_status (by decide)), State.bt, State.commanded, State.rg_modChan]
    exact (State.bt_fw_beside _ _ _ _ le_rfl (by decide)).trans (State.bt_sb _ _ _ (by decide))
  · rw [L.bt (not_chanBit_status (by decide)), State.bt, State.commanded, State.rg_modChan]
    exact State.bt_sb _ _ _ (by decide)
  · rw [State.chan_shown, State.target_ancTake]
  · rw [State.chan_shown, State.target_ancTake, State.applied_ancTake _ _ _ _ (hmode.trans_ne h8)]
  · have hmore (a n : Nat) : ChanBit c shownBits a n → ChanBit c (11 :: 12 :: 13 :: shownBits) a n :=
      ChanBit.mono (by decide) a n
    have hs : Leaves (ChanBit c (11 :: 12 :: 13 :: shownBits)) DeckSt.pwr s s := .refl ..
    have hcmd : Leaves (ChanBit c (11 :: 12 :: 13 :: shownBits)) DeckSt.pwr s (s.commanded c w) := by
      rw [State.commanded]
      exact ((hs.sb (chanBit_status (by decide))).sb (chanBit_status (by decide))).modChan fun _ => rfl
    exact ((hcmd.ancTake (chanBit_status (by decide)) (blind_pwr _ c)).chanShow hmore).ancImage
end

theorem execAnalogOutCmd_routed {h : Half} {w : CmdWord} {rest : List CmdWord} {s : State} (hd : s.deck.inReset = false)
    (hm : MayCmd s h (w.idx / 16)) (htx : (s.half h).ancTx = w :: rest) (hi : w.idx < 256) (hsrc : s.bt (Anc.chCfg w.idx) 19 = false)
    (hroute : (if 4096 ≤ w.loop then !Machine.bit (s.deckRoute (4 * w.idx)) 31 else s.takes (4 * w.idx) w.loop w.j) = true) :
    exec (.analogOutCmd h) s
      = .next ((s.modHalf h (fun x => { x with ancTx := rest })).ancCommand w.idx w.word.toNat w.coast) := by
  obtain ⟨hr, hu, ho⟩ := hm
  generalize hs : s.modHalf h (fun x => { x with ancTx := rest }) = u
  have hm' : MayCmd u h (w.idx / 16) := by
    rw [← hs]
    exact ⟨(State.runs_modHalf _ _ _ _ rfl rfl).trans hr, by simpa using hu, (State.owns_modHalf ..).trans ho⟩
  have hsrc' : u.bt (Anc.chCfg w.idx) 19 = false := by rw [← hs, State.bt, State.rg_modHalf]; exact hsrc
  have hroute' : (if 4096 ≤ w.loop then !Machine.bit (u.deckRoute (4 * w.idx)) 31 else u.takes (4 * w.idx) w.loop w.j) = true := by
    have hdr (o : Nat) : u.deckRoute o = s.deckRoute o := by rw [← hs, State.deckRoute, State.deck_modHalf, State.deckRoute]
    simp only [State.takes, hdr] at hroute ⊢
    exact hroute
  refine congrArg Host.Outcome.next ((s.onDeck_out_of_reset _ hd).trans ?_)
  simp only [htx, hs, State.deckCmd_of_mayCmd _ hm', hm'.2.2, hsrc', hroute', hi]
  simp

theorem analogOutCmd_completes (h : Half) (w : CmdWord) (rest : List CmdWord) (s : State) (hd : s.deck.inReset = false)
    (hm : MayCmd s h (w.idx / 16)) (htx : (s.half h).ancTx = w :: rest) (hi : w.idx < 256) (hsrc : s.bt (Anc.chCfg w.idx) 19 = false)
    (hroute : (if 4096 ≤ w.loop then !Machine.bit (s.deckRoute (4 * w.idx)) 31 else s.takes (4 * w.idx) w.loop w.j) = true)
    (hout : ancOutput (s.ancMode w.idx) = true) (hst : s.chState w.idx = 3) (hco : w.coast = false)
    (hf : f32.finite w.word.toNat = true) :
    Gives (.analogOutCmd h) s (fun t => (t.half h).ancTx = rest ∧ t.bt (Anc.chStatus w.idx) 11 = false
      ∧ (t.chan w.idx).cmd = some (s.outInRange w.idx w.word.toNat)) := by
  let u := s.modHalf h (fun x => { x with ancTx := rest })
  have hrg (a : Nat) : u.rg a = s.rg a := State.rg_modHalf ..
  have hmode : u.ancMode w.idx = s.ancMode w.idx := State.ancMode_congr (hrg _)
  have hval : u.outInRange w.idx w.word.toNat = s.outInRange w.idx w.word.toNat := by
    simp only [State.outInRange, State.outLimited, hmode, State.rn, hrg]
  obtain ⟨hcmd, h11, -, -, -, L⟩ := u.ancCommand_spec w.idx w.word.toNat (by rw [hmode, hout])
    ((State.chState_congr (hrg _)).trans hst) hf
  obtain ⟨l, n, hh⟩ := L.half h
  refine ⟨_, execAnalogOutCmd_routed hd hm htx hi hsrc hroute, ?_⟩
  rw [hco]
  refine ⟨?_, h11, hval ▸ hcmd⟩
  rw [show (State.ancCommand _ _ _ _).half h = _ from hh]
  exact congrArg HalfSt.ancTx (State.half_modHalf ..)

theorem outValueWrite_register_completes (h : Half) (c : Nat) (val : Word) (s : State) (hc : c < 256) (hm : MayCmd s h (c / 16))
    (hsrc : s.bt (Anc.chCfg c) 19 = true) (hout : ancOutput (s.ancMode c) = true) (hst : s.chState c = 3)
    (hf : f32.finite val.toNat = true) :
    Gives (.outValueWrite h c val) s (fun t => t.rg (Anc.outValue c) = val
      ∧ (t.chan c).cmd = some (s.outInRange c val.toNat) ∧ t.bt (Anc.chStatus c) 11 = false
      ∧ t.bt (Anc.chStatus c) 13 = s.outClipped c val.toNat
      ∧ (t.chan c).target = s.uncalibrated c (s.outInRange c val.toNat)
      ∧ (s.ancMode c ≠ 8 → (t.chan c).applied = (t.chan c).target)) := by
  let u := s.wr (Anc.outValue c) val
  have hmode : u.ancMode c = s.ancMode c := State.ancMode_congr (by simp [u, chanAt_names])
  have hex : exec (.outValueWrite h c val) s = .next (u.ancCommand c val.toNat false) :=
    congrArg Host.Outcome.next ((State.deckCmd_of_mayCmd _ hm).trans (if_pos ((State.bt_wr_other _ _ _ (by simp [chanAt_names])).trans hsrc)))
  obtain ⟨hcmd, h11, h13, htgt, happ, L⟩ := u.ancCommand_spec c val.toNat (by rw [hmode, hout])
    ((State.fd_wr_other _ _ _ _ (by simp [chanAt_names])).trans hst) hf
  have hlim : u.outLimited c = s.outLimited c := by
    funext w
    simp [u, State.outLimited, State.rn, chanAt_names]
  have hval : u.outInRange c = s.outInRange c := by
    funext w
    rw [State.outInRange, hlim, hmode, State.outInRange]
  have hcal : u.uncalibrated c = s.uncalibrated c := by
    funext w
    simp [u, State.uncalibrated, State.rn, chanAt_names]
  rw [State.outClipped, hlim, hval] at h13
  rw [hval] at hcmd
  rw [hval, hcal] at htgt
  refine ⟨_, hex, ?_, hcmd, h11, h13, htgt, hmode ▸ happ⟩
  exact (L.rg fun n => not_chanBit_chanAt (o := 0x100) hc (by decide) (by decide) (by decide)).trans
    ((State.rg_wr ..).trans (if_pos rfl))

theorem outValueWrite_routed_completes (h : Half) (c : Nat) (val : Word) (s : State) (hm : MayCmd s h (c / 16))
    (hsrc : s.bt (Anc.chCfg c) 19 = false) :
    Gives (.outValueWrite h c val) s (fun t => t.rg (Anc.outValue c) = val ∧ SameMem s t
      ∧ SameRegs s t (fun a => a = Anc.outValue c) ∧ t.deck = s.deck) := by
  have hsrc' : ¬ (s.wr (Anc.outValue c) val).bt (Anc.chCfg c) 19 = true := by
    rw [State.bt_wr_other _ _ _ (by simp [chanAt_names]), hsrc]
    decide
  refine ⟨_, congrArg Host.Outcome.next ((State.deckCmd_of_mayCmd _ hm).trans (if_neg hsrc')), ?_, fun _ => rfl, fun a ha => ?_, rfl⟩
  · exact (State.rg_wr ..).trans (if_pos rfl)
  · exact (State.rg_wr ..).trans (if_neg ha)

/-! ### A missing command, and the end of settling (R245, R256) -/

/-- CMD_MISSING and its record. -/
def State.missShown (s : State) (c : Nat) : State :=
  (s.sb (Anc.chStatus c) 11 true).reportDeck 0x0816 6 c [s.fd (Anc.chCfg c) 21 20]
theorem State.ancMissing_begins {s : State} {c : Nat} (h11 : s.bt (Anc.chStatus c) 11 = false) :
    s.ancMissing c = (((s.missShown c).ancMissAct c).chanShow c).ancImage c :=
  if_neg (by simp [h11])
theorem analogCmdMissing_completes (c : Nat) (s : State) (hd : s.deck.inReset = false)
    (hout : ancOutput (s.ancMode c) = true) (hst : s.chState c = 3)
    (ht : (s.chan c).cmdT + s.missNs c ≤ s.fieldNow (c / 16)) (h11 : s.bt (Anc.chStatus c) 11 = false) :
    Gives (.analogCmdMissing c) s (fun t => t.bt (Anc.chStatus c) 11 = true
      ∧ (s.fd (Anc.chCfg c) 21 20 ≠ 2 → t.bt (Anc.chStatus c) 12 = true)
      ∧ ∀ h, s.runs h = true → Reported t h 0x0816 6 c) := by
  let u := s.missShown c
  have hex : exec (.analogCmdMissing c) s = .next (((u.ancMissAct c).chanShow c).ancImage c) :=
    congrArg Host.Outcome.next ((s.onDeck_out_of_reset _ hd).trans ((if_pos ⟨hout, hst, ht⟩).trans (State.ancMissing_begins h11)))
  have hrg (a : Nat) : u.rg a = (s.sb (Anc.chStatus c) 11 true).rg a := State.rg_reportDeck ..
  have L : Leaves (ChanBit c (12 :: shownBits)) DeckSt.pwr u _ :=
    (((Leaves.refl _ _ u).ancMissAct (c := c) (chanBit_status (by decide)) (blind_pwr _ c)).chanShow (ChanBit.mono (by decide))).ancImage
      (c := c)
  have M : Leaves (ChanBit c shownBits) DeckSt.pwr (u.ancMissAct c) _ :=
    ((Leaves.refl _ _ (u.ancMissAct c)).chanShow fun _ _ => id).ancImage (c := c)
  refine ⟨_, hex, ?_, fun h2 => ?_, fun h hr => L.reported (State.reported_reportDeck _ _ _ _ _ ((State.runs_sb ..).trans hr))⟩
  · rw [L.bt (not_chanBit_status (by decide)), State.bt, hrg]
    exact State.bt_sb _ _ _ (by decide)
  · have hact : u.chState c = 3 := by
      rw [← hst, State.chState, State.fd, hrg]
      exact State.fd_sb_beside _ _ _ _ _ (by decide) (by decide)
    have hcfg : u.fd (Anc.chCfg c) 21 20 ≠ 2 := by
      rw [State.fd, hrg]
      exact (State.fd_wr_other _ _ _ _ (by simp [chanAt_names])).trans_ne h2
    rw [M.bt (not_chanBit_status (by decide)), State.ancMissAct, if_neg hcfg, State.ancApply_active _ _ _ _ hact, State.alarm_ancTake]

theorem settlingEnd_completes (c : Nat) (s : State) (hd : s.deck.inReset = false) (hst : s.chState c = 2)
    (ht : (s.chan c).setT + s.settleFor c ≤ s.deck.ticks) : Gives (.settlingEnd c) s (fun t => t.chState c = 3) := by
  let u := (s.modChan c (fun x => { x with islDir := s.bt (Anc.chCfg c) 17 })).fw (Anc.chStatus c) 2 0 3
  have hex : exec (.settlingEnd c) s = .next ((u.ancResume c).ancRefresh c none) :=
    congrArg Host.Outcome.next ((s.onDeck_out_of_reset _ hd).trans (if_pos ⟨hst, ht⟩))
  have L : Leaves (ChanBit c (12 :: shownBits)) DeckSt.pwr u _ :=
    (((Leaves.refl _ _ u).ancResume (c := c) (chanBit_status (by decide)) (blind_pwr _ c)).ancRefresh (c := c) (ev := none)
      (ChanBit.mono (by decide)) (blind_pwr _ c))
  exact ⟨_, hex, (L.fd fun n _ hn => not_chanBit_status (by revert n; decide)).trans (State.fd_fw _ _ _ (by decide) (by decide))⟩

end Sys2Proof.Machine
end

section
/-! The calibration of a channel (R259-R261); and all commands of the outputs and the calibration together. -/
namespace Sys2Proof.Machine

/-! ### A CAL_CMD that is taken (R259) -/

section
variable (s : State) (c : Nat)

/-- The channel with the time of its latest CAL_CMD. -/
def State.calHeard : State := s.modChan c (fun x => { x with calT := s.fieldNow (c / 16) })
/-- And with no refusal shown. -/
def State.calTaken : State := (s.calHeard c).fw (Anc.calStatus c) 5 3 0

theorem State.calCmd_of_mayCmd {s : State} {h : Half} {c : Nat} {ok : State → Bool} (f : State → State) (hm : MayCmd s h (c / 16))
    (hok : ok (s.calHeard c) = true) : s.calCmd h c ok f = f (s.calTaken c) := by
  obtain ⟨hr, hu, ho⟩ := hm
  rw [State.calCmd, State.onHalf_runs _ _ _ hr, if_neg (by simp [hu]), if_neg (by simp [ho])]
  exact if_pos hok
theorem State.rg_calHeard (a : Nat) : (s.calHeard c).rg a = s.rg a := State.rg_modChan ..
theorem State.chState_calHeard : (s.calHeard c).chState c = s.chState c := State.chState_congr (s.rg_calHeard c _)
theorem State.calStep_calHeard : (s.calHeard c).calStep c = s.calStep c := State.calStep_congr (s.rg_calHeard c _)
theorem State.chan_calHeard : (s.calHeard c).chan c = { s.chan c with calT := s.fieldNow (c / 16) } := State.chan_modChan ..
theorem State.chan_calTaken : (s.calTaken c).chan c = { s.chan c with calT := s.fieldNow (c / 16) } := s.chan_calHeard c
theorem State.rg_calTaken {a : Nat} (ha : a ≠ Anc.calStatus c) : (s.calTaken c).rg a = s.rg a :=
  (State.rg_fw ..).trans ((if_neg ha).trans (s.rg_calHeard c a))
theorem State.byte_calTaken (a : Nat) : (s.calTaken c).byte a = s.byte a := (State.byte_fw ..).trans (State.byte_modChan ..)
theorem State.calStep_calTaken : (s.calTaken c).calStep c = s.calStep c :=
  (State.fd_fw_beside _ _ _ _ (by decide) (by decide) (by decide)).trans (s.calStep_calHeard c)
theorem State.result_calTaken : (s.calTaken c).fd (Anc.calStatus c) 5 3 = 0 := State.fd_fw _ _ _ (by decide) (by decide)
theorem State.ancMode_calTaken : (s.calTaken c).ancMode c = s.ancMode c := State.ancMode_congr (s.rg_calTaken c (by simp [chanAt_names]))
end

theorem calOffline_completes (h : Half) (c : Nat) (s : State) (hm : MayCmd s h (c / 16)) (hst : s.chState c = 3)
    (hreq : (s.chan c).calReq = false) :
    Gives (.calOffline h c) s (fun t => (t.chan c).calReq = true ∧ t.fd (Anc.calStatus c) 5 3 = 0 ∧ SameMem s t
      ∧ SameRegs s t (fun a => a = Anc.calStatus c)) := by
  have hok : (decide ((s.calHeard c).chState c = 3) && !((s.calHeard c).chan c).calReq) = true := by
    simp [State.chState_calHeard, State.chan_calHeard, hst, hreq]
  refine ⟨_, congrArg Host.Outcome.next (State.calCmd_of_mayCmd _ hm hok), ?_, ?_, fun a => ?_, fun a ha => ?_⟩
  · rw [State.chan_modChan]
  · exact (congrArg (bits · 5 3) (State.rg_modChan ..)).trans (s.result_calTaken c)
  · exact (State.byte_modChan ..).trans (s.byte_calTaken c a)
  · exact (State.rg_modChan ..).trans (s.rg_calTaken c ha)

/-! ### Points (R259) -/

section
variable (s : State) (c : Nat) (hi : Bool)

/-- What a point that is taken leaves: the point with its reference, and the next step. -/
def PointTaken (s t : State) (c : Nat) (hi : Bool) (m : Nat) : Prop :=
  if hi then (t.chan c).calHi = some (s.rn (Anc.calRef c), m) ∧ t.calStep c = 3
  else (t.chan c).calLo = some (s.rn (Anc.calRef c), m) ∧ t.calStep c = 2

theorem State.rg_calTake (m : Nat) {a : Nat} (ha : a ≠ Anc.calStatus c) : (s.calTake c hi m).rg a = s.rg a :=
  (State.rg_fw ..).trans ((if_neg ha).trans (State.rg_modChan ..))
theorem State.byte_calTake (m a : Nat) : (s.calTake c hi m).byte a = s.byte a := (State.byte_fw ..).trans (State.byte_modChan ..)
theorem State.pointTaken_calTake (m : Nat) : PointTaken s (s.calTake c hi m) c hi m := by
  have hstep : (s.calTake c hi m).calStep c = (if hi then 3 else 2) % 2 ^ 3 := State.fd_fw _ _ _ (by decide) (by decide)
  rw [PointTaken, hstep, State.calTake, State.chan_fw, State.chan_modChan]
  cases hi with
  | true => exact ⟨rfl, rfl⟩
  | false => exact ⟨rfl, rfl⟩
theorem State.calRun_calTake (m : Nat) : ((s.calTake c hi m).chan c).calRun = 0 := by
  rw [State.calTake, State.chan_fw, State.chan_modChan]
  cases hi <;> rfl

/-- A point command: an output's point is taken, an input's begins. -/
theorem State.calPoint_spec : let t := (s.calTaken c).calPoint c hi
    SameMem s t ∧ SameRegs s t (fun a => a = Anc.calStatus c)
      ∧ if ancOutput (s.ancMode c) then PointTaken s t c hi (s.rn (Anc.calMeas c))
        else (t.chan c).calRun = (if hi then 2 else 1) ∧ (t.chan c).calN = 0 ∧ t.calStep c = s.calStep c := by
  have hrn {a : Nat} (ha : a ≠ Anc.calStatus c) : (s.calTaken c).rn a = s.rn a := congrArg BitVec.toNat (s.rg_calTaken c ha)
  have hmeas : (s.calTaken c).rn (Anc.calMeas c) = s.rn (Anc.calMeas c) := hrn (by simp [chanAt_names])
  have href : (s.calTaken c).rn (Anc.calRef c) = s.rn (Anc.calRef c) := hrn (by simp [chanAt_names])
  simp only [State.calPoint, State.ancMode_calTaken, hmeas]
  split
  · have ht := (s.calTaken c).pointTaken_calTake c hi (s.rn (Anc.calMeas c))
    rw [PointTaken, href] at ht
    exact ⟨fun a => (State.byte_calTake ..).trans (s.byte_calTaken c a),
      fun a ha => (State.rg_calTake _ _ _ _ ha).trans (s.rg_calTaken c ha), ht⟩
  · refine ⟨fun a => (State.byte_modChan ..).trans (s.byte_calTaken c a),
      fun a ha => (State.rg_modChan ..).trans (s.rg_calTaken c ha), ?_, ?_, ?_⟩
    · rw [State.chan_modChan]
    · rw [State.chan_modChan]
    · exact (State.calStep_congr (State.rg_modChan ..)).trans (s.calStep_calTaken c)
end

section
variable (h : Half) (c : Nat) (s : State) (hm : MayCmd s h (c / 16)) (hst : s.chState c = 4) (hrun : (s.chan c).calRun = 0)
include hm hst hrun

theorem State.mayPoint {n : Nat} (hstep : s.calStep c = n) (f : State → State) : s.calCmd h c (fun u => decide (u.chState c = 4)
    && decide (u.calStep c = n) && decide ((u.chan c).calRun = 0)) f = f (s.calTaken c) :=
  State.calCmd_of_mayCmd f hm (by simp [State.chState_calHeard, State.calStep_calHeard, State.chan_calHeard, hst, hrun, hstep])

theorem calPointLo_completes (hstep : s.calStep c = 1) :
    Gives (.calPointLo h c) s (fun t => SameMem s t ∧ SameRegs s t (fun a => a = Anc.calStatus c)
      ∧ if ancOutput (s.ancMode c) then (t.chan c).calLo = some (s.rn (Anc.calRef c), s.rn (Anc.calMeas c)) ∧ t.calStep c = 2
        else (t.chan c).calRun = 1 ∧ (t.chan c).calN = 0 ∧ t.calStep c = 1) := by
  obtain ⟨hmem, hreg, hpt⟩ := s.calPoint_spec c false
  rw [hstep] at hpt
  exact ⟨_, congrArg Host.Outcome.next (State.mayPoint h c s hm hst hrun hstep _), hmem, hreg, hpt⟩
theorem calPointHi_completes (hstep : s.calStep c = 2) :
    Gives (.calPointHi h c) s (fun t => SameMem s t ∧ SameRegs s t (fun a => a = Anc.calStatus c)
      ∧ if ancOutput (s.ancMode c) then (t.chan c).calHi = some (s.rn (Anc.calRef c), s.rn (Anc.calMeas c)) ∧ t.calStep c = 3
        else (t.chan c).calRun = 2 ∧ (t.chan c).calN = 0 ∧ t.calStep c = 2) := by
  obtain ⟨hmem, hreg, hpt⟩ := s.calPoint_spec c true
  rw [hstep] at hpt
  exact ⟨_, congrArg Host.Outcome.next (State.mayPoint h c s hm hst hrun hstep _), hmem, hreg, hpt⟩
end

theorem calPointTaken_completes (c : Nat) (hi : Bool) (s : State) (hd : s.deck.inReset = false) (hst : s.chState c = 4)
    (hrun : (s.chan c).calRun = (if hi then 2 else 1)) (hn : s.calNeed c ≤ (s.chan c).calN) :
    Gives (.calPointTaken c hi) s (fun t => SameMem s t ∧ SameRegs s t (fun a => a = Anc.calStatus c)
      ∧ (t.chan c).calRun = 0
      ∧ if hi then (t.chan c).calHi = some (s.rn (Anc.calRef c), s.calAvg c) ∧ t.calStep c = 3
        else (t.chan c).calLo = some (s.rn (Anc.calRef c), s.calAvg c) ∧ t.calStep c = 2) :=
  ⟨_, congrArg Host.Outcome.next ((s.onDeck_out_of_reset _ hd).trans (if_pos ⟨hst, hrun, hn⟩)), fun a => s.byte_calTake c hi _ a,
    fun _ ha => s.rg_calTake c hi _ ha, s.calRun_calTake c hi _, s.pointTaken_calTake c hi _⟩

/-! ### APPLY and the card's store (R259, R260) -/

theorem calApply_completes (h : Half) (c rl ml rh mh gain off : Nat) (s : State) (hm : MayCmd s h (c / 16)) (hst : s.chState c = 4)
    (hstep : s.calStep c = 3) (hlo : (s.chan c).calLo = some (rl, ml)) (hhi : (s.chan c).calHi = some (rh, mh))
    (hne : f32.eq mh ml = false) (hg : gain = f32.div (f32.sub rh rl) (f32.sub mh ml)) (ho : off = f32.sub rl (f32.mul gain ml))
    (hg1 : f32.le 0x3F7AE148 gain = true) (hg2 : f32.le gain 0x3F828F5C = true)
    (hspan : f32.le (b32abs off) (f32.mul 0x3C23D70A (s.calSpan c)) = true) :
    Gives (.calApply h c) s (fun t => t.calStep c = 4 ∧ (t.chan c).calNew = (gain, off) ∧ SameMem s t
      ∧ SameRegs s t (fun a => a = Anc.calStatus c)) := by
  have hok : (decide ((s.calHeard c).chState c = 4) && decide ((s.calHeard c).calStep c = 3)) = true := by
    simp [State.chState_calHeard, State.calStep_calHeard, hst, hstep]
  have hcfg : (s.calTaken c).rg (Anc.chCfg c) = s.rg (Anc.chCfg c) := s.rg_calTaken c (by simp [chanAt_names])
  have hsp : (s.calTaken c).calSpan c = s.calSpan c := by
    simp only [State.calSpan, State.ancMode_calTaken, State.fd, hcfg]
  have hex : exec (.calApply h c) s
      = .next (((s.calTaken c).modChan c (fun x => { x with calNew := (gain, off) })).fw (Anc.calStatus c) 2 0 4) := by
    refine congrArg Host.Outcome.next ((State.calCmd_of_mayCmd _ hm hok).trans ?_)
    simp only [State.chan_calTaken, hlo, hhi, hsp, ← hg, ← ho]
    exact if_pos (by simp [hne, hg1, hg2, hspan])
  refine ⟨_, hex, State.fd_fw _ _ _ (by decide) (by decide), ?_, fun a => ?_, fun a ha => ?_⟩
  · rw [State.chan_fw, State.chan_modChan]
  · exact (State.byte_fw ..).trans ((State.byte_modChan ..).trans (s.byte_calTaken c a))
  · exact (State.rg_fw ..).trans ((if_neg ha).trans ((State.rg_modChan ..).trans (s.rg_calTaken c ha)))

section
variable (c : Nat) (s : State) (hd : s.deck.inReset = false) (hstep : s.calStep c = 4)
include hd hstep

theorem calStoreDone_stored :
    Gives (.calStoreDone c true) s (fun t => SameMem s t ∧ t.rg (Anc.userGain c) = BitVec.ofNat 32 (s.chan c).calNew.1
      ∧ t.rg (Anc.userOffset c) = BitVec.ofNat 32 (s.chan c).calNew.2 ∧ t.calStep c = 1
      ∧ ∀ h, s.runs h = true → Reported t h 0x0821 6 c) := by
  let stored := (s.wn (Anc.userGain c) (s.chan c).calNew.1).wn (Anc.userOffset c) (s.chan c).calNew.2
  let shown := (stored.fw (Anc.calStatus c) 2 0 1).fw (Anc.calStatus c) 5 3 0
  let counted := shown.fw (Anc.calStatus c) 31 16 (shown.fd (Anc.calStatus c) 31 16 + 1)
  let cleared := counted.modChan c (fun x => { x with calLo := none, calHi := none })
  have hex : exec (.calStoreDone c true) s = .next (cleared.reportDeck 0x0821 6 c [(s.chan c).calNew.1, (s.chan c).calNew.2]) :=
    congrArg Host.Outcome.next ((s.onDeck_out_of_reset _ hd).trans ((if_neg (not_not.2 hstep)).trans (if_pos rfl)))
  have L : Leaves (fun a _ => a = Anc.calStatus c) DeckSt.pwr stored counted :=
    (((Leaves.refl _ _ stored).fw fun _ _ _ => rfl).fw fun _ _ _ => rfl).fw fun _ _ _ => rfl
  have hrg (a : Nat) : (cleared.reportDeck 0x0821 6 c [(s.chan c).calNew.1, (s.chan c).calNew.2]).rg a = counted.rg a :=
    (State.rg_reportDeck ..).trans (State.rg_modChan ..)
  have hone : counted.calStep c = 1 :=
    (State.fd_fw_beside _ _ _ _ (by decide) (by decide) (by decide)).trans ((State.fd_fw_beside _ _ _ _ (by decide) (by decide)
      (by decide)).trans (State.fd_fw _ _ _ (by decide) (by decide)))
  refine ⟨_, hex, fun a => ?_, (hrg _).trans ((L.rg fun _ => by simp [chanAt_names]).trans ?_),
    (hrg _).trans ((L.rg fun _ => by simp [chanAt_names]).trans ?_), (State.calStep_congr (hrg _)).trans hone, fun h hr => ?_⟩
  · simp only [cleared, counted, shown, stored, State.byte_reportDeck, State.byte_modChan, State.byte_fw, State.byte_wn]
  · simp [stored, chanAt_names]
  · simp [stored]
  · exact State.reported_reportDeck _ _ _ _ _ ((State.runs_modChan ..).trans ((L.runs h).trans (by simpa [stored, State.wn_eq] using hr)))
/-- A store that fails shows code 4, and the points stay. -/
theorem calStoreDone_failed :
    Gives (.calStoreDone c false) s (fun t => SameMem s t ∧ t.calStep c = 3 ∧ t.fd (Anc.calStatus c) 5 3 = 4) :=
  ⟨_, congrArg Host.Outcome.next ((s.onDeck_out_of_reset _ hd).trans ((if_neg (not_not.2 hstep)).trans (if_neg Bool.false_ne_true))),
    fun _ => rfl, (State.fd_fw_beside _ _ _ _ (by decide) (by decide) (by decide)).trans (State.fd_fw _ _ _ (by decide) (by decide)),
    State.fd_fw _ _ _ (by decide) (by decide)⟩
end

/-! ### The end of a calibration (R256, R259, R261) -/

/-- The channel out of OFFLINE, with no calibration in progress. -/
def State.leftOffline (s : State) (c : Nat) : State :=
  ((s.fw (Anc.calStatus c) 2 0 0).fw (Anc.chStatus c) 2 0 (if (s.chan c).islFault then 5 else 3)).modChan c
    (fun x => { x with calReq := false, calRun := 0, calLo := none, calHi := none })
/-- A channel that leaves OFFLINE is ACTIVE, or in FAULT while its island is faulty; what CAL_STATUS shows of the last command and
what was reported stay. -/
theorem State.calOnline_spec (s : State) {c : Nat} (hc : c < 256) : let t := s.calOnline c
    t.chState c = (if (s.chan c).islFault then 5 else 3) ∧ t.calStep c = 0 ∧ (t.chan c).calRun = 0
      ∧ t.fd (Anc.calStatus c) 5 3 = s.fd (Anc.calStatus c) 5 3
      ∧ ∀ h code kind num, Reported s h code kind num → Reported t h code kind num := by
  have L : Leaves (ChanBit c (12 :: shownBits)) (fun d => (d.chan c).calRun) (s.leftOffline c) (s.calOnline c) :=
    ((Leaves.refl _ _ (s.leftOffline c)).ancResume (chanBit_status (by decide)) (blind_chan (·.calRun) fun _ _ => congrArg ChanRun.calRun)).ancRefresh
      (ChanBit.mono (by decide)) (blind_chan (·.calRun) fun _ _ => congrArg ChanRun.calRun)
  have hcal (n : Nat) : ¬ ChanBit c (12 :: shownBits) (Anc.calStatus c) n :=
    not_chanBit_chanAt (o := 0x110) hc (by decide) (by decide) (by decide)
  have M : Leaves (fun a _ => a = Anc.calStatus c ∨ a = Anc.chStatus c) DeckSt.pwr s (s.leftOffline c) :=
    (((Leaves.refl _ _ s).fw fun _ _ _ => .inl rfl).fw fun _ _ _ => .inr rfl).modChan fun _ => rfl
  refine ⟨?_, ?_, ?_, ?_, fun h code kind num hr => L.reported (M.reported hr)⟩
  · refine (L.fd fun n _ hn => not_chanBit_status (by revert n; decide)).trans ?_
    rw [State.leftOffline, State.fd, State.rg_modChan]
    refine (State.fd_fw _ _ _ (by decide) (by decide)).trans ?_
    split <;> rfl
  · refine (L.fd fun n _ _ => hcal n).trans ?_
    rw [State.leftOffline, State.fd, State.rg_modChan]
    exact (State.fd_wr_other _ _ _ _ (by simp [chanAt_names])).trans (State.fd_fw _ _ _ (by decide) (by decide))
  · exact L.deck.trans (congrArg ChanRun.calRun (State.chan_modChan ..))
  · refine (L.fd fun n _ _ => hcal n).trans ?_
    rw [State.leftOffline, State.fd, State.rg_modChan]
    exact (State.fd_wr_other _ _ _ _ (by simp [chanAt_names])).trans
      (State.fd_fw_beside _ _ _ _ (by decide) (by decide) (by decide))

theorem calOnline_completes (h : Half) (c : Nat) (s : State) (hc : c < 256) (hm : MayCmd s h (c / 16)) (hst : s.chState c = 4)
    (hstep : s.calStep c ≠ 4) :
    Gives (.calOnline h c) s (fun t => t.chState c = (if (s.chan c).islFault then 5 else 3) ∧ t.calStep c = 0
      ∧ (t.chan c).calRun = 0) := by
  have hok : (decide ((s.calHeard c).chState c = 4) && decide ((s.calHeard c).calStep c ≠ 4)) = true := by
    simp [State.chState_calHeard, State.calStep_calHeard, hst, hstep]
  obtain ⟨h1, h2, h3, -, -⟩ := (s.calTaken c).calOnline_spec hc
  rw [State.chan_calTaken] at h1
  exact ⟨_, congrArg Host.Outcome.next (State.calCmd_of_mayCmd _ hm hok), h1, h2, h3⟩

theorem calTimeout_completes (c : Nat) (s : State) (hc : c < 256) (hd : s.deck.inReset = false) (hst : s.chState c = 4)
    (hstep : s.calStep c ≠ 0) (ht : (s.chan c).calT + 600000000000 ≤ s.fieldNow (c / 16)) :
    Gives (.calTimeout c) s (fun t => t.chState c = (if (s.chan c).islFault then 5 else 3) ∧ t.calStep c = 0
      ∧ t.fd (Anc.calStatus c) 5 3 = 3 ∧ ∀ h, s.runs h = true → Reported t h 0x0822 6 c) := by
  let ended := ((s.fw (Anc.calStatus c) 2 0 0).fw (Anc.calStatus c) 5 3 3).modChan c
    (fun x => { x with calReq := false, calRun := 0, calLo := none, calHi := none })
  let aborted := ended.reportDeck 0x0822 6 c [0]
  have habort : s.calAbort c 0 = aborted := if_neg fun hno => hstep hno.1
  have hex : exec (.calTimeout c) s = .next (aborted.calOnline c) := by
    rw [← habort]
    exact congrArg Host.Outcome.next ((s.onDeck_out_of_reset _ hd).trans ((if_pos ⟨hst, ht⟩).trans (if_pos hst)))
  have hfault : (aborted.chan c).islFault = (s.chan c).islFault := by simp [aborted, ended]
  have hcode : aborted.fd (Anc.calStatus c) 5 3 = 3 :=
    (congrArg (bits · 5 3) ((State.rg_reportDeck ..).trans (State.rg_modChan ..))).trans (State.fd_fw _ _ _ (by decide) (by decide))
  obtain ⟨h1, h2, -, h4, h5⟩ := aborted.calOnline_spec hc
  refine ⟨_, hex, hfault ▸ h1, h2, h4.trans hcode, fun h hr => h5 _ _ _ _ ?_⟩
  exact State.reported_reportDeck _ _ _ _ _ ((State.runs_modChan ..).trans hr)

/-! ### RESET_USER (R260) -/

theorem State.byte_ancTake (s : State) (c x : Nat) (al : Bool) (a : Nat) : (s.ancTake c x al).byte a = s.byte a := by
  simp only [State.ancTake]
  split <;> simp
theorem State.byte_ancResume (s : State) (c a : Nat) : (s.ancResume c).byte a = s.byte a := by
  refine ite_keeps (State.byte · a) (fun _ => rfl) fun _ => ite_keeps (State.byte · a) (fun _ => ?_) fun _ => ?_
  · exact ite_keeps (State.byte · a) (fun _ => rfl) fun _ => ite_keeps (State.byte · a) (fun _ => s.byte_ancTake ..) fun _ => rfl
  · cases (s.chan c).cmd with
    | some x => exact s.byte_ancTake ..
    | none => exact s.byte_ancTake ..
/-- An ACTIVE output with a command drives it through the user calibration. -/
theorem State.ancResume_command {s : State} {c v : Nat} (hout : ancOutput (s.ancMode c) = true) (hst : s.chState c = 3)
    (h11 : s.bt (Anc.chStatus c) 11 = false) (hcmd : (s.chan c).cmd = some v) :
    s.ancResume c = s.ancTake c (s.uncalibrated c v) false := by
  refine (if_neg (by simp [hout, hst])).trans ((if_neg (by simp [h11])).trans ?_)
  rw [hcmd]
  rfl

theorem calResetUser_completes (h : Half) (c : Nat) (s : State) (hm : MayCmd s h (c / 16)) (hst : s.chState c = 3 ∨ s.chState c = 4)
    (hstep : s.calStep c ≠ 4) :
    Gives (.calResetUser h c) s (fun t => t.rg (Anc.userGain c) = 0x3F800000 ∧ t.rg (Anc.userOffset c) = 0 ∧ SameMem s t
      ∧ SameRegs s t (fun a => a = Anc.userGain c ∨ a = Anc.userOffset c ∨ a = Anc.calStatus c
        ∨ (s.chState c = 3 ∧ a = Anc.chStatus c))
      ∧ ∀ v, s.chState c = 3 → ancOutput (s.ancMode c) = true → s.bt (Anc.chStatus c) 11 = false →
          (s.chan c).cmd = some v → (t.chan c).target = f32.div (f32.sub v 0) 0x3F800000) := by
  have hok : ((decide ((s.calHeard c).chState c = 3) || decide ((s.calHeard c).chState c = 4))
      && decide ((s.calHeard c).calStep c ≠ 4)) = true := by
    simp [State.chState_calHeard, State.calStep_calHeard, hst, hstep]
  let u := ((s.calTaken c).wn (Anc.userGain c) 0x3F800000).wr (Anc.userOffset c) 0
  have hrg {a : Nat} (h1 : a ≠ Anc.userGain c) (h2 : a ≠ Anc.userOffset c) (h3 : a ≠ Anc.calStatus c) : u.rg a = s.rg a := by
    rw [State.rg_wr, if_neg h2, State.rg_wn, if_neg h1, s.rg_calTaken c h3]
  have hgain : u.rg (Anc.userGain c) = 0x3F800000 := by simp [u, chanAt_names]
  have hoff : u.rg (Anc.userOffset c) = 0 := by simp [u]
  have hstatus : u.rg (Anc.chStatus c) = s.rg (Anc.chStatus c) := hrg (by simp [chanAt_names]) (by simp [chanAt_names]) (by simp [chanAt_names])
  have hmode : u.ancMode c = s.ancMode c :=
    State.ancMode_congr (hrg (by simp [chanAt_names]) (by simp [chanAt_names]) (by simp [chanAt_names]))
  have L : Leaves (fun a _ => a = Anc.chStatus c) DeckSt.pwr u (u.ancResume c) := (Leaves.refl _ _ u).ancResume rfl (blind_pwr _ c)
  refine ⟨_, congrArg Host.Outcome.next (State.calCmd_of_mayCmd _ hm hok), ?_, ?_, fun a => ?_, fun a ha => ?_, fun v h3 hout h11 hcmd => ?_⟩
  · exact (L.rg fun _ => by simp [chanAt_names]).trans hgain
  · exact (L.rg fun _ => by simp [chanAt_names]).trans hoff
  · exact (State.byte_ancResume ..).trans (s.byte_calTaken c a)
  · obtain ⟨h1, h2, h3, h4⟩ : a ≠ Anc.userGain c ∧ a ≠ Anc.userOffset c ∧ a ≠ Anc.calStatus c
      ∧ ¬ (s.chState c = 3 ∧ a = Anc.chStatus c) := by simpa only [not_or] using ha
    rcases hst with hst | hst
    · exact (L.rg fun _ e => h4 ⟨hst, e⟩).trans (hrg h1 h2 h3)
    · have hoffline : u.ancResume c = u := if_pos (.inr (by rw [State.chState_congr hstatus, hst]; decide))
      exact (congrArg (State.rg · a) hoffline).trans (hrg h1 h2 h3)
  · have hres := State.ancResume_command (s := u) (v := v) (by rw [hmode, hout]) ((State.chState_congr hstatus).trans h3)
      ((congrArg (bit · 11) hstatus).trans h11) ((congrArg ChanRun.cmd (s.chan_calTaken c)).trans hcmd)
    refine (congrArg (fun w => (State.chan w c).target) hres).trans ((State.target_ancTake ..).trans ?_)
    rw [State.uncalibrated, State.rn, State.rn, hgain, hoff]
    rfl

/-! ### All commands of the outputs and the calibration -/

/-- Settles O17: each output command, a missing command, the end of settling and each step of the calibration has its effect. -/
theorem analogOutputAndCalibrationCommandsComplete : Obligations.AnalogOutputAndCalibrationCommandsComplete :=
  ⟨fun h w rest s hd hm htx hi hsrc hroute hout hst hco hf =>
      analogOutCmd_completes h w rest s hd hm htx hi hsrc hroute hout hst hco hf,
    fun h c val s hc hm hsrc hout hst hf => ⟨_, rfl, outValueWrite_register_completes h c val s hc hm hsrc hout hst hf⟩,
    fun h c val s _ hm hsrc => outValueWrite_routed_completes h c val s hm hsrc,
    fun c s _ hd hout hst ht h11 => analogCmdMissing_completes c s hd hout hst ht h11,
    fun c s _ hd hst ht => settlingEnd_completes c s hd hst ht,
    fun h c s _ hm hst hreq => calOffline_completes h c s hm hst hreq,
    fun h c s _ hm hst hstep hrun => calPointLo_completes h c s hm hst hrun hstep,
    fun h c s _ hm hst hstep hrun => calPointHi_completes h c s hm hst hrun hstep,
    fun c hi s _ hd hst hrun hn => calPointTaken_completes c hi s hd hst hrun hn,
    fun h c rl ml rh mh gain off s _ hm hst hstep hlo hhi hne hg ho hg1 hg2 hspan =>
      calApply_completes h c rl ml rh mh gain off s hm hst hstep hlo hhi hne hg ho hg1 hg2 hspan,
    fun c ok s _ hd hstep => match ok with
      | true => calStoreDone_stored c s hd hstep
      | false => calStoreDone_failed c s hd hstep,
    fun h c s hc hm hst hstep => calOnline_completes h c s hc hm hst hstep,
    fun h c s _ hm hst hstep => calResetUser_completes h c s hm hst hstep,
    fun c s hc hd hst hstep ht => calTimeout_completes c s hc hd hst hstep ht⟩

end Sys2Proof.Machine
end

section
/-! SUPPORT. A channel that settles, an island that fails, and what the channel shows after a change of its run (R246, R250, R256,
R258). -/
namespace Sys2Proof.Machine

/-! ### The end of a change -/

section
variable (s : State) {c : Nat}

/-- What the comparators are no part of stays in the run. -/
theorem State.run_ancRefresh {β : Type} (g : ChanRun → β) (hg : ∀ x y, x.sansCmp = y.sansCmp → g x = g y)
    (ev : Option (Nat × Nat)) : g ((s.ancRefresh c ev).chan c) = g (s.chan c) :=
  ((Leaves.refl _ (fun d => g (d.chan c)) s).ancRefresh (W := ChanBit c shownBits) (fun _ _ => id) (blind_chan g hg)).deck
theorem State.leaves_ancRefresh (ev : Option (Nat × Nat)) : Leaves (ChanBit c shownBits) DeckSt.pwr s (s.ancRefresh c ev) :=
  (Leaves.refl _ _ s).ancRefresh (fun _ _ => id) (blind_pwr _ c)
/-- CH_STATUS but for the bits shown. -/
theorem State.fd_ancRefresh (ev : Option (Nat × Nat)) (hi lo : Nat) (h : ∀ n, lo ≤ n → n ≤ hi → n ∉ shownBits) :
    (s.ancRefresh c ev).fd (Anc.chStatus c) hi lo = s.fd (Anc.chStatus c) hi lo :=
  (s.leaves_ancRefresh ev).fd fun n h1 h2 => not_chanBit_status (h n h1 h2)
theorem State.bt_ancRefresh (ev : Option (Nat × Nat)) {n : Nat} (h : n ∉ shownBits) :
    (s.ancRefresh c ev).bt (Anc.chStatus c) n = s.bt (Anc.chStatus c) n := (s.leaves_ancRefresh ev).bt (not_chanBit_status h)
theorem State.rg_ancRefresh (ev : Option (Nat × Nat)) {o : Nat} (hc : c < 256) (ho : o < 0x400) (h1 : o ≠ 0x140) (h2 : o ≠ 0x164) :
    (s.ancRefresh c ev).rg (chanAt c o) = s.rg (chanAt c o) :=
  (s.leaves_ancRefresh ev).rg fun _ => not_chanBit_chanAt hc ho h1 h2

theorem State.leaves_chanShow : Leaves (ChanBit c shownBits) DeckSt.pwr s (s.chanShow c) := (Leaves.refl _ _ s).chanShow fun _ _ => id
theorem State.leaves_shown : Leaves (ChanBit c shownBits) DeckSt.pwr s ((s.chanShow c).ancImage c) := s.leaves_chanShow.ancImage
theorem State.byte_chanShow (a : Nat) : (s.chanShow c).byte a = s.byte a := by simp [State.chanShow]
theorem State.chan_chanShow : (s.chanShow c).chan c = s.chan c := State.chan_of_deck (s.deck_chanShow c) c
end

/-! ### Settling (R256, R258) -/

/-- A run without what settling begins anew, its comparators and what its output is driven to. -/
def ChanRun.sansSettle (x : ChanRun) : ChanRun :=
  { x.sansCmp.sansDrive with
    cmdT := 0
    falling := false
    passive := false
    zcUp := false
    zcDown := false
    zcPrev := none
    setT := 0 }
theorem Blind.of_settle_cmp {β : Type} {c : Nat} {v : DeckSt → β} (hv : Blind ChanRun.sansSettle c v) : Blind ChanRun.sansCmp c v := by
  refine fun d f hf => hv d f fun x => ?_
  have hx := congrArg ChanRun.sansSettle (hf x)
  exact hx
theorem Blind.of_settle_drive {β : Type} {c : Nat} {v : DeckSt → β} (hv : Blind ChanRun.sansSettle c v) :
    Blind ChanRun.sansDrive c v := by
  refine fun d f hf => hv d f fun x => ?_
  have hx := congrArg ChanRun.sansSettle (hf x)
  exact hx

/-- The bits of CH_STATUS that settling writes. -/
def settleBits : List Nat := [0, 1, 2, 11, 12, 16, 17] ++ shownBits
/-- The channel with its times begun anew and its output at rest. -/
def State.atRest (s : State) (c : Nat) : State :=
  ((s.modChan c (fun x => { x with
    cmdT := s.fieldNow (c / 16)
    setT := s.deck.ticks
    zcUp := false
    zcDown := false
    zcPrev := none })).sb (Anc.chStatus c) 11 false).ancPut c
/-- The state that settling begins with (R256, R258). -/
def State.settledState (s : State) (c : Nat) : Nat :=
  if s.ancMode c = 0 then 1 else if s.ancCalBad c || (s.chan c).islFault then 5 else 2

section
variable (s : State) (c : Nat)

theorem State.ancSettle_cases : s.ancSettle c =
    if s.ancMode c = 0 then ((s.atRest c).fw (Anc.chStatus c) 2 0 1).ancRefresh c none
    else if (s.atRest c).ancCalBad c then
      (if ancOutput (s.ancMode c) then
        ((s.atRest c).fw (Anc.chStatus c) 2 0 5).ancTake c (if s.ancMode c = 9 then ((s.atRest c).fw (Anc.chStatus c) 2 0 5).ancSafe c
          else ((s.atRest c).fw (Anc.chStatus c) 2 0 5).alarmLevel c) true
       else (s.atRest c).fw (Anc.chStatus c) 2 0 5).ancRefresh c none
    else ((s.atRest c).fw (Anc.chStatus c) 2 0 (if ((s.atRest c).chan c).islFault then 5 else 2)).ancRefresh c none := rfl

section
variable {β : Type} {W : Nat → Nat → Prop} {v : DeckSt → β} {s c} {t : State} (hW : ∀ a n, ChanBit c settleBits a n → W a n)
  (hv : Blind ChanRun.sansSettle c v)
include hW hv

theorem Leaves.atRest (L : Leaves W v s t) : Leaves W v s (t.atRest c) := by
  have hbit {n : Nat} (hn : n ∈ settleBits) : W (Anc.chStatus c) n := hW _ _ (chanBit_status hn)
  simp only [State.atRest, State.ancPut]
  refine Leaves.modRun (Leaves.fw (Leaves.sb (Leaves.sb (Leaves.modRun L hv ?_) ?_) ?_) ?_ ?_) hv ?_
  case refine_2 => exact hbit (by decide)
  case refine_3 => exact hbit (by decide)
  case refine_4 => exact fun n h1 h2 => hbit (by interval_cases n <;> decide)
  case refine_5 => decide
  all_goals exact fun _ => rfl
theorem Leaves.ancSettle (L : Leaves W v s t) : Leaves W v s (t.ancSettle c) := by
  have hstate {u : State} {k : Nat} (hu : Leaves W v s u) : Leaves W v s (u.fw (Anc.chStatus c) 2 0 k) :=
    hu.fw fun n _ hn => hW _ _ (chanBit_status (by interval_cases n <;> decide))
  have hend {u : State} (hu : Leaves W v s u) : Leaves W v s (u.ancRefresh c none) :=
    hu.ancRefresh (fun a n h => hW a n (h.mono (by decide))) hv.of_settle_cmp
  have hrest := L.atRest hW hv
  rw [State.ancSettle_cases]
  refine .ite (fun _ => hend (hstate hrest)) fun _ => .ite (fun _ => hend (.ite (fun _ => ?_) fun _ => hstate hrest))
    fun _ => hend (hstate hrest)
  exact (hstate hrest).ancTake (hW _ _ (chanBit_status (by decide))) hv.of_settle_drive
end

theorem State.leaves_ancSettle : Leaves (ChanBit c settleBits) DeckSt.pwr s (s.ancSettle c) :=
  (Leaves.refl _ _ s).ancSettle (fun _ _ => id) (blind_pwr _ c)
/-- The calibrations that failed, and a view of any run that settling does not touch. -/
theorem State.run_ancSettle {β : Type} (g : ChanRun → β) (hg : ∀ x y, x.sansSettle = y.sansSettle → g x = g y) (k : Nat) :
    g ((s.ancSettle c).chan k) = g (s.chan k) :=
  ((Leaves.refl _ (fun d => g (d.chan k)) s).ancSettle (W := ChanBit c settleBits) (fun _ _ => id) (blind_chan g hg)).deck
theorem State.ancBad_ancSettle : (s.ancSettle c).deck.ancBad = s.deck.ancBad :=
  ((Leaves.refl _ DeckSt.ancBad s).ancSettle (W := ChanBit c settleBits) (fun _ _ => id) fun _ _ _ => rfl).deck

theorem State.rg_atRest {o : Nat} (ho : o ≠ 0x140) : (s.atRest c).rg (chanAt c o) = s.rg (chanAt c o) := by
  simp [State.atRest, State.ancPut, chanAt_names, ho]
theorem State.ancCalBad_atRest : (s.atRest c).ancCalBad c = s.ancCalBad c := by
  have hd : (s.atRest c).deck.ancBad = s.deck.ancBad := rfl
  rw [State.ancCalBad, hd, State.ancMode_congr (s := s) (s.rg_atRest c (o := 0) (by decide)), State.ancCalBad]
theorem State.chan_atRest : ((s.atRest c).chan c).islFault = (s.chan c).islFault := by
  simp [State.atRest, State.ancPut]
/-- The state in which settling leaves the channel. -/
theorem State.chState_ancSettle : (s.ancSettle c).chState c = s.settledState c := by
  have hstate (u : State) (k : Nat) (hk : k < 8) : ((u.fw (Anc.chStatus c) 2 0 k).ancRefresh c none).chState c = k :=
    (State.fd_ancRefresh _ _ 2 0 (by decide)).trans ((State.fd_fw _ _ _ (by decide) (by decide)).trans (Nat.mod_eq_of_lt hk))
  have htake (u : State) (x : Nat) : (((u.fw (Anc.chStatus c) 2 0 5).ancTake c x true).ancRefresh c none).chState c = 5 := by
    refine (State.fd_ancRefresh _ _ 2 0 (by decide)).trans (Eq.trans ?_ (State.fd_fw u (Anc.chStatus c) 5 (hi := 2) (lo := 0)
      (by decide) (by decide)))
    exact ((Leaves.refl (fun a n => a = Anc.chStatus c ∧ n = 12) DeckSt.pwr _).ancTake ⟨rfl, rfl⟩ (blind_pwr _ c)).fd
      fun n _ hn => by omega
  rw [State.ancSettle_cases, State.ancCalBad_atRest, State.chan_atRest, State.settledState]
  split
  · exact hstate _ _ (by decide)
  · cases hb : s.ancCalBad c with
    | true =>
      rw [if_pos rfl]
      split
      · exact htake _ _
      · exact hstate _ _ (by decide)
    | false =>
      rw [if_neg Bool.false_ne_true, Bool.false_or]
      exact hstate _ _ (by split <;> decide)
end

/-! ### Conditions of an output, with a record (R246) -/

section
variable (s : State) (c : Nat) {n : Nat} (code : Nat) (d : List Nat)

/-- Bit `n` of CH_STATUS, counted and recorded as it begins. -/
def State.conditionBegun (n : Nat) : State :=
  ((((s.sb (Anc.chStatus c) n true).satF (Anc.chCounts c) 31 16 1).reportDeck code 6 c d).chanShow c).ancImage c
theorem State.conditionBegun_spec (hn : n < 32) (hs : n ∉ shownBits) : (s.conditionBegun c code d n).bt (Anc.chStatus c) n = true
    ∧ ∀ h, s.runs h = true → Reported (s.conditionBegun c code d n) h code 6 c := by
  refine ⟨((State.leaves_shown _).bt (not_chanBit_status hs)).trans ?_, fun h hr => (State.leaves_shown _).reported ?_⟩
  · rw [State.bt, State.rg_reportDeck, State.rg_satF, if_neg (by simp [chanAt_names])]
    exact State.bt_sb _ _ _ hn
  · exact State.reported_reportDeck _ _ _ _ _ ((State.runs_satF ..).trans ((State.runs_sb ..).trans hr))
theorem State.conditionEnded (hn : n < 32) (hs : n ∉ shownBits) :
    (((s.sb (Anc.chStatus c) n false).chanShow c).ancImage c).bt (Anc.chStatus c) n = false :=
  ((State.leaves_shown _).bt (not_chanBit_status hs)).trans (State.bt_sb _ _ _ hn)
end

end Sys2Proof.Machine
end

section
/-! Conversions, readbacks, the loop-powered island and the protections of an analogue channel (R230, R231, R240, R241, R246-R250). -/
namespace Sys2Proof.Machine

/-! ### Conversions (R230, R231) -/

section
variable (s : State) (c : Nat)

theorem State.ancOffline_idle (hst : s.chState c = 3) (hreq : (s.chan c).calReq = false) : s.ancOffline c = s := by
  simp [State.ancOffline, hreq, hst]
theorem State.ancCheck_well (hf : (s.chan c).islFault = false) : s.ancCheck c true = s := by
  simp [State.ancCheck, hf]
/-- The checks at a conversion of a channel that is ACTIVE, with no OFFLINE waiting and a sound island. -/
theorem State.ancCheck_active (hst : s.chState c = 3) (hreq : (s.chan c).calReq = false) (hf : (s.chan c).islFault = false) :
    (s.ancOffline c).ancCheck c true = s := by
  rw [s.ancOffline_idle c hst hreq, s.ancCheck_well c hf]
theorem State.calAdd_idle (v : Nat) (hst : s.chState c = 3) : s.calAdd c v = s := if_neg (by simp [hst])

/-- A value converted and shown. -/
def State.converted (v t : Nat) (ev : Option (Nat × Nat)) : State := (s.ancWrite c v t).ancRefresh c ev
theorem State.converted_spec (hc : c < 256) (v t : Nat) (ev : Option (Nat × Nat)) :
    (s.converted c v t ev).rg (Anc.value c)
        = BitVec.ofNat 32 (f32.add (f32.mul (s.rn (Anc.userGain c)) v) (s.rn (Anc.userOffset c)))
      ∧ (s.converted c v t ev).rg (Anc.valueT c) = BitVec.ofNat 32 t
      ∧ (s.converted c v t ev).rg (Anc.cjcTemp c) = s.rg (Anc.cjcTemp c) := by
  refine ⟨(State.rg_ancRefresh _ ev (o := 0x144) hc (by decide) (by decide) (by decide)).trans ?_,
    (State.rg_ancRefresh _ ev (o := 0x148) hc (by decide) (by decide) (by decide)).trans ?_,
    (State.rg_ancRefresh _ ev (o := 0x154) hc (by decide) (by decide) (by decide)).trans ?_⟩ <;> simp [State.ancWrite, chanAt_names]
end

/-- The reading rests on the channel's configuration alone. -/
theorem State.ancReading_congr {s u : State} {c : Nat} (hu : ∀ a, a ≠ Anc.cjcTemp c → u.rg a = s.rg a) (raw cjc : Word) :
    u.ancReading c raw cjc = s.ancReading c raw cjc := by
  have hcfg : u.rg (Anc.chCfg c) = s.rg (Anc.chCfg c) := hu _ (by simp [chanAt_names])
  have hfd (hi lo : Nat) : u.fd (Anc.chCfg c) hi lo = s.fd (Anc.chCfg c) hi lo := congrArg (bits · hi lo) hcfg
  have hbt : u.bt (Anc.chCfg c) 18 = s.bt (Anc.chCfg c) 18 := congrArg (bit · 18) hcfg
  have hlead : u.rn (Anc.leadOhm c) = s.rn (Anc.leadOhm c) := congrArg BitVec.toNat (hu _ (by simp [chanAt_names]))
  have hfix : u.rg (Anc.cjcFixed c) = s.rg (Anc.cjcFixed c) := hu _ (by simp [chanAt_names])
  rw [State.ancReading, State.ancMode_congr hcfg, hfd 6 4, hfd 9 8, hbt, hlead, hfix, State.ancReading]

/-- The channel as a window's end notes it: its conditions, and the cold junction of a thermocouple. -/
def State.windowNoted (s : State) (c : Nat) (lead cjc : Word) (ovr hold : Bool) (t : Nat) : State :=
  let w := s.modChan c (fun x => { x with
    convT := some t
    clamp := ovr && decide (4 ≤ s.ancMode c)
    openWire := hold || (decide (s.ancMode c = 4) && decide (s.fd (Anc.chCfg c) 9 8 = 1) && f32.lt 0x42480000 lead.toNat)
    cjcBad := f32.lt cjc.toNat 0xC2200000 || f32.lt 0x42FA0000 cjc.toNat })
  if s.ancMode c = 6 then w.wr (Anc.cjcTemp c) cjc else w
theorem State.rg_windowNoted_other (s : State) {c a : Nat} (lead cjc : Word) (ovr hold : Bool) (t : Nat) (ha : a ≠ Anc.cjcTemp c) :
    (s.windowNoted c lead cjc ovr hold t).rg a = s.rg a :=
  ite_keeps (State.rg · a) (fun _ => (State.rg_wr ..).trans ((if_neg ha).trans (State.rg_modChan ..))) fun _ => State.rg_modChan ..
theorem State.cjcTemp_windowNoted (s : State) {c : Nat} (lead cjc : Word) (ovr hold : Bool) (t : Nat) (hm : s.ancMode c = 6) :
    (s.windowNoted c lead cjc ovr hold t).rg (Anc.cjcTemp c) = cjc := by
  simp [State.windowNoted, hm]

section
variable (c : Nat) (s : State) (hd : s.deck.inReset = false) (hst : s.chState c = 3)
  (hreq : (s.chan c).calReq = false) (hf : (s.chan c).islFault = false) (raw isl lead cjc : Word) (ovr hold : Bool) (t0 : Nat)
  (hcv : s.ancConverts c false = true) (hdue : s.precDue c t0 = true)
include hd hst hreq hf hcv hdue

theorem execPrecisionConversion_due :
    let u := s.windowNoted c lead cjc ovr hold t0
    ∃ ev, exec (.precisionConversion c raw isl lead cjc ovr hold true t0) s = .next (u.converted c (u.ancReading c raw cjc) t0 ev) := by
  let u := s.windowNoted c lead cjc ovr hold t0
  have hust : u.chState c = 3 := (State.chState_congr (s.rg_windowNoted_other _ _ _ _ _ (by simp [chanAt_names]))).trans hst
  have hadd := u.calAdd_idle c (u.ancReading c raw cjc) hust
  refine ⟨some ((u.ancWrite c (u.ancReading c raw cjc) t0).rn (Anc.value c), isl.toNat), ?_⟩
  refine congrArg Host.Outcome.next ((s.onDeck_out_of_reset _ hd).trans ((if_pos ⟨hcv, hdue⟩).trans ?_))
  simp only [s.ancCheck_active c hst hreq hf]
  exact congrArg (fun z => (State.ancWrite z c (u.ancReading c raw cjc) t0).ancRefresh c
    (some ((State.ancWrite z c (u.ancReading c raw cjc) t0).rn (Anc.value c), isl.toNat))) hadd

theorem precisionConversion_completes (hc : c < 256) :
    Gives (.precisionConversion c raw isl lead cjc ovr hold true t0) s (fun t =>
      t.rg (Anc.value c) = BitVec.ofNat 32
        (f32.add (f32.mul (s.rn (Anc.userGain c)) (s.ancReading c raw cjc)) (s.rn (Anc.userOffset c)))
      ∧ t.rg (Anc.valueT c) = BitVec.ofNat 32 t0
      ∧ (s.ancMode c = 6 → t.rg (Anc.cjcTemp c) = cjc)) := by
  let u := s.windowNoted c lead cjc ovr hold t0
  obtain ⟨ev, hex⟩ := execPrecisionConversion_due c s hd hst hreq hf raw isl lead cjc ovr hold t0 hcv hdue
  have hother (a : Nat) (ha : a ≠ Anc.cjcTemp c) : u.rg a = s.rg a := s.rg_windowNoted_other _ _ _ _ _ ha
  have hrn {a : Nat} (ha : a ≠ Anc.cjcTemp c) : u.rn a = s.rn a := congrArg BitVec.toNat (hother a ha)
  obtain ⟨hv, ht, hj⟩ := u.converted_spec c hc (u.ancReading c raw cjc) t0 ev
  refine ⟨_, hex, hv.trans ?_, ht, fun hm => hj.trans (s.cjcTemp_windowNoted _ _ _ _ _ hm)⟩
  rw [State.ancReading_congr hother, hrn (a := Anc.userGain c) (by simp [chanAt_names]),
    hrn (a := Anc.userOffset c) (by simp [chanAt_names])]
end

/-- The crossing detector writes ZC_T and ZC_PERIOD alone. -/
theorem State.rg_zcHit_other (u : State) {k a : Nat} (up : Bool) (t : Nat) (ha : ∀ o ∈ [0x158, 0x15C, 0x160], a ≠ chanAt k o) :
    (u.zcHit k up t).rg a = u.rg a := by
  have h1 : a ≠ Anc.zcTLo k := ha 0x158 (by decide)
  have h2 : a ≠ Anc.zcTHi k := ha 0x15C (by decide)
  have h3 : a ≠ Anc.zcPeriod k := ha 0x160 (by decide)
  simp [State.zcHit, h1, h2, h3]
theorem State.rg_zcEval_other (u : State) {k a : Nat} (y t : Nat) (ha : ∀ o ∈ [0x158, 0x15C, 0x160], a ≠ chanAt k o) :
    (u.zcEval k y t).rg a = u.rg a := by
  refine ite_keeps (State.rg · a) (fun _ => State.rg_modChan ..) fun _ => (State.rg_modChan ..).trans ?_
  split
  · refine ite_keeps (State.rg · a) (fun _ => rfl) fun _ => ite_keeps (State.rg · a) (fun _ => u.rg_zcHit_other _ _ ha) fun _ => ?_
    exact ite_keeps (State.rg · a) (fun _ => u.rg_zcHit_other _ _ ha) fun _ => rfl
  · rfl
theorem State.rg_ancDeliver (u : State) (h : Half) (c t a : Nat) : (u.ancDeliver h c t).rg a = u.rg a :=
  ite_keeps (State.rg · a) (fun _ => rfl) fun _ => State.rg_modHalf ..

/-- A fast reading written, shown, judged for a crossing and delivered. -/
def State.fastShown (s : State) (c : Nat) (raw isl : Word) (t : Nat) : State :=
  let w := s.converted c raw.toNat t (some ((s.ancWrite c raw.toNat t).rn (Anc.value c), isl.toNat))
  ((w.zcEval c (w.rn (Anc.value c)) t).ancDeliver .a c t).ancDeliver .b c t
def State.fastRead (s : State) (c : Nat) (raw isl : Word) (t : Nat) : State := (s.calAdd c raw.toNat).fastShown c raw isl t

theorem fastConversion_completes (c : Nat) (raw isl : Word) (t0 : Nat) (s : State) (hc : c < 256) (hd : s.deck.inReset = false)
    (hst : s.chState c = 3) (hcv : s.ancConverts c true = true) (hreq : (s.chan c).calReq = false)
    (hf : (s.chan c).islFault = false) (hgrid : t0 % 5000 = 4 * s.fd (Anc.grid c) 10 0 % 5000) :
    Gives (.fastConversion c raw isl true t0) s (fun t =>
      t.rg (Anc.value c) = BitVec.ofNat 32
        (f32.add (f32.mul (s.rn (Anc.userGain c)) raw.toNat) (s.rn (Anc.userOffset c)))
      ∧ t.rg (Anc.valueT c) = BitVec.ofNat 32 t0) := by
  let w := s.converted c raw.toNat t0 (some ((s.ancWrite c raw.toNat t0).rn (Anc.value c), isl.toNat))
  have hex : exec (.fastConversion c raw isl true t0) s
      = .next (s.fastShown c raw isl t0) := by
    refine congrArg Host.Outcome.next ((s.onDeck_out_of_reset _ hd).trans ((if_pos ⟨hcv, hgrid⟩).trans ?_))
    exact (congrArg (State.fastRead · c raw isl t0) (s.ancCheck_active c hst hreq hf)).trans
      (congrArg (State.fastShown · c raw isl t0) (s.calAdd_idle c raw.toNat hst))
  have hkeep {a : Nat} (ha : ∀ o ∈ [0x158, 0x15C, 0x160], a ≠ chanAt c o) :
      (s.fastShown c raw isl t0).rg a = w.rg a :=
    (State.rg_ancDeliver ..).trans ((State.rg_ancDeliver ..).trans (w.rg_zcEval_other _ _ ha))
  obtain ⟨hv, ht, -⟩ := s.converted_spec c hc raw.toNat t0 (some ((s.ancWrite c raw.toNat t0).rn (Anc.value c), isl.toNat))
  exact ⟨_, hex, (hkeep (by simp [chanAt_names])).trans hv, (hkeep (by simp [chanAt_names])).trans ht⟩

/-! ### Outputs: readback, OPEN_LOOP and COMPLIANCE (R246) -/

/-- A readback with HEADROOM, of the current outputs. -/
def State.readBack (s : State) (c : Nat) (raw volt : Word) (t : Nat) : State :=
  let u := ((s.wr (Anc.readback c) raw).wr (Anc.value c) raw).wn (Anc.valueT c) t
  if s.ancMode c = 7 then u.wn (Anc.headroom c) (f32.sub 0x419C0000 volt.toNat)
  else if s.ancMode c = 8 then u.wn (Anc.headroom c) (f32.sub volt.toNat 0x41100000) else u

/-- A condition of the run, shown by the channel. -/
theorem gives_runShown {i : Instr} {s : State} {c : Nat} {f : ChanRun → ChanRun} {β : Type} (g : ChanRun → β) {b : β}
    (hex : exec i s = .next ((s.modChan c f).ancRefresh c none)) (hg : ∀ x y, x.sansCmp = y.sansCmp → g x = g y)
    (hb : g (f (s.chan c)) = b) : Gives i s (fun t => g (t.chan c) = b) :=
  ⟨_, hex, ((State.run_ancRefresh _ g hg none).trans (congrArg g (State.chan_modChan ..))).trans hb⟩

section
variable (c : Nat) (s : State) (hd : s.deck.inReset = false)
include hd

theorem outputReadback_completes (raw isl volt : Word) (t0 : Nat) (hc : c < 256) (hst : s.chState c = 3)
    (hout : ancOutput (s.ancMode c) = true) (hreq : (s.chan c).calReq = false) (hf : (s.chan c).islFault = false) :
    Gives (.outputReadback c raw isl volt true t0) s (fun t => t.rg (Anc.readback c) = raw ∧ t.rg (Anc.value c) = raw
      ∧ t.rg (Anc.valueT c) = BitVec.ofNat 32 t0) := by
  let u := s.readBack c raw volt t0
  have hex : exec (.outputReadback c raw isl volt true t0) s = .next (u.ancRefresh c (some (raw.toNat, isl.toNat))) := by
    refine congrArg Host.Outcome.next ((s.onDeck_out_of_reset _ hd).trans ((if_pos ⟨by rw [hst]; decide, hout⟩).trans ?_))
    rw [s.ancCheck_active c hst hreq hf]
    rfl
  have hrg {a : Nat} (ha : a ≠ Anc.headroom c) : u.rg a = (((s.wr (Anc.readback c) raw).wr (Anc.value c) raw).wn (Anc.valueT c) t0).rg a := by
    refine ite_keeps (State.rg · a) (fun _ => ?_) fun _ => ite_keeps (State.rg · a) (fun _ => ?_) fun _ => rfl
    all_goals exact (State.rg_wn ..).trans (if_neg ha)
  refine ⟨_, hex, ?_, ?_, ?_⟩
  · exact (State.rg_ancRefresh _ _ (o := 0x14C) hc (by decide) (by decide) (by decide)).trans ((hrg (by simp [chanAt_names])).trans
      (by simp [chanAt_names]))
  · exact (State.rg_ancRefresh _ _ (o := 0x144) hc (by decide) (by decide) (by decide)).trans ((hrg (by simp [chanAt_names])).trans
      (by simp [chanAt_names]))
  · exact (State.rg_ancRefresh _ _ (o := 0x148) hc (by decide) (by decide) (by decide)).trans ((hrg (by simp [chanAt_names])).trans
      (by simp [chanAt_names]))

section
variable (hm : s.ancMode c = 7 ∨ s.ancMode c = 8) (hst : s.chState c ≠ 0)
include hm hst

theorem openLoop_begins (hopen : s.ancOpen c = true) (h9 : s.bt (Anc.chStatus c) 9 = false) :
    Gives (.openLoop c true) s (fun t => t.bt (Anc.chStatus c) 9 = true ∧ ∀ h, s.runs h = true → Reported t h 0x0814 6 c) :=
  ⟨s.conditionBegun c 0x0814 _ 9, congrArg Host.Outcome.next ((s.onDeck_out_of_reset _ hd).trans ((if_pos ⟨hm, hst⟩).trans
    (if_pos (by simp [hopen, h9])))), s.conditionBegun_spec c _ _ (by decide) (by decide)⟩
theorem openLoop_ends (hopen : s.ancOpen c = false) (h18 : s.bt (Anc.chStatus c) 18 = false) :
    Gives (.openLoop c false) s (fun t => t.bt (Anc.chStatus c) 9 = false) :=
  ⟨_, congrArg Host.Outcome.next ((s.onDeck_out_of_reset _ hd).trans ((if_pos ⟨hm, hst⟩).trans ((if_neg (by simp)).trans
    (if_pos (by simp [hopen, h18]))))), s.conditionEnded c (by decide) (by decide)⟩
theorem compliance_begins (hlow : f32.lt (s.rn (Anc.headroom c)) 0x3FC00000 = true) (h10 : s.bt (Anc.chStatus c) 10 = false) :
    Gives (.compliance c true) s (fun t => t.bt (Anc.chStatus c) 10 = true ∧ ∀ h, s.runs h = true → Reported t h 0x0815 6 c) :=
  ⟨s.conditionBegun c 0x0815 _ 10, congrArg Host.Outcome.next ((s.onDeck_out_of_reset _ hd).trans ((if_pos ⟨hm, hst⟩).trans
    (if_pos (by simp [hlow, h10])))), s.conditionBegun_spec c _ _ (by decide) (by decide)⟩
theorem compliance_ends (hlow : f32.lt (s.rn (Anc.headroom c)) 0x3FC00000 = false) :
    Gives (.compliance c false) s (fun t => t.bt (Anc.chStatus c) 10 = false) :=
  ⟨_, congrArg Host.Outcome.next ((s.onDeck_out_of_reset _ hd).trans ((if_pos ⟨hm, hst⟩).trans ((if_neg (by simp)).trans
    (if_pos (by simp [hlow]))))), s.conditionEnded c (by decide) (by decide)⟩
end

/-! ### Mis-wiring (R240, R241) -/

theorem overload_shunt (hst : s.chState c ≠ 0) (hm : s.ancMode c = 2 ∨ s.ancMode c = 3) :
    Gives (.overload c 0 true) s (fun t => (t.chan c).shunt = true) :=
  gives_runShown (·.shunt) (congrArg Host.Outcome.next ((s.onDeck_out_of_reset _ hd).trans ((if_neg hst).trans (if_pos ⟨rfl, hm, rfl⟩))))
    (fun _ _ => congrArg ChanRun.shunt) rfl
theorem overload_limit {kind : Nat} (on : Bool) (hst : s.chState c ≠ 0) (hk : kind ≠ 0)
    (hm : (kind = 1 ∧ s.ancMode c = 2) ∨ (kind = 2 ∧ s.ancMode c = 9)) :
    Gives (.overload c kind on) s (fun t => (t.chan c).exLimit = on) :=
  gives_runShown (·.exLimit) (congrArg Host.Outcome.next ((s.onDeck_out_of_reset _ hd).trans ((if_neg hst).trans
    ((if_neg fun hno => hk hno.1).trans (if_pos hm))))) (fun _ _ => congrArg ChanRun.exLimit) rfl
theorem shuntRetest_recloses (current : Word) (hsh : (s.chan c).shunt = true) (hcur : f32.le current.toNat 0x41C80000 = true)
    (ht : (s.chan c).shuntT + 250000000 ≤ s.deck.ticks) : Gives (.shuntRetest c current) s (fun t => (t.chan c).shunt = false) :=
  gives_runShown (·.shunt) (congrArg Host.Outcome.next ((s.onDeck_out_of_reset _ hd).trans ((if_neg (by simp [hsh, ht])).trans (if_pos hcur))))
    (fun _ _ => congrArg ChanRun.shunt) rfl
theorem tcOpenWireTest_completes (ohm : Word) (hm : s.ancMode c = 6) (hst : s.chState c ≠ 0) (hdue : s.tcDue c = true) :
    Gives (.tcOpenWireTest c ohm) s (fun t => (t.chan c).openTc = f32.lt 0x461C4000 ohm.toNat) :=
  gives_runShown (·.openTc) (congrArg Host.Outcome.next ((s.onDeck_out_of_reset _ hd).trans (if_pos ⟨hm, hst, hdue⟩)))
    (fun _ _ => congrArg ChanRun.openTc) rfl
end

/-! ### The loop-powered island (R248-R250) -/

theorem stepOf_lt (i : Nat) : stepOf i < 4 := by
  rw [stepOf]
  split_ifs <;> decide

section
variable (s : State) (c : Nat)

/-- The clock step with which an update begins (R249). -/
def State.stepNow : Nat :=
  if (s.chan c).falling = false ∧ s.fd (Anc.chStatus c) 17 16 < stepOf (s.chan c).applied then stepOf (s.chan c).applied
  else s.fd (Anc.chStatus c) 17 16
theorem State.stepNow_lt : s.stepNow c < 4 := by
  rw [State.stepNow]
  split
  · exact stepOf_lt _
  · exact Nat.mod_lt _ (by decide)
/-- The step is too high for the target. -/
def State.stepLow : Bool := decide (0 < s.stepNow c) && f32.lt (s.chan c).target (f32.sub (stepFloor (s.stepNow c)) 0x3E800000)
/-- The island after its update. -/
def State.stepped : State :=
  if s.stepLow c then (s.fw (Anc.chStatus c) 17 16 (stepOf (s.chan c).target)).modChan c (fun x => { x with falling := true })
  else (s.fw (Anc.chStatus c) 17 16 (s.stepNow c)).modChan c (fun x => { x with applied := x.target, falling := false })
/-- The clock step that a write leaves, whatever the run becomes and the channel shows. -/
theorem State.step_shown {k : Nat} (f : ChanRun → ChanRun) (hk : k < 4) :
    (((s.fw (Anc.chStatus c) 17 16 k).modChan c f).chanShow c).fd (Anc.chStatus c) 17 16 = k := by
  rw [(State.leaves_chanShow _).fd fun n h1 h2 => not_chanBit_status (by interval_cases n <;> decide), State.fd, State.rg_modChan]
  exact (State.fd_fw _ _ _ (by decide) (by decide)).trans (Nat.mod_eq_of_lt hk)

theorem passiveIslandUpdate_completes (hd : s.deck.inReset = false) (hm : s.ancMode c = 8)
    (hst : s.chState c ≠ 0) (h18 : s.bt (Anc.chStatus c) 18 = false) :
    Gives (.passiveIslandUpdate c) s (fun t => SameMem s t ∧ (t.chan c).target = (s.chan c).target
      ∧ if 0 < s.stepNow c ∧ f32.lt (s.chan c).target (f32.sub (stepFloor (s.stepNow c)) 0x3E800000) = true then
          t.fd (Anc.chStatus c) 17 16 = stepOf (s.chan c).target ∧ (t.chan c).applied = (s.chan c).applied
          ∧ (t.chan c).falling = true
        else t.fd (Anc.chStatus c) 17 16 = s.stepNow c ∧ (t.chan c).applied = (s.chan c).target
          ∧ (t.chan c).falling = false) := by
  have hex : exec (.passiveIslandUpdate c) s = .next ((s.stepped c).chanShow c) :=
    congrArg Host.Outcome.next ((s.onDeck_out_of_reset _ hd).trans (if_pos ⟨hm, hst, h18⟩))
  have hlow : s.stepLow c = true ↔ 0 < s.stepNow c ∧ f32.lt (s.chan c).target (f32.sub (stepFloor (s.stepNow c)) 0x3E800000) = true := by
    simp only [State.stepLow, Bool.and_eq_true, decide_eq_true_eq]
  refine ⟨_, hex, ?_⟩
  simp only [← hlow, State.stepped]
  split
  · refine ⟨fun a => ?_, ?_, State.step_shown _ _ _ (stepOf_lt _), ?_, ?_⟩
    · rw [State.byte_chanShow, State.byte_modChan, State.byte_fw]
    all_goals simp [State.chan_chanShow]
  · refine ⟨fun a => ?_, ?_, State.step_shown _ _ _ (State.stepNow_lt ..), ?_, ?_⟩
    · rw [State.byte_chanShow, State.byte_modChan, State.byte_fw]
    all_goals simp [State.chan_chanShow]

theorem islandFrameLoss_completes (hd : s.deck.inReset = false) (hm : s.ancMode c = 8) (hst : s.chState c ≠ 0) :
    Gives (.islandFrameLoss c) s (fun t => (t.chan c).frameLost = true ∧ t.bt (Anc.chStatus c) 12 = true ∧ SameMem s t
      ∧ (t.chan c).target = (if (s.chan c).islDir then 0x41AC0000 else 0x40600000)) := by
  refine ⟨_, congrArg Host.Outcome.next ((s.onDeck_out_of_reset _ hd).trans (if_pos ⟨hm, hst⟩)), ?_, ?_, fun a => ?_, ?_⟩
  · rw [State.chan_chanShow, State.chan_sb, State.chan_modChan]
  · exact ((State.leaves_chanShow _).bt (not_chanBit_status (by decide))).trans (State.bt_sb _ _ _ (by decide))
  · exact (State.byte_chanShow ..).trans ((State.byte_sb ..).trans (State.byte_modChan ..))
  · rw [State.chan_chanShow, State.chan_sb, State.chan_modChan]

/-! #### A lost loop (R250) -/

/-- The channel with UNPOWERED and OPEN_LOOP, counted and recorded as OPEN_LOOP begins. -/
def State.unpowered : State :=
  let u := (s.sb (Anc.chStatus c) 18 true).sb (Anc.chStatus c) 9 true
  if s.bt (Anc.chStatus c) 9 then u
  else (u.satF (Anc.chCounts c) 31 16 1).reportDeck 0x0814 6 c [(u.chan c).applied, u.rn (Anc.readback c), 1]
theorem State.rg_unpowered : (s.unpowered c).rg (Anc.chStatus c)
    = ((s.sb (Anc.chStatus c) 18 true).sb (Anc.chStatus c) 9 true).rg (Anc.chStatus c) := by
  refine ite_keeps (State.rg · _) (fun _ => rfl) fun _ => (State.rg_reportDeck ..).trans ?_
  rw [State.rg_satF, if_neg (by simp [chanAt_names])]
/-- A faulty island: FAULT but for an OFFLINE channel. -/
theorem State.ancIslFault_spec : let t := s.ancIslFault c
    t.chState c = (if s.chState c = 4 then 4 else 5) ∧ (t.chan c).islFault = true
      ∧ ∀ n, 2 < n → n ∉ shownBits → t.bt (Anc.chStatus c) n = s.bt (Anc.chStatus c) n := by
  let u := s.modChan c (fun x => { x with islFault := true })
  have hu : u.rg (Anc.chStatus c) = s.rg (Anc.chStatus c) := State.rg_modChan ..
  have hst : u.chState c = s.chState c := State.chState_congr hu
  refine ⟨?_, ?_, fun n hn hs => ?_⟩
  · refine (State.fd_ancRefresh _ _ 2 0 (by decide)).trans ?_
    rw [hst]
    split
    · exact hst.trans ‹_›
    · exact State.fd_fw _ _ _ (by decide) (by decide)
  · refine (State.run_ancRefresh _ (·.islFault) (fun _ _ => congrArg ChanRun.islFault) none).trans ?_
    split <;> simp
  · refine (State.bt_ancRefresh _ _ hs).trans ?_
    refine ite_keeps (State.bt · (Anc.chStatus c) n) (fun _ => congrArg (bit · n) hu) fun _ => ?_
    exact (State.bt_fw_beside _ _ _ _ (by decide) (.inr hn)).trans (congrArg (bit · n) hu)

theorem loopUnpowered_completes (hd : s.deck.inReset = false) (hm : s.ancMode c = 8) (hst : s.chState c ≠ 0)
    (h18 : s.bt (Anc.chStatus c) 18 = false) :
    Gives (.loopUnpowered c) s (fun t => t.bt (Anc.chStatus c) 18 = true ∧ t.bt (Anc.chStatus c) 9 = true
      ∧ t.chState c = (if s.chState c = 4 then 4 else 5) ∧ (t.chan c).islFault = true) := by
  have hex : exec (.loopUnpowered c) s = .next ((s.unpowered c).ancIslFault c) :=
    congrArg Host.Outcome.next ((s.onDeck_out_of_reset _ hd).trans (if_pos ⟨hm, hst, h18⟩))
  obtain ⟨hstate, hfault, hbits⟩ := (s.unpowered c).ancIslFault_spec c
  have hold : (s.unpowered c).chState c = s.chState c := by
    rw [State.chState, State.fd, s.rg_unpowered c]
    exact (State.fd_sb_beside (s.sb (Anc.chStatus c) 18 true) _ _ 9 _ (by decide) (by decide)).trans
      (State.fd_sb_beside s _ _ 18 _ (by decide) (by decide))
  rw [hold] at hstate
  refine ⟨_, hex, (hbits 18 (by decide) (by decide)).trans ?_, (hbits 9 (by decide) (by decide)).trans ?_, hstate, hfault⟩
  · rw [State.bt, s.rg_unpowered c]
    exact (State.bt_fw_beside _ _ _ _ le_rfl (by decide)).trans (State.bt_sb _ _ _ (by decide))
  · rw [State.bt, s.rg_unpowered c]
    exact State.bt_sb _ _ _ (by decide)

/-! #### Loop power (R250, R256) -/

theorem State.ancTake_passive (hm : s.ancMode c = 8) (x : Nat) (al : Bool) : s.ancTake c x al
    = (s.sb (Anc.chStatus c) 12 al).modChan c (fun r => { r with target := x, frameLost := false }) := by
  have hm' : (s.sb (Anc.chStatus c) 12 al).ancMode c = 8 := (State.ancMode_congr (by simp [chanAt_names])).trans hm
  simp only [State.ancTake, hm', if_true]
/-- A passive island at rest: its lowest clock step, and 3.5 mA. -/
theorem State.atRest_passive (hm : s.ancMode c = 8) :
    (s.atRest c).fd (Anc.chStatus c) 17 16 = 0 ∧ ((s.atRest c).chan c).applied = 0x40600000 := by
  have hrest (u : State) (hu : u.rg (Anc.chCfg c) = s.rg (Anc.chCfg c)) : u.ancRest c = 0x40600000 :=
    if_pos ((State.ancMode_congr hu).trans hm)
  refine ⟨?_, ?_⟩
  · rw [State.atRest, State.ancPut, State.fd, State.rg_modChan]
    exact State.fd_fw _ _ _ (by decide) (by decide)
  · rw [State.atRest, State.ancPut, State.chan_modChan]
    exact hrest _ (by simp [chanAt_names])
/-- The end of settling leaves a passive island at rest. -/
theorem State.ancSettle_passive (hm : s.ancMode c = 8) :
    Leaves (ChanBit c ([0, 1, 2, 12] ++ shownBits)) (fun d => (d.chan c).applied) (s.atRest c) (s.ancSettle c) := by
  let W := ChanBit c ([0, 1, 2, 12] ++ shownBits)
  have hstate {k : Nat} : Leaves W (fun d => (d.chan c).applied) (s.atRest c) ((s.atRest c).fw (Anc.chStatus c) 2 0 k) :=
    (Leaves.refl ..).fw fun n _ hn => chanBit_status (by interval_cases n <;> decide)
  have hend {u : State} (hu : Leaves W (fun d => (d.chan c).applied) (s.atRest c) u) :
      Leaves W (fun d => (d.chan c).applied) (s.atRest c) (u.ancRefresh c none) :=
    hu.ancRefresh (ChanBit.mono (by decide)) (blind_chan (·.applied) fun _ _ => congrArg ChanRun.applied)
  have hmode {k : Nat} : ((s.atRest c).fw (Anc.chStatus c) 2 0 k).ancMode c = 8 :=
    (State.ancMode_congr ((State.rg_fw ..).trans ((if_neg (by simp [chanAt_names])).trans (s.rg_atRest c (o := 0) (by decide))))).trans hm
  rw [State.ancSettle_cases]
  refine .ite (fun _ => hend hstate) fun _ => .ite (fun _ => hend (.ite (fun _ => ?_) fun _ => hstate)) fun _ => hend hstate
  rw [State.ancTake_passive _ c hmode]
  exact (hstate.sb (chanBit_status (by decide))).modChan fun d => by simp [DeckSt.chan_modChan]

/-- The channel heard again. -/
def State.heard : State := (s.sb (Anc.chStatus c) 18 false).modChan c (fun x => { x with islFault := false })
theorem islandLoopPowerUp_completes (hd : s.deck.inReset = false) (hm : s.ancMode c = 8) (hst : s.chState c ≠ 0)
    (h18 : s.bt (Anc.chStatus c) 18 = true) :
    Gives (.islandLoopPowerUp c) s (fun t => t.bt (Anc.chStatus c) 18 = false ∧ t.fd (Anc.chStatus c) 17 16 = 0
      ∧ (t.chan c).applied = 0x40600000 ∧ (t.chan c).target = (if (s.chan c).islDir then 0x41AC0000 else 0x40600000)
      ∧ t.bt (Anc.chStatus c) 12 = true ∧ (t.chan c).islFault = false ∧ (s.ancCalBad c = false → t.chState c = 2)) := by
  let u := (s.heard c).ancSettle c
  let w := (u.modChan c (fun x => { x with target := if x.islDir then 0x41AC0000 else 0x40600000 })).sb (Anc.chStatus c) 12 true
  have hex : exec (.islandLoopPowerUp c) s = .next ((w.chanShow c).ancImage c) :=
    congrArg Host.Outcome.next ((s.onDeck_out_of_reset _ hd).trans (if_pos ⟨hm, hst, h18⟩))
  have hmode : (s.heard c).ancMode c = 8 :=
    (State.ancMode_congr (by simp [State.heard, chanAt_names])).trans hm
  have hchan : ((w.chanShow c).ancImage c).chan c = { u.chan c with target := if (u.chan c).islDir then 0x41AC0000 else 0x40600000 } := by
    simp [State.chan_shown, w]
  obtain ⟨hfd, happ⟩ := (s.heard c).atRest_passive c hmode
  have L := (s.heard c).ancSettle_passive c hmode
  have hfault : (u.chan c).islFault = false :=
    ((s.heard c).run_ancSettle c (·.islFault) (fun _ _ => congrArg ChanRun.islFault) c).trans (by simp [State.heard])
  have hdir : (u.chan c).islDir = (s.chan c).islDir :=
    ((s.heard c).run_ancSettle c (·.islDir) (fun _ _ => congrArg ChanRun.islDir) c).trans (by simp [State.heard])
  have M : Leaves (ChanBit c (12 :: shownBits)) (fun _ => ()) u ((w.chanShow c).ancImage c) :=
    ((((Leaves.refl _ _ u).modChan fun _ => rfl).sb (chanBit_status (by decide))).chanShow (ChanBit.mono (by decide))).ancImage
  refine ⟨_, hex, ?_, ?_, ?_, ?_, ?_, ?_, fun hcal => ?_⟩
  · refine (M.bt (not_chanBit_status (by decide))).trans ((State.leaves_ancSettle ..).bt (not_chanBit_status (by decide)) |>.trans ?_)
    rw [State.heard, State.bt, State.rg_modChan]
    exact State.bt_sb _ _ _ (by decide)
  · refine (M.fd fun n h1 h2 => not_chanBit_status (by interval_cases n <;> decide)).trans ?_
    exact (L.fd fun n h1 h2 => not_chanBit_status (by interval_cases n <;> decide)).trans hfd
  · rw [hchan]
    exact L.deck.trans happ
  · rw [hchan, hdir]
  · exact ((State.leaves_shown _).bt (not_chanBit_status (by decide))).trans (State.bt_sb _ _ _ (by decide))
  · rw [hchan]
    exact hfault
  · have hcal' : (s.heard c).ancCalBad c = false := by
      rw [State.ancCalBad, hmode]
      rw [State.ancCalBad, hm] at hcal
      exact hcal
    have hset : (s.heard c).settledState c = 2 := by
      rw [State.settledState, hmode, hcal']
      simp [State.heard]
    refine (M.fd fun n _ hn => not_chanBit_status (by interval_cases n <;> decide)).trans ?_
    exact ((s.heard c).chState_ancSettle c).trans hset
end

/-! ### All conversions and protections -/

/-- Settles O18: the conversions, the readback, the passive island's commands and the protections each have their effect. -/
theorem analogConversionAndProtectionCommandsComplete : Obligations.AnalogConversionAndProtectionCommandsComplete :=
  ⟨fun c raw isl lead cjc ovr hold t0 s hc hd hst hcv hreq hf hdue =>
      precisionConversion_completes c s hd hst hreq hf raw isl lead cjc ovr hold t0 hcv hdue hc,
    fun c raw isl t0 s hc hd hst hcv hreq hf hgrid => fastConversion_completes c raw isl t0 s hc hd hst hcv hreq hf hgrid,
    fun c raw isl volt t0 s hc hd hst hout hreq hf => outputReadback_completes c s hd raw isl volt t0 hc hst hout hreq hf,
    fun c s _ hd hm hst => ⟨openLoop_begins c s hd hm hst, openLoop_ends c s hd hm hst⟩,
    fun c s _ hd hm hst => ⟨compliance_begins c s hd hm hst, compliance_ends c s hd hm hst⟩,
    fun c step s _ hd hm hst h18 hstep => hstep ▸ passiveIslandUpdate_completes s c hd hm hst h18,
    fun c s _ hd hm hst => islandFrameLoss_completes s c hd hm hst,
    fun c s _ hd hm hst h18 => loopUnpowered_completes s c hd hm hst h18,
    fun c s _ hd hm hst h18 => islandLoopPowerUp_completes s c hd hm hst h18,
    fun c on s _ hd hst => ⟨overload_shunt c s hd hst, fun hm => overload_limit c s hd on hst (by decide) (.inl ⟨rfl, hm⟩),
      fun hm => overload_limit c s hd on hst (by decide) (.inr ⟨rfl, hm⟩)⟩,
    fun c current s _ hd hsh hcur ht => shuntRetest_recloses c s hd current hsh hcur ht,
    fun c ohm s _ hd hm hst hdue => tcOpenWireTest_completes c s hd ohm hm hst hdue⟩

end Sys2Proof.Machine
end

section
/-! SUPPORT. What the exchange of a field card leaves: registers, bytes and reports beside the card's own (R257, R258, R268, R285,
R286, R460). -/
namespace Sys2Proof.Machine

section
variable {β : Type} {W : Nat → Nat → Prop} {v : DeckSt → β} {s t : State}

/-! ### The channels of an analogue card (R253, R257, R261) -/

/-- The registers of channel `c` that its absence writes beside those of its shared operations. -/
def AbsentReg (c a : Nat) : Prop := a = Anc.calStatus c ∨ a = Anc.userGain c ∨ a = Anc.userOffset c
/-- The bits that the absence of channel `c` writes. -/
def AbsentBit (c a n : Nat) : Prop := ChanBit c (List.range 32) a n ∨ AbsentReg c a

section
variable {c : Nat} (hW : ∀ a n, AbsentBit c a n → W a n) (hv : ∀ d f, v (DeckSt.modChan d c f) = v d)
include hW hv

theorem Leaves.calAbort (L : Leaves W v s t) {cause : Nat} : Leaves W v s (t.calAbort c cause) := by
  have hcal {u : State} {hi lo k : Nat} (hlo : lo ≤ hi) (hu : Leaves W v s u) : Leaves W v s (u.fw (Anc.calStatus c) hi lo k) :=
    hu.fw (fun n _ _ => hW _ n (.inr (.inl rfl))) hlo
  exact .ite (fun _ => L) fun _ => ((hcal (by decide) (hcal (by decide) L)).modChan fun d => hv d _).reportDeck
theorem Leaves.ancNewMode (L : Leaves W v s t) {m : Nat} : Leaves W v s (t.ancNewMode c m) := by
  have hbit {u : State} {n : Nat} {b : Bool} (hn : n < 32) (hu : Leaves W v s u) : Leaves W v s (u.sb (Anc.chStatus c) n b) :=
    hu.sb (hW _ n (.inl (chanBit_status (List.mem_range.2 hn))))
  refine Leaves.foldl (.ite (fun _ => ?_) fun _ => hbit (by decide) (hbit (by decide) ?_))
    fun u n hn hu => hbit (by fin_cases hn <;> decide) hu
  all_goals exact L.modChan fun d => hv d _
end

/-- A channel whose card is gone, before it is shown. -/
def State.absentState (s : State) (c : Nat) : State := ((s.calAbort c 3).ancNewMode c 0).fw (Anc.chStatus c) 2 0 0

section
variable {c : Nat} (hW : ∀ a n, ChanBit c shownBits a n ∨ AbsentReg c a → W a n) (hv : ∀ d f, v (DeckSt.modChan d c f) = v d)
include hW hv
theorem Leaves.ancAbsent_shown (L : Leaves W v s (t.absentState c)) : Leaves W v s (t.ancAbsent c) := by
  have hshown (a n : Nat) (h : ChanBit c shownBits a n) : W a n := hW a n (.inl h)
  have hreg {u : State} {a k : Nat} (ha : AbsentReg c a) (hu : Leaves W v s u) : Leaves W v s (u.wn a k) :=
    hu.wn fun n => hW a n (.inr ha)
  have hrun {u : State} {f : ChanRun → ChanRun} (hu : Leaves W v s u) : Leaves W v s (u.modChan c f) := hu.modChan fun d => hv d f
  exact ((((hrun ((hreg (.inr (.inr rfl)) (hreg (.inr (.inl rfl)) (hrun L))).setQuality hshown 9)).cmpShow hshown).chanShow
    hshown).ancImage)
end
theorem Leaves.ancAbsent {c : Nat} (hW : ∀ a n, AbsentBit c a n → W a n) (hv : ∀ d f, v (DeckSt.modChan d c f) = v d)
    (L : Leaves W v s t) : Leaves W v s (t.ancAbsent c) := by
  refine Leaves.ancAbsent_shown (fun a n h => hW a n (h.imp_left (ChanBit.mono (by decide) a n))) hv ?_
  exact ((L.calAbort hW hv).ancNewMode hW hv).fw fun n _ hn => hW _ n (.inl (chanBit_status (List.mem_range.2 (by omega))))

/-! ### The inputs of a card (R268, R269, R278) -/

/-- Input `i` in the field deck. -/
def DeckSt.din (d : DeckSt) (i : Nat) : DinRun := Map.get (fun _ => {}) d.dins i
/-- The field deck with input `i` changed. -/
def DeckSt.modDin (d : DeckSt) (i : Nat) (f : DinRun → DinRun) : DeckSt :=
  { d with dins := Map.set (fun _ => {}) d.dins i (f (d.din i)) }
theorem DeckSt.din_modDin (d : DeckSt) (i k : Nat) (f : DinRun → DinRun) :
    (d.modDin i f).din k = if k = i then f (d.din i) else d.din k := Map.get_set ..

theorem Leaves.modDin (L : Leaves W v s t) {i : Nat} {f : DinRun → DinRun} (hv : v (DeckSt.modDin t.deck i f) = v t.deck) :
    Leaves W v s (t.modDin i f) := L.modDeck rfl hv

/-- The registers that showing input `i` writes. -/
def InputReg (i a : Nat) : Prop := a = Din.diStatus i ∨ a = Din.diCounts i ∨ a = Din.diStateMap 0 + 4 * (i / 32)
  ∨ a = Din.diValidMap 0 + 4 * (i / 32) ∨ a = Din.diCondMap 0 + 4 * (i / 32)
/-- Input `i` begun anew. -/
def State.dinReset (s : State) (i : Nat) : State :=
  ([0, 5, 6, 7, 8, 10].foldl (fun (u : State) (b : Nat) => u.sb (Din.diStatus i) b false)
    (s.modDin i (fun x => { clearReq := x.clearReq }))).diShow i
theorem State.dinClear_eq (s : State) (n : Nat) :
    s.dinClear n = (List.range 32).foldl (fun t k => t.dinReset (32 * n + k)) s := rfl

section
variable {i : Nat} (hW : ∀ a n, InputReg i a → W a n)
include hW
theorem Leaves.diShow (L : Leaves W v s t) (hv : ∀ d f, (∀ x : DinRun, (f x).resolved = x.resolved) → v (DeckSt.modDin d i f) = v d) :
    Leaves W v s (t.diShow i) := by
  have hst {u : State} {hi lo k : Nat} (hlo : lo ≤ hi) (hu : Leaves W v s u) : Leaves W v s (u.fw (Din.diStatus i) hi lo k) :=
    hu.fw (fun n _ _ => hW _ n (.inl rfl)) hlo
  have hmap {u : State} {a : Nat} {b : Bool} (ha : InputReg i (a + 4 * (i / 32))) (hu : Leaves W v s u) :
      Leaves W v s (u.setMapBit a i b) := hu.setMapBit (hW _ _ ha)
  have hcount {p : Prop} [Decidable p] : Leaves W v s (if p then t.satF (Din.diCounts i) 31 16 1 else t) :=
    .ite (fun _ => L.satF fun n _ _ => hW _ n (.inr (.inl rfl))) fun _ => L
  have hreport {u : State} {p : Prop} [Decidable p] (hu : Leaves W v s u) :
      Leaves W v s (if p then u.reportDeck 0x0913 8 i [] else u) := .ite (fun _ => hu.reportDeck) fun _ => hu
  simp only [State.diShow]
  refine hmap (.inr (.inr (.inr (.inr rfl)))) (hmap (.inr (.inr (.inr (.inl rfl)))) (hmap (.inr (.inr (.inl rfl))) ?_))
  refine hst le_rfl (hst le_rfl (hst (by decide) (.ite (fun _ => hreport hcount) fun _ => ?_)))
  exact (hreport hcount).modDin (hv _ _ fun _ => rfl)
theorem Leaves.dinReset (L : Leaves W v s t) (hv : ∀ d f, v (DeckSt.modDin d i f) = v d) : Leaves W v s (t.dinReset i) :=
  ((L.modDin (hv _ _)).foldl fun _ n _ hu => hu.sb (hW _ n (.inl rfl))).diShow hW fun d f _ => hv d f
end
theorem Leaves.dinImage (L : Leaves W v s t) {n : Nat} : Leaves W v s (t.dinImage n) :=
  L.image.image.image.foldl fun _ _ _ hu => hu.image
/-- An input begun anew is not resolved, whatever it was. -/
theorem State.resolved_dinReset (s : State) (i : Nat) : ((s.dinReset i).din i).resolved = false := by
  let u := s.modDin i (fun x => { clearReq := x.clearReq })
  have L : Leaves (fun _ _ => True) (fun d => (d.din i).resolved) u (s.dinReset i) :=
    ((Leaves.refl _ _ u).foldl fun _ n _ hu => hu.sb trivial).diShow (fun _ _ _ => trivial) fun d f hf => by
      simp [DeckSt.din_modDin, hf]
  have hu : u.deck = s.deck.modDin i (fun x => { clearReq := x.clearReq }) := rfl
  refine L.deck.trans ?_
  rw [hu, DeckSt.din_modDin, if_pos rfl]
theorem State.din_dinReset_other (s : State) {i k : Nat} (hk : k ≠ i) : (s.dinReset i).din k = s.din k :=
  ((Leaves.refl (fun _ _ => True) (fun d => d.din k) s).dinReset (fun _ _ _ => trivial) fun d f => by simp [DeckSt.din_modDin, hk]).deck

/-! ### The outputs of a card (R282-R284) -/

/-- The registers that showing output `o` writes. -/
def OutputReg (o a : Nat) : Prop := a = Dout.doStatus o ∨ a = Dout.outApplied (o / 32) ∨ a = Dout.outReadback (o / 32)
  ∨ a = Dout.doCondMap 0 + 4 * (o / 32)
theorem Leaves.doShow {o : Nat} (hW : ∀ a n, OutputReg o a → W a n) (L : Leaves W v s t) : Leaves W v s (t.doShow o) := by
  have hst {u : State} {hi lo k : Nat} (hlo : lo ≤ hi) (hu : Leaves W v s u) : Leaves W v s (u.fw (Dout.doStatus o) hi lo k) :=
    hu.fw (fun n _ _ => hW _ n (.inl rfl)) hlo
  have hdrive (q : Nat) (a b : Bool) : Leaves W v s (((t.sb (Dout.doStatus o) 0 a).fw (Dout.doStatus o) 3 1 q).sb (Dout.doStatus o) 9 b) :=
    hst le_rfl (hst (by decide) (hst le_rfl L))
  refine ((Leaves.sb (Leaves.sb (.ite (fun _ => hst le_rfl (hdrive _ _ _)) fun _ => hdrive _ _ _)
    (hW _ _ (.inr (.inl rfl)))) (hW _ _ (.inr (.inr (.inl rfl)))))).setMapBit (hW _ _ (.inr (.inr (.inr rfl))))
theorem Leaves.doCard {n : Nat} (hW : ∀ k, k < 32 → ∀ a b, OutputReg (32 * n + k) a → W a b) (L : Leaves W v s t) :
    Leaves W v s (t.doCard n) :=
  (L.foldl fun _ k hk hu => hu.doShow (hW k (List.mem_range.1 hk))).image
end

end Sys2Proof.Machine
end

section
/-! Field cards that are removed, inserted and ready (R257, R258, R268, R285, R286, R460). -/
namespace Sys2Proof.Machine

/-! ### The status register of a card and the others -/

theorem errqReg_above {a : Nat} (h : ErrqReg a) : 0x2000000 ≤ a := by
  obtain ⟨x, h | h | ⟨n, w, h⟩⟩ := h
  · simp only [h, Apc.errqLost]; omega
  · simp only [h, Apc.errqWp]; omega
  · simp only [h, Apc.errq]; omega
/-- The words of a card that is gone or ready are substituted or no longer (R339). -/
theorem State.leaves_sourceEdge {β : Type} (s : State) (kind n : Nat) (v : DeckSt → β) :
    Leaves (fun a _ => 0x2000000 ≤ a) v s (s.sourceEdge kind n) := (Leaves.refl ..).sourceEdge fun _ _ => errqReg_above

section
variable {n c : Nat} (hn : n < 16) (hc : c < 256)
include hn hc
theorem chanAt_ne_cardStatus {o : Nat} (ho : o < 0x400) : chanAt c o ≠ Anc.cardStatus n := by
  simp only [chanAt, Anc.cardStatus]
  omega
theorem chanBit_ne_cardStatus {l : List Nat} {a b : Nat} (h : ChanBit c l a b) : a ≠ Anc.cardStatus n := by
  obtain ⟨rfl, -⟩ | rfl | rfl | rfl := h <;> simp only [Anc.chStatus, Anc.chCounts, Anc.condMap, Anc.cmpMap, Anc.cardStatus] <;> omega
theorem absentBit_ne_cardStatus {a b : Nat} : AbsentBit c a b → a ≠ Anc.cardStatus n := by
  rintro (h | rfl | rfl | rfl)
  · exact chanBit_ne_cardStatus hn hc h
  · exact chanAt_ne_cardStatus hn hc (o := 0x110) (by decide)
  · exact chanAt_ne_cardStatus hn hc (o := 0x114) (by decide)
  · exact chanAt_ne_cardStatus hn hc (o := 0x118) (by decide)
end
/-- What changes with one channel leaves CH_CFG and CH_STATUS of the others. -/
theorem chanBit_ne_chanAt {c k o : Nat} {l : List Nat} {a b : Nat} (hc : c < 256) (hk : k < 256) (ho : o < 0x400) (hck : k ≠ c ∨ o = 0)
    (h : ChanBit c l a b) : a ≠ chanAt k o := by
  obtain ⟨rfl, -⟩ | rfl | rfl | rfl := h <;> simp only [Anc.chStatus, Anc.chCounts, Anc.condMap, Anc.cmpMap, chanAt] <;> omega
theorem absentBit_ne_status {c k a b : Nat} (hc : c < 256) (hk : k < 256) (hck : k ≠ c) : AbsentBit c a b → a ≠ Anc.chStatus k := by
  rintro (h | rfl | rfl | rfl)
  · exact chanBit_ne_chanAt (o := 0x140) hc hk (by decide) (.inl hck) h
  all_goals simp only [Anc.calStatus, Anc.userGain, Anc.userOffset, Anc.chStatus]; omega
theorem inputReg_ne_cardStatus {n i a : Nat} (hn : n < 16) (hi : i < 512) (h : InputReg i a) : a ≠ Din.diCardStatus n := by
  obtain rfl | rfl | rfl | rfl | rfl := h <;>
    simp only [Din.diStatus, Din.diCounts, Din.diStateMap, Din.diValidMap, Din.diCondMap, Din.diCardStatus] <;> omega
theorem outputReg_ne_grpStatus {n o a : Nat} (hn : n < 8) (ho : o < 256) (h : OutputReg o a) : a ≠ Dout.grpStatus n := by
  obtain rfl | rfl | rfl | rfl := h <;> simp only [Dout.doStatus, Dout.outApplied, Dout.outReadback, Dout.doCondMap, Dout.grpStatus] <;> omega

/-! ### Removal (R253, R257, R258, R268, R285, R460) -/

/-- A supply fault of card `k` cleared, and its slot off. -/
def State.slotEmptied (s : State) (k : Nat) : State :=
  (s.cardFaultSet k false).modDeck (fun d => { d with pwr := { d.pwr with slotOn := d.pwr.slotOn.filter (· != k) } })

section
variable (s : State) (k : Nat)
theorem State.leaves_slotEmptied : Leaves (fun a _ => 0x1400000 ≤ a) (fun _ => ()) s (s.slotEmptied k) := by
  have hshow {u : State} (h : Half) (hu : Leaves (fun a _ => 0x1400000 ≤ a) (fun _ => ()) s u) :
      Leaves (fun a _ => 0x1400000 ≤ a) (fun _ => ()) s (u.cardPwrShow h) :=
    (hu.wn fun _ => by simp only [Pwr.cardPwrMap]; omega).wn fun _ => by simp only [Pwr.cardPwrMapHi]; omega
  exact (hshow .b (hshow .a ((Leaves.refl _ _ s).modDeck rfl rfl))).modDeck rfl rfl
theorem State.cardFault_slotEmptied : (s.slotEmptied k).deck.pwr.cardFault.contains k = false := by
  have h : (s.slotEmptied k).deck.pwr.cardFault = s.deck.pwr.cardFault.filter (· != k) := rfl
  simp [h]
end

/-- The record of a card of kind `kind` that is removed. -/
def State.removalReported (s : State) (kind n : Nat) : State :=
  (s.slotEmptied (cardNo kind n)).reportDeck (if kind = 0 then 0x0801 else if kind = 1 then 0x0901 else 0x0921)
    (if kind = 0 then 5 else if kind = 1 then 7 else 9) n []
theorem execCardRemoved_present {s : State} {kind n : Nat} (hd : s.deck.inReset = false)
    (hp : (s.slotEmptied (cardNo kind n)).cardPresent kind n = true) :
    exec (.cardRemoved kind n) s = .next ((s.removalReported kind n).cardGone kind n) :=
  congrArg Host.Outcome.next ((s.onDeck_out_of_reset _ hd).trans (if_pos hp))

/-- What a removed card's channels, inputs or outputs do leaves its report and the cleared supply fault. -/
theorem State.removed_spec {s : State} {kind n : Nat} {W : Nat → Nat → Prop} {t : State}
    (L : Leaves W DeckSt.pwr (s.removalReported kind n) t) : t.deck.pwr.cardFault.contains (cardNo kind n) = false
      ∧ ∀ h, s.runs h = true → Reported t h (if kind = 0 then 0x0801 else if kind = 1 then 0x0901 else 0x0921)
          (if kind = 0 then 5 else if kind = 1 then 7 else 9) n := by
  refine ⟨?_, fun h hr => L.reported (State.reported_reportDeck _ _ _ _ _ (((s.leaves_slotEmptied _).runs h).trans hr))⟩
  rw [L.deck, State.removalReported, State.deck_reportDeck]
  exact s.cardFault_slotEmptied _

section
variable {s : State} {c : Nat}
theorem State.chState_ancAbsent : (s.ancAbsent c).chState c = 0 := by
  have L : Leaves (fun a n => ChanBit c shownBits a n ∨ AbsentReg c a) (fun _ => ()) (s.absentState c) (s.ancAbsent c) :=
    (Leaves.refl _ _ _).ancAbsent_shown (fun _ _ => id) fun _ _ => rfl
  refine (L.fd fun n _ hn => ?_).trans (State.fd_fw _ _ _ (by decide) (by decide))
  rintro (h | h | h | h)
  · exact not_chanBit_status (by interval_cases n <;> decide) h
  all_goals simp only [Anc.chStatus, Anc.calStatus, Anc.userGain, Anc.userOffset] at h; omega
theorem State.chState_ancAbsent_other {k : Nat} (hc : c < 256) (hk : k < 256) (hck : k ≠ c) :
    (s.ancAbsent c).chState k = s.chState k :=
  State.chState_congr (((Leaves.refl (fun a _ => a ≠ Anc.chStatus k) (fun _ => ()) s).ancAbsent
    (fun _ _ => absentBit_ne_status hc hk hck) fun _ _ => rfl).rg fun _ h => h rfl)
end

/-- Every channel of a card absent. -/
theorem State.chState_cardAbsent (s : State) {n k : Nat} (hn : n < 16) (hk : k < 16) :
    ((List.range 16).foldl (fun t k => t.ancAbsent (16 * n + k)) s).chState (16 * n + k) = 0 :=
  foldl_establishes (p := (· < 16)) (Q := fun k t => State.chState t (16 * n + k) = 0)
    (fun _ _ _ => State.chState_ancAbsent)
    (fun t k e hk he h => by
      by_cases hke : k = e
      · exact hke ▸ State.chState_ancAbsent
      · exact (State.chState_ancAbsent_other (by omega) (by omega) (by omega)).trans h)
    _ s (fun _ => List.mem_range.1) k (List.mem_range.2 hk)

theorem analogCardRemoved_completes (n : Nat) (s : State) (hn : n < 16) (hd : s.deck.inReset = false)
    (hp : s.bt (Anc.cardStatus n) 0 = true) :
    Gives (.cardRemoved 0 n) s (fun t => t.fd (Anc.cardStatus n) 5 0 = 0 ∧ (∀ k, k < 16 → t.chState (16 * n + k) = 0)
      ∧ t.deck.pwr.cardFault.contains n = false ∧ ∀ h, s.runs h = true → Reported t h 0x0801 5 n) := by
  have hp' : (s.slotEmptied (cardNo 0 n)).cardPresent 0 n = true :=
    ((s.leaves_slotEmptied _).bt (by simp only [Anc.cardStatus]; omega)).trans hp
  let u := s.removalReported 0 n
  let shown := u.fw (Anc.cardStatus n) 5 0 0
  let gone := (List.range 16).foldl (fun t k => t.ancAbsent (16 * n + k)) shown
  have M := gone.leaves_sourceEdge 0 n DeckSt.pwr
  have L : Leaves (fun a _ => a ≠ Anc.cardStatus n) DeckSt.pwr shown gone :=
    (Leaves.refl ..).foldl fun _ k hk hu => hu.ancAbsent
      (fun _ _ => absentBit_ne_cardStatus hn (by have := List.mem_range.1 hk; omega)) fun _ _ => rfl
  have hall : Leaves (fun _ _ => True) DeckSt.pwr u ((s.removalReported 0 n).cardGone 0 n) :=
    ((Leaves.refl _ _ u).fw fun _ _ _ => trivial).trans ((L.mono fun _ _ _ => trivial).trans (M.mono fun _ _ _ => trivial))
  obtain ⟨hfault, hrep⟩ := State.removed_spec hall
  refine ⟨_, execCardRemoved_present hd hp', ?_, fun k hk => ?_, hfault, hrep⟩
  · refine (M.fd fun _ _ _ => by simp only [Anc.cardStatus]; omega).trans ?_
    exact (L.fd fun _ _ _ h => h rfl).trans (State.fd_fw _ _ _ (by decide) (by decide))
  · refine (M.fd fun _ _ _ => by simp only [Anc.chStatus]; omega).trans ?_
    exact State.chState_cardAbsent _ hn hk

theorem inputCardRemoved_completes (n : Nat) (s : State) (hn : n < 16) (hd : s.deck.inReset = false)
    (hp : s.bt (Din.diCardStatus n) 0 = true) :
    Gives (.cardRemoved 1 n) s (fun t => t.fd (Din.diCardStatus n) 4 0 = 0
      ∧ t.deck.pwr.cardFault.contains (16 + n) = false ∧ ∀ h, s.runs h = true → Reported t h 0x0901 7 n) := by
  have hp' : (s.slotEmptied (cardNo 1 n)).cardPresent 1 n = true :=
    ((s.leaves_slotEmptied _).bt (by simp only [Din.diCardStatus]; omega)).trans hp
  let u := s.removalReported 1 n
  let shown := (u.fw (Din.diCardStatus n) 4 0 0).fw (Din.diCardStatus n) 15 8 0
  let gone := (shown.dinClear n).dinImage n
  have M := gone.leaves_sourceEdge 1 n DeckSt.pwr
  have L : Leaves (fun a _ => a ≠ Din.diCardStatus n) DeckSt.pwr shown gone :=
    ((Leaves.refl ..).foldl fun _ k hk hu => hu.dinReset
      (fun _ _ => inputReg_ne_cardStatus hn (by have := List.mem_range.1 hk; omega)) fun _ _ => rfl).dinImage
  have hall : Leaves (fun _ _ => True) DeckSt.pwr u ((s.removalReported 1 n).cardGone 1 n) :=
    (((Leaves.refl _ _ u).fw fun _ _ _ => trivial).fw fun _ _ _ => trivial).trans
      ((L.mono fun _ _ _ => trivial).trans (M.mono fun _ _ _ => trivial))
  obtain ⟨hfault, hrep⟩ := State.removed_spec hall
  refine ⟨_, execCardRemoved_present hd hp', ?_, hfault, hrep⟩
  refine (M.fd fun _ _ _ => by simp only [Din.diCardStatus]; omega).trans ((L.fd fun _ _ _ h => h rfl).trans ?_)
  exact (State.fd_fw_beside _ _ _ _ (by decide) (by decide) (by decide)).trans (State.fd_fw _ _ _ (by decide) (by decide))

theorem outputCardRemoved_completes (n : Nat) (s : State) (hn : n < 8) (hd : s.deck.inReset = false)
    (hp : s.bt (Dout.grpStatus n) 2 = true) :
    Gives (.cardRemoved 2 n) s (fun t => t.fd (Dout.grpStatus n) 6 2 = 0 ∧ t.fd (Dout.grpStatus n) 1 0 = 0
      ∧ t.deck.pwr.cardFault.contains (32 + n) = false ∧ ∀ h, s.runs h = true → Reported t h 0x0921 9 n) := by
  have hp' : (s.slotEmptied (cardNo 2 n)).cardPresent 2 n = true := by
    have h2 : (s.slotEmptied (cardNo 2 n)).bt (Dout.grpStatus n) 2 = true :=
      ((s.leaves_slotEmptied _).bt (by simp only [Dout.grpStatus]; omega)).trans hp
    simp [State.cardPresent, hn, h2]
  let u := s.removalReported 2 n
  let shown := ((u.fw (Dout.grpStatus n) 6 2 0).fw (Dout.grpStatus n) 1 0 0).fw (Dout.grpStatus n) 15 8 0
  let cleared := (List.range 32).foldl (fun t k => (t.modDout (32 * n + k) (fun _ => {})).fw (Dout.doStatus (32 * n + k)) 8 4 0) shown
  have M := (cleared.doCard n).leaves_sourceEdge 2 n DeckSt.pwr
  have L : Leaves (fun a _ => a ≠ Dout.grpStatus n) DeckSt.pwr shown (cleared.doCard n) := by
    have hW (k : Nat) (hk : k < 32) (a _ : Nat) : OutputReg (32 * n + k) a → a ≠ Dout.grpStatus n :=
      outputReg_ne_grpStatus hn (by omega)
    refine Leaves.doCard hW ((Leaves.refl ..).foldl fun _ k hk hu => ?_)
    exact (hu.modDeck rfl rfl).fw fun m _ _ => hW k (List.mem_range.1 hk) _ m (.inl rfl)
  have hall : Leaves (fun _ _ => True) DeckSt.pwr u ((s.removalReported 2 n).cardGone 2 n) :=
    ((((Leaves.refl _ _ u).fw fun _ _ _ => trivial).fw fun _ _ _ => trivial).fw fun _ _ _ => trivial).trans
      ((L.mono fun _ _ _ => trivial).trans (M.mono fun _ _ _ => trivial))
  obtain ⟨hfault, hrep⟩ := State.removed_spec hall
  have hst (hi lo : Nat) : ((cleared.doCard n).sourceEdge 2 n).fd (Dout.grpStatus n) hi lo = shown.fd (Dout.grpStatus n) hi lo :=
    (M.fd fun _ _ _ => by simp only [Dout.grpStatus]; omega).trans (L.fd fun _ _ _ h => h rfl)
  refine ⟨_, execCardRemoved_present hd hp', (hst 6 2).trans ?_, (hst 1 0).trans ?_, hfault, hrep⟩
  · refine (State.fd_fw_beside _ _ _ _ (by decide) (by decide) (by decide)).trans ?_
    exact (State.fd_fw_beside _ _ _ _ (by decide) (by decide) (by decide)).trans (State.fd_fw _ _ _ (by decide) (by decide))
  · exact (State.fd_fw_beside _ _ _ _ (by decide) (by decide) (by decide)).trans (State.fd_fw _ _ _ (by decide) (by decide))

/-! ### Insertion (R257, R258, R268, R285) -/

/-- A field of a word that is written whole. -/
theorem State.fd_wn_whole (s : State) (a : Nat) {v : Nat} (hi lo : Nat) (hv : v < 2 ^ 32) :
    (s.wn a v).fd a hi lo = v / 2 ^ lo % 2 ^ (hi + 1 - lo) := by
  rw [State.fd, State.rg_wn, if_pos rfl, bits, BitVec.toNat_ofNat, Nat.mod_eq_of_lt hv, Nat.shiftRight_eq_div_pow]
theorem State.bt_wn_whole (s : State) (a : Nat) {v : Nat} (n : Nat) (hv : v < 2 ^ 32) :
    (s.wn a v).bt a n = decide (v / 2 ^ n % 2 = 1) := by
  rw [State.bt, State.rg_wn, if_pos rfl, bit, BitVec.getLsbD, BitVec.toNat_ofNat, Nat.mod_eq_of_lt hv, Nat.testBit_eq_decide_div_mod_eq]

/-- The user calibration of an inserted card is taken for each channel in its mode (R260). -/
def State.calTakenOver (s : State) (n : Nat) (cal : List CardCal) : State :=
  (List.range 16).foldl (fun (t : State) (k : Nat) => match cal[k]? with
    | some x => if x.mode = t.ancMode (16 * n + k) then
        (t.wr (Anc.userGain (16 * n + k)) x.gain).wr (Anc.userOffset (16 * n + k)) x.off else t
    | none => t) s
theorem State.byte_calTakenOver (s : State) (n : Nat) (cal : List CardCal) (a : Nat) : (s.calTakenOver n cal).byte a = s.byte a := by
  refine foldl_keeps (State.byte · a) _ _ s fun t k => ?_
  split
  · exact ite_keeps (State.byte · a) (fun _ => by rw [State.byte_wr, State.byte_wr]) fun _ => rfl
  · rfl
theorem State.leaves_calTakenOver (s : State) {n : Nat} (cal : List CardCal) (hn : n < 16) :
    Leaves (fun a _ => a ≠ Anc.cardStatus n) DeckSt.pwr s (s.calTakenOver n cal) := by
  refine (Leaves.refl ..).foldl fun t k hk ht => ?_
  have hk' : 16 * n + k < 256 := by have := List.mem_range.1 hk; omega
  split
  · refine .ite (fun _ => Leaves.wr (ht.wr fun _ h => absurd ?_ h) fun _ h => absurd ?_ h) fun _ => ht
    · exact chanAt_ne_cardStatus hn hk' (o := 0x114) (by decide)
    · exact chanAt_ne_cardStatus hn hk' (o := 0x118) (by decide)
  · exact ht

theorem analogCardInserted_completes (n refused issue bad : Nat) (cal : List CardCal) (s : State) (hn : n < 16) (hr : refused < 8)
    (hi : issue < 256) (hd : s.deck.inReset = false) (hp : s.bt (Anc.cardStatus n) 0 = false) :
    Gives (.cardInserted 0 n refused issue bad cal) s (fun t => t.bt (Anc.cardStatus n) 0 = true
      ∧ t.bt (Anc.cardStatus n) 1 = false ∧ t.fd (Anc.cardStatus n) 4 2 = refused ∧ t.fd (Anc.cardStatus n) 15 8 = issue
      ∧ t.fd (Anc.cardStatus n) 31 16 = (s.fd (Anc.cardStatus n) 31 16 + 1) % 65536 ∧ SameMem s t
      ∧ (refused ≠ 0 → ∀ h, s.runs h = true → Reported t h 0x0803 5 n)) := by
  let cb := decide (bad ≠ 0)
  let cnt := (s.fd (Anc.cardStatus n) 31 16 + 1) % 65536
  let word := 1 + refused * 4 + cb.toNat * 32 + issue * 256 + cnt * 65536
  let shown := s.wn (Anc.cardStatus n) word
  let t := if refused ≠ 0 then shown.reportDeck 0x0803 5 n [refused, cb.toNat]
    else (shown.modDeck (fun d => { d with ancBad := Map.set (fun _ => 0) d.ancBad n bad })).calTakenOver n cal
  have hex : exec (.cardInserted 0 n refused issue bad cal) s = .next t :=
    congrArg Host.Outcome.next ((s.onDeck_out_of_reset _ hd).trans ((if_pos rfl).trans (if_neg (by simp [hp]))))
  have L : Leaves (fun a _ => a ≠ Anc.cardStatus n) DeckSt.pwr shown t :=
    .ite (fun _ => (Leaves.refl ..).reportDeck) fun _ =>
      ((Leaves.refl _ _ shown).modDeck rfl rfl).trans (State.leaves_calTakenOver _ cal hn)
  have hcb : cb.toNat ≤ 1 := Bool.toNat_le _
  have hcnt : cnt < 65536 := Nat.mod_lt _ (by decide)
  have hword : word < 2 ^ 32 := by omega
  have hfd (x y : Nat) : t.fd (Anc.cardStatus n) x y = word / 2 ^ y % 2 ^ (x + 1 - y) :=
    (L.fd fun _ _ _ h => h rfl).trans (s.fd_wn_whole _ _ _ hword)
  have hbt (x : Nat) : t.bt (Anc.cardStatus n) x = decide (word / 2 ^ x % 2 = 1) :=
    (L.bt fun h => h rfl).trans (s.bt_wn_whole _ _ hword)
  refine ⟨t, hex, ?_, ?_, ?_, ?_, ?_, fun a => ?_, fun h0 h hrun => ?_⟩
  · rw [hbt]
    exact decide_eq_true (by omega)
  · rw [hbt]
    exact decide_eq_false (by omega)
  · rw [hfd]; omega
  · rw [hfd]; omega
  · rw [hfd]; omega
  · exact (ite_keeps (State.byte · a) (fun _ => State.byte_reportDeck ..) fun _ =>
      (State.byte_calTakenOver ..).trans (State.byte_modDeck ..)).trans (State.byte_wn ..)
  · have ht : t = shown.reportDeck 0x0803 5 n [refused, cb.toNat] := if_pos h0
    rw [ht]
    exact State.reported_reportDeck _ _ _ _ _ ((State.runs_wr ..).trans hrun)

theorem inputCardInserted_completes (n refused issue bad : Nat) (cal : List CardCal) (s : State) (hr : refused < 8)
    (hi : issue < 256) (hd : s.deck.inReset = false) (hp : s.bt (Din.diCardStatus n) 0 = false) :
    Gives (.cardInserted 1 n refused issue bad cal) s (fun t => t.bt (Din.diCardStatus n) 0 = true
      ∧ t.bt (Din.diCardStatus n) 1 = false ∧ t.fd (Din.diCardStatus n) 4 2 = refused
      ∧ t.fd (Din.diCardStatus n) 23 16 = issue ∧ SameMem s t
      ∧ (refused ≠ 0 → ∀ h, s.runs h = true → Reported t h 0x0903 7 n)) := by
  let cnt := (s.fd (Din.diCardStatus n) 31 24 + 1) % 256
  let word := 1 + refused * 4 + issue * 65536 + cnt * 2 ^ 24
  let shown := s.wn (Din.diCardStatus n) word
  let t := if refused ≠ 0 then shown.reportDeck 0x0903 7 n [refused] else shown
  have hex : exec (.cardInserted 1 n refused issue bad cal) s = .next t :=
    congrArg Host.Outcome.next ((s.onDeck_out_of_reset _ hd).trans ((if_neg (by decide)).trans ((if_pos rfl).trans (if_neg (by simp [hp])))))
  have L : Leaves (fun _ _ => False) DeckSt.pwr shown t :=
    .ite (fun _ => (Leaves.refl ..).reportDeck) fun _ => .refl ..
  have hcnt : cnt < 256 := Nat.mod_lt _ (by decide)
  have hword : word < 2 ^ 32 := by omega
  have hfd (x y : Nat) : t.fd (Din.diCardStatus n) x y = word / 2 ^ y % 2 ^ (x + 1 - y) :=
    (L.fd fun _ _ _ => not_false).trans (s.fd_wn_whole _ _ _ hword)
  have hbt (x : Nat) : t.bt (Din.diCardStatus n) x = decide (word / 2 ^ x % 2 = 1) :=
    (L.bt not_false).trans (s.bt_wn_whole _ _ hword)
  refine ⟨t, hex, ?_, ?_, ?_, ?_, fun a => ?_, fun h0 h hrun => ?_⟩
  · rw [hbt]
    exact decide_eq_true (by omega)
  · rw [hbt]
    exact decide_eq_false (by omega)
  · rw [hfd]; omega
  · rw [hfd]; omega
  · exact (ite_keeps (State.byte · a) (fun _ => State.byte_reportDeck ..) fun _ => rfl).trans (State.byte_wn ..)
  · have ht : t = shown.reportDeck 0x0903 7 n [refused] := if_pos h0
    rw [ht]
    exact State.reported_reportDeck _ _ _ _ _ ((State.runs_wr ..).trans hrun)

theorem outputCardInserted_completes (n refused issue bad : Nat) (cal : List CardCal) (s : State) (hn : n < 8) (hr : refused < 8)
    (hd : s.deck.inReset = false) (hp : s.bt (Dout.grpStatus n) 2 = false) :
    Gives (.cardInserted 2 n refused issue bad cal) s (fun t => t.bt (Dout.grpStatus n) 2 = true
      ∧ t.fd (Dout.grpStatus n) 6 4 = refused ∧ SameMem s t ∧ SameRegs s t (fun a => a = Dout.grpStatus n)) := by
  let shown := (s.fw (Dout.grpStatus n) 6 4 refused).sb (Dout.grpStatus n) 2 true
  let t := shown.modDeck (fun d => { d with doIssue := Map.set (fun _ => 0) d.doIssue n issue })
  have hex : exec (.cardInserted 2 n refused issue bad cal) s = .next t :=
    congrArg Host.Outcome.next ((s.onDeck_out_of_reset _ hd).trans ((if_neg (by decide)).trans ((if_neg (by decide)).trans (if_pos ⟨hn, hp⟩))))
  have hrg (a : Nat) : t.rg a = shown.rg a := State.rg_modDeck _ _ _ rfl
  refine ⟨t, hex, ?_, ?_, fun a => ?_, fun a ha => ?_⟩
  · exact (congrArg (bit · 2) (hrg _)).trans (State.bt_sb _ _ _ (by decide))
  · refine (congrArg (bits · 6 4) (hrg _)).trans ((State.fd_sb_beside _ _ _ _ _ (by decide) (by decide)).trans ?_)
    exact (State.fd_fw _ _ _ (by decide) (by decide)).trans (Nat.mod_eq_of_lt hr)
  · exact (State.byte_modDeck ..).trans ((State.byte_sb ..).trans (State.byte_fw ..))
  · exact (hrg a).trans ((State.rg_sb ..).trans ((if_neg ha).trans ((State.rg_fw ..).trans (if_neg ha))))

/-! ### A card that becomes ready (R257, R268, R285, R286) -/

theorem State.settledState_congr {s t : State} {c : Nat} (hcfg : t.rg (Anc.chCfg c) = s.rg (Anc.chCfg c))
    (hbad : t.deck.ancBad = s.deck.ancBad) (hf : (t.chan c).islFault = (s.chan c).islFault) :
    t.settledState c = s.settledState c := by
  have hcal : t.ancCalBad c = s.ancCalBad c := by
    rw [State.ancCalBad, hbad, State.ancMode_congr hcfg, State.ancCalBad]
  rw [State.settledState, State.ancMode_congr hcfg, hcal, hf, State.settledState]
/-- Settling a channel leaves what any channel settles in. -/
theorem State.settledState_ancSettle (s : State) {c k : Nat} (hc : c < 256) (hk : k < 256) :
    (s.ancSettle c).settledState k = s.settledState k :=
  State.settledState_congr ((s.leaves_ancSettle c).rg fun _ h => chanBit_ne_chanAt (o := 0) hc hk (by decide) (.inr rfl) h rfl)
    (s.ancBad_ancSettle c) (s.run_ancSettle c (·.islFault) (fun _ _ => congrArg ChanRun.islFault) k)
theorem State.chState_ancSettle_other (s : State) {c k : Nat} (hc : c < 256) (hk : k < 256) (hck : k ≠ c) :
    (s.ancSettle c).chState k = s.chState k :=
  State.chState_congr ((s.leaves_ancSettle c).rg fun _ h => chanBit_ne_chanAt (o := 0x140) hc hk (by decide) (.inl hck) h rfl)

/-- Every channel of a card settling. -/
def State.cardSettled (s : State) (n : Nat) : State := (List.range 16).foldl (fun t k => t.ancSettle (16 * n + k)) s
section
variable (s : State) {n k : Nat} (hn : n < 16) (hk : k < 16)
include hn hk
theorem State.settledState_cardSettled : (s.cardSettled n).settledState (16 * n + k) = s.settledState (16 * n + k) :=
  List.foldlRecOn (motive := fun t => State.settledState t (16 * n + k) = s.settledState (16 * n + k)) _ _ rfl
    fun t ht e he => (t.settledState_ancSettle (by have := List.mem_range.1 he; omega) (by omega)).trans ht
theorem State.chState_cardSettled : (s.cardSettled n).chState (16 * n + k) = s.settledState (16 * n + k) :=
  Eq.trans (foldl_establishes (p := (· < 16)) (Q := fun k t => State.chState t (16 * n + k) = t.settledState (16 * n + k))
    (fun t e he => (t.chState_ancSettle _).trans (t.settledState_ancSettle (by omega) (by omega)).symm)
    (fun t k e hk he h => by
      by_cases hke : k = e
      · exact hke ▸ (t.chState_ancSettle _).trans (t.settledState_ancSettle (by omega) (by omega)).symm
      · rw [t.chState_ancSettle_other (by omega) (by omega) (by omega), t.settledState_ancSettle (by omega) (by omega), h])
    _ s (fun _ => List.mem_range.1) k (List.mem_range.2 hk)) (s.settledState_cardSettled hn hk)
end

theorem analogCardReady_completes (n : Nat) (s : State) (hn : n < 16) (hd : s.deck.inReset = false)
    (h1 : s.fd (Anc.cardStatus n) 4 0 = 1) :
    Gives (.cardReady 0 n) s (fun t => t.bt (Anc.cardStatus n) 1 = true
      ∧ (∀ k, k < 16 → t.chState (16 * n + k) = s.settledState (16 * n + k))
      ∧ ∀ h, s.runs h = true → Reported t h 0x0802 5 n) := by
  let shown := s.sb (Anc.cardStatus n) 1 true
  let u := shown.reportDeck 0x0802 5 n [s.fd (Anc.cardStatus n) 15 8]
  have hready : s.cardReady 0 n = u.cardSettled n := (if_pos rfl).trans (if_pos h1)
  have hex : exec (.cardReady 0 n) s = .next ((u.cardSettled n).sourceEdge 0 n) :=
    congrArg Host.Outcome.next ((s.onDeck_out_of_reset _ hd).trans (congrArg (State.sourceEdge · 0 n) hready))
  have M := (u.cardSettled n).leaves_sourceEdge 0 n DeckSt.pwr
  have L : Leaves (fun a _ => a ≠ Anc.cardStatus n) DeckSt.pwr u (u.cardSettled n) :=
    (Leaves.refl ..).foldl fun t k hk ht => ht.trans ((t.leaves_ancSettle _).mono fun _ _ =>
      chanBit_ne_cardStatus hn (by have := List.mem_range.1 hk; omega))
  refine ⟨_, hex, ?_, fun k hk => ?_, fun h hr => ?_⟩
  · refine (M.bt (by simp only [Anc.cardStatus]; omega)).trans ((L.bt fun h => h rfl).trans ?_)
    exact (congrArg (bit · 1) (State.rg_reportDeck ..)).trans (State.bt_sb _ _ _ (by decide))
  · refine (M.fd fun _ _ _ => by simp only [Anc.chStatus]; omega).trans ((u.chState_cardSettled hn hk).trans ?_)
    refine State.settledState_congr ((State.rg_reportDeck ..).trans ((State.rg_sb ..).trans (if_neg ?_)))
      (congrArg DeckSt.ancBad (State.deck_reportDeck ..)) (congrArg ChanRun.islFault (State.chan_reportDeck ..))
    exact chanAt_ne_cardStatus (o := 0) hn (by omega) (by decide)
  · exact M.reported (L.reported (State.reported_reportDeck _ _ _ _ _ ((State.runs_sb ..).trans hr)))

/-- No input of a cleared card is resolved. -/
theorem State.resolved_dinClear (s : State) {n k : Nat} (hk : k < 32) : ((s.dinClear n).din (32 * n + k)).resolved = false :=
  foldl_establishes (p := (· < 32)) (Q := fun k t => (State.din t (32 * n + k)).resolved = false)
    (fun t e _ => t.resolved_dinReset _)
    (fun t k e _ _ h => by
      by_cases hke : k = e
      · exact hke ▸ t.resolved_dinReset _
      · rw [t.din_dinReset_other (by omega), h])
    _ s (fun _ => List.mem_range.1) k (List.mem_range.2 hk)

theorem inputCardReady_completes (n : Nat) (s : State) (hn : n < 16) (hd : s.deck.inReset = false)
    (h1 : s.fd (Din.diCardStatus n) 4 0 = 1) :
    Gives (.cardReady 1 n) s (fun t => t.bt (Din.diCardStatus n) 1 = true
      ∧ (∀ k, k < 32 → (t.din (32 * n + k)).resolved = false)
      ∧ ∀ h, s.runs h = true → Reported t h 0x0902 7 n) := by
  let shown := s.sb (Din.diCardStatus n) 1 true
  let u := shown.reportDeck 0x0902 7 n [s.fd (Din.diCardStatus n) 23 16]
  have hready : s.cardReady 1 n = u.dinClear n := (if_neg (by decide)).trans ((if_pos rfl).trans (if_pos h1))
  have hex : exec (.cardReady 1 n) s = .next ((u.dinClear n).sourceEdge 1 n) :=
    congrArg Host.Outcome.next ((s.onDeck_out_of_reset _ hd).trans (congrArg (State.sourceEdge · 1 n) hready))
  have M := (u.dinClear n).leaves_sourceEdge 1 n DeckSt.dins
  have L : Leaves (fun a _ => a ≠ Din.diCardStatus n) DeckSt.pwr u (u.dinClear n) :=
    (Leaves.refl ..).foldl fun _ k hk hu => hu.dinReset
      (fun _ _ => inputReg_ne_cardStatus hn (by have := List.mem_range.1 hk; omega)) fun _ _ => rfl
  refine ⟨_, hex, ?_, fun k hk => ?_, fun h hr => ?_⟩
  · refine (M.bt (by simp only [Din.diCardStatus]; omega)).trans ((L.bt fun h => h rfl).trans ?_)
    exact (congrArg (bit · 1) (State.rg_reportDeck ..)).trans (State.bt_sb _ _ _ (by decide))
  · have hdin : (((u.dinClear n).sourceEdge 1 n).din (32 * n + k)) = (u.dinClear n).din (32 * n + k) :=
      congrArg (fun m : Map DinRun => Map.get (fun _ => {}) m (32 * n + k)) M.deck
    rw [hdin]
    exact u.resolved_dinClear hk
  · exact M.reported (L.reported (State.reported_reportDeck _ _ _ _ _ ((State.runs_sb ..).trans hr)))

theorem outputCardReady_completes (n : Nat) (s : State) (hn : n < 8) (hd : s.deck.inReset = false)
    (h1 : s.fd (Dout.grpStatus n) 6 2 = 1) :
    Gives (.cardReady 2 n) s (fun t => t.bt (Dout.grpStatus n) 3 = true ∧ t.fd (Dout.grpStatus n) 1 0 = 0
      ∧ ∀ h, s.runs h = true → Reported t h 0x0922 9 n) := by
  let shown := (s.sb (Dout.grpStatus n) 3 true).fw (Dout.grpStatus n) 1 0 0
  let u := shown.reportDeck 0x0922 9 n [Map.get (fun _ => 0) s.deck.doIssue n]
  have hready : s.cardReady 2 n = u.doCard n := (if_neg (by decide)).trans ((if_neg (by decide)).trans (if_pos ⟨hn, h1⟩))
  have hex : exec (.cardReady 2 n) s = .next ((u.doCard n).sourceEdge 2 n) :=
    congrArg Host.Outcome.next ((s.onDeck_out_of_reset _ hd).trans (congrArg (State.sourceEdge · 2 n) hready))
  have M := (u.doCard n).leaves_sourceEdge 2 n DeckSt.pwr
  have L : Leaves (fun a _ => a ≠ Dout.grpStatus n) DeckSt.pwr u (u.doCard n) :=
    (Leaves.refl ..).doCard fun _ _ _ _ => outputReg_ne_grpStatus hn (by omega)
  refine ⟨_, hex, ?_, ?_, fun h hr => ?_⟩
  · refine (M.bt (by simp only [Dout.grpStatus]; omega)).trans ((L.bt fun h => h rfl).trans ?_)
    refine (congrArg (bit · 3) (State.rg_reportDeck ..)).trans ?_
    exact (State.bt_fw_beside _ _ _ _ (by decide) (by decide)).trans (State.bt_sb _ _ _ (by decide))
  · refine (M.fd fun _ _ _ => by simp only [Dout.grpStatus]; omega).trans ((L.fd fun _ _ _ h => h rfl).trans ?_)
    exact (congrArg (bits · 1 0) (State.rg_reportDeck ..)).trans (State.fd_fw _ _ _ (by decide) (by decide))
  · exact M.reported (L.reported (State.reported_reportDeck _ _ _ _ _ ((State.runs_fw ..).trans ((State.runs_sb ..).trans hr))))

/-! ### All exchanges of a card -/

/-- Settles O21: each exchange of a field card is shown, recorded, and taken by its channels, inputs or outputs. -/
theorem fieldCardCommandsComplete : Obligations.FieldCardCommandsComplete :=
  ⟨fun n s hn hd hp => analogCardRemoved_completes n s hn hd hp,
    fun n s hn hd hp => inputCardRemoved_completes n s hn hd hp,
    fun n s hn hd hp => outputCardRemoved_completes n s hn hd hp,
    fun n refused issue bad cal s hn hr hi hd hp => analogCardInserted_completes n refused issue bad cal s hn hr hi hd hp,
    fun n refused issue bad cal s _ hr hi hd hp => inputCardInserted_completes n refused issue bad cal s hr hi hd hp,
    fun n refused issue bad cal s hn hr hd hp => outputCardInserted_completes n refused issue bad cal s hn hr hd hp,
    fun n s hn hd h1 => analogCardReady_completes n s hn hd h1,
    fun n s hn hd h1 => inputCardReady_completes n s hn hd h1,
    fun n s hn hd h1 => outputCardReady_completes n s hn hd h1⟩

end Sys2Proof.Machine
end

section
/-! SUPPORT. A source of the event controller asserted in both halves, and what a fold reaches at one element (R62). -/
namespace Sys2Proof.Machine

/-! ### Sources in both halves (R62) -/

/-- The source is pending in each half that runs. -/
theorem State.pends_raiseBoth (s : State) {src : Nat} (hs : src < 16384) {h : Half} (hr : s.runs h = true) :
    Pends (s.raiseBoth src) h src := by
  cases h with
  | a => exact State.raise_keeps _ _ _ _ _ hs hs (State.raise_pends _ _ _ hr hs)
  | b => exact State.raise_pends _ _ _ ((State.runs_raise ..).trans hr) hs
@[simp] theorem State.byte_raiseBoth (s : State) (src a : Nat) : (s.raiseBoth src).byte a = s.byte a := by simp [State.raiseBoth]
@[simp] theorem State.runs_raiseBoth (s : State) (src : Nat) (h : Half) : (s.raiseBoth src).runs h = s.runs h := by
  simp [State.raiseBoth]

section
variable {β : Type} {W : Nat → Nat → Prop} {v : DeckSt → β} {s t : State}

theorem Leaves.raise (L : Leaves W v s t) {h : Half} {src : Nat} (hs : src < 1024) (hW : ∀ a n, EventReg h a → W a n) :
    Leaves W v s (t.raise h src) := by
  rcases t.raise_cases h src with e | e | e <;> rw [e]
  · exact L
  · exact L.satF fun n _ _ => hW _ n (.inr (by simp only [Evc.srcCnt]; omega))
  · exact L.setMapBit (hW _ _ (.inr (by simp only [Evc.pend]; omega)))
theorem Leaves.raiseBoth (L : Leaves W v s t) {src : Nat} (hs : src < 1024) (hW : ∀ a n h, EventReg h a → W a n) :
    Leaves W v s (t.raiseBoth src) := (L.raise hs fun a n => hW a n .a).raise hs fun a n => hW a n .b
/-- A source that pends still does. -/
theorem Leaves.pends (L : Leaves W v s t) {h : Half} {src : Nat} (hW : ∀ n, ¬ W (Evc.pend h 0 + 4 * (src / 32)) n)
    (hp : Pends s h src) : Pends t h src := (L.bt (hW _)).trans hp
end

/-! ### Folds -/

/-- What the update of one element establishes in a state that the earlier updates have kept, and the later ones keep. -/
theorem foldl_reaches {α β : Type} {p : β → Prop} {I Q : α → Prop} {f : α → β → α} {k : β}
    (before : ∀ t e, p e → e ≠ k → I t → I (f t e)) (at_k : ∀ t, I t → Q (f t k))
    (after : ∀ t e, p e → e ≠ k → Q t → Q (f t e)) {l : List β} (hl : ∀ e ∈ l, p e) (hn : l.Nodup) (hk : k ∈ l) {s : α}
    (hs : I s) : Q (l.foldl f s) := by
  induction l generalizing s with
  | nil => exact absurd hk List.not_mem_nil
  | cons e l ih =>
    have hl' : ∀ x ∈ l, p x := fun x hx => hl x (List.mem_cons_of_mem _ hx)
    obtain ⟨he, hn'⟩ := List.nodup_cons.1 hn
    rcases List.mem_cons.1 hk with rfl | hk
    · exact List.foldlRecOn l f (at_k s hs) fun t ht x hx => after t x (hl' x hx) (fun h => he (h ▸ hx)) ht
    · exact ih hl' hn' hk (before s e (hl e List.mem_cons_self) (fun h => he (h ▸ hk)) hs)

end Sys2Proof.Machine
end

section
/-! SUPPORT. A digital output as it is shown, its run, and what its shared operations leave (R281-R286). -/
namespace Sys2Proof.Machine

/-! ### The registers of an output and of its card -/

/-- The register at offset `o` of output card `n`. -/
def grpAt (n o : Nat) : Nat := 0x1190000 + o + 0x100 * n
/-- The named registers of an output card by their offsets. -/
theorem grpAt_names (n : Nat) : Dout.outLo n = grpAt n 0x10 ∧ Dout.outHi n = grpAt n 0x14 ∧ Dout.grpStatus n = grpAt n 0x20
    ∧ Dout.outApplied n = grpAt n 0x24 ∧ Dout.outReadback n = grpAt n 0x28 := ⟨rfl, rfl, rfl, rfl, rfl⟩
/-- The registers that showing the outputs of card `n` writes. -/
def CardOutReg (n a : Nat) : Prop := ∃ k, k < 32 ∧ OutputReg (32 * n + k) a
/-- The registers that showing output `o` writes beside DO_STATUS. -/
def OutMapReg (o a : Nat) : Prop := a = Dout.outApplied (o / 32) ∨ a = Dout.outReadback (o / 32) ∨ a = Dout.doCondMap 0 + 4 * (o / 32)

theorem not_cardOutReg_grpAt {n o : Nat} (hn : n < 8) (ho : o < 0x24) : ¬ CardOutReg n (grpAt n o) := by
  rintro ⟨k, hk, h | h | h | h⟩ <;>
    simp only [grpAt, Dout.doStatus, Dout.outApplied, Dout.outReadback, Dout.doCondMap] at h <;> omega
theorem not_cardOutReg_pend {n w : Nat} (h : Half) (hn : n < 8) (hw : w < 0x1000) : ¬ CardOutReg n (Evc.pend h 0 + w) := by
  rintro ⟨k, hk, e | e | e | e⟩ <;> cases h <;>
    simp only [Evc.pend, Half.base, Dout.doStatus, Dout.outApplied, Dout.outReadback, Dout.doCondMap] at e <;> omega
theorem not_outMapReg_doStatus {o : Nat} (_ : o < 256) : ¬ OutMapReg o (Dout.doStatus o) := by
  rintro (h | h | h) <;> simp only [Dout.doStatus, Dout.outApplied, Dout.outReadback, Dout.doCondMap] at h <;> omega
theorem grpAt_not_eventReg {n o : Nat} (h : Half) (hn : n < 8) (ho : o < 0x100) : ¬ EventReg h (grpAt n o) := by
  rintro (⟨h1, h2⟩ | ⟨h1, h2⟩) <;> cases h <;> simp only [grpAt, Half.base] at h1 h2 <;> omega

/-! ### The run of an output -/

/-- Output `o` in the field deck. -/
def DeckSt.dout (d : DeckSt) (o : Nat) : DoutRun := Map.get (fun _ => {}) d.douts o
@[simp] theorem State.dout_modDout (s : State) (o : Nat) (f : DoutRun → DoutRun) : (s.modDout o f).dout o = f (s.dout o) :=
  Map.get_set_same ..
theorem State.dout_modDout_other (s : State) {o k : Nat} (f : DoutRun → DoutRun) (hk : k ≠ o) :
    (s.modDout o f).dout k = s.dout k := Map.get_set_other _ _ _ _ _ hk
@[simp] theorem State.rg_modDout (s : State) (o a : Nat) (f : DoutRun → DoutRun) : (s.modDout o f).rg a = s.rg a :=
  State.rg_modDeck _ _ _ rfl
@[simp] theorem State.runs_modDout (s : State) (o : Nat) (f : DoutRun → DoutRun) (h : Half) : (s.modDout o f).runs h = s.runs h :=
  State.runs_modDeck ..
theorem State.dout_of_deck {s t : State} (hd : t.deck = s.deck) (o : Nat) : t.dout o = s.dout o := by rw [State.dout, hd, State.dout]
/-- An output that is shut down on a card that is ready is off. -/
theorem State.doDrive_hot {s : State} {o : Nat} (h3 : s.bt (Dout.grpStatus (o / 32)) 3 = true) (hh : (s.dout o).hot = true) :
    (s.doDrive o).2 = false := by
  by_cases hl : s.lidOff o = true <;> simp [State.doDrive, h3, hh, hl]

/-! ### An output shown (R282-R284) -/

/-- DO_STATUS of output `o` follows the cause in force. -/
def State.doDriven (s : State) (o : Nat) : State :=
  let t := ((s.sb (Dout.doStatus o) 0 (s.doDrive o).2).fw (Dout.doStatus o) 3 1 (s.doDrive o).1).sb (Dout.doStatus o) 9 (s.lidOff o)
  if (s.doDrive o).2 then t.sb (Dout.doStatus o) 4 false else t
/-- The bits of DO_STATUS that follow the cause in force. -/
def DrivenBit (o a n : Nat) : Prop := a = Dout.doStatus o ∧ (n ≤ 4 ∨ n = 9)
/-- The bits that showing output `o` writes. -/
def ShownOut (o a n : Nat) : Prop := DrivenBit o a n ∨ OutMapReg o a

section
variable {β : Type} {W : Nat → Nat → Prop} {v : DeckSt → β} {s t : State} {o : Nat}

theorem Leaves.modDout (L : Leaves W v s t) {f : DoutRun → DoutRun}
    (hv : v { t.deck with douts := Map.set (fun _ => {}) t.deck.douts o (f (t.deck.dout o)) } = v t.deck) :
    Leaves W v s (t.modDout o f) := L.modDeck rfl hv
theorem State.leaves_doDriven (s : State) (o : Nat) (v : DeckSt → β) : Leaves (DrivenBit o) v s (s.doDriven o) := by
  have hbit {u : State} {n : Nat} {b : Bool} (hn : n ≤ 4 ∨ n = 9) (hu : Leaves (DrivenBit o) v s u) :
      Leaves (DrivenBit o) v s (u.sb (Dout.doStatus o) n b) := hu.sb ⟨rfl, hn⟩
  have hcause : Leaves (DrivenBit o) v s (((s.sb (Dout.doStatus o) 0 (s.doDrive o).2).fw (Dout.doStatus o) 3 1 (s.doDrive o).1).sb
      (Dout.doStatus o) 9 (s.lidOff o)) :=
    hbit (by decide) ((hbit (by decide) (.refl ..)).fw fun n _ h => ⟨rfl, by omega⟩)
  exact .ite (fun _ => hbit (by decide) hcause) fun _ => hcause
theorem State.bt_doDriven (s : State) (o : Nat) : (s.doDriven o).bt (Dout.doStatus o) 0 = (s.doDrive o).2 := by
  have hcause : (((s.sb (Dout.doStatus o) 0 (s.doDrive o).2).fw (Dout.doStatus o) 3 1 (s.doDrive o).1).sb (Dout.doStatus o) 9
      (s.lidOff o)).bt (Dout.doStatus o) 0 = (s.doDrive o).2 :=
    (State.bt_fw_beside _ _ _ _ le_rfl (by decide)).trans ((State.bt_fw_beside _ _ _ _ (by decide) (by decide)).trans
      (State.bt_sb _ _ _ (by decide)))
  rw [State.doDriven]
  split
  · exact (State.bt_fw_beside _ _ _ _ le_rfl (by decide)).trans hcause
  · exact hcause
/-- An output that is off keeps what its DO_STATUS shows of a shutdown. -/
theorem State.bt_doDriven_off {s : State} {o : Nat} (h : (s.doDrive o).2 = false) :
    (s.doDriven o).bt (Dout.doStatus o) 4 = s.bt (Dout.doStatus o) 4 := by
  rw [State.doDriven, if_neg (by simp [h])]
  exact (State.bt_fw_beside _ _ _ _ le_rfl (by decide)).trans ((State.bt_fw_beside _ _ _ _ (by decide) (by decide)).trans
    (State.bt_fw_beside _ _ _ _ le_rfl (by decide)))
theorem State.leaves_doMapped (s : State) (o : Nat) (v : DeckSt → β) : Leaves (fun a _ => OutMapReg o a) v (s.doDriven o) (s.doShow o) :=
  (((Leaves.refl ..).sb (.inl rfl)).sb (.inr (.inl rfl))).setMapBit (.inr (.inr rfl))
theorem State.leaves_doShow (s : State) (o : Nat) (v : DeckSt → β) : Leaves (ShownOut o) v s (s.doShow o) :=
  ((s.leaves_doDriven o v).mono fun _ _ => .inl).trans ((s.leaves_doMapped o v).mono fun _ _ => .inr)
theorem State.leaves_doOne (s : State) (o : Nat) (v : DeckSt → β) : Leaves (ShownOut o) v s (s.doOne o) := (s.leaves_doShow o v).image
theorem State.leaves_doCard (s : State) (n : Nat) (v : DeckSt → β) : Leaves (fun a _ => CardOutReg n a) v s (s.doCard n) :=
  (Leaves.refl ..).doCard fun k hk _ _ h => ⟨k, hk, h⟩

section
variable (s) (ho : o < 256)
include ho
/-- What DO_STATUS shows beside the cause in force stays. -/
theorem State.bt_doOne_status {n : Nat} (hn : 4 < n ∧ n ≠ 9) : (s.doOne o).bt (Dout.doStatus o) n = s.bt (Dout.doStatus o) n :=
  (s.leaves_doOne o fun _ => ()).bt (not_or.2 ⟨fun h => by have := h.2; omega, not_outMapReg_doStatus ho⟩)
theorem State.bt_doOne : (s.doOne o).bt (Dout.doStatus o) 0 = (s.doDrive o).2 :=
  (((s.leaves_doMapped o fun _ => ()).image (off := _)).bt (not_outMapReg_doStatus ho)).trans (s.bt_doDriven o)
theorem State.bt_doOne_off (h : (s.doDrive o).2 = false) : (s.doOne o).bt (Dout.doStatus o) 4 = s.bt (Dout.doStatus o) 4 :=
  (((s.leaves_doMapped o fun _ => ()).image (off := _)).bt (not_outMapReg_doStatus ho)).trans (State.bt_doDriven_off h)
/-- OUT_READBACK shows an output that is on, or whose terminal is held high. -/
theorem State.readback_doOne :
    (s.doOne o).bt (Dout.outReadback (o / 32)) (o % 32) = ((s.doOne o).bt (Dout.doStatus o) 0 || (s.dout o).term) := by
  let u := (s.doDriven o).sb (Dout.outApplied (o / 32)) (o % 32) (s.doDrive o).2
  have hterm : (u.dout o).term = (s.dout o).term :=
    congrArg DoutRun.term (s.leaves_doDriven o (DeckSt.dout · o)).deck
  have hmap : Dout.outReadback (o / 32) ≠ Dout.doCondMap 0 + 4 * (o / 32) := by
    simp only [Dout.outReadback, Dout.doCondMap]; omega
  let shown := u.sb (Dout.outReadback (o / 32)) (o % 32) ((s.doDrive o).2 || (u.dout o).term)
  have L : Leaves (fun a _ => a = Dout.doCondMap 0 + 4 * (o / 32)) (fun _ => ()) shown (s.doOne o) :=
    ((Leaves.refl ..).setMapBit rfl).image
  rw [L.bt hmap, s.bt_doOne ho, ← hterm]
  exact State.bt_sb _ _ _ (Nat.mod_lt _ (by decide))
end
end

end Sys2Proof.Machine
end

section
/-! The watchdog of an output card and the writes of its outputs (R281, R286-R288). -/
namespace Sys2Proof.Machine

/-! ### Feeds (R286) -/

/-- The ticks at which the cards' watchdogs were last fed. -/
def DeckSt.fedT (d : DeckSt) (n : Nat) : Nat := Map.get (fun _ => 0) d.wdFed n
/-- Card `n` fed now, before its state follows. -/
def State.fedNow (s : State) (n : Nat) : State :=
  s.modDeck (fun d => { d with wdFed := Map.set (fun _ => 0) d.wdFed n d.ticks })

section
variable {s : State} {n : Nat}

@[simp] theorem State.rg_fedNow (a : Nat) : (s.fedNow n).rg a = s.rg a := State.rg_modDeck _ _ _ rfl
@[simp] theorem State.fedT_fedNow : (s.fedNow n).deck.fedT n = s.deck.ticks := Map.get_set_same ..
@[simp] theorem State.runs_fedNow (h : Half) : (s.fedNow n).runs h = s.runs h := State.runs_modDeck ..
/-- A feed of a card that is ready: NOT_FED becomes ARMED, and a tripped one re-arms where its configuration says so. -/
theorem State.wdFeed_ready (h3 : s.bt (Dout.grpStatus n) 3 = true) : s.wdFeed n =
    if s.fd (Dout.grpStatus n) 1 0 = 0 then (s.fedNow n).fw (Dout.grpStatus n) 1 0 1
    else if s.fd (Dout.grpStatus n) 1 0 = 2 ∧ (s.fedNow n).bt (Dout.grpCfg n) 16 = false then
      ((s.fedNow n).fw (Dout.grpStatus n) 1 0 1).reportDeck 0x0929 9 n [1]
    else s.fedNow n := if_neg (by simp [h3])
theorem State.wdFeed_not_ready (h3 : s.bt (Dout.grpStatus n) 3 = false) : s.wdFeed n = s := if_pos h3
/-- A feed that reaches a ready card leaves the time and the registers beside the watchdog's state. -/
theorem State.leaves_wdFeed (h3 : s.bt (Dout.grpStatus n) 3 = true) :
    Leaves (fun a _ => a = Dout.grpStatus n) (DeckSt.fedT · n) (s.fedNow n) (s.wdFeed n) := by
  rw [State.wdFeed_ready h3]
  exact .ite (fun _ => (Leaves.refl ..).fw fun _ _ _ => rfl) fun _ =>
    .ite (fun _ => ((Leaves.refl ..).fw fun _ _ _ => rfl).reportDeck) fun _ => .refl ..
theorem State.rg_wdFeed {a : Nat} (ha : a ≠ Dout.grpStatus n) : (s.wdFeed n).rg a = s.rg a := by
  cases h3 : s.bt (Dout.grpStatus n) 3 with
  | false => rw [State.wdFeed_not_ready h3]
  | true => exact ((State.leaves_wdFeed h3).rg fun _ => ha).trans (State.rg_fedNow a)
/-- What a feed gives, once the card's outputs are shown. -/
theorem State.fed_spec (hn : n < 8) (h3 : s.bt (Dout.grpStatus n) 3 = true) :
    ((s.wdFeed n).doCard n).deck.fedT n = s.deck.ticks
      ∧ (s.fd (Dout.grpStatus n) 1 0 = 0 → ((s.wdFeed n).doCard n).fd (Dout.grpStatus n) 1 0 = 1) := by
  have L := (s.wdFeed n).leaves_doCard n (DeckSt.fedT · n)
  refine ⟨L.deck.trans ((State.leaves_wdFeed h3).deck.trans State.fedT_fedNow), fun h0 => ?_⟩
  refine (L.fd fun _ _ _ => not_cardOutReg_grpAt (o := 0x20) hn (by decide)).trans ?_
  rw [State.wdFeed_ready h3, if_pos h0]
  exact State.fd_fw _ _ _ (by decide) (by decide)
end

theorem doOutWrite_completes (h : Half) (n : Nat) (hi : Bool) (val : Word) (m a : Nat) (s : State) (hn : n < 8)
    (hd : s.deck.inReset = false) (hm : MayCmd s h (32 + n)) (hmask : m = val.toNat / 65536 % 65536)
    (ha : a = (if hi then Dout.outHi n else Dout.outLo n)) :
    Gives (.doOutWrite h n hi val) s (fun t =>
      t.rn a = (s.rn a &&& (65535 - m)) + (val.toNat % 65536 &&& m)
      ∧ (s.bt (Dout.grpStatus n) 3 = true → Map.get (fun _ => 0) t.deck.wdFed n = s.deck.ticks
          ∧ (s.fd (Dout.grpStatus n) 1 0 = 0 → t.fd (Dout.grpStatus n) 1 0 = 1))) := by
  subst hmask
  let x := (s.rn a &&& (65535 - val.toNat / 65536 % 65536)) + (val.toNat % 65536 &&& val.toNat / 65536 % 65536)
  let u := s.wn a x
  obtain ⟨o, ho, hao⟩ : ∃ o, o < 0x20 ∧ a = grpAt n o := by
    cases hi
    · exact ⟨0x10, by decide, ha⟩
    · exact ⟨0x14, by decide, ha⟩
  have hst : a ≠ Dout.grpStatus n := by simp only [hao, grpAt_names, grpAt]; omega
  have hgrp : u.rg (Dout.grpStatus n) = s.rg (Dout.grpStatus n) := (State.rg_wn ..).trans (if_neg hst.symm)
  have hex : exec (.doOutWrite h n hi val) s = .next ((u.wdFeed n).doCard n) := by
    refine congrArg Host.Outcome.next ((s.onDeck_out_of_reset _ hd).trans ((State.deckCmd_of_mayCmd _ hm).trans ?_))
    simp only [← ha]
    rfl
  have hx : x < 2 ^ 32 := by
    have h1 : (s.rn a &&& (65535 - val.toNat / 65536 % 65536)) ≤ _ := Nat.and_le_right
    have h2 : (val.toNat % 65536 &&& val.toNat / 65536 % 65536) ≤ _ := Nat.and_le_right
    omega
  refine ⟨_, hex, ?_, fun h3 => ?_⟩
  · have hrg : ((u.wdFeed n).doCard n).rg a = u.rg a :=
      (((u.wdFeed n).leaves_doCard n fun _ => ()).rg fun _ => hao ▸ not_cardOutReg_grpAt hn (by omega)).trans (State.rg_wdFeed hst)
    rw [State.rn, hrg, State.rg_wn, if_pos rfl, BitVec.toNat_ofNat, Nat.mod_eq_of_lt hx]
  · obtain ⟨hfed, harm⟩ := State.fed_spec (s := u) hn ((congrArg (bit · 3) hgrp).trans h3)
    exact ⟨hfed, fun h0 => harm ((congrArg (bits · 1 0) hgrp).trans h0)⟩

theorem wdKick_completes (h : Half) (n : Nat) (s : State) (hn : n < 8) (hm : MayCmd s h (32 + n))
    (h3 : s.bt (Dout.grpStatus n) 3 = true) :
    Gives (.wdKick h n) s (fun t => Map.get (fun _ => 0) t.deck.wdFed n = s.deck.ticks
      ∧ (s.fd (Dout.grpStatus n) 1 0 = 0 → t.fd (Dout.grpStatus n) 1 0 = 1)) :=
  ⟨_, congrArg Host.Outcome.next (State.deckCmd_of_mayCmd _ hm), State.fed_spec hn h3⟩

theorem wdRestart_completes (h : Half) (n : Nat) (s : State) (hn : n < 8) (hm : MayCmd s h (32 + n))
    (h3 : s.bt (Dout.grpStatus n) 3 = true) (h2 : s.fd (Dout.grpStatus n) 1 0 = 2) :
    Gives (.wdRestart h n) s (fun t => t.fd (Dout.grpStatus n) 1 0 = 1
      ∧ Map.get (fun _ => 0) t.deck.wdFed n = s.deck.ticks ∧ ∀ g, s.runs g = true → Reported t g 0x0929 9 n) := by
  let armed := (s.fw (Dout.grpStatus n) 1 0 1).fedNow n
  let u := armed.reportDeck 0x0929 9 n [0]
  have L := u.leaves_doCard n (DeckSt.fedT · n)
  refine ⟨u.doCard n, congrArg Host.Outcome.next ((State.deckCmd_of_mayCmd _ hm).trans (if_pos ⟨h3, h2⟩)), ?_, ?_, fun g hr => ?_⟩
  · refine (L.fd fun _ _ _ => not_cardOutReg_grpAt (o := 0x20) hn (by decide)).trans ?_
    exact (congrArg (bits · 1 0) ((State.rg_reportDeck ..).trans (State.rg_fedNow _))).trans (State.fd_fw _ _ _ (by decide) (by decide))
  · exact L.deck.trans ((congrArg (DeckSt.fedT · n) (State.deck_reportDeck ..)).trans State.fedT_fedNow)
  · exact L.reported (State.reported_reportDeck _ _ _ _ _ ((State.runs_fedNow g).trans ((State.runs_fw ..).trans hr)))

/-! ### The watchdog runs out (R286, R287) -/

/-- Every output of card `n` keeps for HOLD the bit of `w` that is its own. -/
def State.held (s : State) (n w : Nat) : State :=
  (List.range 32).foldl (fun t k => t.modDout (32 * n + k) (fun x => { x with hold := w.testBit k })) s

section
variable (s : State) (n w : Nat)
theorem State.leaves_held : Leaves (fun _ _ => False) (fun _ => ()) s (s.held n w) :=
  (Leaves.refl ..).foldl fun _ _ _ hu => hu.modDout rfl
theorem State.hold_held {k : Nat} (hk : k < 32) : ((s.held n w).dout (32 * n + k)).hold = w.testBit k :=
  foldl_establishes (p := (· < 32)) (Q := fun k t => (State.dout t (32 * n + k)).hold = w.testBit k)
    (fun t e _ => by rw [State.dout_modDout])
    (fun t k e _ _ h => by
      by_cases hke : k = e
      · rw [hke, State.dout_modDout]
      · rw [State.dout_modDout_other _ _ (by omega), h])
    _ s (fun _ => List.mem_range.1) k (List.mem_range.2 hk)
end

theorem wdExpired_completes (n : Nat) (s : State) (hn : n < 8) (hd : s.deck.inReset = false)
    (h3 : s.bt (Dout.grpStatus n) 3 = true) (h1 : s.fd (Dout.grpStatus n) 1 0 = 1)
    (ht : Map.get (fun _ => 0) s.deck.wdFed n + s.wdMs n * 245000 ≤ s.deck.ticks) :
    Gives (.wdExpired n) s (fun t => t.fd (Dout.grpStatus n) 1 0 = 2
      ∧ t.fd (Dout.grpStatus n) 31 16 = (s.fd (Dout.grpStatus n) 31 16 + 1) % 65536
      ∧ (∀ k, k < 32 → (t.dout (32 * n + k)).hold = (s.rn (Dout.outApplied n)).testBit k)
      ∧ ∀ h, s.runs h = true → Pends t h (616 + n) ∧ Reported t h 0x0928 9 n) := by
  let was := s.rn (Dout.outApplied n)
  let held := s.held n was
  let tripped := held.fw (Dout.grpStatus n) 1 0 2
  let shown := tripped.fw (Dout.grpStatus n) 31 16 (held.fd (Dout.grpStatus n) 31 16 + 1)
  let raised := shown.raiseBoth (616 + n)
  let u := raised.reportDeck 0x0928 9 n [shown.wdMs n, was]
  have hs : 616 + n < 1024 := by omega
  have hex : exec (.wdExpired n) s = .next (u.doCard n) :=
    congrArg Host.Outcome.next ((s.onDeck_out_of_reset _ hd).trans (if_pos ⟨h3, h1, ht⟩))
  have L := u.leaves_doCard n DeckSt.douts
  have R : Leaves (fun a _ => ∃ h, EventReg h a) DeckSt.douts shown u :=
    ((Leaves.refl ..).raiseBoth hs fun _ _ h e => ⟨h, e⟩).reportDeck
  have hfd (x y : Nat) : (u.doCard n).fd (Dout.grpStatus n) x y = shown.fd (Dout.grpStatus n) x y :=
    (L.fd fun _ _ _ => not_cardOutReg_grpAt (o := 0x20) hn (by decide)).trans
      (R.fd fun _ _ _ ⟨h, e⟩ => grpAt_not_eventReg (o := 0x20) h hn (by decide) e)
  refine ⟨_, hex, (hfd 1 0).trans ?_, (hfd 31 16).trans ?_, fun k hk => ?_, fun h hr => ?_⟩
  · exact (State.fd_fw_beside _ _ _ _ (by decide) (by decide) (by decide)).trans (State.fd_fw _ _ _ (by decide) (by decide))
  · rw [State.fd_fw _ _ _ (by decide) (by decide), (s.leaves_held n was).fd fun _ _ _ => not_false]
    rfl
  · have hdeck : shown.deck.douts = held.deck.douts := congrArg DeckSt.douts ((State.deck_fw ..).trans (State.deck_fw ..))
    have hdout : (u.doCard n).dout (32 * n + k) = held.dout (32 * n + k) :=
      congrArg (fun m : Map DoutRun => Map.get (fun _ => {}) m (32 * n + k)) ((L.deck.trans R.deck).trans hdeck)
    exact (congrArg DoutRun.hold hdout).trans (s.hold_held n was hk)
  · have hrun : shown.runs h = true := by
      simpa [shown, tripped] using ((s.leaves_held n was).runs h).trans hr
    have hp : Pends u h (616 + n) :=
      (State.mapBit_of_rg (State.rg_reportDeck ..)).trans (State.pends_raiseBoth _ (by omega) hrun)
    exact ⟨L.pends (fun _ => not_cardOutReg_pend h hn (by omega)) hp,
      L.reported (State.reported_reportDeck _ _ _ _ _ ((State.runs_raiseBoth ..).trans hrun))⟩

end Sys2Proof.Machine
end

section
/-! Thermal shutdown, retries, supply and diagnosis of digital outputs (R280, R283, R284, R288); and all commands of the outputs
together. -/
namespace Sys2Proof.Machine

/-! ### Shutdown and restart (R283, R288) -/

/-- The run of an output shut down, with this shutdown among those of the last 60 s. -/
def State.shutDown (s : State) (o : Nat) : State :=
  s.modDout o (fun x => { x with
    hot := true
    offs := s.fieldNow (32 + o / 32) :: (s.dout o).offs.filter (fun t => decide (s.fieldNow (32 + o / 32) < t + 60000000000)) })
/-- A shutdown shown, counted and recorded. -/
def State.shutDownShown (s : State) (o : Nat) : State :=
  (((s.shutDown o).sb (Dout.doStatus o) 4 true).satF (Dout.doCounts o) 15 0 1).reportDeck 0x0923 0xA o [(s.bt (Dout.doCfg o) 2).toNat]
/-- Whether a shutdown waits for RETRY: without AUTO_RETRY at once, with it at the 16th in 60 s. -/
def State.latchJudged (s : State) (o : Nat) (auto : Bool) (offs : Nat) : State :=
  if auto = false then s.sb (Dout.doStatus o) 5 true
  else if 16 ≤ offs then (s.sb (Dout.doStatus o) 5 true).reportDeck 0x0924 0xA o [offs]
  else s

theorem doCounts_ne_doStatus (o k : Nat) : Dout.doStatus o ≠ Dout.doCounts k := by
  simp only [Dout.doStatus, Dout.doCounts]; omega

theorem thermalOff_completes (o : Nat) (s : State) (ho : o < 256) (hd : s.deck.inReset = false)
    (h3 : s.bt (Dout.grpStatus (o / 32)) 3 = true) (hh : (s.dout o).hot = false) :
    Gives (.thermalOff o) s (fun t => (t.dout o).hot = true ∧ t.bt (Dout.doStatus o) 4 = true
      ∧ t.bt (Dout.doStatus o) 0 = false ∧ (s.bt (Dout.doCfg o) 2 = false → t.bt (Dout.doStatus o) 5 = true)
      ∧ ∀ h, s.runs h = true → Reported t h 0x0923 0xA o) := by
  let offs := s.fieldNow (32 + o / 32) :: (s.dout o).offs.filter (fun t => decide (s.fieldNow (32 + o / 32) < t + 60000000000))
  let shown := s.shutDownShown o
  let u := shown.latchJudged o (s.bt (Dout.doCfg o) 2) offs.length
  have hex : exec (.thermalOff o) s = .next (u.doOne o) :=
    congrArg Host.Outcome.next ((s.onDeck_out_of_reset _ hd).trans (if_neg (by simp [h3, hh])))
  have J : Leaves (fun a n => a = Dout.doStatus o ∧ n = 5) (DeckSt.dout · o) shown u :=
    .ite (fun _ => (Leaves.refl ..).sb ⟨rfl, rfl⟩) fun _ => .ite (fun _ => ((Leaves.refl ..).sb ⟨rfl, rfl⟩).reportDeck) fun _ => .refl ..
  have L := u.leaves_doOne o (DeckSt.dout · o)
  have hrun : (shown.dout o).hot = true := by
    have : shown.dout o = (s.shutDown o).dout o := State.dout_of_deck (State.deck_reportDeck ..) o
    rw [this, State.shutDown, State.dout_modDout]
  have hhot : (u.dout o).hot = true := (congrArg DoutRun.hot J.deck).trans hrun
  have hgrp : u.bt (Dout.grpStatus (o / 32)) 3 = true := by
    have h1 : Dout.grpStatus (o / 32) ≠ Dout.doStatus o := by simp only [Dout.grpStatus, Dout.doStatus]; omega
    have h2 : Dout.grpStatus (o / 32) ≠ Dout.doCounts o := by simp only [Dout.grpStatus, Dout.doCounts]; omega
    rw [J.bt fun h => h1 h.1]
    simpa [shown, State.shutDownShown, State.shutDown, State.bt, h1, h2] using h3
  have hoff : (u.doDrive o).2 = false := State.doDrive_hot hgrp hhot
  have h4 : shown.bt (Dout.doStatus o) 4 = true := by
    simp [shown, State.shutDownShown, State.bt, doCounts_ne_doStatus, bit_setBit]
  refine ⟨_, hex, (congrArg DoutRun.hot L.deck).trans hhot, ?_, (u.bt_doOne ho).trans hoff, fun hauto => ?_, fun h hr => ?_⟩
  · exact (u.bt_doOne_off ho hoff).trans ((J.bt (by simp)).trans h4)
  · refine (u.bt_doOne_status ho (by decide)).trans ?_
    have hu : u = shown.sb (Dout.doStatus o) 5 true := if_pos hauto
    rw [hu]
    exact State.bt_sb _ _ _ (by decide)
  · exact L.reported (J.reported (State.reported_reportDeck _ _ _ _ _
      ((State.runs_satF ..).trans ((State.runs_sb ..).trans ((State.runs_modDout ..).trans hr)))))

/-- The run of an output after it is shown. -/
theorem State.dout_doOne (s : State) (o k : Nat) : (s.doOne o).dout k = s.dout k := (s.leaves_doOne o (DeckSt.dout · k)).deck

theorem thermalAutoRetry_completes (o : Nat) (s : State) (hd : s.deck.inReset = false) (hauto : s.bt (Dout.doCfg o) 2 = true)
    (hh : (s.dout o).hot = true) (h5 : s.bt (Dout.doStatus o) 5 = false)
    (ht : (s.dout o).offs.headD 0 + 500000000 ≤ s.fieldNow (32 + o / 32)) :
    Gives (.thermalAutoRetry o) s (fun t => (t.dout o).hot = false) :=
  ⟨_, congrArg Host.Outcome.next ((s.onDeck_out_of_reset _ hd).trans (if_pos ⟨hauto, hh, h5, ht⟩)),
    congrArg DoutRun.hot ((State.dout_doOne _ o o).trans (State.dout_modDout ..))⟩

section
variable (h : Half) (o : Nat) (s : State) (ho : o < 256) (hm : MayCmd s h (32 + o / 32))
include ho hm

theorem doRetry_cool_completes (h5 : s.bt (Dout.doStatus o) 5 = true) :
    Gives (.doRetry h o true) s (fun t => (t.dout o).hot = false ∧ t.bt (Dout.doStatus o) 5 = false
      ∧ t.fd (Dout.doStatus o) 11 10 = 0) := by
  let cooled := s.modDout o (fun x => { x with hot := false })
  let cleared := cooled.sb (Dout.doStatus o) 5 false
  let u := cleared.fw (Dout.doStatus o) 11 10 0
  have hex : exec (.doRetry h o true) s = .next (u.doOne o) :=
    congrArg Host.Outcome.next ((State.deckCmd_of_mayCmd _ hm).trans ((if_pos h5).trans (if_pos rfl)))
  have hhot : (u.dout o).hot = false := congrArg DoutRun.hot (State.dout_modDout s o fun x => { x with hot := false })
  refine ⟨_, hex, (congrArg DoutRun.hot (u.dout_doOne o o)).trans hhot, (u.bt_doOne_status ho (by decide)).trans ?_, ?_⟩
  · exact (State.bt_fw_beside _ _ _ _ (by decide) (by decide)).trans (State.bt_sb _ _ _ (by decide))
  · refine ((u.leaves_doOne o fun _ => ()).fd fun n h1 h2 => ?_).trans (State.fd_fw _ _ _ (by decide) (by decide))
    exact not_or.2 ⟨fun hb => by have := hb.2; omega, not_outMapReg_doStatus ho⟩
omit ho in
theorem doRetry_hot_completes (h5 : s.bt (Dout.doStatus o) 5 = true) :
    Gives (.doRetry h o false) s (fun t => t.fd (Dout.doStatus o) 11 10 = 1 ∧ t.dout o = s.dout o ∧ SameMem s t
      ∧ SameRegs s t (fun a => a = Dout.doStatus o)) :=
  ⟨_, congrArg Host.Outcome.next ((State.deckCmd_of_mayCmd _ hm).trans ((if_pos h5).trans (if_neg Bool.false_ne_true))),
    State.fd_fw _ _ _ (by decide) (by decide), State.dout_of_deck (State.deck_fw ..) o, fun _ => State.byte_fw ..,
    fun _ ha => (State.rg_fw ..).trans (if_neg ha)⟩
omit ho in
theorem doClearCounts_completes :
    Gives (.doClearCounts h o) s (fun t => t.rg (Dout.doCounts o) = 0 ∧ t.fd (Dout.doStatus o) 11 10 = 0 ∧ SameMem s t
      ∧ SameRegs s t (fun a => a = Dout.doCounts o ∨ a = Dout.doStatus o)) := by
  refine ⟨(s.wr (Dout.doCounts o) 0).fw (Dout.doStatus o) 11 10 0, congrArg Host.Outcome.next (State.deckCmd_of_mayCmd _ hm), ?_,
    State.fd_fw _ _ _ (by decide) (by decide), fun a => (State.byte_fw ..).trans (State.byte_wr ..), fun a ha => ?_⟩
  · rw [State.rg_fw, if_neg (doCounts_ne_doStatus o o).symm, State.rg_wr, if_pos rfl]
  · obtain ⟨h1, h2⟩ := not_or.1 ha
    rw [State.rg_fw, if_neg h2, State.rg_wr, if_neg h1]
end

/-! ### Supply of a section (R280) -/

theorem supplyLow_completes (n sec : Nat) (on : Bool) (volt : Nat) (s : State) (hn : n < 8) (hsec : sec < 8)
    (hd : s.deck.inReset = false) :
    Gives (.supplyLow n sec on volt) s (fun t => t.bt (Dout.grpStatus n) (8 + sec) = on
      ∧ (on = true → s.bt (Dout.grpStatus n) (8 + sec) = false → ∀ h, s.runs h = true → Reported t h 0x0927 9 n)) := by
  let shown := s.sb (Dout.grpStatus n) (8 + sec) on
  let u := if on && !s.bt (Dout.grpStatus n) (8 + sec) then shown.reportDeck 0x0927 9 n [sec, volt] else shown
  have hex : exec (.supplyLow n sec on volt) s = .next (u.doCard n) := congrArg Host.Outcome.next (s.onDeck_out_of_reset _ hd)
  have R : Leaves (fun _ _ => False) (fun _ => ()) shown u := .ite (fun _ => (Leaves.refl ..).reportDeck) fun _ => .refl ..
  have L := u.leaves_doCard n fun _ => ()
  refine ⟨_, hex, ?_, fun hon hwas h hr => L.reported ?_⟩
  · exact (L.bt (not_cardOutReg_grpAt (o := 0x20) hn (by decide))).trans ((R.bt not_false).trans (State.bt_sb _ _ _ (by omega)))
  · have hu : u = shown.reportDeck 0x0927 9 n [sec, volt] := if_pos (by simp [hon, hwas])
    rw [hu]
    exact State.reported_reportDeck _ _ _ _ _ ((State.runs_sb ..).trans hr)

/-! ### Diagnosis (R283, R284) -/

/-- A fault of an output shown in bit `b` of DO_STATUS, counted and recorded. -/
def State.outFault (s : State) (o b code : Nat) (d : List Nat) : State :=
  ((s.sb (Dout.doStatus o) b true).satF (Dout.doCounts o) 31 16 1).reportDeck code 0xA o d

section
variable (s : State) {o b : Nat} (code : Nat) (d : List Nat)
theorem State.bt_outFault (ho : o < 256) (hb : 4 < b ∧ b ≠ 9) (hb' : b < 32) :
    ((s.outFault o b code d).doOne o).bt (Dout.doStatus o) b = true := by
  refine (State.bt_doOne_status _ ho hb).trans ?_
  simp [State.outFault, State.bt, doCounts_ne_doStatus, bit_setBit, hb']
theorem State.reported_outFault {h : Half} (hr : s.runs h = true) : Reported ((s.outFault o b code d).doOne o) h code 0xA o :=
  (State.leaves_doOne _ o fun _ => ()).reported
    (State.reported_reportDeck _ _ _ _ _ ((State.runs_satF ..).trans ((State.runs_sb ..).trans hr)))
end

section
variable (o : Nat) (s : State) (ho : o < 256) (hd : s.deck.inReset = false)
include ho hd

theorem openLoad_begins_completes (h3 : s.bt (Dout.doCfg o) 3 = true) (h0 : s.bt (Dout.doStatus o) 0 = true)
    (h7 : s.bt (Dout.doStatus o) 7 = false) :
    Gives (.openLoad o true) s (fun t => t.bt (Dout.doStatus o) 7 = true ∧ ∀ h, s.runs h = true → Reported t h 0x0925 0xA o) :=
  ⟨(s.outFault o 7 0x0925 []).doOne o,
    congrArg Host.Outcome.next ((s.onDeck_out_of_reset _ hd).trans ((if_pos rfl).trans (if_pos ⟨h3, h0, h7⟩))),
    s.bt_outFault _ _ ho (by decide) (by decide), fun _ => s.reported_outFault _ _⟩
theorem openLoad_ends_completes : Gives (.openLoad o false) s (fun t => t.bt (Dout.doStatus o) 7 = false) :=
  ⟨_, congrArg Host.Outcome.next ((s.onDeck_out_of_reset _ hd).trans (if_neg Bool.false_ne_true)),
    (State.bt_doOne_status _ ho (by decide)).trans (State.bt_sb _ _ _ (by decide))⟩

/-- Output `o` with its terminal held high from outside, or no longer, by the phase of its diagnosis. -/
def State.termAt (s : State) (o k : Nat) : State := s.modDout o (fun x => { x with term := decide (k = 1) || decide (k = 2) })
/-- SHORT_TO_SUPPLY begins or ends by the phase of the diagnosis. -/
def State.supplyShort (s : State) (o k volt : Nat) : State :=
  if k = 2 ∧ s.bt (Dout.doCfg o) 3 ∧ s.bt (Dout.doStatus o) 0 = false ∧ s.secLow o = false ∧ s.bt (Dout.doStatus o) 8 = false then
    s.outFault o 8 0x0926 [volt]
  else if k = 0 then s.sb (Dout.doStatus o) 8 false else s
omit ho hd in
theorem State.dout_supplyShort (k volt : Nat) : (s.supplyShort o k volt).dout o = s.dout o := by
  rw [State.supplyShort]
  split
  · exact State.dout_of_deck ((State.deck_reportDeck ..).trans ((State.deck_satF ..).trans (State.deck_sb ..))) o
  · split
    · exact State.dout_of_deck (State.deck_sb ..) o
    · rfl
omit ho hd in
theorem State.term_termAt (k : Nat) : ((s.termAt o k).dout o).term = (decide (k = 1) || decide (k = 2)) := by
  rw [State.termAt, State.dout_modDout]
omit ho in
theorem exec_shortToSupply (k volt : Nat) :
    exec (.shortToSupply o k volt) s = .next (((s.termAt o k).supplyShort o k volt).doOne o) :=
  congrArg Host.Outcome.next (s.onDeck_out_of_reset _ hd)

theorem shortToSupply_begins_completes (volt : Nat) (h3 : s.bt (Dout.doCfg o) 3 = true) (h0 : s.bt (Dout.doStatus o) 0 = false)
    (hlow : s.secLow o = false) (h8 : s.bt (Dout.doStatus o) 8 = false) :
    Gives (.shortToSupply o 2 volt) s (fun t => t.bt (Dout.doStatus o) 8 = true
      ∧ ∀ h, s.runs h = true → Reported t h 0x0926 0xA o) := by
  have hbt (a n : Nat) : (s.termAt o 2).bt a n = s.bt a n := congrArg (bit · n) (State.rg_modDout ..)
  have hu : (s.termAt o 2).supplyShort o 2 volt = (s.termAt o 2).outFault o 8 0x0926 [volt] :=
    if_pos ⟨rfl, (hbt _ _).trans h3, (hbt _ _).trans h0, (hbt _ _).trans hlow, (hbt _ _).trans h8⟩
  refine ⟨((s.termAt o 2).outFault o 8 0x0926 [volt]).doOne o, ?_, State.bt_outFault _ _ _ ho (by decide) (by decide), fun h hr => ?_⟩
  · rw [exec_shortToSupply o s hd 2 volt, hu]
  · exact State.reported_outFault _ _ _ ((State.runs_modDout ..).trans hr)
theorem shortToSupply_ends_completes (volt : Nat) :
    Gives (.shortToSupply o 0 volt) s (fun t => t.bt (Dout.doStatus o) 8 = false) := by
  refine ⟨_, exec_shortToSupply o s hd 0 volt, (State.bt_doOne_status _ ho (by decide)).trans ?_⟩
  rw [State.supplyShort, if_neg (by simp), if_pos rfl]
  exact State.bt_sb _ _ _ (by decide)
theorem shortToSupply_readback_completes (k volt : Nat) :
    Gives (.shortToSupply o k volt) s (fun t =>
      t.bt (Dout.outReadback (o / 32)) (o % 32) = (t.bt (Dout.doStatus o) 0 || decide (k = 1) || decide (k = 2))) := by
  refine ⟨_, exec_shortToSupply o s hd k volt, (State.readback_doOne _ ho).trans ?_⟩
  rw [State.dout_supplyShort, State.term_termAt, Bool.or_assoc]

theorem limitLong_completes (k : Nat) (hk : k = 0 ∨ s.bt (Dout.doStatus o) 0 = true) :
    Gives (.limitLong o k) s (fun t => t.bt (Dout.doStatus o) 6 = decide (k ≠ 0)
      ∧ (t.dout o).limit = (decide (k = 2) || (decide (k = 1) && (s.dout o).limit))) := by
  refine ⟨_, congrArg Host.Outcome.next ((s.onDeck_out_of_reset _ hd).trans (if_pos hk)), ?_, ?_⟩
  · refine (State.bt_doOne_status _ ho (by decide)).trans ((congrArg (bit · 6) (State.rg_modDout ..)).trans ?_)
    exact State.bt_sb _ _ _ (by decide)
  · rw [State.dout_doOne, State.dout_modDout, Bool.and_comm (decide (k = 1))]
    rfl
end

/-! ### All commands of the outputs -/

/-- Settles O20: the writes and feeds of a card, its watchdog, and the shutdown, restart and diagnosis of its outputs. -/
theorem digitalOutputCommandsComplete : Obligations.DigitalOutputCommandsComplete :=
  ⟨fun h n hi val m a s hn hd hm hmask ha => doOutWrite_completes h n hi val m a s hn hd hm hmask ha,
    fun h n s hn hm h3 => wdKick_completes h n s hn hm h3,
    fun h n s hn hm h3 h2 => wdRestart_completes h n s hn hm h3 h2,
    fun n s hn hd h3 h1 ht => wdExpired_completes n s hn hd h3 h1 ht,
    fun o s ho hd h3 hh => thermalOff_completes o s ho hd h3 hh,
    fun o s _ hd hauto hh h5 ht => thermalAutoRetry_completes o s hd hauto hh h5 ht,
    fun h o s ho hm h5 => ⟨doRetry_cool_completes h o s ho hm h5, doRetry_hot_completes h o s hm h5⟩,
    fun h o s _ hm => doClearCounts_completes h o s hm,
    fun n sec on volt s hn hsec hd => supplyLow_completes n sec on volt s hn hsec hd,
    fun o s ho hd => ⟨openLoad_begins_completes o s ho hd, openLoad_ends_completes o s ho hd⟩,
    fun o volt s ho hd => ⟨shortToSupply_begins_completes o s ho hd volt, shortToSupply_ends_completes o s ho hd volt,
      fun k _ => shortToSupply_readback_completes o s ho hd k volt⟩,
    fun o k s ho _ hd hk => limitLong_completes o s ho hd k hk⟩

end Sys2Proof.Machine
end

section
/-! SUPPORT. The registers and the run of a digital input, and what its shared operations leave (R267-R277, R310). -/
namespace Sys2Proof.Machine

/-! ### The registers of an input -/

/-- The register at offset `o` of input `i`. -/
def inputAt (i o : Nat) : Nat := 0x1100000 + o + 0x40 * i
@[simp] theorem inputAt_inj {i o p : Nat} : inputAt i o = inputAt i p ↔ o = p := by
  simp only [inputAt]
  omega
/-- The named registers of an input by their offsets. -/
theorem inputAt_names (i : Nat) : Din.diCfg i = inputAt i 0x0 ∧ Din.diFreqCfg i = inputAt i 0x4 ∧ Din.diStatus i = inputAt i 0x20
    ∧ Din.diCount i = inputAt i 0x24 ∧ Din.diFreq i = inputAt i 0x28 ∧ Din.diEdgeTLo i = inputAt i 0x2C
    ∧ Din.diEdgeTHi i = inputAt i 0x30 ∧ Din.diCounts i = inputAt i 0x34 := ⟨rfl, rfl, rfl, rfl, rfl, rfl, rfl, rfl⟩

/-- The registers that showing input `i` writes beside DI_STATUS. -/
def InputMapReg (i a : Nat) : Prop := a = Din.diCounts i ∨ a = Din.diStateMap 0 + 4 * (i / 32)
  ∨ a = Din.diValidMap 0 + 4 * (i / 32) ∨ a = Din.diCondMap 0 + 4 * (i / 32)
/-- The registers that a counted edge of input `i` writes beside DI_STATUS. -/
def EdgeCountReg (i a : Nat) : Prop := a = Din.diCount i ∨ a = Din.diWrapMap 0 + 4 * (i / 32) ∨ ∃ h, EventReg h a
/-- The registers that show an edge of input `i`. -/
def EdgeShownReg (i a : Nat) : Prop := a = Din.diEdgeMap 0 + 4 * (i / 32) ∨ ∃ h, EventReg h a
/-- The registers that an edge of input `i` writes beside those that showing it writes. -/
def EdgeReg (i a : Nat) : Prop := a = Din.diEdgeTLo i ∨ a = Din.diEdgeTHi i ∨ EdgeCountReg i a ∨ EdgeShownReg i a
/-- The bits of DI_STATUS of input `i` that `l` lists, and the registers that showing it writes. -/
def InputBit (i : Nat) (l : List Nat) (a n : Nat) : Prop := (a = Din.diStatus i ∧ n ∈ l) ∨ InputMapReg i a
/-- The bits that judging input `i` writes, with those of DI_STATUS that `l` lists. -/
def JudgeBit (i : Nat) (l : List Nat) (a n : Nat) : Prop := InputBit i l a n ∨ EdgeReg i a

theorem InputBit.mono {i : Nat} {l m : List Nat} (hl : ∀ n ∈ l, n ∈ m := by decide) (a n : Nat) : InputBit i l a n → InputBit i m a n :=
  Or.imp_left fun ⟨h, hn⟩ => ⟨h, hl n hn⟩
theorem not_inputMapReg_inputAt {i k o : Nat} (hi : i < 512) (hk : k < 512) (ho : o < 0x40) (hik : k ≠ i ∨ o ≠ 0x34) :
    ¬ InputMapReg i (inputAt k o) := by
  rintro (h | h | h | h) <;> simp only [inputAt, Din.diCounts, Din.diStateMap, Din.diValidMap, Din.diCondMap] at h <;> omega
/-- No register of the digital inputs is an event register. -/
theorem not_eventReg_of_input {a : Nat} (h1 : 0x1100000 ≤ a) (h2 : a < 0x1180000) : ¬ ∃ h, EventReg h a := by
  rintro ⟨h, e⟩
  cases h <;> simp only [EventReg, Half.base] at e <;> omega
theorem not_edgeCountReg_inputAt {i k o : Nat} (hi : i < 512) (hk : k < 512) (ho : o < 0x40) (hik : k ≠ i ∨ o ≠ 0x24) :
    ¬ EdgeCountReg i (inputAt k o) := by
  rintro (h | h | h)
  · simp only [inputAt, Din.diCount] at h; omega
  · simp only [inputAt, Din.diWrapMap] at h; omega
  · exact not_eventReg_of_input (by simp only [inputAt]; omega) (by simp only [inputAt]; omega) h
theorem not_edgeShownReg_inputAt {i k o : Nat} (hi : i < 512) (hk : k < 512) (ho : o < 0x40) : ¬ EdgeShownReg i (inputAt k o) := by
  rintro (h | h)
  · simp only [inputAt, Din.diEdgeMap] at h; omega
  · exact not_eventReg_of_input (by simp only [inputAt]; omega) (by simp only [inputAt]; omega) h
theorem not_edgeReg_inputAt {i k o : Nat} (hi : i < 512) (hk : k < 512) (ho : o < 0x40)
    (hik : k ≠ i ∨ (o ≠ 0x24 ∧ o ≠ 0x2C ∧ o ≠ 0x30)) : ¬ EdgeReg i (inputAt k o) := by
  rintro (h | h | h | h)
  · simp only [inputAt, Din.diEdgeTLo] at h; omega
  · simp only [inputAt, Din.diEdgeTHi] at h; omega
  · exact not_edgeCountReg_inputAt hi hk ho (by omega) h
  · exact not_edgeShownReg_inputAt hi hk ho h
/-- What is judged of one input leaves the registers of another, and of its own those that are not listed. -/
theorem not_judgeBit_inputAt {i k o n : Nat} {l : List Nat} (hi : i < 512) (hk : k < 512) (ho : o < 0x40)
    (h : k ≠ i ∨ (o = 0x20 ∧ n ∉ l) ∨ o = 0) : ¬ JudgeBit i l (inputAt k o) n := by
  refine not_or.2 ⟨not_or.2 ⟨fun ⟨e, hn⟩ => ?_, not_inputMapReg_inputAt hi hk ho (by omega)⟩,
    not_edgeReg_inputAt hi hk ho (by omega)⟩
  obtain h | ⟨-, h⟩ | h := h
  · simp only [inputAt, Din.diStatus] at e; omega
  · exact h hn
  · simp only [h, inputAt, Din.diStatus] at e; omega
theorem not_judgeBit_cardStatus {i n b : Nat} {l : List Nat} (hi : i < 512) (hn : n < 16) :
    ¬ JudgeBit i l (Din.diCardStatus n) b := by
  have hev : ¬ ∃ h, EventReg h (Din.diCardStatus n) :=
    not_eventReg_of_input (by simp only [Din.diCardStatus]; omega) (by simp only [Din.diCardStatus]; omega)
  rintro ((⟨h, -⟩ | h | h | h | h) | h | h | (h | h | h) | (h | h))
  case inr.inr.inr.inl.inr.inr | inr.inr.inr.inr.inr => exact hev h
  all_goals simp only [Din.diStatus, Din.diCounts, Din.diStateMap, Din.diValidMap, Din.diCondMap, Din.diCardStatus, Din.diCount,
    Din.diEdgeTLo, Din.diEdgeTHi, Din.diEdgeMap, Din.diWrapMap] at h; omega

/-! ### The run of an input -/

@[simp] theorem State.din_modDin (s : State) (i : Nat) (f : DinRun → DinRun) : (s.modDin i f).din i = f (s.din i) :=
  Map.get_set_same ..
@[simp] theorem State.rg_modDin (s : State) (i a : Nat) (f : DinRun → DinRun) : (s.modDin i f).rg a = s.rg a :=
  State.rg_modDeck _ _ _ rfl
@[simp] theorem State.byte_modDin (s : State) (i a : Nat) (f : DinRun → DinRun) : (s.modDin i f).byte a = s.byte a :=
  State.byte_modDeck ..
theorem State.din_of_deck {s t : State} (hd : t.deck = s.deck) (i : Nat) : t.din i = s.din i := by rw [State.din, hd, State.din]

/-- A run without the span for which state and VALID have stood. -/
def DinRun.sansSpan (x : DinRun) : DinRun := { x with since := 0, was := 0, wasFor := 0, stepDone := false }
/-- The two paths of a run. -/
def DinRun.paths (x : DinRun) : DiPath × DiPath := (x.p0, x.p1)
/-- The view `v` of the field deck shows of input `i` no more than what `m` leaves of its run. -/
def DinBlind {β γ : Type} (m : DinRun → γ) (i : Nat) (v : DeckSt → β) : Prop :=
  ∀ d f, (∀ x, m (f x) = m x) → v (DeckSt.modDin d i f) = v d

section
variable {β γ δ : Type} {m : DinRun → γ} {i : Nat}
theorem DinBlind.mono {v : DeckSt → β} {m' : DinRun → δ} (hv : DinBlind m' i v) (hm : ∀ x y, m x = m y → m' x = m' y) :
    DinBlind m i v := fun d f hf => hv d f fun x => hm _ _ (hf x)
theorem dinBlind_din (g : DinRun → δ) {k : Nat} (hg : ∀ x y, m x = m y → g x = g y) : DinBlind m i (fun d => g (d.din k)) := by
  intro d f hf
  simp only [DeckSt.din_modDin]
  split
  · next e => rw [hg _ _ (hf _), e]
  · rfl
theorem dinBlind_other {k : Nat} (hk : k ≠ i) (m : DinRun → γ) : DinBlind m i (fun d => (d.din k, d.ticks)) := by
  intro d f _
  exact Prod.ext ((DeckSt.din_modDin ..).trans (if_neg hk)) rfl
end

/-! ### What showing an input leaves, and what it shows (R269) -/

theorem State.diQuality_ready {s : State} {i : Nat} (hr : s.dinReady (i / 32) = true) : s.diQuality i ≠ 4 := by
  simp only [State.diQuality, hr, Bool.true_eq_false, if_false]
  split_ifs <;> decide
/-- The fault counted and recorded that a new quality speaks of, and the span begun anew. -/
def State.diNoted (s : State) (i : Nat) : State :=
  let q := s.diQuality i
  let old := s.fd (Din.diStatus i) 3 1
  let s := if q ≠ old ∧ (q = 6 ∨ q = 5 ∨ q = 3) then s.satF (Din.diCounts i) 31 16 1 else s
  if q ≠ old ∧ q = 5 then s.reportDeck 0x0913 8 i [] else s
/-- The state that input `i` shows. -/
def State.diState (s : State) (i : Nat) : Bool := (s.din i).p0.state && decide (s.diQuality i ≠ 4)
/-- The span of state and VALID, begun anew where one of them changes. -/
def State.diSpanned (s : State) (i : Nat) (st v : Bool) : State :=
  if s.bt (Din.diStatus i) 0 = st ∧ s.bt (Din.diStatus i) 4 = v then s
  else
    let was := (s.bt (Din.diStatus i) 0).toNat + (s.bt (Din.diStatus i) 4).toNat * 2
    let now := s.deck.ticks
    s.modDin i (fun x => { x with
      was := was
      wasFor := now - x.since
      since := now
      stepDone := false })
/-- DI_STATUS with quality `q`, VALID `v` and state `st`. -/
def State.diStated (s : State) (i q : Nat) (st v : Bool) : State :=
  ((s.fw (Din.diStatus i) 3 1 q).sb (Din.diStatus i) 4 v).sb (Din.diStatus i) 0 st
/-- The maps of an input's state, VALID and condition. -/
def State.diMapped (s : State) (i q : Nat) (st v : Bool) : State :=
  let s := (s.setMapBit (Din.diStateMap 0) i st).setMapBit (Din.diValidMap 0) i v
  s.setMapBit (Din.diCondMap 0) i (s.bt (Din.diStatus i) 5 || decide (q = 6) || decide (q = 5) || decide (q = 3))
theorem State.diShow_eq (s : State) (i : Nat) : s.diShow i =
    let q := s.diQuality i
    let v := decide (q = 0) || decide (q = 2)
    (((s.diNoted i).diSpanned i (s.diState i) v).diStated i q (s.diState i) v).diMapped i q (s.diState i) v := rfl

section
variable {β : Type} {W : Nat → Nat → Prop} {v : DeckSt → β} {s t : State} {i : Nat}

theorem Leaves.diMapped (L : Leaves W v s t) (hW : ∀ a n, InputMapReg i a → W a n) {q : Nat} {st b : Bool} :
    Leaves W v s (t.diMapped i q st b) :=
  ((L.setMapBit (hW _ _ (.inr (.inl rfl)))).setMapBit (hW _ _ (.inr (.inr (.inl rfl))))).setMapBit (hW _ _ (.inr (.inr (.inr rfl))))
/-- Showing an input writes of DI_STATUS state, quality and VALID, and of its run the span alone. -/
theorem Leaves.diShown (L : Leaves W v s t) (hW : ∀ a n, InputBit i [0, 1, 2, 3, 4] a n → W a n) (hv : DinBlind DinRun.sansSpan i v) :
    Leaves W v s (t.diShow i) := by
  have hst {n : Nat} (hn : n ∈ [0, 1, 2, 3, 4]) : W (Din.diStatus i) n := hW _ _ (.inl ⟨rfl, hn⟩)
  have hcount : Leaves W v s (t.diNoted i) := by
    have hc {p : Prop} [Decidable p] : Leaves W v s (if p then t.satF (Din.diCounts i) 31 16 1 else t) :=
      .ite (fun _ => L.satF fun n _ _ => hW _ n (.inr (.inl rfl))) fun _ => L
    exact .ite (fun _ => hc.reportDeck) fun _ => hc
  have hspan (st b : Bool) : Leaves W v s ((t.diNoted i).diSpanned i st b) :=
    .ite (fun _ => hcount) fun _ => hcount.modDin (hv _ _ fun _ => rfl)
  have hstated (q : Nat) (st b : Bool) : Leaves W v s (((t.diNoted i).diSpanned i st b).diStated i q st b) :=
    (((hspan st b).fw fun n h1 h2 => hst (by simp only [List.mem_cons]; omega)).sb (hst (by decide))).sb (hst (by decide))
  rw [State.diShow_eq]
  exact (hstated _ _ _).diMapped fun a n h => hW a n (.inr h)
theorem State.leaves_diShow (s : State) (i : Nat) : Leaves (InputBit i [0, 1, 2, 3, 4]) (fun d => (d.din i).sansSpan) s (s.diShow i) :=
  (Leaves.refl ..).diShown (fun _ _ => id) (dinBlind_din _ fun _ _ => id)
/-- DI_STATUS of an input whose card is ready shows the state of its first path. -/
theorem State.bt_diShow (s : State) {i : Nat} (hi : i < 512) (hr : s.dinReady (i / 32) = true) :
    (s.diShow i).bt (Din.diStatus i) 0 = (s.din i).p0.state := by
  have hst : s.diState i = (s.din i).p0.state := by simp [State.diState, State.diQuality_ready hr]
  rw [State.diShow_eq, ← hst]
  refine (((Leaves.refl (fun a _ => InputMapReg i a) (fun _ => ()) _).diMapped fun _ _ => id).bt ?_).trans (State.bt_sb _ _ _ (by decide))
  exact not_inputMapReg_inputAt (o := 0x20) hi hi (by decide) (.inr (by decide))
@[simp] theorem State.byte_diShow (s : State) (i a : Nat) : (s.diShow i).byte a = s.byte a := by
  have hnoted : (s.diNoted i).byte a = s.byte a := by
    have hc {p : Prop} [Decidable p] : (if p then s.satF (Din.diCounts i) 31 16 1 else s).byte a = s.byte a :=
      ite_keeps (State.byte · a) (fun _ => State.byte_satF ..) fun _ => rfl
    exact (ite_keeps (State.byte · a) (fun _ => State.byte_reportDeck ..) fun _ => rfl).trans hc
  have hspan (st b : Bool) : ((s.diNoted i).diSpanned i st b).byte a = (s.diNoted i).byte a := by
    rw [State.diSpanned]
    split
    · rfl
    · exact State.byte_modDin ..
  rw [State.diShow_eq]
  simp only [State.diMapped, State.diStated, State.byte_setMapBit, State.byte_sb, State.byte_fw, hspan, hnoted]

/-! ### Counts and stamps (R273-R276) -/

/-- DI_COUNT wrapped, before source 624 is raised. -/
def State.diWrapped (s : State) (i : Nat) : State :=
  ((s.wr (Din.diCount i) 0).sb (Din.diStatus i) 9 true).setMapBit (Din.diWrapMap 0) i true
theorem State.diCountEdge_wraps {s : State} {i : Nat} (h : s.rn (Din.diCount i) = 2 ^ 32 - 1) :
    s.diCountEdge i = (s.diWrapped i).raiseBoth 624 := if_pos h
theorem State.diCountEdge_counts {s : State} {i : Nat} (h : s.rn (Din.diCount i) ≠ 2 ^ 32 - 1) :
    s.diCountEdge i = s.inc (Din.diCount i) := if_neg h
theorem State.leaves_raiseBoth (s : State) {src : Nat} (hs : src < 1024) (v : DeckSt → β) :
    Leaves (fun a _ => ∃ h, EventReg h a) v s (s.raiseBoth src) := (Leaves.refl ..).raiseBoth hs fun _ _ h e => ⟨h, e⟩
theorem State.rg_diWrapped (s : State) {i : Nat} (_ : i < 512) : (s.diWrapped i).rg (Din.diCount i) = 0 := by
  have h1 : Din.diCount i ≠ Din.diWrapMap 0 + 4 * (i / 32) := by simp only [Din.diCount, Din.diWrapMap]; omega
  have h2 : Din.diCount i ≠ Din.diStatus i := by simp [inputAt_names]
  rw [State.diWrapped, State.rg_setMapBit, if_neg h1, State.rg_sb, if_neg h2, State.rg_wr, if_pos rfl]
/-- A register of the inputs after source 624 is raised. -/
theorem State.rg_input_raiseBoth (s : State) {src i o : Nat} (hs : src < 1024) (hi : i < 512) (ho : o < 0x40) :
    (s.raiseBoth src).rg (inputAt i o) = s.rg (inputAt i o) :=
  (s.leaves_raiseBoth hs fun _ => ()).rg fun _ =>
    not_eventReg_of_input (by simp only [inputAt]; omega) (by simp only [inputAt]; omega)
/-- DI_COUNT takes an edge modulo 2^32, whether it wraps or not. -/
theorem State.rg_diCountEdge (s : State) {i : Nat} (hi : i < 512) : (s.diCountEdge i).rg (Din.diCount i) = s.rg (Din.diCount i) + 1 := by
  by_cases h : s.rn (Din.diCount i) = 2 ^ 32 - 1
  · have hw : s.rg (Din.diCount i) = BitVec.ofNat 32 (2 ^ 32 - 1) := BitVec.eq_of_toNat_eq h
    rw [State.diCountEdge_wraps h, hw]
    exact (State.rg_input_raiseBoth (o := 0x24) _ (by decide) hi (by decide)).trans (s.rg_diWrapped hi)
  · rw [State.diCountEdge_counts h, State.rg_inc, if_pos rfl]
@[simp] theorem State.byte_diCountEdge (s : State) (i a : Nat) : (s.diCountEdge i).byte a = s.byte a :=
  ite_keeps (State.byte · a) (fun _ => by simp) fun _ => State.byte_inc ..
theorem Leaves.diCountEdge (L : Leaves W v s t) (h9 : W (Din.diStatus i) 9) (hW : ∀ a n, EdgeCountReg i a → W a n) :
    Leaves W v s (t.diCountEdge i) := by
  have hcount {w : Word} : Leaves W v s (t.wr (Din.diCount i) w) := L.wr fun n hn => absurd (hW _ n (.inl rfl)) hn
  have hwrap : Leaves W v s (t.diWrapped i) := (hcount.sb h9).setMapBit (hW _ _ (.inr (.inl rfl)))
  exact .ite (fun _ => hwrap.raiseBoth (by decide) fun a n h e => hW a n (.inr (.inr ⟨h, e⟩))) fun _ => hcount

/-- A change of state counted, and stamped where it is to be. -/
def State.diStamped (s : State) (i : Nat) (up : Bool) (t : Nat) : State :=
  let s := s.satF (Din.diCounts i) 15 0 1
  if s.bt (Din.diCfg i) 0 = false ∨ s.diSelects i up then (s.wn (Din.diEdgeTLo i) t).wn (Din.diEdgeTHi i) (t / 2 ^ 32) else s
/-- The frequency gate takes an edge at `t` where the input is CONTINUOUS. -/
def State.diGated (s : State) (i t : Nat) : State :=
  if s.bt (Din.diCfg i) 0 then
    s.modDin i (fun x => match x.tRef with
      | none => { x with tRef := some t, tLast := t, edges := 0 }
      | some _ => { x with tLast := t, edges := x.edges + 1 })
  else s
/-- DI_EDGE_MAP and DI_CHANGE where the configuration asks for them. -/
def State.diEdgeShown (s : State) (i : Nat) : State :=
  if s.bt (Din.diCfg i) 7 then (s.setMapBit (Din.diEdgeMap 0) i true).raiseBoth (592 + i / 32) else s
theorem State.diChanged_eq (s : State) (i : Nat) (up : Bool) (t : Nat) : s.diChanged i up t =
    let u := s.diStamped i up t
    (if u.diSelects i up then (u.diCountEdge i).diGated i t else u).diEdgeShown i := rfl

theorem DinBlind.gate (hv : DinBlind DinRun.paths i v) (d : DeckSt) (t : Nat) :
    v (d.modDin i (fun x => match x.tRef with
      | none => { x with tRef := some t, tLast := t, edges := 0 }
      | some _ => { x with tLast := t, edges := x.edges + 1 })) = v d := by
  refine hv d _ fun x => ?_
  cases x.tRef <;> simp [DinRun.paths]
theorem Leaves.diEdgeShown (L : Leaves W v s t) (hi : i < 512) (hW : ∀ a n, EdgeShownReg i a → W a n) :
    Leaves W v s (t.diEdgeShown i) :=
  .ite (fun _ => (L.setMapBit (hW _ _ (.inl rfl))).raiseBoth (by omega) fun a n h e => hW a n (.inr ⟨h, e⟩)) fun _ => L
theorem Leaves.diGated (L : Leaves W v s t) (hv : DinBlind DinRun.paths i v) {x : Nat} : Leaves W v s (t.diGated i x) :=
  .ite (fun _ => L.modDin (hv.gate _ x)) fun _ => L
theorem Leaves.diStamped (L : Leaves W v s t) (hW : ∀ a n, JudgeBit i [9] a n → W a n) {up : Bool} {x : Nat} :
    Leaves W v s (t.diStamped i up x) := by
  have hc : Leaves W v s (t.satF (Din.diCounts i) 15 0 1) := L.satF fun n _ _ => hW _ n (.inl (.inr (.inl rfl)))
  exact .ite (fun _ => (hc.wn fun n => hW _ n (.inr (.inl rfl))).wn fun n => hW _ n (.inr (.inr (.inl rfl)))) fun _ => hc
theorem Leaves.diChanged (L : Leaves W v s t) (hi : i < 512) (hW : ∀ a n, JudgeBit i [9] a n → W a n) (hv : DinBlind DinRun.paths i v)
    {up : Bool} {x : Nat} : Leaves W v s (t.diChanged i up x) := by
  have hs : Leaves W v s (t.diStamped i up x) := L.diStamped hW
  have hcount : Leaves W v s ((t.diStamped i up x).diCountEdge i) :=
    hs.diCountEdge (hW _ 9 (.inl (.inl ⟨rfl, by decide⟩))) fun a n h => hW a n (.inr (.inr (.inr (.inl h))))
  rw [State.diChanged_eq]
  exact Leaves.diEdgeShown (.ite (fun _ => hcount.diGated hv) fun _ => hs) hi fun a n h => hW a n (.inr (.inr (.inr (.inr h))))
theorem State.diSelects_congr {s t : State} {i : Nat} (h : t.rg (Din.diCfg i) = s.rg (Din.diCfg i)) (up : Bool) :
    t.diSelects i up = s.diSelects i up := by
  have hf : t.fd (Din.diCfg i) 6 5 = s.fd (Din.diCfg i) 6 5 := congrArg (bits · 6 5) h
  rw [State.diSelects, hf, State.diSelects]
/-- A selected edge is stamped and counted. -/
theorem State.diChanged_selected (s : State) {i : Nat} (hi : i < 512) {up : Bool} (t : Nat) (hsel : s.diSelects i up = true) :
    (s.diChanged i up t).rn (Din.diEdgeTLo i) = t % 2 ^ 32 ∧ (s.diChanged i up t).rg (Din.diCount i) = s.rg (Din.diCount i) + 1 := by
  let u := s.diStamped i up t
  have hstamped : (u.rg (Din.diEdgeTLo i) = BitVec.ofNat 32 t) ∧ u.rg (Din.diCount i) = s.rg (Din.diCount i)
      ∧ u.rg (Din.diCfg i) = s.rg (Din.diCfg i) := by
    have hsel' : (s.satF (Din.diCounts i) 15 0 1).diSelects i up = true := (State.diSelects_congr (by simp [inputAt_names]) up).trans hsel
    have hu : u = ((s.satF (Din.diCounts i) 15 0 1).wn (Din.diEdgeTLo i) t).wn (Din.diEdgeTHi i) (t / 2 ^ 32) := if_pos (.inr hsel')
    rw [hu]
    simp [inputAt_names]
  obtain ⟨hlo, hcount, hcfg⟩ := hstamped
  have hch : s.diChanged i up t = ((u.diCountEdge i).diGated i t).diEdgeShown i :=
    (s.diChanged_eq i up t).trans (congrArg (State.diEdgeShown · i) (if_pos ((State.diSelects_congr hcfg up).trans hsel)))
  have E : Leaves (fun a _ => EdgeShownReg i a) (fun _ => ()) (u.diCountEdge i) (s.diChanged i up t) := by
    rw [hch]
    exact ((Leaves.refl ..).diGated fun _ _ _ => rfl).diEdgeShown hi fun _ _ => id
  have C : Leaves (fun a n => (a = Din.diStatus i ∧ n = 9) ∨ EdgeCountReg i a) (fun _ => ()) u (u.diCountEdge i) :=
    (Leaves.refl ..).diCountEdge (.inl ⟨rfl, rfl⟩) fun _ _ => .inr
  have hE {o : Nat} (ho : o < 0x40) : (s.diChanged i up t).rg (inputAt i o) = (u.diCountEdge i).rg (inputAt i o) :=
    E.rg fun _ => not_edgeShownReg_inputAt hi hi ho
  refine ⟨?_, (hE (o := 0x24) (by decide)).trans ((u.rg_diCountEdge hi).trans (by rw [hcount]))⟩
  have hC : (u.diCountEdge i).rg (Din.diEdgeTLo i) = u.rg (Din.diEdgeTLo i) := C.rg fun _ => not_or.2
    ⟨fun h => by simp [inputAt_names] at h, not_edgeCountReg_inputAt (o := 0x2C) hi hi (by decide) (.inr (by decide))⟩
  exact (congrArg BitVec.toNat ((hE (o := 0x2C) (by decide)).trans (hC.trans hlo))).trans (BitVec.toNat_ofNat ..)
@[simp] theorem State.byte_diChanged (s : State) (i : Nat) (up : Bool) (t a : Nat) : (s.diChanged i up t).byte a = s.byte a := by
  have hstamp : (s.diStamped i up t).byte a = s.byte a := by
    simp only [State.diStamped]
    split <;> simp
  have hgate (u : State) : (u.diGated i t).byte a = u.byte a := ite_keeps (State.byte · a) (fun _ => State.byte_modDin ..) fun _ => rfl
  have hshown (u : State) : (u.diEdgeShown i).byte a = u.byte a := ite_keeps (State.byte · a) (fun _ => by simp) fun _ => rfl
  rw [State.diChanged_eq]
  refine (hshown _).trans (Eq.trans ?_ hstamp)
  exact ite_keeps (State.byte · a) (fun _ => (hgate _).trans (State.byte_diCountEdge ..)) fun _ => rfl

/-! ### Resolution and comparison (R268, R270) -/

theorem Leaves.diResolve (L : Leaves W v s t) (hW : W (Din.diStatus i) 5) (hv : DinBlind DinRun.paths i v) {x : Nat} :
    Leaves W v s (t.diResolve i x) := by
  have hr : Leaves W v s (t.modDin i (fun x => { x with resolved := true })) := L.modDin (hv _ _ fun _ => rfl)
  exact .ite (fun _ => L) fun _ => .ite (fun _ => (hr.sb hW).reportDeck) fun _ => hr
theorem Leaves.diCompare (L : Leaves W v s t) (hW : W (Din.diStatus i) 7) (hv : DinBlind DinRun.paths i v) :
    Leaves W v s (t.diCompare i) := by
  have hsame : Leaves W v s (t.modDin i (fun x => { x with diff := 0, agree := (t.din i).agree + 1 })) := L.modDin (hv _ _ fun _ => rfl)
  have hdiff : Leaves W v s (t.modDin i (fun x => { x with diff := x.diff + 1, agree := 0 })) := L.modDin (hv _ _ fun _ => rfl)
  exact .ite (fun _ => .ite (fun _ => hsame.sb hW) fun _ => hsame) fun _ => .ite (fun _ => (hdiff.sb hW).reportDeck) fun _ => hdiff
@[simp] theorem State.byte_diResolve (s : State) (i t a : Nat) : (s.diResolve i t).byte a = s.byte a := by
  simp only [State.diResolve]
  split
  · rfl
  · split <;> simp
@[simp] theorem State.byte_diCompare (s : State) (i a : Nat) : (s.diCompare i).byte a = s.byte a := by
  simp only [State.diCompare]
  split <;> split <;> simp

/-- The run that has completed resolves the input, and the paths are compared. -/
def State.diSettled (s : State) (i : Nat) (done : Bool) (t : Nat) : State := (if done then s.diResolve i t else s).diCompare i
/-- New paths followed: the change of state, resolution and comparison. -/
def State.diFollowed (s : State) (i : Nat) (was up done : Bool) (stamp t : Nat) : State :=
  (if up ≠ was then s.diChanged i up stamp else s).diSettled i done t
/-- The paths of input `i` replaced. -/
def State.diPaths (s : State) (i : Nat) (p0 p1 : DiPath) : State := s.modDin i (fun x => { x with p0 := p0, p1 := p1 })
theorem State.diTake_eq (s : State) (i : Nat) (p0 p1 : DiPath) (done : Bool) (stamp t : Nat) :
    s.diTake i p0 p1 done stamp t = (s.diPaths i p0 p1).diFollowed i (s.din i).p0.state p0.state done stamp t := rfl

theorem Leaves.diSettled (L : Leaves W v s t) (hW : ∀ a n, InputBit i [5, 7] a n → W a n) (hv : DinBlind DinRun.paths i v)
    {done : Bool} {x : Nat} : Leaves W v s (t.diSettled i done x) := by
  have hst {n : Nat} (hn : n ∈ [5, 7]) : W (Din.diStatus i) n := hW _ _ (.inl ⟨rfl, hn⟩)
  exact Leaves.diCompare (.ite (fun _ => L.diResolve (hst (by decide)) hv) fun _ => L) (hst (by decide)) hv
theorem Leaves.diFollowed (L : Leaves W v s t) (hi : i < 512) (hW : ∀ a n, JudgeBit i [5, 7, 9] a n → W a n)
    (hv : DinBlind DinRun.paths i v) {was up done : Bool} {stamp x : Nat} : Leaves W v s (t.diFollowed i was up done stamp x) := by
  have hchange : Leaves W v s (if up ≠ was then t.diChanged i up stamp else t) :=
    .ite (fun _ => L.diChanged hi (fun a n h => hW a n (h.imp_left (InputBit.mono (by decide) a n))) hv) fun _ => L
  exact hchange.diSettled (fun a n h => hW a n (.inl (InputBit.mono (by decide) a n h))) hv
@[simp] theorem State.byte_diSettled (s : State) (i : Nat) (done : Bool) (t a : Nat) : (s.diSettled i done t).byte a = s.byte a := by
  refine (State.byte_diCompare ..).trans ?_
  split
  · exact State.byte_diResolve ..
  · rfl
end

end Sys2Proof.Machine
end

section
/-! SUPPORT. The judgement of a window of a digital input (R267-R271, R277, R310): its parts, and what it leaves of other inputs. -/
namespace Sys2Proof.Machine

/-! ### The parts of a judgement -/

/-- The supply that a window of input `i` is tested against: the one that holds it, or else the one that feeds it. -/
def State.diSupply (s : State) (i : Nat) : Option Nat := match (s.din i).heldBy with
  | some g => some g
  | none => s.testSupply i
/-- The own-slot test against supply `g`. -/
def State.diOwnTested (s : State) (i k t : Nat) (g : Option Nat) : State := match g with
  | some g => s.ownTest i g k t
  | none => s
/-- A waiting CLEAR_COUNT. -/
def State.diCleared (s : State) (i : Nat) : State :=
  if (s.din i).clearReq then
    ((s.wr (Din.diCount i) 0).sb (Din.diStatus i) 9 false).modDin i (fun x => { x with clearReq := false }) else s
/-- The own-slot test and a waiting CLEAR_COUNT. -/
def State.diOwn (s : State) (i k t : Nat) : State := (s.diOwnTested i k t (s.diSupply i)).diCleared i
/-- The foreign-slot test against supply `g`. -/
def State.diForeign (s : State) (i k t : Nat) (g : Option Nat) : State := match g with
  | some g => s.foreignTest i g k t
  | none => s
/-- The sample noted: over the limit, the first one, and in-band. -/
def State.diSampled (s : State) (i k t : Nat) : State :=
  (s.modDin i (fun x => { x with
    ovr := decide (k = 3)
    first := if x.first.isNone then some t else x.first })).sb (Din.diStatus i) 6 (decide (k = 1))
/-- A PULSED input takes its two samples. -/
def State.diPulsed (s : State) (i k0 k1 t : Nat) (x : DinRun) : State :=
  s.diTake i (x.p0.sample (s.debounce i) k0).1 (x.p1.sample (s.debounce i) k1).1 (x.p0.sample (s.debounce i) k0).2 t t
/-- A CONTINUOUS input takes its two levels. -/
def State.diLevels (s : State) (i k0 k1 t : Nat) (x : DinRun) : State :=
  if k0 = 1 then s.diCompare i
  else s.diTake i { state := decide (2 ≤ k0) } { state := if k1 = 1 then x.p1.state else decide (2 ≤ k1) } true t t
/-- The last sample noted. -/
def State.diLast (s : State) (i k : Nat) : State := s.modDin i (fun x => { x with lastHigh := decide (2 ≤ k) })
/-- An input that no supply holds takes its samples. -/
def State.diTaken (s : State) (i k0 k1 t : Nat) : State :=
  let u := s.diSampled i k0 t
  (if u.bt (Din.diCfg i) 0 then u.diLevels i k0 k1 t (s.din i) else u.diPulsed i k0 k1 t (s.din i)).diLast i k0
theorem State.diJudge_eq (s : State) (i k0 k1 t : Nat) : s.diJudge i k0 k1 t =
    let u := s.diOwn i k0 t
    (if u.bt (Din.diStatus i) 10 then u else (u.diForeign i k0 t (s.diSupply i)).diTaken i k0 k1 t).diShow i := rfl

/-! ### What each part leaves -/

section
variable {β : Type} {W : Nat → Nat → Prop} {v : DeckSt → β} {s t : State} {i : Nat}

section
variable (hv : DinBlind DinRun.paths i v)
include hv
theorem Leaves.crossShort (L : Leaves W v s t) {g : Nat} : Leaves W v s (t.crossShort i g) := by
  refine .ite (fun _ => L.modDin (hv _ _ fun _ => rfl)) fun _ => Leaves.reportDeck ?_
  exact L.modDin (hv _ _ fun _ => rfl)
theorem Leaves.ownTest (L : Leaves W v s t) {g k x : Nat} : Leaves W v s (t.ownTest i g k x) := by
  refine .ite (fun _ => Leaves.crossShort hv ?_) fun _ => L
  exact L.modDin (hv _ _ fun _ => rfl)
theorem Leaves.foreignEnd (L : Leaves W v s t) {g k : Nat} {e : Nat × Nat} : Leaves W v s (t.foreignEnd i g k e) := by
  simp only [State.foreignEnd]
  split
  · exact L.modDin (hv _ _ fun _ => rfl)
  · refine .ite (fun _ => Leaves.crossShort hv ?_) fun _ => .ite (fun _ => ?_) fun _ => ?_
    all_goals exact L.modDin (hv _ _ fun _ => rfl)
theorem Leaves.foreignTest (L : Leaves W v s t) {g k x : Nat} : Leaves W v s (t.foreignTest i g k x) := by
  simp only [State.foreignTest]
  refine .ite (fun _ => L.modDin (hv _ _ fun _ => rfl)) fun _ => Leaves.modDin ?_ (hv _ _ fun _ => rfl)
  cases (t.din i).cur with
  | none => exact L
  | some e => exact .ite (fun _ => L.foreignEnd hv) fun _ => L
theorem Leaves.diForeign (L : Leaves W v s t) {k x : Nat} {g : Option Nat} : Leaves W v s (t.diForeign i k x g) := by
  cases g with
  | none => exact L
  | some g => exact L.foreignTest hv
theorem Leaves.diOwnTested (L : Leaves W v s t) {k x : Nat} {g : Option Nat} : Leaves W v s (t.diOwnTested i k x g) := by
  cases g with
  | none => exact L
  | some g => exact L.ownTest hv
theorem Leaves.diCleared (L : Leaves W v s t) (hW : ∀ a n, JudgeBit i [9] a n → W a n) : Leaves W v s (t.diCleared i) := by
  have hcount : Leaves W v s ((t.wr (Din.diCount i) 0).sb (Din.diStatus i) 9 false) :=
    (L.wn fun n => hW _ n (.inr (.inr (.inr (.inl (.inl rfl)))))).sb (hW _ 9 (.inl (.inl ⟨rfl, by decide⟩)))
  refine .ite (fun _ => ?_) fun _ => L
  exact hcount.modDin (hv _ _ fun _ => rfl)
theorem Leaves.diOwn (L : Leaves W v s t) (hW : ∀ a n, JudgeBit i [9] a n → W a n) {k x : Nat} : Leaves W v s (t.diOwn i k x) :=
  (L.diOwnTested hv).diCleared hv hW
theorem Leaves.diSampled (L : Leaves W v s t) (hW : W (Din.diStatus i) 6) {k x : Nat} : Leaves W v s (t.diSampled i k x) := by
  refine Leaves.sb ?_ hW
  exact L.modDin (hv _ _ fun _ => rfl)
theorem Leaves.diLast (L : Leaves W v s t) {k : Nat} : Leaves W v s (t.diLast i k) := L.modDin (hv _ _ fun _ => rfl)
end

section
variable (hi : i < 512) (hW : ∀ a n, JudgeBit i [0, 1, 2, 3, 4, 5, 6, 7, 9] a n → W a n) (hv : DinBlind (fun _ => ()) i v)
include hi hW hv
/-- Samples taken leave what belongs to other inputs. -/
theorem Leaves.diTake (L : Leaves W v s t) {p0 p1 : DiPath} {done : Bool} {stamp x : Nat} :
    Leaves W v s (t.diTake i p0 p1 done stamp x) := by
  rw [State.diTake_eq]
  exact Leaves.diFollowed (L.modDin (hv _ _ fun _ => rfl)) hi (fun a n h => hW a n (h.imp_left (InputBit.mono (by decide) a n)))
    (hv.mono fun _ _ _ => rfl)
theorem Leaves.diTaken (L : Leaves W v s t) {k0 k1 x : Nat} : Leaves W v s (t.diTaken i k0 k1 x) := by
  have hst {n : Nat} (hn : n ∈ [0, 1, 2, 3, 4, 5, 6, 7, 9]) : W (Din.diStatus i) n := hW _ _ (.inl (.inl ⟨rfl, hn⟩))
  have hp : DinBlind DinRun.paths i v := hv.mono fun _ _ _ => rfl
  have hs : Leaves W v s (t.diSampled i k0 x) := L.diSampled hp (hst (by decide))
  have hlevels : Leaves W v s ((t.diSampled i k0 x).diLevels i k0 k1 x (t.din i)) :=
    .ite (fun _ => hs.diCompare (hst (by decide)) hp) fun _ => hs.diTake hi hW hv
  have htaken : Leaves W v s (if (t.diSampled i k0 x).bt (Din.diCfg i) 0 then (t.diSampled i k0 x).diLevels i k0 k1 x (t.din i)
      else (t.diSampled i k0 x).diPulsed i k0 k1 x (t.din i)) := .ite (fun _ => hlevels) fun _ => hs.diTake hi hW hv
  exact htaken.diLast hp
/-- A judgement leaves what belongs to other inputs. -/
theorem Leaves.diJudge (L : Leaves W v s t) {k0 k1 x : Nat} : Leaves W v s (t.diJudge i k0 k1 x) := by
  have hp : DinBlind DinRun.paths i v := hv.mono fun _ _ _ => rfl
  have ho : Leaves W v s (t.diOwn i k0 x) := L.diOwn hp fun a n h => hW a n (h.imp_left (InputBit.mono (by decide) a n))
  rw [State.diJudge_eq]
  refine Leaves.diShown (.ite (fun _ => ho) fun _ => (ho.diForeign hp).diTaken hi hW hv) (fun a n h => ?_) (hv.mono fun _ _ _ => rfl)
  exact hW a n (.inl (InputBit.mono (by decide) a n h))
end
end

/-! ### A high window of a PULSED input (R267) -/

/-- A high sample that completes its run makes the path high. -/
theorem DiPath.sample_high (p : DiPath) {n : Nat} (h : n ≤ if p.up = true ∧ 0 < p.run then p.run + 1 else 1) :
    (p.sample n 2).1.state = true ∧ (p.sample n 2).2 = true := by
  have hs : p.sample n 2 = ({ state := true, up := true, run := n }, true) := by simp [DiPath.sample, h]
  exact ⟨by rw [hs], by rw [hs]⟩

section
variable {s : State} {i k0 k1 t : Nat} (hi : i < 512)
include hi
/-- What comes of a window of a PULSED input that no supply holds, before it is shown: its paths take the samples. -/
theorem State.pulsed_spec (hc : s.bt (Din.diCfg i) 0 = false) (hst : s.bt (Din.diStatus i) 10 = false) :
    ∃ u : State, s.diJudge i k0 k1 t = u.diShow i
      ∧ (u.din i).paths = (((s.din i).p0.sample (s.debounce i) k0).1, ((s.din i).p1.sample (s.debounce i) k1).1)
      ∧ u.bt (Din.diStatus i) 6 = decide (k0 = 1) ∧ ∀ n, n < 16 → u.rg (Din.diCardStatus n) = s.rg (Din.diCardStatus n) := by
  let own := s.diOwn i k0 t
  let held := own.diForeign i k0 t (s.diSupply i)
  let sampled := held.diSampled i k0 t
  let a := (s.din i).p0.sample (s.debounce i) k0
  let b := (s.din i).p1.sample (s.debounce i) k1
  let placed := sampled.diPaths i a.1 b.1
  let followed := placed.diFollowed i (sampled.din i).p0.state a.1.state a.2 t t
  have O : Leaves (JudgeBit i [9]) (fun d => (d.din i).paths) s own :=
    (Leaves.refl ..).diOwn (dinBlind_din _ fun _ _ => id) fun _ _ => id
  have H : Leaves (JudgeBit i [9]) (fun d => (d.din i).paths) s held := O.diForeign (dinBlind_din _ fun _ _ => id)
  have S : Leaves (JudgeBit i [6, 9]) (fun d => (d.din i).paths) s sampled :=
    (H.mono fun a n h => h.imp_left (InputBit.mono (by decide) a n)).diSampled (dinBlind_din _ fun _ _ => id)
      (.inl (.inl ⟨rfl, by decide⟩))
  have F : Leaves (JudgeBit i [5, 7, 9]) (fun d => (d.din i).paths) placed (followed.diLast i k0) :=
    ((Leaves.refl ..).diFollowed hi (fun _ _ => id) (dinBlind_din _ fun _ _ => id)).diLast (dinBlind_din _ fun _ _ => id)
  have hcfg : sampled.rg (Din.diCfg i) = s.rg (Din.diCfg i) :=
    S.rg fun _ => not_judgeBit_inputAt (o := 0) hi hi (by decide) (.inr (.inr rfl))
  have hpulsed : sampled.diPulsed i k0 k1 t (held.din i) = followed := by
    have hp0 : (held.din i).p0 = (s.din i).p0 := congrArg Prod.fst H.deck
    have hp1 : (held.din i).p1 = (s.din i).p1 := congrArg Prod.snd H.deck
    have hdeb : sampled.debounce i = s.debounce i := by
      have hf : sampled.fd (Din.diCfg i) 4 1 = s.fd (Din.diCfg i) 4 1 := congrArg (bits · 4 1) hcfg
      rw [State.debounce, hf, State.debounce]
    rw [State.diPulsed, hp0, hp1, hdeb]
    rfl
  have hjudge : s.diJudge i k0 k1 t = (followed.diLast i k0).diShow i := by
    have hown : ¬ own.bt (Din.diStatus i) 10 = true := by
      have h10 : own.bt (Din.diStatus i) 10 = s.bt (Din.diStatus i) 10 :=
        O.bt (not_judgeBit_inputAt (o := 0x20) hi hi (by decide) (.inr (.inl ⟨rfl, by decide⟩)))
      exact ne_true_of_eq_false (h10.trans hst)
    have hmode : ¬ sampled.bt (Din.diCfg i) 0 = true := by
      exact ne_true_of_eq_false ((congrArg (bit · 0) hcfg).trans hc)
    refine (s.diJudge_eq i k0 k1 t).trans (congrArg (State.diShow · i) ((if_neg hown).trans ?_))
    exact congrArg (State.diLast · i k0) ((if_neg hmode).trans hpulsed)
  refine ⟨followed.diLast i k0, hjudge, ?_, ?_, fun n hn => ?_⟩
  · exact F.deck.trans (congrArg DinRun.paths (State.din_modDin sampled i fun x => { x with p0 := a.1, p1 := b.1 }))
  · refine (F.bt (not_judgeBit_inputAt (o := 0x20) hi hi (by decide) (.inr (.inl ⟨rfl, by decide⟩)))).trans ?_
    exact (congrArg (bit · 6) (State.rg_modDin ..)).trans (State.bt_sb _ _ _ (by decide))
  · refine (F.rg fun _ => not_judgeBit_cardStatus hi hn).trans ((State.rg_modDin ..).trans ?_)
    exact S.rg fun _ => not_judgeBit_cardStatus hi hn
end

end Sys2Proof.Machine
end

section
/-! Windows, edges, counts and the frequency gate of digital inputs (R267, R268, R270, R271, R273-R276). -/
namespace Sys2Proof.Machine

/-! ### What other inputs leave -/

/-- `t` is `s` as input `i` sees it: its configuration, its status, its card's status, its run and the field deck's time. -/
def KeepsInput (i : Nat) (s t : State) : Prop :=
  Leaves (fun a _ => a ≠ Din.diCfg i ∧ a ≠ Din.diStatus i ∧ a ≠ Din.diCardStatus (i / 32)) (fun d => (d.din i, d.ticks)) s t

section
variable {s t : State} {i : Nat}
theorem KeepsInput.refl (i : Nat) (s : State) : KeepsInput i s s := Leaves.refl ..
theorem KeepsInput.din (K : KeepsInput i s t) : t.din i = s.din i := congrArg Prod.fst K.deck
theorem KeepsInput.ticks (K : KeepsInput i s t) : t.deck.ticks = s.deck.ticks := congrArg Prod.snd K.deck
theorem KeepsInput.cfg (K : KeepsInput i s t) : t.rg (Din.diCfg i) = s.rg (Din.diCfg i) := K.rg fun _ h => h.1 rfl
theorem KeepsInput.status (K : KeepsInput i s t) : t.rg (Din.diStatus i) = s.rg (Din.diStatus i) := K.rg fun _ h => h.2.1 rfl
theorem KeepsInput.dinReady (K : KeepsInput i s t) : t.dinReady (i / 32) = s.dinReady (i / 32) := K.bt fun h => h.2.2 rfl
/-- What is judged of another input. -/
theorem judgeBit_keepsInput {e : Nat} {l : List Nat} (hi : i < 512) (he : e < 512) (hne : e ≠ i) (a n : Nat)
    (h : JudgeBit e l a n) : a ≠ Din.diCfg i ∧ a ≠ Din.diStatus i ∧ a ≠ Din.diCardStatus (i / 32) := by
  refine ⟨?_, ?_, ?_⟩ <;> rintro rfl
  · exact not_judgeBit_inputAt (o := 0) he hi (by decide) (.inl hne.symm) h
  · exact not_judgeBit_inputAt (o := 0x20) he hi (by decide) (.inl hne.symm) h
  · exact not_judgeBit_cardStatus he (by omega) h
end

/-! ### A window of a card (R267, R270, R271) -/

/-- Input `i` high on both paths, and shown so. -/
def HighShown (i : Nat) (t : State) : Prop := (t.din i).p0.state = true ∧ (t.din i).p1.state = true
  ∧ t.bt (Din.diStatus i) 0 = true ∧ t.bt (Din.diStatus i) 6 = false
theorem HighShown.kept {i : Nat} {s t : State} (h : HighShown i s) (K : KeepsInput i s t) : HighShown i t := by
  obtain ⟨h0, h1, hst, hband⟩ := h
  exact ⟨(congrArg (·.p0.state) K.din).trans h0, (congrArg (·.p1.state) K.din).trans h1, (congrArg (bit · 0) K.status).trans hst,
    (congrArg (bit · 6) K.status).trans hband⟩
/-- A high sample that completes the run of a PULSED input that no supply holds. -/
theorem State.highShown_diJudge {s : State} {i t : Nat} (hi : i < 512) (hr : s.dinReady (i / 32) = true)
    (hc : s.bt (Din.diCfg i) 0 = false) (hst : s.bt (Din.diStatus i) 10 = false)
    (hrun : ∀ p : DiPath, p = (s.din i).p0 ∨ p = (s.din i).p1 → s.debounce i ≤ if p.up = true ∧ 0 < p.run then p.run + 1 else 1) :
    HighShown i (s.diJudge i 2 2 t) := by
  obtain ⟨u, he, hpaths, hband, hcard⟩ := State.pulsed_spec (s := s) (k0 := 2) (k1 := 2) (t := t) hi hc hst
  have L := u.leaves_diShow i
  have h0 : (u.din i).p0.state = true :=
    (congrArg (·.1.state) hpaths).trans (DiPath.sample_high _ (hrun _ (.inl rfl))).1
  have h1 : (u.din i).p1.state = true :=
    (congrArg (·.2.state) hpaths).trans (DiPath.sample_high _ (hrun _ (.inr rfl))).1
  have hready : u.dinReady (i / 32) = true := (congrArg (bit · 1) (hcard _ (by omega))).trans hr
  rw [he]
  refine ⟨(congrArg (fun x : DinRun => x.p0.state) L.deck).trans h0, (congrArg (fun x : DinRun => x.p1.state) L.deck).trans h1,
    (u.bt_diShow hi hready).trans h0, (L.bt (not_or.2 ⟨fun h => by simpa using h.2, ?_⟩)).trans hband⟩
  exact not_inputMapReg_inputAt (o := 0x20) hi hi (by decide) (.inr (by decide))

theorem diWindow_completes (n k : Nat) (p0 p1 : List Nat) (t0 : Nat) (s : State) (hn : n < 16) (hk : k < 32)
    (hd : s.deck.inReset = false) (hr : s.dinReady n = true) (hc : s.bt (Din.diCfg (32 * n + k)) 0 = false)
    (hst : s.bt (Din.diStatus (32 * n + k)) 10 = false) (h0 : p0.getD k 0 = 2) (h1 : p1.getD k 0 = 2)
    (hrun : ∀ p : DiPath, p = (s.din (32 * n + k)).p0 ∨ p = (s.din (32 * n + k)).p1 →
      s.debounce (32 * n + k) ≤ (if p.up = true ∧ 0 < p.run then p.run + 1 else 1)) :
    Gives (.diWindow n p0 p1 t0) s (fun t => (t.din (32 * n + k)).p0.state = true ∧ (t.din (32 * n + k)).p1.state = true
      ∧ t.bt (Din.diStatus (32 * n + k)) 0 = true ∧ t.bt (Din.diStatus (32 * n + k)) 6 = false) := by
  have hi : 32 * n + k < 512 := by omega
  have hcard : (32 * n + k) / 32 = n := by omega
  let judged := (List.range 32).foldl (fun u e => u.diJudge (32 * n + e) (p0.getD e 0) (p1.getD e 0) t0) s
  have hex : exec (.diWindow n p0 p1 t0) s = .next (judged.dinImage n) :=
    congrArg Host.Outcome.next ((s.onDeck_out_of_reset _ hd).trans (if_pos hr))
  have hother (u : State) (e : Nat) (he : e < 32) (hne : e ≠ k) :
      KeepsInput (32 * n + k) u (u.diJudge (32 * n + e) (p0.getD e 0) (p1.getD e 0) t0) :=
    (Leaves.refl ..).diJudge (by omega) (judgeBit_keepsInput hi (by omega) (by omega)) (dinBlind_other (by omega) _)
  have hjudged : HighShown (32 * n + k) judged := by
    refine foldl_reaches (p := (· < 32)) (I := KeepsInput (32 * n + k) s) (Q := HighShown (32 * n + k)) (k := k)
      (fun u e he hne K => Leaves.trans K (hother u e he hne)) (fun u K => ?_) (fun u e he hne h => h.kept (hother u e he hne))
      (fun _ => List.mem_range.1) List.nodup_range (List.mem_range.2 hk) (.refl _ s)
    rw [h0, h1]
    have hdeb : u.debounce (32 * n + k) = s.debounce (32 * n + k) := by
      have hf : u.fd (Din.diCfg (32 * n + k)) 4 1 = s.fd (Din.diCfg (32 * n + k)) 4 1 := congrArg (bits · 4 1) K.cfg
      rw [State.debounce, hf, State.debounce]
    refine u.highShown_diJudge hi (K.dinReady.trans (by rw [hcard, hr])) ((congrArg (bit · 0) K.cfg).trans hc)
      ((congrArg (bit · 10) K.status).trans hst) ?_
    rw [K.din, hdeb]
    exact hrun
  exact ⟨_, hex, hjudged.kept (Leaves.refl ..).dinImage⟩

/-! ### An edge of a CONTINUOUS input (R273-R275) -/

theorem diEdge_completes (i : Nat) (level other : Bool) (t0 : Nat) (s : State) (hi : i < 512) (hd : s.deck.inReset = false)
    (hr : s.dinReady (i / 32) = true) (hc : s.bt (Din.diCfg i) 0 = true) (hst : s.bt (Din.diStatus i) 10 = false) :
    Gives (.diEdge i level other t0) s (fun t => (t.din i).p0.state = level ∧ (t.din i).p1.state = other
      ∧ t.bt (Din.diStatus i) 0 = level ∧ SameMem s t
      ∧ ((s.din i).p0.state ≠ level → s.diSelects i level = true →
          t.rn (Din.diEdgeTLo i) = (t0 - 400 - s.fd (Din.diFreqCfg i) 7 0 * 40) / 4 * 4 % 2 ^ 32
          ∧ t.rg (Din.diCount i) = s.rg (Din.diCount i) + 1)) := by
  let stamp := (t0 - 400 - s.fd (Din.diFreqCfg i) 7 0 * 40) / 4 * 4
  let first := s.modDin i (fun x => { x with first := if x.first.isNone then some t0 else x.first })
  let placed := first.diPaths i { state := level } { state := other }
  let changed := if level ≠ (first.din i).p0.state then placed.diChanged i level stamp else placed
  let taken := changed.diSettled i true t0
  have hex : exec (.diEdge i level other t0) s = .next (taken.diShow i) :=
    congrArg Host.Outcome.next ((s.onDeck_out_of_reset _ hd).trans (if_pos ⟨hr, hc, hst⟩))
  have hwas : (first.din i).p0.state = (s.din i).p0.state := congrArg (·.p0.state) (State.din_modDin s i _)
  have hrg (a : Nat) : placed.rg a = s.rg a := (State.rg_modDin ..).trans (State.rg_modDin ..)
  have hplaced : (placed.din i).paths = ({ state := level }, { state := other }) := congrArg DinRun.paths (State.din_modDin first i _)
  have C : Leaves (JudgeBit i [9]) (fun d => (d.din i).paths) placed changed :=
    .ite (fun _ => (Leaves.refl ..).diChanged hi (fun _ _ => id) (dinBlind_din _ fun _ _ => id)) fun _ => .refl ..
  have T : Leaves (InputBit i [5, 7]) (fun d => (d.din i).paths) changed taken :=
    (Leaves.refl ..).diSettled (fun _ _ => id) (dinBlind_din _ fun _ _ => id)
  have S := taken.leaves_diShow i
  have hpaths : (taken.din i).paths = ({ state := level }, { state := other }) := T.deck.trans (C.deck.trans hplaced)
  have hready : taken.dinReady (i / 32) = true := by
    have h1 : taken.dinReady (i / 32) = changed.dinReady (i / 32) :=
      T.bt fun h => not_judgeBit_cardStatus (l := [5, 7]) hi (by omega : i / 32 < 16) (.inl h)
    exact h1.trans ((C.bt (not_judgeBit_cardStatus hi (by omega))).trans ((congrArg (bit · 1) (hrg _)).trans hr))
  refine ⟨_, hex, ?_, ?_, ?_, fun a => ?_, fun hne hsel => ?_⟩
  · exact (congrArg (fun x : DinRun => x.p0.state) S.deck).trans (congrArg (·.1.state) hpaths)
  · exact (congrArg (fun x : DinRun => x.p1.state) S.deck).trans (congrArg (·.2.state) hpaths)
  · exact (taken.bt_diShow hi hready).trans (congrArg (·.1.state) hpaths)
  · have hchange : changed.byte a = placed.byte a := by
      simp only [changed]
      split
      · exact State.byte_diChanged ..
      · rfl
    exact (State.byte_diShow ..).trans ((State.byte_diSettled ..).trans
      (hchange.trans ((State.byte_modDin ..).trans (State.byte_modDin ..))))
  · have hchanged : changed = placed.diChanged i level stamp := if_pos (by rw [hwas]; exact hne.symm)
    have hkept {o : Nat} (ho : o < 0x40) (h1 : o ≠ 0x20) (h2 : o ≠ 0x34) :
        (taken.diShow i).rg (inputAt i o) = changed.rg (inputAt i o) := by
      have hb (l : List Nat) (n : Nat) : ¬ InputBit i l (inputAt i o) n := not_or.2
        ⟨fun h => h1 (inputAt_inj.1 h.1), not_inputMapReg_inputAt hi hi ho (.inr h2)⟩
      exact (S.rg (hb _)).trans (T.rg (hb _))
    obtain ⟨hlo, hcount⟩ := placed.diChanged_selected hi stamp ((State.diSelects_congr (hrg _) level).trans hsel)
    refine ⟨?_, ?_⟩
    · exact (congrArg BitVec.toNat ((hkept (o := 0x2C) (by decide) (by decide) (by decide)).trans (by rw [hchanged]; rfl))).trans hlo
    · refine (hkept (o := 0x24) (by decide) (by decide) (by decide)).trans ?_
      rw [hchanged, ← hrg (Din.diCount i)]
      exact hcount

/-! ### UNRESOLVED, the wrap of DI_COUNT, and the commands (R268, R274) -/

theorem unresolvedLong_completes (i f : Nat) (s : State) (hi : i < 512) (hd : s.deck.inReset = false)
    (hr : s.dinReady (i / 32) = true) (hf : (s.din i).first = some f) (hun : (s.din i).resolved = false)
    (ht : f + 100000000 ≤ s.fieldNow (16 + i / 32)) (h5 : s.bt (Din.diStatus i) 5 = false) :
    Gives (.unresolvedLong i) s (fun t => t.bt (Din.diStatus i) 5 = true ∧ SameMem s t
      ∧ ∀ h, s.runs h = true → Reported t h 0x0911 8 i) := by
  let shown := s.sb (Din.diStatus i) 5 true
  let u := (shown.satF (Din.diCounts i) 31 16 1).reportDeck 0x0911 8 i [(s.bt (Din.diStatus i) 6).toNat]
  have hex : exec (.unresolvedLong i) s = .next (u.diShow i) := by
    refine congrArg Host.Outcome.next ((s.onDeck_out_of_reset _ hd).trans (if_pos ⟨hr, hun, ?_, h5⟩))
    simp only [hf]
    exact decide_eq_true ht
  have L := u.leaves_diShow i
  refine ⟨_, hex, (L.bt (not_or.2 ⟨fun h => by simpa using h.2, ?_⟩)).trans ?_, fun a => ?_, fun h hrun => L.reported ?_⟩
  · exact not_inputMapReg_inputAt (o := 0x20) hi hi (by decide) (.inr (by decide))
  · simp [u, shown, State.bt, inputAt_names, bit_setBit]
  · exact (State.byte_diShow ..).trans ((State.byte_reportDeck ..).trans ((State.byte_satF ..).trans (State.byte_sb ..)))
  · exact State.reported_reportDeck _ _ _ _ _ ((State.runs_satF ..).trans ((State.runs_sb ..).trans hrun))

theorem diCountWrap_completes (i : Nat) (s : State) (hi : i < 512) (hd : s.deck.inReset = false)
    (hmax : s.rn (Din.diCount i) = 2 ^ 32 - 1) :
    Gives (.diCountWrap i) s (fun t => t.rg (Din.diCount i) = 0 ∧ t.bt (Din.diStatus i) 9 = true
      ∧ t.mapBit (Din.diWrapMap 0) i = true ∧ SameMem s t ∧ ∀ h, s.runs h = true → Pends t h 624) := by
  have hex : exec (.diCountWrap i) s = .next ((s.diWrapped i).raiseBoth 624) :=
    congrArg Host.Outcome.next ((s.onDeck_out_of_reset _ hd).trans ((if_pos hmax).trans (State.diCountEdge_wraps hmax)))
  have hrg {a : Nat} (h1 : 0x1100000 ≤ a) (h2 : a < 0x1180000) : ((s.diWrapped i).raiseBoth 624).rg a = (s.diWrapped i).rg a :=
    ((s.diWrapped i).leaves_raiseBoth (by decide) fun _ => ()).rg fun _ => not_eventReg_of_input h1 h2
  refine ⟨_, hex, ?_, ?_, ?_, fun a => ?_, fun h hr => State.pends_raiseBoth _ (by decide) ?_⟩
  · exact (hrg (by simp only [Din.diCount]; omega) (by simp only [Din.diCount]; omega)).trans (s.rg_diWrapped hi)
  · refine (congrArg (bit · 9) (hrg (by simp only [Din.diStatus]; omega) (by simp only [Din.diStatus]; omega))).trans ?_
    have hmap : Din.diStatus i ≠ Din.diWrapMap 0 + 4 * (i / 32) := by simp only [Din.diStatus, Din.diWrapMap]; omega
    simp only [State.diWrapped, State.rg_setMapBit, if_neg hmap]
    exact State.bt_sb _ _ _ (by decide)
  · exact (State.mapBit_of_rg (hrg (by simp only [Din.diWrapMap]; omega) (by simp only [Din.diWrapMap]; omega))).trans
      (State.mapBit_setMapBit ..)
  · exact (State.byte_raiseBoth ..).trans ((State.byte_setMapBit ..).trans ((State.byte_sb ..).trans (State.byte_wr ..)))
  · exact (State.runs_setMapBit ..).trans ((State.runs_sb ..).trans ((State.runs_wr ..).trans hr))

theorem diClearCount_completes (h : Half) (i : Nat) (s : State) (hm : MayCmd s h (16 + i / 32)) :
    Gives (.diClearCount h i) s (fun t => (t.din i).clearReq = true ∧ SameMem s t ∧ SameRegs s t (fun _ => False)) :=
  ⟨_, congrArg Host.Outcome.next (State.deckCmd_of_mayCmd _ hm), congrArg DinRun.clearReq (State.din_modDin s i _),
    fun _ => State.byte_modDin .., fun _ _ => State.rg_modDin ..⟩

theorem diClearCounts_completes (h : Half) (i : Nat) (s : State) (hm : MayCmd s h (16 + i / 32)) :
    Gives (.diClearCounts h i) s (fun t => t.rg (Din.diCounts i) = 0 ∧ SameMem s t
      ∧ SameRegs s t (fun a => a = Din.diCounts i) ∧ t.deck = s.deck) :=
  ⟨_, congrArg Host.Outcome.next (State.deckCmd_of_mayCmd _ hm), (State.rg_wr ..).trans (if_pos rfl), fun _ => State.byte_wr ..,
    fun _ ha => (State.rg_wr ..).trans (if_neg ha), State.deck_wr ..⟩

/-! ### The frequency gate (R276) -/

/-- A gate of input `i` that ends, with the run `x` before it and the gate's reference. -/
def State.gateEnded (s : State) (i : Nat) (x : DinRun) (ref : Option Nat) : State := match ref with
  | none => s
  | some r =>
    if 0 < x.edges then
      ((s.wn (Din.diFreq i) (b32Ratio (x.edges * 1000000000) (x.tLast - r))).sb (Din.diStatus i) 8 false).modDin i
        (fun x => { x with tRef := some x.tLast, edges := 0 })
    else if r + 2000000000 < s.fieldNow (16 + i / 32) then (s.wr (Din.diFreq i) 0).sb (Din.diStatus i) 8 true
    else s
/-- The gate of input `i` noted as ended. -/
def State.gateNoted (s : State) (i : Nat) : State := s.modDin i (fun x => { x with gateK := some (s.gateOf i) })
theorem State.fieldNow_gateNoted (s : State) (i g : Nat) : (s.gateNoted i).fieldNow g = s.fieldNow g := by
  have howner : (s.gateNoted i).owner g = s.owner g := rfl
  rw [State.fieldNow, howner, State.fieldNow]
  split
  · exact congrArg (fun x : HalfSt => x.time.acc / 2 ^ 32 % 2 ^ 64) (State.half_modDeck ..)
  · rfl

section
variable (i r : Nat) (s : State) (hd : s.deck.inReset = false) (hr : s.dinReady (i / 32) = true) (hc : s.bt (Din.diCfg i) 0 = true)
  (href : (s.din i).tRef = some r) (hk : (s.din i).gateK ≠ some (s.gateOf i))
include hd hr hc href hk

theorem exec_freqGateEnd : exec (.freqGateEnd i) s = .next ((s.gateNoted i).gateEnded i (s.din i) (some r)) := by
  rw [← href]
  exact congrArg Host.Outcome.next ((s.onDeck_out_of_reset _ hd).trans (if_neg (by simp [hc, hr, hk])))

theorem freqGateEnd_edges_completes (he : 0 < (s.din i).edges) :
    Gives (.freqGateEnd i) s (fun t =>
      t.rg (Din.diFreq i) = BitVec.ofNat 32 (b32Ratio ((s.din i).edges * 1000000000) ((s.din i).tLast - r))
      ∧ t.bt (Din.diStatus i) 8 = false ∧ (t.din i).tRef = some (s.din i).tLast ∧ (t.din i).edges = 0 ∧ SameMem s t
      ∧ SameRegs s t (fun a => a = Din.diFreq i ∨ a = Din.diStatus i)) := by
  let shown := ((s.gateNoted i).wn (Din.diFreq i) (b32Ratio ((s.din i).edges * 1000000000) ((s.din i).tLast - r))).sb
    (Din.diStatus i) 8 false
  have hdin : shown.din i = { s.din i with gateK := some (s.gateOf i) } :=
    (State.din_of_deck ((State.deck_sb ..).trans (State.deck_wn ..)) i).trans (State.din_modDin s i _)
  let t := shown.modDin i (fun x => { x with tRef := some x.tLast, edges := 0 })
  have hex : exec (.freqGateEnd i) s = .next t := (exec_freqGateEnd i r s hd hr hc href hk).trans (congrArg Host.Outcome.next (if_pos he))
  have hfinal : t.din i = { shown.din i with tRef := some (shown.din i).tLast, edges := 0 } := State.din_modDin shown i _
  have hrg (a : Nat) : t.rg a = shown.rg a := State.rg_modDin ..
  refine ⟨t, hex, ?_, ?_, ?_, ?_, fun a => ?_, fun a ha => ?_⟩
  · exact (hrg _).trans ((State.rg_sb ..).trans ((if_neg (by simp [inputAt_names])).trans ((State.rg_wn ..).trans (if_pos rfl))))
  · exact (congrArg (bit · 8) (hrg _)).trans (State.bt_sb _ _ _ (by decide))
  · rw [hfinal, hdin]
  · rw [hfinal]
  · exact (State.byte_modDin ..).trans ((State.byte_sb ..).trans ((State.byte_wn ..).trans (State.byte_modDin ..)))
  · obtain ⟨h1, h2⟩ := not_or.1 ha
    exact (hrg _).trans ((State.rg_sb ..).trans ((if_neg h2).trans ((State.rg_wn ..).trans ((if_neg h1).trans (State.rg_modDin ..)))))

theorem freqGateEnd_idle_completes (he : (s.din i).edges = 0) (ht : r + 2000000000 < s.fieldNow (16 + i / 32)) :
    Gives (.freqGateEnd i) s (fun t => t.rg (Din.diFreq i) = 0 ∧ t.bt (Din.diStatus i) 8 = true ∧ SameMem s t
      ∧ SameRegs s t (fun a => a = Din.diFreq i ∨ a = Din.diStatus i)) := by
  let t := ((s.gateNoted i).wr (Din.diFreq i) 0).sb (Din.diStatus i) 8 true
  have hex : exec (.freqGateEnd i) s = .next t := (exec_freqGateEnd i r s hd hr hc href hk).trans (congrArg Host.Outcome.next
    ((if_neg (by omega)).trans (if_pos (by rw [State.fieldNow_gateNoted]; exact ht))))
  refine ⟨t, hex, ?_, State.bt_sb _ _ _ (by decide), fun a => ?_, fun a ha => ?_⟩
  · exact (State.rg_sb ..).trans ((if_neg (by simp [inputAt_names])).trans ((State.rg_wr ..).trans (if_pos rfl)))
  · exact (State.byte_sb ..).trans ((State.byte_wr ..).trans (State.byte_modDin ..))
  · obtain ⟨h1, h2⟩ := not_or.1 ha
    exact (State.rg_sb ..).trans ((if_neg h2).trans ((State.rg_wr ..).trans ((if_neg h1).trans (State.rg_modDin ..))))
end

end Sys2Proof.Machine
end

section
/-! Test pulses of digital inputs (R277, R309, R310); and all commands of the inputs together. -/
namespace Sys2Proof.Machine

/-! ### A slot begins (R277, R309) -/

/-- Input `i` held by the slot of supply `g`. -/
def State.slotHeld (s : State) (g i : Nat) : State :=
  ((s.modDin i (fun x => { x with
    preHigh := x.lastHigh
    slotOk := true
    heldBy := some g
    holdT := s.deck.ticks
    frame := s.fieldNow (16 + g / 8) / 20000000 })).sb (Din.diStatus i) 10 true).diShow i
/-- Input `i`, with run `x` before, held by the slot of supply `g`, its last sample before the slot noted. -/
def SlotBegun (g i : Nat) (x : DinRun) (t : State) : Prop := t.bt (Din.diStatus i) 10 = true
  ∧ (t.din i).preHigh = x.lastHigh ∧ (t.din i).slotOk = true ∧ (t.din i).heldBy = some g

section
variable {s t : State} {g i e : Nat}

/-- A supply feeds inputs of its own card alone. -/
theorem State.lt_of_mem_fedBy (hg : g < 128) (h : i ∈ s.fedBy g) : i < 512 := by
  obtain ⟨k, hk, rfl⟩ := List.mem_map.1 (List.mem_filter.1 h).1
  have := List.mem_range.1 hk
  omega
theorem nodup_cardInputs (c : Nat) : ((List.range 32).map (fun k => 32 * c + k)).Nodup :=
  List.nodup_range.map fun a b (h : 32 * c + a = 32 * c + b) => by omega
/-- A status bit beside those that showing an input writes. -/
theorem State.bt_diShow_other (s : State) {n : Nat} (hi : i < 512) (hn : n ∉ [0, 1, 2, 3, 4]) :
    (s.diShow i).bt (Din.diStatus i) n = s.bt (Din.diStatus i) n :=
  (s.leaves_diShow i).bt (not_or.2 ⟨fun h => hn h.2, not_inputMapReg_inputAt (o := 0x20) hi hi (by decide) (.inr (by decide))⟩)
/-- Another input held or released. -/
theorem keepsInput_held (hi : i < 512) (he : e < 512) (hne : e ≠ i) (f : DinRun → DinRun) (b : Bool) :
    KeepsInput i t (((t.modDin e f).sb (Din.diStatus e) 10 b).diShow e) := by
  have hblind := dinBlind_other hne.symm (fun _ : DinRun => ())
  have hJ (l : List Nat) (a n : Nat) (h : InputBit e l a n) := judgeBit_keepsInput hi he hne a n (.inl h)
  have hmod : KeepsInput i t (t.modDin e f) := (Leaves.refl ..).modDin (hblind _ _ fun _ => rfl)
  exact (Leaves.sb hmod (hJ [10] _ 10 (.inl ⟨rfl, by decide⟩))).diShown (hJ _) (hblind.mono fun _ _ _ => rfl)
theorem keepsInput_slotHeld (hi : i < 512) (he : e < 512) (hne : e ≠ i) : KeepsInput i t (t.slotHeld g e) :=
  keepsInput_held hi he hne _ true
theorem SlotBegun.kept {x : DinRun} (h : SlotBegun g i x s) (K : KeepsInput i s t) : SlotBegun g i x t := by
  obtain ⟨h10, hpre, hok, hheld⟩ := h
  exact ⟨(congrArg (bit · 10) K.status).trans h10, (congrArg (·.preHigh) K.din).trans hpre, (congrArg (·.slotOk) K.din).trans hok,
    (congrArg (·.heldBy) K.din).trans hheld⟩
theorem State.slotBegun_slotHeld (s : State) (g : Nat) (hi : i < 512) : SlotBegun g i (s.din i) (s.slotHeld g i) := by
  let u := s.modDin i (fun x => { x with
    preHigh := x.lastHigh
    slotOk := true
    heldBy := some g
    holdT := s.deck.ticks
    frame := s.fieldNow (16 + g / 8) / 20000000 })
  have hu : u.din i = _ := State.din_modDin s i _
  have S := (u.sb (Din.diStatus i) 10 true).leaves_diShow i
  refine ⟨(State.bt_diShow_other _ hi (by decide)).trans (State.bt_sb _ _ _ (by decide)), ?_, ?_, ?_⟩
  · exact (congrArg (fun x : DinRun => x.preHigh) S.deck).trans (congrArg (·.preHigh) hu)
  · exact (congrArg (fun x : DinRun => x.slotOk) S.deck).trans (congrArg (·.slotOk) hu)
  · exact (congrArg (fun x : DinRun => x.heldBy) S.deck).trans (congrArg (·.heldBy) hu)
@[simp] theorem State.byte_slotHeld (s : State) (g i a : Nat) : (s.slotHeld g i).byte a = s.byte a :=
  (State.byte_diShow ..).trans ((State.byte_sb ..).trans (State.byte_modDin ..))
end

theorem testPulseSlotStart_completes (g : Nat) (s : State) (hg : g < 128) (hd : s.deck.inReset = false) :
    Gives (.testPulseSlotStart g) s (fun t => SameMem s t
      ∧ ∀ i ∈ s.fedBy g, t.bt (Din.diStatus i) 10 = true ∧ (t.din i).preHigh = (s.din i).lastHigh
          ∧ (t.din i).slotOk = true ∧ (t.din i).heldBy = some g) := by
  have hex : exec (.testPulseSlotStart g) s = .next ((s.fedBy g).foldl (fun t i => t.slotHeld g i) s) :=
    congrArg Host.Outcome.next (s.onDeck_out_of_reset _ hd)
  refine ⟨_, hex, fun a => foldl_keeps (State.byte · a) _ _ _ fun t i => t.byte_slotHeld g i a, fun i him => ?_⟩
  have hi := State.lt_of_mem_fedBy hg him
  have hfed : SlotBegun g i (s.din i) ((s.fedBy g).foldl (fun t i => t.slotHeld g i) s) :=
    foldl_reaches (p := (· < 512)) (I := KeepsInput i s) (k := i)
      (fun t e he hne K => Leaves.trans K (keepsInput_slotHeld hi he hne)) (fun t K => K.din ▸ t.slotBegun_slotHeld g hi)
      (fun t e he hne h => h.kept (keepsInput_slotHeld hi he hne)) (fun _ => State.lt_of_mem_fedBy hg)
      ((nodup_cardInputs _).filter _) him (.refl i s)
  exact hfed

/-! ### A hold ends (R277, R310) -/

/-- The proving frames in a row once the slot of run `x` has ended. -/
def DinRun.proven (x : DinRun) : Nat :=
  if x.slotOk && x.preHigh then (if x.cleanFrame + 1 = x.frame then x.clean + 1 else 1) else 0
/-- Input `i` released from its slot. -/
def State.released (s : State) (i : Nat) : State :=
  let n := (s.din i).proven
  ((s.modDin i (fun x => { x with
    heldBy := none
    cleanFrame := x.frame
    clean := n
    cross := x.cross && decide (n < 2)
    slotOk := false
    preHigh := false })).sb (Din.diStatus i) 10 false).diShow i
/-- Input `i` released if supply `g` holds it and its hold has ended. -/
def State.holdEnded (s : State) (g i : Nat) : State :=
  if s.bt (Din.diStatus i) 10 ∧ (s.din i).heldBy = some g ∧ (s.din i).holdT + 62500 ≤ s.deck.ticks then s.released i else s
/-- Input `i`, with run `x` before, released: its proving frames counted, and CROSS_SHORT cleared by two. -/
def HoldOver (i : Nat) (x : DinRun) (t : State) : Prop := t.bt (Din.diStatus i) 10 = false ∧ (t.din i).heldBy = none
  ∧ (t.din i).clean = x.proven ∧ (t.din i).cross = (x.cross && decide (x.proven < 2))

section
variable {s t : State} {g i e : Nat}

theorem keepsInput_holdEnded (hi : i < 512) (he : e < 512) (hne : e ≠ i) : KeepsInput i t (t.holdEnded g e) :=
  .ite (fun _ => keepsInput_held hi he hne _ false) fun _ => .refl ..
theorem HoldOver.kept {x : DinRun} (h : HoldOver i x s) (K : KeepsInput i s t) : HoldOver i x t := by
  obtain ⟨h10, hheld, hclean, hcross⟩ := h
  exact ⟨(congrArg (bit · 10) K.status).trans h10, (congrArg (·.heldBy) K.din).trans hheld, (congrArg (·.clean) K.din).trans hclean,
    (congrArg (·.cross) K.din).trans hcross⟩
theorem State.holdOver_released (s : State) (hi : i < 512) : HoldOver i (s.din i) (s.released i) := by
  let n := (s.din i).proven
  let u := s.modDin i (fun x => { x with
    heldBy := none
    cleanFrame := x.frame
    clean := n
    cross := x.cross && decide (n < 2)
    slotOk := false
    preHigh := false })
  have hu : u.din i = _ := State.din_modDin s i _
  have S := (u.sb (Din.diStatus i) 10 false).leaves_diShow i
  refine ⟨(State.bt_diShow_other _ hi (by decide)).trans (State.bt_sb _ _ _ (by decide)), ?_, ?_, ?_⟩
  · exact (congrArg (fun x : DinRun => x.heldBy) S.deck).trans (congrArg (·.heldBy) hu)
  · exact (congrArg (fun x : DinRun => x.clean) S.deck).trans (congrArg (·.clean) hu)
  · exact (congrArg (fun x : DinRun => x.cross) S.deck).trans (congrArg (·.cross) hu)
@[simp] theorem State.byte_holdEnded (s : State) (g i a : Nat) : (s.holdEnded g i).byte a = s.byte a := by
  rw [State.holdEnded]
  split
  · exact (State.byte_diShow ..).trans ((State.byte_sb ..).trans (State.byte_modDin ..))
  · rfl
end

theorem testPulseHoldEnd_completes (g i : Nat) (s : State) (hg : g < 128) (hig : i / 32 = g / 8) (hd : s.deck.inReset = false)
    (h10 : s.bt (Din.diStatus i) 10 = true) (hheld : (s.din i).heldBy = some g) (ht : (s.din i).holdT + 62500 ≤ s.deck.ticks) :
    Gives (.testPulseHoldEnd g) s (fun t => t.bt (Din.diStatus i) 10 = false ∧ SameMem s t
      ∧ (t.din i).heldBy = none ∧ (t.din i).clean = (if (s.din i).slotOk && (s.din i).preHigh then
          (if (s.din i).cleanFrame + 1 = (s.din i).frame then (s.din i).clean + 1 else 1) else 0)
      ∧ (t.din i).cross = ((s.din i).cross && decide ((t.din i).clean < 2))) := by
  let inputs := (List.range 32).map (fun k => 32 * (g / 8) + k)
  have hex : exec (.testPulseHoldEnd g) s = .next (inputs.foldl (fun t i => t.holdEnded g i) s) :=
    congrArg Host.Outcome.next (s.onDeck_out_of_reset _ hd)
  have hi : i < 512 := by omega
  have hmem : i ∈ inputs := List.mem_map.2 ⟨i % 32, List.mem_range.2 (by omega), by omega⟩
  have hlt : ∀ e ∈ inputs, e < 512 := by
    intro e he
    obtain ⟨k, hk, rfl⟩ := List.mem_map.1 he
    have := List.mem_range.1 hk
    omega
  have hover : HoldOver i (s.din i) (inputs.foldl (fun t i => t.holdEnded g i) s) := by
    refine foldl_reaches (p := (· < 512)) (I := KeepsInput i s) (k := i)
      (fun t e he hne K => Leaves.trans K (keepsInput_holdEnded hi he hne)) (fun t K => ?_)
      (fun t e he hne h => h.kept (keepsInput_holdEnded hi he hne)) hlt (nodup_cardInputs _) hmem (.refl i s)
    have hdue : t.bt (Din.diStatus i) 10 = true ∧ (t.din i).heldBy = some g ∧ (t.din i).holdT + 62500 ≤ t.deck.ticks := by
      rw [K.din, K.ticks]
      exact ⟨(congrArg (bit · 10) K.status).trans h10, hheld, ht⟩
    rw [State.holdEnded, if_pos hdue, ← K.din]
    exact t.holdOver_released hi
  obtain ⟨h10', hfree, hclean, hcross⟩ := hover
  exact ⟨_, hex, h10', fun a => foldl_keeps (State.byte · a) _ _ _ fun t i => t.byte_holdEnded g i a, hfree, hclean,
    hcross.trans (by rw [hclean])⟩

/-! ### A supply in limit (R277) -/

section
variable (g : Nat) (s : State) (hd : s.deck.inReset = false)
include hd

theorem tpSupplyFault_begins_completes (hb : s.bt (Din.diCardStatus (g / 8)) (8 + g % 8) = false) :
    Gives (.tpSupplyFault g true) s (fun t => t.bt (Din.diCardStatus (g / 8)) (8 + g % 8) = true ∧ SameMem s t
      ∧ ∀ h, s.runs h = true → Reported t h 0x0915 7 (g / 8)) := by
  refine ⟨(s.sb (Din.diCardStatus (g / 8)) (8 + g % 8) true).reportDeck 0x0915 7 (g / 8) [g],
    congrArg Host.Outcome.next ((s.onDeck_out_of_reset _ hd).trans ((if_pos rfl).trans (if_neg (ne_true_of_eq_false hb)))), ?_,
    fun a => (State.byte_reportDeck ..).trans (State.byte_sb ..), fun h hr => ?_⟩
  · exact (congrArg (bit · (8 + g % 8)) (State.rg_reportDeck ..)).trans (State.bt_sb _ _ _ (by omega))
  · exact State.reported_reportDeck _ _ _ _ _ ((State.runs_sb ..).trans hr)
theorem tpSupplyFault_ends_completes :
    Gives (.tpSupplyFault g false) s (fun t => t.bt (Din.diCardStatus (g / 8)) (8 + g % 8) = false ∧ SameMem s t
      ∧ SameRegs s t (fun a => a = Din.diCardStatus (g / 8))) :=
  ⟨_, congrArg Host.Outcome.next ((s.onDeck_out_of_reset _ hd).trans (if_neg Bool.false_ne_true)), State.bt_sb _ _ _ (by omega),
    fun _ => State.byte_sb .., fun _ ha => (State.rg_sb ..).trans (if_neg ha)⟩
end

/-! ### All commands of the inputs -/

/-- Settles O19: windows, edges and counts, the frequency gate, and the slots of the test-pulse supplies. -/
theorem digitalInputCommandsComplete : Obligations.DigitalInputCommandsComplete :=
  ⟨fun n k p0 p1 t0 s hn hk hd hr hc hst h0 h1 hrun => diWindow_completes n k p0 p1 t0 s hn hk hd hr hc hst h0 h1 hrun,
    fun i level other t0 s hi hd hr hc hst => diEdge_completes i level other t0 s hi hd hr hc hst,
    fun i f s hi hd hr hf hun ht h5 => unresolvedLong_completes i f s hi hd hr hf hun ht h5,
    fun i s hi hd hmax => diCountWrap_completes i s hi hd hmax,
    fun i r s _ hd hr hc href hk => ⟨freqGateEnd_edges_completes i r s hd hr hc href hk,
      freqGateEnd_idle_completes i r s hd hr hc href hk⟩,
    fun h i s hm => diClearCount_completes h i s hm,
    fun h i s hm => diClearCounts_completes h i s hm,
    fun g s hg hd => testPulseSlotStart_completes g s hg hd,
    fun g i s hg hig hd h10 hheld ht => testPulseHoldEnd_completes g i s hg hig hd h10 hheld ht,
    fun g s _ hd => ⟨tpSupplyFault_begins_completes g s hd, tpSupplyFault_ends_completes g s hd⟩⟩

end Sys2Proof.Machine
end

section
/-! SUPPORT. Updates that leave what the terms of Lid read, while events are asserted and reports made (R291-R303). -/
namespace Sys2Proof.Machine

/-! ### What an update of the field deck leaves -/

/-- What Lid works by in the field deck beside its registers: the channels with their comparators, the two paths of each digital
input, the demands of the halves, and of each term the instant of step 1. -/
structure LidInputs where
  chans : Map ChanRun
  paths : Nat → Bool × Bool
  demA : Nat
  demB : Nat
  armT : Nat → Nat
def DeckSt.lidInputs (d : DeckSt) : LidInputs :=
  ⟨d.chans, fun j => ((d.din j).p0.state, (d.din j).p1.state), d.lid.demA, d.lid.demB,
    fun k => (Map.get (fun _ => ({} : TermRun)) d.lid.terms k).armT⟩
/-- The commit units that are dirty, and those that a strobe has marked. -/
def State.marks (s : State) : List CUnit × List CUnit := (s.dirty, s.marked)

/-- The registers of Lid and of the fields cards, the motion ports and the drive links. -/
def DeckReg (a : Nat) : Prop := (0x400000 ≤ a ∧ a < 0x800000) ∨ (0x1000000 ≤ a ∧ a < 0x1400000)
/-- The registers of the halves that events of the field deck change: those of an assertion, and the count of lost trip
records. -/
def SideReg (a : Nat) : Prop := ∃ h, EventReg h a ∨ a = Log.pinOverrun h

theorem DeckReg.not_eventReg {a : Nat} (ha : DeckReg a) (h : Half) : ¬ EventReg h a := by
  rintro (⟨h1, h2⟩ | ⟨h1, h2⟩) <;> cases h <;> simp only [DeckReg, Half.base] at * <;> omega
theorem DeckReg.not_sideReg {a : Nat} (ha : DeckReg a) : ¬ SideReg a := by
  rintro ⟨h, he | he⟩
  · exact ha.not_eventReg h he
  · cases h <;> simp only [DeckReg, Half.base, Log.pinOverrun] at * <;> omega
theorem not_deckReg_pend (h : Half) {src : Nat} (_ : src < 1024) : ¬ DeckReg (Evc.pend h 0 + 4 * (src / 32)) := by
  cases h <;> simp only [DeckReg, Half.base, Evc.pend] <;> omega

/-- A field is the same where its bits are. -/
theorem State.fd_congr {s t : State} {a hi lo : Nat} (h : ∀ n, lo ≤ n → n ≤ hi → bit (t.rg a) n = bit (s.rg a) n) :
    t.fd a hi lo = s.fd a hi lo := by
  refine Nat.eq_of_testBit_eq fun i => ?_
  simp only [State.fd, bits, Nat.testBit_mod_two_pow, Nat.testBit_shiftRight]
  by_cases hi' : i < hi + 1 - lo
  · have hb := h (lo + i) (by omega) (by omega)
    simp only [bit, BitVec.getLsbD] at hb
    rw [hb]
  · simp [hi']

/-- `t` is `s` but for the register bits of the field deck that `W` names and for events and reports: what was pending or on its
way to a logbook still is. -/
structure Follows (W : Nat → Nat → Prop) (s t : State) : Prop where
  bit : ∀ a n, ¬ W a n → ¬ SideReg a → Machine.bit (t.rg a) n = Machine.bit (s.rg a) n
  inputs : t.deck.lidInputs = s.deck.lidInputs
  runs : ∀ h, t.runs h = s.runs h
  pends : ∀ h src, src < 1024 → Pends s h src → Pends t h src
  reported : ∀ h code kind num, Reported s h code kind num → Reported t h code kind num
  marks : t.marks = s.marks

section
variable {W V : Nat → Nat → Prop} {s t u : State}

theorem Follows.refl (W : Nat → Nat → Prop) (s : State) : Follows W s s :=
  ⟨fun _ _ _ _ => rfl, rfl, fun _ => rfl, fun _ _ _ h => h, fun _ _ _ _ h => h, rfl⟩
theorem Follows.trans (F : Follows W s t) (G : Follows W t u) : Follows W s u :=
  ⟨fun a n hW ha => (G.bit a n hW ha).trans (F.bit a n hW ha), G.inputs.trans F.inputs, fun h => (G.runs h).trans (F.runs h),
    fun h src hs hp => G.pends h src hs (F.pends h src hs hp), fun h c k n hr => G.reported h c k n (F.reported h c k n hr),
    G.marks.trans F.marks⟩
theorem Follows.mono (F : Follows W s t) (hW : ∀ a n, W a n → V a n) : Follows V s t :=
  ⟨fun a n hV => F.bit a n fun h => hV (hW a n h), F.inputs, F.runs, F.pends, F.reported, F.marks⟩
theorem Follows.ite {p : Prop} [Decidable p] (ht : p → Follows W s t) (hu : ¬ p → Follows W s u) :
    Follows W s (if p then t else u) := by
  split
  · exact ht ‹p›
  · exact hu ‹¬ p›
theorem Follows.foldl {α : Type} {f : State → α → State} {l : List α} (hf : ∀ u x, x ∈ l → Follows W u (f u x)) :
    Follows W s (l.foldl f s) :=
  List.foldlRecOn l f (.refl W s) fun u hu x hx => hu.trans (hf u x hx)

theorem Follows.rg (F : Follows W s t) {a : Nat} (hW : ∀ n, ¬ W a n) (ha : ¬ SideReg a) : t.rg a = s.rg a :=
  BitVec.eq_of_getLsbD_eq fun n _ => F.bit a n (hW n) ha
theorem Follows.bt (F : Follows W s t) {a n : Nat} (hW : ¬ W a n) (ha : ¬ SideReg a) : t.bt a n = s.bt a n := F.bit a n hW ha
theorem Follows.fd (F : Follows W s t) {a hi lo : Nat} (hW : ∀ n, lo ≤ n → n ≤ hi → ¬ W a n) (ha : ¬ SideReg a) :
    t.fd a hi lo = s.fd a hi lo := State.fd_congr fun n h1 h2 => F.bit a n (hW n h1 h2) ha

/-! ### What follows so -/

/-- An update of the field deck's registers and of the halves' notes. -/
theorem Follows.of_leaves (L : Leaves W DeckSt.lidInputs s t) (hW : ∀ a n, W a n → DeckReg a) (hm : t.marks = s.marks) :
    Follows W s t :=
  ⟨fun a n h _ => L.bit a n h, L.deck, L.runs, fun h _ hs hp => L.pends (fun n hn => not_deckReg_pend h hs (hW _ n hn)) hp,
    fun _ _ _ _ hr => L.reported hr, hm⟩
theorem follows_raise (s : State) (h : Half) {src : Nat} (hs : src < 1024) : Follows W s (s.raise h src) :=
  ⟨fun a n _ ha => by rw [s.rg_raise_of_not_eventReg h src a hs fun he => ha ⟨h, .inl he⟩], by rw [State.deck_raise],
    fun k => State.runs_raise .., fun k j hj hp => s.raise_keeps h k src j (by omega) (by omega) hp,
    fun k c d n hr => by rw [Reported, State.half_raise]; exact hr,
    by rw [State.marks, State.dirty_raise, State.marked_raise, State.marks]⟩
theorem follows_raiseBoth (s : State) {src : Nat} (hs : src < 1024) : Follows W s (s.raiseBoth src) :=
  (follows_raise s .a hs).trans (follows_raise _ .b hs)

section
variable (s : State)

@[simp] theorem State.marks_wr (a : Nat) (w : Word) : (s.wr a w).marks = s.marks := (Eq.refl _).trans rfl
@[simp] theorem State.marks_fw (a hi lo v : Nat) : (s.fw a hi lo v).marks = s.marks := (Eq.refl _).trans rfl
@[simp] theorem State.marks_sb (a n : Nat) (b : Bool) : (s.sb a n b).marks = s.marks := (Eq.refl _).trans rfl
@[simp] theorem State.marks_wn (a v : Nat) : (s.wn a v).marks = s.marks := (Eq.refl _).trans rfl
@[simp] theorem State.marks_satF (a hi lo k : Nat) : (s.satF a hi lo k).marks = s.marks := (Eq.refl _).trans rfl
@[simp] theorem State.marks_setMapBit (a i : Nat) (b : Bool) : (s.setMapBit a i b).marks = s.marks := (Eq.refl _).trans rfl
@[simp] theorem State.marks_modDeck (f : DeckSt → DeckSt) : (s.modDeck f).marks = s.marks := (Eq.refl _).trans rfl
end
@[simp] theorem State.marks_modHalf (s : State) (h : Half) (f : HalfSt → HalfSt) : (s.modHalf h f).marks = s.marks := by
  cases h <;> rfl
@[simp] theorem State.marks_reportDeck (s : State) (c k n : Nat) (d : List Nat) : (s.reportDeck c k n d).marks = s.marks := by
  have hat (t : State) (h : Half) : (t.reportAt h s.deckNow c k n d).marks = t.marks :=
    ite_keeps State.marks (fun _ => rfl) fun _ => State.marks_modHalf ..
  exact (hat _ _).trans (hat _ _)
theorem State.marks_setBytes (bs : List Byte) (s : State) (k : Nat) : (s.setBytes k bs).marks = s.marks := by
  induction bs generalizing s k with
  | nil => rfl
  | cons b bs ih => exact ih _ _
theorem State.marks_image (s : State) (off : Nat) (ws : List Nat) : (s.image off ws).marks = s.marks := by
  have hto (t : State) (h : Half) : (if t.deckHears h then t.imageTo h off ws else t).marks = t.marks :=
    ite_keeps State.marks (fun _ => foldl_keeps State.marks _ _ t fun u e => State.marks_setBytes _ u _) fun _ => rfl
  exact (hto _ .b).trans (hto _ .a)
theorem follows_reportDeck (s : State) (c k n : Nat) (d : List Nat) : Follows W s (s.reportDeck c k n d) :=
  (Follows.of_leaves (W := fun _ _ => False) (Leaves.refl _ _ s).reportDeck (fun _ _ h => h.elim)
    (s.marks_reportDeck c k n d)).mono fun _ _ h => h.elim

/-! ### A trip record (R540) -/

/-- A trip record that finds no place is counted in the half's logbook. -/
theorem follows_pinLost (s : State) (h : Half) :
    Follows W s (((s.sat (Log.pinOverrun h)).modLog h (fun x => { x with pinOverrun := x.pinOverrun + 1 })).raise h 725) := by
  refine Follows.trans ⟨fun a n _ ha => ?_, ?_, fun k => ?_, fun k src hs hp => ?_, fun k c d n hr => ?_, ?_⟩
    (follows_raise _ h (by decide))
  · have hne : a ≠ Log.pinOverrun h := fun e => ha ⟨h, .inr e⟩
    rw [State.modLog, State.rg_modHalf, State.rg_sat_other _ _ _ hne]
  · rw [State.modLog, State.deck_modHalf, State.deck_sat]
  · rw [State.modLog, State.runs_modHalf _ _ _ _ rfl rfl]
    exact State.runs_satF ..
  · have hne : Evc.pend k 0 + 4 * (src / 32) ≠ Log.pinOverrun h := by
      cases h <;> cases k <;> simp only [Evc.pend, Log.pinOverrun, Half.base] <;> omega
    exact (State.mapBit_of_rg ((State.rg_modHalf ..).trans (State.rg_sat_other _ _ _ hne))).trans hp
  · obtain ⟨r, hm, he⟩ := hr
    refine ⟨r, ?_, he⟩
    by_cases e : k = h
    · rw [State.modLog, e, State.half_modHalf, State.half_sat, ← e]
      exact hm
    · rw [State.modLog, State.half_modHalf_ne _ _ _ _ e, State.half_sat]
      exact hm
  · exact (State.marks_modHalf ..).trans (State.marks_satF ..)
theorem follows_tripRecord (s : State) (r : LogRec) : Follows W s (s.tripRecord r) := by
  have hdeck (f : Trivet → Trivet) : Follows W s (s.modTrivet f) :=
    (Follows.of_leaves (W := fun _ _ => False)
      ((Leaves.refl _ _ s).modDeck (f := fun d => { d with trivet := f d.trivet }) rfl rfl) (fun _ _ h => h.elim) rfl).mono
      fun _ _ h => h.elim
  refine .ite (fun _ => hdeck fun x => { x with tripQueue := x.tripQueue ++ [r], pinSeq := (x.pinSeq + 1) % 2 ^ 32 }) fun _ =>
    (hdeck fun x => { x with pinSeq := (x.pinSeq + 1) % 2 ^ 32 }).trans ?_
  exact .foldl fun u h _ => follows_pinLost u h
end

end Sys2Proof.Machine
end

section
/-! SUPPORT. What Lid writes as its terms change, and what of the state the terms read (R291-R303). -/
namespace Sys2Proof.Machine

/-! ### The registers that Lid writes and reads -/

/-- The registers of the targets: outputs, motion ports and drive links, but for the commands of the outputs. -/
def TargetReg (a : Nat) : Prop :=
  0x1180000 ≤ a ∧ a < 0x1400000 ∧ ∀ n, n < 8 → a ≠ Dout.outLo n ∧ a ≠ Dout.outHi n
/-- The register bits that Lid writes when the terms that `T` names change: their status but for RAIL_FAULT, their instants of
trip, the counts of LID_STATUS, DISABLED_MAP and what the targets show. -/
def LidWrites (T : Nat → Prop) (a n : Nat) : Prop :=
  (a = Lid.lidStatus ∧ (n = 2 ∨ 16 ≤ n)) ∨ (∃ k, k < 512 ∧ T k ∧ a = Lid.termStatus k ∧ n ≠ 3)
    ∨ (0x491000 ≤ a ∧ a < 0x492200) ∨ TargetReg a
/-- The register bits that the conditions of the terms and the two-step reset work by: Lid's configuration, RAIL_FAULT,
CONFIG_FAULT, the channels, the inputs and the commands of the outputs. -/
def LidReads (a n : Nat) : Prop :=
  (0x400000 ≤ a ∧ a < 0x480000) ∨ (a = Lid.lidStatus ∧ n = 3) ∨ (∃ k, k < 512 ∧ a = Lid.termStatus k ∧ n = 3)
    ∨ (0x1000000 ≤ a ∧ a < 0x1180000) ∨ ∃ m, m < 8 ∧ (a = Dout.outLo m ∨ a = Dout.outHi m)

section
variable {T U : Nat → Prop} {a n : Nat}

theorem TargetReg.of_output {o : Nat} (ho : o < 256) (h : OutputReg o a) : TargetReg a := by
  rcases h with rfl | rfl | rfl | rfl <;> refine ⟨?_, ?_, fun n hn => ⟨?_, ?_⟩⟩ <;>
    simp only [Dout.doStatus, Dout.outApplied, Dout.outReadback, Dout.doCondMap, Dout.outLo, Dout.outHi] <;> omega
/-- The registers of the motion ports and the drive links. -/
theorem TargetReg.of_le (h1 : 0x1200000 ≤ a) (h2 : a < 0x1400000) : TargetReg a :=
  ⟨by omega, h2, fun n hn => by simp only [Dout.outLo, Dout.outHi]; omega⟩
theorem LidWrites.deckReg (h : LidWrites T a n) : DeckReg a := by
  rcases h with ⟨rfl, -⟩ | ⟨k, hk, -, rfl, -⟩ | h | ⟨h1, h2, -⟩
  · exact .inl (by decide)
  · exact .inl (by simp only [Lid.termStatus]; omega)
  · exact .inl (by omega)
  · exact .inr (by omega)
theorem LidWrites.mono (hT : ∀ k, T k → U k) (a n : Nat) (h : LidWrites T a n) : LidWrites U a n :=
  h.imp_right fun h => h.imp_left fun ⟨k, hk, hTk, h⟩ => ⟨k, hk, hT k hTk, h⟩
theorem LidReads.not_lidWrites (h : LidReads a n) : ¬ LidWrites T a n := by
  have hts (k : Nat) (hk : k < 512) : 0x490000 ≤ Lid.termStatus k ∧ Lid.termStatus k < 0x490800 := by
    simp only [Lid.termStatus]; omega
  rintro (⟨e, hn⟩ | ⟨j, hj, -, e, hn⟩ | hw | ⟨h1, h2, h3⟩)
  · rcases h with h | ⟨-, rfl⟩ | ⟨k, hk, e', -⟩ | h | ⟨m, hm, h | h⟩
    · simp only [Lid.lidStatus] at e; omega
    · omega
    · have := hts k hk; simp only [Lid.lidStatus] at e; omega
    · simp only [Lid.lidStatus] at e; omega
    · simp only [Lid.lidStatus, Dout.outLo] at e h; omega
    · simp only [Lid.lidStatus, Dout.outHi] at e h; omega
  · have := hts j hj
    rcases h with h | ⟨e', -⟩ | ⟨k, hk, -, hn'⟩ | h | ⟨m, hm, h | h⟩
    · omega
    · simp only [Lid.lidStatus] at e'; omega
    · exact hn hn'
    · omega
    · simp only [Dout.outLo] at h; omega
    · simp only [Dout.outHi] at h; omega
  · rcases h with h | ⟨e', -⟩ | ⟨k, hk, e', -⟩ | h | ⟨m, hm, h | h⟩
    · omega
    · simp only [Lid.lidStatus] at e'; omega
    · have := hts k hk; omega
    · omega
    · simp only [Dout.outLo] at h; omega
    · simp only [Dout.outHi] at h; omega
  · rcases h with h | ⟨e', -⟩ | ⟨k, hk, e', -⟩ | h | ⟨m, hm, h | h⟩
    · omega
    · simp only [Lid.lidStatus] at e'; omega
    · have := hts k hk; omega
    · omega
    · exact (h3 m hm).1 h
    · exact (h3 m hm).2 h
/-- The status of a term that is not named stays. -/
theorem not_lidWrites_termStatus {k : Nat} (hk : k < 512) (hT : ¬ T k) : ¬ LidWrites T (Lid.termStatus k) n := by
  rintro (⟨e, -⟩ | ⟨j, -, hj, e, -⟩ | h | ⟨h, -⟩)
  · simp only [Lid.termStatus, Lid.lidStatus] at e; omega
  · have : k = j := by simp only [Lid.termStatus] at e; omega
    exact hT (this ▸ hj)
  · simp only [Lid.termStatus] at h; omega
  · simp only [Lid.termStatus] at h; omega
/-- Of LID_STATUS the bits below its counts but TERM_RAIL_FAULT stay. -/
theorem not_lidWrites_lidStatus (hn : n ≠ 2 ∧ n < 16) : ¬ LidWrites T Lid.lidStatus n := by
  rintro (⟨-, h⟩ | ⟨j, -, -, e, -⟩ | h | ⟨h, -⟩)
  · omega
  · simp only [Lid.termStatus, Lid.lidStatus] at e; omega
  · simp only [Lid.lidStatus] at h; omega
  · simp only [Lid.lidStatus] at h; omega
/-- The registers of Lid between LID_STATUS and the status of the terms stay, and those of a half. -/
theorem not_lidWrites_of_apart (h : ¬ DeckReg a ∨ (0x480004 ≤ a ∧ a < 0x490000)) : ¬ LidWrites T a n := fun hw => by
  have hd := hw.deckReg
  rcases h with h | h
  · exact h hd
  · rcases hw with ⟨e, -⟩ | ⟨j, -, -, e, -⟩ | hw | ⟨hw, -⟩
    · simp only [Lid.lidStatus] at e; omega
    · simp only [Lid.termStatus] at e; omega
    · omega
    · omega
end

/-! ### The targets follow (R204, R219, R282, R303) -/

section
variable (T : Nat → Prop) (s : State)

theorem follows_doOne {o : Nat} (ho : o < 256) : Follows (LidWrites T) s (s.doOne o) := by
  have hdriven : (s.doDriven o).marks = s.marks := by
    rw [State.doDriven]
    split <;> simp
  have hshow : (s.doShow o).marks = (s.doDriven o).marks :=
    (State.marks_setMapBit ..).trans ((State.marks_sb ..).trans (State.marks_sb ..))
  have hm : (s.doOne o).marks = s.marks := (State.marks_image ..).trans (hshow.trans hdriven)
  have hW (a n : Nat) (h : ShownOut o a n) : LidWrites T a n := by
    refine .inr (.inr (.inr (.of_output ho ?_)))
    rcases h with ⟨h, -⟩ | h
    · exact .inl h
    · exact .inr h
  exact .of_leaves ((s.leaves_doOne o _).mono hW) (fun _ _ => LidWrites.deckReg) hm
theorem lidWrites_link {l o n : Nat} (hl : l < 64) (ho : o < 0x1000) : LidWrites T (linkAt l o) n :=
  .inr (.inr (.inr (.of_le (by simp only [linkAt]; omega) (by simp only [linkAt]; omega))))
theorem follows_gateShow {l : Nat} (hl : l < 64) : Follows (LidWrites T) s (s.gateShow l) := by
  have hst {u : State} {n : Nat} {b : Bool} (hu : Leaves (LidWrites T) DeckSt.lidInputs s u) :
      Leaves (LidWrites T) DeckSt.lidInputs s (u.sb (Drv.linkStatus l) n b) :=
    hu.sb (lidWrites_link T (o := 0x40) hl (by decide))
  have hmap : LidWrites T (Drv.faultMap 0 + 4 * (l / 32)) (l % 32) :=
    .inr (.inr (.inr (.of_le (by simp only [Drv.faultMap]; omega) (by simp only [Drv.faultMap]; omega))))
  refine .of_leaves ?_ (fun _ _ => LidWrites.deckReg) ?_
  · rw [State.gateShow]
    refine .ite (fun _ => .refl ..) fun _ => Leaves.setMapBit ?_ hmap
    have h2 := hst (n := if (s.bt (Drv.linkCfg l) 0 && !s.lidOff (256 + l)) then 4 else 3) (b := false)
      (hst (n := 2) (b := s.bt (Drv.linkCfg l) 0 && !s.lidOff (256 + l)) (.refl ..))
    exact .ite (fun _ => h2) fun _ => h2.modDeck rfl rfl
  · rw [State.gateShow]
    refine ite_keeps State.marks (fun _ => rfl) fun _ => (State.marks_setMapBit ..).trans ?_
    exact ite_keeps State.marks (s := s) (fun _ => by simp) fun _ => (State.marks_modDeck ..).trans (by simp)

theorem Follows.targetWrite {T : Nat → Prop} {s t : State} (F : Follows (LidWrites T) s t) {a : Nat} {w : Word} (ha : TargetReg a) :
    Follows (LidWrites T) s (t.wr a w) :=
  F.trans (.of_leaves ((Leaves.refl ..).wr fun _ hn => absurd (.inr (.inr (.inr ha))) hn) (fun _ _ => LidWrites.deckReg)
    (t.marks_wr a w))
theorem Follows.modPort {T : Nat → Prop} {s t : State} (F : Follows (LidWrites T) s t) {p : Nat} {f : MotRun → MotRun} :
    Follows (LidWrites T) s (t.modPort p f) :=
  F.trans (.of_leaves ((Leaves.refl ..).modDeck rfl rfl) (fun _ _ => LidWrites.deckReg) (t.marks_modDeck _))
/-- The registers that a stop of motion port `p` writes. -/
theorem targetReg_port {p : Nat} (hp : p < 32) : TargetReg (Mot.portStatus p) ∧ TargetReg (Mot.stepPos p) ∧ TargetReg (Mot.owed p)
    ∧ TargetReg (Mot.iRefOut p) := by
  simp only [Mot.portStatus, Mot.stepPos, Mot.owed, Mot.iRefOut]
  refine ⟨.of_le ?_ ?_, .of_le ?_ ?_, .of_le ?_ ?_, .of_le ?_ ?_⟩ <;> omega

section
variable {p : Nat} (hp : p < 32)
include hp

theorem Follows.uncertainIf {T : Nat → Prop} {s t : State} (F : Follows (LidWrites T) s t) {c : Prop} [Decidable c] {cause : Nat} :
    Follows (LidWrites T) s (if c then t.uncertain p cause else t) :=
  .ite (fun _ => .ite (fun _ => F) fun _ => (F.targetWrite (targetReg_port hp).1).trans (follows_reportDeck ..)) fun _ => F
theorem follows_portStop (cause : Nat) : Follows (LidWrites T) s (s.portStop p cause) := by
  obtain ⟨hst, hpos, howed, -⟩ := targetReg_port hp
  have hcut (w x : Word) (f g : MotRun → MotRun) :
      Follows (LidWrites T) s ((((s.wr (Mot.stepPos p) w).modPort p f).wr (Mot.owed p) x).modPort p g) :=
    (((Follows.refl ..).targetWrite hpos).modPort.targetWrite howed).modPort
  refine Follows.uncertainIf hp (.ite (fun _ => ?_) fun _ => hcut ..)
  exact (((hcut ..).targetWrite hst).trans (follows_raiseBoth _ (by omega))).trans (follows_reportDeck ..)
theorem follows_portDrop (cause st : Nat) : Follows (LidWrites T) s (s.portDrop p cause st) := by
  obtain ⟨hst, -, -, hiref⟩ := targetReg_port hp
  exact Follows.uncertainIf hp ((((follows_portStop T s hp cause).targetWrite hst).targetWrite hiref).targetWrite hst)
theorem follows_motDisable (off : Bool) : Follows (LidWrites T) s (s.motDisable p off) := by
  have hst := (targetReg_port hp).1
  refine .ite (fun _ => .refl ..) fun _ => .ite (fun _ => .ite (fun _ => .refl ..) fun _ => follows_portDrop T s hp 4 4) fun _ => ?_
  exact .ite (fun _ => ((Follows.refl ..).targetWrite hst).targetWrite hst) fun _ => .refl ..
end

theorem follows_targetShow {k : Nat} (hk : k < 352) : Follows (LidWrites T) s (s.targetShow k) := by
  rw [State.targetShow]
  split
  · exact follows_doOne T s ‹_›
  · split
    · exact follows_gateShow T s (by omega)
    · exact follows_motDisable T s (by omega) _
theorem follows_lidShow : Follows (LidWrites T) s s.lidShow := by
  have hstatus : Follows (LidWrites T) s ((s.fw Lid.lidStatus 31 16
      ((s.usedTerms.filter (fun t => decide (s.termKind t = 1) && decide (s.lockState t ≠ 0))).length)).sb Lid.lidStatus 2
        (s.usedTerms.any (fun t => (s.fw Lid.lidStatus 31 16 ((s.usedTerms.filter (fun t => decide (s.termKind t = 1)
          && decide (s.lockState t ≠ 0))).length)).bt (Lid.termStatus t) 3))) :=
    .of_leaves (((Leaves.refl ..).fw fun _ h _ => .inl ⟨rfl, .inr h⟩).sb (.inl ⟨rfl, .inl rfl⟩)) (fun _ _ => LidWrites.deckReg)
      (by simp)
  have hmap (u o : State) (held : List Nat) : Follows (LidWrites T) u
      ((List.range 11).foldl (fun (u : State) (w : Nat) => u.wr (Lid.disabledMap w) (o.disabledWord held w)) u) := by
    refine .foldl fun x w hw => ?_
    have hw' := List.mem_range.1 hw
    have hW (n : Nat) : LidWrites T (Lid.disabledMap w) n := .inr (.inr (.inl (by simp only [Lid.disabledMap]; omega)))
    exact .of_leaves ((Leaves.refl ..).wr fun n hn => absurd (hW n) hn) (fun _ _ => LidWrites.deckReg) (x.marks_wr ..)
  refine (hstatus.trans (hmap _ _ _)).trans (.foldl fun u k hk => follows_targetShow T u ?_)
  exact List.mem_range.1 (List.mem_filter.1 hk).1
end

end Sys2Proof.Machine
end

section
/-! SUPPORT. What the terms of Lid are by the registers that they read (R291-R294, R300-R302). -/
namespace Sys2Proof.Machine

/-! ### The terms in use -/

theorem windowOf_lid {o : Nat} (h1 : 0x400000 ≤ o) (h2 : o < 0x480000) : windowOf o = some (0x400000, 0x400000, descLid) := by
  have past (n : Nat) (hn : n ≤ 0x400000) : decide (o < n) = false := decide_eq_false (by omega)
  have i1 : decide (0x400000 ≤ o) = true := decide_eq_true h1
  have i2 : decide (o < 0x400000 + 0x400000) = true := decide_eq_true (by omega)
  simp (disch := decide) only [windowOf, windows, List.find?_cons, past, Bool.and_false, i1, i2, Bool.and_true]

section
variable {k : Nat} (hk : k < 512)
include hk

theorem termCtrl_descOf : descOf (Lid.termCtrl k) = some ⟨0x10000, [(0x20, 512)], .rl, 5, 0xFFCF3FF3, 0x0, 0x10⟩ := by
  obtain ⟨r, hr⟩ : ∃ r, r = 0x20 * k + 0x10000 := ⟨_, rfl⟩
  obtain ⟨o, hoo⟩ : ∃ o, o = Lid.termCtrl k := ⟨_, rfl⟩
  have ho : o = 0x400000 + r := by rw [hoo, hr, Lid.termCtrl]; omega
  have ht : isTable o = false := by
    simp only [isTable, ← Bool.decide_and, decide_eq_false_iff_not]
    omega
  have hw := windowOf_lid (o := o) (by omega) (by omega)
  have hsub : o - 0x400000 = r := by omega
  have hne : ¬(0x10000000 ≤ o ∧ o < 0x18000000 ∧ 0x2000 ≤ o % 0x40000) := by omega
  have hle (n : Nat) (hn : n ≤ 0x10000) : decide (n ≤ r) = true := decide_eq_true (by omega)
  have h0 : idxMatch [] (r - 0x0) = false := by
    simp only [idxMatch, decide_eq_false_iff_not]; omega
  have h1 : idxMatch [(0x4, 16)] (r - 0x100) = false := by
    simp only [idxMatch, ← Bool.decide_and, decide_eq_false_iff_not]; omega
  have h2 : idxMatch [(0x20, 512)] (r - 0x10000) = true := by
    simp only [idxMatch, ← Bool.decide_and, decide_eq_true_eq]; omega
  rw [← hoo]
  simp only [descOf, ht, hw, hne, hsub, Bool.false_eq_true, if_false]
  simp (disch := decide) only [descLid, List.find?_cons, hle, h0, h1, h2]
  simp
/-- A term whose TERM_CTRL is at reset is neither SAFETY nor SHED. -/
theorem bits_resetWord_termCtrl (straps : Nat) : bits (resetWord straps (Lid.termCtrl k)) 1 0 = 0 := by
  have hrange : 0x410000 ≤ Lid.termCtrl k ∧ Lid.termCtrl k < 0x414000 := by simp only [Lid.termCtrl]; omega
  have hlow : lowAddr (Lid.termCtrl k) = Lid.termCtrl k := Nat.mod_eq_of_lt (by omega)
  have hspecial : resetSpecial straps (Lid.termCtrl k) = none := by
    simp only [resetSpecial, hlow]
    generalize Lid.termCtrl k = a at hrange
    iterate 12 rw [if_neg (by omega)]
  rw [resetWord, hspecial, hlow, termCtrl_descOf hk]
  decide
end

/-- The terms in use are those of kind SAFETY or SHED. -/
theorem State.mem_usedTerms (s : State) (k : Nat) : k ∈ s.usedTerms ↔ k < 512 ∧ (s.termKind k = 1 ∨ s.termKind k = 2) := by
  simp only [State.usedTerms, List.mem_filter, List.mem_map, Bool.or_eq_true, Bool.and_eq_true, decide_eq_true_eq]
  refine ⟨?_, fun ⟨hk, hkind⟩ => ⟨?_, hkind⟩⟩
  · rintro ⟨⟨e, ⟨-, ⟨h1, h2⟩, -⟩, rfl⟩, hkind⟩
    refine ⟨?_, hkind⟩
    simp only [Lid.termCtrl] at *
    omega
  · have hlisted : Lid.termCtrl k ∈ s.live.map (·.1) := by
      by_contra hn
      have hrg : s.rg (Lid.termCtrl k) = resetWord s.deck.straps (Lid.termCtrl k) := Map.get_unlisted _ _ _ hn
      have h0 : s.termKind k = 0 := by rw [State.termKind, State.fd, hrg, bits_resetWord_termCtrl hk]
      omega
    obtain ⟨e, he, hek⟩ := List.mem_map.1 hlisted
    refine ⟨e, ⟨he, ⟨?_, ?_⟩, ?_⟩, ?_⟩ <;> rw [hek] <;> simp only [Lid.termCtrl] <;> omega

/-! ### States in which the terms read the same -/

/-- Lid reads the same of `t` as of `s`. -/
structure LidSame (s t : State) : Prop where
  bit : ∀ a n, LidReads a n → Machine.bit (t.rg a) n = Machine.bit (s.rg a) n
  inputs : t.deck.lidInputs = s.deck.lidInputs

theorem LidReads.not_sideReg {a n : Nat} (h : LidReads a n) : ¬ SideReg a := by
  refine DeckReg.not_sideReg ?_
  rcases h with h | ⟨rfl, -⟩ | ⟨k, hk, rfl, -⟩ | h | ⟨m, hm, rfl | rfl⟩ <;>
    simp only [DeckReg, Lid.lidStatus, Lid.termStatus, Dout.outLo, Dout.outHi] <;> omega
theorem Follows.lidSame {W : Nat → Nat → Prop} {s t : State} (F : Follows W s t) (hW : ∀ a n, LidReads a n → ¬ W a n) :
    LidSame s t := ⟨fun a n h => F.bit a n (hW a n h) h.not_sideReg, F.inputs⟩

section
variable {s t u : State} (E : LidSame s t)
include E

theorem LidSame.rg {a : Nat} (ha : ∀ n, LidReads a n) : t.rg a = s.rg a := BitVec.eq_of_getLsbD_eq fun n _ => E.bit a n (ha n)
theorem LidSame.config {a : Nat} (ha : 0x400000 ≤ a ∧ a < 0x480000) : t.rg a = s.rg a := E.rg fun _ => .inl ha
theorem LidSame.field {a : Nat} (ha : 0x1000000 ≤ a ∧ a < 0x1180000) : t.rg a = s.rg a :=
  E.rg fun _ => .inr (.inr (.inr (.inl ha)))
theorem LidSame.configFault : t.bt Lid.lidStatus 3 = s.bt Lid.lidStatus 3 := E.bit _ _ (.inr (.inl ⟨rfl, rfl⟩))
theorem LidSame.armT (k : Nat) : (t.term k).armT = (s.term k).armT := congrFun (congrArg LidInputs.armT E.inputs) k

theorem LidSame.lidInput (r : Bool) (i : Nat) : t.lidInput r i = s.lidInput r i := by
  have hchan (c : Nat) : t.chan c = s.chan c :=
    congrArg (fun m => Map.get (fun _ => ({} : ChanRun)) m c) (congrArg LidInputs.chans E.inputs)
  have hpaths (j : Nat) : (t.din j).p0.state = (s.din j).p0.state ∧ (t.din j).p1.state = (s.din j).p1.state :=
    Prod.ext_iff.1 (congrFun (congrArg LidInputs.paths E.inputs) j)
  have hA : t.deck.lid.demA = s.deck.lid.demA := congrArg LidInputs.demA E.inputs
  have hB : t.deck.lid.demB = s.deck.lid.demB := congrArg LidInputs.demB E.inputs
  simp only [State.lidInput]
  split
  · rw [State.bt, State.bt, E.field (by simp only [Anc.cardStatus]; omega), hchan]
  · split
    · rw [State.bt, State.bt, E.field (by simp only [Din.diStatus]; omega), (hpaths _).1, (hpaths _).2]
    · rw [hA, hB]

theorem LidSame.termKind {k : Nat} (hk : k < 512) : t.termKind k = s.termKind k :=
  congrArg (bits · 1 0) (E.config (by simp only [Lid.termCtrl]; omega))
theorem LidSame.termDelay {k : Nat} (hk : k < 512) : t.termDelay k = s.termDelay k :=
  congrArg (bits · 31 22 * 2500) (E.config (by simp only [Lid.termCtrl]; omega))
theorem LidSame.group {k : Nat} (hk : k < 512) : t.fd (Lid.termCtrl k) 19 16 = s.fd (Lid.termCtrl k) 19 16 :=
  congrArg (bits · 19 16) (E.config (by simp only [Lid.termCtrl]; omega))
theorem LidSame.railFault {k : Nat} (hk : k < 512) : t.bt (Lid.termStatus k) 3 = s.bt (Lid.termStatus k) 3 :=
  E.bit _ _ (.inr (.inr (.inl ⟨k, hk, rfl, rfl⟩)))
theorem LidSame.termRefAt {k i : Nat} (hk : k < 512) (hi : i < 8) : t.termRefAt k i = s.termRefAt k i := by
  simp only [State.termRefAt, State.fd, E.config (a := Lid.termRef k (i / 2)) (by simp only [Lid.termRef]; omega)]
theorem LidSame.termRefs {k : Nat} (hk : k < 512) : t.termRefs k = s.termRefs k := by
  simp only [State.termRefs]
  rw [List.map_congr_left fun i hi => E.termRefAt hk (List.mem_range.1 hi)]
theorem LidSame.termCond (r : Bool) {k : Nat} (hk : k < 512) : t.termCond r k = s.termCond r k := by
  have hinput : t.lidInput r = s.lidInput r := funext (E.lidInput r)
  have hvote : t.fd (Lid.termCtrl k) 7 4 = s.fd (Lid.termCtrl k) 7 4 :=
    congrArg (bits · 7 4) (E.config (by simp only [Lid.termCtrl]; omega))
  simp only [State.termCond, E.termRefs hk, E.termKind hk, hinput, hvote]
theorem LidSame.mem_usedTerms (k : Nat) : k ∈ t.usedTerms ↔ k ∈ s.usedTerms := by
  rw [State.mem_usedTerms, State.mem_usedTerms]
  exact and_congr_right fun hk => by rw [E.termKind hk]
theorem LidSame.resetGrp {g n : Nat} (hg : g < 16) : t.bt (Lid.resetGrp g) n = s.bt (Lid.resetGrp g) n :=
  congrArg (Machine.bit · n) (E.config (by simp only [Lid.resetGrp]; omega))
theorem LidSame.groupAllows (src groups : Nat) {g : Nat} (hg : g < 16) : t.groupAllows src groups g = s.groupAllows src groups g := by
  rw [State.groupAllows, State.groupAllows, E.resetGrp hg]
theorem LidSame.doCommand {o : Nat} (ho : o < 256) : t.doCommand o = s.doCommand o := by
  have hreg (m : Nat) (hm : m < 8) : t.rg (Dout.outLo m) = s.rg (Dout.outLo m) ∧ t.rg (Dout.outHi m) = s.rg (Dout.outHi m) :=
    ⟨E.rg fun _ => .inr (.inr (.inr (.inr ⟨m, hm, .inl rfl⟩))), E.rg fun _ => .inr (.inr (.inr (.inr ⟨m, hm, .inr rfl⟩)))⟩
  obtain ⟨hlo, hhi⟩ := hreg (o / 32) (by omega)
  simp only [State.doCommand, State.bt, hlo, hhi]
theorem LidSame.cmdOn {k : Nat} (hk : k < 512) : t.cmdOn k = s.cmdOn k := by
  have hact : t.fd (Lid.termCtrl k) 13 8 = s.fd (Lid.termCtrl k) 13 8 :=
    congrArg (bits · 13 8) (E.config (by simp only [Lid.termCtrl]; omega))
  have ha : s.fd (Lid.termCtrl k) 13 8 < 64 := bits_lt _ 13 8
  rw [State.cmdOn, State.cmdOn, hact]
  rw [Bool.eq_iff_iff]
  simp only [List.any_eq_true, Bool.and_eq_true]
  refine exists_congr fun o => and_congr_right fun hm => ?_
  have ho := List.mem_range.1 hm
  have hmap : t.mapBit (Lid.actDo (s.fd (Lid.termCtrl k) 13 8) 0) o = s.mapBit (Lid.actDo (s.fd (Lid.termCtrl k) 13 8) 0) o :=
    State.mapBit_of_rg (E.config (by simp only [Lid.actDo]; omega))
  rw [hmap, E.doCommand ho]
end

end Sys2Proof.Machine
end

section
/-! SUPPORT. A term evaluated: it trips where its condition acts, and what the evaluation leaves (R293-R299). -/
namespace Sys2Proof.Machine

/-! ### A term takes the state that its condition gives -/

/-- The run of a term whose conditions on the two rails are `c0` and `c1` at tick `now`, with a delay of `d` ticks. -/
def TermRun.follow (x : TermRun) (c0 c1 : Bool) (now d : Nat) : TermRun :=
  { x with
    since0 := if c0 then some (x.since0.getD now) else none
    since1 := if c1 then some (x.since1.getD now) else none
    act0 := c0 && (x.act0 || decide (d = 0))
    act1 := c1 && (x.act1 || decide (d = 0)) }

section
variable (s : State) (k : Nat)

/-- A term in use. -/
def State.termUsed : Bool := decide (s.termKind k = 1) || decide (s.termKind k = 2)
/-- The condition of a term on a rail, or a rail fault of a term in use (R294). -/
def State.termHeld (r : Bool) : Bool := s.termCond r k || (s.bt (Lid.termStatus k) 3 && s.termUsed k)
/-- The state once the term's conditions have been taken. -/
def State.termSeen : State :=
  (s.modTerm k (·.follow (s.termHeld k false) (s.termHeld k true) s.deck.ticks (s.termDelay k))).sb (Lid.termStatus k) 2
    (s.termHeld k false || s.termHeld k true)
/-- A difference of the rails' configuration makes every term in use act (R294). -/
def State.termSuspect : Bool := s.bt Lid.lidStatus 3 && s.termUsed k
/-- Whether the term acts: on a rail, or by such a difference. -/
def State.termActs : Bool := ((s.termSeen k).term k).act0 || ((s.termSeen k).term k).act1 || s.termSuspect k
/-- The evaluation of a term, once its conditions have been taken. -/
theorem State.termEval_eq : s.termEval k =
    let u := s.termSeen k
    let r := !(u.term k).act0 && (u.term k).act1
    if u.termKind k = 1 then
      (if u.lockState k ≠ 1 then (if s.termActs k then u.termTrip k r else u)
       else if s.termHeld k false || s.termHeld k true || s.termSuspect k then u
       else u.termLock k)
    else if u.termKind k = 2 then
      (if s.termActs k ∧ u.lockState k ≠ 1 then
        ((u.fw (Lid.termStatus k) 1 0 1).satF (Lid.termStatus k) 31 16 1).reportDeck 0x0A04 0xE k [u.firstOut r k]
       else if !s.termActs k ∧ u.lockState k = 1 then u.fw (Lid.termStatus k) 1 0 0
       else u)
    else u := rfl

@[simp] theorem State.term_modTerm (f : TermRun → TermRun) : (s.modTerm k f).term k = f (s.term k) := Map.get_set_same ..
theorem State.lidInputs_modTerm {f : TermRun → TermRun} (hf : ∀ x, (f x).armT = x.armT) :
    (s.modTerm k f).deck.lidInputs = s.deck.lidInputs := by
  have harm (j : Nat) : ((s.modTerm k f).term j).armT = (s.term j).armT := by
    by_cases e : j = k
    · rw [e, State.term_modTerm, hf]
    · exact congrArg TermRun.armT (Map.get_set_other _ _ _ _ _ e)
  exact congrArg (LidInputs.mk _ _ _ _) (funext harm)
theorem State.leaves_modTerm {f : TermRun → TermRun} (hf : ∀ x, (f x).armT = x.armT) (W : Nat → Nat → Prop) :
    Leaves W DeckSt.lidInputs s (s.modTerm k f) :=
  (Leaves.refl W _ s).modDeck (f := fun d => { d with lid := { d.lid with
    terms := Map.set (fun _ => {}) d.lid.terms k (f (Map.get (fun _ => {}) d.lid.terms k)) } }) rfl (s.lidInputs_modTerm k hf)
theorem State.leaves_termSeen : Leaves (fun a n => a = Lid.termStatus k ∧ n = 2) DeckSt.lidInputs s (s.termSeen k) := by
  refine Leaves.sb (W := fun a n => a = Lid.termStatus k ∧ n = 2) (s.leaves_modTerm k ?_ _) ⟨rfl, rfl⟩
  exact fun _ => rfl
theorem State.lockState_termSeen : (s.termSeen k).lockState k = s.lockState k :=
  (s.leaves_termSeen k).fd fun n _ h => by omega
theorem State.term_termSeen : (s.termSeen k).term k
    = (s.term k).follow (s.termHeld k false) (s.termHeld k true) s.deck.ticks (s.termDelay k) :=
  s.term_modTerm k (·.follow (s.termHeld k false) (s.termHeld k true) s.deck.ticks (s.termDelay k))
end

/-! ### A trip (R299, R540) -/

/-- The bits that a trip of term `k` writes beside LOCK_STATE. -/
def TripBit (k a n : Nat) : Prop := (a = Lid.termStatus k ∧ 4 ≤ n) ∨ a = Lid.termTripT k 0 ∨ a = Lid.termTripT k 1

section
variable {T : Nat → Prop} (s : State) {k : Nat} (hk : k < 512)
include hk

theorem lidWrites_termStatus {n : Nat} (hT : T k) (hn : n ≠ 3) : LidWrites T (Lid.termStatus k) n :=
  .inr (.inl ⟨k, hk, hT, rfl, hn⟩)
theorem TripBit.lidWrites (hT : T k) (a n : Nat) (h : TripBit k a n) : LidWrites T a n := by
  rcases h with ⟨rfl, hn⟩ | rfl | rfl
  · exact lidWrites_termStatus hk hT (by omega)
  · exact .inr (.inr (.inl (by simp only [Lid.termTripT]; omega)))
  · exact .inr (.inr (.inl (by simp only [Lid.termTripT]; omega)))
theorem follows_termTrip_of_lockState (r : Bool) : Follows (TripBit k) (s.fw (Lid.termStatus k) 1 0 1) (s.termTrip k r) := by
  have hdeck (a n : Nat) (h : TripBit k a n) : DeckReg a := (TripBit.lidWrites (T := fun _ => True) hk trivial a n h).deckReg
  have hst (n : Nat) (hn : 4 ≤ n) : TripBit k (Lid.termStatus k) n := .inl ⟨rfl, hn⟩
  have hstatus (fo x y : Nat) : Follows (TripBit k) (s.fw (Lid.termStatus k) 1 0 1)
      ((((((s.fw (Lid.termStatus k) 1 0 1).fw (Lid.termStatus k) 6 4 fo).fw (Lid.termStatus k) 9 8 0).satF
        (Lid.termStatus k) 31 16 1).wn (Lid.termTripT k 0) x).wn (Lid.termTripT k 1) y) :=
    .of_leaves ((((((Leaves.refl ..).fw fun n h _ => hst n h).fw fun n h _ => hst n (by omega)).satF
      fun n h _ => hst n (by omega)).wn fun _ => .inr (.inl rfl)).wn fun _ => .inr (.inr rfl)) hdeck (by simp)
  have hpanel (u : State) (g : Nat) : Follows (TripBit k) u
      (u.modDeck (fun d => { d with panel := { d.panel with next := some (2, g) } })) :=
    .of_leaves ((Leaves.refl ..).modDeck rfl rfl) hdeck (u.marks_modDeck _)
  exact (((((hstatus _ _ _).trans (follows_tripRecord _ _)).trans (hpanel _ _)).trans (follows_raiseBoth _ (by decide))).trans
    (follows_reportDeck ..))
/-- A term that trips is TRIPPED. -/
theorem State.lockState_termTrip (r : Bool) : (s.termTrip k r).lockState k = 1 := by
  have hb : ∀ n, 0 ≤ n → n ≤ 1 → ¬ TripBit k (Lid.termStatus k) n := by
    rintro n - hn (⟨-, h⟩ | h | h)
    · omega
    · simp only [Lid.termStatus, Lid.termTripT] at h; omega
    · simp only [Lid.termStatus, Lid.termTripT] at h; omega
  have hside : ¬ SideReg (Lid.termStatus k) := DeckReg.not_sideReg (.inl (by simp only [Lid.termStatus]; omega))
  exact ((follows_termTrip_of_lockState s hk r).fd hb hside).trans (State.fd_fw _ _ _ (by decide) (by decide))
theorem follows_termTrip (hT : T k) (r : Bool) : Follows (LidWrites T) s (s.termTrip k r) := by
  have hlock : Follows (LidWrites T) s (s.fw (Lid.termStatus k) 1 0 1) :=
    .of_leaves ((Leaves.refl ..).fw fun n _ h => lidWrites_termStatus hk hT (by omega)) (fun _ _ => LidWrites.deckReg) (by simp)
  exact hlock.trans ((follows_termTrip_of_lockState s hk r).mono (TripBit.lidWrites hk hT))
end

/-- A trip is asserted and reported in each half that runs. -/
theorem State.shown_termTrip (s : State) (k : Nat) (r : Bool) {h : Half} (hr : (s.termTrip k r).runs h = true) :
    Pends (s.termTrip k r) h 128 ∧ Reported (s.termTrip k r) h 0x0A01 0xE k := by
  obtain ⟨u, d, e⟩ : ∃ (u : State) (d : List Nat), s.termTrip k r = (u.raiseBoth 128).reportDeck 0x0A01 0xE k d := ⟨_, _, rfl⟩
  rw [e, State.runs_reportDeck] at hr
  rw [e]
  refine ⟨(follows_reportDeck (W := fun _ _ => False) _ _ _ _ _).pends h 128 (by decide) ?_, State.reported_reportDeck _ _ _ _ _ hr⟩
  exact State.pends_raiseBoth u (by decide) ((State.runs_raiseBoth ..).symm.trans hr)

/-! ### What the evaluation of a term leaves -/

section
variable {T : Nat → Prop} (s : State) {k : Nat} (hk : k < 512) (hT : T k)
include hk hT

theorem follows_termSeen : Follows (LidWrites T) s (s.termSeen k) :=
  .of_leaves ((s.leaves_termSeen k).mono fun _ _ ⟨ha, hn⟩ => ha ▸ lidWrites_termStatus hk hT (by omega))
    (fun _ _ => LidWrites.deckReg) (State.marks_sb ..)
theorem follows_lockWrite (n : Nat) : Follows (LidWrites T) s (s.fw (Lid.termStatus k) 1 0 n) :=
  .of_leaves ((Leaves.refl ..).fw fun n _ h => lidWrites_termStatus hk hT (by omega)) (fun _ _ => LidWrites.deckReg) (by simp)
theorem follows_termLock : Follows (LidWrites T) s (s.termLock k) :=
  ((follows_lockWrite s hk hT 2).trans (.of_leaves ((Leaves.refl ..).fw fun n h _ => lidWrites_termStatus hk hT (by omega))
    (fun _ _ => LidWrites.deckReg) (by simp))).trans (follows_reportDeck ..)
theorem follows_termEval : Follows (LidWrites T) s (s.termEval k) := by
  have hseen := follows_termSeen s hk hT
  have hcount (u : State) : Follows (LidWrites T) u (u.satF (Lid.termStatus k) 31 16 1) :=
    .of_leaves ((Leaves.refl ..).satF fun n h _ => lidWrites_termStatus hk hT (by omega)) (fun _ _ => LidWrites.deckReg) (by simp)
  rw [State.termEval_eq]
  refine .ite (fun _ => .ite (fun _ => .ite (fun _ => ?_) fun _ => hseen) fun _ => .ite (fun _ => hseen) fun _ => ?_)
    fun _ => .ite (fun _ => .ite (fun _ => ?_) fun _ => .ite (fun _ => ?_) fun _ => hseen) fun _ => hseen
  · exact hseen.trans (follows_termTrip _ hk hT _)
  · exact hseen.trans (follows_termLock _ hk hT)
  · exact ((hseen.trans (follows_lockWrite _ hk hT 1)).trans (hcount _)).trans (follows_reportDeck ..)
  · exact hseen.trans (follows_lockWrite _ hk hT 0)
end

/-- Terms evaluated one after another. -/
theorem follows_terms (s : State) {ts : List Nat} (hts : ∀ k ∈ ts, k < 512) :
    Follows (LidWrites (· ∈ ts)) s (ts.foldl State.termEval s) :=
  .foldl fun u k hk => follows_termEval u (hts k hk) hk
theorem follows_termsEval (s : State) {ts : List Nat} (hts : ∀ k ∈ ts, k < 512) :
    Follows (LidWrites (· ∈ ts)) s (s.termsEval ts) :=
  (follows_terms s hts).trans (follows_lidShow _ _)
theorem Follows.lidSame_of_writes {T : Nat → Prop} {s t : State} (F : Follows (LidWrites T) s t) : LidSame s t :=
  F.lidSame fun _ _ => LidReads.not_lidWrites

/-! ### When a term acts -/

section
variable {s t : State} {k : Nat}

theorem State.termUsed_of_safety (h1 : s.termKind k = 1) : s.termUsed k = true := by simp [State.termUsed, h1]
/-- A difference of the rails' configuration. -/
theorem State.termActs_of_configFault (h1 : s.termKind k = 1) (h3 : s.bt Lid.lidStatus 3 = true) : s.termActs k = true := by
  simp [State.termActs, State.termSuspect, h3, State.termUsed_of_safety h1]
/-- A condition on a rail, without delay. -/
theorem State.termActs_of_noDelay (hd : s.termDelay k = 0) (hc : (s.termCond false k || s.termCond true k) = true) :
    s.termActs k = true := by
  rcases Bool.or_eq_true_iff.1 hc with h | h <;>
    simp [State.termActs, State.term_termSeen, TermRun.follow, State.termHeld, hd, h]
/-- A condition on rail 0 that acts already. -/
theorem State.termActs_of_act (hc : s.termCond false k = true) (ha : (s.term k).act0 = true) : s.termActs k = true := by
  simp [State.termActs, State.term_termSeen, TermRun.follow, State.termHeld, hc, ha]
/-- No condition, no rail fault and no difference of configuration. -/
theorem State.termActs_eq_false (h0 : s.termCond false k = false) (h1 : s.termCond true k = false)
    (hf : s.bt (Lid.termStatus k) 3 = false) (h3 : s.bt Lid.lidStatus 3 = false) : s.termActs k = false := by
  simp [State.termActs, State.termSuspect, State.term_termSeen, TermRun.follow, State.termHeld, h0, h1, hf, h3]
/-- What acts holds the term. -/
theorem State.termHeld_of_acts (ha : s.termActs k = true) :
    (s.termHeld k false || s.termHeld k true || s.termSuspect k) = true := by
  simp only [State.termActs, State.term_termSeen, TermRun.follow, Bool.or_eq_true, Bool.and_eq_true] at ha ⊢
  exact ha.imp_left fun h => h.imp (·.1) (·.1)

/-! ### A SAFETY term evaluated -/

variable (hk : k < 512) (h1 : s.termKind k = 1)
include hk h1

theorem State.termKind_termSeen : (s.termSeen k).termKind k = 1 :=
  ((follows_termSeen (T := fun _ => True) s hk trivial).lidSame_of_writes.termKind hk).trans h1
/-- A SAFETY term that does not act and is not TRIPPED takes its conditions alone. -/
theorem State.termEval_idle (ha : s.termActs k = false) (hl : s.lockState k ≠ 1) : s.termEval k = s.termSeen k := by
  have hl' := (s.lockState_termSeen k).trans_ne hl
  simp [State.termEval_eq, State.termKind_termSeen hk h1, hl', ha]
theorem State.termEval_trips (ha : s.termActs k = true) (hl : s.lockState k ≠ 1) :
    s.termEval k = (s.termSeen k).termTrip k (!((s.termSeen k).term k).act0 && ((s.termSeen k).term k).act1) := by
  have hl' := (s.lockState_termSeen k).trans_ne hl
  simp [State.termEval_eq, State.termKind_termSeen hk h1, hl', ha]
theorem State.termEval_stays (ha : s.termActs k = true) (hl : s.lockState k = 1) : s.termEval k = s.termSeen k := by
  have hl' := (s.lockState_termSeen k).trans hl
  simp [State.termEval_eq, State.termKind_termSeen hk h1, hl', State.termHeld_of_acts ha]
end

/-- SAFETY term `k`, evaluated since `s`, is TRIPPED; a trip since then is asserted and reported in each half that runs. -/
def Tripped (k : Nat) (s t : State) : Prop := t.lockState k = 1
  ∧ (s.lockState k ≠ 1 → ∀ h, s.runs h = true → Pends t h 128 ∧ Reported t h 0x0A01 0xE k)

section
variable {W : Nat → Nat → Prop} {s t u : State} {k : Nat}

theorem Tripped.follows (h : Tripped k s t) (F : Follows W t u) (hl : u.lockState k = t.lockState k) : Tripped k s u :=
  ⟨hl.trans h.1, fun hne j hr => ⟨F.pends j 128 (by decide) (h.2 hne j hr).1, F.reported j _ _ _ (h.2 hne j hr).2⟩⟩
/-- The evaluation of a SAFETY term that acts trips it. -/
theorem State.tripped_termEval (s : State) (hk : k < 512) (h1 : s.termKind k = 1) (ha : s.termActs k = true) :
    Tripped k s (s.termEval k) := by
  by_cases hl : s.lockState k = 1
  · rw [State.termEval_stays hk h1 ha hl]
    exact ⟨(s.lockState_termSeen k).trans hl, fun hne => absurd hl hne⟩
  · have hF := follows_termEval (T := fun _ => True) s hk trivial
    have hruns (h : Half) (hr : s.runs h = true) : (s.termEval k).runs h = true := (hF.runs h).trans hr
    rw [State.termEval_trips hk h1 ha hl] at hruns ⊢
    exact ⟨State.lockState_termTrip _ hk _, fun _ h hr => State.shown_termTrip _ k _ (hruns h hr)⟩
theorem Tripped.of_unchanged (h : Tripped k t u) (hl : t.lockState k = s.lockState k) (hr : ∀ h, t.runs h = s.runs h) :
    Tripped k s u := ⟨h.1, fun hne j hj => h.2 (hl.trans_ne hne) j ((hr j).trans hj)⟩

/-- LOCK_STATE of a term that is not named stays. -/
theorem Follows.lockState {T : Nat → Prop} (F : Follows (LidWrites T) s t) (hk : k < 512) (hT : ¬ T k) :
    t.lockState k = s.lockState k :=
  F.fd (fun _ _ _ => not_lidWrites_termStatus hk hT) (DeckReg.not_sideReg (.inl (by simp only [Lid.termStatus]; omega)))

/-- Of the terms evaluated, a SAFETY term that acts as long as Lid reads the same is TRIPPED. -/
theorem tripped_terms {ts : List Nat} (hts : ∀ j ∈ ts, j < 512) (hk : k ∈ ts) (h1 : s.termKind k = 1)
    (ha : ∀ t, LidSame s t → t.termActs k = true) : Tripped k s (s.termsEval ts) := by
  have hk' := hts k hk
  suffices H : ∀ (l : List Nat) (t : State), (∀ j ∈ l, j < 512) → LidSame s t → (∀ h, t.runs h = s.runs h) →
      Tripped k s t ∨ (k ∈ l ∧ t.lockState k = s.lockState k) → Tripped k s (l.foldl State.termEval t) by
    have hfold := H ts s hts ⟨fun _ _ _ => rfl, rfl⟩ (fun _ => rfl) (.inr ⟨hk, rfl⟩)
    have hshow := follows_lidShow (fun _ => False) (ts.foldl State.termEval s)
    exact hfold.follows hshow (hshow.lockState hk' not_false)
  intro l
  induction l with
  | nil => exact fun t _ _ _ h => h.resolve_right fun h => List.not_mem_nil h.1
  | cons j l ih =>
    intro t hl hE hr h
    have F := follows_termEval (T := (· = j)) t (hl j List.mem_cons_self) rfl
    have hE' : LidSame s (t.termEval j) :=
      ⟨fun a n h => (F.lidSame_of_writes.bit a n h).trans (hE.bit a n h), F.inputs.trans hE.inputs⟩
    refine ih _ (fun i hi => hl i (List.mem_cons_of_mem _ hi)) hE' (fun h => (F.runs h).trans (hr h)) ?_
    by_cases e : k = j
    · subst e
      have hnow := t.tripped_termEval hk' ((hE.termKind hk').trans h1) (ha t hE)
      refine .inl ?_
      rcases h with h | ⟨-, hl⟩
      · exact h.follows F (hnow.1.trans h.1.symm)
      · exact hnow.of_unchanged hl hr
    · refine h.imp (fun h => h.follows F (F.lockState hk' e)) fun ⟨hm, hl⟩ => ⟨?_, (F.lockState hk' e).trans hl⟩
      exact (List.mem_cons.1 hm).resolve_left e
/-- One term evaluated, and the targets shown. -/
theorem State.tripped_termsEval_one (u : State) {k : Nat} (hk : k < 512) (h1 : u.termKind k = 1) (ha : u.termActs k = true) :
    Tripped k u (u.termsEval [k]) :=
  have hshow := follows_lidShow (fun _ => False) (u.termEval k)
  (u.tripped_termEval hk h1 ha).follows hshow (hshow.lockState hk not_false)
end

end Sys2Proof.Machine
end

section
/-! Lid's inputs, delays, rail faults and targets (R293-R299). -/
namespace Sys2Proof.Machine

theorem State.lt_of_mem_usedTerms {s : State} {k : Nat} (h : k ∈ s.usedTerms) : k < 512 := ((s.mem_usedTerms k).1 h).1
theorem State.runs_modTerm (s : State) (k : Nat) (f : TermRun → TermRun) (h : Half) : (s.modTerm k f).runs h = s.runs h :=
  State.runs_modDeck ..
theorem LidSame.of_modTerm (s : State) (k : Nat) {f : TermRun → TermRun} (hf : ∀ x, (f x).armT = x.armT) :
    LidSame s (s.modTerm k f) := ⟨fun _ _ _ => rfl, s.lidInputs_modTerm k hf⟩
section
variable (s : State) (hd : s.deck.inReset = false)
include hd

theorem lidInputChange_completes (i k : Nat) (hk : k ∈ s.usedTerms) (h1 : s.termKind k = 1)
    (hi : (s.termRefs k).contains i = true) (hdelay : s.termDelay k = 0)
    (hc : (s.termCond false k || s.termCond true k) = true) : Gives (.lidInputChange i) s (Tripped k s) := by
  have hk' := State.lt_of_mem_usedTerms hk
  refine ⟨_, congrArg Host.Outcome.next (s.onDeck_out_of_reset _ hd), ?_⟩
  refine tripped_terms (fun j hj => State.lt_of_mem_usedTerms (List.mem_filter.1 hj).1) (List.mem_filter.2 ⟨hk, hi⟩) h1 fun t E => ?_
  exact State.termActs_of_noDelay ((E.termDelay hk').trans hdelay) (by rw [E.termCond _ hk', E.termCond _ hk', hc])

theorem termDelayExpire_completes (k c : Nat) (hk : k < 512) (h1 : s.termKind k = 1) (hc : s.termCond false k = true)
    (hs : (s.term k).since0 = some c) (ht : c + s.termDelay k ≤ s.deck.ticks) : Gives (.termDelayExpire k) s (Tripped k s) := by
  let due (x : Option Nat) : Bool := match x with
    | some n => decide (n + s.termDelay k ≤ s.deck.ticks)
    | none => false
  let act (x : TermRun) : TermRun := { x with act0 := x.act0 || due x.since0, act1 := x.act1 || due x.since1 }
  have E : LidSame s (s.modTerm k act) := .of_modTerm s k fun _ => rfl
  have hdue : due (s.term k).since0 = true := by rw [hs]; exact decide_eq_true ht
  have hact : ((s.modTerm k act).term k).act0 = true := by
    rw [State.term_modTerm]
    exact Bool.or_eq_true_iff.2 (.inr hdue)
  have htrip := (s.modTerm k act).tripped_termsEval_one hk ((E.termKind hk).trans h1)
    (State.termActs_of_act ((E.termCond _ hk).trans hc) hact)
  exact ⟨_, congrArg Host.Outcome.next (s.onDeck_out_of_reset _ hd), htrip.of_unchanged rfl (s.runs_modTerm k act)⟩

/-! ### Faults of the rails (R294) -/

theorem termRailFault_completes (k : Nat) (hk : k < 512) (hne : s.termCond false k ≠ s.termCond true k)
    (hb : s.bt (Lid.termStatus k) 3 = false) :
    Gives (.termRailFault k) s (fun t => t.bt (Lid.termStatus k) 3 = true ∧ ∀ h, s.runs h = true → Reported t h 0x0A05 0xE k) := by
  let u := s.modTerm k (fun x => { x with railT := s.deck.ticks })
  let v := (u.sb (Lid.termStatus k) 3 true).reportDeck 0x0A05 0xE k [(s.termCond false k).toNat, (s.termCond true k).toNat]
  have F := follows_termsEval v (ts := [k]) (by simpa using hk)
  have hex : exec (.termRailFault k) s = .next (v.termsEval [k]) := by
    refine congrArg Host.Outcome.next ((s.onDeck_out_of_reset _ hd).trans ?_)
    simp only [if_neg hne]
    exact if_pos ⟨hne, hb⟩
  refine ⟨_, hex, (F.lidSame_of_writes.railFault hk).trans ?_, fun h hr => F.reported _ _ _ _ ?_⟩
  · exact (congrArg (bit · 3) (State.rg_reportDeck ..)).trans (State.bt_sb _ _ _ (by decide))
  · exact State.reported_reportDeck _ _ _ _ _ ((State.runs_sb ..).trans ((s.runs_modTerm k _ h).trans hr))
theorem railFaultClear_completes (k : Nat) (hk : k < 512) (heq : s.termCond false k = s.termCond true k)
    (hb : s.bt (Lid.termStatus k) 3 = true) (ht : (s.term k).railT + 25000000 ≤ s.deck.ticks) :
    Gives (.railFaultClear k) s (fun t => t.bt (Lid.termStatus k) 3 = false) := by
  have F := follows_termsEval (s.sb (Lid.termStatus k) 3 false) (ts := [k]) (by simpa using hk)
  exact ⟨_, congrArg Host.Outcome.next ((s.onDeck_out_of_reset _ hd).trans (if_pos ⟨heq, hb, ht⟩)),
    (F.lidSame_of_writes.railFault hk).trans (State.bt_sb _ _ _ (by decide))⟩
theorem configCrcCompare_completes (c0 c1 : Word) (hne : c0 ≠ c1) (hb : s.bt Lid.lidStatus 3 = false) :
    Gives (.configCrcCompare c0 c1) s (fun t => t.bt Lid.lidStatus 3 = true
      ∧ (∀ k ∈ s.usedTerms, s.termKind k = 1 → t.lockState k = 1) ∧ ∀ h, s.runs h = true → Reported t h 0x0A06 0xE 0) := by
  let v := (s.sb Lid.lidStatus 3 true).reportDeck 0x0A06 0xE 0 [c0.toNat, c1.toNat]
  have hv : v.bt Lid.lidStatus 3 = true :=
    (congrArg (bit · 3) (State.rg_reportDeck ..)).trans (State.bt_sb _ _ _ (by decide))
  have hkind (k : Nat) (hk : k < 512) : v.termKind k = s.termKind k := by
    refine congrArg (bits · 1 0) ((State.rg_reportDeck ..).trans ((State.rg_sb ..).trans (if_neg ?_)))
    simp only [Lid.termCtrl, Lid.lidStatus]
    omega
  have F := follows_termsEval v fun k hk => State.lt_of_mem_usedTerms (s := s) hk
  refine ⟨_, congrArg Host.Outcome.next ((s.onDeck_out_of_reset _ hd).trans (if_neg (by simp [hne, hb]))),
    F.lidSame_of_writes.configFault.trans hv, fun k hk h1 => ?_, fun h hr => F.reported _ _ _ _ ?_⟩
  · have hk' := State.lt_of_mem_usedTerms hk
    have htrip : Tripped k v (v.termsEval s.usedTerms) := tripped_terms (fun j hj => State.lt_of_mem_usedTerms hj) hk
      ((hkind k hk').trans h1) fun t E => State.termActs_of_configFault ((E.termKind hk').trans ((hkind k hk').trans h1))
        (E.configFault.trans hv)
    exact htrip.1
  · exact State.reported_reportDeck _ _ _ _ _ ((State.runs_sb ..).trans hr)

/-! ### A target's disable lines (R297) -/

theorem targetFault_completes (k : Nat) (r0 r1 : Bool) (hne : r0 ≠ s.lidOff k ∨ r1 ≠ s.lidOff k)
    (hm : s.mapBit (Lid.targetFaultMap 0) k = false) :
    Gives (.targetFault k r0 r1) s (fun t => t.mapBit (Lid.targetFaultMap 0) k = true ∧ SameMem s t
      ∧ ∀ h, s.runs h = true → Reported t h 0x0A07 0xF k) := by
  refine ⟨(s.setMapBit (Lid.targetFaultMap 0) k true).reportDeck 0x0A07 0xF k [r0.toNat, r1.toNat],
    congrArg Host.Outcome.next ((s.onDeck_out_of_reset _ hd).trans (if_pos ⟨hne, hm⟩)), ?_,
    fun a => (State.byte_reportDeck ..).trans (State.byte_setMapBit ..), fun h hr => ?_⟩
  · exact (State.mapBit_of_rg (State.rg_reportDeck ..)).trans (State.mapBit_setMapBit ..)
  · exact State.reported_reportDeck _ _ _ _ _ ((State.runs_setMapBit ..).trans hr)
end

end Sys2Proof.Machine
end

section
/-! The demands of the halves (R292). -/
namespace Sys2Proof.Machine

/-! ### A half's vector -/

/-- The listed entries at other keys are the same after a write. -/
theorem Map.filter_set {α : Type} [DecidableEq α] (d : Nat → α) (k : Nat) (w : α) {p : Nat × α → Bool}
    (hp : ∀ x, p (k, x) = false) (m : Map α) : (Map.set d m k w).filter p = m.filter p := by
  have hdel (m : Map α) : (Map.del m k).filter p = m.filter p := by
    induction m with
    | nil => rfl
    | cons e m ih =>
      obtain ⟨i, x⟩ := e
      rw [Map.del]
      split
      · next e => rw [ih, List.filter_cons_of_neg (by rw [e, hp]; decide)]
      · rw [List.filter_cons, List.filter_cons, ih]
  have hins (m : Map α) : (Map.ins m k w).filter p = m.filter p := by
    induction m with
    | nil => simp [Map.ins, hp]
    | cons e m ih =>
      obtain ⟨i, x⟩ := e
      rw [Map.ins]
      split
      · rw [List.filter_cons_of_neg (by rw [hp]; decide)]
      · split
        · next e => rw [List.filter_cons_of_neg (by rw [hp]; decide), List.filter_cons_of_neg (by rw [e, hp]; decide)]
        · rw [List.filter_cons, List.filter_cons, ih]
  rw [Map.set]
  split
  · exact hdel m
  · exact hins m

/-- Whether a listed register of half `h` is the STATUS of a copy that asserts its demand (R292). -/
def State.demands (s : State) (h : Half) (e : Nat × Word) : Bool :=
  decide (engBase h 0 ≤ e.1) && decide (e.1 < engBase h 512) && decide (0x1000 ≤ (e.1 - engBase h 0) % 0x40000)
    && decide ((e.1 - engBase h 0) % 0x40000 < 0x2000) && decide ((e.1 - engBase h 0) % 0x200 = 0xC0) && bit e.2 9 && !bit e.2 4
    && (bits e.2 1 0 == 1 || bits e.2 1 0 == 2) && !s.mapBit (Mod.plcOos h 0) ((e.1 - engBase h 0) / 0x40000)
theorem State.engDemands_eq (s : State) (h : Half) : s.engDemands h = (s.half h).place.lost.filterMap (fun l => l.demand)
    ++ (s.live.filter (s.demands h)).map (fun e => s.fd (e.1 - 0xC0 + 0x18) 15 8) := rfl
theorem State.range_of_demands {s : State} {h : Half} {e : Nat × Word} (he : s.demands h e = true) :
    engBase h 0 + 0x1000 ≤ e.1 ∧ e.1 < engBase h 512 := by
  simp only [State.demands, Bool.and_eq_true, decide_eq_true_eq] at he
  obtain ⟨⟨⟨⟨⟨⟨⟨⟨h1, h2⟩, h3⟩, -⟩, -⟩, -⟩, -⟩, -⟩, -⟩ := he
  have := Nat.mod_le (e.1 - engBase h 0) 0x40000
  omega

section
variable (s : State) (h : Half) {w : Nat} (hw : w < 8) (x : Word)
include hw

/-- A write of LID_DEMAND_SENT leaves the demands and the engines. -/
theorem State.rg_wr_sent {a : Nat} (ha : a < h.base + 0xC120 ∨ h.base + 0xC140 ≤ a) :
    (s.wr (Mod.lidDemandSent h w) x).rg a = s.rg a :=
  (State.rg_wr ..).trans (if_neg (by simp only [Mod.lidDemandSent]; omega))
theorem State.engDemands_wr_sent : (s.wr (Mod.lidDemandSent h w) x).engDemands h = s.engDemands h := by
  let t := s.wr (Mod.lidDemandSent h w) x
  have hdem (e : Nat × Word) : t.demands h e = s.demands h e := by
    by_cases he : e.1 < engBase h 512
    · have hoos : t.mapBit (Mod.plcOos h 0) ((e.1 - engBase h 0) / 0x40000)
          = s.mapBit (Mod.plcOos h 0) ((e.1 - engBase h 0) / 0x40000) := by
        have he' : (e.1 - engBase h 0) / 0x40000 < 512 := by simp only [engBase] at *; omega
        exact State.mapBit_of_rg (s.rg_wr_sent h hw x (.inl (by simp only [Mod.plcOos]; omega)))
      rw [State.demands, State.demands, hoos]
    · simp [State.demands, he]
  have hlist : t.live.filter (t.demands h) = s.live.filter (s.demands h) := by
    rw [funext hdem]
    refine Map.filter_set _ _ _ (fun y => Bool.eq_false_iff.2 fun he => ?_) _
    have := (State.range_of_demands he).1
    simp only [engBase, Mod.lidDemandSent] at this
    omega
  rw [State.engDemands_eq, State.engDemands_eq, hlist, State.half_wr]
  congr 1
  refine List.map_congr_left fun e he => congrArg (bits · 15 8) (s.rg_wr_sent h hw x (.inr ?_))
  have := (State.range_of_demands (List.mem_filter.1 he).2).1
  simp only [engBase] at this
  omega
/-- LID_DEMAND_SENT is no part of the vector. -/
theorem State.demandVec_wr_sent : (s.wr (Mod.lidDemandSent h w) x).demandVec h = s.demandVec h := by
  have hword (v : Nat) (j : Nat) (hj : j ∈ List.range 8) : v + (s.wr (Mod.lidDemandSent h w) x).rn (Mod.lidDemand h j) * 2 ^ (32 * j)
      = v + s.rn (Mod.lidDemand h j) * 2 ^ (32 * j) := by
    have := List.mem_range.1 hj
    rw [State.rn, s.rg_wr_sent h hw x (.inl (by simp only [Mod.lidDemand]; omega)), State.rn]
  rw [State.demandVec, State.demandVec, s.engDemands_wr_sent h hw, List.foldl_ext _ _ _ hword]
end

/-! ### The vector sent (R292) -/

section
variable (s : State) (h : Half)

/-- What writes of LID_DEMAND_SENT leave, the sending of the vector leaves. -/
theorem State.demandSend_keeps {β : Type} (v : State → β)
    (hv : ∀ t w x, w < 8 → v (State.wr t (Mod.lidDemandSent h w) x) = v t) : v (s.demandSend h) = v s :=
  List.foldlRecOn (motive := fun t => v t = v s) _ _ rfl fun t ht w hw => (hv t w _ (List.mem_range.1 hw)).trans ht
theorem State.demandVec_demandSend : (s.demandSend h).demandVec h = s.demandVec h :=
  s.demandSend_keeps h (State.demandVec · h) fun t _ x hw => t.demandVec_wr_sent h hw x
theorem State.half_demandSend (j : Half) : (s.demandSend h).half j = s.half j :=
  s.demandSend_keeps h (State.half · j) fun _ _ _ _ => State.half_wr ..
/-- LID_DEMAND_SENT shows the vector. -/
theorem State.rg_demandSend {w : Nat} (hw : w < 8) :
    (s.demandSend h).rg (Mod.lidDemandSent h w) = BitVec.ofNat 32 (s.demandVec h / 2 ^ (32 * w)) := by
  have keep (t : State) (j k : Nat) (hj : t.rg (Mod.lidDemandSent h j) = BitVec.ofNat 32 (s.demandVec h / 2 ^ (32 * j))) :
      (t.wn (Mod.lidDemandSent h k) (s.demandVec h / 2 ^ (32 * k))).rg (Mod.lidDemandSent h j)
        = BitVec.ofNat 32 (s.demandVec h / 2 ^ (32 * j)) := by
    rw [State.rg_wn]
    split
    · next e => rw [show j = k by simp only [Mod.lidDemandSent] at e; omega]
    · exact hj
  have hfold := foldl_establishes (p := fun _ : Nat => True)
    (Q := fun k (t : State) => t.rg (Mod.lidDemandSent h k) = BitVec.ofNat 32 (s.demandVec h / 2 ^ (32 * k)))
    (f := fun t k => t.wn (Mod.lidDemandSent h k) (s.demandVec h / 2 ^ (32 * k)))
    (fun t k _ => (State.rg_wn ..).trans (if_pos rfl)) (fun t j k _ _ hj => keep t j k hj) (List.range 8) s fun _ _ => trivial
  exact hfold w (List.mem_range.2 hw)

/-- The demands of half `h` that Lid has. -/
def State.taken : Nat := match h with
  | .a => s.deck.lid.demA
  | .b => s.deck.lid.demB
theorem State.taken_of_inputs {s t : State} (h : Half) (hi : t.deck.lidInputs = s.deck.lidInputs) : t.taken h = s.taken h := by
  cases h with
  | a => exact congrArg LidInputs.demA hi
  | b => exact congrArg LidInputs.demB hi
/-- Lid takes the vector, and its terms follow. -/
theorem State.demandTake_spec (v : Nat) : (s.demandTake h v).taken h = v
    ∧ ∀ w, w < 8 → (s.demandTake h v).rg (Mod.lidDemandSent h w) = s.rg (Mod.lidDemandSent h w) := by
  let u := s.modLid (fun l => match h with
    | .a => { l with demA := v }
    | .b => { l with demB := v })
  have hu : u.taken h = v := by cases h <;> rfl
  have F : Follows _ u (s.demandTake h v) := follows_termsEval u fun k hk => State.lt_of_mem_usedTerms (List.mem_filter.1 hk).1
  have hdeck (w : Nat) (hw : w < 8) : ¬ DeckReg (Mod.lidDemandSent h w) := by
    cases h <;> simp only [DeckReg, Mod.lidDemandSent, Half.base] <;> omega
  have hside (w : Nat) (hw : w < 8) : ¬ SideReg (Mod.lidDemandSent h w) := by
    rintro ⟨j, (⟨h1, h2⟩ | ⟨h1, h2⟩) | e⟩ <;> cases h <;> cases j <;>
      simp only [Mod.lidDemandSent, Log.pinOverrun, Half.base] at * <;> omega
  refine ⟨(State.taken_of_inputs h F.inputs).trans hu, fun w hw => ?_⟩
  exact (F.rg (fun _ => not_lidWrites_of_apart (.inl (hdeck w hw))) (hside w hw)).trans (State.rg_modDeck _ _ _ (by cases h <;> rfl))
end

theorem halfDemandVector_completes (h : Half) (s : State) (hr : s.runs h = true) (hl : (s.half h).linkUp = true) :
    Gives (.halfDemandVector h) s (fun t => t.taken h = s.demandVec h
      ∧ ∀ w, w < 8 → t.rg (Mod.lidDemandSent h w) = BitVec.ofNat 32 (s.demandVec h / 2 ^ (32 * w))) := by
  have hex : exec (.halfDemandVector h) s = .next ((s.demandSend h).demandTake h (s.demandVec h)) := by
    refine congrArg Host.Outcome.next ((s.onHalf_runs h _ hr).trans ?_)
    rw [if_pos (by rw [State.half_demandSend, hl]), State.demandVec_demandSend]
  obtain ⟨htaken, hsent⟩ := (s.demandSend h).demandTake_spec h (s.demandVec h)
  exact ⟨_, hex, htaken, fun w hw => (hsent w hw).trans (s.rg_demandSend h hw)⟩
theorem lidDemandWrite_completes (h : Half) (w : Nat) (val : Word) (s : State) (hw : w < 8) (hr : s.runs h = true) :
    Gives (.lidDemandWrite h w val) s (fun t => t.rg (Mod.lidDemand h w) = val ∧ SameMem s t
      ∧ (∀ k, k < 8 → t.rg (Mod.lidDemandSent h k) = BitVec.ofNat 32 (t.demandVec h / 2 ^ (32 * k)))
      ∧ SameRegs s t (fun a => a = Mod.lidDemand h w ∨ ∃ k, k < 8 ∧ a = Mod.lidDemandSent h k)) := by
  let u := s.wr (Mod.lidDemand h w) val
  have hrg (a : Nat) (ha : ∀ k, k < 8 → a ≠ Mod.lidDemandSent h k) : (u.demandSend h).rg a = u.rg a :=
    u.demandSend_keeps h (State.rg · a) fun t k x hk => (State.rg_wr ..).trans (if_neg (ha k hk))
  refine ⟨u.demandSend h, congrArg Host.Outcome.next (s.onHalf_runs h _ hr), ?_, fun a => ?_, fun k hk => ?_, fun a ha => ?_⟩
  · refine (hrg _ fun k hk => ?_).trans ((State.rg_wr ..).trans (if_pos rfl))
    simp only [Mod.lidDemand, Mod.lidDemandSent]
    omega
  · exact u.demandSend_keeps h (State.byte · a) fun _ _ _ _ => rfl
  · rw [u.rg_demandSend h hk, u.demandVec_demandSend]
  · obtain ⟨h1, h2⟩ := not_or.1 ha
    exact (hrg a fun k hk e => h2 ⟨k, hk, e⟩).trans ((State.rg_wr ..).trans (if_neg h1))
theorem halfDemandRelease_completes (h : Half) (s : State) (hd : s.deck.inReset = false) (hh : s.deckHears h = false)
    (ht : (s.half h).lostT + 50000 ≤ s.deck.ticks) : Gives (.halfDemandRelease h) s (fun t => t.taken h = 0) := by
  have hdue : ¬ (s.deckHears h = true ∨ s.deck.ticks < (s.half h).lostT + 50000) := by
    rw [hh]
    rintro (h | h)
    · exact Bool.false_ne_true h
    · omega
  exact ⟨_, congrArg Host.Outcome.next ((s.onDeck_out_of_reset _ hd).trans (if_neg hdue)), (s.demandTake_spec h 0).1⟩

/-- Settles O22: the terms trip by their inputs and delays, rail faults, targets and the halves' demands. -/
theorem lidTermAndTargetCommandsComplete : Obligations.LidTermAndTargetCommandsComplete :=
  ⟨fun i k s hd hk h1 hi hdelay hc => lidInputChange_completes s hd i k hk h1 hi hdelay hc,
    fun k c s hk hd h1 hc hs ht => termDelayExpire_completes s hd k c hk h1 hc hs ht,
    fun k s hk hd hne hb => termRailFault_completes s hd k hk hne hb,
    fun k s hk hd heq hb ht => railFaultClear_completes s hd k hk heq hb ht,
    fun c0 c1 s hd hne hb => configCrcCompare_completes s hd c0 c1 hne hb,
    fun k r0 r1 s _ hd hne hm => targetFault_completes s hd k r0 r1 hne hm,
    fun h s hr hl => halfDemandVector_completes h s hr hl,
    fun h w val s hw hr => lidDemandWrite_completes h w val s hw hr,
    fun h s hd hh ht => halfDemandRelease_completes h s hd hh ht⟩

end Sys2Proof.Machine
end

section
/-! SUPPORT. Terms that are evaluated without a trip, change-log entries and the end of a reset step (R299-R303, R315). -/
namespace Sys2Proof.Machine

/-! ### Terms that do not act -/

section
variable {s t u : State} {k : Nat}

theorem LidSame.refl (s : State) : LidSame s s := ⟨fun _ _ _ => rfl, rfl⟩
theorem LidSame.trans (E : LidSame s t) (E' : LidSame t u) : LidSame s u :=
  ⟨fun a n h => (E'.bit a n h).trans (E.bit a n h), E'.inputs.trans E.inputs⟩

/-- Term `k` has taken no other state: its status is the same but for ACTIVE. -/
def TermKept (k : Nat) (s t : State) : Prop :=
  ∀ n, n ≠ 2 → bit (t.rg (Lid.termStatus k)) n = bit (s.rg (Lid.termStatus k)) n
theorem TermKept.fd (h : TermKept k s t) {hi lo : Nat} (hlo : hi < 2 ∨ 2 < lo) :
    t.fd (Lid.termStatus k) hi lo = s.fd (Lid.termStatus k) hi lo := State.fd_congr fun n h1 h2 => h n (by omega)
theorem TermKept.lockState (h : TermKept k s t) : t.lockState k = s.lockState k := h.fd (.inl (by decide))
theorem TermKept.of_lidWrites {T : Nat → Prop} (F : Follows (LidWrites T) s t) (hk : k < 512) (hT : ¬ T k) : TermKept k s t :=
  fun n _ => F.bit _ n (not_lidWrites_termStatus hk hT) (DeckReg.not_sideReg (.inl (by simp only [Lid.termStatus]; omega)))

/-- Of the terms evaluated, a SAFETY term that does not act as long as Lid reads the same takes no other state. -/
theorem kept_terms {ts : List Nat} (hts : ∀ j ∈ ts, j < 512) (hk : k < 512) (h1 : s.termKind k = 1) (hl : s.lockState k ≠ 1)
    (ha : ∀ t, LidSame s t → t.termActs k = false) : TermKept k s (s.termsEval ts) := by
  have hfold : LidSame s (ts.foldl State.termEval s) ∧ TermKept k s (ts.foldl State.termEval s) := by
    refine List.foldlRecOn (motive := fun t => LidSame s t ∧ TermKept k s t) ts _ ⟨.refl s, fun _ _ => rfl⟩ ?_
    rintro t ⟨E, K⟩ j hj
    have F := follows_termEval (T := (· = j)) t (hts j hj) rfl
    refine ⟨E.trans F.lidSame_of_writes, ?_⟩
    by_cases e : k = j
    · rw [← e, State.termEval_idle hk ((E.termKind hk).trans h1) (ha t E) (K.lockState.trans_ne hl)]
      exact fun n hn => ((t.leaves_termSeen k).bit _ n fun h => hn h.2).trans (K n hn)
    · exact fun n hn => (TermKept.of_lidWrites F hk e n hn).trans (K n hn)
  have hshow := TermKept.of_lidWrites (follows_lidShow (fun _ => False) (ts.foldl State.termEval s)) hk not_false
  exact fun n hn => (hshow n hn).trans (hfold.2 n hn)

theorem State.lockState_termLock (s : State) (k : Nat) : (s.termLock k).lockState k = 2 := by
  refine (congrArg (bits · 1 0) (State.rg_reportDeck ..)).trans ?_
  exact (State.fd_fw_beside _ _ _ _ (by decide) (by decide) (by decide)).trans (State.fd_fw _ _ _ (by decide) (by decide))
/-- An evaluation arms no SAFETY term. -/
theorem State.armed_of_termEval (hk : k < 512) (h1 : s.termKind k = 1) (h3 : (s.termEval k).lockState k = 3) :
    s.lockState k = 3 := by
  have hseen := s.lockState_termSeen k
  rw [State.termEval_eq] at h3
  simp only [State.termKind_termSeen hk h1, if_true] at h3
  split at h3
  · split at h3
    · rw [State.lockState_termTrip _ hk] at h3
      omega
    · exact hseen.symm.trans h3
  · split at h3
    · exact hseen.symm.trans h3
    · rw [State.lockState_termLock] at h3
      omega
theorem armed_of_termsEval {ts : List Nat} (hts : ∀ j ∈ ts, j < 512) (hk : k < 512) (h1 : s.termKind k = 1)
    (h3 : (s.termsEval ts).lockState k = 3) : s.lockState k = 3 := by
  have hfold : LidSame s (ts.foldl State.termEval s) ∧ ((ts.foldl State.termEval s).lockState k = 3 → s.lockState k = 3) := by
    refine List.foldlRecOn (motive := fun t => LidSame s t ∧ (t.lockState k = 3 → s.lockState k = 3)) ts _ ⟨.refl s, id⟩ ?_
    rintro t ⟨E, ih⟩ j hj
    have F := follows_termEval (T := (· = j)) t (hts j hj) rfl
    refine ⟨E.trans F.lidSame_of_writes, fun h => ih ?_⟩
    by_cases e : k = j
    · exact State.armed_of_termEval hk ((E.termKind hk).trans h1) (e ▸ h)
    · exact (F.lockState hk e).symm.trans h
  exact hfold.2 (((follows_lidShow (fun _ => False) _).lockState hk not_false).symm.trans h3)
end

/-! ### A change-log entry and the result of a step (R301, R315) -/

/-- The registers of the change log. -/
def ChgReg (a : Nat) : Prop := a = Lid.chgSeq ∨ (0x4A0000 ≤ a ∧ a < 0x4C0000)
/-- The bits that a step of the two-step reset writes beside what follows the terms that `T` names. -/
def StepWrites (T : Nat → Prop) (a n : Nat) : Prop := LidWrites T a n ∨ a = Lid.resetStatus ∨ ChgReg a

section
variable {T : Nat → Prop} {a n : Nat}

theorem ChgReg.range (h : ChgReg a) : 0x480200 ≤ a ∧ a < 0x4C0000 ∧ ¬ (0x480204 ≤ a ∧ a < 0x4A0000) := by
  rcases h with rfl | h
  · decide
  · omega
theorem ChgReg.deckReg (h : ChgReg a) : DeckReg a := by
  have := h.range
  exact .inl (by omega)
theorem StepWrites.deckReg (h : StepWrites T a n) : DeckReg a := by
  rcases h with h | rfl | h
  · exact h.deckReg
  · exact .inl (by decide)
  · exact h.deckReg
theorem LidReads.not_stepWrites (h : LidReads a n) : ¬ StepWrites T a n := by
  have hlow (ha : 0x480104 ≤ a ∧ a < 0x4C0000 ∧ ¬ (0x480204 ≤ a ∧ a < 0x4A0000)) : False := by
    rcases h with h | ⟨rfl, -⟩ | ⟨k, hk, rfl, -⟩ | h | ⟨m, hm, rfl | rfl⟩
    · omega
    · exact absurd ha (by decide)
    · simp only [Lid.termStatus] at ha; omega
    · omega
    · simp only [Dout.outLo] at ha; omega
    · simp only [Dout.outHi] at ha; omega
  rintro (h' | rfl | h')
  · exact h.not_lidWrites h'
  · exact hlow (by decide)
  · have := h'.range
    exact hlow (by omega)
theorem not_stepWrites_termStatus {k : Nat} (hk : k < 512) (hT : ¬ T k) : ¬ StepWrites T (Lid.termStatus k) n := by
  rintro (h | h | h)
  · exact not_lidWrites_termStatus hk hT h
  · simp only [Lid.termStatus, Lid.resetStatus] at h; omega
  · have := h.range
    simp only [Lid.termStatus] at this
    omega
end

section
variable {T : Nat → Prop} {s t : State} {k : Nat}

theorem Follows.lidSame_of_step (F : Follows (StepWrites T) s t) : LidSame s t := F.lidSame fun _ _ => LidReads.not_stepWrites
theorem Follows.step (F : Follows (LidWrites T) s t) : Follows (StepWrites T) s t := F.mono fun _ _ => .inl
/-- The status of a term that is not named stays. -/
theorem Follows.termStatus (F : Follows (StepWrites T) s t) (hk : k < 512) (hT : ¬ T k) :
    t.rg (Lid.termStatus k) = s.rg (Lid.termStatus k) :=
  F.rg (fun _ => not_stepWrites_termStatus hk hT) (DeckReg.not_sideReg (.inl (by simp only [Lid.termStatus]; omega)))
theorem Follows.resetStatus (F : Follows (LidWrites T) s t) : t.rg Lid.resetStatus = s.rg Lid.resetStatus :=
  F.rg (fun _ => not_lidWrites_of_apart (.inr (by decide))) (DeckReg.not_sideReg (.inl (by decide)))

theorem follows_chgEntry (s : State) (h : Half) (kind op8 data : Nat) :
    Follows (fun a _ => ChgReg a) s (s.chgEntry h kind op8 data) := by
  have hwords (ws : List Nat) : Follows (fun a _ => ChgReg a) s
      ((List.range 8).foldl (fun t w => t.wn (Lid.chgLog (s.deck.lid.entries % 4096) w) (ws.getD w 0)) s) := by
    refine .foldl fun u w hw => ?_
    have hw' := List.mem_range.1 hw
    have hreg : ChgReg (Lid.chgLog (s.deck.lid.entries % 4096) w) := .inr (by simp only [Lid.chgLog]; omega)
    exact .of_leaves ((Leaves.refl ..).wn fun _ => hreg) (fun _ _ => ChgReg.deckReg)
      (u.marks_wn ..)
  have hseq (u : State) (x y : Nat) : Follows (fun a _ => ChgReg a) u
      ((u.modLid (fun l => { l with entries := x })).wn Lid.chgSeq y) :=
    .of_leaves (((Leaves.refl ..).modDeck (f := fun d => { d with lid := { d.lid with entries := x } }) rfl rfl).wn fun _ => .inl rfl)
      (fun _ _ => ChgReg.deckReg) rfl
  exact ((hwords _).trans (hseq _ _ _)).trans (follows_reportDeck ..)
/-- The result of a step: its code and source, and the event in both halves. -/
theorem State.resetResult_spec (s : State) {src res : Nat} (hsrc : src < 4) (hres : res < 8) :
    Follows (fun a n => a = Lid.resetStatus ∧ n < 6) s (s.resetResult src res)
      ∧ (s.resetResult src res).fd Lid.resetStatus 2 0 = res ∧ (s.resetResult src res).fd Lid.resetStatus 5 4 = src
      ∧ ∀ h, s.runs h = true → Pends (s.resetResult src res) h 134 := by
  let u := (s.fw Lid.resetStatus 2 0 res).fw Lid.resetStatus 5 4 src
  have hraise : Follows (fun _ _ => False) u (s.resetResult src res) := follows_raiseBoth u (by decide)
  have hside : ¬ SideReg Lid.resetStatus := DeckReg.not_sideReg (.inl (by decide))
  have hcode : u.fd Lid.resetStatus 2 0 = res :=
    (State.fd_fw_beside _ _ _ _ (by decide) (by decide) (by decide)).trans
      ((State.fd_fw _ _ _ (by decide) (by decide)).trans (Nat.mod_eq_of_lt (by omega)))
  have hsource : u.fd Lid.resetStatus 5 4 = src :=
    (State.fd_fw _ _ _ (by decide) (by decide)).trans (Nat.mod_eq_of_lt (by omega))
  refine ⟨Follows.trans ?_ (hraise.mono fun _ _ h => h.elim), (hraise.fd (fun _ _ _ => not_false) hside).trans hcode,
    (hraise.fd (fun _ _ _ => not_false) hside).trans hsource, fun h hr => ?_⟩
  · exact .of_leaves (((Leaves.refl ..).fw fun n _ h => ⟨rfl, by omega⟩).fw fun n _ h => ⟨rfl, by omega⟩)
      (fun a n h => .inl (by rw [h.1]; decide))
      ((State.marks_fw ..).trans (State.marks_fw ..))
  · exact State.pends_raiseBoth u (by decide) ((State.runs_fw ..).trans ((State.runs_fw ..).trans hr))
end

end Sys2Proof.Machine
end

section
/-! The two-step reset of the terms (R299-R303). -/
namespace Sys2Proof.Machine

/-! ### The source of a step (R300, R301) -/

/-- A step of source `src` that is carried out: of the panel, of software of the owner while no password is set, or by an edge of
the external input `n`. -/
def State.MayStep (s : State) (src : Nat) (h : Half) (n : Nat) (up : Bool) : Prop :=
  src = 1 ∨ (src = 2 ∧ MayCmd s h 125 ∧ s.bt Lid.lidStatus 1 = false) ∨ (src = 3 ∧ s.extEdge n up = true)
/-- The groups that the step names. -/
def State.stepGroups (s : State) (src n : Nat) : Nat :=
  if src = 1 then 2 ^ s.fd Lid.panelGroup 3 0 else if src = 3 then s.extGroups n else n
/-- The instant of the step. -/
def State.stepAt (s : State) (src n : Nat) : Nat := if src = 3 then (s.din n).since else s.deck.ticks
/-- `u` is `s` but for an edge of an external input that is used up. -/
structure EdgeTaken (s u : State) : Prop where
  rg : ∀ a, u.rg a = s.rg a
  same : LidSame s u
  runs : ∀ h, u.runs h = s.runs h

section
variable {s t u : State} {src gs k : Nat}

theorem EdgeTaken.refl (s : State) : EdgeTaken s s := ⟨fun _ => rfl, .refl s, fun _ => rfl⟩
theorem EdgeTaken.of_modDin (s : State) (i : Nat) : EdgeTaken s (s.modDin i (fun x => { x with stepDone := true })) := by
  refine ⟨fun a => State.rg_modDeck _ _ _ rfl, ⟨fun _ _ _ => by rw [State.modDin, State.rg_modDeck _ _ _ rfl], ?_⟩,
    fun h => State.runs_modDeck ..⟩
  have hdin (j : Nat) : ((s.modDin i (fun x => { x with stepDone := true })).deck.din j).p0 = (s.deck.din j).p0
      ∧ ((s.modDin i (fun x => { x with stepDone := true })).deck.din j).p1 = (s.deck.din j).p1 := by
    by_cases e : j = i
    · subst e
      have hself : (s.modDin j (fun x => { x with stepDone := true })).deck.din j = { s.deck.din j with stepDone := true } :=
        Map.get_set_same ..
      rw [hself]
      exact ⟨rfl, rfl⟩
    · have hother : (s.modDin i (fun x => { x with stepDone := true })).deck.din j = s.deck.din j := Map.get_set_other _ _ _ _ _ e
      rw [hother]
      exact ⟨rfl, rfl⟩
  have hpaths := funext fun j => congrArg₂ (fun p q : DiPath => (p.state, q.state)) (hdin j).1 (hdin j).2
  exact congrArg (LidInputs.mk _ · _ _ _) hpaths

/-- The SAFETY terms in one state whose groups the source may act on. -/
theorem State.mem_groupTerms (s : State) (src gs st k : Nat) : k ∈ s.groupTerms src gs st ↔
    k < 512 ∧ s.termKind k = 1 ∧ s.lockState k = st ∧ s.groupAllows src gs (s.fd (Lid.termCtrl k) 19 16) = true := by
  simp only [State.groupTerms, List.mem_filter, State.mem_usedTerms, Bool.and_eq_true, decide_eq_true_eq]
  tauto
theorem LidSame.mem_groupTerms (E : LidSame s t) {st : Nat} (hl : t.lockState k = s.lockState k) :
    k ∈ t.groupTerms src gs st ↔ k ∈ s.groupTerms src gs st := by
  rw [State.mem_groupTerms, State.mem_groupTerms]
  refine and_congr_right fun hk => ?_
  rw [E.termKind hk, hl, E.group hk, E.groupAllows src gs (g := s.fd (Lid.termCtrl k) 19 16) (bits_lt _ 19 16)]
theorem State.groups_ne_zero {st : Nat} (h : k ∈ s.groupTerms src gs st) : gs ≠ 0 := by
  obtain ⟨-, -, -, ha⟩ := (s.mem_groupTerms ..).1 h
  rintro rfl
  simp [State.groupAllows] at ha

/-- A step that is carried out acts at its instant on the groups that it names. -/
theorem State.MayStep.lidStep {h : Half} {n : Nat} {up : Bool} (hm : s.MayStep src h n up) (hg : s.stepGroups src n ≠ 0)
    (f : State → Half → Nat → Nat → Nat → State) :
    ∃ u, EdgeTaken s u ∧ s.lidStep src h n up f = f u h src (s.stepGroups src n) (s.stepAt src n) := by
  rcases hm with rfl | ⟨rfl, ⟨hr, hl, ho⟩, hp⟩ | ⟨rfl, he⟩
  · exact ⟨s, .refl s, rfl⟩
  · refine ⟨s, .refl s, ?_⟩
    rw [State.lidStep, if_pos rfl, State.onHalf_runs _ _ _ hr]
    have htoken : s.tokenCheck h Lid.tokenLo Lid.tokenHi 2 = (true, s) := if_pos hp
    simp only [hl, ho, htoken, Bool.true_eq_false, if_false, if_true]
    rfl
  · refine ⟨_, .of_modDin s n, ?_⟩
    rw [State.lidStep, if_neg (by decide), if_neg (by decide), if_pos rfl]
    exact if_pos ⟨he, hg⟩
theorem State.MayStep.src_lt {h : Half} {n : Nat} {up : Bool} (hm : s.MayStep src h n up) : src < 4 := by
  rcases hm with rfl | ⟨rfl, -⟩ | ⟨rfl, -⟩ <;> decide
end

/-! ### Step 1 arms (R300) -/

/-- Term `k` armed by source `src` at the instant `now`. -/
def State.armOne (src now : Nat) (u : State) (k : Nat) : State :=
  ((u.fw (Lid.termStatus k) 1 0 3).fw (Lid.termStatus k) 9 8 src).modTerm k (fun x => { x with armT := now })
/-- Term `k` shows that it is armed. -/
def Armed (src now k : Nat) (t : State) : Prop :=
  t.lockState k = 3 ∧ t.fd (Lid.termStatus k) 9 8 = src ∧ (t.term k).armT = now

section
variable {s t : State} {src now k : Nat}

theorem termStatus_inj {j k : Nat} : Lid.termStatus j = Lid.termStatus k ↔ j = k := by
  simp only [Lid.termStatus]
  omega
theorem State.rg_armOne (s : State) (a : Nat) : (s.armOne src now k).rg a = if a = Lid.termStatus k then
    setBits (setBits (s.rg (Lid.termStatus k)) 1 0 3) 9 8 src else s.rg a := by
  refine (State.rg_modDeck _ _ _ rfl).trans ?_
  rw [State.rg_fw, State.rg_fw, State.rg_fw]
  split <;> simp_all
theorem State.armed_armOne (s : State) (hsrc : src < 4) : Armed src now k (s.armOne src now k) := by
  have hrg := (s.rg_armOne (src := src) (now := now) (k := k) (Lid.termStatus k)).trans (if_pos rfl)
  refine ⟨?_, ?_, congrArg TermRun.armT (State.term_modTerm _ _ _)⟩
  · rw [State.lockState, State.fd, hrg, bits_setBits_other _ _ _ _ _ _ (by decide) (by decide) (by decide),
      bits_setBits _ _ _ _ (by decide) (by decide)]
    rfl
  · rw [State.fd, hrg, bits_setBits _ _ _ _ (by decide) (by decide)]
    exact Nat.mod_eq_of_lt (by omega)
theorem Armed.armOne (hA : Armed src now k t) (hsrc : src < 4) (j : Nat) : Armed src now k (t.armOne src now j) := by
  by_cases e : k = j
  · exact e ▸ t.armed_armOne hsrc
  · obtain ⟨hl, hs, hT⟩ := hA
    have hrg := (t.rg_armOne (src := src) (now := now) (k := j) (Lid.termStatus k)).trans (if_neg (mt termStatus_inj.1 e))
    exact ⟨(congrArg (bits · 1 0) hrg).trans hl, (congrArg (bits · 9 8) hrg).trans hs,
      (congrArg TermRun.armT (Map.get_set_other _ _ _ _ _ e)).trans hT⟩
/-- A term stays armed while others follow. -/
theorem Armed.follows {T : Nat → Prop} {u : State} (hA : Armed src now k t) (F : Follows (StepWrites T) t u) (hk : k < 512)
    (hT : ¬ T k) : Armed src now k u := by
  have hrg := F.termStatus hk hT
  obtain ⟨hl, hs, harm⟩ := hA
  exact ⟨(congrArg (bits · 1 0) hrg).trans hl, (congrArg (bits · 9 8) hrg).trans hs, (F.lidSame_of_step.armT k).trans harm⟩

/-- The entry, the result and the targets at the end of a step. -/
def State.stepEnd (s : State) (h : Half) (op8 src gs : Nat) : State := (s.chgEntry h 8 op8 gs).resetResult src 0
theorem State.stepEnd_spec (s : State) (h : Half) (op8 gs : Nat) (hsrc : src < 4) (T : Nat → Prop) :
    Follows (StepWrites T) s (s.stepEnd h op8 src gs) ∧ (s.stepEnd h op8 src gs).fd Lid.resetStatus 2 0 = 0
      ∧ (s.stepEnd h op8 src gs).fd Lid.resetStatus 5 4 = src
      ∧ (s.stepEnd h op8 src gs).fd Lid.resetStatus 31 16 = s.fd Lid.resetStatus 31 16
      ∧ ∀ j, s.runs j = true → Pends (s.stepEnd h op8 src gs) j 134 := by
  have C := follows_chgEntry s h 8 op8 gs
  obtain ⟨R, hcode, hsource, hpends⟩ := (s.chgEntry h 8 op8 gs).resetResult_spec hsrc (res := 0) (by decide)
  have hside : ¬ SideReg Lid.resetStatus := DeckReg.not_sideReg (.inl (by decide))
  have hchg : ¬ ChgReg Lid.resetStatus := fun h => by have := h.range; simp only [Lid.resetStatus] at this; omega
  refine ⟨(C.mono fun _ _ h => .inr (.inr h)).trans (R.mono fun _ _ h => .inr (.inl h.1)), hcode, hsource, ?_,
    fun j hr => hpends j ((C.runs j).trans hr)⟩
  exact (R.fd (fun n h1 _ h => by omega) hside).trans (C.fd (fun _ _ _ => hchg) hside)

theorem State.lidArm_eq (s : State) (h : Half) {gs : Nat} (hne : s.groupTerms src gs 2 ≠ []) : s.lidArm h src gs now
    = (((s.groupTerms src gs 2).foldl (State.armOne src now) s).stepEnd h src src gs).lidShow := if_neg hne
/-- Step 1 arms the LOCKED terms of its groups. -/
theorem State.lidArm_spec (s : State) (h : Half) {gs : Nat} (hsrc : src < 4) (hne : s.groupTerms src gs 2 ≠ []) :
    (s.lidArm h src gs now).fd Lid.resetStatus 2 0 = 0 ∧ (s.lidArm h src gs now).fd Lid.resetStatus 5 4 = src
      ∧ (∀ k ∈ s.groupTerms src gs 2, Armed src now k (s.lidArm h src gs now))
      ∧ ∀ j, s.runs j = true → Pends (s.lidArm h src gs now) j 134 := by
  rw [s.lidArm_eq h hne]
  let u := (s.groupTerms src gs 2).foldl (State.armOne src now) s
  have hu : ∀ k ∈ s.groupTerms src gs 2, Armed src now k u :=
    foldl_establishes (p := fun _ => True) (fun t k _ => t.armed_armOne hsrc) (fun t k j _ _ hA => hA.armOne hsrc j) _ s
      fun _ _ => trivial
  have hruns (j : Half) : u.runs j = s.runs j := foldl_keeps (State.runs · j) _ _ s fun t k => State.runs_modDeck ..
  obtain ⟨F, hcode, hsource, -, hpends⟩ := u.stepEnd_spec h src gs hsrc (fun _ => False)
  have L := follows_lidShow (fun _ => False) (u.stepEnd h src src gs)
  refine ⟨(congrArg (bits · 2 0) L.resetStatus).trans hcode, (congrArg (bits · 5 4) L.resetStatus).trans hsource, fun k hk => ?_,
    fun j hr => L.pends j 134 (by decide) (hpends j ((hruns j).trans hr))⟩
  exact (hu k hk).follows (F.trans L.step) ((s.mem_groupTerms ..).1 hk).1 not_false
end

theorem lidResetArm_completes (src : Nat) (h : Half) (n : Nat) (s : State) (hm : s.MayStep src h n true) (hd : s.deck.inReset = false)
    (hne : s.groupTerms src (s.stepGroups src n) 2 ≠ []) :
    Gives (.lidResetArm src h n) s (fun t => t.fd Lid.resetStatus 2 0 = 0 ∧ t.fd Lid.resetStatus 5 4 = src
      ∧ (∀ k ∈ s.groupTerms src (s.stepGroups src n) 2, Armed src (s.stepAt src n) k t)
      ∧ ∀ h, s.runs h = true → Pends t h 134) := by
  obtain ⟨k, hk⟩ := List.exists_mem_of_ne_nil _ hne
  obtain ⟨u, U, hstep⟩ := hm.lidStep (State.groups_ne_zero hk) State.lidArm
  have hterms (j : Nat) : j ∈ u.groupTerms src (s.stepGroups src n) 2 ↔ j ∈ s.groupTerms src (s.stepGroups src n) 2 :=
    U.same.mem_groupTerms (congrArg (bits · 1 0) (U.rg _))
  obtain ⟨hcode, hsource, harmed, hpends⟩ := u.lidArm_spec (now := s.stepAt src n) h hm.src_lt
    (List.ne_nil_of_mem ((hterms k).2 hk))
  refine ⟨_, congrArg Host.Outcome.next ((s.onDeck_out_of_reset _ hd).trans hstep), hcode, hsource,
    fun j hj => harmed j ((hterms j).2 hj), fun j hr => hpends j ((U.runs j).trans hr)⟩

/-! ### Step 2 clears (R300, R302, R303) -/

/-- The ticks of the window of step 2 after step 1 end (R300, R301). -/
def stepWindow (src : Nat) : Nat := if src = 3 then 1250000000 else 2500000000
/-- The armed terms that step 2 at `now` is for: armed by the same source, inside its window. -/
def State.confirmable (s : State) (src gs now : Nat) : List Nat :=
  (s.groupTerms src gs 3).filter (fun k => decide (s.fd (Lid.termStatus k) 9 8 = src)
    && decide ((s.term k).armT + 125000000 ≤ now) && decide (now ≤ (s.term k).armT + stepWindow src))
/-- A term that step 2 clears. -/
def State.clearOne (src : Nat) (u : State) (k : Nat) : State :=
  ((u.fw (Lid.termStatus k) 1 0 0).fw (Lid.termStatus k) 9 8 0).reportDeck 0x0A03 0xE k [src]
/-- No condition holds of term `k`, nor a rail fault. -/
def State.Gone (s : State) (k : Nat) : Prop :=
  s.termCond false k = false ∧ s.termCond true k = false ∧ s.bt (Lid.termStatus k) 3 = false
/-- Whether an output of an armed term of the groups is commanded on where its group asks for it off (R302). -/
def State.confirmBlocked (s : State) (src gs : Nat) : Bool :=
  (s.groupTerms src gs 3).any (fun k => s.bt (Lid.resetGrp (s.fd (Lid.termCtrl k) 19 16)) 3 && s.cmdOn k)

section
variable {s t : State} {src gs now k : Nat}

theorem State.mem_confirmable : k ∈ s.confirmable src gs now ↔ k ∈ s.groupTerms src gs 3
    ∧ s.fd (Lid.termStatus k) 9 8 = src ∧ (s.term k).armT + 125000000 ≤ now ∧ now ≤ (s.term k).armT + stepWindow src := by
  simp only [State.confirmable, List.mem_filter, Bool.and_eq_true, decide_eq_true_eq, and_assoc]
theorem State.safety_of_confirmable (h : k ∈ s.confirmable src gs now) : k < 512 ∧ s.termKind k = 1 ∧ s.lockState k = 3 := by
  obtain ⟨hk, h1, h3, -⟩ := (s.mem_groupTerms ..).1 (State.mem_confirmable.1 h).1
  exact ⟨hk, h1, h3⟩
theorem LidSame.gone (E : LidSame s t) (hk : k < 512) (h : s.Gone k) : t.Gone k :=
  ⟨(E.termCond _ hk).trans h.1, (E.termCond _ hk).trans h.2.1, (E.railFault hk).trans h.2.2⟩
theorem LidSame.mem_confirmable (E : LidSame s t) (hK : TermKept k s t) :
    k ∈ t.confirmable src gs now ↔ k ∈ s.confirmable src gs now := by
  rw [State.mem_confirmable, State.mem_confirmable, E.mem_groupTerms hK.lockState, hK.fd (.inr (by decide)), E.armT]
/-- What is gone does not act while Lid reads the same. -/
theorem State.Gone.termActs (h : s.Gone k) (hk : k < 512) (h3 : s.bt Lid.lidStatus 3 = false) (t : State) (E : LidSame s t) :
    t.termActs k = false :=
  have ht := E.gone hk h
  State.termActs_eq_false ht.1 ht.2.1 ht.2.2 (E.configFault.trans h3)

/-- A state that arms no other terms blocks no other step. -/
theorem LidSame.confirmBlocked (E : LidSame s t) (harmed : ∀ k < 512, s.termKind k = 1 → t.lockState k = 3 → s.lockState k = 3)
    (hb : s.confirmBlocked src gs = false) : t.confirmBlocked src gs = false := by
  simp only [State.confirmBlocked, List.any_eq_false] at hb ⊢
  intro k hk
  obtain ⟨hk', h1, h3, ha⟩ := (State.mem_groupTerms ..).1 hk
  have hg : s.fd (Lid.termCtrl k) 19 16 < 16 := bits_lt _ 19 16
  rw [E.termKind hk'] at h1
  rw [E.group hk', E.groupAllows src gs hg] at ha
  rw [E.group hk', E.resetGrp hg, E.cmdOn hk']
  exact hb k ((s.mem_groupTerms ..).2 ⟨hk', h1, harmed k hk' h1 h3, ha⟩)

theorem State.rg_clearOne (s : State) (a : Nat) : (s.clearOne src k).rg a = if a = Lid.termStatus k then
    setBits (setBits (s.rg (Lid.termStatus k)) 1 0 0) 9 8 0 else s.rg a := by
  rw [State.clearOne, State.rg_reportDeck, State.rg_fw, State.rg_fw, State.rg_fw]
  split <;> simp_all
theorem State.lockState_clearOne (s : State) : (s.clearOne src k).lockState k = 0 := by
  rw [State.lockState, State.fd, State.rg_clearOne, if_pos rfl, bits_setBits_other _ _ _ _ _ _ (by decide) (by decide) (by decide),
    bits_setBits _ _ _ _ (by decide) (by decide)]
  rfl
theorem State.lockState_clearOne_other (s : State) {j : Nat} (hj : k ≠ j) : (s.clearOne src j).lockState k = s.lockState k := by
  rw [State.lockState, State.fd, State.rg_clearOne, if_neg (mt termStatus_inj.1 hj), State.lockState, State.fd]
theorem follows_clear (s : State) {ts : List Nat} (hts : ∀ j ∈ ts, j < 512) :
    Follows (LidWrites (· ∈ ts)) s (ts.foldl (State.clearOne src) s) := by
  refine .foldl fun u k hk => Follows.trans (.of_leaves ?_ (fun _ _ => LidWrites.deckReg) ((State.marks_fw ..).trans
    (State.marks_fw ..))) (follows_reportDeck ..)
  exact ((Leaves.refl ..).fw fun n _ h => lidWrites_termStatus (hts k hk) hk (by omega)).fw fun n h _ =>
    lidWrites_termStatus (hts k hk) hk (by omega)
theorem lockState_clear (s : State) {ts : List Nat} : ∀ k ∈ ts, (ts.foldl (State.clearOne src) s).lockState k = 0 :=
  foldl_establishes (p := fun _ => True) (Q := fun k t => t.lockState k = 0) (fun t k _ => t.lockState_clearOne)
    (fun t k j _ _ h0 => by
      by_cases e : k = j
      · exact e ▸ t.lockState_clearOne
      · exact (t.lockState_clearOne_other e).trans h0) ts s fun _ _ => trivial

/-- Step 2 once its terms have been evaluated: it clears those that it is for. -/
def State.stepCleared (s : State) (h : Half) (src gs : Nat) (ts : List Nat) : State :=
  let u := ts.foldl (State.clearOne src) s
  (u.fw Lid.resetStatus 31 16 (u.fd Lid.resetStatus 31 16 + 1)).stepEnd h (src + 4) src gs
theorem State.lidConfirm_eq (s : State) (h : Half) :
    let v := s.termsEval (s.confirmable src gs now)
    v.confirmable src gs now ≠ [] → v.confirmBlocked src gs = false →
      s.lidConfirm h src gs now = (v.stepCleared h src gs (v.confirmable src gs now)).termsEval (v.confirmable src gs now) :=
  fun hne hb => (if_neg hne).trans (if_neg (ne_true_of_eq_false hb))
theorem State.stepCleared_spec (s : State) (h : Half) (hsrc : src < 4) {ts : List Nat} (hts : ∀ j ∈ ts, j < 512) :
    Follows (StepWrites (· ∈ ts)) s (s.stepCleared h src gs ts) ∧ (s.stepCleared h src gs ts).fd Lid.resetStatus 2 0 = 0
      ∧ (s.stepCleared h src gs ts).fd Lid.resetStatus 5 4 = src
      ∧ (s.stepCleared h src gs ts).fd Lid.resetStatus 31 16 = (s.fd Lid.resetStatus 31 16 + 1) % 65536
      ∧ (∀ k ∈ ts, (s.stepCleared h src gs ts).lockState k = 0)
      ∧ ∀ j, s.runs j = true → Pends (s.stepCleared h src gs ts) j 134 := by
  let u := ts.foldl (State.clearOne src) s
  let w := u.fw Lid.resetStatus 31 16 (u.fd Lid.resetStatus 31 16 + 1)
  have C : Follows (LidWrites (· ∈ ts)) s u := follows_clear s hts
  have hcount (T : Nat → Prop) : Follows (StepWrites T) u w :=
    .of_leaves ((Leaves.refl ..).fw fun _ _ _ => .inr (.inl rfl)) (fun _ _ => StepWrites.deckReg) (State.marks_fw ..)
  obtain ⟨F, hcode, hsource, hn, hpends⟩ := w.stepEnd_spec h (src + 4) gs hsrc (fun _ => False)
  refine ⟨(C.step.trans (hcount _)).trans (F.mono fun a n => Or.imp_left (LidWrites.mono (fun _ => False.elim) a n)), hcode, hsource,
    ?_, fun k hk => ?_, fun j hr => hpends j ((State.runs_fw ..).trans ((C.runs j).trans hr))⟩
  · have hw : w.fd Lid.resetStatus 31 16 = (u.fd Lid.resetStatus 31 16 + 1) % 65536 := State.fd_fw _ _ _ (by decide) (by decide)
    exact (hn.trans hw).trans (congrArg (fun r => (bits r 31 16 + 1) % 65536) C.resetStatus)
  · have hlast := ((hcount fun _ => False).trans F).termStatus (hts k hk) not_false
    exact (congrArg (bits · 1 0) hlast).trans (lockState_clear s k hk)

/-- Step 2 in the window clears the terms whose condition is gone; a term without delay whose condition acts is TRIPPED. -/
theorem State.lidConfirm_spec (s : State) (h : Half) (hsrc : src < 4) (h3 : s.bt Lid.lidStatus 3 = false)
    (hgood : ∃ k ∈ s.confirmable src gs now, s.Gone k) (hb : s.confirmBlocked src gs = false) :
    let t := s.lidConfirm h src gs now
    t.fd Lid.resetStatus 2 0 = 0 ∧ t.fd Lid.resetStatus 5 4 = src
      ∧ t.fd Lid.resetStatus 31 16 = (s.fd Lid.resetStatus 31 16 + 1) % 65536
      ∧ (∀ k ∈ s.confirmable src gs now, s.Gone k → t.lockState k = 0)
      ∧ (∀ k ∈ s.confirmable src gs now, s.termDelay k = 0 → (s.termCond false k || s.termCond true k) = true → t.lockState k = 1)
      ∧ ∀ j, s.runs j = true → Pends t j 134 := by
  intro t
  let v := s.termsEval (s.confirmable src gs now)
  let ts := v.confirmable src gs now
  have hmine : ∀ j ∈ s.confirmable src gs now, j < 512 := fun j hj => (State.safety_of_confirmable hj).1
  have hts : ∀ j ∈ ts, j < 512 := fun j hj => (State.safety_of_confirmable hj).1
  have F : Follows _ s v := follows_termsEval s hmine
  have E := F.lidSame_of_writes
  have hgone : ∀ k ∈ s.confirmable src gs now, s.Gone k → k ∈ ts := fun k hk hg => by
    obtain ⟨hk', h1, hl⟩ := State.safety_of_confirmable hk
    exact (E.mem_confirmable (kept_terms hmine hk' h1 (by omega) (hg.termActs hk' h3))).2 hk
  have hne : ts ≠ [] := by
    obtain ⟨k, hk, hg⟩ := hgood
    exact List.ne_nil_of_mem (hgone k hk hg)
  obtain ⟨C, hcode, hsource, hn, hclear, hpends⟩ := v.stepCleared_spec h hsrc (gs := gs) hts
  have ht : t = (v.stepCleared h src gs ts).termsEval ts := s.lidConfirm_eq h hne (E.confirmBlocked (fun _ => armed_of_termsEval hmine) hb)
  have G : Follows _ (v.stepCleared h src gs ts) t := ht ▸ follows_termsEval _ hts
  refine ⟨(congrArg (bits · 2 0) G.resetStatus).trans hcode, (congrArg (bits · 5 4) G.resetStatus).trans hsource, ?_,
    fun k hk hg => ?_, fun k hk hdelay hc => ?_, fun j hr => G.pends j 134 (by decide) (hpends j ((F.runs j).trans hr))⟩
  · rw [State.fd, G.resetStatus, ← State.fd, hn, State.fd, F.resetStatus, ← State.fd]
  · have hk' := hmine k hk
    have E' := E.trans C.lidSame_of_step
    have h0 := hclear k (hgone k hk hg)
    have h1 := (E'.termKind hk').trans (State.safety_of_confirmable hk).2.1
    have hkept := kept_terms hts hk' h1 (by omega) ((E'.gone hk' hg).termActs hk' (E'.configFault.trans h3))
    rw [ht]
    exact hkept.lockState.trans h0
  · obtain ⟨hk', h1, hl⟩ := State.safety_of_confirmable hk
    have htrip : v.lockState k = 1 := (tripped_terms hmine hk h1 fun x X => State.termActs_of_noDelay ((X.termDelay hk').trans hdelay)
      (by rw [X.termCond _ hk', X.termCond _ hk', hc])).1
    have hout : k ∉ ts := fun hm => by
      have := (State.safety_of_confirmable hm).2.2
      omega
    exact (congrArg (bits · 1 0) ((C.trans G.step).termStatus hk' hout)).trans htrip
end

theorem lidResetConfirm_completes (src : Nat) (h : Half) (n : Nat) (s : State) (hm : s.MayStep src h n false)
    (hd : s.deck.inReset = false) (hgood : ∃ k ∈ s.confirmable src (s.stepGroups src n) (s.stepAt src n), s.Gone k)
    (h3 : s.bt Lid.lidStatus 3 = false) (hb : s.confirmBlocked src (s.stepGroups src n) = false) :
    Gives (.lidResetConfirm src h n) s (fun t => t.fd Lid.resetStatus 2 0 = 0 ∧ t.fd Lid.resetStatus 5 4 = src
      ∧ t.fd Lid.resetStatus 31 16 = (s.fd Lid.resetStatus 31 16 + 1) % 65536
      ∧ (∀ k ∈ s.confirmable src (s.stepGroups src n) (s.stepAt src n), s.Gone k → t.lockState k = 0)
      ∧ (∀ k ∈ s.confirmable src (s.stepGroups src n) (s.stepAt src n), s.termDelay k = 0 →
          (s.termCond false k || s.termCond true k) = true → t.lockState k = 1)
      ∧ ∀ h, s.runs h = true → Pends t h 134) := by
  obtain ⟨k, hk, hg⟩ := hgood
  obtain ⟨u, U, hstep⟩ := hm.lidStep (State.groups_ne_zero (State.mem_confirmable.1 hk).1) State.lidConfirm
  have E := U.same
  have hmem (j : Nat) : j ∈ u.confirmable src (s.stepGroups src n) (s.stepAt src n)
      ↔ j ∈ s.confirmable src (s.stepGroups src n) (s.stepAt src n) := E.mem_confirmable fun _ _ => by rw [U.rg]
  have hb' : u.confirmBlocked src (s.stepGroups src n) = false :=
    E.confirmBlocked (fun _ _ _ h3 => (congrArg (bits · 1 0) (U.rg _)).symm.trans h3) hb
  obtain ⟨hcode, hsource, hcount, hclear, htrip, hpends⟩ := u.lidConfirm_spec h hm.src_lt (E.configFault.trans h3)
    ⟨k, (hmem k).2 hk, E.gone (State.safety_of_confirmable hk).1 hg⟩ hb'
  refine ⟨_, congrArg Host.Outcome.next ((s.onDeck_out_of_reset _ hd).trans hstep), hcode, hsource, ?_, fun j hj hg => ?_,
    fun j hj hdelay hc => ?_, fun j hr => hpends j ((U.runs j).trans hr)⟩
  · rw [hcount, State.fd, U.rg, ← State.fd]
  · exact hclear j ((hmem j).2 hj) (E.gone (State.safety_of_confirmable hj).1 hg)
  · have hj' := (State.safety_of_confirmable hj).1
    exact htrip j ((hmem j).2 hj) ((E.termDelay hj').trans hdelay) (by rw [E.termCond _ hj', E.termCond _ hj', hc])

end Sys2Proof.Machine
end

section
/-! The end of an armed window, the commit of group 5, the password, the counts and the token block (R298-R317). -/
namespace Sys2Proof.Machine

/-! ### The end of an armed window (R300) -/

theorem armWindowExpire_completes (k : Nat) (s : State) (hk : k < 512) (hd : s.deck.inReset = false) (hl : s.lockState k = 3)
    (ht : (s.term k).armT + 2500000000 ≤ s.deck.ticks) :
    Gives (.armWindowExpire k) s (fun t => t.lockState k = 2 ∧ t.fd (Lid.termStatus k) 9 8 = 0
      ∧ ∀ h, s.runs h = true → Reported t h 0x0A02 0xE k) := by
  have L := follows_lidShow (fun _ => False) (s.termLock k)
  have hrg : (s.termLock k).lidShow.rg (Lid.termStatus k) = (s.termLock k).rg (Lid.termStatus k) := L.step.termStatus hk not_false
  have hsource : (s.termLock k).fd (Lid.termStatus k) 9 8 = 0 :=
    (congrArg (bits · 9 8) (State.rg_reportDeck ..)).trans (State.fd_fw _ _ _ (by decide) (by decide))
  refine ⟨_, congrArg Host.Outcome.next ((s.onDeck_out_of_reset _ hd).trans (if_pos ⟨hl, ht⟩)),
    (congrArg (bits · 1 0) hrg).trans (s.lockState_termLock k), (congrArg (bits · 9 8) hrg).trans hsource, fun h hr =>
    L.reported _ _ _ _ (State.reported_reportDeck _ _ _ _ _ ?_)⟩
  exact (State.runs_fw ..).trans ((State.runs_fw ..).trans hr)

/-! ### The commit of group 5 (R298, R304, R305, R313) -/

/-- LID_STATUS as a new configuration shows it. -/
def State.lidSet (s : State) : State :=
  let u := s.wr Lid.configCrc (configCrcOf s.rn)
  ((u.sb Lid.lidStatus 0 true).sb Lid.lidStatus 5 (tpClash u.rn)).sb Lid.lidStatus 9 (u.bt Lid.lidCfg 0)

section
variable (s o : State)

theorem State.bt_lidSet : s.lidSet.bt Lid.lidStatus 0 = true := by
  have hbeside (t : State) (n : Nat) (b : Bool) (hn : n ≠ 0) :
      (t.sb Lid.lidStatus n b).bt Lid.lidStatus 0 = t.bt Lid.lidStatus 0 :=
    (Leaves.sb (W := fun _ m => m = n) (v := id) (.refl ..) rfl).bt hn.symm
  exact (hbeside _ 9 _ (by decide)).trans ((hbeside _ 5 _ (by decide)).trans (State.bt_sb _ _ _ (by decide)))
/-- A new configuration ends in an evaluation of its terms; before it only the status of terms and their runs are written. -/
theorem State.lidApply_eq : ∃ u ts, s.lidApply o = u.termsEval ts ∧ (∀ k ∈ ts, k < 512) ∧
    ∀ {β : Type} (v : State → β), (∀ t k w, v (State.wr t (Lid.termStatus k) w) = v t) →
      (∀ t k f, v (State.modTerm t k f) = v t) → v u = v s.lidSet := by
  refine ⟨_, _, rfl, fun k hk => State.lt_of_mem_usedTerms hk, fun v hw hd => ?_⟩
  refine (foldl_keeps v _ _ _ fun t k => ?_).trans (foldl_keeps v _ _ _ fun t k => (hd ..).trans (hw ..))
  exact (ite_keeps v (fun _ => hw _ _ _) fun _ => ite_keeps v (fun _ => hw _ _ _) fun _ => rfl).trans (hd ..)
theorem State.lidApply_spec : (s.lidApply o).bt Lid.lidStatus 0 = true ∧ (s.lidApply o).marks = s.marks
    ∧ ∀ h, (s.lidApply o).runs h = s.runs h := by
  obtain ⟨u, ts, he, hts, hkeeps⟩ := s.lidApply_eq o
  have F := follows_termsEval u hts
  have hside : ¬ SideReg Lid.lidStatus := DeckReg.not_sideReg (.inl (by decide))
  rw [he]
  refine ⟨(F.bt (not_lidWrites_lidStatus (by decide)) hside).trans ?_, F.marks.trans ?_, fun h => (F.runs h).trans ?_⟩
  · refine (hkeeps (State.bt · Lid.lidStatus 0) (fun t k w => State.bt_wr_other _ _ _ ?_) fun t k f =>
      congrArg (bit · 0) (State.rg_modDeck _ _ _ rfl)).trans s.bt_lidSet
    simp only [Lid.lidStatus, Lid.termStatus]
    omega
  · exact (hkeeps State.marks (fun t k w => State.marks_wr ..) fun t k f => State.marks_modDeck ..).trans
      ((State.marks_sb ..).trans ((State.marks_sb ..).trans ((State.marks_sb ..).trans (State.marks_wr ..))))
  · exact (hkeeps (State.runs · h) (fun t k w => State.runs_wr ..) fun t k f => State.runs_modDeck ..).trans
      ((State.runs_sb ..).trans ((State.runs_sb ..).trans ((State.runs_sb ..).trans (State.runs_wr ..))))
end

theorem marks_copyUnit (s : State) (u : CUnit) :
    (s.copyUnit u).marks = (s.dirty.filter (· != u), s.marked.filter (· != u)) :=
  Prod.ext (s.dirty_copyUnit u) (s.marked_copyUnit u)
theorem State.runs_copyUnit (s : State) (u : CUnit) (h : Half) : (s.copyUnit u).runs h = s.runs h :=
  s.copyUnit_keeps (State.runs · h) u (fun _ _ _ => State.runs_wr ..) fun t _ _ => State.runs_of_half _ t h (by cases h <;> rfl)
theorem not_mem_filter_ne (l : List CUnit) (u : CUnit) : (l.filter (· != u)).contains u = false := by
  simp
/-- Clearing the pending bits of a group leaves the other registers. -/
theorem State.rg_settle_other (s : State) (h : Half) (g : Nat) {a : Nat} (ha : ∀ k, a ≠ Cmt.cmtPending k) :
    (s.settle h g).rg a = s.rg a :=
  State.settle_keeps (State.rg · a) s h g (State.setPend_keeps (State.rg · a) s h g false fun _ k =>
    (State.rg_sb ..).trans (if_neg (ha k)))
theorem State.marks_settle (s : State) (h : Half) (g : Nat) : (s.settle h g).marks = s.marks :=
  State.settle_keeps State.marks s h g (State.setPend_keeps State.marks s h g false fun _ _ => State.marks_sb ..)

/-- A commit that has taken effect: its result, its events and its entry (R313, R315). -/
def State.lidCommitEnd (s : State) : State :=
  (((s.fw Lid.lidStatus 8 6 0).raiseBoth 133).chgEntry s.deck.lid.waitH 1 0 0).settle .a 5
theorem State.lidCommitEnd_spec (s : State) : s.lidCommitEnd.marks = s.marks
    ∧ s.lidCommitEnd.bt Lid.lidStatus 0 = s.bt Lid.lidStatus 0 ∧ s.lidCommitEnd.fd Lid.lidStatus 8 6 = 0
    ∧ ∀ h, s.runs h = true → Pends s.lidCommitEnd h 133 := by
  let u := s.fw Lid.lidStatus 8 6 0
  let v := (u.raiseBoth 133).chgEntry s.deck.lid.waitH 1 0 0
  have R : Follows (fun a _ => ChgReg a) u (u.raiseBoth 133) := follows_raiseBoth u (by decide)
  have C := follows_chgEntry (u.raiseBoth 133) s.deck.lid.waitH 1 0 0
  have hstatus : s.lidCommitEnd.rg Lid.lidStatus = u.rg Lid.lidStatus := by
    refine (v.rg_settle_other .a 5 fun k => ?_).trans ((R.trans C).rg (fun _ h => ?_) (DeckReg.not_sideReg (.inl (by decide))))
    · cases k <;> decide
    · have := h.range
      simp only [Lid.lidStatus] at this
      omega
  refine ⟨(State.marks_settle ..).trans ((R.trans C).marks.trans (State.marks_fw ..)), (congrArg (bit · 0) hstatus).trans
    (State.bt_fw_beside _ _ _ _ (by decide) (by decide)),
    (congrArg (bits · 8 6) hstatus).trans (State.fd_fw _ _ _ (by decide) (by decide)),
    fun h hr => (State.mapBit_of_rg (v.rg_settle_other .a 5 fun k => ?_)).trans
      (C.pends h 133 (by decide) (State.pends_raiseBoth u (by decide) ((State.runs_fw ..).trans hr)))⟩
  cases h <;> cases k <;> decide
theorem lidCommit_completes (s : State) (hd : s.deck.inReset = false) (hm : s.marked.contains lidUnit = true)
    (hc : s.lidCanCommit = true) :
    Gives .lidCommit s (fun t => t.marked.contains lidUnit = false ∧ t.dirty.contains lidUnit = false
      ∧ t.bt Lid.lidStatus 0 = true ∧ t.fd Lid.lidStatus 8 6 = 0 ∧ ∀ h, s.runs h = true → Pends t h 133) := by
  let u := (s.copyUnit lidUnit).lidApply s
  obtain ⟨hset, hmarks, hruns⟩ := (s.copyUnit lidUnit).lidApply_spec s
  obtain ⟨hmarks', hset', hresult, hpends⟩ := u.lidCommitEnd_spec
  have hex : exec .lidCommit s = .next u.lidCommitEnd :=
    congrArg Host.Outcome.next ((s.onDeck_out_of_reset _ hd).trans (if_pos ⟨hm, hc⟩))
  obtain ⟨hdirty, hmarked⟩ := Prod.ext_iff.1 (hmarks'.trans (hmarks.trans (marks_copyUnit s lidUnit)))
  refine ⟨_, hex, (congrArg (List.contains · lidUnit) hmarked).trans (not_mem_filter_ne ..),
    (congrArg (List.contains · lidUnit) hdirty).trans (not_mem_filter_ne ..), hset'.trans hset, hresult, fun h hr => hpends h ?_⟩
  exact (hruns h).trans ((s.runs_copyUnit lidUnit h).trans hr)

/-! ### The password (R312) -/

/-- `n` registers copied, from those that `src` names to those that `dst` names. -/
def State.copied (s : State) (dst src : Nat → Nat) (n : Nat) : State :=
  (List.range n).foldl (fun (t : State) (w : Nat) => t.wr (dst w) (t.rg (src w))) s

section
variable (s : State) {dst src : Nat → Nat} {n : Nat}

theorem State.copied_succ : s.copied dst src (n + 1) = (s.copied dst src n).wr (dst n) ((s.copied dst src n).rg (src n)) := by
  rw [State.copied, List.range_succ, List.foldl_append]
  rfl
theorem State.rg_copied_other {a : Nat} (ha : ∀ w, w < n → a ≠ dst w) : (s.copied dst src n).rg a = s.rg a := by
  induction n with
  | zero => rfl
  | succ n ih =>
    rw [State.copied_succ, State.rg_wr, if_neg (ha n n.lt_succ_self)]
    exact ih fun w hw => ha w (by omega)
theorem State.rg_copied (hdst : ∀ v w, dst v = dst w → v = w) (hsrc : ∀ v w, v < n → w < n → src v ≠ dst w) {w : Nat}
    (hw : w < n) : (s.copied dst src n).rg (dst w) = s.rg (src w) := by
  induction n with
  | zero => omega
  | succ n ih =>
    rw [State.copied_succ, State.rg_wr]
    split
    · next e =>
      rw [hdst w n e]
      exact s.rg_copied_other fun v hv => hsrc n v (by omega) (by omega)
    · next e =>
      have hne : w ≠ n := fun h => e (h ▸ rfl)
      exact ih (fun v x hv hx => hsrc v x (by omega) (by omega)) (by omega)
theorem State.byte_copied (a : Nat) : (s.copied dst src n).byte a = s.byte a :=
  foldl_keeps (State.byte · a) _ _ s fun _ _ => rfl
theorem State.runs_copied (h : Half) : (s.copied dst src n).runs h = s.runs h :=
  foldl_keeps (State.runs · h) _ _ s fun _ _ => State.runs_wr ..

/-- Salt and verifier taken over from PW_NEW, and PW_SET shown. -/
def State.pwTaken : State :=
  ((s.copied Lid.pwSalt Lid.pwNew 4).copied Lid.pwVerifier (fun w => Lid.pwNew (4 + w)) 8).sb Lid.lidStatus 1 true
theorem State.rg_pwTaken_salt {w : Nat} (hw : w < 4) : s.pwTaken.rg (Lid.pwSalt w) = s.rg (Lid.pwNew w) := by
  refine (State.rg_sb ..).trans ((if_neg ?_).trans ((State.rg_copied_other _ fun v hv => ?_).trans
    (s.rg_copied (fun v x => ?_) (fun v x hv hx => ?_) hw)))
  all_goals simp only [Lid.pwSalt, Lid.pwNew, Lid.pwVerifier, Lid.lidStatus]; omega
theorem State.rg_pwTaken_verifier {w : Nat} (hw : w < 8) : s.pwTaken.rg (Lid.pwVerifier w) = s.rg (Lid.pwNew (4 + w)) := by
  refine (State.rg_sb ..).trans ((if_neg ?_).trans ((State.rg_copied _ (fun v x => ?_) (fun v x hv hx => ?_) hw).trans
    (s.rg_copied_other fun v hv => ?_)))
  all_goals simp only [Lid.pwSalt, Lid.pwNew, Lid.pwVerifier, Lid.lidStatus]; omega
end

theorem State.reported_chgEntry (s : State) (h : Half) {kind op8 data : Nat} (hr : s.runs h = true) :
    Reported (s.chgEntry h kind op8 data) h 0x0A0A 1 h.num := by
  refine State.reported_reportDeck _ _ _ _ _ ((State.runs_wr ..).trans ((State.runs_modDeck ..).trans ?_))
  exact (foldl_keeps (State.runs · h) _ _ s fun _ _ => State.runs_wr ..).trans hr
theorem pwSet_completes (h : Half) (s : State) (hm : MayCmd s h 125) (hp : s.bt Lid.lidStatus 1 = false) :
    Gives (.pwSet h) s (fun t => t.bt Lid.lidStatus 1 = true ∧ SameMem s t
      ∧ (∀ w, w < 4 → t.rg (Lid.pwSalt w) = s.rg (Lid.pwNew w))
      ∧ (∀ w, w < 8 → t.rg (Lid.pwVerifier w) = s.rg (Lid.pwNew (4 + w)))
      ∧ Reported t h 0x0A0A 1 h.num) := by
  have htoken : s.tokenCheck h Lid.tokenLo Lid.tokenHi 4 = (true, s) := if_pos hp
  have hex : exec (.pwSet h) s = .next (s.pwTaken.chgEntry h 4 0 0) := by
    refine congrArg Host.Outcome.next ((State.deckCmd_of_mayCmd _ hm).trans ?_)
    simp only [htoken, if_true]
    rfl
  have C := follows_chgEntry s.pwTaken h 4 0 0
  have hkept {a : Nat} (ha : 0x480000 ≤ a ∧ a < 0x480200) : (s.pwTaken.chgEntry h 4 0 0).rg a = s.pwTaken.rg a :=
    C.rg (fun _ hc => by have := hc.range; omega) (DeckReg.not_sideReg (.inl (by omega)))
  refine ⟨_, hex, (congrArg (bit · 1) (hkept (by decide))).trans (State.bt_sb _ _ _ (by decide)), fun a => ?_, fun w hw => ?_,
    fun w hw => ?_, ?_⟩
  · refine (State.chgEntry_keeps (State.byte · a) _ h 4 0 0 (fun _ _ _ _ => rfl) (fun _ _ => rfl)
      fun _ _ _ => State.byte_modHalf ..).trans ?_
    exact (State.byte_sb ..).trans ((State.byte_copied ..).trans (State.byte_copied ..))
  · exact (hkept (by simp only [Lid.pwSalt]; omega)).trans (s.rg_pwTaken_salt hw)
  · exact (hkept (by simp only [Lid.pwVerifier]; omega)).trans (s.rg_pwTaken_verifier hw)
  · exact State.reported_chgEntry _ h ((State.runs_sb ..).trans ((State.runs_copied ..).trans ((State.runs_copied ..).trans hm.1)))

/-! ### The counts and the token block (R299, R311) -/

/-- The count of term `k` cleared. -/
def State.countCleared (s : State) (k : Nat) : State := s.fw (Lid.termStatus k) 31 16 0

section
variable (s : State) (j k : Nat)

theorem State.count_countCleared : (s.countCleared k).fd (Lid.termStatus k) 31 16 = 0 :=
  State.fd_fw _ _ _ (by decide) (by decide)
theorem State.rg_countCleared_other {a : Nat} (ha : a ≠ Lid.termStatus k) : (s.countCleared k).rg a = s.rg a :=
  (State.rg_fw ..).trans (if_neg ha)
theorem State.status_countCleared : (s.countCleared j).fd (Lid.termStatus k) 15 0 = s.fd (Lid.termStatus k) 15 0 :=
  (Leaves.fw (W := fun _ n => 16 ≤ n) (v := id) (.refl ..) fun _ h _ => h).fd fun n _ h => by omega
/-- A count that is cleared stays so. -/
theorem State.count_countCleared_keeps (h0 : s.fd (Lid.termStatus k) 31 16 = 0) :
    (s.countCleared j).fd (Lid.termStatus k) 31 16 = 0 := by
  by_cases e : k = j
  · exact e ▸ s.count_countCleared k
  · exact (congrArg (bits · 31 16) (s.rg_countCleared_other j (mt termStatus_inj.1 e))).trans h0
end

theorem lidClearCounts_completes (h : Half) (s : State) (hm : MayCmd s h 125) :
    Gives (.lidClearCounts h) s (fun t => SameMem s t ∧ t.deck = s.deck
      ∧ (∀ k, k < 512 → t.fd (Lid.termStatus k) 31 16 = 0 ∧ t.fd (Lid.termStatus k) 15 0 = s.fd (Lid.termStatus k) 15 0)
      ∧ SameRegs s t (fun a => ∃ k, k < 512 ∧ a = Lid.termStatus k)) := by
  have hex : exec (.lidClearCounts h) s = .next ((List.range 512).foldl State.countCleared s) :=
    congrArg Host.Outcome.next (State.deckCmd_of_mayCmd _ hm)
  refine ⟨_, hex, fun a => foldl_keeps (State.byte · a) _ _ s fun _ _ => rfl, foldl_keeps State.deck _ _ s fun _ _ => rfl,
    fun k hk => ⟨?_, foldl_keeps (State.fd · (Lid.termStatus k) 15 0) _ _ s fun t j => t.status_countCleared j k⟩, fun a ha => ?_⟩
  · exact foldl_establishes (p := fun _ => True) (Q := fun k t => State.fd t (Lid.termStatus k) 31 16 = 0)
      (fun t k _ => t.count_countCleared k) (fun t k j _ _ => t.count_countCleared_keeps j k) _ s (fun _ _ => trivial) k
      (List.mem_range.2 hk)
  · exact List.foldlRecOn (motive := fun t : State => t.rg a = s.rg a) _ State.countCleared rfl fun t ht k hk =>
      (t.rg_countCleared_other k fun e => ha ⟨k, List.mem_range.1 hk, e⟩).trans ht
theorem tokenBlockEnd_completes (s : State) (hd : s.deck.inReset = false) (ht : s.deck.lid.blockT + 15000000000 ≤ s.deck.ticks) :
    Gives .tokenBlockEnd s (fun t => t.bt Lid.lidStatus 4 = false
      ∧ t.deck.lid.failRun = 0 ∧ SameMem s t ∧ SameRegs s t (fun a => a = Lid.lidStatus)) := by
  refine ⟨_, congrArg Host.Outcome.next ((s.onDeck_out_of_reset _ hd).trans (if_neg (by omega))), ?_, rfl, fun a => rfl,
    fun a ha => ?_⟩
  · exact (congrArg (bit · 4) (State.rg_modDeck _ _ _ rfl)).trans (State.bt_sb _ _ _ (by decide))
  · exact (State.rg_modDeck _ _ _ rfl).trans ((State.rg_sb ..).trans (if_neg ha))

/-! ### All of them together -/

/-- Settles O23: the two steps of the reset arm and clear, and the other commands of Lid's configuration do as they say. -/
theorem lidResetAndConfigurationCommandsComplete : Obligations.LidResetAndConfigurationCommandsComplete := by
  unfold Obligations.LidResetAndConfigurationCommandsComplete
  intro may grps at'
  refine ⟨?_, ?_, fun k s => armWindowExpire_completes k s, fun s => lidCommit_completes s, fun h s => pwSet_completes h s,
    fun h s => lidClearCounts_completes h s, fun s => tokenBlockEnd_completes s⟩
  · rintro src h n ts s hm hd rfl hne
    exact lidResetArm_completes src h n s hm hd hne
  · rintro src h n ts s hm hd gs now good rfl hgood h3 hb
    exact lidResetConfirm_completes src h n s hm hd hgood h3 hb

end Sys2Proof.Machine
end
